-- ==== Sys2Proof/Word.lean ====
section
/-! DEFINITION. The word types of the Adieger and their plainest arithmetic.

`Word` is a 64-bit datum of a Spine slot or register, `VAddr` a 72-bit virtual address (00 R2). Keys of memory and of
sparse collections are natural numbers. -/

namespace Sys2Proof

/-- A byte of memory. -/
abbrev Byte := BitVec 8

/-- A 64-bit value: the contents of a register, an operand slot or a memory word. -/
abbrev Word := BitVec 64

/-- A 72-bit virtual address (00 R2). -/
abbrev VAddr := BitVec 72

/-- A Spine instruction word (07 R145). -/
abbrev IWord := BitVec 32

/-- A target field: slot and index (07 R142). -/
abbrev Target := BitVec 9

/-- The target field that names no target (07 R142). -/
abbrev noTarget : Target := 0x1FF#9

/-- 1 for true, 0 for false: the result of a test (09 R191). -/
def boolWord (b : Bool) : Word := if b then 1 else 0

/-- The low `n` bits of a natural number. -/
def low (x n : Nat) : Nat := x % 2 ^ n

/-- Bits [lo + len − 1 : lo] of a natural number. -/
def bits (x lo len : Nat) : Nat := x / 2 ^ lo % 2 ^ len

/-- Bit `i` of a natural number. -/
def bit (x i : Nat) : Bool := x / 2 ^ i % 2 == 1

/-- A sparse map: an association list read by its first match. `mapGet` gives `d` for a key that is not listed. -/
def mapGet {α : Type} (d : α) (k : Nat) : List (Nat × α) → α
  | [] => d
  | (j, a) :: m => if j == k then a else mapGet d k m

/-- The entry of key `k`, or none. -/
def mapFind {α : Type} (k : Nat) : List (Nat × α) → Option α
  | [] => none
  | (j, a) :: m => if j == k then some a else mapFind k m

/-- `m` with key `k` holding `a`; keys of a sorted map stay sorted. -/
def mapSet {α : Type} (k : Nat) (a : α) : List (Nat × α) → List (Nat × α)
  | [] => [(k, a)]
  | (j, b) :: m => if k == j then (k, a) :: m else if k < j then (k, a) :: (j, b) :: m else (j, b) :: mapSet k a m

/-- `m` without key `k`. -/
def mapDel {α : Type} (k : Nat) (m : List (Nat × α)) : List (Nat × α) := m.filter (fun e => !(e.1 == k))

/-- `xs` with the entry at position `i` replaced by its image; `xs` itself when it is shorter. -/
def listModify {α : Type} (f : α → α) : Nat → List α → List α
  | _, [] => []
  | 0, x :: xs => f x :: xs
  | i + 1, x :: xs => x :: listModify f i xs

/-- The entry at position `i`, or `d`. -/
def listGet {α : Type} (d : α) : Nat → List α → α
  | _, [] => d
  | 0, x :: _ => x
  | i + 1, _ :: xs => listGet d i xs

/-- `xs` without its entry at position `i`. -/
def listErase {α : Type} : Nat → List α → List α
  | _, [] => []
  | 0, _ :: xs => xs
  | i + 1, x :: xs => x :: listErase i xs

end Sys2Proof
end

