-- ==== Sys2Proof/Syntax.lean ====
section
/-! DEFINITION. The instructions and events of the Adieger: one constructor for each row of the operation table.

The first 231 constructors are Spine instructions (07 R145 to R151): their arguments are the fields of the 32-bit word
that the row leaves open. The last 101 are the events of the package (95): they have no encoding, and their arguments
say where the event happens. -/

namespace Sys2Proof

/-- A host access in views 1 to 3 of the presence aperture (23 R420): its offset in the view, its size in bytes, and in view 3 whether it is a
write. -/
structure Reach where
  offset : Nat
  size : Nat := 8
  write : Bool := false
  deriving DecidableEq, Repr

/-- The rows of the operation table. Argument names of encoded rows: `pr` predication (R146), `t1` `t0` targets (R142),
`imm` immediate (R147), `lsid` (R144), `exit` exit number, `rm` rounding mode, `lim` limit code (R150). -/
inductive Instr where
  /-- ADD (R185): Delivers (a + b) mod 2^64. -/
  | add (pr : BitVec 2) (t1 : BitVec 9) (t0 : BitVec 9)
  /-- SUB (R185): Delivers (a − b) mod 2^64. -/
  | sub (pr : BitVec 2) (t1 : BitVec 9) (t0 : BitVec 9)
  /-- AND (R185): Delivers the bitwise and of a and b. -/
  | and (pr : BitVec 2) (t1 : BitVec 9) (t0 : BitVec 9)
  /-- OR (R185): Delivers the bitwise or of a and b. -/
  | or (pr : BitVec 2) (t1 : BitVec 9) (t0 : BitVec 9)
  /-- XOR (R185): Delivers the bitwise exclusive or of a and b. -/
  | xor (pr : BitVec 2) (t1 : BitVec 9) (t0 : BitVec 9)
  /-- ANDN (R185): Delivers a and not b. -/
  | andn (pr : BitVec 2) (t1 : BitVec 9) (t0 : BitVec 9)
  /-- ORN (R185): Delivers a or not b. -/
  | orn (pr : BitVec 2) (t1 : BitVec 9) (t0 : BitVec 9)
  /-- XNOR (R185): Delivers the inverted exclusive or of a and b. -/
  | xnor (pr : BitVec 2) (t1 : BitVec 9) (t0 : BitVec 9)
  /-- SHL (R185): Shifts a left by b[5:0]. -/
  | shl (pr : BitVec 2) (t1 : BitVec 9) (t0 : BitVec 9)
  /-- SHR (R185): Shifts a logically right by b[5:0]. -/
  | shr (pr : BitVec 2) (t1 : BitVec 9) (t0 : BitVec 9)
  /-- SAR (R185): Shifts a arithmetically right by b[5:0]. -/
  | sar (pr : BitVec 2) (t1 : BitVec 9) (t0 : BitVec 9)
  /-- ROL (R185): Rotates a left by b[5:0]. -/
  | rol (pr : BitVec 2) (t1 : BitVec 9) (t0 : BitVec 9)
  /-- ROR (R185): Rotates a right by b[5:0]. -/
  | ror (pr : BitVec 2) (t1 : BitVec 9) (t0 : BitVec 9)
  /-- MIN (R185): Delivers the smaller of a and b as I64. -/
  | min (pr : BitVec 2) (t1 : BitVec 9) (t0 : BitVec 9)
  /-- MAX (R185): Delivers the larger of a and b as I64. -/
  | max (pr : BitVec 2) (t1 : BitVec 9) (t0 : BitVec 9)
  /-- MINU (R185): Delivers the smaller of a and b as N64. -/
  | minu (pr : BitVec 2) (t1 : BitVec 9) (t0 : BitVec 9)
  /-- MAXU (R185): Delivers the larger of a and b as N64. -/
  | maxu (pr : BitVec 2) (t1 : BitVec 9) (t0 : BitVec 9)
  /-- ADDW (R185): Delivers the 32-bit sum sign-extended to 64 bits. -/
  | addw (pr : BitVec 2) (t1 : BitVec 9) (t0 : BitVec 9)
  /-- SUBW (R185): Delivers the 32-bit difference sign-extended to 64 bits. -/
  | subw (pr : BitVec 2) (t1 : BitVec 9) (t0 : BitVec 9)
  /-- MUL (R186): Delivers the low 64 bits of a × b. -/
  | mul (pr : BitVec 2) (t1 : BitVec 9) (t0 : BitVec 9)
  /-- MULH (R186): Delivers bits [127:64] of the signed product. -/
  | mulh (pr : BitVec 2) (t1 : BitVec 9) (t0 : BitVec 9)
  /-- MULHU (R186): Delivers bits [127:64] of the unsigned product. -/
  | mulhu (pr : BitVec 2) (t1 : BitVec 9) (t0 : BitVec 9)
  /-- MULHSU (R186): Delivers bits [127:64] of signed a times unsigned b. -/
  | mulhsu (pr : BitVec 2) (t1 : BitVec 9) (t0 : BitVec 9)
  /-- DIV (R186): Delivers the signed quotient with the defined results for zero and overflow. -/
  | div (pr : BitVec 2) (t1 : BitVec 9) (t0 : BitVec 9)
  /-- DIVU (R186): Delivers the unsigned quotient. -/
  | divu (pr : BitVec 2) (t1 : BitVec 9) (t0 : BitVec 9)
  /-- REM (R186): Delivers the signed remainder. -/
  | rem (pr : BitVec 2) (t1 : BitVec 9) (t0 : BitVec 9)
  /-- REMU (R186): Delivers the unsigned remainder. -/
  | remu (pr : BitVec 2) (t1 : BitVec 9) (t0 : BitVec 9)
  /-- MULW (R186): Delivers the 32-bit product sign-extended. -/
  | mulw (pr : BitVec 2) (t1 : BitVec 9) (t0 : BitVec 9)
  /-- DIVW (R186): Delivers the signed 32-bit quotient sign-extended. -/
  | divw (pr : BitVec 2) (t1 : BitVec 9) (t0 : BitVec 9)
  /-- DIVUW (R186): Delivers the unsigned 32-bit quotient sign-extended. -/
  | divuw (pr : BitVec 2) (t1 : BitVec 9) (t0 : BitVec 9)
  /-- REMW (R186): Delivers the signed 32-bit remainder sign-extended. -/
  | remw (pr : BitVec 2) (t1 : BitVec 9) (t0 : BitVec 9)
  /-- REMUW (R186): Delivers the unsigned 32-bit remainder sign-extended. -/
  | remuw (pr : BitVec 2) (t1 : BitVec 9) (t0 : BitVec 9)
  /-- CLZ (R187): Counts leading zero bits of a. -/
  | clz (pr : BitVec 2) (t1 : BitVec 9) (t0 : BitVec 9)
  /-- CTZ (R187): Counts trailing zero bits of a. -/
  | ctz (pr : BitVec 2) (t1 : BitVec 9) (t0 : BitVec 9)
  /-- POPC (R187): Counts one bits of a. -/
  | popc (pr : BitVec 2) (t1 : BitVec 9) (t0 : BitVec 9)
  /-- BREV (R187): Reverses the bits of a. -/
  | brev (pr : BitVec 2) (t1 : BitVec 9) (t0 : BitVec 9)
  /-- BSWAP (R187): Reverses the bytes of a. -/
  | bswap (pr : BitVec 2) (t1 : BitVec 9) (t0 : BitVec 9)
  /-- SEXTB (R187): Sign-extends a[7:0]. -/
  | sextb (pr : BitVec 2) (t1 : BitVec 9) (t0 : BitVec 9)
  /-- SEXTH (R187): Sign-extends a[15:0]. -/
  | sexth (pr : BitVec 2) (t1 : BitVec 9) (t0 : BitVec 9)
  /-- SEXTW (R187): Sign-extends a[31:0]. -/
  | sextw (pr : BitVec 2) (t1 : BitVec 9) (t0 : BitVec 9)
  /-- ZEXTB (R187): Zero-extends a[7:0]. -/
  | zextb (pr : BitVec 2) (t1 : BitVec 9) (t0 : BitVec 9)
  /-- ZEXTH (R187): Zero-extends a[15:0]. -/
  | zexth (pr : BitVec 2) (t1 : BitVec 9) (t0 : BitVec 9)
  /-- ZEXTW (R187): Zero-extends a[31:0]. -/
  | zextw (pr : BitVec 2) (t1 : BitVec 9) (t0 : BitVec 9)
  /-- ADDI (R188): Adds the sign-extended immediate to a. -/
  | addi (pr : BitVec 2) (imm : BitVec 14) (t0 : BitVec 9)
  /-- ANDI (R188): Ands a with the sign-extended immediate. -/
  | andi (pr : BitVec 2) (imm : BitVec 14) (t0 : BitVec 9)
  /-- ORI (R188): Ors a with the sign-extended immediate. -/
  | ori (pr : BitVec 2) (imm : BitVec 14) (t0 : BitVec 9)
  /-- XORI (R188): Exclusive-ors a with the sign-extended immediate. -/
  | xori (pr : BitVec 2) (imm : BitVec 14) (t0 : BitVec 9)
  /-- SHLI (R188): Shifts a left by an immediate count. -/
  | shli (pr : BitVec 2) (cnt : BitVec 6) (t0 : BitVec 9)
  /-- SHRI (R188): Shifts a logically right by an immediate count. -/
  | shri (pr : BitVec 2) (cnt : BitVec 6) (t0 : BitVec 9)
  /-- SARI (R188): Shifts a arithmetically right by an immediate count. -/
  | sari (pr : BitVec 2) (cnt : BitVec 6) (t0 : BitVec 9)
  /-- MULI (R188): Multiplies a by the sign-extended immediate mod 2^64. -/
  | muli (pr : BitVec 2) (imm : BitVec 14) (t0 : BitVec 9)
  /-- EXT (R189): Extracts an unsigned bit field of a. -/
  | ext (pr : BitVec 2) (len : BitVec 6) (pos : BitVec 6) (t0 : BitVec 9)
  /-- EXTS (R189): Extracts a sign-extended bit field of a. -/
  | exts (pr : BitVec 2) (len : BitVec 6) (pos : BitVec 6) (t0 : BitVec 9)
  /-- INS (R189): Inserts field f into a at the given position and length. -/
  | ins (pr : BitVec 2) (len : BitVec 6) (pos : BitVec 6) (t0 : BitVec 9)
  /-- LEA1 (R190): Delivers a + b. -/
  | lea1 (pr : BitVec 2) (t1 : BitVec 9) (t0 : BitVec 9)
  /-- LEA2 (R190): Delivers a + (b << 1). -/
  | lea2 (pr : BitVec 2) (t1 : BitVec 9) (t0 : BitVec 9)
  /-- LEA4 (R190): Delivers a + (b << 2). -/
  | lea4 (pr : BitVec 2) (t1 : BitVec 9) (t0 : BitVec 9)
  /-- LEA8 (R190): Delivers a + (b << 3). -/
  | lea8 (pr : BitVec 2) (t1 : BitVec 9) (t0 : BitVec 9)
  /-- LEA16 (R190): Delivers a + (b << 4). -/
  | lea16 (pr : BitVec 2) (t1 : BitVec 9) (t0 : BitVec 9)
  /-- TEQ (R191): Delivers 1 if a = b, else 0. -/
  | teq (pr : BitVec 2) (t1 : BitVec 9) (t0 : BitVec 9)
  /-- TNE (R191): Delivers 1 if a ≠ b, else 0. -/
  | tne (pr : BitVec 2) (t1 : BitVec 9) (t0 : BitVec 9)
  /-- TLT (R191): Delivers 1 if a < b as I64. -/
  | tlt (pr : BitVec 2) (t1 : BitVec 9) (t0 : BitVec 9)
  /-- TLE (R191): Delivers 1 if a ≤ b as I64. -/
  | tle (pr : BitVec 2) (t1 : BitVec 9) (t0 : BitVec 9)
  /-- TGT (R191): Delivers 1 if a > b as I64. -/
  | tgt (pr : BitVec 2) (t1 : BitVec 9) (t0 : BitVec 9)
  /-- TGE (R191): Delivers 1 if a ≥ b as I64. -/
  | tge (pr : BitVec 2) (t1 : BitVec 9) (t0 : BitVec 9)
  /-- TLTU (R191): Delivers 1 if a < b as N64. -/
  | tltu (pr : BitVec 2) (t1 : BitVec 9) (t0 : BitVec 9)
  /-- TLEU (R191): Delivers 1 if a ≤ b as N64. -/
  | tleu (pr : BitVec 2) (t1 : BitVec 9) (t0 : BitVec 9)
  /-- TGTU (R191): Delivers 1 if a > b as N64. -/
  | tgtu (pr : BitVec 2) (t1 : BitVec 9) (t0 : BitVec 9)
  /-- TGEU (R191): Delivers 1 if a ≥ b as N64. -/
  | tgeu (pr : BitVec 2) (t1 : BitVec 9) (t0 : BitVec 9)
  /-- TBS (R191): Delivers 1 if bit b[5:0] of a is set. -/
  | tbs (pr : BitVec 2) (t1 : BitVec 9) (t0 : BitVec 9)
  /-- TBC (R191): Delivers 1 if bit b[5:0] of a is clear. -/
  | tbc (pr : BitVec 2) (t1 : BitVec 9) (t0 : BitVec 9)
  /-- TEQI (R192): Compares a with the immediate for equality. -/
  | teqi (pr : BitVec 2) (imm : BitVec 14) (t0 : BitVec 9)
  /-- TNEI (R192): Compares a with the immediate for inequality. -/
  | tnei (pr : BitVec 2) (imm : BitVec 14) (t0 : BitVec 9)
  /-- TLTI (R192): Delivers 1 if a < k as I64. -/
  | tlti (pr : BitVec 2) (imm : BitVec 14) (t0 : BitVec 9)
  /-- TLEI (R192): Delivers 1 if a ≤ k as I64. -/
  | tlei (pr : BitVec 2) (imm : BitVec 14) (t0 : BitVec 9)
  /-- TGTI (R192): Delivers 1 if a > k as I64. -/
  | tgti (pr : BitVec 2) (imm : BitVec 14) (t0 : BitVec 9)
  /-- TGEI (R192): Delivers 1 if a ≥ k as I64. -/
  | tgei (pr : BitVec 2) (imm : BitVec 14) (t0 : BitVec 9)
  /-- TLTUI (R192): Delivers 1 if a < k as N64. -/
  | tltui (pr : BitVec 2) (imm : BitVec 14) (t0 : BitVec 9)
  /-- TGEUI (R192): Delivers 1 if a ≥ k as N64. -/
  | tgeui (pr : BitVec 2) (imm : BitVec 14) (t0 : BitVec 9)
  /-- GENC (R193): Delivers the sign-extended 16-bit immediate at block start. -/
  | genc (imm : BitVec 16) (t0 : BitVec 9)
  /-- APPC (R193): Delivers (a << 16) | imm16 mod 2^64. -/
  | appc (imm : BitVec 16) (t0 : BitVec 9)
  /-- MOV (R194): Delivers a unchanged to both targets. -/
  | mov (pr : BitVec 2) (t1 : BitVec 9) (t0 : BitVec 9)
  /-- MOVI (R194): Delivers the sign-extended 14-bit immediate. -/
  | movi (pr : BitVec 2) (imm : BitVec 14) (t0 : BitVec 9)
  /-- NULL (R195): Delivers a null to its targets. -/
  | null (pr : BitVec 2) (t1 : BitVec 9) (t0 : BitVec 9)
  /-- BR (R197): Names the PC-relative target block as the next block. -/
  | br (pr : BitVec 2) (exit : BitVec 3) (off : BitVec 20)
  /-- CALL (R197): Branches PC-relative and writes the return block address to g2 at commit. -/
  | call (pr : BitVec 2) (exit : BitVec 3) (off : BitVec 20)
  /-- BADR (R199): Delivers a block address relative to this block. -/
  | badr (pr : BitVec 2) (imm : BitVec 14) (t0 : BitVec 9)
  /-- BRI (R198): Branches to the block address in a. -/
  | bri (pr : BitVec 2) (exit : BitVec 3)
  /-- CALLI (R198): Branches to the address in a and writes g2 at commit. -/
  | calli (pr : BitVec 2) (exit : BitVec 3)
  /-- RET (R198): Returns to the block address in a, as BRI. -/
  | ret (pr : BitVec 2) (exit : BitVec 3)
  /-- FADD_D (R203): FP64 addition rounded once. -/
  | faddD (pr : BitVec 2) (rm : BitVec 2) (t1 : BitVec 9) (t0 : BitVec 9)
  /-- FSUB_D (R203): FP64 subtraction rounded once. -/
  | fsubD (pr : BitVec 2) (rm : BitVec 2) (t1 : BitVec 9) (t0 : BitVec 9)
  /-- FMUL_D (R203): FP64 multiplication rounded once. -/
  | fmulD (pr : BitVec 2) (rm : BitVec 2) (t1 : BitVec 9) (t0 : BitVec 9)
  /-- FDIV_D (R203): FP64 division rounded once. -/
  | fdivD (pr : BitVec 2) (rm : BitVec 2) (t1 : BitVec 9) (t0 : BitVec 9)
  /-- FSQRT_D (R203): FP64 square root rounded once. -/
  | fsqrtD (pr : BitVec 2) (rm : BitVec 2) (t1 : BitVec 9) (t0 : BitVec 9)
  /-- FMA_D (R203): FP64 fused a × b + c. -/
  | fmaD (rm : BitVec 2) (t1 : BitVec 9) (t0 : BitVec 9)
  /-- FMS_D (R203): FP64 fused a × b − c. -/
  | fmsD (rm : BitVec 2) (t1 : BitVec 9) (t0 : BitVec 9)
  /-- FNMA_D (R203): FP64 fused −(a × b) + c. -/
  | fnmaD (rm : BitVec 2) (t1 : BitVec 9) (t0 : BitVec 9)
  /-- FADD_S (R203): FP32 addition rounded once. -/
  | faddS (pr : BitVec 2) (rm : BitVec 2) (t1 : BitVec 9) (t0 : BitVec 9)
  /-- FSUB_S (R203): FP32 subtraction rounded once. -/
  | fsubS (pr : BitVec 2) (rm : BitVec 2) (t1 : BitVec 9) (t0 : BitVec 9)
  /-- FMUL_S (R203): FP32 multiplication rounded once. -/
  | fmulS (pr : BitVec 2) (rm : BitVec 2) (t1 : BitVec 9) (t0 : BitVec 9)
  /-- FDIV_S (R203): FP32 division rounded once. -/
  | fdivS (pr : BitVec 2) (rm : BitVec 2) (t1 : BitVec 9) (t0 : BitVec 9)
  /-- FSQRT_S (R203): FP32 square root rounded once. -/
  | fsqrtS (pr : BitVec 2) (rm : BitVec 2) (t1 : BitVec 9) (t0 : BitVec 9)
  /-- FMA_S (R203): FP32 fused a × b + c. -/
  | fmaS (rm : BitVec 2) (t1 : BitVec 9) (t0 : BitVec 9)
  /-- FMS_S (R203): FP32 fused a × b − c. -/
  | fmsS (rm : BitVec 2) (t1 : BitVec 9) (t0 : BitVec 9)
  /-- FNMA_S (R203): FP32 fused −(a × b) + c. -/
  | fnmaS (rm : BitVec 2) (t1 : BitVec 9) (t0 : BitVec 9)
  /-- FMIN (R205): Delivers the lesser FP value, width by xop[4]. -/
  | fmin (pr : BitVec 2) (wid : BitVec 1) (t1 : BitVec 9) (t0 : BitVec 9)
  /-- FMAX (R205): Delivers the greater FP value, width by xop[4]. -/
  | fmax (pr : BitVec 2) (wid : BitVec 1) (t1 : BitVec 9) (t0 : BitVec 9)
  /-- FNEG (R205): Inverts the sign bit. -/
  | fneg (pr : BitVec 2) (wid : BitVec 1) (t1 : BitVec 9) (t0 : BitVec 9)
  /-- FABS (R205): Clears the sign bit. -/
  | fabs (pr : BitVec 2) (wid : BitVec 1) (t1 : BitVec 9) (t0 : BitVec 9)
  /-- FCPYS (R205): Delivers the magnitude of a with the sign of b. -/
  | fcpys (pr : BitVec 2) (wid : BitVec 1) (t1 : BitVec 9) (t0 : BitVec 9)
  /-- FCLASS (R205): Delivers a one-hot class of a. -/
  | fclass (pr : BitVec 2) (wid : BitVec 1) (t1 : BitVec 9) (t0 : BitVec 9)
  /-- FTEQ (R206): FP equality compare. -/
  | fteq (pr : BitVec 2) (wid : BitVec 1) (t1 : BitVec 9) (t0 : BitVec 9)
  /-- FTLT (R206): FP less-than compare. -/
  | ftlt (pr : BitVec 2) (wid : BitVec 1) (t1 : BitVec 9) (t0 : BitVec 9)
  /-- FTLE (R206): FP less-or-equal compare. -/
  | ftle (pr : BitVec 2) (wid : BitVec 1) (t1 : BitVec 9) (t0 : BitVec 9)
  /-- FTUN (R206): FP unordered test. -/
  | ftun (pr : BitVec 2) (wid : BitVec 1) (t1 : BitVec 9) (t0 : BitVec 9)
  /-- FCVT_D_S (R207): Converts FP32 to FP64 exactly. -/
  | fcvtDS (pr : BitVec 2) (t1 : BitVec 9) (t0 : BitVec 9)
  /-- FCVT_S_D (R207): Converts FP64 to FP32. -/
  | fcvtSD (pr : BitVec 2) (rm : BitVec 2) (t1 : BitVec 9) (t0 : BitVec 9)
  /-- FCVT_D_I (R207): Converts I64 to FP64. -/
  | fcvtDI (pr : BitVec 2) (rm : BitVec 2) (t1 : BitVec 9) (t0 : BitVec 9)
  /-- FCVT_D_N (R207): Converts N64 to FP64. -/
  | fcvtDN (pr : BitVec 2) (rm : BitVec 2) (t1 : BitVec 9) (t0 : BitVec 9)
  /-- FCVT_I_D (R207): Converts FP64 to I64 with saturation. -/
  | fcvtID (pr : BitVec 2) (rm : BitVec 2) (t1 : BitVec 9) (t0 : BitVec 9)
  /-- FCVT_N_D (R207): Converts FP64 to N64 with saturation. -/
  | fcvtND (pr : BitVec 2) (rm : BitVec 2) (t1 : BitVec 9) (t0 : BitVec 9)
  /-- FCVT_S_I (R207): Converts I64 to FP32. -/
  | fcvtSI (pr : BitVec 2) (rm : BitVec 2) (t1 : BitVec 9) (t0 : BitVec 9)
  /-- FCVT_I_S (R207): Converts FP32 to I64 with saturation. -/
  | fcvtIS (pr : BitVec 2) (rm : BitVec 2) (t1 : BitVec 9) (t0 : BitVec 9)
  /-- LD1 (R216): Plain load of one byte, zero-extended. -/
  | ld1 (pr : BitVec 2) (lsid : BitVec 5) (imm : BitVec 9) (t0 : BitVec 9)
  /-- LD1S (R216): Plain load of one byte, sign-extended. -/
  | ld1s (pr : BitVec 2) (lsid : BitVec 5) (imm : BitVec 9) (t0 : BitVec 9)
  /-- LD2 (R216): Plain load of 16 bits, zero-extended. -/
  | ld2 (pr : BitVec 2) (lsid : BitVec 5) (imm : BitVec 9) (t0 : BitVec 9)
  /-- LD2S (R216): Plain load of 16 bits, sign-extended. -/
  | ld2s (pr : BitVec 2) (lsid : BitVec 5) (imm : BitVec 9) (t0 : BitVec 9)
  /-- LD4 (R216): Plain load of 32 bits, zero-extended. -/
  | ld4 (pr : BitVec 2) (lsid : BitVec 5) (imm : BitVec 9) (t0 : BitVec 9)
  /-- LD4S (R216): Plain load of 32 bits, sign-extended. -/
  | ld4s (pr : BitVec 2) (lsid : BitVec 5) (imm : BitVec 9) (t0 : BitVec 9)
  /-- LD8 (R216): Plain load of a word. -/
  | ld8 (pr : BitVec 2) (lsid : BitVec 5) (imm : BitVec 9) (t0 : BitVec 9)
  /-- TSTFE (R216): Delivers 1 if the word is FULL, 0 if EMPTY. -/
  | tstfe (pr : BitVec 2) (lsid : BitVec 5) (imm : BitVec 9) (t0 : BitVec 9)
  /-- LDW1 (R216): Waiting load of one byte. -/
  | ldw1 (pr : BitVec 2) (lsid : BitVec 5) (imm : BitVec 9) (t0 : BitVec 9)
  /-- LDW2 (R216): Waiting load of 16 bits. -/
  | ldw2 (pr : BitVec 2) (lsid : BitVec 5) (imm : BitVec 9) (t0 : BitVec 9)
  /-- LDW4 (R216): Waiting load of 32 bits. -/
  | ldw4 (pr : BitVec 2) (lsid : BitVec 5) (imm : BitVec 9) (t0 : BitVec 9)
  /-- LDW8 (R216): Waiting load of a word. -/
  | ldw8 (pr : BitVec 2) (lsid : BitVec 5) (imm : BitVec 9) (t0 : BitVec 9)
  /-- LDC1 (R216): Consuming load of one byte; sets the word EMPTY at commit. -/
  | ldc1 (pr : BitVec 2) (lsid : BitVec 5) (imm : BitVec 9) (t0 : BitVec 9)
  /-- LDC2 (R216): Consuming load of 16 bits. -/
  | ldc2 (pr : BitVec 2) (lsid : BitVec 5) (imm : BitVec 9) (t0 : BitVec 9)
  /-- LDC4 (R216): Consuming load of 32 bits. -/
  | ldc4 (pr : BitVec 2) (lsid : BitVec 5) (imm : BitVec 9) (t0 : BitVec 9)
  /-- LDC8 (R216): Consuming load of a word. -/
  | ldc8 (pr : BitVec 2) (lsid : BitVec 5) (imm : BitVec 9) (t0 : BitVec 9)
  /-- ST1 (R217): Plain store of one byte at commit. -/
  | st1 (pr : BitVec 2) (lsid : BitVec 5) (imm : BitVec 18)
  /-- ST2 (R217): Plain store of 16 bits at commit. -/
  | st2 (pr : BitVec 2) (lsid : BitVec 5) (imm : BitVec 18)
  /-- ST4 (R217): Plain store of 32 bits at commit. -/
  | st4 (pr : BitVec 2) (lsid : BitVec 5) (imm : BitVec 18)
  /-- ST8 (R217): Plain store of a word at commit. -/
  | st8 (pr : BitVec 2) (lsid : BitVec 5) (imm : BitVec 18)
  /-- STF1 (R217): Filling store of one byte: waits for EMPTY, sets FULL at commit. -/
  | stf1 (pr : BitVec 2) (lsid : BitVec 5) (imm : BitVec 18)
  /-- STF2 (R217): Filling store of 16 bits. -/
  | stf2 (pr : BitVec 2) (lsid : BitVec 5) (imm : BitVec 18)
  /-- STF4 (R217): Filling store of 32 bits. -/
  | stf4 (pr : BitVec 2) (lsid : BitVec 5) (imm : BitVec 18)
  /-- STF8 (R217): Filling store of a word. -/
  | stf8 (pr : BitVec 2) (lsid : BitVec 5) (imm : BitVec 18)
  /-- STE1 (R217): Clearing store of one byte, sets EMPTY at commit. -/
  | ste1 (pr : BitVec 2) (lsid : BitVec 5) (imm : BitVec 18)
  /-- STE2 (R217): Clearing store of 16 bits. -/
  | ste2 (pr : BitVec 2) (lsid : BitVec 5) (imm : BitVec 18)
  /-- STE4 (R217): Clearing store of 32 bits. -/
  | ste4 (pr : BitVec 2) (lsid : BitVec 5) (imm : BitVec 18)
  /-- STE8 (R217): Clearing store of a word. -/
  | ste8 (pr : BitVec 2) (lsid : BitVec 5) (imm : BitVec 18)
  /-- AMO (R218): Claims a word, delivers its old value and writes old op v at commit. -/
  | amo (pr : BitVec 2) (lsid : BitVec 5) (aop : BitVec 5) (wid : BitVec 1) (t0 : BitVec 9)
  /-- CAS (R219): Claims a word, delivers old, and writes new at commit if old equals expected. -/
  | cas (lsid : BitVec 5) (wid : BitVec 1) (t0 : BitVec 9)
  /-- RED (R220): Sends a non-returning update to the word's home at commit. -/
  | red (pr : BitVec 2) (lsid : BitVec 5) (aop : BitVec 5) (wid : BitVec 1)
  /-- FENCE (R222): Holds later accesses until committed accesses have performed at the scope. -/
  | fence (pr : BitVec 2) (scope : BitVec 3)
  /-- QPUSH (R228): Reads a record, claims queue capacity, and places the record at commit. -/
  | qpush (pr : BitVec 2) (lim : BitVec 5)
  /-- QPOP (R228): Claims the oldest unclaimed record, delivers its sequence number and writes it at commit. -/
  | qpop (pr : BitVec 2) (lim : BitVec 5) (t1 : BitVec 9) (t0 : BitVec 9)
  /-- QPEEK (R229): Delivers and copies the oldest unclaimed record without claiming it. -/
  | qpeek (pr : BitVec 2) (t1 : BitVec 9) (t0 : BitVec 9)
  /-- QSTAT (R230): Delivers the queue state word. -/
  | qstat (pr : BitVec 2) (t1 : BitVec 9) (t0 : BitVec 9)
  /-- QCFG (R227): Enables or disables a queue from a descriptor and delivers a status. -/
  | qcfg (pr : BitVec 2) (t1 : BitVec 9) (t0 : BitVec 9)
  /-- CQPOP (R232): Claims the head record of the die combining queue for its ASID. -/
  | cqpop (pr : BitVec 2) (lim : BitVec 5) (t1 : BitVec 9) (t0 : BitVec 9)
  /-- CQPUSH (R232): Appends a record to the die combining queue at commit. -/
  | cqpush (pr : BitVec 2) (lim : BitVec 5)
  /-- WAIT (R233): Polls a word until it is in the named state, then delivers its data. -/
  | wait (pr : BitVec 2) (full : BitVec 1) (lim : BitVec 5) (t0 : BitVec 9)
  /-- MFS (R235): Delivers a special register's value. -/
  | mfs (pr : BitVec 2) (id : BitVec 12) (t0 : BitVec 9)
  /-- MTS (R235): Writes a special register at commit. -/
  | mts (pr : BitVec 2) (id : BitVec 12)
  /-- TRAP (R236): Traps TRAP_INSN with its code. -/
  | trap (pr : BitVec 2) (code : BitVec 14)
  /-- ERET (R237): Returns from firmware to S_EPC in the saved mode at commit. -/
  | eret (pr : BitVec 2)
  /-- HALT (R237): Halts the context at commit. -/
  | halt (pr : BitVec 2)
  /-- PAUSE (R234): Delivers 0 after n × 16 clk. -/
  | pause (pr : BitVec 2) (units : BitVec 14) (t0 : BitVec 9)
  /-- RSEED (R238): Takes fresh entropy and logs it, or reads the logged seed in deterministic mode. -/
  | rseed (pr : BitVec 2) (t1 : BitVec 9) (t0 : BitVec 9)
  /-- RNEXT (R239): Delivers a Philox4x32-10 value from a, S_RKEY and S_RSTREAM. -/
  | rnext (pr : BitVec 2) (t1 : BitVec 9) (t0 : BitVec 9)
  /-- SPAWNC (R240): Claims an idle or halted context and starts it at commit. -/
  | spawnc (pr : BitVec 2) (t1 : BitVec 9) (t0 : BitVec 9)
  /-- CFGLD (R312): Checks and stages a Fingaette image into the shadow plane. -/
  | cfgld (pr : BitVec 2) (t1 : BitVec 9) (t0 : BitVec 9)
  /-- CFGSTRM (R313): Stages n configuration commands from memory as one stream. -/
  | cfgstrm (pr : BitVec 2) (t1 : BitVec 9) (t0 : BitVec 9)
  /-- CFGSW (R314): Waits for the kettle and exchanges the planes at commit. -/
  | cfgsw (pr : BitVec 2) (t1 : BitVec 9) (t0 : BitVec 9)
  /-- CFGABORT (R315): Undoes staging and rolls back the last switch where allowed. -/
  | cfgabort (pr : BitVec 2) (t1 : BitVec 9) (t0 : BitVec 9)
  /-- ARM (R316): Makes n armings of the active plane at commit. -/
  | arm (pr : BitVec 2) (t1 : BitVec 9) (t0 : BitVec 9)
  /-- DRAIN (R317): Injects a new kettle at commit. -/
  | drain (pr : BitVec 2) (t1 : BitVec 9) (t0 : BitVec 9)
  /-- INJECT (R318): Stages or sends a flit to an element's CTL input. -/
  | inject (pr : BitVec 2)
  /-- SINKRD (R319): Reads an element or region status register. -/
  | sinkrd (pr : BitVec 2) (t1 : BitVec 9) (t0 : BitVec 9)
  /-- KWAIT (R317): Waits until the latest kettle has reached every sink and delivers its number. -/
  | kwait (pr : BitVec 2) (lim : BitVec 5) (t1 : BitVec 9) (t0 : BitVec 9)
  /-- CPY (R346): Issues a bulk copy in the named presence mode. -/
  | cpy (pr : BitVec 2) (mode : BitVec 2)
  /-- CPYFE_OUT (R349): Copies presence bits from memory to a bit array. -/
  | cpyfeOut (pr : BitVec 2)
  /-- CPYFE_IN (R349): Sets presence bits of memory from a bit array. -/
  | cpyfeIn (pr : BitVec 2)
  /-- IMPOSE (R350): Issues a key count to the Imposer, which patches held commands. -/
  | impose (pr : BitVec 2)
  /-- IMPREL (R351): Releases the held commands of a group at commit. -/
  | imprel (pr : BitVec 2)
  /-- ALLOC_T (R353): Allocates a block from a pool, trapping on exhaustion. -/
  | allocT (pr : BitVec 2) (t1 : BitVec 9) (t0 : BitVec 9)
  /-- ALLOC_N (R353): Allocates a block from a pool, delivering 0 on exhaustion. -/
  | allocN (pr : BitVec 2) (t1 : BitVec 9) (t0 : BitVec 9)
  /-- FREE (R354): Pushes a block onto its class list at commit. -/
  | free (pr : BitVec 2)
  /-- POOLGROW (R355): Replaces a pool's chunk at commit. -/
  | poolgrow (pr : BitVec 2)
  /-- CWPROBE (R358): Looks up a catchword key and writes the entry at commit if present. -/
  | cwprobe (pr : BitVec 2) (t1 : BitVec 9) (t0 : BitVec 9)
  /-- CWSTORE (R359): Records a catchword entry at commit, evicting if needed. -/
  | cwstore (pr : BitVec 2)
  /-- CWINV (R359): Removes a catchword entry or every entry of a graph at commit. -/
  | cwinv (pr : BitVec 2)
  /-- DGST (R360): Issues a CRC-64 digest of a memory range with presence bits. -/
  | dgst (pr : BitVec 2)
  /-- WCFG (R337): Installs a wide-unit stage program from a descriptor. -/
  | wcfg (pr : BitVec 2)
  /-- WRUN (R338): Starts a streamed wide-unit run over stash streams. -/
  | wrun (pr : BitVec 2)
  /-- WLD (R334): Loads masked lanes of a wide register with plain loads. -/
  | wld (pr : BitVec 2) (wd : BitVec 5) (km : BitVec 3)
  /-- WST (R334): Stores masked lanes of a wide register with plain stores. -/
  | wst (pr : BitVec 2) (wd : BitVec 5) (km : BitVec 3)
  /-- WMOV_D (R331): Copies wa to wd in masked lanes. -/
  | wmovD (pr : BitVec 2) (wd : BitVec 5) (wa : BitVec 5) (km : BitVec 3)
  /-- WADD_D (R331): FP64 lane addition. -/
  | waddD (pr : BitVec 2) (wd : BitVec 5) (wa : BitVec 5) (wb : BitVec 5) (km : BitVec 3)
  /-- WMUL_D (R331): FP64 lane multiplication. -/
  | wmulD (pr : BitVec 2) (wd : BitVec 5) (wa : BitVec 5) (wb : BitVec 5) (km : BitVec 3)
  /-- WFMA_D (R331): FP64 lane fused multiply-add into wd. -/
  | wfmaD (pr : BitVec 2) (wd : BitVec 5) (wa : BitVec 5) (wb : BitVec 5) (km : BitVec 3)
  /-- WMIN_D (R331): FP64 lane minimum. -/
  | wminD (pr : BitVec 2) (wd : BitVec 5) (wa : BitVec 5) (wb : BitVec 5) (km : BitVec 3)
  /-- WMAX_D (R331): FP64 lane maximum. -/
  | wmaxD (pr : BitVec 2) (wd : BitVec 5) (wa : BitVec 5) (wb : BitVec 5) (km : BitVec 3)
  /-- WCMP_D (R332): FP64 lane compare into a mask register. -/
  | wcmpD (pr : BitVec 2) (cond : BitVec 2) (kd : BitVec 3) (wa : BitVec 5) (wb : BitVec 5) (km : BitVec 3)
  /-- WSEL_D (R331): Selects wa or wb per lane by the mask. -/
  | wselD (pr : BitVec 2) (wd : BitVec 5) (wa : BitVec 5) (wb : BitVec 5) (km : BitVec 3)
  /-- WCVT_D (R333): Converts lanes by the FP64-side conversion kind. -/
  | wcvtD (pr : BitVec 2) (wd : BitVec 5) (wa : BitVec 5) (kind : BitVec 5) (km : BitVec 3)
  /-- WRED_D (R335): Reduces masked FP64 lanes by a fixed tree into lane 0. -/
  | wredD (pr : BitVec 2) (wd : BitVec 5) (wa : BitVec 5) (rop : BitVec 2) (km : BitVec 3)
  /-- WVAR_D (R336): Computes the variance of masked FP64 lanes into lane 0. -/
  | wvarD (pr : BitVec 2) (wd : BitVec 5) (wa : BitVec 5) (opt : BitVec 1) (km : BitVec 3)
  /-- WSHUF_D (R331): Permutes lanes of wa by indices in wb. -/
  | wshufD (pr : BitVec 2) (wd : BitVec 5) (wa : BitVec 5) (wb : BitVec 5) (km : BitVec 3)
  /-- WMOV_S (R331): Copies wa to wd in masked lanes. -/
  | wmovS (pr : BitVec 2) (wd : BitVec 5) (wa : BitVec 5) (km : BitVec 3)
  /-- WADD_S (R331): FP32 lane addition. -/
  | waddS (pr : BitVec 2) (wd : BitVec 5) (wa : BitVec 5) (wb : BitVec 5) (km : BitVec 3)
  /-- WMUL_S (R331): FP32 lane multiplication. -/
  | wmulS (pr : BitVec 2) (wd : BitVec 5) (wa : BitVec 5) (wb : BitVec 5) (km : BitVec 3)
  /-- WFMA_S (R331): FP32 lane fused multiply-add into wd. -/
  | wfmaS (pr : BitVec 2) (wd : BitVec 5) (wa : BitVec 5) (wb : BitVec 5) (km : BitVec 3)
  /-- WMIN_S (R331): FP32 lane minimum. -/
  | wminS (pr : BitVec 2) (wd : BitVec 5) (wa : BitVec 5) (wb : BitVec 5) (km : BitVec 3)
  /-- WMAX_S (R331): FP32 lane maximum. -/
  | wmaxS (pr : BitVec 2) (wd : BitVec 5) (wa : BitVec 5) (wb : BitVec 5) (km : BitVec 3)
  /-- WCMP_S (R332): FP32 lane compare into a mask register. -/
  | wcmpS (pr : BitVec 2) (cond : BitVec 2) (kd : BitVec 3) (wa : BitVec 5) (wb : BitVec 5) (km : BitVec 3)
  /-- WSEL_S (R331): Selects wa or wb per lane by the mask. -/
  | wselS (pr : BitVec 2) (wd : BitVec 5) (wa : BitVec 5) (wb : BitVec 5) (km : BitVec 3)
  /-- WCVT_S (R333): Converts lanes by the FP32-side conversion kind. -/
  | wcvtS (pr : BitVec 2) (wd : BitVec 5) (wa : BitVec 5) (kind : BitVec 5) (km : BitVec 3)
  /-- WRED_S (R335): Reduces masked FP32 lanes by a fixed tree into lane 0. -/
  | wredS (pr : BitVec 2) (wd : BitVec 5) (wa : BitVec 5) (rop : BitVec 2) (km : BitVec 3)
  /-- WVAR_S (R336): Computes the variance of masked FP32 lanes into lane 0. -/
  | wvarS (pr : BitVec 2) (wd : BitVec 5) (wa : BitVec 5) (opt : BitVec 1) (km : BitVec 3)
  /-- WSHUF_S (R331): Permutes lanes of wa by indices in wb. -/
  | wshufS (pr : BitVec 2) (wd : BitVec 5) (wa : BitVec 5) (wb : BitVec 5) (km : BitVec 3)
  /-- XACC (R340): Adds the exact sum of masked FP64 lane products to an accumulator. -/
  | xacc (pr : BitVec 2) (xd : BitVec 2) (wa : BitVec 5) (wb : BitVec 5) (ksel : BitVec 3)
  /-- XADD (R340): Adds one accumulator to another exactly. -/
  | xadd (pr : BitVec 2) (xd : BitVec 2) (xs : BitVec 2)
  /-- XCLR (R340): Clears an accumulator. -/
  | xclr (pr : BitVec 2) (xd : BitVec 2)
  /-- XMOV (R340): Copies one accumulator to another. -/
  | xmov (pr : BitVec 2) (xd : BitVec 2) (xs : BitVec 2)
  /-- XST (R340): Stores an accumulator as 69 words. -/
  | xst (pr : BitVec 2) (xs : BitVec 2)
  /-- XLD (R340): Loads an accumulator from 69 words. -/
  | xld (pr : BitVec 2) (xd : BitVec 2)
  /-- XSGN (R341): Delivers the exact sign of an accumulator. -/
  | xsgn (pr : BitVec 2) (acc : BitVec 2) (t1 : BitVec 9) (t0 : BitVec 9)
  /-- XRND (R341): Delivers an accumulator rounded once to FP64. -/
  | xrnd (pr : BitVec 2) (rm : BitVec 2) (acc : BitVec 2) (t1 : BitVec 9) (t0 : BitVec 9)
  /-- event BLOCK_FETCH (R153): A ready context's next block is fetched, translated and checked before any instruction fires. -/
  | blockFetch (tile : Nat) (ctx : Nat)
  /-- event RESULT_DELIVERY (R208): A fired instruction delivers its result to its targets after its latency. -/
  | resultDelivery (tile : Nat) (ctx : Nat) (k : Nat)
  /-- event BLOCK_END (R180): A block ends when nothing more can fire, and commits or traps. -/
  | blockEnd (tile : Nat) (ctx : Nat)
  /-- event WAIT_RETRY (R101): A waiting Spine access retries after its backoff and may park or trap FE_BUDGET on exhaustion. -/
  | waitRetry (tile : Nat) (ctx : Nat) (idx : Nat)
  /-- event RESERVATION_EXPIRE (R106): A word reservation lapses after 4,096 clk of the home die. -/
  | reservationExpire (word : Nat)
  /-- event CLAIM_WAIT_END (R213): A write held back by another party's claim proceeds when the claim ends. -/
  | claimWaitEnd (tile : Nat) (ctx : Nat) (idx : Nat)
  /-- event QUEUE_WAIT_RETRY (R228): A waiting QPUSH, QPOP, CQPUSH or CQPOP retries every 16 clk. -/
  | queueWaitRetry (tile : Nat) (ctx : Nat) (idx : Nat)
  /-- event QTIMEOUT (R228): A queue instruction's limit expires and it traps QTIMEOUT. -/
  | qtimeout (tile : Nat) (ctx : Nat) (idx : Nat)
  /-- event CQ_COMBINE (R385): Each clk the die's combining-queue pops and pushes are combined at cluster nodes and a root. -/
  | cqCombine (die : Nat)
  /-- event WAIT_POLL (R233): WAIT tests its word every 16 clk. -/
  | waitPoll (tile : Nat) (ctx : Nat) (idx : Nat)
  /-- event WAIT_TIMEOUT (R233): WAIT's limit expires and it traps WAIT_TIMEOUT. -/
  | waitTimeout (tile : Nat) (ctx : Nat) (idx : Nat)
  /-- event PAUSE_DONE (R234): The PAUSE interval ends and its 0 is delivered. -/
  | pauseDone (tile : Nat) (ctx : Nat) (idx : Nat)
  /-- event KWAIT_DONE (R317): The latest kettle reaches every sink and KWAIT delivers its number. -/
  | kwaitDone (tile : Nat) (ctx : Nat) (idx : Nat)
  /-- event KWAIT_LIMIT_EXPIRE (R317): KWAIT's limit expires and it traps WAIT_TIMEOUT. -/
  | kwaitLimitExpire (tile : Nat) (ctx : Nat) (idx : Nat)
  /-- event CFGSW_DRAIN_DONE (R314): A waiting CFGSW finds the kettle drained, discards stranded operands and delivers the phase. -/
  | cfgswDrainDone (tile : Nat) (ctx : Nat) (idx : Nat)
  /-- event STAGING_CLAIM_WAIT_END (R311): A configuration instruction waiting for the region's staging claim takes it. -/
  | stagingClaimWaitEnd (tile : Nat) (ctx : Nat) (idx : Nat)
  /-- event INJECT_SLOT_RETRY (R318): An INJECT waiting for a free CTL slot retries and traps FE_BUDGET on exhaustion. -/
  | injectSlotRetry (tile : Nat) (ctx : Nat) (idx : Nat)
  /-- event WIDE_APPLY (R325): The wide unit applies the next queued instruction. -/
  | wideApply (tile : Nat)
  /-- event WRUN_ITERATION (R339): One iteration of a streamed run enters the stages and writes its output. -/
  | wrunIteration (tile : Nat)
  /-- event ELEMENT_FIRE (R243): In a clk the slot at an element's context counter fires one step of its operation. -/
  | elementFire (tile : Nat) (elem : Nat) (more : List (Nat × Nat))
  /-- event KILL_ARRIVE (R266): A kill reaches the producer and marks its route dead for that stream. -/
  | killArrive (tile : Nat) (elem : Nat) (slot : Nat) (port : Nat)
  /-- event KILL_DISCARD (R244): A dead input port discards one flit per clk without firing. -/
  | killDiscard (tile : Nat) (elem : Nat) (slot : Nat) (port : Nat)
  /-- event LUTF_DIGIT (R258): A LUTF element's 4-clk busy period ends and its next digit may follow. -/
  | lutfDigit (tile : Nat) (elem : Nat)
  /-- event ME_STEP_DONE (R273): An ME step's array clk elapse and the held sums settle 24 clk after the last step. -/
  | meStepDone (tile : Nat) (elem : Nat)
  /-- event SP_REPRESENT (R292): A stream port re-presents a waiting presence access every 16 clk. -/
  | spRepresent (tile : Nat) (elem : Nat) (slot : Nat)
  /-- event FE_TIMEOUT (R102): A stream port's cycle limit expires and it raises FE_TIMEOUT. -/
  | feTimeout (tile : Nat) (elem : Nat) (slot : Nat)
  /-- event EXTENT_FETCH (R115): A paused generator takes its next extents from the walker and resumes. -/
  | extentFetch (tile : Nat) (elem : Nat) (slot : Nat)
  /-- event SPILL_RETRY (R117): A spilled entry is retried once the walker can translate it. -/
  | spillRetry (tile : Nat) (elem : Nat) (ok : Bool)
  /-- event GAPPLY_TOKEN (R285): A gather or scatter token arriving at a bank is applied and replied to. -/
  | gapplyToken (k : Nat)
  /-- event TOKEN_REPLY (R293): A reply token returns to the requesting GATH or returning port. -/
  | tokenReply (k : Nat)
  /-- event REGION_ERROR (R399): The oldest region error record is delivered to the main context as a trap. -/
  | regionError (region : Nat)
  /-- event INVALIDATION (R116): An invalidation drops TLB entries, repatches generators and returns stash lines. -/
  | invalidation (asid : Nat) (all : Bool) (va : Nat) (len : Nat)
  /-- event Q_TAIL_WRITE (R363): The host rings a queue doorbell with a new TAIL. -/
  | qTailWrite (queue : Nat) (value : BitVec 64)
  /-- event Q_CTL_WRITE (R363): A write to Q_CTL enables a queue, resetting HEAD and TAIL, or disables it. -/
  | qCtlWrite (queue : Nat) (value : BitVec 64)
  /-- event REGISTER_WRITE (R12): A write to a register without behaviour of its own updates its fields by access code. -/
  | registerWrite (ctl : Bool) (addr : Nat) (value : BitVec 64)
  /-- event SUBMISSION_TAKE (R364): The Sequencer reads a submission entry whole, snapshots its patches and advances HEAD. -/
  | submissionTake (die : Nat)
  /-- event REPLAY_START (R367): A replay resets its nodes, applies patches and readies the root nodes. -/
  | replayStart (die : Nat)
  /-- event REPLAY_END (R367): With nothing ready or running, the replay fills events and COMP and starts the next. -/
  | replayEnd (replay : Nat)
  /-- event NODE_FINISH (R370): A node finishes and decrements its successors, or fails the graph. -/
  | nodeFinish (replay : Nat) (node : Nat)
  /-- event TASK_PLACE (R44): The Sequencer places a ready task on a matching footprint and loads plane A. -/
  | taskPlace (die : Nat)
  /-- event TASK_RETIRE (R29): A task whose contexts have halted and armings drained retires and frees its region. -/
  | taskRetire (region : Nat)
  /-- event INDIRECT_COUNT_READ (R375): The Sequencer retries the count word of an INDIRECT task every 16 clk. -/
  | indirectCountRead (replay : Nat) (node : Nat)
  /-- event LAUNCH_COUNT (R375): An INDIRECT count wait expires or exceeds 65,535 and the node fails. -/
  | launchCount (replay : Nat) (node : Nat)
  /-- event COND_PREDICATE_READ (R378): A COND node reads its predicate and takes one successor list. -/
  | condPredicateRead (replay : Nat) (node : Nat)
  /-- event LOOP_ITERATION (R379): A LOOP reads its predicate and runs or ends another body iteration. -/
  | loopIteration (replay : Nat) (node : Nat)
  /-- event NODE_WAIT_TIMEOUT (R378): A COND, LOOP or STEPSYNC wait limit expires and the node fails with WAIT_TIMEOUT. -/
  | nodeWaitTimeout (replay : Nat) (node : Nat)
  /-- event STEPSYNC_MESSAGE (R387): A peer step message arrives and is compared, or held for its own step. -/
  | stepsyncMessage (link : Nat) (graphid : Nat) (step : Nat) (digest : Nat)
  /-- event CW_DECIDE (R390): After the probe plane drains the node skips on a match or starts its body. -/
  | cwDecide (region : Nat)
  /-- event COPY_COMPLETE (R344): A bulk copy or CPYFE ends and fills its completion word. -/
  | copyComplete (k : Nat) (n : Nat)
  /-- event COMPLETION_WRITE (R344): A waiting engine completion store proceeds once its word is EMPTY. -/
  | completionWrite (k : Nat) (ok : Bool)
  /-- event ENGINE_PAGE_RESUME (R348): An engine waiting on a non-resident page resumes or ends when firmware resolves it. -/
  | enginePageResume (k : Nat) (ok : Bool)
  /-- event IMPOSE_COMPLETE (R350): The Imposer finishes counting, writes counts and patches held commands. -/
  | imposeComplete (k : Nat)
  /-- event DGST_COMPLETE (R360): The digest finishes and is written by a filling store. -/
  | dgstComplete (k : Nat)
  /-- event PREEMPT_REQUEST (R405): Pre-emption stops issuing and halts contexts and elements at boundaries. -/
  | preemptRequest (region : Nat)
  /-- event PREEMPT_SAVE (R405): The halted region's state is written to its save area and the region freed. -/
  | preemptSave (region : Nat) (area : Nat)
  /-- event CONTAINMENT (R400): A task or gang is ended, its contexts killed and its region freed. -/
  | containment (region : Nat) (cause : Nat)
  /-- event FAULT_DETECT (R408): A corrected or detected fault is logged and the host error vector raised. -/
  | faultDetect (source : Nat) (fatal : Bool) (kind : Nat) (unit : Nat) (addr : Nat)
  /-- event SELF_TEST_START (R409): A targeted self-test of the reporting unit begins. -/
  | selfTestStart (kind : Nat) (unit : Nat)
  /-- event SELF_TEST_END (R409): A self-test passes, or fails and fences the unit. -/
  | selfTestEnd (kind : Nat) (unit : Nat) (pass : Bool) (router : Bool)
  /-- event PATROL_BIST (R407): Each unit of a guarded task's tiles is tested once every 1 ms. -/
  | patrolBist (tile : Nat) (elem : Nat) (pass : Bool)
  /-- event M_CMD_PREEMPT (R421): Host command 1 pre-empts the node at M_ARG. -/
  | mCmdPreempt
  /-- event M_CMD_END_GRAPH (R421): Host command 2 ends the halted graph at M_ARG. -/
  | mCmdEndGraph
  /-- event M_CMD_ATTEST (R414): Host command 3 writes a signed attestation report. -/
  | mCmdAttest
  /-- event M_CMD_CLEAR_FENCE (R421): Host command 4 clears the fence of a tile. -/
  | mCmdClearFence
  /-- event M_CMD_RECOVER (R427): Host command 5 fetches and verifies firmware and restarts boot. -/
  | mCmdRecover (len : Nat)
  /-- event M_CMD_SET_HWLIM (R420): Host command 6 sets HWLIM. -/
  | mCmdSetHwlim
  /-- event M_CMD_REFUSED (R421): A refused command code sets ERR with CAUSE 0x06. -/
  | mCmdRefused (code : Nat)
  /-- event M_CMD_COMPLETE (R422): A management command finishes, BUSY clears and vector 1 is raised. -/
  | mCmdComplete
  /-- event M_STATUS_READ (R421): A read of M_STATUS returns HWFAIL and clears it. -/
  | mStatusRead
  /-- event BAR2_ACCESS (R420): A host BAR 2 access is a plain load or store of HBM user memory. -/
  | bar2Access (addr : Nat) (write : Bool) (size : Nat) (value : BitVec 64)
  /-- event APERTURE_PLAIN (R420): A view 0 aperture access makes a plain load or store. -/
  | aperturePlain (addr : Nat) (write : Bool) (size : Nat) (value : BitVec 64)
  /-- event APERTURE_WAITING_LOAD (R420): A view 1 read waits for FULL and returns the word. -/
  | apertureWaitingLoad (addr : Reach)
  /-- event APERTURE_FILLING_STORE (R420): A view 1 write waits for EMPTY and fills the word. -/
  | apertureFillingStore (addr : Reach) (value : BitVec 64)
  /-- event APERTURE_CONSUMING_LOAD (R420): A view 2 read waits for FULL and empties the word. -/
  | apertureConsumingLoad (addr : Reach)
  /-- event APERTURE_CLEARING_STORE (R420): A view 2 write stores data and sets EMPTY. -/
  | apertureClearingStore (addr : Reach) (value : BitVec 64)
  /-- event APERTURE_TEST (R420): A view 3 read returns the presence bit. -/
  | apertureTest (addr : Reach)
  /-- event HOST_WAIT_EXPIRE (R420): A host waiting access expires, returns all ones or drops, and counts HWFAIL. -/
  | hostWaitExpire (k : Nat)
  /-- event MSIX_UNMASK (R422): Unmasking a vector delivers its pending message. -/
  | msixUnmask (vector : Nat)
  /-- event FUNCTION_LEVEL_RESET (R416): FLR ends every placed task and disables every host queue. -/
  | functionLevelReset
  /-- event DEVICE_RESET (R426): Reset starts the boot chain through ROM, boot firmware and engine firmware. -/
  | deviceReset
  /-- event BOOT_STAGE (R426): A boot stage completes its verification and initialisation and advances STAGE. -/
  | bootStage (fail : Nat)
  /-- event LINK_FRAME_RECEIVE (R425): A frame on a bound package-link channel is received into its stream port. -/
  | linkFrameReceive (link : Nat) (channel : Nat) (kind : Nat) (tag : Nat) (mask : Nat) (payload : Nat)
  /-- event LINK_DOWN (R424): A link fails to retrain or loses both lane sets and its bound channels raise errors. -/
  | linkDown (link : Nat)
  /-- event CHANNEL_BIND (R425): Firmware binds a link channel to a local and peer ASID. -/
  | channelBind (link : Nat) (channel : Nat) (asid : Nat) (peer : Nat)
  /-- event CLOCK_THROTTLE (R3): The package power controller lowers the arithmetic clock to hold 2,000 W. -/
  | clockThrottle (level : Nat)
  /-- event CL_QREQ_SET (R429): REQ := 1 stops placement on the cluster and starts quiescence. -/
  | clQreqSet (cluster : Nat)
  /-- event CL_QREQ_CLEAR (R429): REQ := 0 drops ACK, BUSY and DONE and resumes placement. -/
  | clQreqClear (cluster : Nat)
  /-- event CLUSTER_QUIESCE_ACK (R429): ACK rises once no task holds a tile and routers are empty. -/
  | clusterQuiesceAck (cluster : Nat)
  /-- event CL_SAVE_GO (R429): Starts the cluster retention save. -/
  | clSaveGo (cluster : Nat)
  /-- event CLUSTER_SAVE_DONE (R429): The retention save performs and DONE rises. -/
  | clusterSaveDone (cluster : Nat) (ok : Bool)
  /-- event CL_CLKG_GATE (R429): GATE := 1 stops the cluster's clocks and GATED rises. -/
  | clClkgGate (cluster : Nat)
  /-- event CL_RAIL_OFF (R429): Clearing an ON bit powers a rail segment down. -/
  | clRailOff (cluster : Nat)
  /-- event RAIL_GOOD_FALL (R429): A segment's GOOD falls after its rail is turned off. -/
  | railGoodFall (cluster : Nat)
  /-- event CL_WAKE_GO (R429): Starts the wake sequence of a gated cluster. -/
  | clWakeGo (cluster : Nat)
  /-- event CLUSTER_WAKE_DONE (R429): The wake restores, tests and ungates the cluster, or fails with ERR. -/
  | clusterWakeDone (cluster : Nat) (failed : List (Nat × Bool)) (ok : Bool)
  /-- event CL_QACK_WRITE (R428): Writing 1 to SEQERR clears it. -/
  | clQackWrite (cluster : Nat)
  /-- event ASID_TEARDOWN (R107): Tearing down an ASID unlinks every parking record of it, kills its contexts and removes its catchword entries. -/
  | asidTeardown (asid : Nat)
  /-- event TILE_RESET (R232): A reset of one tile returns any combining-queue record claimed there to the head of the queue and restarts S_CYCLE at 0. -/
  | tileReset (tile : Nat)
  /-- event FORCED_POWER_LOSS (R430): A forced loss of power to a cluster returns the combining-queue records claimed in it to the head with their sequence numbers. -/
  | forcedPowerLoss (cluster : Nat)
  /-- event CROSSING_SLOT_ARRIVAL (R279): A flit held in a router crossing slot reaches the consumer's input once the crossing latency (tile edge, pass-through tile or die boundary) has passed. -/
  | crossingSlotArrival (tile : Nat) (elem : Nat) (port : Nat)
  /-- event CONFIGURATION_REQUEST (R426): A host PCIe configuration request completes with Configuration Request Retry Status until STAGE reaches 3, and is served normally after that. -/
  | configurationRequest
  deriving DecidableEq, Repr

end Sys2Proof
end

