-- ==== Sys2Proof/WellFormed.lean ====
section
/-! DEFINITION. Which instructions of the syntax are instructions of the part (07 R142, R146, R149, R150, R153).

A field value that the encoding admits and the manual assigns no instruction is not well formed: orders 4 and 5 of R153
refuse the block that holds it at fetch. For events, well-formedness bounds the place the event names (00 R4, R7). -/

namespace Sys2Proof

/-- pr = 0b01 is no predication (07 R146): ILLEGAL_OP. -/
def prOk (pr : BitVec 2) : Bool := pr != 1#2

/-- A target of slot 0b11 names a write entry 0 to 31 or no target (07 R142): otherwise RESERVED_FIELD. -/
def targetOk (t : BitVec 9) : Bool := !(t.toNat / 128 == 3) || t.toNat % 128 < 32 || t.toNat % 128 == 127

/-- EXT, EXTS and INS: position + length is at most 64 (07 R148): otherwise RESERVED_FIELD. -/
def spanOk (pos len : BitVec 6) : Bool := pos.toNat + len.toNat + 1 ≤ 64

/-- The operation codes of AMO (07 R149). -/
def aopAmo (aop : BitVec 5) : Bool := aop.toNat ≤ 11

/-- The operation codes of RED (07 R149): those of AMO but SWP. -/
def aopRed (aop : BitVec 5) : Bool := aop.toNat ≤ 11 && aop.toNat != 8

/-- The scopes of FENCE (07 R150). -/
def scopeOk (scope : BitVec 3) : Bool := 1 ≤ scope.toNat && scope.toNat ≤ 5

/-- The reductions of WRED (07 R151). -/
def redOk (red : BitVec 2) : Bool := red != 3#2

/-- The conversion kinds of WCVT run from 0 to `top` (17 R333). -/
def kindOk (top : Nat) (kind : BitVec 5) : Bool := kind.toNat ≤ top

/-- The special-register identifiers that 11 R241 assigns. -/
def spregOk (id : BitVec 12) : Bool := id.toNat ≤ 0x00E || (0x800 ≤ id.toNat && id.toNat ≤ 0x806)

/-- A tile number, the Sequencers' firmware cores (160 to 163) included. -/
def tileOk (tile : Nat) : Bool := tile < 164

/-- A context number (01 R26). -/
def ctxOk (ctx : Nat) : Bool := ctx < 4

/-- An instruction index of a block (07 R138). -/
def idxOk (idx : Nat) : Bool := idx < 128

/-- An element index (00 R7). -/
def elemOk (elem : Nat) : Bool := elem < 256

/-- A cluster of the package: die × 5 + cluster of the die (00 R9). -/
def clusterOk (cluster : Nat) : Bool := cluster < 20

namespace Instr

/-- The fields that order 4 of R153 checks: broken means ILLEGAL_OP. -/
def opFieldsOk : Instr → Bool
  | .add pr _ _ => prOk pr
  | .sub pr _ _ => prOk pr
  | .and pr _ _ => prOk pr
  | .or pr _ _ => prOk pr
  | .xor pr _ _ => prOk pr
  | .andn pr _ _ => prOk pr
  | .orn pr _ _ => prOk pr
  | .xnor pr _ _ => prOk pr
  | .shl pr _ _ => prOk pr
  | .shr pr _ _ => prOk pr
  | .sar pr _ _ => prOk pr
  | .rol pr _ _ => prOk pr
  | .ror pr _ _ => prOk pr
  | .min pr _ _ => prOk pr
  | .max pr _ _ => prOk pr
  | .minu pr _ _ => prOk pr
  | .maxu pr _ _ => prOk pr
  | .addw pr _ _ => prOk pr
  | .subw pr _ _ => prOk pr
  | .mul pr _ _ => prOk pr
  | .mulh pr _ _ => prOk pr
  | .mulhu pr _ _ => prOk pr
  | .mulhsu pr _ _ => prOk pr
  | .div pr _ _ => prOk pr
  | .divu pr _ _ => prOk pr
  | .rem pr _ _ => prOk pr
  | .remu pr _ _ => prOk pr
  | .mulw pr _ _ => prOk pr
  | .divw pr _ _ => prOk pr
  | .divuw pr _ _ => prOk pr
  | .remw pr _ _ => prOk pr
  | .remuw pr _ _ => prOk pr
  | .clz pr _ _ => prOk pr
  | .ctz pr _ _ => prOk pr
  | .popc pr _ _ => prOk pr
  | .brev pr _ _ => prOk pr
  | .bswap pr _ _ => prOk pr
  | .sextb pr _ _ => prOk pr
  | .sexth pr _ _ => prOk pr
  | .sextw pr _ _ => prOk pr
  | .zextb pr _ _ => prOk pr
  | .zexth pr _ _ => prOk pr
  | .zextw pr _ _ => prOk pr
  | .addi pr _ _ => prOk pr
  | .andi pr _ _ => prOk pr
  | .ori pr _ _ => prOk pr
  | .xori pr _ _ => prOk pr
  | .shli pr _ _ => prOk pr
  | .shri pr _ _ => prOk pr
  | .sari pr _ _ => prOk pr
  | .muli pr _ _ => prOk pr
  | .ext pr _ _ _ => prOk pr
  | .exts pr _ _ _ => prOk pr
  | .ins pr _ _ _ => prOk pr
  | .lea1 pr _ _ => prOk pr
  | .lea2 pr _ _ => prOk pr
  | .lea4 pr _ _ => prOk pr
  | .lea8 pr _ _ => prOk pr
  | .lea16 pr _ _ => prOk pr
  | .teq pr _ _ => prOk pr
  | .tne pr _ _ => prOk pr
  | .tlt pr _ _ => prOk pr
  | .tle pr _ _ => prOk pr
  | .tgt pr _ _ => prOk pr
  | .tge pr _ _ => prOk pr
  | .tltu pr _ _ => prOk pr
  | .tleu pr _ _ => prOk pr
  | .tgtu pr _ _ => prOk pr
  | .tgeu pr _ _ => prOk pr
  | .tbs pr _ _ => prOk pr
  | .tbc pr _ _ => prOk pr
  | .teqi pr _ _ => prOk pr
  | .tnei pr _ _ => prOk pr
  | .tlti pr _ _ => prOk pr
  | .tlei pr _ _ => prOk pr
  | .tgti pr _ _ => prOk pr
  | .tgei pr _ _ => prOk pr
  | .tltui pr _ _ => prOk pr
  | .tgeui pr _ _ => prOk pr
  | .genc _ _ => true
  | .appc _ _ => true
  | .mov pr _ _ => prOk pr
  | .movi pr _ _ => prOk pr
  | .null pr _ _ => prOk pr
  | .br pr _ _ => prOk pr
  | .call pr _ _ => prOk pr
  | .badr pr _ _ => prOk pr
  | .bri pr _ => prOk pr
  | .calli pr _ => prOk pr
  | .ret pr _ => prOk pr
  | .faddD pr _ _ _ => prOk pr
  | .fsubD pr _ _ _ => prOk pr
  | .fmulD pr _ _ _ => prOk pr
  | .fdivD pr _ _ _ => prOk pr
  | .fsqrtD pr _ _ _ => prOk pr
  | .fmaD _ _ _ => true
  | .fmsD _ _ _ => true
  | .fnmaD _ _ _ => true
  | .faddS pr _ _ _ => prOk pr
  | .fsubS pr _ _ _ => prOk pr
  | .fmulS pr _ _ _ => prOk pr
  | .fdivS pr _ _ _ => prOk pr
  | .fsqrtS pr _ _ _ => prOk pr
  | .fmaS _ _ _ => true
  | .fmsS _ _ _ => true
  | .fnmaS _ _ _ => true
  | .fmin pr _ _ _ => prOk pr
  | .fmax pr _ _ _ => prOk pr
  | .fneg pr _ _ _ => prOk pr
  | .fabs pr _ _ _ => prOk pr
  | .fcpys pr _ _ _ => prOk pr
  | .fclass pr _ _ _ => prOk pr
  | .fteq pr _ _ _ => prOk pr
  | .ftlt pr _ _ _ => prOk pr
  | .ftle pr _ _ _ => prOk pr
  | .ftun pr _ _ _ => prOk pr
  | .fcvtDS pr _ _ => prOk pr
  | .fcvtSD pr _ _ _ => prOk pr
  | .fcvtDI pr _ _ _ => prOk pr
  | .fcvtDN pr _ _ _ => prOk pr
  | .fcvtID pr _ _ _ => prOk pr
  | .fcvtND pr _ _ _ => prOk pr
  | .fcvtSI pr _ _ _ => prOk pr
  | .fcvtIS pr _ _ _ => prOk pr
  | .ld1 pr _ _ _ => prOk pr
  | .ld1s pr _ _ _ => prOk pr
  | .ld2 pr _ _ _ => prOk pr
  | .ld2s pr _ _ _ => prOk pr
  | .ld4 pr _ _ _ => prOk pr
  | .ld4s pr _ _ _ => prOk pr
  | .ld8 pr _ _ _ => prOk pr
  | .tstfe pr _ _ _ => prOk pr
  | .ldw1 pr _ _ _ => prOk pr
  | .ldw2 pr _ _ _ => prOk pr
  | .ldw4 pr _ _ _ => prOk pr
  | .ldw8 pr _ _ _ => prOk pr
  | .ldc1 pr _ _ _ => prOk pr
  | .ldc2 pr _ _ _ => prOk pr
  | .ldc4 pr _ _ _ => prOk pr
  | .ldc8 pr _ _ _ => prOk pr
  | .st1 pr _ _ => prOk pr
  | .st2 pr _ _ => prOk pr
  | .st4 pr _ _ => prOk pr
  | .st8 pr _ _ => prOk pr
  | .stf1 pr _ _ => prOk pr
  | .stf2 pr _ _ => prOk pr
  | .stf4 pr _ _ => prOk pr
  | .stf8 pr _ _ => prOk pr
  | .ste1 pr _ _ => prOk pr
  | .ste2 pr _ _ => prOk pr
  | .ste4 pr _ _ => prOk pr
  | .ste8 pr _ _ => prOk pr
  | .amo pr _ aop _ _ => prOk pr && aopAmo aop
  | .cas _ _ _ => true
  | .red pr _ aop _ => prOk pr && aopRed aop
  | .fence pr scope => prOk pr && scopeOk scope
  | .qpush pr _ => prOk pr
  | .qpop pr _ _ _ => prOk pr
  | .qpeek pr _ _ => prOk pr
  | .qstat pr _ _ => prOk pr
  | .qcfg pr _ _ => prOk pr
  | .cqpop pr _ _ _ => prOk pr
  | .cqpush pr _ => prOk pr
  | .wait pr _ _ _ => prOk pr
  | .mfs pr id _ => prOk pr && spregOk id
  | .mts pr id => prOk pr && spregOk id
  | .trap pr _ => prOk pr
  | .eret pr => prOk pr
  | .halt pr => prOk pr
  | .pause pr _ _ => prOk pr
  | .rseed pr _ _ => prOk pr
  | .rnext pr _ _ => prOk pr
  | .spawnc pr _ _ => prOk pr
  | .cfgld pr _ _ => prOk pr
  | .cfgstrm pr _ _ => prOk pr
  | .cfgsw pr _ _ => prOk pr
  | .cfgabort pr _ _ => prOk pr
  | .arm pr _ _ => prOk pr
  | .drain pr _ _ => prOk pr
  | .inject pr => prOk pr
  | .sinkrd pr _ _ => prOk pr
  | .kwait pr _ _ _ => prOk pr
  | .cpy pr _ => prOk pr
  | .cpyfeOut pr => prOk pr
  | .cpyfeIn pr => prOk pr
  | .impose pr => prOk pr
  | .imprel pr => prOk pr
  | .allocT pr _ _ => prOk pr
  | .allocN pr _ _ => prOk pr
  | .free pr => prOk pr
  | .poolgrow pr => prOk pr
  | .cwprobe pr _ _ => prOk pr
  | .cwstore pr => prOk pr
  | .cwinv pr => prOk pr
  | .dgst pr => prOk pr
  | .wcfg pr => prOk pr
  | .wrun pr => prOk pr
  | .wld pr _ _ => prOk pr
  | .wst pr _ _ => prOk pr
  | .wmovD pr _ _ _ => prOk pr
  | .waddD pr _ _ _ _ => prOk pr
  | .wmulD pr _ _ _ _ => prOk pr
  | .wfmaD pr _ _ _ _ => prOk pr
  | .wminD pr _ _ _ _ => prOk pr
  | .wmaxD pr _ _ _ _ => prOk pr
  | .wcmpD pr _ _ _ _ _ => prOk pr
  | .wselD pr _ _ _ _ => prOk pr
  | .wcvtD pr _ _ kind _ => prOk pr && kindOk 6 kind
  | .wredD pr _ _ rop _ => prOk pr && redOk rop
  | .wvarD pr _ _ _ _ => prOk pr
  | .wshufD pr _ _ _ _ => prOk pr
  | .wmovS pr _ _ _ => prOk pr
  | .waddS pr _ _ _ _ => prOk pr
  | .wmulS pr _ _ _ _ => prOk pr
  | .wfmaS pr _ _ _ _ => prOk pr
  | .wminS pr _ _ _ _ => prOk pr
  | .wmaxS pr _ _ _ _ => prOk pr
  | .wcmpS pr _ _ _ _ _ => prOk pr
  | .wselS pr _ _ _ _ => prOk pr
  | .wcvtS pr _ _ kind _ => prOk pr && kindOk 12 kind
  | .wredS pr _ _ rop _ => prOk pr && redOk rop
  | .wvarS pr _ _ _ _ => prOk pr
  | .wshufS pr _ _ _ _ => prOk pr
  | .xacc pr _ _ _ _ => prOk pr
  | .xadd pr _ _ => prOk pr
  | .xclr pr _ => prOk pr
  | .xmov pr _ _ => prOk pr
  | .xst pr _ => prOk pr
  | .xld pr _ => prOk pr
  | .xsgn pr _ _ _ => prOk pr
  | .xrnd pr _ _ _ _ => prOk pr
  | .blockFetch tile ctx => tileOk tile && ctxOk ctx
  | .resultDelivery tile ctx _ => tileOk tile && ctxOk ctx
  | .blockEnd tile ctx => tileOk tile && ctxOk ctx
  | .waitRetry tile ctx idx => tileOk tile && ctxOk ctx && idxOk idx
  | .reservationExpire _ => true
  | .claimWaitEnd tile ctx idx => tileOk tile && ctxOk ctx && idxOk idx
  | .queueWaitRetry tile ctx idx => tileOk tile && ctxOk ctx && idxOk idx
  | .qtimeout tile ctx idx => tileOk tile && ctxOk ctx && idxOk idx
  | .cqCombine _ => true
  | .waitPoll tile ctx idx => tileOk tile && ctxOk ctx && idxOk idx
  | .waitTimeout tile ctx idx => tileOk tile && ctxOk ctx && idxOk idx
  | .pauseDone tile ctx idx => tileOk tile && ctxOk ctx && idxOk idx
  | .kwaitDone tile ctx idx => tileOk tile && ctxOk ctx && idxOk idx
  | .kwaitLimitExpire tile ctx idx => tileOk tile && ctxOk ctx && idxOk idx
  | .cfgswDrainDone tile ctx idx => tileOk tile && ctxOk ctx && idxOk idx
  | .stagingClaimWaitEnd tile ctx idx => tileOk tile && ctxOk ctx && idxOk idx
  | .injectSlotRetry tile ctx idx => tileOk tile && ctxOk ctx && idxOk idx
  | .wideApply tile => tileOk tile
  | .wrunIteration tile => tileOk tile
  | .elementFire tile elem _ => tileOk tile && elemOk elem
  | .killArrive tile elem _ _ => tileOk tile && elemOk elem
  | .killDiscard tile elem _ _ => tileOk tile && elemOk elem
  | .lutfDigit tile elem => tileOk tile && elemOk elem
  | .meStepDone tile elem => tileOk tile && elemOk elem
  | .spRepresent tile elem _ => tileOk tile && elemOk elem
  | .feTimeout tile elem _ => tileOk tile && elemOk elem
  | .extentFetch tile elem _ => tileOk tile && elemOk elem
  | .spillRetry tile elem _ => tileOk tile && elemOk elem
  | .gapplyToken _ => true
  | .tokenReply _ => true
  | .regionError _ => true
  | .invalidation _ _ _ _ => true
  | .qTailWrite _ _ => true
  | .qCtlWrite _ _ => true
  | .registerWrite _ _ _ => true
  | .submissionTake _ => true
  | .replayStart _ => true
  | .replayEnd _ => true
  | .nodeFinish _ _ => true
  | .taskPlace _ => true
  | .taskRetire _ => true
  | .indirectCountRead _ _ => true
  | .launchCount _ _ => true
  | .condPredicateRead _ _ => true
  | .loopIteration _ _ => true
  | .nodeWaitTimeout _ _ => true
  | .stepsyncMessage _ _ _ _ => true
  | .cwDecide _ => true
  | .copyComplete _ _ => true
  | .completionWrite _ _ => true
  | .enginePageResume _ _ => true
  | .imposeComplete _ => true
  | .dgstComplete _ => true
  | .preemptRequest _ => true
  | .preemptSave _ _ => true
  | .containment _ _ => true
  | .faultDetect _ _ _ _ _ => true
  | .selfTestStart _ _ => true
  | .selfTestEnd _ _ _ _ => true
  | .patrolBist tile elem _ => tileOk tile && elemOk elem
  | .mCmdPreempt => true
  | .mCmdEndGraph => true
  | .mCmdAttest => true
  | .mCmdClearFence => true
  | .mCmdRecover _ => true
  | .mCmdSetHwlim => true
  | .mCmdRefused _ => true
  | .mCmdComplete => true
  | .mStatusRead => true
  | .bar2Access _ _ _ _ => true
  | .aperturePlain _ _ _ _ => true
  | .apertureWaitingLoad _ => true
  | .apertureFillingStore _ _ => true
  | .apertureConsumingLoad _ => true
  | .apertureClearingStore _ _ => true
  | .apertureTest _ => true
  | .hostWaitExpire _ => true
  | .msixUnmask _ => true
  | .functionLevelReset => true
  | .deviceReset => true
  | .bootStage _ => true
  | .linkFrameReceive _ _ _ _ _ _ => true
  | .linkDown _ => true
  | .channelBind _ _ _ _ => true
  | .clockThrottle _ => true
  | .clQreqSet cluster => clusterOk cluster
  | .clQreqClear cluster => clusterOk cluster
  | .clusterQuiesceAck cluster => clusterOk cluster
  | .clSaveGo cluster => clusterOk cluster
  | .clusterSaveDone cluster _ => clusterOk cluster
  | .clClkgGate cluster => clusterOk cluster
  | .clRailOff cluster => clusterOk cluster
  | .railGoodFall cluster => clusterOk cluster
  | .clWakeGo cluster => clusterOk cluster
  | .clusterWakeDone cluster _ _ => clusterOk cluster
  | .clQackWrite cluster => clusterOk cluster
  | .asidTeardown _ => true
  | .tileReset tile => tileOk tile
  | .forcedPowerLoss cluster => clusterOk cluster
  | .crossingSlotArrival tile elem _ => tileOk tile && elemOk elem
  | .configurationRequest => true

/-- The fields that order 5 of R153 checks: broken means RESERVED_FIELD. -/
def zeroFieldsOk : Instr → Bool
  | .add _ t1 t0 => targetOk t1 && targetOk t0
  | .sub _ t1 t0 => targetOk t1 && targetOk t0
  | .and _ t1 t0 => targetOk t1 && targetOk t0
  | .or _ t1 t0 => targetOk t1 && targetOk t0
  | .xor _ t1 t0 => targetOk t1 && targetOk t0
  | .andn _ t1 t0 => targetOk t1 && targetOk t0
  | .orn _ t1 t0 => targetOk t1 && targetOk t0
  | .xnor _ t1 t0 => targetOk t1 && targetOk t0
  | .shl _ t1 t0 => targetOk t1 && targetOk t0
  | .shr _ t1 t0 => targetOk t1 && targetOk t0
  | .sar _ t1 t0 => targetOk t1 && targetOk t0
  | .rol _ t1 t0 => targetOk t1 && targetOk t0
  | .ror _ t1 t0 => targetOk t1 && targetOk t0
  | .min _ t1 t0 => targetOk t1 && targetOk t0
  | .max _ t1 t0 => targetOk t1 && targetOk t0
  | .minu _ t1 t0 => targetOk t1 && targetOk t0
  | .maxu _ t1 t0 => targetOk t1 && targetOk t0
  | .addw _ t1 t0 => targetOk t1 && targetOk t0
  | .subw _ t1 t0 => targetOk t1 && targetOk t0
  | .mul _ t1 t0 => targetOk t1 && targetOk t0
  | .mulh _ t1 t0 => targetOk t1 && targetOk t0
  | .mulhu _ t1 t0 => targetOk t1 && targetOk t0
  | .mulhsu _ t1 t0 => targetOk t1 && targetOk t0
  | .div _ t1 t0 => targetOk t1 && targetOk t0
  | .divu _ t1 t0 => targetOk t1 && targetOk t0
  | .rem _ t1 t0 => targetOk t1 && targetOk t0
  | .remu _ t1 t0 => targetOk t1 && targetOk t0
  | .mulw _ t1 t0 => targetOk t1 && targetOk t0
  | .divw _ t1 t0 => targetOk t1 && targetOk t0
  | .divuw _ t1 t0 => targetOk t1 && targetOk t0
  | .remw _ t1 t0 => targetOk t1 && targetOk t0
  | .remuw _ t1 t0 => targetOk t1 && targetOk t0
  | .clz _ t1 t0 => targetOk t1 && targetOk t0
  | .ctz _ t1 t0 => targetOk t1 && targetOk t0
  | .popc _ t1 t0 => targetOk t1 && targetOk t0
  | .brev _ t1 t0 => targetOk t1 && targetOk t0
  | .bswap _ t1 t0 => targetOk t1 && targetOk t0
  | .sextb _ t1 t0 => targetOk t1 && targetOk t0
  | .sexth _ t1 t0 => targetOk t1 && targetOk t0
  | .sextw _ t1 t0 => targetOk t1 && targetOk t0
  | .zextb _ t1 t0 => targetOk t1 && targetOk t0
  | .zexth _ t1 t0 => targetOk t1 && targetOk t0
  | .zextw _ t1 t0 => targetOk t1 && targetOk t0
  | .addi _ _ t0 => targetOk t0
  | .andi _ _ t0 => targetOk t0
  | .ori _ _ t0 => targetOk t0
  | .xori _ _ t0 => targetOk t0
  | .shli _ _ t0 => targetOk t0
  | .shri _ _ t0 => targetOk t0
  | .sari _ _ t0 => targetOk t0
  | .muli _ _ t0 => targetOk t0
  | .ext _ len pos t0 => spanOk pos len && targetOk t0
  | .exts _ len pos t0 => spanOk pos len && targetOk t0
  | .ins _ len pos t0 => spanOk pos len && targetOk t0
  | .lea1 _ t1 t0 => targetOk t1 && targetOk t0
  | .lea2 _ t1 t0 => targetOk t1 && targetOk t0
  | .lea4 _ t1 t0 => targetOk t1 && targetOk t0
  | .lea8 _ t1 t0 => targetOk t1 && targetOk t0
  | .lea16 _ t1 t0 => targetOk t1 && targetOk t0
  | .teq _ t1 t0 => targetOk t1 && targetOk t0
  | .tne _ t1 t0 => targetOk t1 && targetOk t0
  | .tlt _ t1 t0 => targetOk t1 && targetOk t0
  | .tle _ t1 t0 => targetOk t1 && targetOk t0
  | .tgt _ t1 t0 => targetOk t1 && targetOk t0
  | .tge _ t1 t0 => targetOk t1 && targetOk t0
  | .tltu _ t1 t0 => targetOk t1 && targetOk t0
  | .tleu _ t1 t0 => targetOk t1 && targetOk t0
  | .tgtu _ t1 t0 => targetOk t1 && targetOk t0
  | .tgeu _ t1 t0 => targetOk t1 && targetOk t0
  | .tbs _ t1 t0 => targetOk t1 && targetOk t0
  | .tbc _ t1 t0 => targetOk t1 && targetOk t0
  | .teqi _ _ t0 => targetOk t0
  | .tnei _ _ t0 => targetOk t0
  | .tlti _ _ t0 => targetOk t0
  | .tlei _ _ t0 => targetOk t0
  | .tgti _ _ t0 => targetOk t0
  | .tgei _ _ t0 => targetOk t0
  | .tltui _ _ t0 => targetOk t0
  | .tgeui _ _ t0 => targetOk t0
  | .genc _ t0 => targetOk t0
  | .appc _ t0 => targetOk t0
  | .mov _ t1 t0 => targetOk t1 && targetOk t0
  | .movi _ _ t0 => targetOk t0
  | .null _ t1 t0 => targetOk t1 && targetOk t0
  | .br _ _ _ => true
  | .call _ _ _ => true
  | .badr _ _ t0 => targetOk t0
  | .bri _ _ => true
  | .calli _ _ => true
  | .ret _ _ => true
  | .faddD _ _ t1 t0 => targetOk t1 && targetOk t0
  | .fsubD _ _ t1 t0 => targetOk t1 && targetOk t0
  | .fmulD _ _ t1 t0 => targetOk t1 && targetOk t0
  | .fdivD _ _ t1 t0 => targetOk t1 && targetOk t0
  | .fsqrtD _ _ t1 t0 => targetOk t1 && targetOk t0
  | .fmaD _ t1 t0 => targetOk t1 && targetOk t0
  | .fmsD _ t1 t0 => targetOk t1 && targetOk t0
  | .fnmaD _ t1 t0 => targetOk t1 && targetOk t0
  | .faddS _ _ t1 t0 => targetOk t1 && targetOk t0
  | .fsubS _ _ t1 t0 => targetOk t1 && targetOk t0
  | .fmulS _ _ t1 t0 => targetOk t1 && targetOk t0
  | .fdivS _ _ t1 t0 => targetOk t1 && targetOk t0
  | .fsqrtS _ _ t1 t0 => targetOk t1 && targetOk t0
  | .fmaS _ t1 t0 => targetOk t1 && targetOk t0
  | .fmsS _ t1 t0 => targetOk t1 && targetOk t0
  | .fnmaS _ t1 t0 => targetOk t1 && targetOk t0
  | .fmin _ _ t1 t0 => targetOk t1 && targetOk t0
  | .fmax _ _ t1 t0 => targetOk t1 && targetOk t0
  | .fneg _ _ t1 t0 => targetOk t1 && targetOk t0
  | .fabs _ _ t1 t0 => targetOk t1 && targetOk t0
  | .fcpys _ _ t1 t0 => targetOk t1 && targetOk t0
  | .fclass _ _ t1 t0 => targetOk t1 && targetOk t0
  | .fteq _ _ t1 t0 => targetOk t1 && targetOk t0
  | .ftlt _ _ t1 t0 => targetOk t1 && targetOk t0
  | .ftle _ _ t1 t0 => targetOk t1 && targetOk t0
  | .ftun _ _ t1 t0 => targetOk t1 && targetOk t0
  | .fcvtDS _ t1 t0 => targetOk t1 && targetOk t0
  | .fcvtSD _ _ t1 t0 => targetOk t1 && targetOk t0
  | .fcvtDI _ _ t1 t0 => targetOk t1 && targetOk t0
  | .fcvtDN _ _ t1 t0 => targetOk t1 && targetOk t0
  | .fcvtID _ _ t1 t0 => targetOk t1 && targetOk t0
  | .fcvtND _ _ t1 t0 => targetOk t1 && targetOk t0
  | .fcvtSI _ _ t1 t0 => targetOk t1 && targetOk t0
  | .fcvtIS _ _ t1 t0 => targetOk t1 && targetOk t0
  | .ld1 _ _ _ t0 => targetOk t0
  | .ld1s _ _ _ t0 => targetOk t0
  | .ld2 _ _ _ t0 => targetOk t0
  | .ld2s _ _ _ t0 => targetOk t0
  | .ld4 _ _ _ t0 => targetOk t0
  | .ld4s _ _ _ t0 => targetOk t0
  | .ld8 _ _ _ t0 => targetOk t0
  | .tstfe _ _ _ t0 => targetOk t0
  | .ldw1 _ _ _ t0 => targetOk t0
  | .ldw2 _ _ _ t0 => targetOk t0
  | .ldw4 _ _ _ t0 => targetOk t0
  | .ldw8 _ _ _ t0 => targetOk t0
  | .ldc1 _ _ _ t0 => targetOk t0
  | .ldc2 _ _ _ t0 => targetOk t0
  | .ldc4 _ _ _ t0 => targetOk t0
  | .ldc8 _ _ _ t0 => targetOk t0
  | .st1 _ _ _ => true
  | .st2 _ _ _ => true
  | .st4 _ _ _ => true
  | .st8 _ _ _ => true
  | .stf1 _ _ _ => true
  | .stf2 _ _ _ => true
  | .stf4 _ _ _ => true
  | .stf8 _ _ _ => true
  | .ste1 _ _ _ => true
  | .ste2 _ _ _ => true
  | .ste4 _ _ _ => true
  | .ste8 _ _ _ => true
  | .amo _ _ _ _ t0 => targetOk t0
  | .cas _ _ t0 => targetOk t0
  | .red _ _ _ _ => true
  | .fence _ _ => true
  | .qpush _ _ => true
  | .qpop _ _ t1 t0 => targetOk t1 && targetOk t0
  | .qpeek _ t1 t0 => targetOk t1 && targetOk t0
  | .qstat _ t1 t0 => targetOk t1 && targetOk t0
  | .qcfg _ t1 t0 => targetOk t1 && targetOk t0
  | .cqpop _ _ t1 t0 => targetOk t1 && targetOk t0
  | .cqpush _ _ => true
  | .wait _ _ _ t0 => targetOk t0
  | .mfs _ _ t0 => targetOk t0
  | .mts _ _ => true
  | .trap _ _ => true
  | .eret _ => true
  | .halt _ => true
  | .pause _ _ t0 => targetOk t0
  | .rseed _ t1 t0 => targetOk t1 && targetOk t0
  | .rnext _ t1 t0 => targetOk t1 && targetOk t0
  | .spawnc _ t1 t0 => targetOk t1 && targetOk t0
  | .cfgld _ t1 t0 => targetOk t1 && targetOk t0
  | .cfgstrm _ t1 t0 => targetOk t1 && targetOk t0
  | .cfgsw _ t1 t0 => targetOk t1 && targetOk t0
  | .cfgabort _ t1 t0 => targetOk t1 && targetOk t0
  | .arm _ t1 t0 => targetOk t1 && targetOk t0
  | .drain _ t1 t0 => targetOk t1 && targetOk t0
  | .inject _ => true
  | .sinkrd _ t1 t0 => targetOk t1 && targetOk t0
  | .kwait _ _ t1 t0 => targetOk t1 && targetOk t0
  | .cpy _ _ => true
  | .cpyfeOut _ => true
  | .cpyfeIn _ => true
  | .impose _ => true
  | .imprel _ => true
  | .allocT _ t1 t0 => targetOk t1 && targetOk t0
  | .allocN _ t1 t0 => targetOk t1 && targetOk t0
  | .free _ => true
  | .poolgrow _ => true
  | .cwprobe _ t1 t0 => targetOk t1 && targetOk t0
  | .cwstore _ => true
  | .cwinv _ => true
  | .dgst _ => true
  | .wcfg _ => true
  | .wrun _ => true
  | .wld _ _ _ => true
  | .wst _ _ _ => true
  | .wmovD _ _ _ _ => true
  | .waddD _ _ _ _ _ => true
  | .wmulD _ _ _ _ _ => true
  | .wfmaD _ _ _ _ _ => true
  | .wminD _ _ _ _ _ => true
  | .wmaxD _ _ _ _ _ => true
  | .wcmpD _ _ _ _ _ _ => true
  | .wselD _ _ _ _ _ => true
  | .wcvtD _ _ _ _ _ => true
  | .wredD _ _ _ _ _ => true
  | .wvarD _ _ _ _ _ => true
  | .wshufD _ _ _ _ _ => true
  | .wmovS _ _ _ _ => true
  | .waddS _ _ _ _ _ => true
  | .wmulS _ _ _ _ _ => true
  | .wfmaS _ _ _ _ _ => true
  | .wminS _ _ _ _ _ => true
  | .wmaxS _ _ _ _ _ => true
  | .wcmpS _ _ _ _ _ _ => true
  | .wselS _ _ _ _ _ => true
  | .wcvtS _ _ _ _ _ => true
  | .wredS _ _ _ _ _ => true
  | .wvarS _ _ _ _ _ => true
  | .wshufS _ _ _ _ _ => true
  | .xacc _ _ _ _ _ => true
  | .xadd _ _ _ => true
  | .xclr _ _ => true
  | .xmov _ _ _ => true
  | .xst _ _ => true
  | .xld _ _ => true
  | .xsgn _ _ t1 t0 => targetOk t1 && targetOk t0
  | .xrnd _ _ _ t1 t0 => targetOk t1 && targetOk t0
  | .blockFetch _ _ => true
  | .resultDelivery _ _ _ => true
  | .blockEnd _ _ => true
  | .waitRetry _ _ _ => true
  | .reservationExpire _ => true
  | .claimWaitEnd _ _ _ => true
  | .queueWaitRetry _ _ _ => true
  | .qtimeout _ _ _ => true
  | .cqCombine _ => true
  | .waitPoll _ _ _ => true
  | .waitTimeout _ _ _ => true
  | .pauseDone _ _ _ => true
  | .kwaitDone _ _ _ => true
  | .kwaitLimitExpire _ _ _ => true
  | .cfgswDrainDone _ _ _ => true
  | .stagingClaimWaitEnd _ _ _ => true
  | .injectSlotRetry _ _ _ => true
  | .wideApply _ => true
  | .wrunIteration _ => true
  | .elementFire _ _ _ => true
  | .killArrive _ _ _ _ => true
  | .killDiscard _ _ _ _ => true
  | .lutfDigit _ _ => true
  | .meStepDone _ _ => true
  | .spRepresent _ _ _ => true
  | .feTimeout _ _ _ => true
  | .extentFetch _ _ _ => true
  | .spillRetry _ _ _ => true
  | .gapplyToken _ => true
  | .tokenReply _ => true
  | .regionError _ => true
  | .invalidation _ _ _ _ => true
  | .qTailWrite _ _ => true
  | .qCtlWrite _ _ => true
  | .registerWrite _ _ _ => true
  | .submissionTake _ => true
  | .replayStart _ => true
  | .replayEnd _ => true
  | .nodeFinish _ _ => true
  | .taskPlace _ => true
  | .taskRetire _ => true
  | .indirectCountRead _ _ => true
  | .launchCount _ _ => true
  | .condPredicateRead _ _ => true
  | .loopIteration _ _ => true
  | .nodeWaitTimeout _ _ => true
  | .stepsyncMessage _ _ _ _ => true
  | .cwDecide _ => true
  | .copyComplete _ _ => true
  | .completionWrite _ _ => true
  | .enginePageResume _ _ => true
  | .imposeComplete _ => true
  | .dgstComplete _ => true
  | .preemptRequest _ => true
  | .preemptSave _ _ => true
  | .containment _ _ => true
  | .faultDetect _ _ _ _ _ => true
  | .selfTestStart _ _ => true
  | .selfTestEnd _ _ _ _ => true
  | .patrolBist _ _ _ => true
  | .mCmdPreempt => true
  | .mCmdEndGraph => true
  | .mCmdAttest => true
  | .mCmdClearFence => true
  | .mCmdRecover _ => true
  | .mCmdSetHwlim => true
  | .mCmdRefused _ => true
  | .mCmdComplete => true
  | .mStatusRead => true
  | .bar2Access _ _ _ _ => true
  | .aperturePlain _ _ _ _ => true
  | .apertureWaitingLoad _ => true
  | .apertureFillingStore _ _ => true
  | .apertureConsumingLoad _ => true
  | .apertureClearingStore _ _ => true
  | .apertureTest _ => true
  | .hostWaitExpire _ => true
  | .msixUnmask _ => true
  | .functionLevelReset => true
  | .deviceReset => true
  | .bootStage _ => true
  | .linkFrameReceive _ _ _ _ _ _ => true
  | .linkDown _ => true
  | .channelBind _ _ _ _ => true
  | .clockThrottle _ => true
  | .clQreqSet _ => true
  | .clQreqClear _ => true
  | .clusterQuiesceAck _ => true
  | .clSaveGo _ => true
  | .clusterSaveDone _ _ => true
  | .clClkgGate _ => true
  | .clRailOff _ => true
  | .railGoodFall _ => true
  | .clWakeGo _ => true
  | .clusterWakeDone _ _ _ => true
  | .clQackWrite _ => true
  | .asidTeardown _ => true
  | .tileReset _ => true
  | .forcedPowerLoss _ => true
  | .crossingSlotArrival _ _ _ => true
  | .configurationRequest => true

/-- An instruction of the part: every field holds a value the manual assigns. -/
def wellFormed (i : Instr) : Bool := i.opFieldsOk && i.zeroFieldsOk

/-- The rows that are Spine instructions; the others are events and have no encoding. -/
def isEncoded : Instr → Bool
  | .add _ _ _ => true
  | .sub _ _ _ => true
  | .and _ _ _ => true
  | .or _ _ _ => true
  | .xor _ _ _ => true
  | .andn _ _ _ => true
  | .orn _ _ _ => true
  | .xnor _ _ _ => true
  | .shl _ _ _ => true
  | .shr _ _ _ => true
  | .sar _ _ _ => true
  | .rol _ _ _ => true
  | .ror _ _ _ => true
  | .min _ _ _ => true
  | .max _ _ _ => true
  | .minu _ _ _ => true
  | .maxu _ _ _ => true
  | .addw _ _ _ => true
  | .subw _ _ _ => true
  | .mul _ _ _ => true
  | .mulh _ _ _ => true
  | .mulhu _ _ _ => true
  | .mulhsu _ _ _ => true
  | .div _ _ _ => true
  | .divu _ _ _ => true
  | .rem _ _ _ => true
  | .remu _ _ _ => true
  | .mulw _ _ _ => true
  | .divw _ _ _ => true
  | .divuw _ _ _ => true
  | .remw _ _ _ => true
  | .remuw _ _ _ => true
  | .clz _ _ _ => true
  | .ctz _ _ _ => true
  | .popc _ _ _ => true
  | .brev _ _ _ => true
  | .bswap _ _ _ => true
  | .sextb _ _ _ => true
  | .sexth _ _ _ => true
  | .sextw _ _ _ => true
  | .zextb _ _ _ => true
  | .zexth _ _ _ => true
  | .zextw _ _ _ => true
  | .addi _ _ _ => true
  | .andi _ _ _ => true
  | .ori _ _ _ => true
  | .xori _ _ _ => true
  | .shli _ _ _ => true
  | .shri _ _ _ => true
  | .sari _ _ _ => true
  | .muli _ _ _ => true
  | .ext _ _ _ _ => true
  | .exts _ _ _ _ => true
  | .ins _ _ _ _ => true
  | .lea1 _ _ _ => true
  | .lea2 _ _ _ => true
  | .lea4 _ _ _ => true
  | .lea8 _ _ _ => true
  | .lea16 _ _ _ => true
  | .teq _ _ _ => true
  | .tne _ _ _ => true
  | .tlt _ _ _ => true
  | .tle _ _ _ => true
  | .tgt _ _ _ => true
  | .tge _ _ _ => true
  | .tltu _ _ _ => true
  | .tleu _ _ _ => true
  | .tgtu _ _ _ => true
  | .tgeu _ _ _ => true
  | .tbs _ _ _ => true
  | .tbc _ _ _ => true
  | .teqi _ _ _ => true
  | .tnei _ _ _ => true
  | .tlti _ _ _ => true
  | .tlei _ _ _ => true
  | .tgti _ _ _ => true
  | .tgei _ _ _ => true
  | .tltui _ _ _ => true
  | .tgeui _ _ _ => true
  | .genc _ _ => true
  | .appc _ _ => true
  | .mov _ _ _ => true
  | .movi _ _ _ => true
  | .null _ _ _ => true
  | .br _ _ _ => true
  | .call _ _ _ => true
  | .badr _ _ _ => true
  | .bri _ _ => true
  | .calli _ _ => true
  | .ret _ _ => true
  | .faddD _ _ _ _ => true
  | .fsubD _ _ _ _ => true
  | .fmulD _ _ _ _ => true
  | .fdivD _ _ _ _ => true
  | .fsqrtD _ _ _ _ => true
  | .fmaD _ _ _ => true
  | .fmsD _ _ _ => true
  | .fnmaD _ _ _ => true
  | .faddS _ _ _ _ => true
  | .fsubS _ _ _ _ => true
  | .fmulS _ _ _ _ => true
  | .fdivS _ _ _ _ => true
  | .fsqrtS _ _ _ _ => true
  | .fmaS _ _ _ => true
  | .fmsS _ _ _ => true
  | .fnmaS _ _ _ => true
  | .fmin _ _ _ _ => true
  | .fmax _ _ _ _ => true
  | .fneg _ _ _ _ => true
  | .fabs _ _ _ _ => true
  | .fcpys _ _ _ _ => true
  | .fclass _ _ _ _ => true
  | .fteq _ _ _ _ => true
  | .ftlt _ _ _ _ => true
  | .ftle _ _ _ _ => true
  | .ftun _ _ _ _ => true
  | .fcvtDS _ _ _ => true
  | .fcvtSD _ _ _ _ => true
  | .fcvtDI _ _ _ _ => true
  | .fcvtDN _ _ _ _ => true
  | .fcvtID _ _ _ _ => true
  | .fcvtND _ _ _ _ => true
  | .fcvtSI _ _ _ _ => true
  | .fcvtIS _ _ _ _ => true
  | .ld1 _ _ _ _ => true
  | .ld1s _ _ _ _ => true
  | .ld2 _ _ _ _ => true
  | .ld2s _ _ _ _ => true
  | .ld4 _ _ _ _ => true
  | .ld4s _ _ _ _ => true
  | .ld8 _ _ _ _ => true
  | .tstfe _ _ _ _ => true
  | .ldw1 _ _ _ _ => true
  | .ldw2 _ _ _ _ => true
  | .ldw4 _ _ _ _ => true
  | .ldw8 _ _ _ _ => true
  | .ldc1 _ _ _ _ => true
  | .ldc2 _ _ _ _ => true
  | .ldc4 _ _ _ _ => true
  | .ldc8 _ _ _ _ => true
  | .st1 _ _ _ => true
  | .st2 _ _ _ => true
  | .st4 _ _ _ => true
  | .st8 _ _ _ => true
  | .stf1 _ _ _ => true
  | .stf2 _ _ _ => true
  | .stf4 _ _ _ => true
  | .stf8 _ _ _ => true
  | .ste1 _ _ _ => true
  | .ste2 _ _ _ => true
  | .ste4 _ _ _ => true
  | .ste8 _ _ _ => true
  | .amo _ _ _ _ _ => true
  | .cas _ _ _ => true
  | .red _ _ _ _ => true
  | .fence _ _ => true
  | .qpush _ _ => true
  | .qpop _ _ _ _ => true
  | .qpeek _ _ _ => true
  | .qstat _ _ _ => true
  | .qcfg _ _ _ => true
  | .cqpop _ _ _ _ => true
  | .cqpush _ _ => true
  | .wait _ _ _ _ => true
  | .mfs _ _ _ => true
  | .mts _ _ => true
  | .trap _ _ => true
  | .eret _ => true
  | .halt _ => true
  | .pause _ _ _ => true
  | .rseed _ _ _ => true
  | .rnext _ _ _ => true
  | .spawnc _ _ _ => true
  | .cfgld _ _ _ => true
  | .cfgstrm _ _ _ => true
  | .cfgsw _ _ _ => true
  | .cfgabort _ _ _ => true
  | .arm _ _ _ => true
  | .drain _ _ _ => true
  | .inject _ => true
  | .sinkrd _ _ _ => true
  | .kwait _ _ _ _ => true
  | .cpy _ _ => true
  | .cpyfeOut _ => true
  | .cpyfeIn _ => true
  | .impose _ => true
  | .imprel _ => true
  | .allocT _ _ _ => true
  | .allocN _ _ _ => true
  | .free _ => true
  | .poolgrow _ => true
  | .cwprobe _ _ _ => true
  | .cwstore _ => true
  | .cwinv _ => true
  | .dgst _ => true
  | .wcfg _ => true
  | .wrun _ => true
  | .wld _ _ _ => true
  | .wst _ _ _ => true
  | .wmovD _ _ _ _ => true
  | .waddD _ _ _ _ _ => true
  | .wmulD _ _ _ _ _ => true
  | .wfmaD _ _ _ _ _ => true
  | .wminD _ _ _ _ _ => true
  | .wmaxD _ _ _ _ _ => true
  | .wcmpD _ _ _ _ _ _ => true
  | .wselD _ _ _ _ _ => true
  | .wcvtD _ _ _ _ _ => true
  | .wredD _ _ _ _ _ => true
  | .wvarD _ _ _ _ _ => true
  | .wshufD _ _ _ _ _ => true
  | .wmovS _ _ _ _ => true
  | .waddS _ _ _ _ _ => true
  | .wmulS _ _ _ _ _ => true
  | .wfmaS _ _ _ _ _ => true
  | .wminS _ _ _ _ _ => true
  | .wmaxS _ _ _ _ _ => true
  | .wcmpS _ _ _ _ _ _ => true
  | .wselS _ _ _ _ _ => true
  | .wcvtS _ _ _ _ _ => true
  | .wredS _ _ _ _ _ => true
  | .wvarS _ _ _ _ _ => true
  | .wshufS _ _ _ _ _ => true
  | .xacc _ _ _ _ _ => true
  | .xadd _ _ _ => true
  | .xclr _ _ => true
  | .xmov _ _ _ => true
  | .xst _ _ => true
  | .xld _ _ => true
  | .xsgn _ _ _ _ => true
  | .xrnd _ _ _ _ _ => true
  | .blockFetch _ _ => false
  | .resultDelivery _ _ _ => false
  | .blockEnd _ _ => false
  | .waitRetry _ _ _ => false
  | .reservationExpire _ => false
  | .claimWaitEnd _ _ _ => false
  | .queueWaitRetry _ _ _ => false
  | .qtimeout _ _ _ => false
  | .cqCombine _ => false
  | .waitPoll _ _ _ => false
  | .waitTimeout _ _ _ => false
  | .pauseDone _ _ _ => false
  | .kwaitDone _ _ _ => false
  | .kwaitLimitExpire _ _ _ => false
  | .cfgswDrainDone _ _ _ => false
  | .stagingClaimWaitEnd _ _ _ => false
  | .injectSlotRetry _ _ _ => false
  | .wideApply _ => false
  | .wrunIteration _ => false
  | .elementFire _ _ _ => false
  | .killArrive _ _ _ _ => false
  | .killDiscard _ _ _ _ => false
  | .lutfDigit _ _ => false
  | .meStepDone _ _ => false
  | .spRepresent _ _ _ => false
  | .feTimeout _ _ _ => false
  | .extentFetch _ _ _ => false
  | .spillRetry _ _ _ => false
  | .gapplyToken _ => false
  | .tokenReply _ => false
  | .regionError _ => false
  | .invalidation _ _ _ _ => false
  | .qTailWrite _ _ => false
  | .qCtlWrite _ _ => false
  | .registerWrite _ _ _ => false
  | .submissionTake _ => false
  | .replayStart _ => false
  | .replayEnd _ => false
  | .nodeFinish _ _ => false
  | .taskPlace _ => false
  | .taskRetire _ => false
  | .indirectCountRead _ _ => false
  | .launchCount _ _ => false
  | .condPredicateRead _ _ => false
  | .loopIteration _ _ => false
  | .nodeWaitTimeout _ _ => false
  | .stepsyncMessage _ _ _ _ => false
  | .cwDecide _ => false
  | .copyComplete _ _ => false
  | .completionWrite _ _ => false
  | .enginePageResume _ _ => false
  | .imposeComplete _ => false
  | .dgstComplete _ => false
  | .preemptRequest _ => false
  | .preemptSave _ _ => false
  | .containment _ _ => false
  | .faultDetect _ _ _ _ _ => false
  | .selfTestStart _ _ => false
  | .selfTestEnd _ _ _ _ => false
  | .patrolBist _ _ _ => false
  | .mCmdPreempt => false
  | .mCmdEndGraph => false
  | .mCmdAttest => false
  | .mCmdClearFence => false
  | .mCmdRecover _ => false
  | .mCmdSetHwlim => false
  | .mCmdRefused _ => false
  | .mCmdComplete => false
  | .mStatusRead => false
  | .bar2Access _ _ _ _ => false
  | .aperturePlain _ _ _ _ => false
  | .apertureWaitingLoad _ => false
  | .apertureFillingStore _ _ => false
  | .apertureConsumingLoad _ => false
  | .apertureClearingStore _ _ => false
  | .apertureTest _ => false
  | .hostWaitExpire _ => false
  | .msixUnmask _ => false
  | .functionLevelReset => false
  | .deviceReset => false
  | .bootStage _ => false
  | .linkFrameReceive _ _ _ _ _ _ => false
  | .linkDown _ => false
  | .channelBind _ _ _ _ => false
  | .clockThrottle _ => false
  | .clQreqSet _ => false
  | .clQreqClear _ => false
  | .clusterQuiesceAck _ => false
  | .clSaveGo _ => false
  | .clusterSaveDone _ _ => false
  | .clClkgGate _ => false
  | .clRailOff _ => false
  | .railGoodFall _ => false
  | .clWakeGo _ => false
  | .clusterWakeDone _ _ _ => false
  | .clQackWrite _ => false
  | .asidTeardown _ => false
  | .tileReset _ => false
  | .forcedPowerLoss _ => false
  | .crossingSlotArrival _ _ _ => false
  | .configurationRequest => false

end Instr

end Sys2Proof
end

