-- ==== Sys2Proof/Decode.lean ====
section
/-! DEFINITION. The decoder and the encoder of Spine instruction words (07 R145 to R151), and a block's header (R138).

`decode` reads the fields of each format and answers the row of the operation table whose fixed bits the word has; a word
that has the fixed bits of no row is refused (`none`), and `wordCause` says by which order of R153. -/

namespace Sys2Proof

/-- Bits [31:25]: the major opcode, every format. -/
def fOp (w : IWord) : BitVec 7 := BitVec.ofNat 7 (w.toNat / 2 ^ 25)
/-- Bits [24:23]: pr. -/
def fPr (w : IWord) : BitVec 2 := BitVec.ofNat 2 (w.toNat / 2 ^ 23)
/-- Bits [22:18]: xop, lsid or wop. -/
def fX (w : IWord) : BitVec 5 := BitVec.ofNat 5 (w.toNat / 2 ^ 18)
/-- Bits [17:9]: T1, or imm9 of format L. -/
def fT1 (w : IWord) : BitVec 9 := BitVec.ofNat 9 (w.toNat / 2 ^ 9)
/-- Bits [8:0]: T0. -/
def fT0 (w : IWord) : BitVec 9 := BitVec.ofNat 9 (w.toNat / 2 ^ 0)
/-- Bits [22:9]: imm14 of format I. -/
def fImm14 (w : IWord) : BitVec 14 := BitVec.ofNat 14 (w.toNat / 2 ^ 9)
/-- Bits [24:9]: imm16 of format C. -/
def fImm16 (w : IWord) : BitVec 16 := BitVec.ofNat 16 (w.toNat / 2 ^ 9)
/-- Bits [22:20]: exit of format B. -/
def fExit (w : IWord) : BitVec 3 := BitVec.ofNat 3 (w.toNat / 2 ^ 20)
/-- Bits [19:0]: offset20 of format B. -/
def fOff (w : IWord) : BitVec 20 := BitVec.ofNat 20 (w.toNat / 2 ^ 0)
/-- Bits [17:0]: imm18 of format S. -/
def fImm18 (w : IWord) : BitVec 18 := BitVec.ofNat 18 (w.toNat / 2 ^ 0)
/-- Bits [20:18]: xop [2:0]. -/
def fXLow3 (w : IWord) : BitVec 3 := BitVec.ofNat 3 (w.toNat / 2 ^ 18)
/-- Bits [19:18]: xop [1:0]. -/
def fXLow2 (w : IWord) : BitVec 2 := BitVec.ofNat 2 (w.toNat / 2 ^ 18)
/-- Bits [22:22]: xop [4]. -/
def fXTop (w : IWord) : BitVec 1 := BitVec.ofNat 1 (w.toNat / 2 ^ 22)
/-- Bits [22:20]: xop [4:2]. -/
def fXHigh3 (w : IWord) : BitVec 3 := BitVec.ofNat 3 (w.toNat / 2 ^ 20)
/-- Bits [22:21]: xop [4:3]. -/
def fXHigh2 (w : IWord) : BitVec 2 := BitVec.ofNat 2 (w.toNat / 2 ^ 21)
/-- Bits [21:18]: xop [3:0]. -/
def fXMid4 (w : IWord) : BitVec 4 := BitVec.ofNat 4 (w.toNat / 2 ^ 18)
/-- Bits [21:20]: xop [3:2]. -/
def fXrm (w : IWord) : BitVec 2 := BitVec.ofNat 2 (w.toNat / 2 ^ 20)
/-- Bits [14:9]: imm14 [5:0]. -/
def fCnt (w : IWord) : BitVec 6 := BitVec.ofNat 6 (w.toNat / 2 ^ 9)
/-- Bits [22:15]: imm14 [13:6]. -/
def fCntHi (w : IWord) : BitVec 8 := BitVec.ofNat 8 (w.toNat / 2 ^ 15)
/-- Bits [20:15]: imm14 [11:6]. -/
def fLen (w : IWord) : BitVec 6 := BitVec.ofNat 6 (w.toNat / 2 ^ 15)
/-- Bits [22:21]: imm14 [13:12]. -/
def fHi2 (w : IWord) : BitVec 2 := BitVec.ofNat 2 (w.toNat / 2 ^ 21)
/-- Bits [20:9]: imm14 [11:0]. -/
def fId (w : IWord) : BitVec 12 := BitVec.ofNat 12 (w.toNat / 2 ^ 9)
/-- Bits [13:9]: imm14 [4:0]. -/
def fLimI (w : IWord) : BitVec 5 := BitVec.ofNat 5 (w.toNat / 2 ^ 9)
/-- Bits [14:14]: imm14 [5]. -/
def fB14 (w : IWord) : BitVec 1 := BitVec.ofNat 1 (w.toNat / 2 ^ 14)
/-- Bits [17:13]: wd, aop. -/
def fWd (w : IWord) : BitVec 5 := BitVec.ofNat 5 (w.toNat / 2 ^ 13)
/-- Bits [12:12]: imm9 [3] or imm18 [12]. -/
def fW (w : IWord) : BitVec 1 := BitVec.ofNat 1 (w.toNat / 2 ^ 12)
/-- Bits [11:9]: imm9 [2:0]. -/
def fAmoZ (w : IWord) : BitVec 3 := BitVec.ofNat 3 (w.toNat / 2 ^ 9)
/-- Bits [11:0]: imm18 [11:0]. -/
def fRedZ (w : IWord) : BitVec 12 := BitVec.ofNat 12 (w.toNat / 2 ^ 0)
/-- Bits [12:8]: wa. -/
def fWa (w : IWord) : BitVec 5 := BitVec.ofNat 5 (w.toNat / 2 ^ 8)
/-- Bits [7:3]: wb. -/
def fWb (w : IWord) : BitVec 5 := BitVec.ofNat 5 (w.toNat / 2 ^ 3)
/-- Bits [2:0]: km. -/
def fKm (w : IWord) : BitVec 3 := BitVec.ofNat 3 (w.toNat / 2 ^ 0)
/-- Bits [17:16]: xd; also wd [4:3]. -/
def fXd (w : IWord) : BitVec 2 := BitVec.ofNat 2 (w.toNat / 2 ^ 16)
/-- Bits [15:13]: wd [2:0]. -/
def fKd (w : IWord) : BitVec 3 := BitVec.ofNat 3 (w.toNat / 2 ^ 13)
/-- Bits [4:3]: wb [1:0]. -/
def fRed (w : IWord) : BitVec 2 := BitVec.ofNat 2 (w.toNat / 2 ^ 3)
/-- Bits [7:5]: wb [4:2]. -/
def fRedHi (w : IWord) : BitVec 3 := BitVec.ofNat 3 (w.toNat / 2 ^ 5)
/-- Bits [3:3]: wb [0]. -/
def fB3 (w : IWord) : BitVec 1 := BitVec.ofNat 1 (w.toNat / 2 ^ 3)
/-- Bits [7:4]: wb [4:1]. -/
def fWbHi4 (w : IWord) : BitVec 4 := BitVec.ofNat 4 (w.toNat / 2 ^ 4)
/-- Bits [15:14]: xs. -/
def fXs (w : IWord) : BitVec 2 := BitVec.ofNat 2 (w.toNat / 2 ^ 14)
/-- Bits [13:9]: wa of format EX. -/
def fXwa (w : IWord) : BitVec 5 := BitVec.ofNat 5 (w.toNat / 2 ^ 9)
/-- Bits [8:4]: wb of format EX. -/
def fXwb (w : IWord) : BitVec 5 := BitVec.ofNat 5 (w.toNat / 2 ^ 4)
/-- Bits [3:1]: ksel. -/
def fKsel (w : IWord) : BitVec 3 := BitVec.ofNat 3 (w.toNat / 2 ^ 1)
/-- Bits [0:0]: bit 0. -/
def fB0 (w : IWord) : BitVec 1 := BitVec.ofNat 1 (w.toNat / 2 ^ 0)

/-- Op 0x01: ADD to SUBW. -/
def decodeOp01 (w : IWord) : Option Instr :=
  match (fX w).toNat with
  | 0 => some (.add (fPr w) (fT1 w) (fT0 w))
  | 1 => some (.sub (fPr w) (fT1 w) (fT0 w))
  | 2 => some (.and (fPr w) (fT1 w) (fT0 w))
  | 3 => some (.or (fPr w) (fT1 w) (fT0 w))
  | 4 => some (.xor (fPr w) (fT1 w) (fT0 w))
  | 5 => some (.andn (fPr w) (fT1 w) (fT0 w))
  | 6 => some (.orn (fPr w) (fT1 w) (fT0 w))
  | 7 => some (.xnor (fPr w) (fT1 w) (fT0 w))
  | 8 => some (.shl (fPr w) (fT1 w) (fT0 w))
  | 9 => some (.shr (fPr w) (fT1 w) (fT0 w))
  | 10 => some (.sar (fPr w) (fT1 w) (fT0 w))
  | 11 => some (.rol (fPr w) (fT1 w) (fT0 w))
  | 12 => some (.ror (fPr w) (fT1 w) (fT0 w))
  | 13 => some (.min (fPr w) (fT1 w) (fT0 w))
  | 14 => some (.max (fPr w) (fT1 w) (fT0 w))
  | 15 => some (.minu (fPr w) (fT1 w) (fT0 w))
  | 16 => some (.maxu (fPr w) (fT1 w) (fT0 w))
  | 17 => some (.addw (fPr w) (fT1 w) (fT0 w))
  | 18 => some (.subw (fPr w) (fT1 w) (fT0 w))
  | _ => none
/-- Op 0x02: MUL to REMUW. -/
def decodeOp02 (w : IWord) : Option Instr :=
  match (fX w).toNat with
  | 0 => some (.mul (fPr w) (fT1 w) (fT0 w))
  | 1 => some (.mulh (fPr w) (fT1 w) (fT0 w))
  | 2 => some (.mulhu (fPr w) (fT1 w) (fT0 w))
  | 3 => some (.mulhsu (fPr w) (fT1 w) (fT0 w))
  | 4 => some (.div (fPr w) (fT1 w) (fT0 w))
  | 5 => some (.divu (fPr w) (fT1 w) (fT0 w))
  | 6 => some (.rem (fPr w) (fT1 w) (fT0 w))
  | 7 => some (.remu (fPr w) (fT1 w) (fT0 w))
  | 8 => some (.mulw (fPr w) (fT1 w) (fT0 w))
  | 9 => some (.divw (fPr w) (fT1 w) (fT0 w))
  | 10 => some (.divuw (fPr w) (fT1 w) (fT0 w))
  | 11 => some (.remw (fPr w) (fT1 w) (fT0 w))
  | 12 => some (.remuw (fPr w) (fT1 w) (fT0 w))
  | _ => none
/-- Op 0x03: CLZ to ZEXTW. -/
def decodeOp03 (w : IWord) : Option Instr :=
  match (fX w).toNat with
  | 0 => some (.clz (fPr w) (fT1 w) (fT0 w))
  | 1 => some (.ctz (fPr w) (fT1 w) (fT0 w))
  | 2 => some (.popc (fPr w) (fT1 w) (fT0 w))
  | 3 => some (.brev (fPr w) (fT1 w) (fT0 w))
  | 4 => some (.bswap (fPr w) (fT1 w) (fT0 w))
  | 5 => some (.sextb (fPr w) (fT1 w) (fT0 w))
  | 6 => some (.sexth (fPr w) (fT1 w) (fT0 w))
  | 7 => some (.sextw (fPr w) (fT1 w) (fT0 w))
  | 8 => some (.zextb (fPr w) (fT1 w) (fT0 w))
  | 9 => some (.zexth (fPr w) (fT1 w) (fT0 w))
  | 10 => some (.zextw (fPr w) (fT1 w) (fT0 w))
  | _ => none
/-- Op 0x04: ADDI. -/
def decodeOp04 (w : IWord) : Option Instr :=
  some (.addi (fPr w) (fImm14 w) (fT0 w))
/-- Op 0x05: ANDI. -/
def decodeOp05 (w : IWord) : Option Instr :=
  some (.andi (fPr w) (fImm14 w) (fT0 w))
/-- Op 0x06: ORI. -/
def decodeOp06 (w : IWord) : Option Instr :=
  some (.ori (fPr w) (fImm14 w) (fT0 w))
/-- Op 0x07: XORI. -/
def decodeOp07 (w : IWord) : Option Instr :=
  some (.xori (fPr w) (fImm14 w) (fT0 w))
/-- Op 0x08: SHLI. -/
def decodeOp08 (w : IWord) : Option Instr :=
  if fCntHi w == 0#8 then some (.shli (fPr w) (fCnt w) (fT0 w)) else
  none
/-- Op 0x09: SHRI. -/
def decodeOp09 (w : IWord) : Option Instr :=
  if fCntHi w == 0#8 then some (.shri (fPr w) (fCnt w) (fT0 w)) else
  none
/-- Op 0x0A: SARI. -/
def decodeOp0A (w : IWord) : Option Instr :=
  if fCntHi w == 0#8 then some (.sari (fPr w) (fCnt w) (fT0 w)) else
  none
/-- Op 0x0B: MULI. -/
def decodeOp0B (w : IWord) : Option Instr :=
  some (.muli (fPr w) (fImm14 w) (fT0 w))
/-- Op 0x0C: EXT. -/
def decodeOp0C (w : IWord) : Option Instr :=
  if fHi2 w == 0#2 then some (.ext (fPr w) (fLen w) (fCnt w) (fT0 w)) else
  none
/-- Op 0x0D: EXTS. -/
def decodeOp0D (w : IWord) : Option Instr :=
  if fHi2 w == 0#2 then some (.exts (fPr w) (fLen w) (fCnt w) (fT0 w)) else
  none
/-- Op 0x0E: INS. -/
def decodeOp0E (w : IWord) : Option Instr :=
  if fHi2 w == 0#2 then some (.ins (fPr w) (fLen w) (fCnt w) (fT0 w)) else
  none
/-- Op 0x0F: LEA1, LEA2, LEA4, LEA8, LEA16. -/
def decodeOp0F (w : IWord) : Option Instr :=
  match (fX w).toNat with
  | 0 => some (.lea1 (fPr w) (fT1 w) (fT0 w))
  | 1 => some (.lea2 (fPr w) (fT1 w) (fT0 w))
  | 2 => some (.lea4 (fPr w) (fT1 w) (fT0 w))
  | 3 => some (.lea8 (fPr w) (fT1 w) (fT0 w))
  | 4 => some (.lea16 (fPr w) (fT1 w) (fT0 w))
  | _ => none
/-- Op 0x10: TEQ to TBC. -/
def decodeOp10 (w : IWord) : Option Instr :=
  match (fX w).toNat with
  | 0 => some (.teq (fPr w) (fT1 w) (fT0 w))
  | 1 => some (.tne (fPr w) (fT1 w) (fT0 w))
  | 2 => some (.tlt (fPr w) (fT1 w) (fT0 w))
  | 3 => some (.tle (fPr w) (fT1 w) (fT0 w))
  | 4 => some (.tgt (fPr w) (fT1 w) (fT0 w))
  | 5 => some (.tge (fPr w) (fT1 w) (fT0 w))
  | 6 => some (.tltu (fPr w) (fT1 w) (fT0 w))
  | 7 => some (.tleu (fPr w) (fT1 w) (fT0 w))
  | 8 => some (.tgtu (fPr w) (fT1 w) (fT0 w))
  | 9 => some (.tgeu (fPr w) (fT1 w) (fT0 w))
  | 10 => some (.tbs (fPr w) (fT1 w) (fT0 w))
  | 11 => some (.tbc (fPr w) (fT1 w) (fT0 w))
  | _ => none
/-- Op 0x11: TEQI. -/
def decodeOp11 (w : IWord) : Option Instr :=
  some (.teqi (fPr w) (fImm14 w) (fT0 w))
/-- Op 0x12: TNEI. -/
def decodeOp12 (w : IWord) : Option Instr :=
  some (.tnei (fPr w) (fImm14 w) (fT0 w))
/-- Op 0x13: TLTI. -/
def decodeOp13 (w : IWord) : Option Instr :=
  some (.tlti (fPr w) (fImm14 w) (fT0 w))
/-- Op 0x14: TLEI. -/
def decodeOp14 (w : IWord) : Option Instr :=
  some (.tlei (fPr w) (fImm14 w) (fT0 w))
/-- Op 0x15: TGTI. -/
def decodeOp15 (w : IWord) : Option Instr :=
  some (.tgti (fPr w) (fImm14 w) (fT0 w))
/-- Op 0x16: TGEI. -/
def decodeOp16 (w : IWord) : Option Instr :=
  some (.tgei (fPr w) (fImm14 w) (fT0 w))
/-- Op 0x17: TLTUI. -/
def decodeOp17 (w : IWord) : Option Instr :=
  some (.tltui (fPr w) (fImm14 w) (fT0 w))
/-- Op 0x18: TGEUI. -/
def decodeOp18 (w : IWord) : Option Instr :=
  some (.tgeui (fPr w) (fImm14 w) (fT0 w))
/-- Op 0x19: GENC. -/
def decodeOp19 (w : IWord) : Option Instr :=
  some (.genc (fImm16 w) (fT0 w))
/-- Op 0x1A: APPC. -/
def decodeOp1A (w : IWord) : Option Instr :=
  some (.appc (fImm16 w) (fT0 w))
/-- Op 0x1B: MOV. -/
def decodeOp1B (w : IWord) : Option Instr :=
  if fX w == 0#5 then some (.mov (fPr w) (fT1 w) (fT0 w)) else
  none
/-- Op 0x1C: MOVI. -/
def decodeOp1C (w : IWord) : Option Instr :=
  some (.movi (fPr w) (fImm14 w) (fT0 w))
/-- Op 0x1D: NULL. -/
def decodeOp1D (w : IWord) : Option Instr :=
  if fX w == 0#5 then some (.null (fPr w) (fT1 w) (fT0 w)) else
  none
/-- Op 0x20: BR. -/
def decodeOp20 (w : IWord) : Option Instr :=
  some (.br (fPr w) (fXHigh3 w) (fOff w))
/-- Op 0x21: CALL. -/
def decodeOp21 (w : IWord) : Option Instr :=
  some (.call (fPr w) (fXHigh3 w) (fOff w))
/-- Op 0x22: BADR. -/
def decodeOp22 (w : IWord) : Option Instr :=
  some (.badr (fPr w) (fImm14 w) (fT0 w))
/-- Op 0x23: BRI. -/
def decodeOp23 (w : IWord) : Option Instr :=
  if fT1 w == 511#9 && fT0 w == 511#9 && fHi2 w == 0#2 then some (.bri (fPr w) (fXLow3 w)) else
  none
/-- Op 0x24: CALLI. -/
def decodeOp24 (w : IWord) : Option Instr :=
  if fT1 w == 511#9 && fT0 w == 511#9 && fHi2 w == 0#2 then some (.calli (fPr w) (fXLow3 w)) else
  none
/-- Op 0x25: RET. -/
def decodeOp25 (w : IWord) : Option Instr :=
  if fT1 w == 511#9 && fT0 w == 511#9 && fHi2 w == 0#2 then some (.ret (fPr w) (fXLow3 w)) else
  none
/-- Op 0x28: FADD_D to FNMA_D. -/
def decodeOp28 (w : IWord) : Option Instr :=
  if fXHigh3 w == 0#3 then some (.faddD (fPr w) (fXLow2 w) (fT1 w) (fT0 w)) else
  if fXHigh3 w == 1#3 then some (.fsubD (fPr w) (fXLow2 w) (fT1 w) (fT0 w)) else
  if fXHigh3 w == 2#3 then some (.fmulD (fPr w) (fXLow2 w) (fT1 w) (fT0 w)) else
  if fXHigh3 w == 3#3 then some (.fdivD (fPr w) (fXLow2 w) (fT1 w) (fT0 w)) else
  if fXHigh3 w == 4#3 then some (.fsqrtD (fPr w) (fXLow2 w) (fT1 w) (fT0 w)) else
  if fPr w == 0#2 && fXHigh3 w == 5#3 then some (.fmaD (fXLow2 w) (fT1 w) (fT0 w)) else
  if fPr w == 0#2 && fXHigh3 w == 6#3 then some (.fmsD (fXLow2 w) (fT1 w) (fT0 w)) else
  if fPr w == 0#2 && fXHigh3 w == 7#3 then some (.fnmaD (fXLow2 w) (fT1 w) (fT0 w)) else
  none
/-- Op 0x29: FADD_S to FNMA_S. -/
def decodeOp29 (w : IWord) : Option Instr :=
  if fXHigh3 w == 0#3 then some (.faddS (fPr w) (fXLow2 w) (fT1 w) (fT0 w)) else
  if fXHigh3 w == 1#3 then some (.fsubS (fPr w) (fXLow2 w) (fT1 w) (fT0 w)) else
  if fXHigh3 w == 2#3 then some (.fmulS (fPr w) (fXLow2 w) (fT1 w) (fT0 w)) else
  if fXHigh3 w == 3#3 then some (.fdivS (fPr w) (fXLow2 w) (fT1 w) (fT0 w)) else
  if fXHigh3 w == 4#3 then some (.fsqrtS (fPr w) (fXLow2 w) (fT1 w) (fT0 w)) else
  if fPr w == 0#2 && fXHigh3 w == 5#3 then some (.fmaS (fXLow2 w) (fT1 w) (fT0 w)) else
  if fPr w == 0#2 && fXHigh3 w == 6#3 then some (.fmsS (fXLow2 w) (fT1 w) (fT0 w)) else
  if fPr w == 0#2 && fXHigh3 w == 7#3 then some (.fnmaS (fXLow2 w) (fT1 w) (fT0 w)) else
  none
/-- Op 0x2A: FMIN, FMAX, FNEG, FABS, FCPYS, FCLASS. -/
def decodeOp2A (w : IWord) : Option Instr :=
  if fXMid4 w == 0#4 then some (.fmin (fPr w) (fXTop w) (fT1 w) (fT0 w)) else
  if fXMid4 w == 1#4 then some (.fmax (fPr w) (fXTop w) (fT1 w) (fT0 w)) else
  if fXMid4 w == 2#4 then some (.fneg (fPr w) (fXTop w) (fT1 w) (fT0 w)) else
  if fXMid4 w == 3#4 then some (.fabs (fPr w) (fXTop w) (fT1 w) (fT0 w)) else
  if fXMid4 w == 4#4 then some (.fcpys (fPr w) (fXTop w) (fT1 w) (fT0 w)) else
  if fXMid4 w == 5#4 then some (.fclass (fPr w) (fXTop w) (fT1 w) (fT0 w)) else
  none
/-- Op 0x2B: FTEQ, FTLT, FTLE, FTUN. -/
def decodeOp2B (w : IWord) : Option Instr :=
  if fXMid4 w == 0#4 then some (.fteq (fPr w) (fXTop w) (fT1 w) (fT0 w)) else
  if fXMid4 w == 1#4 then some (.ftlt (fPr w) (fXTop w) (fT1 w) (fT0 w)) else
  if fXMid4 w == 2#4 then some (.ftle (fPr w) (fXTop w) (fT1 w) (fT0 w)) else
  if fXMid4 w == 3#4 then some (.ftun (fPr w) (fXTop w) (fT1 w) (fT0 w)) else
  none
/-- Op 0x2C: FCVT_D_S to FCVT_I_S. -/
def decodeOp2C (w : IWord) : Option Instr :=
  if fX w == 0#5 then some (.fcvtDS (fPr w) (fT1 w) (fT0 w)) else
  if fXHigh3 w == 1#3 then some (.fcvtSD (fPr w) (fXLow2 w) (fT1 w) (fT0 w)) else
  if fXHigh3 w == 2#3 then some (.fcvtDI (fPr w) (fXLow2 w) (fT1 w) (fT0 w)) else
  if fXHigh3 w == 3#3 then some (.fcvtDN (fPr w) (fXLow2 w) (fT1 w) (fT0 w)) else
  if fXHigh3 w == 4#3 then some (.fcvtID (fPr w) (fXLow2 w) (fT1 w) (fT0 w)) else
  if fXHigh3 w == 5#3 then some (.fcvtND (fPr w) (fXLow2 w) (fT1 w) (fT0 w)) else
  if fXHigh3 w == 6#3 then some (.fcvtSI (fPr w) (fXLow2 w) (fT1 w) (fT0 w)) else
  if fXHigh3 w == 7#3 then some (.fcvtIS (fPr w) (fXLow2 w) (fT1 w) (fT0 w)) else
  none
/-- Op 0x30: LD1. -/
def decodeOp30 (w : IWord) : Option Instr :=
  some (.ld1 (fPr w) (fX w) (fT1 w) (fT0 w))
/-- Op 0x31: LD1S. -/
def decodeOp31 (w : IWord) : Option Instr :=
  some (.ld1s (fPr w) (fX w) (fT1 w) (fT0 w))
/-- Op 0x32: LD2. -/
def decodeOp32 (w : IWord) : Option Instr :=
  some (.ld2 (fPr w) (fX w) (fT1 w) (fT0 w))
/-- Op 0x33: LD2S. -/
def decodeOp33 (w : IWord) : Option Instr :=
  some (.ld2s (fPr w) (fX w) (fT1 w) (fT0 w))
/-- Op 0x34: LD4. -/
def decodeOp34 (w : IWord) : Option Instr :=
  some (.ld4 (fPr w) (fX w) (fT1 w) (fT0 w))
/-- Op 0x35: LD4S. -/
def decodeOp35 (w : IWord) : Option Instr :=
  some (.ld4s (fPr w) (fX w) (fT1 w) (fT0 w))
/-- Op 0x36: LD8. -/
def decodeOp36 (w : IWord) : Option Instr :=
  some (.ld8 (fPr w) (fX w) (fT1 w) (fT0 w))
/-- Op 0x37: TSTFE. -/
def decodeOp37 (w : IWord) : Option Instr :=
  some (.tstfe (fPr w) (fX w) (fT1 w) (fT0 w))
/-- Op 0x38: LDW1. -/
def decodeOp38 (w : IWord) : Option Instr :=
  some (.ldw1 (fPr w) (fX w) (fT1 w) (fT0 w))
/-- Op 0x39: LDW2. -/
def decodeOp39 (w : IWord) : Option Instr :=
  some (.ldw2 (fPr w) (fX w) (fT1 w) (fT0 w))
/-- Op 0x3A: LDW4. -/
def decodeOp3A (w : IWord) : Option Instr :=
  some (.ldw4 (fPr w) (fX w) (fT1 w) (fT0 w))
/-- Op 0x3B: LDW8. -/
def decodeOp3B (w : IWord) : Option Instr :=
  some (.ldw8 (fPr w) (fX w) (fT1 w) (fT0 w))
/-- Op 0x3C: LDC1. -/
def decodeOp3C (w : IWord) : Option Instr :=
  some (.ldc1 (fPr w) (fX w) (fT1 w) (fT0 w))
/-- Op 0x3D: LDC2. -/
def decodeOp3D (w : IWord) : Option Instr :=
  some (.ldc2 (fPr w) (fX w) (fT1 w) (fT0 w))
/-- Op 0x3E: LDC4. -/
def decodeOp3E (w : IWord) : Option Instr :=
  some (.ldc4 (fPr w) (fX w) (fT1 w) (fT0 w))
/-- Op 0x3F: LDC8. -/
def decodeOp3F (w : IWord) : Option Instr :=
  some (.ldc8 (fPr w) (fX w) (fT1 w) (fT0 w))
/-- Op 0x40: ST1. -/
def decodeOp40 (w : IWord) : Option Instr :=
  some (.st1 (fPr w) (fX w) (fImm18 w))
/-- Op 0x41: ST2. -/
def decodeOp41 (w : IWord) : Option Instr :=
  some (.st2 (fPr w) (fX w) (fImm18 w))
/-- Op 0x42: ST4. -/
def decodeOp42 (w : IWord) : Option Instr :=
  some (.st4 (fPr w) (fX w) (fImm18 w))
/-- Op 0x43: ST8. -/
def decodeOp43 (w : IWord) : Option Instr :=
  some (.st8 (fPr w) (fX w) (fImm18 w))
/-- Op 0x44: STF1. -/
def decodeOp44 (w : IWord) : Option Instr :=
  some (.stf1 (fPr w) (fX w) (fImm18 w))
/-- Op 0x45: STF2. -/
def decodeOp45 (w : IWord) : Option Instr :=
  some (.stf2 (fPr w) (fX w) (fImm18 w))
/-- Op 0x46: STF4. -/
def decodeOp46 (w : IWord) : Option Instr :=
  some (.stf4 (fPr w) (fX w) (fImm18 w))
/-- Op 0x47: STF8. -/
def decodeOp47 (w : IWord) : Option Instr :=
  some (.stf8 (fPr w) (fX w) (fImm18 w))
/-- Op 0x48: STE1. -/
def decodeOp48 (w : IWord) : Option Instr :=
  some (.ste1 (fPr w) (fX w) (fImm18 w))
/-- Op 0x49: STE2. -/
def decodeOp49 (w : IWord) : Option Instr :=
  some (.ste2 (fPr w) (fX w) (fImm18 w))
/-- Op 0x4A: STE4. -/
def decodeOp4A (w : IWord) : Option Instr :=
  some (.ste4 (fPr w) (fX w) (fImm18 w))
/-- Op 0x4B: STE8. -/
def decodeOp4B (w : IWord) : Option Instr :=
  some (.ste8 (fPr w) (fX w) (fImm18 w))
/-- Op 0x4C: AMO. -/
def decodeOp4C (w : IWord) : Option Instr :=
  if fAmoZ w == 0#3 then some (.amo (fPr w) (fX w) (fWd w) (fW w) (fT0 w)) else
  none
/-- Op 0x4D: CAS. -/
def decodeOp4D (w : IWord) : Option Instr :=
  if fPr w == 0#2 && fWd w == 0#5 && fAmoZ w == 0#3 then some (.cas (fX w) (fW w) (fT0 w)) else
  none
/-- Op 0x4E: RED. -/
def decodeOp4E (w : IWord) : Option Instr :=
  if fT0 w == 0#9 && fAmoZ w == 0#3 then some (.red (fPr w) (fX w) (fWd w) (fW w)) else
  none
/-- Op 0x4F: FENCE. -/
def decodeOp4F (w : IWord) : Option Instr :=
  if fT1 w == 511#9 && fT0 w == 511#9 && fHi2 w == 0#2 then some (.fence (fPr w) (fXLow3 w)) else
  none
/-- Op 0x50: QPUSH. -/
def decodeOp50 (w : IWord) : Option Instr :=
  if fT1 w == 511#9 && fT0 w == 511#9 then some (.qpush (fPr w) (fX w)) else
  none
/-- Op 0x51: QPOP. -/
def decodeOp51 (w : IWord) : Option Instr :=
  some (.qpop (fPr w) (fX w) (fT1 w) (fT0 w))
/-- Op 0x52: QPEEK. -/
def decodeOp52 (w : IWord) : Option Instr :=
  if fX w == 0#5 then some (.qpeek (fPr w) (fT1 w) (fT0 w)) else
  none
/-- Op 0x53: QSTAT. -/
def decodeOp53 (w : IWord) : Option Instr :=
  if fX w == 0#5 then some (.qstat (fPr w) (fT1 w) (fT0 w)) else
  none
/-- Op 0x54: QCFG. -/
def decodeOp54 (w : IWord) : Option Instr :=
  if fX w == 0#5 then some (.qcfg (fPr w) (fT1 w) (fT0 w)) else
  none
/-- Op 0x55: CQPOP. -/
def decodeOp55 (w : IWord) : Option Instr :=
  some (.cqpop (fPr w) (fX w) (fT1 w) (fT0 w))
/-- Op 0x56: CQPUSH. -/
def decodeOp56 (w : IWord) : Option Instr :=
  if fT1 w == 511#9 && fT0 w == 511#9 then some (.cqpush (fPr w) (fX w)) else
  none
/-- Op 0x57: WAIT. -/
def decodeOp57 (w : IWord) : Option Instr :=
  if fCntHi w == 0#8 then some (.wait (fPr w) (fB14 w) (fLimI w) (fT0 w)) else
  none
/-- Op 0x58: MFS. -/
def decodeOp58 (w : IWord) : Option Instr :=
  if fHi2 w == 0#2 then some (.mfs (fPr w) (fId w) (fT0 w)) else
  none
/-- Op 0x59: MTS. -/
def decodeOp59 (w : IWord) : Option Instr :=
  if fHi2 w == 0#2 && fT0 w == 511#9 then some (.mts (fPr w) (fId w)) else
  none
/-- Op 0x5A: TRAP. -/
def decodeOp5A (w : IWord) : Option Instr :=
  if fT0 w == 511#9 then some (.trap (fPr w) (fImm14 w)) else
  none
/-- Op 0x5B: ERET. -/
def decodeOp5B (w : IWord) : Option Instr :=
  if fX w == 0#5 && fT1 w == 511#9 && fT0 w == 511#9 then some (.eret (fPr w)) else
  none
/-- Op 0x5C: HALT. -/
def decodeOp5C (w : IWord) : Option Instr :=
  if fX w == 0#5 && fT1 w == 511#9 && fT0 w == 511#9 then some (.halt (fPr w)) else
  none
/-- Op 0x5D: PAUSE. -/
def decodeOp5D (w : IWord) : Option Instr :=
  some (.pause (fPr w) (fImm14 w) (fT0 w))
/-- Op 0x5E: RSEED. -/
def decodeOp5E (w : IWord) : Option Instr :=
  if fX w == 0#5 then some (.rseed (fPr w) (fT1 w) (fT0 w)) else
  none
/-- Op 0x5F: RNEXT. -/
def decodeOp5F (w : IWord) : Option Instr :=
  if fX w == 0#5 then some (.rnext (fPr w) (fT1 w) (fT0 w)) else
  none
/-- Op 0x60: SPAWNC. -/
def decodeOp60 (w : IWord) : Option Instr :=
  if fX w == 0#5 then some (.spawnc (fPr w) (fT1 w) (fT0 w)) else
  none
/-- Op 0x61: CFGLD. -/
def decodeOp61 (w : IWord) : Option Instr :=
  if fX w == 0#5 then some (.cfgld (fPr w) (fT1 w) (fT0 w)) else
  none
/-- Op 0x62: CFGSTRM. -/
def decodeOp62 (w : IWord) : Option Instr :=
  if fX w == 0#5 then some (.cfgstrm (fPr w) (fT1 w) (fT0 w)) else
  none
/-- Op 0x63: CFGSW. -/
def decodeOp63 (w : IWord) : Option Instr :=
  if fX w == 0#5 then some (.cfgsw (fPr w) (fT1 w) (fT0 w)) else
  none
/-- Op 0x64: CFGABORT. -/
def decodeOp64 (w : IWord) : Option Instr :=
  if fX w == 0#5 then some (.cfgabort (fPr w) (fT1 w) (fT0 w)) else
  none
/-- Op 0x65: ARM. -/
def decodeOp65 (w : IWord) : Option Instr :=
  if fX w == 0#5 then some (.arm (fPr w) (fT1 w) (fT0 w)) else
  none
/-- Op 0x66: DRAIN. -/
def decodeOp66 (w : IWord) : Option Instr :=
  if fX w == 0#5 then some (.drain (fPr w) (fT1 w) (fT0 w)) else
  none
/-- Op 0x67: INJECT. -/
def decodeOp67 (w : IWord) : Option Instr :=
  if fX w == 0#5 && fT1 w == 511#9 && fT0 w == 511#9 then some (.inject (fPr w)) else
  none
/-- Op 0x68: SINKRD. -/
def decodeOp68 (w : IWord) : Option Instr :=
  if fX w == 0#5 then some (.sinkrd (fPr w) (fT1 w) (fT0 w)) else
  none
/-- Op 0x69: KWAIT. -/
def decodeOp69 (w : IWord) : Option Instr :=
  some (.kwait (fPr w) (fX w) (fT1 w) (fT0 w))
/-- Op 0x6A: CPY. -/
def decodeOp6A (w : IWord) : Option Instr :=
  if fT1 w == 511#9 && fT0 w == 511#9 && fXHigh3 w == 0#3 then some (.cpy (fPr w) (fXLow2 w)) else
  none
/-- Op 0x6B: CPYFE_OUT, CPYFE_IN. -/
def decodeOp6B (w : IWord) : Option Instr :=
  if fX w == 0#5 && fT1 w == 511#9 && fT0 w == 511#9 then some (.cpyfeOut (fPr w)) else
  if fX w == 1#5 && fT1 w == 511#9 && fT0 w == 511#9 then some (.cpyfeIn (fPr w)) else
  none
/-- Op 0x6C: IMPOSE. -/
def decodeOp6C (w : IWord) : Option Instr :=
  if fX w == 0#5 && fT1 w == 511#9 && fT0 w == 511#9 then some (.impose (fPr w)) else
  none
/-- Op 0x6D: IMPREL. -/
def decodeOp6D (w : IWord) : Option Instr :=
  if fX w == 0#5 && fT1 w == 511#9 && fT0 w == 511#9 then some (.imprel (fPr w)) else
  none
/-- Op 0x6E: ALLOC_T, ALLOC_N. -/
def decodeOp6E (w : IWord) : Option Instr :=
  match (fX w).toNat with
  | 0 => some (.allocT (fPr w) (fT1 w) (fT0 w))
  | 1 => some (.allocN (fPr w) (fT1 w) (fT0 w))
  | _ => none
/-- Op 0x6F: FREE. -/
def decodeOp6F (w : IWord) : Option Instr :=
  if fX w == 0#5 && fT1 w == 511#9 && fT0 w == 511#9 then some (.free (fPr w)) else
  none
/-- Op 0x70: POOLGROW. -/
def decodeOp70 (w : IWord) : Option Instr :=
  if fX w == 0#5 && fT1 w == 511#9 && fT0 w == 511#9 then some (.poolgrow (fPr w)) else
  none
/-- Op 0x71: CWPROBE. -/
def decodeOp71 (w : IWord) : Option Instr :=
  if fX w == 0#5 then some (.cwprobe (fPr w) (fT1 w) (fT0 w)) else
  none
/-- Op 0x72: CWSTORE. -/
def decodeOp72 (w : IWord) : Option Instr :=
  if fX w == 0#5 && fT1 w == 511#9 && fT0 w == 511#9 then some (.cwstore (fPr w)) else
  none
/-- Op 0x73: CWINV. -/
def decodeOp73 (w : IWord) : Option Instr :=
  if fX w == 0#5 && fT1 w == 511#9 && fT0 w == 511#9 then some (.cwinv (fPr w)) else
  none
/-- Op 0x74: DGST. -/
def decodeOp74 (w : IWord) : Option Instr :=
  if fX w == 0#5 && fT1 w == 511#9 && fT0 w == 511#9 then some (.dgst (fPr w)) else
  none
/-- Op 0x78: WCFG. -/
def decodeOp78 (w : IWord) : Option Instr :=
  if fX w == 0#5 && fT1 w == 511#9 && fT0 w == 511#9 then some (.wcfg (fPr w)) else
  none
/-- Op 0x79: WRUN. -/
def decodeOp79 (w : IWord) : Option Instr :=
  if fX w == 0#5 && fT1 w == 511#9 && fT0 w == 511#9 then some (.wrun (fPr w)) else
  none
/-- Op 0x7A: WLD, WST. -/
def decodeOp7A (w : IWord) : Option Instr :=
  match (fX w).toNat with
  | 0 => if fWa w == 0#5 && fWb w == 0#5 then some (.wld (fPr w) (fWd w) (fKm w)) else none
  | 1 => if fWa w == 0#5 && fWb w == 0#5 then some (.wst (fPr w) (fWd w) (fKm w)) else none
  | _ => none
/-- Op 0x7B: WMOV_D to WSHUF_D. -/
def decodeOp7B (w : IWord) : Option Instr :=
  match (fX w).toNat with
  | 0 => if fWb w == 0#5 then some (.wmovD (fPr w) (fWd w) (fWa w) (fKm w)) else none
  | 1 => some (.waddD (fPr w) (fWd w) (fWa w) (fWb w) (fKm w))
  | 2 => some (.wmulD (fPr w) (fWd w) (fWa w) (fWb w) (fKm w))
  | 3 => some (.wfmaD (fPr w) (fWd w) (fWa w) (fWb w) (fKm w))
  | 4 => some (.wminD (fPr w) (fWd w) (fWa w) (fWb w) (fKm w))
  | 5 => some (.wmaxD (fPr w) (fWd w) (fWa w) (fWb w) (fKm w))
  | 6 => some (.wcmpD (fPr w) (fXd w) (fKd w) (fWa w) (fWb w) (fKm w))
  | 7 => some (.wselD (fPr w) (fWd w) (fWa w) (fWb w) (fKm w))
  | 8 => some (.wcvtD (fPr w) (fWd w) (fWa w) (fWb w) (fKm w))
  | 9 => if fRedHi w == 0#3 then some (.wredD (fPr w) (fWd w) (fWa w) (fRed w) (fKm w)) else none
  | 10 => if fWbHi4 w == 0#4 then some (.wvarD (fPr w) (fWd w) (fWa w) (fB3 w) (fKm w)) else none
  | 11 => some (.wshufD (fPr w) (fWd w) (fWa w) (fWb w) (fKm w))
  | _ => none
/-- Op 0x7C: WMOV_S to WSHUF_S. -/
def decodeOp7C (w : IWord) : Option Instr :=
  match (fX w).toNat with
  | 0 => if fWb w == 0#5 then some (.wmovS (fPr w) (fWd w) (fWa w) (fKm w)) else none
  | 1 => some (.waddS (fPr w) (fWd w) (fWa w) (fWb w) (fKm w))
  | 2 => some (.wmulS (fPr w) (fWd w) (fWa w) (fWb w) (fKm w))
  | 3 => some (.wfmaS (fPr w) (fWd w) (fWa w) (fWb w) (fKm w))
  | 4 => some (.wminS (fPr w) (fWd w) (fWa w) (fWb w) (fKm w))
  | 5 => some (.wmaxS (fPr w) (fWd w) (fWa w) (fWb w) (fKm w))
  | 6 => some (.wcmpS (fPr w) (fXd w) (fKd w) (fWa w) (fWb w) (fKm w))
  | 7 => some (.wselS (fPr w) (fWd w) (fWa w) (fWb w) (fKm w))
  | 8 => some (.wcvtS (fPr w) (fWd w) (fWa w) (fWb w) (fKm w))
  | 9 => if fRedHi w == 0#3 then some (.wredS (fPr w) (fWd w) (fWa w) (fRed w) (fKm w)) else none
  | 10 => if fWbHi4 w == 0#4 then some (.wvarS (fPr w) (fWd w) (fWa w) (fB3 w) (fKm w)) else none
  | 11 => some (.wshufS (fPr w) (fWd w) (fWa w) (fWb w) (fKm w))
  | _ => none
/-- Op 0x7D: XACC, XADD, XCLR, XMOV, XST, XLD. -/
def decodeOp7D (w : IWord) : Option Instr :=
  if fX w == 0#5 && fXs w == 0#2 && fB0 w == 0#1 then some (.xacc (fPr w) (fXd w) (fXwa w) (fXwb w) (fKsel w)) else
  if fX w == 1#5 && fXwa w == 0#5 && fXwb w == 0#5 && fKsel w == 0#3 && fB0 w == 0#1 then some (.xadd (fPr w) (fXd w) (fXs w)) else
  if fX w == 2#5 && fXs w == 0#2 && fXwa w == 0#5 && fXwb w == 0#5 && fKsel w == 0#3 && fB0 w == 0#1 then some (.xclr (fPr w) (fXd w)) else
  if fX w == 3#5 && fXwa w == 0#5 && fXwb w == 0#5 && fKsel w == 0#3 && fB0 w == 0#1 then some (.xmov (fPr w) (fXd w) (fXs w)) else
  if fX w == 3#5 && fXd w == 0#2 && fXwa w == 0#5 && fXwb w == 0#5 && fKsel w == 1#3 && fB0 w == 0#1 then some (.xst (fPr w) (fXs w)) else
  if fX w == 3#5 && fXs w == 0#2 && fXwa w == 0#5 && fXwb w == 0#5 && fKsel w == 2#3 && fB0 w == 0#1 then some (.xld (fPr w) (fXd w)) else
  none
/-- Op 0x7E: XSGN, XRND. -/
def decodeOp7E (w : IWord) : Option Instr :=
  if fXHigh3 w == 0#3 then some (.xsgn (fPr w) (fXLow2 w) (fT1 w) (fT0 w)) else
  if fXTop w == 1#1 then some (.xrnd (fPr w) (fXrm w) (fXLow2 w) (fT1 w) (fT0 w)) else
  none

/-- The instruction a word encodes (07 R148): the row of the table with the word's fixed bits, or none. -/
def decode (w : IWord) : Option Instr :=
  match (fOp w).toNat with
  | 1 => decodeOp01 w
  | 2 => decodeOp02 w
  | 3 => decodeOp03 w
  | 4 => decodeOp04 w
  | 5 => decodeOp05 w
  | 6 => decodeOp06 w
  | 7 => decodeOp07 w
  | 8 => decodeOp08 w
  | 9 => decodeOp09 w
  | 10 => decodeOp0A w
  | 11 => decodeOp0B w
  | 12 => decodeOp0C w
  | 13 => decodeOp0D w
  | 14 => decodeOp0E w
  | 15 => decodeOp0F w
  | 16 => decodeOp10 w
  | 17 => decodeOp11 w
  | 18 => decodeOp12 w
  | 19 => decodeOp13 w
  | 20 => decodeOp14 w
  | 21 => decodeOp15 w
  | 22 => decodeOp16 w
  | 23 => decodeOp17 w
  | 24 => decodeOp18 w
  | 25 => decodeOp19 w
  | 26 => decodeOp1A w
  | 27 => decodeOp1B w
  | 28 => decodeOp1C w
  | 29 => decodeOp1D w
  | 32 => decodeOp20 w
  | 33 => decodeOp21 w
  | 34 => decodeOp22 w
  | 35 => decodeOp23 w
  | 36 => decodeOp24 w
  | 37 => decodeOp25 w
  | 40 => decodeOp28 w
  | 41 => decodeOp29 w
  | 42 => decodeOp2A w
  | 43 => decodeOp2B w
  | 44 => decodeOp2C w
  | 48 => decodeOp30 w
  | 49 => decodeOp31 w
  | 50 => decodeOp32 w
  | 51 => decodeOp33 w
  | 52 => decodeOp34 w
  | 53 => decodeOp35 w
  | 54 => decodeOp36 w
  | 55 => decodeOp37 w
  | 56 => decodeOp38 w
  | 57 => decodeOp39 w
  | 58 => decodeOp3A w
  | 59 => decodeOp3B w
  | 60 => decodeOp3C w
  | 61 => decodeOp3D w
  | 62 => decodeOp3E w
  | 63 => decodeOp3F w
  | 64 => decodeOp40 w
  | 65 => decodeOp41 w
  | 66 => decodeOp42 w
  | 67 => decodeOp43 w
  | 68 => decodeOp44 w
  | 69 => decodeOp45 w
  | 70 => decodeOp46 w
  | 71 => decodeOp47 w
  | 72 => decodeOp48 w
  | 73 => decodeOp49 w
  | 74 => decodeOp4A w
  | 75 => decodeOp4B w
  | 76 => decodeOp4C w
  | 77 => decodeOp4D w
  | 78 => decodeOp4E w
  | 79 => decodeOp4F w
  | 80 => decodeOp50 w
  | 81 => decodeOp51 w
  | 82 => decodeOp52 w
  | 83 => decodeOp53 w
  | 84 => decodeOp54 w
  | 85 => decodeOp55 w
  | 86 => decodeOp56 w
  | 87 => decodeOp57 w
  | 88 => decodeOp58 w
  | 89 => decodeOp59 w
  | 90 => decodeOp5A w
  | 91 => decodeOp5B w
  | 92 => decodeOp5C w
  | 93 => decodeOp5D w
  | 94 => decodeOp5E w
  | 95 => decodeOp5F w
  | 96 => decodeOp60 w
  | 97 => decodeOp61 w
  | 98 => decodeOp62 w
  | 99 => decodeOp63 w
  | 100 => decodeOp64 w
  | 101 => decodeOp65 w
  | 102 => decodeOp66 w
  | 103 => decodeOp67 w
  | 104 => decodeOp68 w
  | 105 => decodeOp69 w
  | 106 => decodeOp6A w
  | 107 => decodeOp6B w
  | 108 => decodeOp6C w
  | 109 => decodeOp6D w
  | 110 => decodeOp6E w
  | 111 => decodeOp6F w
  | 112 => decodeOp70 w
  | 113 => decodeOp71 w
  | 114 => decodeOp72 w
  | 115 => decodeOp73 w
  | 116 => decodeOp74 w
  | 120 => decodeOp78 w
  | 121 => decodeOp79 w
  | 122 => decodeOp7A w
  | 123 => decodeOp7B w
  | 124 => decodeOp7C w
  | 125 => decodeOp7D w
  | 126 => decodeOp7E w
  | _ => none

/-- Format G and EG: op, pr, xop, T1, T0 (07 R145). -/
def packG (op : BitVec 7) (pr : BitVec 2) (x : BitVec 5) (t1 t0 : BitVec 9) : IWord :=
  BitVec.ofNat 32 (op.toNat * 2 ^ 25 + pr.toNat * 2 ^ 23 + x.toNat * 2 ^ 18 + t1.toNat * 2 ^ 9 + t0.toNat)
/-- Format I: op, pr, imm14, T0. -/
def packI (op : BitVec 7) (pr : BitVec 2) (imm : BitVec 14) (t0 : BitVec 9) : IWord :=
  BitVec.ofNat 32 (op.toNat * 2 ^ 25 + pr.toNat * 2 ^ 23 + imm.toNat * 2 ^ 9 + t0.toNat)
/-- Format S: op, pr, lsid, imm18. -/
def packS (op : BitVec 7) (pr : BitVec 2) (lsid : BitVec 5) (imm : BitVec 18) : IWord :=
  BitVec.ofNat 32 (op.toNat * 2 ^ 25 + pr.toNat * 2 ^ 23 + lsid.toNat * 2 ^ 18 + imm.toNat)
/-- Format B: op, pr, exit, offset20. -/
def packB (op : BitVec 7) (pr : BitVec 2) (exit : BitVec 3) (off : BitVec 20) : IWord :=
  BitVec.ofNat 32 (op.toNat * 2 ^ 25 + pr.toNat * 2 ^ 23 + exit.toNat * 2 ^ 20 + off.toNat)
/-- Format C: op, imm16, T0. -/
def packC (op : BitVec 7) (imm : BitVec 16) (t0 : BitVec 9) : IWord :=
  BitVec.ofNat 32 (op.toNat * 2 ^ 25 + imm.toNat * 2 ^ 9 + t0.toNat)
/-- Format EW: op, pr, wop, wd, wa, wb, km. -/
def packEW (op : BitVec 7) (pr : BitVec 2) (x wd wa wb : BitVec 5) (km : BitVec 3) : IWord :=
  BitVec.ofNat 32 (op.toNat * 2 ^ 25 + pr.toNat * 2 ^ 23 + x.toNat * 2 ^ 18 + wd.toNat * 2 ^ 13 + wa.toNat * 2 ^ 8
    + wb.toNat * 2 ^ 3 + km.toNat)
/-- Format EX: op, pr, xop, xd, xs, wa, wb, ksel; the reserved bit is 0. -/
def packEX (op : BitVec 7) (pr : BitVec 2) (x : BitVec 5) (xd xs : BitVec 2) (wa wb : BitVec 5) (ksel : BitVec 3) : IWord :=
  BitVec.ofNat 32 (op.toNat * 2 ^ 25 + pr.toNat * 2 ^ 23 + x.toNat * 2 ^ 18 + xd.toNat * 2 ^ 16 + xs.toNat * 2 ^ 14
    + wa.toNat * 2 ^ 9 + wb.toNat * 2 ^ 4 + ksel.toNat * 2)

/-- The word of an instruction (07 R145, R148). An event has no encoding; its word here is 0, which decodes to nothing. -/
def encode : Instr → IWord
  | .add pr t1 t0 => packG 1#7 pr 0#5 t1 t0
  | .sub pr t1 t0 => packG 1#7 pr 1#5 t1 t0
  | .and pr t1 t0 => packG 1#7 pr 2#5 t1 t0
  | .or pr t1 t0 => packG 1#7 pr 3#5 t1 t0
  | .xor pr t1 t0 => packG 1#7 pr 4#5 t1 t0
  | .andn pr t1 t0 => packG 1#7 pr 5#5 t1 t0
  | .orn pr t1 t0 => packG 1#7 pr 6#5 t1 t0
  | .xnor pr t1 t0 => packG 1#7 pr 7#5 t1 t0
  | .shl pr t1 t0 => packG 1#7 pr 8#5 t1 t0
  | .shr pr t1 t0 => packG 1#7 pr 9#5 t1 t0
  | .sar pr t1 t0 => packG 1#7 pr 10#5 t1 t0
  | .rol pr t1 t0 => packG 1#7 pr 11#5 t1 t0
  | .ror pr t1 t0 => packG 1#7 pr 12#5 t1 t0
  | .min pr t1 t0 => packG 1#7 pr 13#5 t1 t0
  | .max pr t1 t0 => packG 1#7 pr 14#5 t1 t0
  | .minu pr t1 t0 => packG 1#7 pr 15#5 t1 t0
  | .maxu pr t1 t0 => packG 1#7 pr 16#5 t1 t0
  | .addw pr t1 t0 => packG 1#7 pr 17#5 t1 t0
  | .subw pr t1 t0 => packG 1#7 pr 18#5 t1 t0
  | .mul pr t1 t0 => packG 2#7 pr 0#5 t1 t0
  | .mulh pr t1 t0 => packG 2#7 pr 1#5 t1 t0
  | .mulhu pr t1 t0 => packG 2#7 pr 2#5 t1 t0
  | .mulhsu pr t1 t0 => packG 2#7 pr 3#5 t1 t0
  | .div pr t1 t0 => packG 2#7 pr 4#5 t1 t0
  | .divu pr t1 t0 => packG 2#7 pr 5#5 t1 t0
  | .rem pr t1 t0 => packG 2#7 pr 6#5 t1 t0
  | .remu pr t1 t0 => packG 2#7 pr 7#5 t1 t0
  | .mulw pr t1 t0 => packG 2#7 pr 8#5 t1 t0
  | .divw pr t1 t0 => packG 2#7 pr 9#5 t1 t0
  | .divuw pr t1 t0 => packG 2#7 pr 10#5 t1 t0
  | .remw pr t1 t0 => packG 2#7 pr 11#5 t1 t0
  | .remuw pr t1 t0 => packG 2#7 pr 12#5 t1 t0
  | .clz pr t1 t0 => packG 3#7 pr 0#5 t1 t0
  | .ctz pr t1 t0 => packG 3#7 pr 1#5 t1 t0
  | .popc pr t1 t0 => packG 3#7 pr 2#5 t1 t0
  | .brev pr t1 t0 => packG 3#7 pr 3#5 t1 t0
  | .bswap pr t1 t0 => packG 3#7 pr 4#5 t1 t0
  | .sextb pr t1 t0 => packG 3#7 pr 5#5 t1 t0
  | .sexth pr t1 t0 => packG 3#7 pr 6#5 t1 t0
  | .sextw pr t1 t0 => packG 3#7 pr 7#5 t1 t0
  | .zextb pr t1 t0 => packG 3#7 pr 8#5 t1 t0
  | .zexth pr t1 t0 => packG 3#7 pr 9#5 t1 t0
  | .zextw pr t1 t0 => packG 3#7 pr 10#5 t1 t0
  | .addi pr imm t0 => packI 4#7 pr imm t0
  | .andi pr imm t0 => packI 5#7 pr imm t0
  | .ori pr imm t0 => packI 6#7 pr imm t0
  | .xori pr imm t0 => packI 7#7 pr imm t0
  | .shli pr cnt t0 => packI 8#7 pr (BitVec.ofNat 14 (cnt.toNat)) t0
  | .shri pr cnt t0 => packI 9#7 pr (BitVec.ofNat 14 (cnt.toNat)) t0
  | .sari pr cnt t0 => packI 10#7 pr (BitVec.ofNat 14 (cnt.toNat)) t0
  | .muli pr imm t0 => packI 11#7 pr imm t0
  | .ext pr len pos t0 => packI 12#7 pr (BitVec.ofNat 14 (len.toNat * 2 ^ 6 + pos.toNat)) t0
  | .exts pr len pos t0 => packI 13#7 pr (BitVec.ofNat 14 (len.toNat * 2 ^ 6 + pos.toNat)) t0
  | .ins pr len pos t0 => packI 14#7 pr (BitVec.ofNat 14 (len.toNat * 2 ^ 6 + pos.toNat)) t0
  | .lea1 pr t1 t0 => packG 15#7 pr 0#5 t1 t0
  | .lea2 pr t1 t0 => packG 15#7 pr 1#5 t1 t0
  | .lea4 pr t1 t0 => packG 15#7 pr 2#5 t1 t0
  | .lea8 pr t1 t0 => packG 15#7 pr 3#5 t1 t0
  | .lea16 pr t1 t0 => packG 15#7 pr 4#5 t1 t0
  | .teq pr t1 t0 => packG 16#7 pr 0#5 t1 t0
  | .tne pr t1 t0 => packG 16#7 pr 1#5 t1 t0
  | .tlt pr t1 t0 => packG 16#7 pr 2#5 t1 t0
  | .tle pr t1 t0 => packG 16#7 pr 3#5 t1 t0
  | .tgt pr t1 t0 => packG 16#7 pr 4#5 t1 t0
  | .tge pr t1 t0 => packG 16#7 pr 5#5 t1 t0
  | .tltu pr t1 t0 => packG 16#7 pr 6#5 t1 t0
  | .tleu pr t1 t0 => packG 16#7 pr 7#5 t1 t0
  | .tgtu pr t1 t0 => packG 16#7 pr 8#5 t1 t0
  | .tgeu pr t1 t0 => packG 16#7 pr 9#5 t1 t0
  | .tbs pr t1 t0 => packG 16#7 pr 10#5 t1 t0
  | .tbc pr t1 t0 => packG 16#7 pr 11#5 t1 t0
  | .teqi pr imm t0 => packI 17#7 pr imm t0
  | .tnei pr imm t0 => packI 18#7 pr imm t0
  | .tlti pr imm t0 => packI 19#7 pr imm t0
  | .tlei pr imm t0 => packI 20#7 pr imm t0
  | .tgti pr imm t0 => packI 21#7 pr imm t0
  | .tgei pr imm t0 => packI 22#7 pr imm t0
  | .tltui pr imm t0 => packI 23#7 pr imm t0
  | .tgeui pr imm t0 => packI 24#7 pr imm t0
  | .genc imm t0 => packC 25#7 imm t0
  | .appc imm t0 => packC 26#7 imm t0
  | .mov pr t1 t0 => packG 27#7 pr 0#5 t1 t0
  | .movi pr imm t0 => packI 28#7 pr imm t0
  | .null pr t1 t0 => packG 29#7 pr 0#5 t1 t0
  | .br pr exit off => packB 32#7 pr exit off
  | .call pr exit off => packB 33#7 pr exit off
  | .badr pr imm t0 => packI 34#7 pr imm t0
  | .bri pr exit => packG 35#7 pr (BitVec.ofNat 5 (exit.toNat)) 511#9 511#9
  | .calli pr exit => packG 36#7 pr (BitVec.ofNat 5 (exit.toNat)) 511#9 511#9
  | .ret pr exit => packG 37#7 pr (BitVec.ofNat 5 (exit.toNat)) 511#9 511#9
  | .faddD pr rm t1 t0 => packG 40#7 pr (BitVec.ofNat 5 (rm.toNat)) t1 t0
  | .fsubD pr rm t1 t0 => packG 40#7 pr (BitVec.ofNat 5 (4 + rm.toNat)) t1 t0
  | .fmulD pr rm t1 t0 => packG 40#7 pr (BitVec.ofNat 5 (8 + rm.toNat)) t1 t0
  | .fdivD pr rm t1 t0 => packG 40#7 pr (BitVec.ofNat 5 (12 + rm.toNat)) t1 t0
  | .fsqrtD pr rm t1 t0 => packG 40#7 pr (BitVec.ofNat 5 (16 + rm.toNat)) t1 t0
  | .fmaD rm t1 t0 => packG 40#7 0#2 (BitVec.ofNat 5 (20 + rm.toNat)) t1 t0
  | .fmsD rm t1 t0 => packG 40#7 0#2 (BitVec.ofNat 5 (24 + rm.toNat)) t1 t0
  | .fnmaD rm t1 t0 => packG 40#7 0#2 (BitVec.ofNat 5 (28 + rm.toNat)) t1 t0
  | .faddS pr rm t1 t0 => packG 41#7 pr (BitVec.ofNat 5 (rm.toNat)) t1 t0
  | .fsubS pr rm t1 t0 => packG 41#7 pr (BitVec.ofNat 5 (4 + rm.toNat)) t1 t0
  | .fmulS pr rm t1 t0 => packG 41#7 pr (BitVec.ofNat 5 (8 + rm.toNat)) t1 t0
  | .fdivS pr rm t1 t0 => packG 41#7 pr (BitVec.ofNat 5 (12 + rm.toNat)) t1 t0
  | .fsqrtS pr rm t1 t0 => packG 41#7 pr (BitVec.ofNat 5 (16 + rm.toNat)) t1 t0
  | .fmaS rm t1 t0 => packG 41#7 0#2 (BitVec.ofNat 5 (20 + rm.toNat)) t1 t0
  | .fmsS rm t1 t0 => packG 41#7 0#2 (BitVec.ofNat 5 (24 + rm.toNat)) t1 t0
  | .fnmaS rm t1 t0 => packG 41#7 0#2 (BitVec.ofNat 5 (28 + rm.toNat)) t1 t0
  | .fmin pr wid t1 t0 => packG 42#7 pr (BitVec.ofNat 5 (wid.toNat * 2 ^ 4)) t1 t0
  | .fmax pr wid t1 t0 => packG 42#7 pr (BitVec.ofNat 5 (wid.toNat * 2 ^ 4 + 1)) t1 t0
  | .fneg pr wid t1 t0 => packG 42#7 pr (BitVec.ofNat 5 (wid.toNat * 2 ^ 4 + 2)) t1 t0
  | .fabs pr wid t1 t0 => packG 42#7 pr (BitVec.ofNat 5 (wid.toNat * 2 ^ 4 + 3)) t1 t0
  | .fcpys pr wid t1 t0 => packG 42#7 pr (BitVec.ofNat 5 (wid.toNat * 2 ^ 4 + 4)) t1 t0
  | .fclass pr wid t1 t0 => packG 42#7 pr (BitVec.ofNat 5 (wid.toNat * 2 ^ 4 + 5)) t1 t0
  | .fteq pr wid t1 t0 => packG 43#7 pr (BitVec.ofNat 5 (wid.toNat * 2 ^ 4)) t1 t0
  | .ftlt pr wid t1 t0 => packG 43#7 pr (BitVec.ofNat 5 (wid.toNat * 2 ^ 4 + 1)) t1 t0
  | .ftle pr wid t1 t0 => packG 43#7 pr (BitVec.ofNat 5 (wid.toNat * 2 ^ 4 + 2)) t1 t0
  | .ftun pr wid t1 t0 => packG 43#7 pr (BitVec.ofNat 5 (wid.toNat * 2 ^ 4 + 3)) t1 t0
  | .fcvtDS pr t1 t0 => packG 44#7 pr 0#5 t1 t0
  | .fcvtSD pr rm t1 t0 => packG 44#7 pr (BitVec.ofNat 5 (4 + rm.toNat)) t1 t0
  | .fcvtDI pr rm t1 t0 => packG 44#7 pr (BitVec.ofNat 5 (8 + rm.toNat)) t1 t0
  | .fcvtDN pr rm t1 t0 => packG 44#7 pr (BitVec.ofNat 5 (12 + rm.toNat)) t1 t0
  | .fcvtID pr rm t1 t0 => packG 44#7 pr (BitVec.ofNat 5 (16 + rm.toNat)) t1 t0
  | .fcvtND pr rm t1 t0 => packG 44#7 pr (BitVec.ofNat 5 (20 + rm.toNat)) t1 t0
  | .fcvtSI pr rm t1 t0 => packG 44#7 pr (BitVec.ofNat 5 (24 + rm.toNat)) t1 t0
  | .fcvtIS pr rm t1 t0 => packG 44#7 pr (BitVec.ofNat 5 (28 + rm.toNat)) t1 t0
  | .ld1 pr lsid imm t0 => packG 48#7 pr lsid imm t0
  | .ld1s pr lsid imm t0 => packG 49#7 pr lsid imm t0
  | .ld2 pr lsid imm t0 => packG 50#7 pr lsid imm t0
  | .ld2s pr lsid imm t0 => packG 51#7 pr lsid imm t0
  | .ld4 pr lsid imm t0 => packG 52#7 pr lsid imm t0
  | .ld4s pr lsid imm t0 => packG 53#7 pr lsid imm t0
  | .ld8 pr lsid imm t0 => packG 54#7 pr lsid imm t0
  | .tstfe pr lsid imm t0 => packG 55#7 pr lsid imm t0
  | .ldw1 pr lsid imm t0 => packG 56#7 pr lsid imm t0
  | .ldw2 pr lsid imm t0 => packG 57#7 pr lsid imm t0
  | .ldw4 pr lsid imm t0 => packG 58#7 pr lsid imm t0
  | .ldw8 pr lsid imm t0 => packG 59#7 pr lsid imm t0
  | .ldc1 pr lsid imm t0 => packG 60#7 pr lsid imm t0
  | .ldc2 pr lsid imm t0 => packG 61#7 pr lsid imm t0
  | .ldc4 pr lsid imm t0 => packG 62#7 pr lsid imm t0
  | .ldc8 pr lsid imm t0 => packG 63#7 pr lsid imm t0
  | .st1 pr lsid imm => packS 64#7 pr lsid imm
  | .st2 pr lsid imm => packS 65#7 pr lsid imm
  | .st4 pr lsid imm => packS 66#7 pr lsid imm
  | .st8 pr lsid imm => packS 67#7 pr lsid imm
  | .stf1 pr lsid imm => packS 68#7 pr lsid imm
  | .stf2 pr lsid imm => packS 69#7 pr lsid imm
  | .stf4 pr lsid imm => packS 70#7 pr lsid imm
  | .stf8 pr lsid imm => packS 71#7 pr lsid imm
  | .ste1 pr lsid imm => packS 72#7 pr lsid imm
  | .ste2 pr lsid imm => packS 73#7 pr lsid imm
  | .ste4 pr lsid imm => packS 74#7 pr lsid imm
  | .ste8 pr lsid imm => packS 75#7 pr lsid imm
  | .amo pr lsid aop wid t0 => packG 76#7 pr lsid (BitVec.ofNat 9 (aop.toNat * 2 ^ 4 + wid.toNat * 2 ^ 3)) t0
  | .cas lsid wid t0 => packG 77#7 0#2 lsid (BitVec.ofNat 9 (wid.toNat * 2 ^ 3)) t0
  | .red pr lsid aop wid => packS 78#7 pr lsid (BitVec.ofNat 18 (aop.toNat * 2 ^ 13 + wid.toNat * 2 ^ 12))
  | .fence pr scope => packG 79#7 pr (BitVec.ofNat 5 (scope.toNat)) 511#9 511#9
  | .qpush pr lim => packG 80#7 pr lim 511#9 511#9
  | .qpop pr lim t1 t0 => packG 81#7 pr lim t1 t0
  | .qpeek pr t1 t0 => packG 82#7 pr 0#5 t1 t0
  | .qstat pr t1 t0 => packG 83#7 pr 0#5 t1 t0
  | .qcfg pr t1 t0 => packG 84#7 pr 0#5 t1 t0
  | .cqpop pr lim t1 t0 => packG 85#7 pr lim t1 t0
  | .cqpush pr lim => packG 86#7 pr lim 511#9 511#9
  | .wait pr full lim t0 => packI 87#7 pr (BitVec.ofNat 14 (full.toNat * 2 ^ 5 + lim.toNat)) t0
  | .mfs pr id t0 => packI 88#7 pr (BitVec.ofNat 14 (id.toNat)) t0
  | .mts pr id => packI 89#7 pr (BitVec.ofNat 14 (id.toNat)) 511#9
  | .trap pr code => packI 90#7 pr code 511#9
  | .eret pr => packG 91#7 pr 0#5 511#9 511#9
  | .halt pr => packG 92#7 pr 0#5 511#9 511#9
  | .pause pr units t0 => packI 93#7 pr units t0
  | .rseed pr t1 t0 => packG 94#7 pr 0#5 t1 t0
  | .rnext pr t1 t0 => packG 95#7 pr 0#5 t1 t0
  | .spawnc pr t1 t0 => packG 96#7 pr 0#5 t1 t0
  | .cfgld pr t1 t0 => packG 97#7 pr 0#5 t1 t0
  | .cfgstrm pr t1 t0 => packG 98#7 pr 0#5 t1 t0
  | .cfgsw pr t1 t0 => packG 99#7 pr 0#5 t1 t0
  | .cfgabort pr t1 t0 => packG 100#7 pr 0#5 t1 t0
  | .arm pr t1 t0 => packG 101#7 pr 0#5 t1 t0
  | .drain pr t1 t0 => packG 102#7 pr 0#5 t1 t0
  | .inject pr => packG 103#7 pr 0#5 511#9 511#9
  | .sinkrd pr t1 t0 => packG 104#7 pr 0#5 t1 t0
  | .kwait pr lim t1 t0 => packG 105#7 pr lim t1 t0
  | .cpy pr mode => packG 106#7 pr (BitVec.ofNat 5 (mode.toNat)) 511#9 511#9
  | .cpyfeOut pr => packG 107#7 pr 0#5 511#9 511#9
  | .cpyfeIn pr => packG 107#7 pr 1#5 511#9 511#9
  | .impose pr => packG 108#7 pr 0#5 511#9 511#9
  | .imprel pr => packG 109#7 pr 0#5 511#9 511#9
  | .allocT pr t1 t0 => packG 110#7 pr 0#5 t1 t0
  | .allocN pr t1 t0 => packG 110#7 pr 1#5 t1 t0
  | .free pr => packG 111#7 pr 0#5 511#9 511#9
  | .poolgrow pr => packG 112#7 pr 0#5 511#9 511#9
  | .cwprobe pr t1 t0 => packG 113#7 pr 0#5 t1 t0
  | .cwstore pr => packG 114#7 pr 0#5 511#9 511#9
  | .cwinv pr => packG 115#7 pr 0#5 511#9 511#9
  | .dgst pr => packG 116#7 pr 0#5 511#9 511#9
  | .wcfg pr => packG 120#7 pr 0#5 511#9 511#9
  | .wrun pr => packG 121#7 pr 0#5 511#9 511#9
  | .wld pr wd km => packEW 122#7 pr 0#5 wd 0#5 0#5 km
  | .wst pr wd km => packEW 122#7 pr 1#5 wd 0#5 0#5 km
  | .wmovD pr wd wa km => packEW 123#7 pr 0#5 wd wa 0#5 km
  | .waddD pr wd wa wb km => packEW 123#7 pr 1#5 wd wa wb km
  | .wmulD pr wd wa wb km => packEW 123#7 pr 2#5 wd wa wb km
  | .wfmaD pr wd wa wb km => packEW 123#7 pr 3#5 wd wa wb km
  | .wminD pr wd wa wb km => packEW 123#7 pr 4#5 wd wa wb km
  | .wmaxD pr wd wa wb km => packEW 123#7 pr 5#5 wd wa wb km
  | .wcmpD pr cond kd wa wb km => packEW 123#7 pr 6#5 (BitVec.ofNat 5 (cond.toNat * 2 ^ 3 + kd.toNat)) wa wb km
  | .wselD pr wd wa wb km => packEW 123#7 pr 7#5 wd wa wb km
  | .wcvtD pr wd wa kind km => packEW 123#7 pr 8#5 wd wa kind km
  | .wredD pr wd wa rop km => packEW 123#7 pr 9#5 wd wa (BitVec.ofNat 5 (rop.toNat)) km
  | .wvarD pr wd wa opt km => packEW 123#7 pr 10#5 wd wa (BitVec.ofNat 5 (opt.toNat)) km
  | .wshufD pr wd wa wb km => packEW 123#7 pr 11#5 wd wa wb km
  | .wmovS pr wd wa km => packEW 124#7 pr 0#5 wd wa 0#5 km
  | .waddS pr wd wa wb km => packEW 124#7 pr 1#5 wd wa wb km
  | .wmulS pr wd wa wb km => packEW 124#7 pr 2#5 wd wa wb km
  | .wfmaS pr wd wa wb km => packEW 124#7 pr 3#5 wd wa wb km
  | .wminS pr wd wa wb km => packEW 124#7 pr 4#5 wd wa wb km
  | .wmaxS pr wd wa wb km => packEW 124#7 pr 5#5 wd wa wb km
  | .wcmpS pr cond kd wa wb km => packEW 124#7 pr 6#5 (BitVec.ofNat 5 (cond.toNat * 2 ^ 3 + kd.toNat)) wa wb km
  | .wselS pr wd wa wb km => packEW 124#7 pr 7#5 wd wa wb km
  | .wcvtS pr wd wa kind km => packEW 124#7 pr 8#5 wd wa kind km
  | .wredS pr wd wa rop km => packEW 124#7 pr 9#5 wd wa (BitVec.ofNat 5 (rop.toNat)) km
  | .wvarS pr wd wa opt km => packEW 124#7 pr 10#5 wd wa (BitVec.ofNat 5 (opt.toNat)) km
  | .wshufS pr wd wa wb km => packEW 124#7 pr 11#5 wd wa wb km
  | .xacc pr xd wa wb ksel => packEX 125#7 pr 0#5 xd 0#2 wa wb ksel
  | .xadd pr xd xs => packEX 125#7 pr 1#5 xd xs 0#5 0#5 0#3
  | .xclr pr xd => packEX 125#7 pr 2#5 xd 0#2 0#5 0#5 0#3
  | .xmov pr xd xs => packEX 125#7 pr 3#5 xd xs 0#5 0#5 0#3
  | .xst pr xs => packEX 125#7 pr 3#5 0#2 xs 0#5 0#5 1#3
  | .xld pr xd => packEX 125#7 pr 3#5 xd 0#2 0#5 0#5 2#3
  | .xsgn pr acc t1 t0 => packG 126#7 pr (BitVec.ofNat 5 (acc.toNat)) t1 t0
  | .xrnd pr rm acc t1 t0 => packG 126#7 pr (BitVec.ofNat 5 (16 + rm.toNat * 2 ^ 2 + acc.toNat)) t1 t0
  | .blockFetch _ _ => 0#32
  | .resultDelivery _ _ _ => 0#32
  | .blockEnd _ _ => 0#32
  | .waitRetry _ _ _ => 0#32
  | .reservationExpire _ => 0#32
  | .claimWaitEnd _ _ _ => 0#32
  | .queueWaitRetry _ _ _ => 0#32
  | .qtimeout _ _ _ => 0#32
  | .cqCombine _ => 0#32
  | .waitPoll _ _ _ => 0#32
  | .waitTimeout _ _ _ => 0#32
  | .pauseDone _ _ _ => 0#32
  | .kwaitDone _ _ _ => 0#32
  | .kwaitLimitExpire _ _ _ => 0#32
  | .cfgswDrainDone _ _ _ => 0#32
  | .stagingClaimWaitEnd _ _ _ => 0#32
  | .injectSlotRetry _ _ _ => 0#32
  | .wideApply _ => 0#32
  | .wrunIteration _ => 0#32
  | .elementFire _ _ _ => 0#32
  | .killArrive _ _ _ _ => 0#32
  | .killDiscard _ _ _ _ => 0#32
  | .lutfDigit _ _ => 0#32
  | .meStepDone _ _ => 0#32
  | .spRepresent _ _ _ => 0#32
  | .feTimeout _ _ _ => 0#32
  | .extentFetch _ _ _ => 0#32
  | .spillRetry _ _ _ => 0#32
  | .gapplyToken _ => 0#32
  | .tokenReply _ => 0#32
  | .regionError _ => 0#32
  | .invalidation _ _ _ _ => 0#32
  | .qTailWrite _ _ => 0#32
  | .qCtlWrite _ _ => 0#32
  | .registerWrite _ _ _ => 0#32
  | .submissionTake _ => 0#32
  | .replayStart _ => 0#32
  | .replayEnd _ => 0#32
  | .nodeFinish _ _ => 0#32
  | .taskPlace _ => 0#32
  | .taskRetire _ => 0#32
  | .indirectCountRead _ _ => 0#32
  | .launchCount _ _ => 0#32
  | .condPredicateRead _ _ => 0#32
  | .loopIteration _ _ => 0#32
  | .nodeWaitTimeout _ _ => 0#32
  | .stepsyncMessage _ _ _ _ => 0#32
  | .cwDecide _ => 0#32
  | .copyComplete _ _ => 0#32
  | .completionWrite _ _ => 0#32
  | .enginePageResume _ _ => 0#32
  | .imposeComplete _ => 0#32
  | .dgstComplete _ => 0#32
  | .preemptRequest _ => 0#32
  | .preemptSave _ _ => 0#32
  | .containment _ _ => 0#32
  | .faultDetect _ _ _ _ _ => 0#32
  | .selfTestStart _ _ => 0#32
  | .selfTestEnd _ _ _ _ => 0#32
  | .patrolBist _ _ _ => 0#32
  | .mCmdPreempt  => 0#32
  | .mCmdEndGraph  => 0#32
  | .mCmdAttest  => 0#32
  | .mCmdClearFence  => 0#32
  | .mCmdRecover _ => 0#32
  | .mCmdSetHwlim  => 0#32
  | .mCmdRefused _ => 0#32
  | .mCmdComplete  => 0#32
  | .mStatusRead  => 0#32
  | .bar2Access _ _ _ _ => 0#32
  | .aperturePlain _ _ _ _ => 0#32
  | .apertureWaitingLoad _ => 0#32
  | .apertureFillingStore _ _ => 0#32
  | .apertureConsumingLoad _ => 0#32
  | .apertureClearingStore _ _ => 0#32
  | .apertureTest _ => 0#32
  | .hostWaitExpire _ => 0#32
  | .msixUnmask _ => 0#32
  | .functionLevelReset  => 0#32
  | .deviceReset  => 0#32
  | .bootStage _ => 0#32
  | .linkFrameReceive _ _ _ _ _ _ => 0#32
  | .linkDown _ => 0#32
  | .channelBind _ _ _ _ => 0#32
  | .clockThrottle _ => 0#32
  | .clQreqSet _ => 0#32
  | .clQreqClear _ => 0#32
  | .clusterQuiesceAck _ => 0#32
  | .clSaveGo _ => 0#32
  | .clusterSaveDone _ _ => 0#32
  | .clClkgGate _ => 0#32
  | .clRailOff _ => 0#32
  | .railGoodFall _ => 0#32
  | .clWakeGo _ => 0#32
  | .clusterWakeDone _ _ _ => 0#32
  | .clQackWrite _ => 0#32
  | .asidTeardown _ => 0#32
  | .tileReset _ => 0#32
  | .forcedPowerLoss _ => 0#32
  | .crossingSlotArrival _ _ _ => 0#32
  | .configurationRequest  => 0#32

/-- The assigned codes of an opcode's sub-field, counted from 0: op, lowest bit and length of the sub-field, and how many
codes the opcode map lists (07 R148). An opcode not listed here has no sub-codes. -/
def subCodes : List (Nat × Nat × Nat × Nat) :=
  [(0x01, 18, 5, 19), (0x02, 18, 5, 13), (0x03, 18, 5, 11), (0x0F, 18, 5, 5), (0x10, 18, 5, 12), (0x2A, 18, 4, 6),
   (0x2B, 18, 4, 4), (0x7A, 18, 5, 2), (0x7B, 18, 5, 12), (0x7C, 18, 5, 12), (0x7D, 18, 5, 4)]

/-- Opcodes that the map assigns (07 R148). -/
def opAssigned (op : Nat) : Bool :=
  !(op == 0 || op == 0x1E || op == 0x1F || op == 0x26 || op == 0x27 || (0x2D ≤ op && op ≤ 0x2F) || (0x75 ≤ op && op ≤ 0x77) || op == 0x7F)

/-- The instructions whose third operand takes slot 0b10 and whose pr must be 00 (07 R146): FMA, FMS, FNMA and CAS. -/
def threeOperand (w : IWord) : Bool :=
  let op := (fOp w).toNat
  op == 0x4D || ((op == 0x28 || op == 0x29) && 5 ≤ (fXHigh3 w).toNat)

/-- A word that order 4 of R153 refuses: reserved op, unassigned sub-code, pr = 0b01, or a three-operand instruction with
pr ≠ 00; and, where the word is a row of the table, a row whose operation fields are not assigned. -/
def wordIllegal (w : IWord) : Bool :=
  let op := (fOp w).toNat
  !opAssigned op
    || subCodes.any (fun r => r.1 == op && r.2.2.2 ≤ bits w.toNat r.2.1 r.2.2.1)
    || (op == 0x7D && (fX w).toNat == 3 && 3 ≤ (fKsel w).toNat)
    || (op != 0x19 && op != 0x1A && fPr w == 1#2)
    || (threeOperand w && fPr w != 0#2)
    || (op == 0x4C && !aopAmo (fWd w)) || (op == 0x4E && !aopRed (fWd w))
    || (op == 0x4F && !scopeOk (fXLow3 w))
    || ((op == 0x58 || op == 0x59) && !spregOk (fId w))
    || (op == 0x7B && (fX w).toNat == 8 && !kindOk 6 (fWb w)) || (op == 0x7C && (fX w).toNat == 8 && !kindOk 12 (fWb w))
    || ((op == 0x7B || op == 0x7C) && (fX w).toNat == 9 && !redOk (fRed w))

/-- A word that order 5 of R153 refuses, where order 4 does not: a sub-field that must be zero, an unused target that is not
0x1FF, a reserved target, or a bit field beyond bit 63. -/
def wordReserved (w : IWord) : Bool :=
  match decode w with
  | none => true
  | some i => !i.wellFormed

/-! ### Bytes (00 R10; 07 R137) -/

/-- The instruction word in four bytes, the first at the lowest address: little-endian. -/
def wordOfBytes : List Byte → Option IWord
  | [a, b, c, d] => some (BitVec.ofNat 32 (a.toNat + 256 * b.toNat + 65536 * c.toNat + 16777216 * d.toNat))
  | _ => none

/-- The bytes of an instruction word as memory holds them. -/
def bytesOfWord (w : IWord) : List Byte :=
  [BitVec.ofNat 8 w.toNat, BitVec.ofNat 8 (w.toNat / 256), BitVec.ofNat 8 (w.toNat / 65536), BitVec.ofNat 8 (w.toNat / 16777216)]

/-- The instruction in four bytes. A word that no row of the table has is refused. -/
def decodeBytes (bs : List Byte) : Option Instr :=
  match wordOfBytes bs with
  | none => none
  | some w => decode w

/-- What the decoder reads from an instruction whose bits are w, numbered as the opcode table numbers them: one 32-bit word, the bits
above nbits 0. -/
def decodeTableWord (nbits w : Nat) : Option Instr := decodeBytes (bytesOfWord (BitVec.ofNat 32 (w % 2 ^ nbits)))

end Sys2Proof
end

