-- ==== Sys2Proof/Machine/Shape.lean ====
section
/-! DEFINITION. The operand slots, predication and targets of every instruction (07 R142, R146, R148), read from the
instruction alone: what firing (09 R176) and the checks of a block at fetch (07 R142, R144) need. -/

namespace Sys2Proof.Machine

open Sys2Proof

/-- The slots an instruction takes, its predication and its target fields. -/
structure Shape where
  left : Bool
  right : Bool
  /-- the opcode's own third operand -/
  third : Bool
  pr : BitVec 2 := 0
  t0 : Target := noTarget
  t1 : Target := noTarget
  deriving DecidableEq, Repr

/-- The shape of an instruction (07 R148, "Slots"). An event takes no slot. -/
def shape : Instr → Shape
  | .add pr t1 t0 => ⟨true, true, false, pr, t0, t1⟩
  | .sub pr t1 t0 => ⟨true, true, false, pr, t0, t1⟩
  | .and pr t1 t0 => ⟨true, true, false, pr, t0, t1⟩
  | .or pr t1 t0 => ⟨true, true, false, pr, t0, t1⟩
  | .xor pr t1 t0 => ⟨true, true, false, pr, t0, t1⟩
  | .andn pr t1 t0 => ⟨true, true, false, pr, t0, t1⟩
  | .orn pr t1 t0 => ⟨true, true, false, pr, t0, t1⟩
  | .xnor pr t1 t0 => ⟨true, true, false, pr, t0, t1⟩
  | .shl pr t1 t0 => ⟨true, true, false, pr, t0, t1⟩
  | .shr pr t1 t0 => ⟨true, true, false, pr, t0, t1⟩
  | .sar pr t1 t0 => ⟨true, true, false, pr, t0, t1⟩
  | .rol pr t1 t0 => ⟨true, true, false, pr, t0, t1⟩
  | .ror pr t1 t0 => ⟨true, true, false, pr, t0, t1⟩
  | .min pr t1 t0 => ⟨true, true, false, pr, t0, t1⟩
  | .max pr t1 t0 => ⟨true, true, false, pr, t0, t1⟩
  | .minu pr t1 t0 => ⟨true, true, false, pr, t0, t1⟩
  | .maxu pr t1 t0 => ⟨true, true, false, pr, t0, t1⟩
  | .addw pr t1 t0 => ⟨true, true, false, pr, t0, t1⟩
  | .subw pr t1 t0 => ⟨true, true, false, pr, t0, t1⟩
  | .mul pr t1 t0 => ⟨true, true, false, pr, t0, t1⟩
  | .mulh pr t1 t0 => ⟨true, true, false, pr, t0, t1⟩
  | .mulhu pr t1 t0 => ⟨true, true, false, pr, t0, t1⟩
  | .mulhsu pr t1 t0 => ⟨true, true, false, pr, t0, t1⟩
  | .div pr t1 t0 => ⟨true, true, false, pr, t0, t1⟩
  | .divu pr t1 t0 => ⟨true, true, false, pr, t0, t1⟩
  | .rem pr t1 t0 => ⟨true, true, false, pr, t0, t1⟩
  | .remu pr t1 t0 => ⟨true, true, false, pr, t0, t1⟩
  | .mulw pr t1 t0 => ⟨true, true, false, pr, t0, t1⟩
  | .divw pr t1 t0 => ⟨true, true, false, pr, t0, t1⟩
  | .divuw pr t1 t0 => ⟨true, true, false, pr, t0, t1⟩
  | .remw pr t1 t0 => ⟨true, true, false, pr, t0, t1⟩
  | .remuw pr t1 t0 => ⟨true, true, false, pr, t0, t1⟩
  | .clz pr t1 t0 => ⟨true, false, false, pr, t0, t1⟩
  | .ctz pr t1 t0 => ⟨true, false, false, pr, t0, t1⟩
  | .popc pr t1 t0 => ⟨true, false, false, pr, t0, t1⟩
  | .brev pr t1 t0 => ⟨true, false, false, pr, t0, t1⟩
  | .bswap pr t1 t0 => ⟨true, false, false, pr, t0, t1⟩
  | .sextb pr t1 t0 => ⟨true, false, false, pr, t0, t1⟩
  | .sexth pr t1 t0 => ⟨true, false, false, pr, t0, t1⟩
  | .sextw pr t1 t0 => ⟨true, false, false, pr, t0, t1⟩
  | .zextb pr t1 t0 => ⟨true, false, false, pr, t0, t1⟩
  | .zexth pr t1 t0 => ⟨true, false, false, pr, t0, t1⟩
  | .zextw pr t1 t0 => ⟨true, false, false, pr, t0, t1⟩
  | .addi pr _ t0 => ⟨true, false, false, pr, t0, noTarget⟩
  | .andi pr _ t0 => ⟨true, false, false, pr, t0, noTarget⟩
  | .ori pr _ t0 => ⟨true, false, false, pr, t0, noTarget⟩
  | .xori pr _ t0 => ⟨true, false, false, pr, t0, noTarget⟩
  | .shli pr _ t0 => ⟨true, false, false, pr, t0, noTarget⟩
  | .shri pr _ t0 => ⟨true, false, false, pr, t0, noTarget⟩
  | .sari pr _ t0 => ⟨true, false, false, pr, t0, noTarget⟩
  | .muli pr _ t0 => ⟨true, false, false, pr, t0, noTarget⟩
  | .ext pr _ _ t0 => ⟨true, false, false, pr, t0, noTarget⟩
  | .exts pr _ _ t0 => ⟨true, false, false, pr, t0, noTarget⟩
  | .ins pr _ _ t0 => ⟨true, true, false, pr, t0, noTarget⟩
  | .lea1 pr t1 t0 => ⟨true, true, false, pr, t0, t1⟩
  | .lea2 pr t1 t0 => ⟨true, true, false, pr, t0, t1⟩
  | .lea4 pr t1 t0 => ⟨true, true, false, pr, t0, t1⟩
  | .lea8 pr t1 t0 => ⟨true, true, false, pr, t0, t1⟩
  | .lea16 pr t1 t0 => ⟨true, true, false, pr, t0, t1⟩
  | .teq pr t1 t0 => ⟨true, true, false, pr, t0, t1⟩
  | .tne pr t1 t0 => ⟨true, true, false, pr, t0, t1⟩
  | .tlt pr t1 t0 => ⟨true, true, false, pr, t0, t1⟩
  | .tle pr t1 t0 => ⟨true, true, false, pr, t0, t1⟩
  | .tgt pr t1 t0 => ⟨true, true, false, pr, t0, t1⟩
  | .tge pr t1 t0 => ⟨true, true, false, pr, t0, t1⟩
  | .tltu pr t1 t0 => ⟨true, true, false, pr, t0, t1⟩
  | .tleu pr t1 t0 => ⟨true, true, false, pr, t0, t1⟩
  | .tgtu pr t1 t0 => ⟨true, true, false, pr, t0, t1⟩
  | .tgeu pr t1 t0 => ⟨true, true, false, pr, t0, t1⟩
  | .tbs pr t1 t0 => ⟨true, true, false, pr, t0, t1⟩
  | .tbc pr t1 t0 => ⟨true, true, false, pr, t0, t1⟩
  | .teqi pr _ t0 => ⟨true, false, false, pr, t0, noTarget⟩
  | .tnei pr _ t0 => ⟨true, false, false, pr, t0, noTarget⟩
  | .tlti pr _ t0 => ⟨true, false, false, pr, t0, noTarget⟩
  | .tlei pr _ t0 => ⟨true, false, false, pr, t0, noTarget⟩
  | .tgti pr _ t0 => ⟨true, false, false, pr, t0, noTarget⟩
  | .tgei pr _ t0 => ⟨true, false, false, pr, t0, noTarget⟩
  | .tltui pr _ t0 => ⟨true, false, false, pr, t0, noTarget⟩
  | .tgeui pr _ t0 => ⟨true, false, false, pr, t0, noTarget⟩
  | .genc _ t0 => ⟨false, false, false, 0#2, t0, noTarget⟩
  | .appc _ t0 => ⟨true, false, false, 0#2, t0, noTarget⟩
  | .mov pr t1 t0 => ⟨true, false, false, pr, t0, t1⟩
  | .movi pr _ t0 => ⟨false, false, false, pr, t0, noTarget⟩
  | .null pr t1 t0 => ⟨false, false, false, pr, t0, t1⟩
  | .br pr _ _ => ⟨false, false, false, pr, noTarget, noTarget⟩
  | .call pr _ _ => ⟨false, false, false, pr, noTarget, noTarget⟩
  | .badr pr _ t0 => ⟨false, false, false, pr, t0, noTarget⟩
  | .bri pr _ => ⟨true, false, false, pr, noTarget, noTarget⟩
  | .calli pr _ => ⟨true, false, false, pr, noTarget, noTarget⟩
  | .ret pr _ => ⟨true, false, false, pr, noTarget, noTarget⟩
  | .faddD pr _ t1 t0 => ⟨true, true, false, pr, t0, t1⟩
  | .fsubD pr _ t1 t0 => ⟨true, true, false, pr, t0, t1⟩
  | .fmulD pr _ t1 t0 => ⟨true, true, false, pr, t0, t1⟩
  | .fdivD pr _ t1 t0 => ⟨true, true, false, pr, t0, t1⟩
  | .fsqrtD pr _ t1 t0 => ⟨true, false, false, pr, t0, t1⟩
  | .fmaD _ t1 t0 => ⟨true, true, true, 0#2, t0, t1⟩
  | .fmsD _ t1 t0 => ⟨true, true, true, 0#2, t0, t1⟩
  | .fnmaD _ t1 t0 => ⟨true, true, true, 0#2, t0, t1⟩
  | .faddS pr _ t1 t0 => ⟨true, true, false, pr, t0, t1⟩
  | .fsubS pr _ t1 t0 => ⟨true, true, false, pr, t0, t1⟩
  | .fmulS pr _ t1 t0 => ⟨true, true, false, pr, t0, t1⟩
  | .fdivS pr _ t1 t0 => ⟨true, true, false, pr, t0, t1⟩
  | .fsqrtS pr _ t1 t0 => ⟨true, false, false, pr, t0, t1⟩
  | .fmaS _ t1 t0 => ⟨true, true, true, 0#2, t0, t1⟩
  | .fmsS _ t1 t0 => ⟨true, true, true, 0#2, t0, t1⟩
  | .fnmaS _ t1 t0 => ⟨true, true, true, 0#2, t0, t1⟩
  | .fmin pr _ t1 t0 => ⟨true, true, false, pr, t0, t1⟩
  | .fmax pr _ t1 t0 => ⟨true, true, false, pr, t0, t1⟩
  | .fneg pr _ t1 t0 => ⟨true, false, false, pr, t0, t1⟩
  | .fabs pr _ t1 t0 => ⟨true, false, false, pr, t0, t1⟩
  | .fcpys pr _ t1 t0 => ⟨true, true, false, pr, t0, t1⟩
  | .fclass pr _ t1 t0 => ⟨true, false, false, pr, t0, t1⟩
  | .fteq pr _ t1 t0 => ⟨true, true, false, pr, t0, t1⟩
  | .ftlt pr _ t1 t0 => ⟨true, true, false, pr, t0, t1⟩
  | .ftle pr _ t1 t0 => ⟨true, true, false, pr, t0, t1⟩
  | .ftun pr _ t1 t0 => ⟨true, true, false, pr, t0, t1⟩
  | .fcvtDS pr t1 t0 => ⟨true, false, false, pr, t0, t1⟩
  | .fcvtSD pr _ t1 t0 => ⟨true, false, false, pr, t0, t1⟩
  | .fcvtDI pr _ t1 t0 => ⟨true, false, false, pr, t0, t1⟩
  | .fcvtDN pr _ t1 t0 => ⟨true, false, false, pr, t0, t1⟩
  | .fcvtID pr _ t1 t0 => ⟨true, false, false, pr, t0, t1⟩
  | .fcvtND pr _ t1 t0 => ⟨true, false, false, pr, t0, t1⟩
  | .fcvtSI pr _ t1 t0 => ⟨true, false, false, pr, t0, t1⟩
  | .fcvtIS pr _ t1 t0 => ⟨true, false, false, pr, t0, t1⟩
  | .ld1 pr _ _ t0 => ⟨true, false, false, pr, t0, noTarget⟩
  | .ld1s pr _ _ t0 => ⟨true, false, false, pr, t0, noTarget⟩
  | .ld2 pr _ _ t0 => ⟨true, false, false, pr, t0, noTarget⟩
  | .ld2s pr _ _ t0 => ⟨true, false, false, pr, t0, noTarget⟩
  | .ld4 pr _ _ t0 => ⟨true, false, false, pr, t0, noTarget⟩
  | .ld4s pr _ _ t0 => ⟨true, false, false, pr, t0, noTarget⟩
  | .ld8 pr _ _ t0 => ⟨true, false, false, pr, t0, noTarget⟩
  | .tstfe pr _ _ t0 => ⟨true, false, false, pr, t0, noTarget⟩
  | .ldw1 pr _ _ t0 => ⟨true, false, false, pr, t0, noTarget⟩
  | .ldw2 pr _ _ t0 => ⟨true, false, false, pr, t0, noTarget⟩
  | .ldw4 pr _ _ t0 => ⟨true, false, false, pr, t0, noTarget⟩
  | .ldw8 pr _ _ t0 => ⟨true, false, false, pr, t0, noTarget⟩
  | .ldc1 pr _ _ t0 => ⟨true, false, false, pr, t0, noTarget⟩
  | .ldc2 pr _ _ t0 => ⟨true, false, false, pr, t0, noTarget⟩
  | .ldc4 pr _ _ t0 => ⟨true, false, false, pr, t0, noTarget⟩
  | .ldc8 pr _ _ t0 => ⟨true, false, false, pr, t0, noTarget⟩
  | .st1 pr _ _ => ⟨true, true, false, pr, noTarget, noTarget⟩
  | .st2 pr _ _ => ⟨true, true, false, pr, noTarget, noTarget⟩
  | .st4 pr _ _ => ⟨true, true, false, pr, noTarget, noTarget⟩
  | .st8 pr _ _ => ⟨true, true, false, pr, noTarget, noTarget⟩
  | .stf1 pr _ _ => ⟨true, true, false, pr, noTarget, noTarget⟩
  | .stf2 pr _ _ => ⟨true, true, false, pr, noTarget, noTarget⟩
  | .stf4 pr _ _ => ⟨true, true, false, pr, noTarget, noTarget⟩
  | .stf8 pr _ _ => ⟨true, true, false, pr, noTarget, noTarget⟩
  | .ste1 pr _ _ => ⟨true, true, false, pr, noTarget, noTarget⟩
  | .ste2 pr _ _ => ⟨true, true, false, pr, noTarget, noTarget⟩
  | .ste4 pr _ _ => ⟨true, true, false, pr, noTarget, noTarget⟩
  | .ste8 pr _ _ => ⟨true, true, false, pr, noTarget, noTarget⟩
  | .amo pr _ _ _ t0 => ⟨true, true, false, pr, t0, noTarget⟩
  | .cas _ _ t0 => ⟨true, true, true, 0#2, t0, noTarget⟩
  | .red pr _ _ _ => ⟨true, true, false, pr, noTarget, noTarget⟩
  | .fence pr _ => ⟨false, false, false, pr, noTarget, noTarget⟩
  | .qpush pr _ => ⟨true, true, false, pr, noTarget, noTarget⟩
  | .qpop pr _ t1 t0 => ⟨true, true, false, pr, t0, t1⟩
  | .qpeek pr t1 t0 => ⟨true, true, false, pr, t0, t1⟩
  | .qstat pr t1 t0 => ⟨true, false, false, pr, t0, t1⟩
  | .qcfg pr t1 t0 => ⟨true, true, false, pr, t0, t1⟩
  | .cqpop pr _ t1 t0 => ⟨true, false, false, pr, t0, t1⟩
  | .cqpush pr _ => ⟨true, false, false, pr, noTarget, noTarget⟩
  | .wait pr _ _ t0 => ⟨true, false, false, pr, t0, noTarget⟩
  | .mfs pr _ t0 => ⟨false, false, false, pr, t0, noTarget⟩
  | .mts pr _ => ⟨true, false, false, pr, noTarget, noTarget⟩
  | .trap pr _ => ⟨false, false, false, pr, noTarget, noTarget⟩
  | .eret pr => ⟨false, false, false, pr, noTarget, noTarget⟩
  | .halt pr => ⟨false, false, false, pr, noTarget, noTarget⟩
  | .pause pr _ t0 => ⟨false, false, false, pr, t0, noTarget⟩
  | .rseed pr t1 t0 => ⟨true, false, false, pr, t0, t1⟩
  | .rnext pr t1 t0 => ⟨true, false, false, pr, t0, t1⟩
  | .spawnc pr t1 t0 => ⟨true, true, false, pr, t0, t1⟩
  | .cfgld pr t1 t0 => ⟨true, false, false, pr, t0, t1⟩
  | .cfgstrm pr t1 t0 => ⟨true, true, false, pr, t0, t1⟩
  | .cfgsw pr t1 t0 => ⟨false, false, false, pr, t0, t1⟩
  | .cfgabort pr t1 t0 => ⟨false, false, false, pr, t0, t1⟩
  | .arm pr t1 t0 => ⟨true, false, false, pr, t0, t1⟩
  | .drain pr t1 t0 => ⟨false, false, false, pr, t0, t1⟩
  | .inject pr => ⟨true, true, false, pr, noTarget, noTarget⟩
  | .sinkrd pr t1 t0 => ⟨true, false, false, pr, t0, t1⟩
  | .kwait pr _ t1 t0 => ⟨false, false, false, pr, t0, t1⟩
  | .cpy pr _ => ⟨true, false, false, pr, noTarget, noTarget⟩
  | .cpyfeOut pr => ⟨true, false, false, pr, noTarget, noTarget⟩
  | .cpyfeIn pr => ⟨true, false, false, pr, noTarget, noTarget⟩
  | .impose pr => ⟨true, false, false, pr, noTarget, noTarget⟩
  | .imprel pr => ⟨true, false, false, pr, noTarget, noTarget⟩
  | .allocT pr t1 t0 => ⟨true, true, false, pr, t0, t1⟩
  | .allocN pr t1 t0 => ⟨true, true, false, pr, t0, t1⟩
  | .free pr => ⟨true, true, false, pr, noTarget, noTarget⟩
  | .poolgrow pr => ⟨true, true, false, pr, noTarget, noTarget⟩
  | .cwprobe pr t1 t0 => ⟨true, false, false, pr, t0, t1⟩
  | .cwstore pr => ⟨true, false, false, pr, noTarget, noTarget⟩
  | .cwinv pr => ⟨true, false, false, pr, noTarget, noTarget⟩
  | .dgst pr => ⟨true, false, false, pr, noTarget, noTarget⟩
  | .wcfg pr => ⟨true, false, false, pr, noTarget, noTarget⟩
  | .wrun pr => ⟨true, false, false, pr, noTarget, noTarget⟩
  | .wld pr _ _ => ⟨true, true, false, pr, noTarget, noTarget⟩
  | .wst pr _ _ => ⟨true, true, false, pr, noTarget, noTarget⟩
  | .wmovD pr _ _ _ => ⟨false, false, false, pr, noTarget, noTarget⟩
  | .waddD pr _ _ _ _ => ⟨false, false, false, pr, noTarget, noTarget⟩
  | .wmulD pr _ _ _ _ => ⟨false, false, false, pr, noTarget, noTarget⟩
  | .wfmaD pr _ _ _ _ => ⟨false, false, false, pr, noTarget, noTarget⟩
  | .wminD pr _ _ _ _ => ⟨false, false, false, pr, noTarget, noTarget⟩
  | .wmaxD pr _ _ _ _ => ⟨false, false, false, pr, noTarget, noTarget⟩
  | .wcmpD pr _ _ _ _ _ => ⟨false, false, false, pr, noTarget, noTarget⟩
  | .wselD pr _ _ _ _ => ⟨false, false, false, pr, noTarget, noTarget⟩
  | .wcvtD pr _ _ _ _ => ⟨false, false, false, pr, noTarget, noTarget⟩
  | .wredD pr _ _ _ _ => ⟨false, false, false, pr, noTarget, noTarget⟩
  | .wvarD pr _ _ _ _ => ⟨false, false, false, pr, noTarget, noTarget⟩
  | .wshufD pr _ _ _ _ => ⟨false, false, false, pr, noTarget, noTarget⟩
  | .wmovS pr _ _ _ => ⟨false, false, false, pr, noTarget, noTarget⟩
  | .waddS pr _ _ _ _ => ⟨false, false, false, pr, noTarget, noTarget⟩
  | .wmulS pr _ _ _ _ => ⟨false, false, false, pr, noTarget, noTarget⟩
  | .wfmaS pr _ _ _ _ => ⟨false, false, false, pr, noTarget, noTarget⟩
  | .wminS pr _ _ _ _ => ⟨false, false, false, pr, noTarget, noTarget⟩
  | .wmaxS pr _ _ _ _ => ⟨false, false, false, pr, noTarget, noTarget⟩
  | .wcmpS pr _ _ _ _ _ => ⟨false, false, false, pr, noTarget, noTarget⟩
  | .wselS pr _ _ _ _ => ⟨false, false, false, pr, noTarget, noTarget⟩
  | .wcvtS pr _ _ _ _ => ⟨false, false, false, pr, noTarget, noTarget⟩
  | .wredS pr _ _ _ _ => ⟨false, false, false, pr, noTarget, noTarget⟩
  | .wvarS pr _ _ _ _ => ⟨false, false, false, pr, noTarget, noTarget⟩
  | .wshufS pr _ _ _ _ => ⟨false, false, false, pr, noTarget, noTarget⟩
  | .xacc pr _ _ _ _ => ⟨false, false, false, pr, noTarget, noTarget⟩
  | .xadd pr _ _ => ⟨false, false, false, pr, noTarget, noTarget⟩
  | .xclr pr _ => ⟨false, false, false, pr, noTarget, noTarget⟩
  | .xmov pr _ _ => ⟨false, false, false, pr, noTarget, noTarget⟩
  | .xst pr _ => ⟨true, false, false, pr, noTarget, noTarget⟩
  | .xld pr _ => ⟨true, false, false, pr, noTarget, noTarget⟩
  | .xsgn pr _ t1 t0 => ⟨false, false, false, pr, t0, t1⟩
  | .xrnd pr _ _ t1 t0 => ⟨false, false, false, pr, t0, t1⟩
  | .blockFetch _ _ => ⟨false, false, false, 0#2, noTarget, noTarget⟩
  | .resultDelivery _ _ _ => ⟨false, false, false, 0#2, noTarget, noTarget⟩
  | .blockEnd _ _ => ⟨false, false, false, 0#2, noTarget, noTarget⟩
  | .waitRetry _ _ _ => ⟨false, false, false, 0#2, noTarget, noTarget⟩
  | .reservationExpire _ => ⟨false, false, false, 0#2, noTarget, noTarget⟩
  | .claimWaitEnd _ _ _ => ⟨false, false, false, 0#2, noTarget, noTarget⟩
  | .queueWaitRetry _ _ _ => ⟨false, false, false, 0#2, noTarget, noTarget⟩
  | .qtimeout _ _ _ => ⟨false, false, false, 0#2, noTarget, noTarget⟩
  | .cqCombine _ => ⟨false, false, false, 0#2, noTarget, noTarget⟩
  | .waitPoll _ _ _ => ⟨false, false, false, 0#2, noTarget, noTarget⟩
  | .waitTimeout _ _ _ => ⟨false, false, false, 0#2, noTarget, noTarget⟩
  | .pauseDone _ _ _ => ⟨false, false, false, 0#2, noTarget, noTarget⟩
  | .kwaitDone _ _ _ => ⟨false, false, false, 0#2, noTarget, noTarget⟩
  | .kwaitLimitExpire _ _ _ => ⟨false, false, false, 0#2, noTarget, noTarget⟩
  | .cfgswDrainDone _ _ _ => ⟨false, false, false, 0#2, noTarget, noTarget⟩
  | .stagingClaimWaitEnd _ _ _ => ⟨false, false, false, 0#2, noTarget, noTarget⟩
  | .injectSlotRetry _ _ _ => ⟨false, false, false, 0#2, noTarget, noTarget⟩
  | .wideApply _ => ⟨false, false, false, 0#2, noTarget, noTarget⟩
  | .wrunIteration _ => ⟨false, false, false, 0#2, noTarget, noTarget⟩
  | .elementFire _ _ _ => ⟨false, false, false, 0#2, noTarget, noTarget⟩
  | .killArrive _ _ _ _ => ⟨false, false, false, 0#2, noTarget, noTarget⟩
  | .killDiscard _ _ _ _ => ⟨false, false, false, 0#2, noTarget, noTarget⟩
  | .lutfDigit _ _ => ⟨false, false, false, 0#2, noTarget, noTarget⟩
  | .meStepDone _ _ => ⟨false, false, false, 0#2, noTarget, noTarget⟩
  | .spRepresent _ _ _ => ⟨false, false, false, 0#2, noTarget, noTarget⟩
  | .feTimeout _ _ _ => ⟨false, false, false, 0#2, noTarget, noTarget⟩
  | .extentFetch _ _ _ => ⟨false, false, false, 0#2, noTarget, noTarget⟩
  | .spillRetry _ _ _ => ⟨false, false, false, 0#2, noTarget, noTarget⟩
  | .gapplyToken _ => ⟨false, false, false, 0#2, noTarget, noTarget⟩
  | .tokenReply _ => ⟨false, false, false, 0#2, noTarget, noTarget⟩
  | .regionError _ => ⟨false, false, false, 0#2, noTarget, noTarget⟩
  | .invalidation _ _ _ _ => ⟨false, false, false, 0#2, noTarget, noTarget⟩
  | .qTailWrite _ _ => ⟨false, false, false, 0#2, noTarget, noTarget⟩
  | .qCtlWrite _ _ => ⟨false, false, false, 0#2, noTarget, noTarget⟩
  | .registerWrite _ _ _ => ⟨false, false, false, 0#2, noTarget, noTarget⟩
  | .submissionTake _ => ⟨false, false, false, 0#2, noTarget, noTarget⟩
  | .replayStart _ => ⟨false, false, false, 0#2, noTarget, noTarget⟩
  | .replayEnd _ => ⟨false, false, false, 0#2, noTarget, noTarget⟩
  | .nodeFinish _ _ => ⟨false, false, false, 0#2, noTarget, noTarget⟩
  | .taskPlace _ => ⟨false, false, false, 0#2, noTarget, noTarget⟩
  | .taskRetire _ => ⟨false, false, false, 0#2, noTarget, noTarget⟩
  | .indirectCountRead _ _ => ⟨false, false, false, 0#2, noTarget, noTarget⟩
  | .launchCount _ _ => ⟨false, false, false, 0#2, noTarget, noTarget⟩
  | .condPredicateRead _ _ => ⟨false, false, false, 0#2, noTarget, noTarget⟩
  | .loopIteration _ _ => ⟨false, false, false, 0#2, noTarget, noTarget⟩
  | .nodeWaitTimeout _ _ => ⟨false, false, false, 0#2, noTarget, noTarget⟩
  | .stepsyncMessage _ _ _ _ => ⟨false, false, false, 0#2, noTarget, noTarget⟩
  | .cwDecide _ => ⟨false, false, false, 0#2, noTarget, noTarget⟩
  | .copyComplete _ _ => ⟨false, false, false, 0#2, noTarget, noTarget⟩
  | .completionWrite _ _ => ⟨false, false, false, 0#2, noTarget, noTarget⟩
  | .enginePageResume _ _ => ⟨false, false, false, 0#2, noTarget, noTarget⟩
  | .imposeComplete _ => ⟨false, false, false, 0#2, noTarget, noTarget⟩
  | .dgstComplete _ => ⟨false, false, false, 0#2, noTarget, noTarget⟩
  | .preemptRequest _ => ⟨false, false, false, 0#2, noTarget, noTarget⟩
  | .preemptSave _ _ => ⟨false, false, false, 0#2, noTarget, noTarget⟩
  | .containment _ _ => ⟨false, false, false, 0#2, noTarget, noTarget⟩
  | .faultDetect _ _ _ _ _ => ⟨false, false, false, 0#2, noTarget, noTarget⟩
  | .selfTestStart _ _ => ⟨false, false, false, 0#2, noTarget, noTarget⟩
  | .selfTestEnd _ _ _ _ => ⟨false, false, false, 0#2, noTarget, noTarget⟩
  | .patrolBist _ _ _ => ⟨false, false, false, 0#2, noTarget, noTarget⟩
  | .mCmdPreempt => ⟨false, false, false, 0#2, noTarget, noTarget⟩
  | .mCmdEndGraph => ⟨false, false, false, 0#2, noTarget, noTarget⟩
  | .mCmdAttest => ⟨false, false, false, 0#2, noTarget, noTarget⟩
  | .mCmdClearFence => ⟨false, false, false, 0#2, noTarget, noTarget⟩
  | .mCmdRecover _ => ⟨false, false, false, 0#2, noTarget, noTarget⟩
  | .mCmdSetHwlim => ⟨false, false, false, 0#2, noTarget, noTarget⟩
  | .mCmdRefused _ => ⟨false, false, false, 0#2, noTarget, noTarget⟩
  | .mCmdComplete => ⟨false, false, false, 0#2, noTarget, noTarget⟩
  | .mStatusRead => ⟨false, false, false, 0#2, noTarget, noTarget⟩
  | .bar2Access _ _ _ _ => ⟨false, false, false, 0#2, noTarget, noTarget⟩
  | .aperturePlain _ _ _ _ => ⟨false, false, false, 0#2, noTarget, noTarget⟩
  | .apertureWaitingLoad _ => ⟨false, false, false, 0#2, noTarget, noTarget⟩
  | .apertureFillingStore _ _ => ⟨false, false, false, 0#2, noTarget, noTarget⟩
  | .apertureConsumingLoad _ => ⟨false, false, false, 0#2, noTarget, noTarget⟩
  | .apertureClearingStore _ _ => ⟨false, false, false, 0#2, noTarget, noTarget⟩
  | .apertureTest _ => ⟨false, false, false, 0#2, noTarget, noTarget⟩
  | .hostWaitExpire _ => ⟨false, false, false, 0#2, noTarget, noTarget⟩
  | .msixUnmask _ => ⟨false, false, false, 0#2, noTarget, noTarget⟩
  | .functionLevelReset => ⟨false, false, false, 0#2, noTarget, noTarget⟩
  | .deviceReset => ⟨false, false, false, 0#2, noTarget, noTarget⟩
  | .bootStage _ => ⟨false, false, false, 0#2, noTarget, noTarget⟩
  | .linkFrameReceive _ _ _ _ _ _ => ⟨false, false, false, 0#2, noTarget, noTarget⟩
  | .linkDown _ => ⟨false, false, false, 0#2, noTarget, noTarget⟩
  | .channelBind _ _ _ _ => ⟨false, false, false, 0#2, noTarget, noTarget⟩
  | .clockThrottle _ => ⟨false, false, false, 0#2, noTarget, noTarget⟩
  | .clQreqSet _ => ⟨false, false, false, 0#2, noTarget, noTarget⟩
  | .clQreqClear _ => ⟨false, false, false, 0#2, noTarget, noTarget⟩
  | .clusterQuiesceAck _ => ⟨false, false, false, 0#2, noTarget, noTarget⟩
  | .clSaveGo _ => ⟨false, false, false, 0#2, noTarget, noTarget⟩
  | .clusterSaveDone _ _ => ⟨false, false, false, 0#2, noTarget, noTarget⟩
  | .clClkgGate _ => ⟨false, false, false, 0#2, noTarget, noTarget⟩
  | .clRailOff _ => ⟨false, false, false, 0#2, noTarget, noTarget⟩
  | .railGoodFall _ => ⟨false, false, false, 0#2, noTarget, noTarget⟩
  | .clWakeGo _ => ⟨false, false, false, 0#2, noTarget, noTarget⟩
  | .clusterWakeDone _ _ _ => ⟨false, false, false, 0#2, noTarget, noTarget⟩
  | .clQackWrite _ => ⟨false, false, false, 0#2, noTarget, noTarget⟩
  | .asidTeardown _ => ⟨false, false, false, 0#2, noTarget, noTarget⟩
  | .tileReset _ => ⟨false, false, false, 0#2, noTarget, noTarget⟩
  | .forcedPowerLoss _ => ⟨false, false, false, 0#2, noTarget, noTarget⟩
  | .crossingSlotArrival _ _ _ => ⟨false, false, false, 0#2, noTarget, noTarget⟩
  | .configurationRequest => ⟨false, false, false, 0#2, noTarget, noTarget⟩

/-- The instruction's lsid and whether it is store-class (07 R144), for the instructions that carry one. -/
def lsidOf : Instr → Option (Nat × Bool)
  | .ld1 _ lsid _ _ => some (lsid.toNat, false)
  | .ld1s _ lsid _ _ => some (lsid.toNat, false)
  | .ld2 _ lsid _ _ => some (lsid.toNat, false)
  | .ld2s _ lsid _ _ => some (lsid.toNat, false)
  | .ld4 _ lsid _ _ => some (lsid.toNat, false)
  | .ld4s _ lsid _ _ => some (lsid.toNat, false)
  | .ld8 _ lsid _ _ => some (lsid.toNat, false)
  | .tstfe _ lsid _ _ => some (lsid.toNat, false)
  | .ldw1 _ lsid _ _ => some (lsid.toNat, false)
  | .ldw2 _ lsid _ _ => some (lsid.toNat, false)
  | .ldw4 _ lsid _ _ => some (lsid.toNat, false)
  | .ldw8 _ lsid _ _ => some (lsid.toNat, false)
  | .ldc1 _ lsid _ _ => some (lsid.toNat, false)
  | .ldc2 _ lsid _ _ => some (lsid.toNat, false)
  | .ldc4 _ lsid _ _ => some (lsid.toNat, false)
  | .ldc8 _ lsid _ _ => some (lsid.toNat, false)
  | .st1 _ lsid _ => some (lsid.toNat, true)
  | .st2 _ lsid _ => some (lsid.toNat, true)
  | .st4 _ lsid _ => some (lsid.toNat, true)
  | .st8 _ lsid _ => some (lsid.toNat, true)
  | .stf1 _ lsid _ => some (lsid.toNat, true)
  | .stf2 _ lsid _ => some (lsid.toNat, true)
  | .stf4 _ lsid _ => some (lsid.toNat, true)
  | .stf8 _ lsid _ => some (lsid.toNat, true)
  | .ste1 _ lsid _ => some (lsid.toNat, true)
  | .ste2 _ lsid _ => some (lsid.toNat, true)
  | .ste4 _ lsid _ => some (lsid.toNat, true)
  | .ste8 _ lsid _ => some (lsid.toNat, true)
  | .amo _ lsid _ _ _ => some (lsid.toNat, true)
  | .cas lsid _ _ => some (lsid.toNat, true)
  | .red _ lsid _ _ => some (lsid.toNat, true)
  | _ => none

/-- The exit number of an exit instruction that carries one (07 R144). -/
def exitNoOf : Instr → Option Nat
  | .br _ exit _ => some exit.toNat
  | .call _ exit _ => some exit.toNat
  | .bri _ exit => some exit.toNat
  | .calli _ exit => some exit.toNat
  | .ret _ exit => some exit.toNat
  | _ => none

/-- The special-register identifier of MFS and MTS (07 R152). -/
def spregOf : Instr → Option Nat
  | .mfs _ id _ => some id.toNat
  | .mts _ id => some id.toNat
  | _ => none

/-- The instruction is firmware-only (07 R139, R152): ERET, or an MFS or MTS of an identifier from 0x800 upward. -/
def firmwareOnly : Instr → Bool
  | .eret _ => true
  | .mfs _ id _ => 0x800 ≤ id.toNat
  | .mts _ id => 0x800 ≤ id.toNat
  | _ => false

/-- CALL and CALLI, which write g2 (09 R178, R181). -/
def isCall : Instr → Bool
  | .call _ _ _ => true
  | .calli _ _ => true
  | _ => false

end Sys2Proof.Machine
end

