-- ==== Sys2Proof/Config.lean ====
section
/-! DEFINITION. What the manual leaves to the part and gives no value: constants without a body, so that every statement
holds whatever they are.

Each is applied to the model's counter of free values (`Core.free`), which a use advances, or to what it depends on. -/

namespace Sys2Proof

/-- A public key pair that verifies dual signatures (07 R174; 21 R412): the point of its ECDSA half; the typecodes of its LMS half, and that
half's identifier of 16 bytes and root of 32, as the numbers that their bytes are, most significant first. -/
structure SigKey where
  x : Nat
  y : Nat
  lms : Nat
  ots : Nat
  ident : Nat
  root : Nat
  deriving DecidableEq, Repr

end Sys2Proof

namespace Sys2Proof.Config

/-- The die's entropy source (11 R238): the n-th fresh 64-bit value. A free value: DESIGN CHOICE,
log 11. -/
opaque entropy : Nat → BitVec 64

/-- The address, bits [63:0], of the firmware exit block, whose only effect is HALT (01 R27, 11 R240): firmware's choice.
A free value: DESIGN CHOICE, log 13. -/
opaque exitBlock : BitVec 64

/-- A value that the manual leaves open: the n-th taken. A free value: DESIGN CHOICE, log 14. -/
opaque unstated : Nat → BitVec 64

/-- The bytes of the record that carries a key pair (21 R412), whose layout the manual does not give. A free value: DESIGN CHOICE, log 15. -/
opaque keyRecord : SigKey → List (BitVec 8)

/-- The 16-bit security version in the header of firmware of these bytes (21 R413), whose layout the manual does not give. A free value:
DESIGN CHOICE, log 15. -/
opaque securityVersion : List Nat → BitVec 16

end Sys2Proof.Config
end

