-- ==== Sys2Proof/Machine/State.lean ====
section
/-! DEFINITION. The state of the Adieger package, as plain data, and the reasons a step can stop.

Numbers that the manual counts (clk, indices, addresses of memory cells) are natural numbers; register contents are bit
vectors. Collections with many equal members (tiles, elements, queues) are sparse association lists: a key that is not
listed has the default named beside the list. -/

namespace Sys2Proof.Machine

open Sys2Proof

/-! ### Blocks in flight (09) -/

/-- What a slot or a write entry holds: a value or a null (09 R176). -/
inductive Operand where
  | val (w : Word)
  | null
  deriving DecidableEq, Repr

/-- How far an instruction of a block in flight has come (09 R176, R180). -/
inductive Phase where
  /-- It has not fired. -/
  | idle
  /-- It has fired and waits: for its word, its queue, a time or a drain. -/
  | waiting
  /-- It has performed. -/
  | performed
  /-- It was nullified by a null operand. -/
  | nullified
  /-- Its predicate did not match. -/
  | mismatched
  /-- It has trapped. -/
  | trapped
  deriving DecidableEq, Repr

/-- One instruction of a block in flight: its three operand slots (07 R142) and its phase. -/
structure InstState where
  left : Option Operand := none
  right : Option Operand := none
  third : Option Operand := none
  phase : Phase := .idle
  deriving DecidableEq, Repr

/-- A value on its way to a target (09 R177, R208): from instruction `src` (128 for a read entry), due at clk `due`. -/
structure InFlight where
  src : Nat
  tgt : Target
  val : Operand
  due : Nat
  deriving DecidableEq, Repr

/-- The memory effects of store-class instructions and consuming loads (11 R212, R214). -/
inductive MemKind where
  /-- plain store -/
  | plain
  /-- filling store -/
  | fill
  /-- clearing store -/
  | clear
  /-- the EMPTY that a consuming load leaves -/
  | consume
  /-- AMO: a data write with the bit unchanged -/
  | amo
  /-- CAS that matched, or did not (then it writes nothing) -/
  | cas (hit : Bool)
  /-- RED, computed at commit with the operation code given -/
  | red (aop : Nat)
  deriving DecidableEq, Repr

/-- One memory effect of a block, decided at fire and made at commit (11 R212, R214). `pa` is the physical byte address. -/
structure MemEff where
  lsid : Nat
  idx : Nat
  kind : MemKind
  pa : Nat
  size : Nat
  data : Word
  deriving DecidableEq, Repr

/-- Who makes an access: the address space, the mode, the tiles whose stash it may reach (05 R91), and the tile whose TLB
serves it, none for the walker alone. -/
structure Who where
  asid : Nat
  fw : Bool
  live : List Nat
  pass : List Nat
  tlb : Option Nat
  deriving DecidableEq, Repr

/-- A mark that the walker has still to make in a page-table entry: the entry as it read it, and whether D is set and TAG becomes STORED
(05 R110, R112; 11 R213). -/
structure PteMark where
  old : Nat
  write : Bool
  conv : Bool
  deriving DecidableEq, Repr

/-- A wide-queue instruction with what it took at fire (17 R325). -/
structure WideOp where
  instr : Instr
  who : Who
  /-- the context that issued it: tile × 4 + context -/
  party : Nat
  /-- S_DSEG at fire -/
  seg : Nat
  /-- its memory words: lane or word number, and physical address (17 R334, R340) -/
  lanes : List (Nat × Nat)
  /-- those whose page was ALL_EMPTY or ALL_FULL at fire: number and virtual address -/
  uni : List (Nat × Nat)
  /-- the descriptor read at fire (17 R337, R338) -/
  words : List Word
  deriving DecidableEq, Repr

/-- An engine command (17 R343): what the instruction read when it fired, in the hands of an engine after commit. -/
structure EngCmd where
  instr : Instr
  who : Who
  party : Nat
  die : Nat
  /-- S_DSEG of the issuer: bits [71:64] of the addresses the command names without their own -/
  seg : Nat
  /-- operand and descriptor words -/
  words : List Word
  /-- how far it has come: words moved, or steps done -/
  done : Nat := 0
  /-- it waits for a page that firmware makes resident (17 R348) -/
  paused : Bool := false
  /-- the node that issued it, when the Sequencer did: replay and node -/
  node : Option (Nat × Nat) := none
  /-- the TASK node of the context that issued it: replay and node -/
  task : Option (Nat × Nat) := none
  /-- IMPOSE: the counts, once the keys are counted, and the patches refused so far -/
  counts : List Nat := []
  refused : Nat := 0
  deriving DecidableEq, Repr

/-- A completion word that stands to be written (17 R344): where, the status, and the node whose finish waits for it. -/
structure Comp where
  who : Who
  va : Nat
  value : Word
  /-- what it speaks for: 0 WRUN, 1 copy engine, 2 Imposer, 3 replay, 4 refused submission, 5 EVENT node, 6 EVENT node that did
  not run (19 R372) -/
  kind : Nat
  /-- the context that issued the command -/
  party : Nat := 0
  node : Option (Nat × Nat) := none
  /-- the TASK node of that context, or the node whose command it was -/
  task : Option (Nat × Nat) := none
  /-- the die whose engine waits with it (17 R344) -/
  die : Nat := 0
  deriving DecidableEq, Repr

/-- A TLB entry (05 R114): ASID, whether global, first page number and log2 of the pages covered, and the leaf's fields. -/
structure TlbEntry where
  asid : Nat
  gl : Bool
  /-- virtual address of the page's first byte -/
  base : Nat
  /-- log2 of the page's size in bytes -/
  lg : Nat
  /-- physical address of the frame -/
  frame : Nat
  /-- the entry's low 16 bits -/
  bits : Nat
  /-- physical address of the entry itself -/
  entry : Nat
  deriving DecidableEq, Repr

/-- The stream of a stream-port slot (07 R158): base, and the counts and strides of dimensions 0 to 3. -/
structure Strm where
  base : Nat := 0
  counts : List Nat := []
  strides : List Int := []
  deriving DecidableEq, Repr

/-- One element's configuration in one plane (07 R155): CTLL, CTLH, LINKS, the context words other than 1, the table image's
bytes, the streams by slot, and the extents that the Collator has patched into each stream port's slot (05 R115; 07 R158). -/
structure Plane where
  ctll : Nat
  ctlh : Nat := 0
  links : Nat := 0
  ctx : List (Nat × Nat) := []
  table : List Nat := []
  strm : List (Nat × Strm) := []
  extents : List (Nat × List TlbEntry) := []
  deriving DecidableEq, Repr

/-- The effects of a block on the world outside the context's own store-class effects, made at commit in ascending
instruction index (11 R214). -/
inductive Effect where
  /-- QPOP, QPEEK, CQPOP: plain stores of words at physical addresses (order 2 of R214) -/
  | stores (ws : List (Nat × Word))
  /-- QPUSH of a record -/
  | qpush (q : Nat) (rec : List Word)
  /-- QPOP of the record with a sequence number -/
  | qpop (q : Nat) (seq : Nat)
  /-- QCFG enable: the ring's first byte in its page and its pages, hardware depth, record words, ring slots, owner -/
  | qenable (q rbase : Nat) (ring : List Nat) (hd rw rs owner : Nat)
  /-- QCFG disable, forced or not -/
  | qdisable (q : Nat) (force : Bool)
  | cqpush (die : Nat) (rec : List Word)
  | cqpop (die : Nat) (seq : Nat)
  /-- MTS of a value to a special register -/
  | mts (id : Nat) (v : Word)
  /-- RSEED: log entry at a physical address -/
  | seed (pa : Nat) (v : Word)
  /-- SPAWNC: context (tile × 4 + context), entry block, spawner's number -/
  | spawn (party : Nat) (entry : VAddr) (who : Nat)
  | fence (scope : Nat)
  | wide (op : WideOp)
  | engine (cmd : EngCmd)
  /-- CFGLD, CFGSTRM: the checked planes, by tile slot × 256 + element, that are written into a region's shadow, and whether they race -/
  | config (region : Nat) (planes : List (Nat × Plane)) (race : Bool)
  | switch (region : Nat)
  /-- CFGABORT: with or without a rollback -/
  | abort (region : Nat) (rolled : Bool)
  | arm (region n : Nat)
  | drain (region : Nat)
  /-- INJECT: destination operand and value (15 R318) -/
  | inject (dst v : Word)
  /-- FREE: pool descriptor, class, the block's address, its word 0 (17 R354) -/
  | pfree (pool cls blk pa : Nat)
  /-- POOLGROW: pool descriptor, chunk, length (17 R355) -/
  | pgrow (pool base len : Nat)
  /-- CWSTORE and CWINV: the descriptor (17 R359) -/
  | cwstore (ws : List Word)
  | cwinv (key : Word)
  deriving DecidableEq, Repr

/-- A trap recorded against an instruction of a block, or against a write entry (index 128): cause and S_EINFO (09 R183). -/
structure Trap where
  idx : Nat
  cause : Nat
  einfo : Word
  deriving DecidableEq, Repr

/-- An instruction that has fired and waits: since when, after how many retries, and when it next tries (05 R101). -/
structure Waiting where
  idx : Nat
  since : Nat
  tries : Nat
  due : Nat
  /-- it waits on a word under R101, and may park -/
  word : Option Nat := none
  /-- the record it read when it fired (11 R228, R232) -/
  data : List Word := []
  deriving DecidableEq, Repr

/-- An exit that has fired: its index, the next block, whether it writes g2, and what else it does (09 R180, R196 to R198). -/
inductive ExitKind where
  | branch
  | call
  | halt
  | eret
  deriving DecidableEq, Repr

structure ExitFired where
  idx : Nat
  kind : ExitKind
  dest : VAddr
  deriving DecidableEq, Repr

/-- A block in flight (07 R137, 09 R175 to R183). -/
structure Block where
  addr : VAddr
  words : List IWord
  /-- the registers its write entries name -/
  writes : List Nat
  /-- what its write entries hold -/
  held : List (Option Operand)
  nr : Nat
  ns : Nat
  /-- fetched with FW = 1 -/
  fw : Bool
  insts : List InstState
  inflight : List InFlight := []
  mems : List MemEff := []
  effs : List (Nat × Effect) := []
  waits : List Waiting := []
  traps : List Trap := []
  exits : List ExitFired := []
  flags : BitVec 5 := 0
  /-- XSGN or XRND has fired: at commit its context counts as a wide issuer (17 R328) -/
  wide : Bool := false
  /-- blocks that ALLOC has taken and commit has not yet confirmed (17 R353): physical address of the pool's descriptor, class,
  the block's address, physical address of its word 0 -/
  allocs : List (Nat × Nat × Nat × Nat) := []
  /-- its commit has begun and stands before a switch of its region, with the effects that are still to be made (01 R36; 15 R323) -/
  late : Option (List Effect) := none
  /-- instructions of which a slot has received a second value that differs from its first (09 R179, R182) -/
  races : List Nat := []
  deriving DecidableEq, Repr

/-! ### Spine contexts (01, 11) -/

/-- The states of a Spine context (01 R27, R28; 05 R104). -/
inductive CtxStatus where
  | idle
  | halted
  /-- ready: its next block may issue -/
  | ready
  /-- its block is in flight -/
  | running
  | parked
  deriving DecidableEq, Repr

/-- A parked context's record (05 R103): the word, KIND, and the record's physical address. -/
structure Park where
  word : Nat
  kind : Nat
  record : Nat
  deriving DecidableEq, Repr

/-- A Spine context. The special registers stand under their names of 11 R241; S_TILE, S_CTX and S_CYCLE are computed. -/
structure Ctx where
  status : CtxStatus := .idle
  pc : VAddr := 0
  /-- g1 to g127; one that is not listed holds 0 -/
  regs : List (Nat × Word) := []
  fw : Bool := false
  asid : BitVec 10 := 0
  mode : BitVec 3 := 0
  budget : BitVec 17 := 0x101FF
  fpflags : BitVec 5 := 0
  dseg : BitVec 8 := 0
  seedlog : Word := 0
  rkey : Word := 0
  rstream : Word := 0
  utvec : Word := 0
  ucause : BitVec 8 := 0
  uepc : Word := 0
  ueinfo : Word := 0
  cause : BitVec 8 := 0
  epc : Word := 0
  einfo : Word := 0
  estat : Word := 0
  tvec : Word := 0
  scratch : Word := 0
  /-- the next block is the first of a trap handler (21 R399) -/
  handler : Bool := false
  /-- scope of a FENCE whose context has accesses still to perform, 0 for none (11 R222) -/
  fence : Nat := 0
  /-- the context whose SPAWNC has claimed this one (11 R240) -/
  spawnedBy : Option Nat := none
  park : Option Park := none
  block : Option Block := none
  deriving DecidableEq, Repr

/-! ### Tiles and regions (01) -/

/-- A fence on a tile (01 R22, 21 R409). -/
inductive Fence where
  | none
  | routerSound
  | routerFaulty
  deriving DecidableEq, Repr

/-- An exact accumulator (03 R78): the integer a, its class (0 FINITE, 1 POSINF, 2 NEGINF, 3 NAN) and OVF. -/
structure Acc where
  a : Int := 0
  cls : Nat := 0
  ovf : Bool := false
  deriving DecidableEq, Repr

/-- A streamed run in progress (17 R339): its WRUN, the iterations done, each stage's last outputs (stage × 16 + lane), the
flags collected, and the error that ended it early. -/
structure WideRun where
  op : WideOp
  n : Nat := 0
  prev : List (Nat × Word) := []
  flags : BitVec 5 := 0
  deriving DecidableEq, Repr

/-- The wide unit of a tile (17 R324): w0 to w31 (register × 16 + lane), k1 to k7, x0 to x3, the stage program of seven words,
the run, and the only issuer in a deterministic task (R328). What is not listed is 0. -/
structure Wide where
  w : List (Nat × Word) := []
  k : List (Nat × BitVec 16) := []
  x : List (Nat × Acc) := []
  prog : List Word := []
  run : Option WideRun := none
  issuer : Option Nat := none
  deriving DecidableEq, Repr

/-- A tile. Context c is `ctxs` at c; a context that is not listed is idle with every register at its reset value. -/
structure Tile where
  ctxs : List (Nat × Ctx) := []
  /-- the context whose block ended last (01 R28) -/
  last : Nat := 3
  tlb : List TlbEntry := []
  fence : Fence := .none
  /-- the region whose footprint holds the tile -/
  region : Option Nat := none
  /-- S_CYCLE while the tile is clock-gated (23 R429) -/
  stopped : Option Nat := none
  /-- clk at which S_CYCLE was 0 -/
  cycle0 : Nat := 0
  /-- cycles that the tile's own clock has counted beyond `State.now` (00 R1) -/
  ahead : Nat := 0
  wide : Wide := {}
  /-- the wide queue, oldest first; beyond 64 the rest of an over-long block (17 R325) -/
  wq : List WideOp := []
  deriving DecidableEq, Repr

/-- The claim on a region's staging place (15 R311): context and instruction. -/
structure Staging where
  party : Nat
  idx : Nat
  deriving DecidableEq, Repr

/-! ### The fabric (07, 13, 15) -/

/-- A channel flit (03 R61): kind (0 head, 1 digit, 2 word, 3 colophon), op tag, lane mask, payload. `sid` is the model's: the
number of its producer's stream, which a kill names (13 R266); and `arm` the number of its arming, which an error record names
(21 R399). -/
structure Flit where
  kind : Nat
  tag : Nat
  mask : Nat
  payload : Nat
  sid : Nat := 0
  arm : Nat := 0
  deriving DecidableEq, Repr

/-- One lane of an operand of an online operation (03 R62 to R65): its head, the digits received, how it ended, and whether it is
dead (13 R265). `pend` says that a decision made it dead and the count of R270 has still to see the next flit. -/
structure ILane where
  cls : Nat := 0
  sign : Bool := false
  e : Int := 0
  p : Nat := 0
  seq : Nat := 0
  digits : List Int := []
  ended : Bool := false
  cut : Bool := false
  last : Bool := false
  mark : Bool := false
  dead : Bool := false
  pend : Bool := false
  /-- digits brought since it is dead (03 R64, R67) -/
  lost : Nat := 0
  deriving DecidableEq, Repr

/-- The head of one lane (03 R62). -/
structure Head where
  cls : Nat
  sign : Bool
  e : Int
  p : Nat
  seq : Nat
  deriving DecidableEq, Repr

/-- One lane of an operation's output: the input head flit that opened it, its head once known, the digits formed and how many
have left, the firings since every input ended, the decision made (13 R252: digit and outcome), and whether it is cut. -/
structure OLane where
  grp : Nat := 0
  head : Option Head := none
  headSent : Bool := false
  zs : List Int := []
  sent : Nat := 0
  extra : Nat := 0
  dec : Option (Nat × Int) := none
  cut : Bool := false
  deriving DecidableEq, Repr

/-- The sum of a group of ACC in one lane (13 R259): an integer times a power of 16, the zero sign, the class, the scales and
caps seen, and the streams taken. -/
structure GroupSum where
  m : Int := 0
  x : Int := 0
  zs : Bool := true
  cls : Nat := 0
  lo : Int := 0
  hi : Int := 0
  pmin : Nat := 0
  pall : Nat := 0
  n : Nat := 0
  deriving DecidableEq, Repr

/-- What a source or a stream port has still to do (15 R316, R317): an arming, or a kettle to emit. -/
inductive Agenda where
  | arm
  | kettle (n : Nat)
  deriving DecidableEq, Repr

/-- An element access of a stream port that has been issued and whose value has not left the port: its number in the arming, the
value once it has returned (`some none` for a position without one). -/
structure PortElem where
  n : Nat
  val : Option (Option Nat)
  deriving DecidableEq, Repr

/-- A spilled element (05 R117): slot, number, virtual address, value to store; once it is translated and waits for its word, since when,
and when it is presented next (05 R102). -/
structure Spill where
  slot : Nat
  n : Nat
  va : Nat
  v : Nat
  since : Option Nat := none
  due : Nat := 0
  deriving DecidableEq, Repr

/-- The operation of one slot in progress (21 R406, "per-slot operation state"). -/
structure SlotOp where
  /-- lanes of its operands: operand × 4 + lane -/
  ins : List (Nat × ILane) := []
  /-- lanes of its output -/
  outs : List (Nat × OLane) := []
  /-- input head flits taken; streams opened (13 R247) -/
  groups : Nat := 0
  streams : Nat := 0
  /-- the number of its output stream -/
  sid : Nat := 0
  /-- flits formed that have still to leave -/
  queue : List Flit := []
  /-- values or flits held: operand A and operand B -/
  bufA : List Nat := []
  bufB : List Nat := []
  cnt : Nat := 0
  /-- a word stream is open on an operand -/
  opened : Bool := false
  openedB : Bool := false
  sums : List (Nat × GroupSum) := []
  crc : Nat := 0
  /-- output routes dead for the current stream (13 R265) -/
  dead : List Nat := []
  /-- its output has been abandoned (13 R267) -/
  abandoned : Bool := false
  /-- digits that have left on each route: port × 4 + lane (03 R64) -/
  routed : List (Nat × Nat) := []
  /-- input ports whose flits are discarded up to the colophon (13 R266, R267) -/
  discard : List Nat := []
  /-- the tag and number of the stream under way on each input port (13 R266) -/
  under : List (Nat × (Nat × Nat)) := []
  /-- sources: what is still to be done, the arming under way, elements issued and performed in it, its armings completed -/
  agenda : List Agenda := []
  busy : Bool := false
  issued : Nat := 0
  performed : Nat := 0
  armings : Nat := 0
  /-- extents that the walker has patched in (05 R115) -/
  extents : List TlbEntry := []
  /-- it waits for extents -/
  paused : Bool := false
  elems : List PortElem := []
  /-- a presence access waits: since when, and when it is presented next (15 R292) -/
  since : Option Nat := none
  due : Nat := 0
  /-- halted by an error until the region is drained or replaced (15 R309); with `barred`, by DET_ATOMIC or DET_FPRED, which no drain lifts -/
  halted : Bool := false
  barred : Bool := false
  /-- the number of the arming that it works for (21 R399) -/
  arm : Nat := 0
  /-- the flit whose accesses are being made, and the lanes done (15 R291) -/
  taking : Option Flit := none
  lanes : Nat := 0
  /-- the number of the latest kettle it has forwarded -/
  kettle : Nat := 0
  /-- flits stranded when a kettle passed (21 R403) -/
  stranded : Nat := 0
  /-- the rest of the arming or pattern is passed over (15 R289), or PROBE's decision is made (15 R306) -/
  done : Bool := false
  deriving DecidableEq, Repr

/-- DONE, MATCH and DIFF of a PROBE element (15 R321). -/
structure Probe where
  done : Bool := false
  matched : Bool := false
  diff : Nat := 0
  deriving DecidableEq, Repr

/-- An element (00 R7): its two planes, the operations of its slots, its inputs and what it counts. -/
structure Elem where
  planeA : Plane
  planeB : Plane
  ops : List (Nat × SlotOp) := []
  /-- context counter: the slot it points at (13 R243) -/
  counter : Nat := 0
  /-- busy with an earlier firing until this clk -/
  busyTo : Nat := 0
  /-- the clk of the last firing -/
  lastFire : Option Nat := none
  /-- flits at the inputs N, E, S, W: 0 to 3 -/
  ins : List (Nat × List Flit) := []
  /-- flits in crossing slots on the way to an input, with the clk at which each may arrive (15 R279) -/
  cross : List (Nat × List (Flit × Nat)) := []
  loc : Option Flit := none
  /-- the CTL input, and the contexts that hold a slot of it (15 R318) -/
  ctl : List Flit := []
  ctlHeld : List Nat := []
  inject : Word := 0
  sink : Flit := ⟨0, 0, 0, 0, 0, 0⟩
  sinkValid : Bool := false
  /-- CUTOFF and REPLACED (13 R270); APPLIED of MB, ELEMS of SP, KETTLES of UE, DIGEST (15 R321) -/
  cutoff : Nat := 0
  replaced : Nat := 0
  count : Nat := 0
  digest : Nat := 0
  /-- the registers of its PROBE operation (15 R321) -/
  probe : Probe := {}
  /-- held sums of an ME: i × 16 + j (13 R271) -/
  held : List (Nat × Nat) := []
  /-- when the held sums are final (13 R273) -/
  settled : Nat := 0
  /-- spill queue of an SP (05 R117) -/
  spill : List Spill := []
  /-- tags taken, slot × 64 + tag: each SPAWN slot has a pool of its own (01 R40) -/
  tags : List Nat := []
  /-- the clk in which each input port last discarded a flit (13 R244) -/
  drops : List (Nat × Nat) := []
  deriving DecidableEq, Repr

/-- A kill on its way to a producer (13 R266): the producer's tile, element and output port, tag and stream, and the clk when it was sent. -/
structure Kill where
  tile : Nat
  elem : Nat
  port : Nat
  tag : Nat
  sid : Nat
  sent : Nat
  deriving DecidableEq, Repr

/-- A token of the token mesh (15 R285, R293): the requester's tile, element, slot and position, the access, the physical
address, the value; `reply` holds what comes back. -/
structure Token where
  tile : Nat
  elem : Nat
  slot : Nat
  pos : Nat
  /-- 0 to 3 load forms, 4 plain store, 5 filling, 6 clearing, 8 + SOP for an update -/
  op : Nat
  typ : Nat
  size : Nat
  pa : Nat
  /-- the bit of its page's words while the page is ALL_EMPTY or ALL_FULL -/
  uni : Option Bool := none
  v : Nat
  since : Nat
  reply : Option Nat := none
  /-- the node whose task made it, once the task has retired (01 R19) -/
  node : Option (Nat × Nat) := none
  deriving DecidableEq, Repr

/-! ### Regions (01 R20 to R50; 15 R310 to R322; 19 R390; 21 R399 to R411) -/

/-- How far a placed task is. -/
inductive Progress where
  | running
  /-- a catchword node in steps 2 to 5 of 19 R390 -/
  | probing
  /-- a pre-emption has been requested: contexts and elements halt -/
  | halting
  /-- halted on REPLICA_MISMATCH until the host ends it -/
  | mismatch
  deriving DecidableEq, Repr

/-- The catchword decision of a placed node (19 R390): the step, the descriptor, and the entry found: present, its fields. -/
structure CwRun where
  step : Nat
  desc : List Word
  hit : Bool
  out : Nat := 0
  deriving DecidableEq, Repr

/-- A placed task and its region. -/
structure Region where
  die : Nat
  ox : Nat
  oy : Nat
  w : Nat
  h : Nat
  /-- live tiles in slot order (R23) -/
  live : List Nat
  ptmask : Nat
  asid : Nat
  mode : BitVec 3
  /-- replay and node address -/
  node : Option (Nat × Nat)
  prio : Nat := 0
  /-- gang number within its replay, 0 for none -/
  gang : Nat := 0
  tcount : Nat := 0
  stashres : Nat := 0
  stats : Nat := 0
  progress : Progress := .running
  cw : Option CwRun := none
  staging : Option Staging := none
  phase : Nat := 0
  /-- plane B is active -/
  activeB : Bool := false
  staged : Bool := false
  race : Bool := false
  /-- the shadow plane was loaded permissive with a race -/
  raceShadow : Bool := false
  stranded : Nat := 0
  /-- armings made, and whether one was made since the latest kettle -/
  arms : Nat := 0
  armedSince : Bool := false
  /-- latest kettle's number, and the sinks it has still to reach (tile × 4096 + element × 16 + slot) -/
  kettle : Nat := 0
  sinks : List Nat := []
  switches : Nat := 0
  rollable : Bool := false
  /-- error queue, oldest first, and the records dropped since the last one entered (21 R399) -/
  errq : List Word := []
  lost : Nat := 0
  /-- the only injector of an element in a deterministic task (15 R318) -/
  injectors : List (Nat × Nat) := []
  /-- pre-empted for a self-test: it is restored in place after a pass (21 R409) -/
  inPlace : Bool := false
  /-- a pre-emption has been requested, to be taken when the self-test in it ends (21 R404) -/
  asked : Bool := false
  deriving DecidableEq, Repr

/-- A pre-empted task (21 R405, R406): its region and that region's number, and by tile slot its contexts, wide unit and elements; stash
words stand in memory at the save area. -/
structure Saved where
  id : Nat
  region : Region
  area : Nat
  ctxs : List (Nat × List (Nat × Ctx))
  wides : List (Nat × Wide)
  /-- wide instructions behind a run (17 R361) -/
  wqs : List (Nat × List WideOp) := []
  elems : List (Nat × Elem)
  /-- the clk of the save, and the tokens that waited for a presence bit -/
  since : Nat := 0
  tokens : List Token := []
  /-- kills on their way (13 R276) -/
  kills : List Kill := []
  deriving DecidableEq, Repr

/-- A range of an ASID that firmware maps on first touch: first page, pages (21 R396). -/
structure AsidInfo where
  /-- physical address of the level-0 table, when firmware has set one (05 R109) -/
  root : Option Nat := none
  /-- physical address of the ribbon table (05 R104) -/
  ribbon : Option Nat := none
  /-- combining-queue quota (19 R384) -/
  quota : Nat := 64
  /-- virtual ranges, first byte and length, that firmware maps on first touch (21 R396) -/
  ranges : List (Nat × Nat) := []
  deriving DecidableEq, Repr

/-- A record of a hardware queue's entries or of a combining queue: sequence number, words, the context that claims it
(tile × 4 + context); in a combining queue also the ASID that owns it (19 R384). -/
structure QRecord where
  seq : Nat
  words : List Word
  claim : Option Nat := none
  asid : Nat := 0
  /-- the clk of its commit and the context that pushed it (19 R385) -/
  clk : Nat := 0
  pushed : Nat := 0
  deriving DecidableEq, Repr

/-- A hardware queue of a die (11 R224, R227). -/
structure HQueue where
  enabled : Bool := false
  owner : Nat := 0
  hd : Nat := 0
  rw : Nat := 1
  rs : Nat := 0
  /-- the ring's first byte within its page, and the physical address of each 64 KiB page it covers -/
  rbase : Nat := 0
  ring : List Nat := []
  hin : BitVec 32 := 0
  hout : BitVec 32 := 0
  rin : BitVec 32 := 0
  rout : BitVec 32 := 0
  seq : Word := 0
  /-- the hardware entries, oldest first -/
  entries : List QRecord := []
  /-- contexts that hold a unit of capacity for a push not yet committed -/
  pending : List Nat := []
  pusher : Option Nat := none
  popper : Option Nat := none
  deriving DecidableEq, Repr

/-- The combining queue of a die (19 R384): its records, oldest first, the next sequence number, and the contexts that hold a
place for a push not yet committed. -/
structure CQueue where
  records : List QRecord := []
  seq : Nat := 0
  pending : List Nat := []
  /-- the clk of the last combining (19 R385) -/
  combined : Option Nat := none
  deriving DecidableEq, Repr

/-! ### The package -/

/-- A word that stands reserved for a woken context (05 R106). -/
structure Resv where
  word : Nat
  party : Nat
  since : Nat
  deriving DecidableEq, Repr

/-- A claim on a word (11 R213). -/
structure Claim where
  word : Nat
  party : Nat
  idx : Nat
  deriving DecidableEq, Repr

/-- A catchword entry (17 R357): ASID, GRAPH + BLOCK × 2^32, STEP, probe and output addresses (72 bits) and lengths, and whether it
is pinned (19 R392). -/
structure CwEntry where
  asid : Nat
  key : Nat
  step : Nat
  probe : Nat
  plen : Nat
  out : Nat
  olen : Nat
  pinned : Bool := false
  deriving DecidableEq, Repr

/-- A host work queue's registers (19 R362). -/
structure HostQueue where
  base : Word := 0
  ctl : Word := 0
  tail : BitVec 32 := 0
  head : BitVec 32 := 0
  deriving DecidableEq, Repr

/-- A replay, live or queued (19 R365, R367): its graph, the queue's ASID, VAH, home die and PRIO, its completion word, the snapshot
of its patches, and when it runs the descriptor's fields, the first error (cause), and the nodes done or skipped. -/
structure Replay where
  graph : Nat
  asid : Nat
  vah : Nat
  die : Nat
  prio : Nat
  comp : Nat
  patches : List (Nat × Word)
  live : Bool := false
  graphid : Nat := 0
  nodes : List Nat := []
  report : Nat := 0
  failed : Option Nat := none
  done : Nat := 0
  /-- how far its end has come (19 R367, R372): 0 not begun, 1 the EVENT nodes' fills are made, 2 COMP's too -/
  ending : Nat := 0
  deriving DecidableEq, Repr

/-- How a node ends (19 R370): passed over, done, skipped, or in error with a cause; with DETAIL (a CFG_REJECT's subcode). -/
inductive Outcome where
  | passed
  | done (detail : Nat)
  | skipped (detail : Nat)
  | error (cause detail : Nat)
  deriving DecidableEq, Repr

/-- What a ready or running node waits for. -/
inductive Stage where
  /-- TASK: ready for placement -/
  | ready
  /-- INDIRECT count, COND or LOOP predicate: since when it waits (19 R375, R378, R379) -/
  | reads (since : Nat)
  /-- LOOP: iteration under way -/
  | body (it : Nat)
  /-- TASK in a region; COPY, IMPOSE or EVENT with an engine or a completion word -/
  | running
  /-- held in its group (19 R382), or waiting for room there -/
  | held
  | unheld
  /-- STEPSYNC: since when it waits, and its own digest (19 R387) -/
  | steps (since d : Nat)
  /-- TASK that pre-emption has freed, ready again with its saved state (21 R405) -/
  | saved
  /-- it stands to finish -/
  | ends (o : Outcome)
  deriving DecidableEq, Repr

/-- A node that is ready, waits or runs (19 R369): its replay and address, its record's words as read when it became ready, its
task record, its priority now and as it was, its place in readiness order, and the placements that have passed it (01 R45, R46). -/
structure Node where
  replay : Nat
  addr : Nat
  words : List Word
  trec : List Word := []
  prio : Nat
  prio0 : Nat
  order : Nat
  passed : Nat := 0
  higher : Nat := 0
  tcount : Nat := 0
  iter : Nat := 0
  /-- the pass-through pattern of a TASK's image (01 R44) -/
  ptmask : Nat := 0
  /-- tiles freed since 64 placements have passed it, which are held for it (01 R45) -/
  held : List Nat := []
  stage : Stage
  deriving DecidableEq, Repr

/-- A STEPSYNC message received and held (19 R387). -/
structure StepMsg where
  link : Nat
  graphid : Nat
  step : Nat
  digest : Nat
  deriving DecidableEq, Repr

/-- An entry of the package error log (21 R408; 17 R344): what was detected, where, its SOURCE. -/
structure LogEntry where
  kind : Nat
  unit : Nat
  addr : Nat
  now : Nat
  deriving DecidableEq, Repr

/-- A package link (23 R424, R425): fenced lane sets, whether it is down, and per channel the binding (local and peer ASID) and
the flits received and not yet taken. -/
structure Link where
  fenced : Nat := 0
  down : Bool := false
  binds : List (Nat × (Nat × Nat)) := []
  rx : List (Nat × List Flit) := []
  /-- frames sent on a channel whose credit has not come back (23 R425) -/
  tx : List (Nat × Nat) := []
  deriving DecidableEq, Repr

/-- The management registers (23 R421, R420) and the command that runs. -/
structure Mgmt where
  stage : Nat := 0
  fail : Nat := 0
  hwfail : BitVec 32 := 0
  arg : Word := 0
  busy : Bool := false
  err : Bool := false
  cause : Nat := 0
  detail : Nat := 0
  pwin : BitVec 16 := 0
  hwlim : Nat := 20
  /-- what the command will answer when it completes: ERR, CAUSE, DETAIL -/
  answer : Option (Bool × Nat × Nat) := none
  /-- LMS leaves used (21 R414) -/
  leaf : Nat := 0
  /-- MSI-X is enabled (23 R426) -/
  msixOn : Bool := false
  deriving DecidableEq, Repr

/-- An MSI-X vector (23 R419, R422). -/
structure Vector where
  addr : Word := 0
  data : BitVec 32 := 0
  masked : Bool := true
  pending : Bool := false
  deriving DecidableEq, Repr

/-- A host access of the presence aperture that waits (23 R420): its offset in the view, the physical address that it reached, the view, the
value of a write, since when. -/
structure HostOp where
  offset : Nat
  pa : Nat
  view : Nat
  write : Bool
  value : Word
  since : Nat
  deriving DecidableEq, Repr

/-- Firmware as the package stores it (21 R412): the bytes that its signatures cover, and its signature block. -/
structure Firmware where
  body : List Nat := []
  block : List Nat := []
  deriving DecidableEq, Repr

/-- What the package sends outward: to the host, or on a package link. -/
inductive OutMsg where
  /-- a read completes with a value, or with a value and the poison indication (21 R408) -/
  | value (v : Word)
  | poisoned (v : Word)
  | unsupported
  /-- Configuration Request Retry Status, and a configuration request served -/
  | retry
  | config
  /-- an MSI-X message: address and data -/
  | msi (addr : Word) (data : BitVec 32)
  /-- a flit on a bound channel: link, channel, flit -/
  | frame (link ch : Nat) (f : Flit)
  /-- a STEPSYNC message -/
  | step (m : StepMsg)
  deriving DecidableEq, Repr

/-- Everything of the package but memory and the cluster power registers. -/
structure Core where
  /-- tiles 0 to 159; 160 to 163 are the firmware Spine cores of the Sequencers -/
  tiles : List (Nat × Tile) := []
  /-- elements: tile × 256 + index; one that is not listed stands at the staging base of 07 R157 -/
  elems : List (Nat × Elem) := []
  regions : List (Nat × Region) := []
  /-- pre-empted tasks by node address within a replay's number × 2^72 -/
  saved : List (Nat × Saved) := []
  claims : List Claim := []
  /-- what the walker has still to mark in entries that a party claims: by the entry's address (05 R110; 11 R213) -/
  marks : List (Nat × PteMark) := []
  resv : List Resv := []
  /-- lines (PA ÷ 64) with a parked waiter (05 R104) -/
  watched : List Nat := []
  /-- poisoned lines and the SOURCE of each (05 R121) -/
  poison : List (Nat × Nat) := []
  /-- S_PARKBASE (11 R241) -/
  parkBase : Word := 0
  asids : List (Nat × AsidInfo) := []
  /-- coherent windows of host memory: first physical address, length (23 R417) -/
  coherent : List (Nat × Nat) := []
  /-- hardware queues: die × 64 + number -/
  hwq : List (Nat × HQueue) := []
  /-- the combining queue of each die -/
  cq : List (Nat × CQueue) := []
  /-- engine commands in hand, in order of issue (17 R343) -/
  engines : List EngCmd := []
  /-- completion words to be written -/
  comps : List Comp := []
  /-- pools of deterministic tasks: descriptor's physical address and its only user (17 R356) -/
  pools : List (Nat × Nat) := []
  /-- the catchword directory, most recently used first (17 R357) -/
  directory : List CwEntry := []
  kills : List Kill := []
  tokens : List Token := []
  /-- host work queues (19 R362), and the queue served last for each die × 4 + PRIO -/
  hostq : List (Nat × HostQueue) := []
  turns : List (Nat × Nat) := []
  replays : List (Nat × Replay) := []
  nodes : List Node := []
  /-- numbers given to replays, to regions, and to readiness (MODEL) -/
  nextReplay : Nat := 0
  nextRegion : Nat := 0
  nextOrder : Nat := 0
  stepMsgs : List StepMsg := []
  errlog : List LogEntry := []
  /-- the key pairs of the boot chain (21 R412): the vendor root pair that the fuses name, those that it has signed, and the image keys that
  firmware holds (07 R174); the fused security version (R413), and the firmware of stages 1 and 2 -/
  rootKey : Option SigKey := none
  firmKeys : List SigKey := []
  imageKeys : List SigKey := []
  fusedVersion : BitVec 16 := 0
  bootFirm : Firmware := {}
  engineFirm : Firmware := {}
  /-- units reported whose self-test has not begun, and self-tests in hand: kind and unit (21 R409) -/
  reports : List (Nat × Nat) := []
  tests : List (Nat × Nat) := []
  /-- the last passing patrol of each unit (21 R407, R408): kind × 2^32 + unit, and its clk -/
  patrols : List (Nat × Nat) := []
  /-- lasting fences of tiles of gated clusters, applied at wake (23 R430): tile, router sound -/
  lateFences : List (Nat × Bool) := []
  /-- pages of HBM retired (05 R93; 21 R409), by number -/
  retired : List Nat := []
  /-- pages of HBM under test whose readable data firmware has moved (21 R409) -/
  moved : List Nat := []
  /-- fenced UCIe modules: boundary × 48 + module (23 R423) -/
  modules : List Nat := []
  links : List (Nat × Link) := []
  mgmt : Mgmt := {}
  msix : List (Nat × Vector) := []
  hostOps : List HostOp := []
  out : List OutMsg := []
  /-- stores to the control window that their register has not yet taken: offset, value, and the context that made them (23 R417) -/
  posted : List (Nat × Word × Nat) := []
  /-- how far the power controller has lowered the arithmetic clock (00 R3) -/
  throttle : Nat := 0
  /-- counter of free values -/
  free : Nat := 0
  deriving DecidableEq, Repr

/-- One cluster's power registers (23 R428). `saving`, `waking` and `falling` say what has been started and not yet ended. -/
structure Cluster where
  req : Bool := false
  seqerr : Bool := false
  busy : Bool := false
  ack : Bool := false
  addr : Nat := 0
  saving : Bool := false
  done : Bool := false
  err : Bool := false
  gate : Bool := false
  gated : Bool := false
  on : Nat := 3
  good : Nat := 3
  waking : Bool := false
  wakeDone : Bool := false
  wakeErr : Bool := false
  /-- S_CYCLE of its tiles as the save area holds it (23 R429) -/
  saved : List (Nat × Nat) := []
  deriving DecidableEq, Repr

/-- What firmware and the host do to the machine from outside the table's rows: an ASID's tables, quota and ranges, a coherent window,
a byte of host memory or of HBM that the host or firmware writes, a context that firmware starts in
firmware mode, a page fault that it forwards to the task handler, and one that it has resolved (21 R396), a register of BAR 0 that the
host reads (23 R419); cycles that a tile's own clock counts beyond the others' (00 R1); the readable data of a page of HBM under test
that firmware moves to another frame (21 R409); the fuses, the firmware stored for a stage, and a key record that firmware takes with its
signature block, of the firmware keys or of the image keys (21 R412, R413); MSI-X's enable bit (23 R426), and a credit that comes back on a
bound channel (23 R425). -/
inductive Outside where
  | asid (n : Nat) (info : AsidInfo)
  | window (base len : Nat)
  | fuses (root : SigKey) (version : BitVec 16)
  | firmware (boot : Bool) (f : Firmware)
  | keys (image : Bool) (k : SigKey) (block : List Nat)
  | byte (pa : Nat) (v : Byte)
  | start (tile ctx : Nat) (pc : VAddr)
  | forward (tile ctx : Nat)
  | resume (tile ctx : Nat)
  | read (offset : Nat)
  | drift (tile n : Nat)
  | move (page frame : Nat)
  | msix (on : Bool)
  | credit (link channel : Nat)
  deriving DecidableEq, Repr

/-- The instruction that is firing: tile, context, index. -/
structure Focus where
  tile : Nat
  ctx : Nat
  idx : Nat
  deriving DecidableEq, Repr

/-- What the next step does: fire an instruction of a block in flight, or let an event of the table happen. -/
inductive Act where
  | fire (tile ctx idx : Nat)
  | event (i : Instr)
  | outside (o : Outside)
  deriving DecidableEq, Repr

/-- A choice of the schedule: `dclk` clk pass, then `act`. -/
structure Choice where
  dclk : Nat := 0
  act : Act
  deriving DecidableEq, Repr

/-- The machine. -/
structure State where
  sched : List Choice
  focus : Focus
  now : Nat
  mem : List Host.Cell
  /-- the words (PA ÷ 8) that are FULL, strictly rising -/
  full : List Nat
  core : Core
  clusters : List (Nat × Cluster)
  deriving DecidableEq, Repr

/-- Why exec stops without an effect. -/
inductive Fault where
  /-- The event's conditions do not hold, or the instruction in focus is not there with its slots filled: nothing happens.
  Raised by every meaning; `step` never answers it (it drops such a choice). Safe: no claim of a next state follows. -/
  | notEnabled
  deriving DecidableEq, Repr

/-- Why exec gives an instruction no meaning. -/
inductive Refusal where
  /-- The instruction of this mnemonic has no meaning in the model yet. Safe. -/
  | notModelled (mnemonic : String)
  deriving DecidableEq, Repr

/-- The machine right after reset. Values that the manual does not give are DESIGN CHOICES, logs 1 to 8; those of MSI-X PRESUMED, log 9. -/
def State.reset : State :=
  { sched := [], focus := ⟨0, 0, 0⟩, now := 0, mem := [], full := [], core := {}, clusters := [] }

end Sys2Proof.Machine
end

