-- ==== Sys2Proof/Machine/Ops.lean ====
section
/-! DEFINITION. The named operations over memory, presence bits, contexts and traps.

A meaning works on `Work`: the state's core, with memory and presence bits read only and a log of changes beside them.
`State.lift` puts the result back, applying the log by operations that keep memory's canonical form. -/

namespace Sys2Proof.Machine

open Sys2Proof

/-! ### Memory in canonical form -/

/-- What a byte that is not listed reads as (23 R426; DESIGN CHOICE, log 3). -/
def memDefault : Byte := 0

/-- The byte at physical address `a`. -/
def memGet : List Host.Cell → Nat → Byte
  | [], _ => memDefault
  | (b, v) :: m, a => if a == b then v else memGet m a

/-- Memory with address `a` holding `v`: the list stays strictly rising and lists no default byte. -/
def memSet : List Host.Cell → Nat → Byte → List Host.Cell
  | [], a, v => if v == memDefault then [] else [(a, v)]
  | (b, u) :: m, a, v =>
    if a < b then (if v == memDefault then (b, u) :: m else (a, v) :: (b, u) :: m)
    else if a == b then (if v == memDefault then m else (a, v) :: m)
    else (b, u) :: memSet m a v

/-- Memory with `len` bytes from `a` at the default. -/
def memZero (m : List Host.Cell) (a len : Nat) : List Host.Cell := m.filter (fun c => c.1 < a || a + len ≤ c.1)

/-- Canonical form above address `lo` (exclusive when `some`): strictly rising, no default byte. -/
def memWfFrom : Option Nat → List Host.Cell → Bool
  | _, [] => true
  | lo, (b, v) :: m => (match lo with | none => true | some l => l < b) && v != memDefault && memWfFrom (some b) m

/-- Memory is in canonical form. -/
def Memory.wf (m : List Host.Cell) : Bool := memWfFrom none m

/-- Whether word `k` is in the list of FULL words. -/
def fullGet : List Nat → Nat → Bool
  | [], _ => false
  | j :: f, k => if k == j then true else fullGet f k

/-- The FULL words with word `k` added or removed; the list stays strictly rising. -/
def fullSet : List Nat → Nat → Bool → List Nat
  | [], k, b => if b then [k] else []
  | j :: f, k, b =>
    if k < j then (if b then k :: j :: f else j :: f)
    else if k == j then (if b then j :: f else f)
    else j :: fullSet f k b

/-- The FULL words without the `n` words from `k`. -/
def fullClear (f : List Nat) (k n : Nat) : List Nat := f.filter (fun j => j < k || k + n ≤ j)

/-- The FULL words with the `n` words from `k` added. -/
def fullFill : List Nat → Nat → Nat → List Nat
  | f, _, 0 => f
  | f, k, n + 1 => fullSet (fullFill f k n) (k + n) true

/-- The FULL words are listed strictly rising, above `lo` when given. -/
def fullWfFrom : Option Nat → List Nat → Bool
  | _, [] => true
  | lo, j :: f => (match lo with | none => true | some l => l < j) && fullWfFrom (some j) f

/-- The list of FULL words is in canonical form. -/
def fullWf (f : List Nat) : Bool := fullWfFrom none f

/-! ### Work -/

/-- One change of memory or of presence bits. -/
inductive MemOp where
  | byte (a : Nat) (v : Byte)
  | zero (a len : Nat)
  | bit (word : Nat) (full : Bool)
  | bits (word n : Nat) (full : Bool)
  deriving DecidableEq, Repr

/-- A change writes the data or the bit of word `k`. -/
def MemOp.touches (k : Nat) : MemOp → Bool
  | .byte a _ => a / 8 == k
  | .zero a len => a / 8 ≤ k && k < (a + len + 7) / 8
  | .bit j _ => j == k
  | .bits j n _ => j ≤ k && k < j + n

/-- What a meaning works on. `log` lists the changes made so far, newest first. -/
structure Work where
  mem : List Host.Cell
  full : List Nat
  log : List MemOp
  now : Nat
  focus : Focus
  core : Core
  clusters : List (Nat × Cluster)

/-- The state as a meaning sees it. -/
def State.work (s : State) : Work :=
  { mem := s.mem, full := s.full, log := [], now := s.now, focus := s.focus, core := s.core, clusters := s.clusters }

/-- Memory after one change. -/
def MemOp.onMem (m : List Host.Cell) : MemOp → List Host.Cell
  | .byte a v => memSet m a v
  | .zero a len => memZero m a len
  | .bit _ _ => m
  | .bits _ _ _ => m

/-- The FULL words after one change. -/
def MemOp.onFull (f : List Nat) : MemOp → List Nat
  | .byte _ _ => f
  | .zero _ _ => f
  | .bit k b => fullSet f k b
  | .bits k n true => fullFill f k n
  | .bits k n false => fullClear f k n

/-- Memory after the changes of a log, oldest first. -/
def applyMem (m : List Host.Cell) : List MemOp → List Host.Cell
  | [] => m
  | op :: log => op.onMem (applyMem m log)

/-- The FULL words after the changes of a log, oldest first. -/
def applyFull (f : List Nat) : List MemOp → List Nat
  | [] => f
  | op :: log => op.onFull (applyFull f log)

/-- The state with a meaning's result: its core, and its log applied to memory and presence bits. The schedule, the clk and
the clusters are the state's own. -/
def State.put (s : State) (w : Work) : State :=
  { s with core := w.core, mem := applyMem s.mem w.log, full := applyFull s.full w.log }

/-- A meaning that works on the core and on memory. -/
def State.lift (f : Work → Work) (s : State) : State := s.put (f s.work)

/-- An event that happens when it can, and otherwise does not. -/
def happen (f : Work → Option Work) (s : State) : Host.Outcome State Fault Refusal :=
  match f s.work with
  | none => .fault .notEnabled
  | some w => .next (s.put w)

/-! ### Reading and writing physical memory -/

namespace Work

/-- The byte at a physical address: the newest change that covers it, else memory. -/
def byteFrom (m : List Host.Cell) (a : Nat) : List MemOp → Byte
  | [] => memGet m a
  | .byte b v :: log => if a == b then v else byteFrom m a log
  | .zero b len :: log => if b ≤ a && a < b + len then memDefault else byteFrom m a log
  | .bit _ _ :: log => byteFrom m a log
  | .bits _ _ _ :: log => byteFrom m a log

/-- The byte at a physical address. -/
def byte (w : Work) (a : Nat) : Byte := byteFrom w.mem a w.log

/-- The presence bit of a word by the newest change that covers it, else the list of FULL words. -/
def bitFrom (f : List Nat) (k : Nat) : List MemOp → Bool
  | [] => fullGet f k
  | .byte _ _ :: log => bitFrom f k log
  | .zero _ _ :: log => bitFrom f k log
  | .bit j b :: log => if k == j then b else bitFrom f k log
  | .bits j n b :: log => if j ≤ k && k < j + n then b else bitFrom f k log

/-- Write one byte. -/
def putByte (w : Work) (a : Nat) (v : Byte) : Work := { w with log := .byte a v :: w.log }

/-- `size` bytes from `a`, little-endian (00 R10). -/
def load (w : Work) (a : Nat) : Nat → Nat
  | 0 => 0
  | n + 1 => (w.byte a).toNat + 256 * load w (a + 1) n

/-- Write the low `size` bytes of `v` at `a`, little-endian. -/
def store (w : Work) (a : Nat) : Nat → Nat → Work
  | 0, _ => w
  | n + 1, v => store (w.putByte a (BitVec.ofNat 8 v)) (a + 1) n (v / 256)

/-- The 64-bit word at physical address `a`. -/
def word (w : Work) (a : Nat) : Word := BitVec.ofNat 64 (w.load a 8)

/-- Write a 64-bit word at physical address `a`. -/
def putWord (w : Work) (a : Nat) (v : Word) : Work := w.store a 8 v.toNat

/-- `n` words from physical address `a`. -/
def loadWords (w : Work) (a : Nat) : Nat → List Word
  | 0 => []
  | n + 1 => w.word a :: loadWords w (a + 8) n

end Work

/-! ### The physical address map (05 R88, R89; 23 R417) -/

/-- Where a physical address leads. -/
inductive Region88 where
  | hbm
  | firmware
  | stash (tile off : Nat)
  | host
  | control
  | nowhere
  deriving DecidableEq, Repr

/-- The target of a physical address (05 R88, R89; 23 R417). The firmware area is the range of addresses that R89 writes out, 8 GiB, where
R2 and the words of R89 say 4 GiB (DESIGN CHOICE, log 47). -/
def classify (pa : Nat) : Region88 :=
  if pa < 0x7800000000 then .hbm
  else if pa < 0x7A00000000 then .firmware
  else if 0x1000000000000 ≤ pa && (pa - 0x1000000000000) / 0x200000 < 160 then
    (if (pa - 0x1000000000000) % 0x200000 < 0x180000 then .stash ((pa - 0x1000000000000) / 0x200000) ((pa - 0x1000000000000) % 0x200000)
     else .nowhere)
  else if 0x7FF0000000000 ≤ pa && pa < 0x8000000000000 then .control
  else if 0x4000000000000 ≤ pa && pa < 0x7FF0000000000 then .host
  else .nowhere

/-- Host memory, whose words are always FULL (23 R418). -/
def isHost (pa : Nat) : Bool := classify pa == .host

/-- The first byte of tile `t`'s stash direct window (05 R88). -/
def stashBase (t : Nat) : Nat := 0x1000000000000 + t * 0x200000

/-- The die of a tile (00 R4); the Sequencers' firmware cores 160 to 163 stand on dies 0 to 3. -/
def dieOf (t : Nat) : Nat := if t < 160 then t % 16 / 8 + 2 * (t / 16 / 5) else t - 160

/-- The die that a package link leaves from (00 R6): links 3d to 3d + 2 leave from die d. -/
def linkDie (l : Nat) : Nat := l / 3

/-- The home die of a physical address (05 R90; 23 R416): HBM by its stack, a stash word by its tile, host lines die 0. -/
def homeDie (pa : Nat) : Nat :=
  match classify pa with
  | .hbm | .firmware => Nat.xor (bits pa 8 3) (bits pa 19 3) / 2
  | .stash t _ => dieOf t
  | .host | .control | .nowhere => 0

/-! ### Tiles, contexts and their blocks -/

namespace Work

/-- Tile `t`. -/
def tile (w : Work) (t : Nat) : Tile := mapGet {} t w.core.tiles

/-- Replace tile `t`. -/
def setTile (w : Work) (t : Nat) (x : Tile) : Work := { w with core := { w.core with tiles := mapSet t x w.core.tiles } }

/-- Context `c` of tile `t`. -/
def ctx (w : Work) (t c : Nat) : Ctx := mapGet {} c (w.tile t).ctxs

/-- Replace context `c` of tile `t`. -/
def setCtx (w : Work) (t c : Nat) (x : Ctx) : Work := w.setTile t { w.tile t with ctxs := mapSet c x (w.tile t).ctxs }

/-- The region that holds tile `t`. -/
def regionOf (w : Work) (t : Nat) : Option Region :=
  match (w.tile t).region with
  | none => none
  | some r => mapFind r w.core.regions

/-- The TASK node whose region holds tile `t`: replay and node. -/
def taskOf (w : Work) (t : Nat) : Option (Nat × Nat) := (w.regionOf t).bind (·.node)

/-- The block in flight in the focus context. -/
def block (w : Work) : Option Block := (w.ctx w.focus.tile w.focus.ctx).block

/-- Replace the block in flight in the focus context. -/
def setBlock (w : Work) (b : Block) : Work :=
  w.setCtx w.focus.tile w.focus.ctx { w.ctx w.focus.tile w.focus.ctx with block := some b }

/-- Change the block in flight in the focus context. -/
def onBlock (w : Work) (f : Block → Block) : Work :=
  match w.block with
  | none => w
  | some b => w.setBlock (f b)

/-- Context `c` of tile `t` was the last whose block ended (01 R28). -/
def setLast (w : Work) (t c : Nat) : Work := w.setTile t { w.tile t with last := c }

/-- The number of the focus context: tile × 4 + context. -/
def party (w : Work) : Nat := w.focus.tile * 4 + w.focus.ctx

/-- The focus context. -/
def me (w : Work) : Ctx := w.ctx w.focus.tile w.focus.ctx

/-- The focus context belongs to a deterministic task (01 R21; 11 R242). -/
def det (w : Work) : Bool := bit w.me.mode.toNat 0

end Work

/-- Register n of a context; g0 reads as zero (09 R184). -/
def Ctx.reg (c : Ctx) (n : Nat) : Word := if n == 0 then 0 else mapGet 0 n c.regs

/-- Write register n of a context; a write to g0 is discarded (09 R184). -/
def Ctx.setReg (c : Ctx) (n : Nat) (v : Word) : Ctx := if n == 0 then c else { c with regs := mapSet n v c.regs }

/-- A number with A set, with D set after a write, and with TAG at STORED after a conversion (05 R110, R112): the low bits of an entry. -/
def markBits (write conv : Bool) (b : Nat) : Nat :=
  let b := if bit b 10 then b else b + 2 ^ 10
  let b := if write && !bit b 11 then b + 2 ^ 11 else b
  if conv then b - bits b 2 2 * 4 else b

/-! ### Claims, reservations and presence bits (05 R95, R105, R106; 11 R213) -/

namespace Work

/-- The physical address of context `p`'s parking record (05 R103). -/
def recordAddr (w : Work) (p : Nat) : Nat := w.core.parkBase.toNat + p * 32

/-- What firmware holds for an ASID. -/
def asidInfo (w : Work) (asid : Nat) : AsidInfo := mapGet {} asid w.core.asids

/-- The base of an ASID's ribbon table (05 R104): firmware's, or where it has set none a place of the firmware area (DESIGN CHOICE, log 5). -/
def ribbonBase (w : Work) (asid : Nat) : Nat := (w.asidInfo asid).ribbon.getD (0x7800000000 + asid * 0x10000)

/-- The ribbon bucket of a word at a physical address (05 R104). -/
def bucketOf (pa : Nat) : Nat :=
  Nat.xor (Nat.xor (Nat.xor (bits pa 3 12) (bits pa 15 12)) (Nat.xor (bits pa 27 12) (bits pa 39 12))) (bits pa 51 1)

/-- The address of the ribbon entry of a word for an ASID. -/
def ribbonEntry (w : Work) (asid pa : Nat) : Nat := w.ribbonBase asid + bucketOf pa * 16

/-- The context holds a reservation of the word (05 R106). -/
def reservedFor (w : Work) (k p : Nat) : Bool := w.core.resv.any (fun r => r.word == k && r.party == p)

/-- The word is reserved for a party other than `p`. -/
def reservedOther (w : Work) (k p : Nat) : Bool := w.core.resv.any (fun r => r.word == k && r.party != p)

/-- The word is claimed by a party other than `p` (11 R213). -/
def claimedOther (w : Work) (k p : Nat) : Bool := w.core.claims.any (fun c => c.word == k && c.party != p)

/-- Some word of a list is claimed by a party other than `p` (11 R213). -/
def claimedElsewhere (w : Work) (ks : List Nat) (p : Nat) : Bool := w.core.claims.any (fun c => c.party != p && ks.contains c.word)

/-- Take a claim on a word for instruction `idx` of context `p`. -/
def claim (w : Work) (k p idx : Nat) : Work := { w with core := { w.core with claims := ⟨k, p, idx⟩ :: w.core.claims } }

/-- The changes made so far write a word that a claim of a party other than `p` covers (11 R213); with none, of any party. -/
def writesClaimed (w : Work) (p : Option Nat) : Bool :=
  w.core.claims.any (fun c => some c.party != p && w.log.any (fun m => m.touches c.word))

/-- An event that writes a claimed word waits until the claim ends (11 R213). -/
def unlessClaimed (r : Option Work) : Option Work := r.filter (fun u => !u.writesClaimed none)

/-- Some party claims a word (11 R213). -/
def anyClaim (w : Work) (k : Nat) : Bool := w.core.claims.any (fun c => c.word == k)

/-- The walker's marks on entries that no party claims any longer are made, each where the entry is still as the walker read it
(05 R110; 11 R213). -/
def settleMarks (w : Work) : Work :=
  let due := w.core.marks.filter (fun m => !w.anyClaim (m.1 / 8))
  let w := due.foldl (fun w m =>
    if w.load m.1 8 == m.2.old then w.store m.1 8 (markBits m.2.write m.2.conv m.2.old) else w) w
  { w with core := { w.core with marks := w.core.marks.filter (fun m => w.anyClaim (m.1 / 8)) } }

/-- End every claim of context `p`. -/
def releaseClaims (w : Work) (p : Nat) : Work :=
  { w with core := { w.core with claims := w.core.claims.filter (fun c => c.party != p) } }.settleMarks

/-- End the reservation of word `k` for context `p`. -/
def endResv (w : Work) (k p : Nat) : Work :=
  { w with core := { w.core with resv := w.core.resv.filter (fun r => !(r.word == k && r.party == p)) } }

/-- End every reservation of context `p` (05 R106). -/
def endResvs (w : Work) (p : Nat) : Work :=
  { w with core := { w.core with resv := w.core.resv.filter (fun r => r.party != p) } }

/-- Unlink a record from the list of a ribbon entry (05 R104, R105): `prev` is 0 at the head. -/
def unlink (w : Work) (entry prev rec : Nat) : Work :=
  let next := bits (w.load (rec + 24) 8) 0 52
  let w := if prev == 0 then w.store entry 8 next else w.store (prev + 24) 8 next
  if w.load (entry + 8) 8 == rec then w.store (entry + 8) 8 prev else w

/-- Find the record that precedes `rec` in an entry's list: 0 when it is the head, none when it is not linked. -/
def prevOf (w : Work) (rec : Nat) : Nat → Nat → Nat → Option Nat
  | 0, _, _ => none
  | fuel + 1, prev, cur =>
    if cur == 0 then none
    else if cur == rec then some prev
    else prevOf w rec fuel cur (bits (w.load (cur + 24) 8) 0 52)

/-- Unlink the parking record of context `p`, if it is parked; the context is left to the caller (05 R107). -/
def unpark (w : Work) (p : Nat) : Work :=
  let c := w.ctx (p / 4) (p % 4)
  match c.park with
  | none => w
  | some k =>
    let entry := w.ribbonEntry c.asid.toNat (k.word * 8)
    match w.prevOf k.record 700 0 (w.load entry 8) with
    | none => w
    | some prev => w.unlink entry prev k.record

/-- Whether some parked context waits on a word of a line. -/
def lineWaited (w : Work) (line : Nat) : Bool :=
  w.core.tiles.any (fun t => t.2.ctxs.any (fun c => match c.2.park with | none => false | some k => k.word / 8 == line))

/-- Clear watched on the word's line if no record names a word of it (05 R105). -/
def unwatch (w : Work) (k : Nat) : Work :=
  if w.lineWaited (k / 8) then w else { w with core := { w.core with watched := w.core.watched.filter (· != k / 8) } }

/-- Make the context of a record ready at its resume block (05 R105). -/
def wakeCtx (w : Work) (t c : Nat) : Work :=
  w.setCtx t c { w.ctx t c with status := .ready, park := none }

/-- Walk one ribbon list for word `k`, now FULL or EMPTY (05 R105). Answers whether the walk stopped at a reservation. -/
def walkList (w : Work) (entry k : Nat) (full : Bool) : Nat → Nat → Nat → Work × Bool
  | 0, _, _ => (w, false)
  | fuel + 1, prev, cur =>
    if cur == 0 then (w, false)
    else
      let w0 := w.load cur 8
      let kind := bits w0 52 3
      let next := bits (w.load (cur + 24) 8) 0 52
      if bits w0 0 52 == k * 8 && ((full && (kind == 1 || kind == 2)) || (!full && kind == 3)) then
        let r1 := w.load (cur + 8) 8
        let t := bits r1 0 8
        let c := bits r1 8 2
        let w := (w.unlink entry prev cur).wakeCtx t c
        if kind == 1 then walkList w entry k full fuel prev next
        else ({ w with core := { w.core with resv := ⟨k, t * 4 + c, w.now⟩ :: w.core.resv } }, true)
      else walkList w entry k full fuel cur next

/-- Walk the lists of every ASID that has a context parked on word `k` (05 R105), in the order of tile and context of their first such
context, up to the first that takes a reservation (DESIGN CHOICE, log 47). -/
def wakeWalk (w : Work) (k : Nat) (full : Bool) : Work :=
  let asids := (w.core.tiles.foldl (fun acc t => t.2.ctxs.foldl (fun acc c =>
    match c.2.park with
    | some p => if p.word == k && !acc.contains c.2.asid.toNat then acc ++ [c.2.asid.toNat] else acc
    | none => acc) acc) [])
  let r := asids.foldl (fun (r : Work × Bool) a =>
    if r.2 then r else let e := r.1.ribbonEntry a (k * 8); r.1.walkList e k full 700 0 (r.1.load e 8)) (w, false)
  r.1.unwatch k

/-- The presence bit of word `k` (05 R94; 23 R418: host words are always FULL). -/
def isFull (w : Work) (k : Nat) : Bool := isHost (k * 8) || bitFrom w.full k w.log

/-- Give word `k` a presence bit; a change of a watched word's bit walks its records (05 R105). -/
def setBit (w : Work) (k : Nat) (b : Bool) : Work :=
  if isHost (k * 8) || w.isFull k == b then w
  else
    let w := { w with log := .bit k b :: w.log }
    if w.core.watched.contains (k / 8) then w.wakeWalk k b else w

/-- A filling store of word `k`'s data at a physical address: data and bit in one event (05 R94, R95). -/
def fillWord (w : Work) (pa : Nat) (v : Word) : Work := (w.putWord pa v).setBit (pa / 8) true

/-- Set `n` words from physical address `pa` to data 0 and a bit. No waiter is woken: the callers' words have none. -/
def resetWords (w : Work) (pa n : Nat) (full : Bool) : Work :=
  { w with log := .bits (pa / 8) n full :: .zero pa (n * 8) :: w.log }

/-- The SOURCE of a poisoned line (05 R121). -/
def poisonOf (w : Work) (pa : Nat) : Option Nat := mapFind (pa / 64) w.core.poison

end Work

/-! ### Causes (21 R394) and the layouts of S_EINFO (21 R397) -/

namespace Cause
def illegalOp : Nat := 0x01
def reservedField : Nat := 0x02
def blockFormat : Nat := 0x03
def align : Nat := 0x04
def pageFault : Nat := 0x05
def protection : Nat := 0x06
def feBudget : Nat := 0x07
def qTimeout : Nat := 0x08
def waitTimeout : Nat := 0x09
def allocExhausted : Nat := 0x0A
def detAtomic : Nat := 0x0B
def detFpred : Nat := 0x0C
def cfgReject : Nat := 0x0D
def cfgRace : Nat := 0x0E
def copyAlign : Nat := 0x0F
def regionError : Nat := 0x10
def trapInsn : Nat := 0x11
def priv : Nat := 0x12
def uncorrectable : Nat := 0x13
def gangFailed : Nat := 0x14
def preempt : Nat := 0x15
def replicaMismatch : Nat := 0x16
def launchCount : Nat := 0x17
def feTimeout : Nat := 0x18
end Cause

/-- The causes that the task handler takes (21 R394). -/
def taskTakes (cause : Nat) : Bool :=
  cause == 1 || cause == 2 || cause == 3 || cause == 4 || (6 ≤ cause && cause ≤ 0x11)

/-- S_EINFO of PAGE_FAULT and PROTECTION (21 R397): VA[63:16], SUB, ACC, WORD, INDEX. -/
def einfoMem (va sub acc wordNo idx : Nat) : Word :=
  BitVec.ofNat 64 (bits va 16 48 * 2 ^ 16 + sub * 2 ^ 13 + acc * 2 ^ 10 + wordNo * 2 ^ 7 + idx)

/-- S_EINFO of ALIGN and COPY_ALIGN (21 R397). -/
def einfoAlign (ea idx : Nat) : Word := BitVec.ofNat 64 (bits ea 0 56 * 2 ^ 8 + idx)

/-- S_EINFO of FE_BUDGET and WAIT_TIMEOUT (21 R397). -/
def einfoWait (pa : Nat) (self : Bool) (form idx : Nat) : Word :=
  BitVec.ofNat 64 (bits pa 3 49 * 2 ^ 15 + (if self then 2 ^ 10 else 0) + form * 2 ^ 7 + idx)

/-- S_EINFO of BLOCK_FORMAT (09 R183): ENTRY, REASON, INDEX. -/
def einfoFormat (entry reason idx : Nat) : Word := BitVec.ofNat 64 (entry * 2 ^ 10 + reason * 2 ^ 7 + idx)

/-- S_EINFO of UNCORRECTABLE (21 R397). -/
def einfoUncorr (source line idx : Nat) : Word :=
  BitVec.ofNat 64 (source * 2 ^ 60 + (if 5 ≤ source && source ≤ 7 then 0 else bits line 0 46) * 2 ^ 7 + idx)

/-! ### Taking a trap and returning from one (21 R395; 11 R237) -/

/-- The 72-bit address with bits [71:64] and [63:0] as given. -/
def vaddr (hi lo : Nat) : VAddr := BitVec.ofNat 72 (low hi 8 * 2 ^ 64 + low lo 64)

/-- A context after a trap at block address `a` (21 R395): to the task handler in task mode when S_UTVEC is valid and the
cause is one that handler takes, else to firmware. It is ready at the handler's first block. -/
def Ctx.takeTrap (c : Ctx) (a : VAddr) (cause : Nat) (einfo : Word) : Ctx :=
  if !c.fw && c.utvec.toNat % 16 == 0 && c.utvec != 0 && taskTakes cause then
    { c with ucause := BitVec.ofNat 8 cause, uepc := BitVec.ofNat 64 a.toNat, ueinfo := einfo,
             pc := vaddr (a.toNat / 2 ^ 64) c.utvec.toNat, status := .ready, block := none, park := none, handler := true }
  else
    { c with cause := BitVec.ofNat 8 cause, epc := BitVec.ofNat 64 a.toNat, einfo := einfo,
             estat := BitVec.ofNat 64 (a.toNat / 2 ^ 64 * 2 ^ 8 + (if c.fw then 0 else 1)),
             fw := true, pc := vaddr 0 c.tvec.toNat, status := .ready, block := none, park := none, handler := true }

/-- The mode and the next block after ERET (11 R237): what S_ESTAT and S_EPC hold. -/
def Ctx.returnTrap (c : Ctx) : Ctx :=
  { c with fw := !bit c.estat.toNat 0, pc := vaddr (bits c.estat.toNat 8 8) c.epc.toNat }

end Sys2Proof.Machine
end

