-- ==== Sys2Proof/Machine/Translate.lean ====
section
/-! DEFINITION. Translation and permission (05 R91, R97, R109 to R114; 23 R417, R418): the walker, the Spine TLB, the
conversion of ALL_EMPTY and ALL_FULL pages. -/

namespace Sys2Proof.Machine

open Sys2Proof

/-- The access forms (05 R95), with those that only checks tell apart. -/
inductive AccForm where
  | plainLoad
  | plainStore
  | waitLoad
  | consume
  | fill
  | clear
  | test
  /-- AMO, CAS -/
  | atomic
  | red
  /-- a block fetch -/
  | fetch
  /-- reading a descriptor or an operand record -/
  | desc
  /-- writing a result record or completion word on an instruction's behalf -/
  | descStore
  deriving DecidableEq, Repr

namespace AccForm

/-- The form needs read permission (05 R97). -/
def reads : AccForm → Bool
  | .plainLoad | .waitLoad | .consume | .test | .atomic | .desc => true
  | .plainStore | .fill | .clear | .red | .fetch | .descStore => false

/-- The form needs write permission (05 R97). -/
def writes : AccForm → Bool
  | .plainStore | .consume | .fill | .clear | .atomic | .red | .descStore => true
  | .plainLoad | .waitLoad | .test | .fetch | .desc => false

/-- ACC of S_EINFO (21 R397). -/
def acc : AccForm → Nat
  | .fetch => 0
  | .plainLoad | .waitLoad | .test => 1
  | .plainStore | .fill | .clear | .red => 2
  | .consume | .atomic => 3
  | .desc | .descStore => 4

/-- FORM of FE_BUDGET and KIND less one of a parking record (21 R398, 05 R103). -/
def form : AccForm → Nat
  | .consume => 1
  | .fill => 2
  | .waitLoad | .plainLoad | .plainStore | .clear | .test | .atomic | .red | .fetch | .desc | .descStore => 0

end AccForm

/-- What a translation gives: a physical address, with the bit every word of its page reads as while it is ALL_EMPTY or
ALL_FULL, or a cause and a subcode. -/
inductive Xlat where
  | ok (pa : Nat) (uniform : Option Bool)
  | fault (cause sub : Nat)
  deriving DecidableEq, Repr

/-- A plane with the extents of its streams changed. -/
def Plane.onExtents (f : List TlbEntry → List TlbEntry) (p : Plane) : Plane := { p with extents := p.extents.map (fun x => (x.1, f x.2)) }

/-- An element with the extents of its generators and of its planes changed. -/
def Elem.onExtents (f : List TlbEntry → List TlbEntry) (e : Elem) : Elem :=
  { e with planeA := e.planeA.onExtents f, planeB := e.planeB.onExtents f, ops := e.ops.map (fun o => (o.1, { o.2 with extents := f o.2.extents })) }

/-- The pass-through tiles of a footprint (01 R22): those that are not live. -/
def Region.passTiles (r : Region) : List Nat :=
  let base := (r.die / 2 * 5 + r.oy) * 16 + (r.die % 2) * 8 + r.ox
  ((List.range r.h).flatMap (fun y => (List.range r.w).map (fun x => base + y * 16 + x))).filter (fun t => !r.live.contains t)

namespace Work

/-- The focus context as the maker of accesses. -/
def who (w : Work) : Who :=
  let c := w.me
  match w.regionOf w.focus.tile with
  | none => ⟨c.asid.toNat, c.fw, [], [], some w.focus.tile⟩
  | some r => ⟨c.asid.toNat, c.fw, r.live, r.passTiles, some w.focus.tile⟩

/-- The index of level `l` of a virtual address (05 R109). -/
def levelIndex (va l : Nat) : Nat := if l == 0 then bits va 64 8 else bits va (64 - 12 * l) 12

/-- log2 of the bytes an entry of level `l` covers. -/
def levelShift (l : Nat) : Nat := 64 - 12 * l

/-- A page-table entry as the walker has it: with the marks it has still to make (11 R213). -/
def pte (w : Work) (ea : Nat) : Nat :=
  let e := w.load ea 8
  match mapFind ea w.core.marks with
  | none => e
  | some m => if e == m.old then markBits m.write m.conv e else e

/-- A copy of an entry as the walker's marks have left the entry since (05 R110, R112): its A, D and TAG are the entry's. -/
def recent (w : Work) (te : TlbEntry) : TlbEntry :=
  let e := w.pte te.entry
  if markBits true true (e % 2 ^ 16) == markBits true true te.bits && bits e 16 36 * 2 ^ 16 / 2 ^ te.lg * 2 ^ te.lg == te.frame then
    { te with bits := e % 2 ^ 16 }
  else te

/-- The walk (05 R109 to R111): the leaf entry's address, its low 64 bits and its level, or the PAGE_FAULT subcode. -/
def walk (w : Work) (va : Nat) : Nat → Nat → Nat → Except Nat (Nat × Nat × Nat)
  | 0, _, _ => .error 1
  | fuel + 1, l, base =>
    let ea := base + levelIndex va l * 16
    let e := w.pte ea
    let leaf := bit e 1
    if !bit e 0 then .error 0
    else if bits e 52 12 != 0 || bits e 12 4 != 0 || bit e 4 then .error 1
    else if leaf && l ≤ 1 then .error 1
    else if !leaf && l == 4 then .error 1
    else if leaf then
      (if bits e 2 2 == 3 then .error 2
       else if bits e 2 2 != 0 && l != 4 then .error 1
       else .ok (ea, e, l))
    else walk w va fuel (l + 1) (bits e 16 36 * 2 ^ 16)

/-- Look a virtual address up in a TLB (05 R114). -/
def tlbFind (asid va : Nat) (tlb : List TlbEntry) : Option TlbEntry :=
  tlb.find? (fun e => e.base ≤ va && va < e.base + 2 ^ e.lg && (e.gl || e.asid == asid))

/-- The entry that serves an access: from the TLB, else from the walk, which fills the TLB. A full TLB gives up the entry that it took
first (DESIGN CHOICE, log 47). -/
def findEntry (w : Work) (q : Who) (va : Nat) : Work × Except Nat TlbEntry :=
  let hit := match q.tlb with
    | none => none
    | some t => tlbFind q.asid va (w.tile t).tlb
  match hit with
  | some e => (w, .ok e)
  | none =>
    match (w.asidInfo q.asid).root with
    | none => (w, .error 0)
    | some root =>
      match w.walk va 5 0 root with
      | .error s => (w, .error s)
      | .ok (ea, e, l) =>
        let lg := levelShift l
        let te : TlbEntry := ⟨q.asid, bit e 9, va / 2 ^ lg * 2 ^ lg, lg, bits e 16 36 * 2 ^ 16 / 2 ^ lg * 2 ^ lg, e % 2 ^ 16, ea⟩
        match q.tlb with
        | none => (w, .ok te)
        | some t => (w.setTile t { w.tile t with tlb := (te :: (w.tile t).tlb).take 64 }, .ok te)

/-- The copies of an entry are marked as it is. -/
def refreshEntry (entry : Nat) (write conv : Bool) (es : List TlbEntry) : List TlbEntry :=
  es.map (fun x => if x.entry == entry then { x with bits := markBits write conv x.bits } else x)

/-- Mark an entry in memory (05 R110: the walker's atomic update): no other field of it changes. While a party claims its word the mark
stands with the walker (11 R213). -/
def markEntry (w : Work) (ea : Nat) (write conv : Bool) : Work :=
  let e := w.load ea 8
  if w.anyClaim (ea / 8) then
    let m := match mapFind ea w.core.marks with
      | some m => if m.old == e then ⟨e, m.write || write, m.conv || conv⟩ else ⟨e, write, conv⟩
      | none => ⟨e, write, conv⟩
    { w with core := { w.core with marks := mapSet ea m w.core.marks } }
  else w.store ea 8 (markBits write conv e)

/-- Mark an entry in memory, in every TLB and in every generator that holds it (05 R110). -/
def updateEntry (w : Work) (te : TlbEntry) (write conv : Bool) : Work :=
  let f := refreshEntry te.entry write conv
  let w := w.markEntry te.entry write conv
  { w with core := { w.core with
      tiles := w.core.tiles.map (fun t => (t.1, { t.2 with tlb := f t.2.tlb })),
      elems := w.core.elems.map (fun x => (x.1, x.2.onExtents f)),
      saved := w.core.saved.map (fun x => (x.1, { x.2 with elems := x.2.elems.map (fun e => (e.1, e.2.onExtents f)) })) } }

/-- The walker makes an ALL_EMPTY or ALL_FULL page STORED (05 R112): its frame is zeroed with every bit in the page's state. Whole lines
are written with their presence bits, so that their poison ends (05 R121). Tokens on their way see the page as it then is. -/
def convertPage (w : Work) (frame : Nat) (full : Bool) : Work :=
  let w := w.resetWords frame 8192 full
  let inside (a : Nat) : Bool := frame ≤ a && a < frame + 0x10000
  let stored (k : Token) : Token := if inside k.pa then { k with uni := none } else k
  { w with core := { w.core with
      poison := w.core.poison.filter (fun p => !inside (p.1 * 64)), tokens := w.core.tokens.map stored,
      saved := w.core.saved.map (fun s => (s.1, { s.2 with tokens := s.2.tokens.map stored })) } }

/-- A and D of an entry after a translation (05 R110), and the conversion of its page where `conv` asks for it and the entry still says
so (05 R112). -/
def touch (w : Work) (te : TlbEntry) (write conv : Bool) : Work :=
  let tag := bits te.bits 2 2
  let conv := conv && (tag == 1 || tag == 2) && bits (w.pte te.entry) 2 2 == tag
  let w := if conv then w.convertPage te.frame (tag == 2) else w
  if markBits write conv te.bits == te.bits then w else w.updateEntry te write conv

/-- Whether a host word outside a coherent window is addressed (23 R417). -/
def coherentAt (w : Work) (pa : Nat) : Bool := w.core.coherent.any (fun c => c.1 ≤ pa && pa < c.1 + c.2)

/-- The checks on the physical address (05 R88, R89, R91; 23 R417, R418): PROTECTION when they fail. -/
def physOk (w : Work) (q : Who) (form : AccForm) (size pa : Nat) : Bool :=
  match classify pa with
  | .hbm => true
  | .firmware => q.fw
  | .stash t _ => q.fw || q.live.contains t
  | .host =>
    match form with
    | .consume | .fill | .clear => false
    | .atomic | .red => w.coherentAt pa
    | .plainLoad | .plainStore | .waitLoad | .test | .fetch | .desc | .descStore => true
  | .control => q.fw && size == 8 && (form == .plainLoad || form == .plainStore)
  | .nowhere => false

/-- The subcode of PROTECTION for a physical address that the checks refuse (01 R22): 2 for a pass-through tile's stash, else 1. -/
def physSub (q : Who) (pa : Nat) : Nat :=
  match classify pa with
  | .stash t _ => if q.pass.contains t then 2 else 1
  | .hbm | .firmware | .host | .control | .nowhere => 1

/-- An access of this form to an ALL_EMPTY or ALL_FULL page, in the state that its words have, would write data or change a bit (05 R112):
one that waits converts nothing. -/
def converts (form : AccForm) (full : Bool) : Bool :=
  match form with
  | .consume => full
  | .fill => !full
  | .plainLoad | .plainStore | .waitLoad | .clear | .test | .atomic | .red | .fetch | .desc | .descStore => form.writes

/-- The checks and the physical address that a leaf entry gives an access (05 R89, R97, R110 to R112), whose physical address is judged as
that of an access of form `phys`. -/
def entryGives (w : Work) (q : Who) (form phys : AccForm) (size va : Nat) (te : TlbEntry) : Work × Xlat :=
  let b := te.bits
  let pa := te.frame + va % 2 ^ te.lg
  if !q.fw && classify pa == .firmware then (w, .fault Cause.protection 1)
  else if (!q.fw && !bit b 8) || (form.reads && !bit b 5) || (form.writes && !bit b 6) || (form == .fetch && !bit b 7) then
    (w, .fault Cause.protection 0)
  else
    if !w.physOk q phys size pa then (w, .fault Cause.protection (physSub q pa))
    else
      let tag := bits b 2 2
      let conv := converts form (tag == 2)
      (w.touch te form.writes conv, .ok pa (if conv || tag == 0 then none else some (tag == 2)))

/-- The checks and the physical address that a leaf entry gives an access. -/
def throughEntry (w : Work) (q : Who) (form : AccForm) (size va : Nat) (te : TlbEntry) : Work × Xlat :=
  w.entryGives q form form size va te

/-- Translate a 72-bit virtual address for an access of `size` bytes (05 R91, R97, R109 to R112). -/
def translate (w : Work) (q : Who) (form : AccForm) (size va : Nat) : Work × Xlat :=
  let top := bits va 64 8
  if top == 0xFF then
    let off := low va 64
    let t := off / 0x200000
    if off % 0x200000 ≥ 0x180000 || t ≥ 160 then (w, .fault Cause.protection 1)
    else if q.fw || q.live.contains t then (w, .ok (stashBase t + off % 0x200000) none)
    else if q.pass.contains t then (w, .fault Cause.protection 2)
    else (w, .fault Cause.protection 1)
  else if top == 0xFE then (w, .fault Cause.protection 1)
  else
    match w.findEntry q va with
    | (w, .error s) => (w, .fault Cause.pageFault s)
    | (w, .ok te) => w.throughEntry q form size va te

/-- The bit of the word at a translated address: that of its page while the page is ALL_EMPTY or ALL_FULL (05 R111); a host word is FULL
(23 R418). -/
def bitAt (w : Work) (pa : Nat) : Option Bool → Bool
  | some b => isHost pa || b
  | none => w.isFull (pa / 8)

/-- The `size` bytes at a translated address: 0 while the page is ALL_EMPTY or ALL_FULL (05 R111). -/
def dataAt (w : Work) (pa size : Nat) : Option Bool → Nat
  | some _ => 0
  | none => w.load pa size

/-- Read `n` words with plain loads from a virtual address for an instruction's operand or descriptor (ACC 4): the words, or
the cause, the subcode and the failing address; a poisoned line gives UNCORRECTABLE with its line (05 R121), and a list that is not
aligned to 8 bytes, which nothing else has refused, ALIGN (00 R17; DEDUCED, log 47). -/
def readWords (w : Work) (q : Who) : Nat → Nat → Work × Except (Nat × Nat × Nat) (List Word)
  | 0, _ => (w, .ok [])
  | n + 1, va =>
    if va % 8 != 0 then (w, .error (Cause.align, 0, va))
    else
    match w.translate q .desc 8 va with
    | (w, .fault c s) => (w, .error (c, s, va))
    | (w, .ok pa u) =>
      match w.poisonOf pa with
      | some src => (w, .error (Cause.uncorrectable, src, pa / 64))
      | none =>
        let v : Word := BitVec.ofNat 64 (w.dataAt pa 8 u)
        match readWords w q n (2 ^ 64 * (va / 2 ^ 64) + low (va + 8) 64) with
        | (w, .error e) => (w, .error e)
        | (w, .ok vs) => (w, .ok (v :: vs))

/-- The physical addresses of `n` consecutive words that will be written by plain stores, or what fails. -/
def placeWords (w : Work) (q : Who) : Nat → Nat → Work × Except (Nat × Nat × Nat) (List Nat)
  | 0, _ => (w, .ok [])
  | n + 1, va =>
    match w.translate q .descStore 8 va with
    | (w, .fault c s) => (w, .error (c, s, va))
    | (w, .ok pa _) =>
      match w.poisonOf pa with
      | some src => (w, .error (Cause.uncorrectable, src, pa / 64))
      | none =>
        match placeWords w q n (2 ^ 64 * (va / 2 ^ 64) + low (va + 8) 64) with
        | (w, .error e) => (w, .error e)
        | (w, .ok ps) => (w, .ok (pa :: ps))

end Work

/-- S_EINFO of a failed operand access (21 R397), for instruction `idx`. -/
def einfoAccess (e : Nat × Nat × Nat) (acc idx : Nat) : Word :=
  if e.1 == Cause.uncorrectable then einfoUncorr e.2.1 e.2.2 idx else einfoMem e.2.2 e.2.1 acc 0 idx

end Sys2Proof.Machine
end

