-- ==== Sys2Proof/Machine/Operands.lean ====
section
/-! DEFINITION. Firing (09 R176, R177): the operand slots of the instruction in focus, nulls and predicates, the delivery of
results, traps recorded at an index, and the order of memory accesses by lsid (11 R211). -/

namespace Sys2Proof.Machine

open Sys2Proof

/-- The value of a filled slot; a null reads as 0 here and is told apart before. -/
def Operand.word : Option Operand → Word
  | some (.val v) => v
  | some .null => 0
  | none => 0

/-- The slot of an instruction is taken by a shape: its predicate slot also when pr ≠ 00 (09 R176). -/
def Shape.takesThird (sh : Shape) : Bool := sh.third || sh.pr != 0#2

/-- Every slot that the shape takes holds a value or a null (09 R176). -/
def Shape.filled (sh : Shape) (x : InstState) : Bool :=
  (!sh.left || x.left.isSome) && (!sh.right || x.right.isSome) && (!sh.takesThird || x.third.isSome)

/-- Some slot that the shape takes holds a null (09 R176). -/
def Shape.hasNull (sh : Shape) (x : InstState) : Bool :=
  (sh.left && x.left == some .null) || (sh.right && x.right == some .null) || (sh.takesThird && x.third == some .null)

/-- The predicate holds, or there is none (07 R146, 09 R176). -/
def Shape.predOk (sh : Shape) (x : InstState) : Bool :=
  !((sh.pr == 2#2 && bit (Operand.word x.third).toNat 0) || (sh.pr == 3#2 && !bit (Operand.word x.third).toNat 0))

/-- The instruction at `idx` of a block. -/
def Block.inst (b : Block) (idx : Nat) : InstState := listGet {} idx b.insts

/-- The instruction encoded at `idx` of a block. -/
def Block.instr (b : Block) (idx : Nat) : Option Instr := decode (listGet 0 idx b.words)

/-- Set the phase of the instruction at `idx`. -/
def Block.setPhase (b : Block) (idx : Nat) (p : Phase) : Block :=
  { b with insts := listModify (fun x => { x with phase := p }) idx b.insts }

/-- A store-class instruction has served its lsid (09 R180): it performed or was nullified. -/
def InstState.served (x : InstState) : Bool := x.phase == .performed || x.phase == .nullified

/-- The store-class instructions of a block with what each has come to: lsid and state. -/
def Block.stores (b : Block) : List (Nat × InstState) :=
  (b.words.zip b.insts).filterMap (fun p =>
    match decode p.1 with
    | none => none
    | some i =>
      match lsidOf i with
      | some (l, true) => some (l, p.2)
      | _ => none)

/-- Every store-class lsid below `l` has been served (11 R211). -/
def Block.lsidReady (b : Block) (l : Nat) : Bool :=
  b.stores.all (fun s => l ≤ s.1 || b.stores.any (fun u => u.1 == s.1 && u.2.served))

/-- The loads that wait for FULL (11 R216). -/
def waitingLoad : Instr → Bool
  | .ldw1 _ _ _ _ | .ldw2 _ _ _ _ | .ldw4 _ _ _ _ | .ldw8 _ _ _ _ => true
  | .ldc1 _ _ _ _ | .ldc2 _ _ _ _ | .ldc4 _ _ _ _ | .ldc8 _ _ _ _ => true
  | _ => false

/-- Size and offset of a load or a test (11 R216). -/
def loadOf : Instr → Option (Nat × BitVec 9)
  | .ld1 _ _ imm _ | .ld1s _ _ imm _ => some (1, imm)
  | .ld2 _ _ imm _ | .ld2s _ _ imm _ => some (2, imm)
  | .ld4 _ _ imm _ | .ld4s _ _ imm _ => some (4, imm)
  | .ld8 _ _ imm _ | .tstfe _ _ imm _ => some (8, imm)
  | .ldw1 _ _ imm _ | .ldc1 _ _ imm _ => some (1, imm)
  | .ldw2 _ _ imm _ | .ldc2 _ _ imm _ => some (2, imm)
  | .ldw4 _ _ imm _ | .ldc4 _ _ imm _ => some (4, imm)
  | .ldw8 _ _ imm _ | .ldc8 _ _ imm _ => some (8, imm)
  | _ => none

namespace Block

/-- The slots of an instruction are filled and it will act: no null, and a predicate that holds. -/
def acts (x : InstState) (sh : Shape) : Bool := sh.filled x && !sh.hasNull x && sh.predOk x

/-- The word that a load or test reads, once its base is there. -/
def loadWord (b : Block) (j : Nat) : Option Word :=
  match b.instr j with
  | none => none
  | some i =>
    match loadOf i, (b.inst j).left with
    | some (size, imm), some (.val a) => some ((a + imm.signExtend 64 * BitVec.ofNat 64 size) / 8)
    | _, _ => none

/-- The instructions of the block that the results of the one at `i` go to. -/
def receivers (b : Block) (i : Nat) : List Nat :=
  match b.instr i with
  | none => []
  | some x => ([(shape x).t0, (shape x).t1].filter (fun t => t.toNat < 384)).map (fun t => t.toNat % 128)

/-- The instructions that some lead to by a relation, in up to `n` steps. -/
def reached (next : Nat → List Nat) : Nat → List Nat → List Nat
  | 0, is => is
  | n + 1, is =>
    let js := (is ++ is.flatMap next).eraseDups
    if js.length == is.length then is else reached next n js

/-- The instruction at `j` takes what comes of that at `i`. -/
def feeds (b : Block) (i j : Nat) : Bool := (reached b.receivers b.insts.length [i]).contains j

/-- The load at `i` has still to perform. -/
def open_ (b : Block) (i : Instr) (j : Nat) : Bool :=
  let x := b.inst j
  let sh := shape i
  x.phase == .waiting || (x.phase == .idle && (!sh.filled x || acts x sh))

/-- The loads that can only perform after that at `i` (05 R124 rules 1 and 5): those after it in the order of R211, where it waits for FULL, or
of the same word; but not one that it depends on. -/
def after (b : Block) (i : Nat) : List Nat :=
  match b.instr i with
  | none => []
  | some x =>
    match lsidOf x with
    | some (l, false) =>
      if !b.open_ x i then []
      else (List.range b.insts.length).filter (fun k =>
        match (b.instr k).bind lsidOf with
        | some (m, false) => (l < m || (l == m && i < k))
            && (waitingLoad x || (b.loadWord i).any (fun u => b.loadWord k == some u)) && !b.feeds k i
        | _ => false)
    | _ => []

/-- The instruction at `j` can only perform after that at `i`: by what it takes, or by the order of loads. -/
def follows (b : Block) (i j : Nat) : Bool := (reached (fun k => b.receivers k ++ b.after k) b.insts.length [i]).contains j

/-- The load at `j` has still to perform, and may have to do so before that at `idx` (05 R124 rules 1 and 5, R129): it waits for FULL, or
it may read the same word. -/
def pends (b : Block) (idx j : Nat) : Bool :=
  match b.instr j with
  | none => false
  | some i =>
    b.open_ i j && (waitingLoad i || (match b.loadWord j, b.loadWord idx with
      | some u, some v => u == v
      | _, _ => true))

/-- A load before that at `idx`, of lsid `l`, in the order of R211 pends, and does not itself have to come after the load at `idx`. -/
def pendsBefore (b : Block) (idx l : Nat) : Bool :=
  (List.range b.insts.length).any (fun j =>
    match (b.instr j).bind lsidOf with
    | some (m, false) => (m < l || (m == l && j < idx)) && b.pends idx j && !b.follows idx j
    | _ => false)

/-- Nothing in the block can go on before the load at `idx`, of lsid `l`: nothing is on its way or waits, and no other instruction can
fire, loads after it that pending loads hold back apart. -/
def onlyLoad (b : Block) (idx l : Nat) : Bool :=
  b.inflight.isEmpty && b.waits.isEmpty && (List.range b.insts.length).all (fun j =>
    match b.instr j with
    | none => true
    | some i =>
      let x := b.inst j
      let sh := shape i
      j == idx || x.phase != .idle || !sh.filled x || (acts x sh && (match lsidOf i with
        | none => false
        | some (m, true) => !b.lsidReady m
        | some (m, false) => !b.lsidReady m || ((l < m || (m == l && idx < j)) && b.pendsBefore j m))))

/-- The load at `idx`, of lsid `l`, is held back behind a pending load before it that does not depend on it, as long as something else in
the block can go on. DEDUCED, log 18. -/
def loadHeld (b : Block) (idx l : Nat) : Bool := b.pendsBefore idx l && !b.onlyLoad idx l

end Block

/-- Put a value or null on its way to a target (09 R177). -/
def Block.send (b : Block) (src : Nat) (t : Target) (v : Operand) (due : Nat) : Block :=
  if t == noTarget then b else { b with inflight := b.inflight ++ [⟨src, t, v, due⟩] }

/-- Put a value or null on its way to both targets (09 R177). -/
def Block.sendBoth (b : Block) (src : Nat) (t0 t1 : Target) (v : Operand) (due : Nat) : Block :=
  (b.send src t0 v due).send src t1 v due

/-- Record a trap of the instruction at `idx` (09 R180, R183). -/
def Block.trapAt (b : Block) (idx cause : Nat) (einfo : Word) : Block :=
  { b.setPhase idx .trapped with
      traps := b.traps ++ [⟨idx, cause, einfo⟩], waits := b.waits.filter (fun x => x.idx != idx) }

/-- Record a broken rule against the instruction at `idx`; the block runs on (09 R182). -/
def Block.breakRule (b : Block) (idx entry reason : Nat) : Block :=
  { b with traps := b.traps ++ [⟨idx, Cause.blockFormat, einfoFormat entry reason idx⟩] }

/-- A store-class instruction at `idx` performs or is nullified, and so serves its lsid (09 R180). -/
def Block.serve (b : Block) (idx : Nat) (p : Phase) : Block := b.setPhase idx p

/-- The indices of the store-class instructions of lsid `l` that have served it, ascending. -/
def Block.serversOf (b : Block) (l : Nat) : List Nat :=
  (List.range b.insts.length).filter (fun i => ((b.instr i).bind lsidOf) == some (l, true) && (b.inst i).served)

/-- What breaks a rule when a second instruction acts (09 R182): a second exit (REASON 3), a second store-class instruction of one lsid
(REASON 4). Of those that have acted the second is the next in ascending index, so that the order of firing has no effect (R179; DEDUCED,
log 48). -/
def Block.seconds (b : Block) : List Trap :=
  let es := (List.range b.insts.length).filter (fun i => b.exits.any (fun x => x.idx == i))
  let mk (r i : Nat) : Trap := ⟨i, Cause.blockFormat, einfoFormat 0 r i⟩
  (es.drop 1).map (mk 3) ++ (List.range 32).flatMap (fun l => ((b.serversOf l).drop 1).map (mk 4))

/-- The block holds a trapping instruction or a broken rule (09 R182). -/
def Block.broken (b : Block) : Bool := !b.traps.isEmpty || !b.seconds.isEmpty

namespace Work

/-- Deliver a result to the targets of a shape after `lat` clk, and mark the instruction in focus performed (09 R176, R208). -/
def deliver (w : Work) (sh : Shape) (v : Word) (lat : Nat) : Work :=
  w.onBlock (fun b => (b.setPhase w.focus.idx .performed).sendBoth w.focus.idx sh.t0 sh.t1 (.val v) (w.now + lat))

/-- The instruction in focus traps (09 R180). -/
def trap (w : Work) (cause : Nat) (einfo : Word) : Work := w.onBlock (fun b => b.trapAt w.focus.idx cause einfo)

/-- The instruction in focus is nullified: a null goes to every target, and a store-class instruction serves its lsid
(09 R176). -/
def nullify (w : Work) (sh : Shape) (lsid : Option Nat) : Work :=
  w.onBlock (fun b =>
    let b := b.sendBoth w.focus.idx sh.t0 sh.t1 .null (w.now + 1)
    match lsid with
    | none => b.setPhase w.focus.idx .nullified
    | some _ => b.serve w.focus.idx .nullified)

/-- The instruction in focus performs and delivers nothing. -/
def perform (w : Work) : Work := w.onBlock (fun b => b.setPhase w.focus.idx .performed)

/-- Add an effect for commit, and mark the instruction in focus performed. -/
def effect (w : Work) (e : Effect) : Work :=
  w.onBlock (fun b => { b.setPhase w.focus.idx .performed with effs := b.effs ++ [(w.focus.idx, e)] })

end Work

/-- The instruction in focus may fire: its block is in flight, it has not fired, and the slots of its shape are filled. -/
def canFire (sh : Shape) (w : Work) : Bool :=
  match w.block with
  | none => false
  | some b =>
    w.me.status == .running && w.focus.idx < b.insts.length && (b.inst w.focus.idx).phase == .idle
      && sh.filled (b.inst w.focus.idx)

/-- Fire the instruction in focus (09 R176): `act` gets the values of the left, right and third slots. `store` is the lsid
of a store-class instruction. -/
def fireWith (store : Option Nat) (sh : Shape) (act : Word → Word → Word → Work → Work) (s : State) :
    Host.Outcome State Fault Refusal :=
  if !canFire sh s.work then .fault .notEnabled
  else
    match s.work.block with
    | none => .fault .notEnabled
    | some b =>
      let x := b.inst s.focus.idx
      if sh.hasNull x then .next (s.lift (fun w => w.nullify sh store))
      else if !sh.predOk x then .next (s.lift (fun w => w.onBlock (fun b => b.setPhase w.focus.idx .mismatched)))
      else .next (s.lift (act (Operand.word x.left) (Operand.word x.right) (Operand.word x.third)))

/-- Fire an instruction that is not store-class. -/
def fire (sh : Shape) (act : Word → Word → Word → Work → Work) (s : State) : Host.Outcome State Fault Refusal :=
  fireWith none sh act s

/-- Fire an instruction that only computes: one result after `lat` clk. -/
def fireAlu (sh : Shape) (lat : Nat) (f : Word → Word → Word → Word) (s : State) : Host.Outcome State Fault Refusal :=
  fire sh (fun a b c w => w.deliver sh (f a b c) lat) s

/-- The wide instructions that access memory when they are applied (17 R326). -/
def wideMemory : Instr → Bool
  | .wld _ _ _ => true
  | .wst _ _ _ => true
  | .xst _ _ => true
  | .xld _ _ => true
  | .wrun _ => true
  | _ => false

/-- A wide access of the context's earlier blocks has still to perform (05 R124 rule 1, 17 R326). -/
def Work.widePending (w : Work) : Bool :=
  (w.tile w.focus.tile).wq.any (fun o => o.party == w.party && wideMemory o.instr)
    || (w.tile w.focus.tile).wide.run.any (fun r => r.op.party == w.party)

/-- Fire an instruction outside the lsid order that reads or writes memory: not before the wide accesses of the context's earlier blocks
have performed (05 R124 rule 1, 17 R326). -/
def fireAccess (sh : Shape) (act : Word → Word → Word → Work → Work) (s : State) : Host.Outcome State Fault Refusal :=
  match s.work.block with
  | none => .fault .notEnabled
  | some b =>
    let x := b.inst s.focus.idx
    if !sh.hasNull x && sh.predOk x && s.work.widePending then .fault .notEnabled else fire sh act s

/-- Fire an instruction outside the lsid order that writes memory when it fires: as `fireAccess`, and not while another party claims a
word that it writes (11 R213). -/
def fireStore (sh : Shape) (act : Word → Word → Word → Work → Work) (s : State) : Host.Outcome State Fault Refusal :=
  match s.work.block with
  | none => .fault .notEnabled
  | some b =>
    let x := b.inst s.focus.idx
    let u := act (Operand.word x.left) (Operand.word x.right) (Operand.word x.third) s.work
    if !sh.hasNull x && sh.predOk x && u.writesClaimed (some s.work.party) then .fault .notEnabled else fireAccess sh act s

/-- Fire a memory access of lsid `l` (11 R211): it may not act before every store-class lsid below its own is
served, nor before the wide accesses of the context's earlier blocks have performed; a load not before those that it is held behind. -/
def fireMem (l : Nat) (isStore : Bool) (sh : Shape) (act : Word → Word → Word → Work → Work) (s : State) :
    Host.Outcome State Fault Refusal :=
  match s.work.block with
  | none => .fault .notEnabled
  | some b =>
    let x := b.inst s.focus.idx
    if !sh.hasNull x && sh.predOk x && (!b.lsidReady l || s.work.widePending || (!isStore && b.loadHeld s.focus.idx l)) then .fault .notEnabled
    else fireWith (if isStore then some l else none) sh act s

end Sys2Proof.Machine
end

