-- ==== Sys2Proof/Machine/Fetch.lean ====
section
/-! DEFINITION. Block fetch (07 R137 to R144, R153; 09 R175, R178): the parts of a block, the refusals in their order, and the
start of a block. Also the delivery of results (09 R177, R182) and the return block address (09 R196). -/

namespace Sys2Proof.Machine

open Sys2Proof

/-- A block's parts (07 R137, R138): header words, read entries, write entries, instruction words. -/
structure Parts where
  h0 : Nat
  h1 : Nat
  reads : List Nat
  writes : List Nat
  words : List IWord
  deriving DecidableEq, Repr

namespace Parts

def kind (p : Parts) : Nat := bits p.h0 28 4
def ni (p : Parts) : Nat := bits p.h0 21 7 + 1
def ns (p : Parts) : Nat := bits p.h0 16 5
def nexits (p : Parts) : Nat := bits p.h0 13 3 + 1
def fw (p : Parts) : Bool := bit p.h0 8
def nr (p : Parts) : Nat := bits p.h0 0 8
def nw (p : Parts) : Nat := bits p.h1 0 6

/-- KIND, NR and NW are in range, so that the length is defined (07 R137, R153 order 2). -/
def sized (p : Parts) : Bool := p.kind == 0xB && p.nr ≤ 32 && p.nw ≤ 32

end Parts

/-- Bytes before the instructions (07 R137): 8 + 2 × nr + nw, rounded up to a multiple of 4. -/
def headLen (nr nw : Nat) : Nat := (8 + 2 * nr + nw + 3) / 4 * 4

/-- The return block address of a block (09 R196). -/
def returnAddr (a : VAddr) (ni nr nw : Nat) : Word :=
  BitVec.ofNat 64 ((low a.toNat 64 + headLen nr nw + 4 * ni + 15) / 16 * 16)

/-- A refusal or trap: cause and S_EINFO. -/
abbrev Refused := Nat × Word

/-- The class of a target (07 R142) among the instructions of a block: 5 for a reserved one, 7 for one that names no slot or
write entry, 0 when it is sound. -/
def targetClass (is : List Instr) (nw : Nat) (t : Nat) : Nat :=
  let slot := t / 128
  let idx := t % 128
  if slot == 3 then (if idx == 127 then 0 else if idx < 32 then (if idx < nw then 0 else 7) else 5)
  else if is.length ≤ idx then 7
  else
    let sh := shape (listGet (.null 0 0 0) idx is)
    if (slot == 0 && sh.left) || (slot == 1 && sh.right) || (slot == 2 && sh.takesThird) then 0 else 7

/-- Whether some entry stands twice in a list. -/
def hasDup : List Nat → Bool
  | [] => false
  | x :: xs => xs.contains x || hasDup xs

/-- The first index from `i` whose word satisfies `p`. -/
def firstWord (p : IWord → Bool) : Nat → List IWord → Option Nat
  | _, [] => none
  | i, w :: ws => if p w then some i else firstWord p (i + 1) ws

/-- Order 7 for the header and entries (07 R141, R142, R144, R178): the REASON, or none. A write entry of a CALL block that names g2, and an
NS that does not match, count as the header's (DESIGN CHOICE, log 57). -/
def headFault (p : Parts) (is : List Instr) : Option Nat :=
  let targets := p.reads.map (fun e => e % 512)
  let lsids := is.filterMap lsidOf
  let storeLsids := ((List.range 32).filter (fun l => lsids.contains (l, true))).length
  if hasDup (p.writes.map (fun e => e % 128)) then some 0
  else if targets.any (fun t => targetClass is p.nw t == 7) then some 1
  else if hasDup (targets.filter (fun t => t != 0x1FF)) then some 1
  else if is.any isCall && p.writes.any (fun e => e % 128 == 2) then some 1
  else if storeLsids != p.ns then some 1
  else none

/-- Order 7 for the instruction at position `i` (07 R142, R144, R178). -/
def instFault (p : Parts) (is : List Instr) (i : Nat) (x : Instr) : Bool :=
  let sh := shape x
  targetClass is p.nw sh.t0.toNat == 7 || targetClass is p.nw sh.t1.toNat == 7
    || (sh.t0 == sh.t1 && sh.t0 != noTarget)
    || (match lsidOf x with
        | none => false
        | some (l, st) => (is.take i).any (fun y => lsidOf y == some (l, !st)))
    || (match exitNoOf x with
        | none => false
        | some e => p.nexits ≤ e)

/-- The first instruction that order 7 refuses. -/
def firstInstFault (p : Parts) (all : List Instr) : Nat → List Instr → Option Nat
  | _, [] => none
  | i, x :: xs => if instFault p all i x then some i else firstInstFault p all (i + 1) xs

/-- The refusal of a block by orders 2 to 7 of R153, in a mode: the first cause in the table's order, the header and entries
first, then the instructions in ascending index. -/
def blockRefusal (task : Bool) (p : Parts) : Option Refused :=
  let is := p.words.filterMap decode
  let regs := p.reads.map (fun e => e / 512) ++ p.writes.map (fun e => e % 128)
  if !p.sized then some (Cause.blockFormat, einfoFormat 0 0 0x7F)
  else if bits p.h0 9 4 != 0 || bits p.h1 6 26 != 0 || p.writes.any (fun e => bit e 7) then
    some (Cause.reservedField, 0x7F)
  else match firstWord wordIllegal 0 p.words with
  | some i => some (Cause.illegalOp, BitVec.ofNat 64 i)
  | none =>
    if p.reads.any (fun e => targetClass is p.nw (e % 512) == 5) then some (Cause.reservedField, 0x7F)
    else match firstWord wordReserved 0 p.words with
    | some i => some (Cause.reservedField, BitVec.ofNat 64 i)
    | none =>
      if (p.fw && task) || (!p.fw && regs.any (fun r => 112 ≤ r)) then some (Cause.priv, 0x7F)
      else match (if p.fw then none else firstWord (fun w => match decode w with | none => false | some x => firmwareOnly x) 0 p.words) with
      | some i => some (Cause.priv, BitVec.ofNat 64 i)
      | none =>
        match headFault p is with
        | some r => some (Cause.blockFormat, einfoFormat 0 r 0x7F)
        | none =>
          match firstInstFault p is 0 is with
          | some i => some (Cause.blockFormat, einfoFormat 0 1 i)
          | none => none

/-! ### Delivery (09 R177, R182) -/

/-- What a slot of an instruction holds. -/
def InstState.slot (x : InstState) (slot : Nat) : Option Operand :=
  if slot == 0 then x.left else if slot == 1 then x.right else x.third

/-- Fill a slot of an instruction, unless it is filled. -/
def InstState.fill (x : InstState) (slot : Nat) (v : Operand) : InstState :=
  if slot == 0 then { x with left := some (x.left.getD v) }
  else if slot == 1 then { x with right := some (x.right.getD v) }
  else { x with third := some (x.third.getD v) }

/-- A value or null arrives at a target: a slot, or a write entry where it is held until commit. A second arrival breaks a
rule: REASON 2, naming the receiving instruction or the write entry (07 R143, 09 R182, R183). -/
def Block.arrive (b : Block) (t : Target) (v : Operand) : Block :=
  let slot := t.toNat / 128
  let idx := t.toNat % 128
  if t == noTarget then b
  else if slot == 3 then
    match listGet (none : Option Operand) idx b.held with
    | some _ => { b with traps := b.traps ++ [⟨128, Cause.blockFormat, einfoFormat idx 2 0x7F⟩] }
    | none => { b with held := listModify (fun _ => some v) idx b.held }
  else
    let x := b.inst idx
    match x.slot slot with
    | none => { b with insts := listModify (fun _ => x.fill slot v) idx b.insts }
    | some u => ({ b with races := if u == v then b.races else idx :: b.races }).breakRule idx 0 2

/-- A block at its start: every read entry delivers in one event (07 R140, 09 R175). -/
def Block.start (c : Ctx) (a : VAddr) (p : Parts) : Block :=
  let b : Block :=
    { addr := a, words := p.words, writes := p.writes.map (fun e => e % 128), held := p.writes.map (fun _ => none),
      nr := p.nr, ns := p.ns, fw := p.fw, insts := p.words.map (fun _ => {}) }
  p.reads.foldl (fun b e => b.arrive (BitVec.ofNat 9 e) (.val (c.reg (e / 512)))) b

/-! ### Events -/

namespace Work

/-- The 72-bit address `n` bytes after `a`. -/
def vaNext (a n : Nat) : Nat := (a + n) % 2 ^ 72

/-- Read `n` bytes of a block from virtual address `a`, whose pages have been translated: one byte at a time through the
translation, which no longer faults. -/
def fetchBytes (w : Work) (q : Who) : Nat → Nat → List Nat
  | 0, _ => []
  | n + 1, a =>
    match w.translate q .fetch 1 a with
    | (_, .fault _ _) => 0 :: fetchBytes w q n (vaNext a 1)
    | (_, .ok pa u) => w.dataAt pa 1 u :: fetchBytes w q n (vaNext a 1)

/-- Little-endian number of a list of bytes. -/
def leNat : List Nat → Nat
  | [] => 0
  | b :: bs => b + 256 * leNat bs

/-- `n` little-endian numbers of `k` bytes each. -/
def leMany (k : Nat) : Nat → List Nat → List Nat
  | 0, _ => []
  | n + 1, bs => leNat (bs.take k) :: leMany k n (bs.drop k)

/-- Translate the pages of 64 KiB from `a` on that hold bytes up to `last` (07 R137): none, or the fault and its address. -/
def fetchPages (w : Work) (q : Who) : Nat → Nat → Nat → Work × Option (Nat × Nat × Nat)
  | 0, _, _ => (w, none)
  | fuel + 1, a, left =>
    match w.translate q .fetch 1 a with
    | (w, .fault c s) => (w, some (c, s, a))
    | (w, .ok pa _) =>
      let step := 0x10000 - a % 0x10000
      match w.core.poison.find? (fun p => pa / 64 ≤ p.1 && p.1 ≤ (pa + min left step - 1) / 64) with
      | some p => (w, some (Cause.uncorrectable, p.2, p.1))
      | none =>
        if left ≤ step then (w, none) else fetchPages w q fuel (vaNext a step) (left - step)

/-- Read a block's parts at virtual address `a` (07 R137): its parts, or the fetch fault. -/
def readParts (w : Work) (q : Who) (a : Nat) : Work × Except (Nat × Nat × Nat) Parts :=
  match w.fetchPages q 1 a 8 with
  | (w, some e) => (w, .error e)
  | (w, none) =>
    let hb := w.fetchBytes q 8 a
    let p : Parts := ⟨leNat (hb.take 4), leNat (hb.drop 4), [], [], []⟩
    if !p.sized then (w, .ok p)
    else
      let len := headLen p.nr p.nw + 4 * p.ni
      match w.fetchPages q 3 a len with
      | (w, some e) => (w, .error e)
      | (w, none) =>
        let bs := w.fetchBytes q (len - 8) (vaNext a 8)
        let reads := leMany 2 p.nr bs
        let writes := leMany 1 p.nw (bs.drop (2 * p.nr))
        let words := (leMany 4 p.ni (bs.drop (headLen p.nr p.nw - 8))).map (BitVec.ofNat 32)
        (w, .ok { p with reads := reads, writes := writes, words := words })

/-- Deliver a trap to the context in focus at block address `a` (21 R395): its block is gone, its claims and pending queue
units are released by the caller, and it is the last whose block ended (01 R28). -/
def deliverTrap (w : Work) (a : VAddr) (cause : Nat) (einfo : Word) : Work :=
  (w.setCtx w.focus.tile w.focus.ctx (w.me.takeTrap a cause einfo)).setLast w.focus.tile w.focus.ctx

/-- Fetch the next block of the context in focus (07 R137, R153): it starts, or its refusal is delivered as a trap. -/
def fetchBlock (w : Work) : Work :=
  let a := BitVec.ofNat 72 (w.me.pc.toNat / 16 * 16)
  match w.readParts w.who a.toNat with
  | (w, .error e) =>
    w.deliverTrap a e.1 (if e.1 == Cause.uncorrectable then einfoUncorr e.2.1 e.2.2 0x7F else einfoMem e.2.2 e.2.1 0 0 0x7F)
  | (w, .ok p) =>
    match blockRefusal (!w.me.fw) p with
    | some r => w.deliverTrap a r.1 r.2
    | none =>
      w.setCtx w.focus.tile w.focus.ctx
        { w.me with status := .running, handler := false, fence := 0, pc := a, block := some (Block.start w.me a p) }

end Work

end Sys2Proof.Machine
end

