-- ==== Sys2Proof/Machine/Flags.lean ====
section
/-! DEFINITION. Floating point and its flags (03 R52 to R60, 09 R201 to R207): formats, exact values, one rounding, and the
arithmetic of scalar, wide, online and matrix units on them.

A finite value is exact: sign, natural significand, integer exponent of two. An operation computes the exact result and
rounds once. -/

namespace Sys2Proof.Machine

open Sys2Proof

/-- The exception flags (03 R59): bit 0 NX, 1 UF, 2 OF, 3 DZ, 4 NV. -/
abbrev FpFlags := BitVec 5

namespace FpFlags
def nx : FpFlags := 1
def uf : FpFlags := 2
def of : FpFlags := 4
def dz : FpFlags := 8
def nv : FpFlags := 16
end FpFlags

/-- Which infinities and NaNs a format has (03 R52). -/
inductive FmtKind where
  | ieee
  /-- E4M3: no infinity, one NaN -/
  | e4m3
  /-- FP6 and FP4: neither -/
  | finite
  deriving DecidableEq, Repr

/-- A floating-point format (03 R52): exponent bits, fraction bits, bias. -/
structure Fmt where
  eb : Nat
  fb : Nat
  bias : Nat
  kind : FmtKind
  deriving DecidableEq, Repr

def fp64 : Fmt := ⟨11, 52, 1023, .ieee⟩
def fp32 : Fmt := ⟨8, 23, 127, .ieee⟩
def fp16 : Fmt := ⟨5, 10, 15, .ieee⟩
def bf16 : Fmt := ⟨8, 7, 127, .ieee⟩
def e5m2 : Fmt := ⟨5, 2, 15, .ieee⟩
def e4m3 : Fmt := ⟨4, 3, 7, .e4m3⟩
def e3m2 : Fmt := ⟨3, 2, 3, .finite⟩
def e2m3 : Fmt := ⟨2, 3, 1, .finite⟩
def e2m1 : Fmt := ⟨2, 1, 1, .finite⟩

namespace Fmt

/-- The sign bit's place, which is also the count of exponent and fraction bits. -/
def top (f : Fmt) : Nat := f.eb + f.fb

/-- The exponent of the lowest bit of a subnormal (03 R52). -/
def emin (f : Fmt) : Int := 1 - (f.bias : Int) - (f.fb : Int)

/-- The encoding of the largest finite magnitude (03 R52). -/
def maxEnc (f : Fmt) : Nat :=
  match f.kind with
  | .ieee => (2 ^ f.eb - 1) * 2 ^ f.fb - 1
  | .e4m3 => 2 ^ f.top - 2
  | .finite => 2 ^ f.top - 1

/-- The encoding of infinity's magnitude, for the formats that have one. -/
def infEnc (f : Fmt) : Nat := (2 ^ f.eb - 1) * 2 ^ f.fb

/-- The canonical NaN (03 R56); for FP6 and FP4 the +0 that a NaN converts to (R60). -/
def nanEnc (f : Fmt) : Nat :=
  match f.kind with
  | .ieee => (2 ^ f.eb - 1) * 2 ^ f.fb + 2 ^ (f.fb - 1)
  | .e4m3 => 2 ^ f.top - 1
  | .finite => 0

/-- An encoding with a sign. -/
def signed (f : Fmt) (neg : Bool) (mag : Nat) : Nat := (if neg then 2 ^ f.top else 0) + mag

end Fmt

/-- The value of a word in a format (03 R52): ± m × 2^e when finite; a zero keeps its sign. -/
inductive Fp where
  | nan (signalling : Bool)
  | inf (neg : Bool)
  | fin (neg : Bool) (m : Nat) (e : Int)
  deriving DecidableEq, Repr

namespace Fp

/-- The value of the low bits of `x` in format `f`. -/
def of (f : Fmt) (x : Nat) : Fp :=
  let neg := bit x f.top
  let ex := bits x f.fb f.eb
  let fr := bits x 0 f.fb
  let finite : Fp := if ex == 0 then .fin neg fr f.emin else .fin neg (2 ^ f.fb + fr) (f.emin + (ex : Int) - 1)
  match f.kind with
  | .ieee => if ex == 2 ^ f.eb - 1 then (if fr == 0 then .inf neg else .nan (!bit fr (f.fb - 1))) else finite
  | .e4m3 => if bits x 0 f.top == 2 ^ f.top - 1 then .nan false else finite
  | .finite => finite

def isNan : Fp → Bool
  | .nan _ => true
  | _ => false

def isSnan : Fp → Bool
  | .nan s => s
  | _ => false

/-- The sign; a NaN counts as positive. -/
def neg : Fp → Bool
  | .nan _ => false
  | .inf n => n
  | .fin n _ _ => n

def isZero : Fp → Bool
  | .fin _ 0 _ => true
  | _ => false

def isInf : Fp → Bool
  | .inf _ => true
  | _ => false

/-- The value with its sign inverted. -/
def negate : Fp → Fp
  | .nan s => .nan s
  | .inf n => .inf (!n)
  | .fin n m e => .fin (!n) m e

end Fp

/-- A finite exact value as a signed significand. -/
def sgn (neg : Bool) (m : Nat) : Int := if neg then -(m : Int) else m

/-- The sum of two exact values: significand and exponent. -/
def exactAdd (a : Int) (ea : Int) (b : Int) (eb : Int) : Int × Int :=
  let e := min ea eb
  (a * 2 ^ (ea - e).toNat + b * 2 ^ (eb - e).toNat, e)

/-- Whether the significand rounds up (03 R57): mode, sign, kept significand, remainder, bits dropped, and whether more lies
below. -/
def roundsUp (rm : Nat) (neg : Bool) (hi rem shift : Nat) (sticky : Bool) : Bool :=
  if rm == 0 then 2 * rem > 2 ^ shift || (shift != 0 && 2 * rem == 2 ^ shift && (sticky || hi % 2 == 1))
  else if rm == 1 then false
  else (rem != 0 || sticky) && (if rm == 2 then !neg else neg)

/-- `m × 2^e` cut to a lowest exponent `q` and rounded in a mode: the significand at `q`, and whether it is inexact. -/
def cutAt (rm : Nat) (neg : Bool) (m : Nat) (e q : Int) (sticky : Bool) : Nat × Bool :=
  if q ≤ e then (m * 2 ^ (e - q).toNat, sticky)
  else
    let shift := (q - e).toNat
    let hi := m / 2 ^ shift
    let rem := m % 2 ^ shift
    (if roundsUp rm neg hi rem shift sticky then hi + 1 else hi, rem != 0 || sticky)

/-- What rounding gives: the magnitude's encoding, or an overflow and whether it goes to infinity; and NX, UF, OF. -/
structure Rounded where
  enc : Nat
  tooBig : Bool
  toInf : Bool
  flags : FpFlags
  deriving DecidableEq, Repr

/-- round(±m × 2^e, F, mode) (03 R58): tininess after rounding, subnormals kept. `sticky` says that the value exceeds
m × 2^e by less than one unit of m. -/
def roundMag (f : Fmt) (rm : Nat) (neg : Bool) (m : Nat) (e : Int) (sticky : Bool) : Rounded :=
  if m == 0 && !sticky then ⟨0, false, false, 0⟩
  else
    let lead : Int := (Nat.log2 m : Int) + e
    let q := max (lead - f.fb) f.emin
    let r := cutAt rm neg m e q sticky
    let enc := (q - f.emin).toNat * 2 ^ f.fb + r.1
    let free := cutAt rm neg m e (lead - f.fb) sticky
    let tiny := (if free.1 == 2 ^ (f.fb + 1) then lead + 1 else lead) < f.emin + f.fb
    if f.maxEnc < enc then
      ⟨f.maxEnc, true, rm == 0 || (rm == 2 && !neg) || (rm == 3 && neg), FpFlags.of ||| FpFlags.nx⟩
    else
      ⟨enc, false, false, (if r.2 then FpFlags.nx else 0) ||| (if r.2 && tiny then FpFlags.uf else 0)⟩

/-- A word and the flags its making raised. -/
abbrev FpResult := Nat × FpFlags

/-- The canonical NaN with flags. -/
def nanResult (f : Fmt) (fl : FpFlags) : FpResult := (f.nanEnc, fl)

/-- An infinity of a format that has one. -/
def infResult (f : Fmt) (neg : Bool) (fl : FpFlags) : FpResult := (f.signed neg f.infEnc, fl)

/-- round of an exact value into a format with infinities (03 R58). -/
def roundTo (f : Fmt) (rm : Nat) (neg : Bool) (m : Nat) (e : Int) (sticky : Bool) : FpResult :=
  let r := roundMag f rm neg m e sticky
  (f.signed neg (if r.tooBig && r.toInf then f.infEnc else r.enc), r.flags)

/-- round of ±num ÷ den × 2^e: the quotient is taken to 80 bits or more, with a sticky rest. -/
def roundRat (f : Fmt) (rm : Nat) (neg : Bool) (num den : Nat) (e : Int) : FpResult :=
  let k := 80 + Nat.log2 den - Nat.log2 num
  let n := num * 2 ^ k
  roundTo f rm neg (n / den) (e - k) (n % den != 0)

/-- round of a signed significand; an exact zero is +0 (03 R58). -/
def roundInt (f : Fmt) (rm : Nat) (v : Int) (e : Int) : FpResult := roundTo f rm (v < 0) v.natAbs e false

/-- NV when an input is a signalling NaN. -/
def snanFlag (xs : List Fp) : FpFlags := if xs.any Fp.isSnan then FpFlags.nv else 0

/-- The sign of an exact zero sum (09 R204): −0 when both addends are −0, or where signs differ or terms cancel in RDN. -/
def zeroSumNeg (rm : Nat) (na nb bothZero : Bool) : Bool :=
  if bothZero && na == nb then na else rm == 3

/-- a + b rounded once (09 R203, R204). -/
def fpAdd (f : Fmt) (rm : Nat) (a b : Fp) : FpResult :=
  match a, b with
  | .inf na, .inf nb => if na == nb then infResult f na 0 else nanResult f FpFlags.nv
  | .inf na, .fin _ _ _ => infResult f na 0
  | .fin _ _ _, .inf nb => infResult f nb 0
  | .fin na ma ea, .fin nb mb eb =>
    let s := exactAdd (sgn na ma) ea (sgn nb mb) eb
    if s.1 == 0 then (f.signed (zeroSumNeg rm na nb (ma == 0 && mb == 0)) 0, 0)
    else roundInt f rm s.1 s.2
  | a, b => nanResult f (snanFlag [a, b])

/-- a × b rounded once (09 R203, R204). -/
def fpMul (f : Fmt) (rm : Nat) (a b : Fp) : FpResult :=
  if a.isNan || b.isNan then nanResult f (snanFlag [a, b])
  else
    let neg := a.neg != b.neg
    match a, b with
    | .fin _ ma ea, .fin _ mb eb => roundTo f rm neg (ma * mb) (ea + eb) false
    | a, b => if a.isZero || b.isZero then nanResult f FpFlags.nv else infResult f neg 0

/-- a ÷ b rounded once (09 R203, R204). -/
def fpDiv (f : Fmt) (rm : Nat) (a b : Fp) : FpResult :=
  if a.isNan || b.isNan then nanResult f (snanFlag [a, b])
  else
    let neg := a.neg != b.neg
    match a, b with
    | .fin _ ma ea, .fin _ mb eb =>
      if mb == 0 then (if ma == 0 then nanResult f FpFlags.nv else infResult f neg FpFlags.dz)
      else if ma == 0 then (f.signed neg 0, 0)
      else roundRat f rm neg ma mb (ea - eb)
    | .inf _, .inf _ => nanResult f FpFlags.nv
    | .inf _, _ => infResult f neg 0
    | _, _ => (f.signed neg 0, 0)

/-- The integer square root, from bit `k` down. -/
def isqrtFrom (n : Nat) : Nat → Nat → Nat
  | 0, r => r
  | k + 1, r => if (r + 2 ^ k) * (r + 2 ^ k) ≤ n then isqrtFrom n k (r + 2 ^ k) else isqrtFrom n k r

/-- The greatest r with r × r ≤ n. -/
def isqrt (n : Nat) : Nat := isqrtFrom n (Nat.log2 n / 2 + 1) 0

/-- √a rounded once (09 R203, R204). -/
def fpSqrt (f : Fmt) (rm : Nat) (a : Fp) : FpResult :=
  match a with
  | .nan s => nanResult f (if s then FpFlags.nv else 0)
  | .inf neg => if neg then nanResult f FpFlags.nv else infResult f false 0
  | .fin neg m e =>
    if m == 0 then (f.signed neg 0, 0)
    else if neg then nanResult f FpFlags.nv
    else
      let k : Nat := 130 + (if (e % 2 : Int) == 0 then 0 else 1)
      let n := m * 2 ^ k
      let r := isqrt n
      roundTo f rm false r ((e - k) / 2) (r * r != n)

/-- ±(a × b) + c rounded once (09 R203, R204); `pneg` negates the product. -/
def fpFma (f : Fmt) (rm : Nat) (pneg : Bool) (a b c : Fp) : FpResult :=
  let bad := (a.isZero && b.isInf) || (a.isInf && b.isZero)
  if a.isNan || b.isNan || c.isNan || bad then nanResult f (snanFlag [a, b, c] ||| (if bad then FpFlags.nv else 0))
  else
    let np := (a.neg != b.neg) != pneg
    match a, b, c with
    | .fin _ ma ea, .fin _ mb eb, .fin nc mc ec =>
      let s := exactAdd (sgn np (ma * mb)) (ea + eb) (sgn nc mc) ec
      if s.1 == 0 then (f.signed (zeroSumNeg rm np nc (ma * mb == 0 && mc == 0)) 0, 0)
      else roundInt f rm s.1 s.2
    | .fin _ _ _, .fin _ _ _, c => infResult f c.neg 0
    | _, _, .inf nc => if np == nc then infResult f np 0 else nanResult f FpFlags.nv
    | _, _, _ => infResult f np 0

/-- −1, 0 or 1 as a is below, equal to or above b; both are numbers, and −0 = +0. -/
def fpCmp (a b : Fp) : Int :=
  match a, b with
  | .inf na, .inf nb => if na == nb then 0 else if na then -1 else 1
  | .inf na, _ => if na then -1 else 1
  | _, .inf nb => if nb then 1 else -1
  | .fin na ma ea, .fin nb mb eb => (exactAdd (sgn na ma) ea (-(sgn nb mb)) eb).1.sign
  | _, _ => 0

/-- FMIN and FMAX on encodings (09 R205): −0 below +0, a number beside a NaN gives the number. -/
def fpMinMax (f : Fmt) (max : Bool) (x y : Nat) : FpResult :=
  let a := Fp.of f x
  let b := Fp.of f y
  let fl := snanFlag [a, b]
  if a.isNan && b.isNan then nanResult f fl
  else if a.isNan then (y, fl)
  else if b.isNan then (x, fl)
  else
    let c := fpCmp a b
    let aLess := c < 0 || (c == 0 && a.neg && !b.neg)
    (if aLess == max then y else x, fl)

/-- The FP compares (09 R206): 0 FTEQ, 1 FTLT, 2 FTLE, 3 FTUN. -/
def fpCompare (cond : Nat) (a b : Fp) : Bool × FpFlags :=
  let un := a.isNan || b.isNan
  if cond == 3 then (un, snanFlag [a, b])
  else if cond == 0 then (!un && fpCmp a b == 0, snanFlag [a, b])
  else (!un && (if cond == 1 then fpCmp a b < 0 else fpCmp a b ≤ 0), if un then FpFlags.nv else 0)

/-- FCLASS (09 R205). -/
def fpClass (f : Fmt) (x : Nat) : Nat :=
  match Fp.of f x with
  | .nan true => 2 ^ 8
  | .nan false => 2 ^ 9
  | .inf neg => if neg then 2 ^ 0 else 2 ^ 7
  | .fin neg m _ =>
    if m == 0 then (if neg then 2 ^ 3 else 2 ^ 4)
    else if m < 2 ^ f.fb then (if neg then 2 ^ 2 else 2 ^ 5)
    else (if neg then 2 ^ 1 else 2 ^ 6)

/-- Conversion of a value to a format (03 R60, 09 R207), with the saturating option for FP8. -/
def fpConvert (g : Fmt) (sat : Bool) (rm : Nat) (a : Fp) : FpResult :=
  let satur := sat || g.kind == .finite
  match a with
  | .nan s => (g.nanEnc, if s || g.kind == .finite then FpFlags.nv else 0)
  | .inf neg =>
    if satur then (g.signed neg g.maxEnc, FpFlags.nv)
    else if g.kind == .e4m3 then (g.nanEnc, FpFlags.nv)
    else infResult g neg 0
  | .fin neg m e =>
    let r := roundMag g rm neg m e false
    if r.tooBig && (satur || !r.toInf) then (g.signed neg g.maxEnc, r.flags)
    else if r.tooBig then (if g.kind == .e4m3 then g.nanEnc else g.signed neg g.infEnc, r.flags)
    else (g.signed neg r.enc, r.flags)

/-- An exact value rounded to an integer in a mode: the integer, and whether it is inexact. -/
def toInteger (rm : Nat) (neg : Bool) (m : Nat) (e : Int) : Int × Bool :=
  let r := cutAt rm neg m e 0 false
  (sgn neg r.1, r.2)

/-- Conversion to an integer format of `n` bits (03 R60, 09 R207): rounded, then the nearest bound; NaN gives 0. -/
def fpToInt (n : Nat) (isSigned : Bool) (rm : Nat) (a : Fp) : FpResult :=
  let lo : Int := if isSigned then -(2 ^ (n - 1)) else 0
  let hi : Int := if isSigned then 2 ^ (n - 1) - 1 else 2 ^ n - 1
  let enc (v : Int) : Nat := (v % (2 ^ n : Int)).toNat
  match a with
  | .nan _ => (0, FpFlags.nv)
  | .inf neg => (enc (if neg then lo else hi), FpFlags.nv)
  | .fin neg m e =>
    let r := toInteger rm neg m e
    if r.1 < lo then (enc lo, FpFlags.nv)
    else if hi < r.1 then (enc hi, FpFlags.nv)
    else (enc r.1, if r.2 then FpFlags.nx else 0)

/-- Conversion of an integer to a format (09 R207). -/
def fpOfInt (f : Fmt) (rm : Nat) (v : Int) : FpResult := roundInt f rm v 0

end Sys2Proof.Machine
end

