-- ==== Sys2Proof/Machine/Registers.lean ====
section
/-! DEFINITION. The management registers (23 R420, R421) and the cluster registers (23 R428) as reads return them, in the control
window and in BAR 0. -/

namespace Sys2Proof.Machine

open Sys2Proof

/-- M_STATUS (23 R421). -/
def Mgmt.status (m : Mgmt) : Nat := m.hwfail.toNat * 2 ^ 8 + m.stage % 16 * 2 ^ 4 + m.fail % 16

/-- M_RESP (23 R421). -/
def Mgmt.resp (m : Mgmt) : Nat :=
  (if m.busy then 2 ^ 63 else 0) + (if m.err then 2 ^ 62 else 0) + m.cause % 256 * 2 ^ 48 + m.detail % 2 ^ 48

/-- The management register at an offset; M_CMD is write-only, and an offset with no register reads 0 (23 R417, R419). -/
def Mgmt.read (m : Mgmt) (o : Nat) : Nat :=
  if o == 0x00 then m.status
  else if o == 0x10 then m.arg.toNat
  else if o == 0x18 then m.resp
  else if o == 0x20 then m.pwin.toNat
  else 0

/-- The value of a bit at a place. -/
def flagBit (b : Bool) (n : Nat) : Nat := if b then 2 ^ n else 0

/-- Cluster register `i` (23 R428): GO bits are write-only. -/
def Cluster.read (c : Cluster) (i : Nat) : Nat :=
  match i with
  | 0 => flagBit c.req 0
  | 1 => flagBit c.seqerr 2 + flagBit c.busy 1 + flagBit c.ack 0
  | 2 => c.addr % 2 ^ 36 * 2 ^ 16
  | 3 => flagBit c.err 1 + flagBit c.done 0
  | 4 => flagBit c.gated 1 + flagBit c.gate 0
  | 5 => c.on % 4
  | 6 => c.good % 4
  | _ => flagBit c.wakeErr 2 + flagBit c.wakeDone 1

/-- The cluster, die × 5 + row, and the register that an offset of the control window names (23 R428). -/
def clusterReg (o : Nat) : Option (Nat × Nat) :=
  let p := o - 0x10000
  if 0x10000 ≤ o && o < 0x11000 && p % 0x400 / 0x40 < 5 then some (p / 0x400 * 5 + p % 0x400 / 0x40, p % 0x40 / 8) else none

/-- The offset of register `i` of a cluster. -/
def clusterOffset (c i : Nat) : Nat := 0x10000 + c / 5 * 0x400 + c % 5 * 0x40 + 8 * i

namespace Work

/-- The register at offset `o` of the control window; an offset with no register reads 0 (23 R417). -/
def ctlRead (w : Work) (o : Nat) : Nat :=
  match clusterReg o with
  | some (c, i) => (mapGet ({} : Cluster) c w.clusters).read i
  | none => w.core.mgmt.read o

/-- A load of M_STATUS clears HWFAIL (23 R421; 00 R12). -/
def ctlClear (w : Work) (pa : Nat) : Work :=
  if pa == 0x7FF0000000000 then { w with core := { w.core with mgmt := { w.core.mgmt with hwfail := 0 } } } else w

end Work

end Sys2Proof.Machine
end

