-- ==== Sys2Proof/Machine/Release.lean ====
section
/-! DEFINITION. What the end of a block releases (11 R213, R215, R228, R232, R240), parking (05 R103, R104), and waiting
accesses (05 R101). -/

namespace Sys2Proof.Machine

open Sys2Proof

namespace Work

/-- Every hardware queue with the claims and pending pushes of context `p` taken off (11 R228): a released record keeps its
sequence number and its place. -/
def releaseQueues (w : Work) (p : Nat) : Work :=
  { w with core := { w.core with hwq := w.core.hwq.map (fun q => (q.1, { q.2 with
      entries := q.2.entries.map (fun r => if r.claim == some p then { r with claim := none } else r),
      pending := q.2.pending.filter (· != p) })) } }

/-- Every combining-queue record claimed by context `p` is unclaimed again, at its place and with its number (11 R232). -/
def releaseCombining (w : Work) (p : Nat) : Work :=
  { w with core := { w.core with cq := w.core.cq.map (fun q => (q.1, { q.2 with
      records := q.2.records.map (fun r => if r.claim == some p then { r with claim := none } else r),
      pending := q.2.pending.filter (· != p) })) } }

/-- Contexts that SPAWNC of context `p` had claimed are unclaimed (11 R240). -/
def releaseSpawns (w : Work) (p : Nat) : Work :=
  { w with core := { w.core with tiles := w.core.tiles.map (fun t => (t.1, { t.2 with
      ctxs := t.2.ctxs.map (fun c => (c.1, if c.2.spawnedBy == some p then { c.2 with spawnedBy := none } else c.2)) })) } }

/-- A staging claim of context `p` ends (15 R311). -/
def releaseStaging (w : Work) (p : Nat) : Work :=
  { w with core := { w.core with regions := w.core.regions.map (fun r =>
      (r.1, if r.2.staging.any (fun s => s.party == p) then { r.2 with staging := none } else r.2)) } }

/-- Slots of CTL inputs that INJECTs of context `p` had reserved are free again (15 R318). -/
def releaseInjects (w : Work) (p : Nat) : Work :=
  { w with core := { w.core with elems := w.core.elems.map (fun e =>
      (e.1, { e.2 with ctlHeld := e.2.ctlHeld.filter (· != p) })) } }

/-- Everything that the block of context `p` holds is released (11 R215, R228, R232, R240; 15 R311, R318). -/
def release (w : Work) (p : Nat) : Work :=
  (((((w.releaseClaims p).releaseQueues p).releaseCombining p).releaseSpawns p).releaseStaging p).releaseInjects p

/-- Blocks that ALLOC took for a block that does not commit go back to the heads of their lists, the last taken first
(17 R353). -/
def undoAllocs (w : Work) (b : Block) : Work :=
  b.allocs.reverse.foldl (fun w a =>
    let head := a.1 + 64 + 8 * a.2.1
    (w.putWord a.2.2.2 (w.word head)).putWord head (BitVec.ofNat 64 a.2.2.1)) w

/-- Abandon the block of the context in focus (11 R215): its claims end and it has no effect. The context is left with no
block, ready to run the same block again from its start. -/
def abandonBlock (w : Work) : Work :=
  let w := match w.block with
    | none => w
    | some b => w.undoAllocs b
  let w := w.release w.party
  w.setCtx w.focus.tile w.focus.ctx { w.me with block := none, status := .ready }

/-- Append the record of the context in focus to its bucket's list and park it on word `k` (05 R103, R104). -/
def park (w : Work) (k kind : Nat) (a : VAddr) : Work :=
  let c := w.me
  let rec_ := w.recordAddr w.party
  let asid := c.asid.toNat
  let entry := w.ribbonEntry asid (k * 8)
  let w := w.store rec_ 8 (kind * 2 ^ 52 + k * 8)
  let w := w.store (rec_ + 8) 8 (a.toNat / 2 ^ 64 * 2 ^ 20 + asid * 2 ^ 10 + w.focus.ctx * 2 ^ 8 + w.focus.tile)
  let w := w.store (rec_ + 16) 8 (low a.toNat 64)
  let w := w.store (rec_ + 24) 8 0
  let tail := w.load (entry + 8) 8
  let w := if tail == 0 then w.store entry 8 rec_ else w.store (tail + 24) 8 rec_
  let w := w.store (entry + 8) 8 rec_
  let w := if w.core.watched.contains (k / 8) then w
    else { w with core := { w.core with watched := (k / 8) :: w.core.watched } }
  w.setCtx w.focus.tile w.focus.ctx { w.me with status := .parked, park := some ⟨k, kind, rec_⟩ }

/-- The instruction in focus waits, holding a record, and tries again at clk `due`; it has tried `tries` times already. -/
def waitHolding (w : Work) (tries due : Nat) (word : Option Nat) (data : List Word) : Work :=
  w.onBlock (fun b =>
    let since := match b.waits.find? (fun x => x.idx == w.focus.idx) with
      | some x => x.since
      | none => w.now
    { b.setPhase w.focus.idx .waiting with
      waits := (b.waits.filter (fun x => x.idx != w.focus.idx)) ++ [⟨w.focus.idx, since, tries, due, word, data⟩] })

/-- The instruction in focus waits and tries again at clk `due`; it has tried `tries` times already. -/
def waitUntil (w : Work) (tries due : Nat) (word : Option Nat) : Work := w.waitHolding tries due word []

/-- The wait of the instruction in focus is over. -/
def stopWaiting (w : Work) : Work :=
  w.onBlock (fun b => { b with waits := b.waits.filter (fun x => x.idx != w.focus.idx) })

/-- How often the instruction in focus has tried, and since when it waits. -/
def waitOf (w : Work) : Option Waiting :=
  match w.block with
  | none => none
  | some b => b.waits.find? (fun x => x.idx == w.focus.idx)

end Work

end Sys2Proof.Machine
end

