-- ==== Sys2Proof/Machine/MemOps.lean ====
section
/-! DEFINITION. Loads, stores, atomics and reductions (11 R209 to R221): what each learns when it fires, against the block's own
view of memory, and the effect it leaves for commit; and the retry of a waiting access (05 R101). -/

namespace Sys2Proof.Machine

open Sys2Proof

/-- The latency of a memory access, which the manual does not give; it changes no result (09 R179; DESIGN CHOICE, log 12). -/
def memLat : Nat := 1

/-- Sign-extend the low `8 × size` bits. -/
def sextSize (size v : Nat) : Word := BitVec.ofInt 64 (BitVec.ofNat (8 * size) v).toInt

/-- The access size that W selects (07 R149): 4 bytes for W = 1, 8 for W = 0. -/
def accSize (wid : BitVec 1) : Nat := if wid == 1 then 4 else 8

/-- ea of a load (11 R216). -/
def loadEa (a : Word) (imm : BitVec 9) (size : Nat) : Nat := (a + imm.signExtend 64 * BitVec.ofNat 64 size).toNat

/-- ea of a store (11 R217). -/
def storeEa (a : Word) (imm : BitVec 18) (size : Nat) : Nat := (a + imm.signExtend 64 * BitVec.ofNat 64 size).toNat

/-- The word that AMO and RED write (11 R218): `old` and `v` are `size`-byte values. -/
def aopNew (aop size old v : Nat) : Nat :=
  let n := 8 * size
  let v := low v n
  let s (x : Nat) : Int := (BitVec.ofNat n x).toInt
  let f := if size == 4 then fp32 else fp64
  match aop with
  | 0 => low (old + v) n
  | 1 => Nat.land old v
  | 2 => Nat.lor old v
  | 3 => Nat.xor old v
  | 4 => if s v < s old then v else old
  | 5 => if s old < s v then v else old
  | 6 => Nat.min old v
  | 7 => Nat.max old v
  | 8 => v
  | 9 => (fpAdd f 0 (Fp.of f old) (Fp.of f v)).1
  | 10 => (fpMinMax f false old v).1
  | _ => (fpMinMax f true old v).1

/-- Order of the accesses of a block (11 R211): by lsid, then by index. -/
def MemEff.before (e : MemEff) (l i : Nat) : Bool := e.lsid < l || (e.lsid == l && e.idx < i)

/-- Insert an effect in the order of R211. -/
def insertEff (e : MemEff) : List MemEff → List MemEff
  | [] => [e]
  | f :: fs => if e.before f.lsid f.idx then e :: f :: fs else f :: insertEff e fs

/-- The data that an effect writes, on memory as the effects before it leave it (11 R212, R214, R220). -/
def MemEff.writeData (w : Work) (e : MemEff) : Work :=
  match e.kind with
  | .plain | .fill | .clear | .amo => w.store e.pa e.size e.data.toNat
  | .consume => w
  | .cas hit => if hit then w.store e.pa e.size e.data.toNat else w
  | .red aop => w.store e.pa e.size (aopNew aop e.size (w.load e.pa e.size) e.data.toNat)

/-- The presence bit that an effect leaves, if it sets it (11 R212). -/
def MemEff.newBit (e : MemEff) : Option Bool :=
  match e.kind with
  | .fill => some true
  | .clear | .consume => some false
  | .plain | .amo | .cas _ | .red _ => none

/-- The bit that the last of some effects on word `k` sets, if one sets it. -/
def lastBit (k : Nat) (es : List MemEff) : Option Bool :=
  es.foldl (fun r e => if e.pa / 8 == k then (match e.newBit with | none => r | some b => some b) else r) none

namespace Work

/-- The virtual address of ea in the context in focus (11 R209). -/
def va (w : Work) (ea : Nat) : Nat := 2 ^ 64 * w.me.dseg.toNat + low ea 64

/-- Check and translate an access of the instruction in focus (11 R209, R210; 05 R121), which traps when that fails. -/
def access (w : Work) (form : AccForm) (size ea : Nat) (k : Work → Nat → Option Bool → Work) : Work :=
  if ea % size != 0 then w.trap Cause.align (einfoAlign ea w.focus.idx)
  else
    match w.translate w.who form size (w.va ea) with
    | (w, .fault c s) => w.trap c (einfoMem (w.va ea) s form.acc 0 w.focus.idx)
    | (w, .ok pa u) =>
      match w.poisonOf pa with
      | some src => w.trap Cause.uncorrectable (einfoUncorr src (pa / 64) w.focus.idx)
      | none => k w pa u

/-- The effects of the block in focus that stand before lsid `l` at its own index (11 R212). -/
def earlier (w : Work) (l : Nat) : List MemEff :=
  match w.block with
  | none => []
  | some b => b.mems.filter (fun e => e.before l w.focus.idx)

/-- The `size` bytes at `pa` in the block's view (11 R212); a control-window word is what the block has stored there, else its register
(23 R417). -/
def viewData (w : Work) (l pa size : Nat) (u : Option Bool) : Nat :=
  if classify pa == .control then
    (match (w.earlier l).reverse.find? (fun e => e.pa == pa) with
     | some e => e.data.toNat
     | none => w.ctlRead (pa - 0x7FF0000000000))
  else ((w.earlier l).foldl MemEff.writeData w).dataAt pa size u

/-- The bit of a word in the block's view, and whether the block itself set it last (11 R212). -/
def viewBit (w : Work) (l pa : Nat) (u : Option Bool) : Bool × Bool :=
  match lastBit (pa / 8) (w.earlier l) with
  | some b => (b, true)
  | none => (w.bitAt pa u, false)

/-- Add a memory effect of the instruction in focus. -/
def addEff (w : Work) (l : Nat) (kind : MemKind) (pa size : Nat) (data : Word) : Work :=
  w.onBlock (fun b => { b with mems := insertEff ⟨l, w.focus.idx, kind, pa, size, data⟩ b.mems })

/-- The store-class instruction in focus has performed (09 R180, R182). -/
def served (w : Work) : Work := w.onBlock (fun b => b.serve w.focus.idx .performed)

/-- Send the value of the instruction in focus to its targets. -/
def sendValue (w : Work) (sh : Shape) (v : Word) : Work :=
  w.onBlock (fun b => b.sendBoth w.focus.idx sh.t0 sh.t1 (.val v) (w.now + memLat))

/-- A waiting access finds its word not ready (05 R101): it tries again after BACKOFF, or its budget is spent and it parks or
traps FE_BUDGET. Firmware never parks, nor a block that already holds a trap. -/
def notReady (w : Work) (form : AccForm) (pa tries : Nat) : Work :=
  let budget := w.me.budget.toNat
  if tries < bits budget 0 8 then w.waitUntil tries (w.now + bits budget 8 8 * 16) (some (pa / 8))
  else if bit budget 16 && !w.me.fw then
    match w.block with
    | none => w
    | some b =>
      if !b.broken then (w.abandonBlock).park (pa / 8) (form.form + 1) b.addr
      else w.stopWaiting.onBlock (fun b => b.setPhase w.focus.idx .trapped)
  else w.stopWaiting.trap Cause.feBudget (einfoWait pa false form.form w.focus.idx)

/-- A presence-form access attempts its word (05 R95, R101, R106; 11 R212, R213): `act` performs it. -/
def attempt (w : Work) (form : AccForm) (l size ea tries : Nat) (act : Work → Nat → Option Bool → Work) : Work :=
  w.access form size ea (fun w pa u =>
    let k := pa / 8
    let r := w.viewBit l pa u
    let want := form != .fill
    if r.1 != want then
      (if r.2 then w.stopWaiting.trap Cause.feBudget (einfoWait pa true form.form w.focus.idx) else w.notReady form pa tries)
    else if form != .waitLoad && (w.claimedOther k w.party || w.reservedOther k w.party) then w.notReady form pa tries
    else act w.stopWaiting pa u)

/-- A waiting or consuming load (11 R216). -/
def attemptLoad (w : Work) (form : AccForm) (sh : Shape) (size l : Nat) (imm : BitVec 9) (a : Word) (tries : Nat) : Work :=
  w.attempt form l size (loadEa a imm size) tries (fun w pa u =>
    let v : Word := BitVec.ofNat 64 (w.viewData l pa size u)
    let w := if form == .consume then
        ((w.claim (pa / 8) w.party w.focus.idx).addEff l .consume pa size 0) else w
    (w.sendValue sh v).perform)

/-- A filling store (11 R217). -/
def attemptFill (w : Work) (size l : Nat) (imm : BitVec 18) (a v : Word) (tries : Nat) : Work :=
  w.attempt .fill l size (storeEa a imm size) tries (fun w pa _ =>
    ((w.claim (pa / 8) w.party w.focus.idx).addEff l .fill pa size v).served)

/-- A plain or clearing store (11 R217): translated and checked at fire, written at commit. -/
def plainStore (w : Work) (form : AccForm) (kind : MemKind) (size l : Nat) (imm : BitVec 18) (a v : Word) : Work :=
  w.access form size (storeEa a imm size) (fun w pa _ => (w.addEff l kind pa size v).served)

/-- AMO (11 R218): it claims its word without regard to the bit, and waits while another party holds a claim on it. -/
def attemptAmo (w : Work) (sh : Shape) (l aop size : Nat) (a v : Word) : Work :=
  if w.det then w.trap (if 9 ≤ aop then Cause.detFpred else Cause.detAtomic) (BitVec.ofNat 64 w.focus.idx)
  else w.access .atomic size a.toNat (fun w pa u =>
    if w.claimedOther (pa / 8) w.party then w.waitUntil 0 w.now none
    else
      let old := w.viewData l pa size u
      let new : Word := BitVec.ofNat 64 (aopNew aop size old v.toNat)
      (((w.stopWaiting.claim (pa / 8) w.party w.focus.idx).addEff l .amo pa size new).sendValue sh (BitVec.ofNat 64 old)).served)

/-- CAS (11 R219). -/
def attemptCas (w : Work) (sh : Shape) (l size : Nat) (a v x : Word) : Work :=
  if w.det then w.trap Cause.detAtomic (BitVec.ofNat 64 w.focus.idx)
  else w.access .atomic size a.toNat (fun w pa u =>
    if w.claimedOther (pa / 8) w.party then w.waitUntil 0 w.now none
    else
      let old := w.viewData l pa size u
      let hit := old == low x.toNat (8 * size)
      (((w.stopWaiting.claim (pa / 8) w.party w.focus.idx).addEff l (.cas hit) pa size v).sendValue sh (BitVec.ofNat 64 old)).served)

/-- RED (11 R220, R221): neither claims nor delivers; its update is made at commit. -/
def reduce (w : Work) (l aop size : Nat) (a v : Word) : Work :=
  if w.det && 9 ≤ aop then w.trap Cause.detFpred (BitVec.ofNat 64 w.focus.idx)
  else w.access .red size a.toNat (fun w pa _ => (w.addEff l (.red aop) pa size v).served)

end Work

/-- A plain load (11 R216). -/
def plainLoad (sh : Shape) (size : Nat) (sx : Bool) (l : Nat) (imm : BitVec 9) (a _b _c : Word) (w : Work) : Work :=
  w.access .plainLoad size (loadEa a imm size) (fun w pa u =>
    let v := w.viewData l pa size u
    ((if (w.earlier l).any (fun e => e.pa == pa) then w else w.ctlClear pa).sendValue sh (if sx then sextSize size v else BitVec.ofNat 64 v)).perform)

/-- TSTFE (11 R216): 1 if the word is FULL in the view, 0 if EMPTY. -/
def testLoad (sh : Shape) (l : Nat) (imm : BitVec 9) (a _b _c : Word) (w : Work) : Work :=
  w.access .test 8 (loadEa a imm 8) (fun w pa u => (w.sendValue sh (boolWord (w.viewBit l pa u).1)).perform)

/-! ### Meanings -/

/-- LD1 (11 R216). -/
def execLd1 (pr : BitVec 2) (lsid : BitVec 5) (imm : BitVec 9) (t0 : BitVec 9) (s : State) : Host.Outcome State Fault Refusal :=
  fireMem lsid.toNat false (shape (.ld1 pr lsid imm t0)) (plainLoad (shape (.ld1 pr lsid imm t0)) 1 false lsid.toNat imm) s

/-- LD1S (11 R216). -/
def execLd1s (pr : BitVec 2) (lsid : BitVec 5) (imm : BitVec 9) (t0 : BitVec 9) (s : State) : Host.Outcome State Fault Refusal :=
  fireMem lsid.toNat false (shape (.ld1s pr lsid imm t0)) (plainLoad (shape (.ld1s pr lsid imm t0)) 1 true lsid.toNat imm) s

/-- LD2 (11 R216). -/
def execLd2 (pr : BitVec 2) (lsid : BitVec 5) (imm : BitVec 9) (t0 : BitVec 9) (s : State) : Host.Outcome State Fault Refusal :=
  fireMem lsid.toNat false (shape (.ld2 pr lsid imm t0)) (plainLoad (shape (.ld2 pr lsid imm t0)) 2 false lsid.toNat imm) s

/-- LD2S (11 R216). -/
def execLd2s (pr : BitVec 2) (lsid : BitVec 5) (imm : BitVec 9) (t0 : BitVec 9) (s : State) : Host.Outcome State Fault Refusal :=
  fireMem lsid.toNat false (shape (.ld2s pr lsid imm t0)) (plainLoad (shape (.ld2s pr lsid imm t0)) 2 true lsid.toNat imm) s

/-- LD4 (11 R216). -/
def execLd4 (pr : BitVec 2) (lsid : BitVec 5) (imm : BitVec 9) (t0 : BitVec 9) (s : State) : Host.Outcome State Fault Refusal :=
  fireMem lsid.toNat false (shape (.ld4 pr lsid imm t0)) (plainLoad (shape (.ld4 pr lsid imm t0)) 4 false lsid.toNat imm) s

/-- LD4S (11 R216). -/
def execLd4s (pr : BitVec 2) (lsid : BitVec 5) (imm : BitVec 9) (t0 : BitVec 9) (s : State) : Host.Outcome State Fault Refusal :=
  fireMem lsid.toNat false (shape (.ld4s pr lsid imm t0)) (plainLoad (shape (.ld4s pr lsid imm t0)) 4 true lsid.toNat imm) s

/-- LD8 (11 R216). -/
def execLd8 (pr : BitVec 2) (lsid : BitVec 5) (imm : BitVec 9) (t0 : BitVec 9) (s : State) : Host.Outcome State Fault Refusal :=
  fireMem lsid.toNat false (shape (.ld8 pr lsid imm t0)) (plainLoad (shape (.ld8 pr lsid imm t0)) 8 false lsid.toNat imm) s

/-- TSTFE (11 R216). -/
def execTstfe (pr : BitVec 2) (lsid : BitVec 5) (imm : BitVec 9) (t0 : BitVec 9) (s : State) : Host.Outcome State Fault Refusal :=
  fireMem lsid.toNat false (shape (.tstfe pr lsid imm t0)) (testLoad (shape (.tstfe pr lsid imm t0)) lsid.toNat imm) s

/-- LDW1 (11 R216). -/
def execLdw1 (pr : BitVec 2) (lsid : BitVec 5) (imm : BitVec 9) (t0 : BitVec 9) (s : State) : Host.Outcome State Fault Refusal :=
  fireMem lsid.toNat false (shape (.ldw1 pr lsid imm t0)) (fun a _ _ w => w.attemptLoad .waitLoad (shape (.ldw1 pr lsid imm t0)) 1 lsid.toNat imm a 0) s

/-- LDW2 (11 R216). -/
def execLdw2 (pr : BitVec 2) (lsid : BitVec 5) (imm : BitVec 9) (t0 : BitVec 9) (s : State) : Host.Outcome State Fault Refusal :=
  fireMem lsid.toNat false (shape (.ldw2 pr lsid imm t0)) (fun a _ _ w => w.attemptLoad .waitLoad (shape (.ldw2 pr lsid imm t0)) 2 lsid.toNat imm a 0) s

/-- LDW4 (11 R216). -/
def execLdw4 (pr : BitVec 2) (lsid : BitVec 5) (imm : BitVec 9) (t0 : BitVec 9) (s : State) : Host.Outcome State Fault Refusal :=
  fireMem lsid.toNat false (shape (.ldw4 pr lsid imm t0)) (fun a _ _ w => w.attemptLoad .waitLoad (shape (.ldw4 pr lsid imm t0)) 4 lsid.toNat imm a 0) s

/-- LDW8 (11 R216). -/
def execLdw8 (pr : BitVec 2) (lsid : BitVec 5) (imm : BitVec 9) (t0 : BitVec 9) (s : State) : Host.Outcome State Fault Refusal :=
  fireMem lsid.toNat false (shape (.ldw8 pr lsid imm t0)) (fun a _ _ w => w.attemptLoad .waitLoad (shape (.ldw8 pr lsid imm t0)) 8 lsid.toNat imm a 0) s

/-- LDC1 (11 R216). -/
def execLdc1 (pr : BitVec 2) (lsid : BitVec 5) (imm : BitVec 9) (t0 : BitVec 9) (s : State) : Host.Outcome State Fault Refusal :=
  fireMem lsid.toNat false (shape (.ldc1 pr lsid imm t0)) (fun a _ _ w => w.attemptLoad .consume (shape (.ldc1 pr lsid imm t0)) 1 lsid.toNat imm a 0) s

/-- LDC2 (11 R216). -/
def execLdc2 (pr : BitVec 2) (lsid : BitVec 5) (imm : BitVec 9) (t0 : BitVec 9) (s : State) : Host.Outcome State Fault Refusal :=
  fireMem lsid.toNat false (shape (.ldc2 pr lsid imm t0)) (fun a _ _ w => w.attemptLoad .consume (shape (.ldc2 pr lsid imm t0)) 2 lsid.toNat imm a 0) s

/-- LDC4 (11 R216). -/
def execLdc4 (pr : BitVec 2) (lsid : BitVec 5) (imm : BitVec 9) (t0 : BitVec 9) (s : State) : Host.Outcome State Fault Refusal :=
  fireMem lsid.toNat false (shape (.ldc4 pr lsid imm t0)) (fun a _ _ w => w.attemptLoad .consume (shape (.ldc4 pr lsid imm t0)) 4 lsid.toNat imm a 0) s

/-- LDC8 (11 R216). -/
def execLdc8 (pr : BitVec 2) (lsid : BitVec 5) (imm : BitVec 9) (t0 : BitVec 9) (s : State) : Host.Outcome State Fault Refusal :=
  fireMem lsid.toNat false (shape (.ldc8 pr lsid imm t0)) (fun a _ _ w => w.attemptLoad .consume (shape (.ldc8 pr lsid imm t0)) 8 lsid.toNat imm a 0) s

/-- ST1 (11 R217). -/
def execSt1 (pr : BitVec 2) (lsid : BitVec 5) (imm : BitVec 18) (s : State) : Host.Outcome State Fault Refusal :=
  fireMem lsid.toNat true (shape (.st1 pr lsid imm)) (fun a v _ w => w.plainStore .plainStore .plain 1 lsid.toNat imm a v) s

/-- ST2 (11 R217). -/
def execSt2 (pr : BitVec 2) (lsid : BitVec 5) (imm : BitVec 18) (s : State) : Host.Outcome State Fault Refusal :=
  fireMem lsid.toNat true (shape (.st2 pr lsid imm)) (fun a v _ w => w.plainStore .plainStore .plain 2 lsid.toNat imm a v) s

/-- ST4 (11 R217). -/
def execSt4 (pr : BitVec 2) (lsid : BitVec 5) (imm : BitVec 18) (s : State) : Host.Outcome State Fault Refusal :=
  fireMem lsid.toNat true (shape (.st4 pr lsid imm)) (fun a v _ w => w.plainStore .plainStore .plain 4 lsid.toNat imm a v) s

/-- ST8 (11 R217). -/
def execSt8 (pr : BitVec 2) (lsid : BitVec 5) (imm : BitVec 18) (s : State) : Host.Outcome State Fault Refusal :=
  fireMem lsid.toNat true (shape (.st8 pr lsid imm)) (fun a v _ w => w.plainStore .plainStore .plain 8 lsid.toNat imm a v) s

/-- STE1 (11 R217). -/
def execSte1 (pr : BitVec 2) (lsid : BitVec 5) (imm : BitVec 18) (s : State) : Host.Outcome State Fault Refusal :=
  fireMem lsid.toNat true (shape (.ste1 pr lsid imm)) (fun a v _ w => w.plainStore .clear .clear 1 lsid.toNat imm a v) s

/-- STE2 (11 R217). -/
def execSte2 (pr : BitVec 2) (lsid : BitVec 5) (imm : BitVec 18) (s : State) : Host.Outcome State Fault Refusal :=
  fireMem lsid.toNat true (shape (.ste2 pr lsid imm)) (fun a v _ w => w.plainStore .clear .clear 2 lsid.toNat imm a v) s

/-- STE4 (11 R217). -/
def execSte4 (pr : BitVec 2) (lsid : BitVec 5) (imm : BitVec 18) (s : State) : Host.Outcome State Fault Refusal :=
  fireMem lsid.toNat true (shape (.ste4 pr lsid imm)) (fun a v _ w => w.plainStore .clear .clear 4 lsid.toNat imm a v) s

/-- STE8 (11 R217). -/
def execSte8 (pr : BitVec 2) (lsid : BitVec 5) (imm : BitVec 18) (s : State) : Host.Outcome State Fault Refusal :=
  fireMem lsid.toNat true (shape (.ste8 pr lsid imm)) (fun a v _ w => w.plainStore .clear .clear 8 lsid.toNat imm a v) s

/-- STF1 (11 R217). -/
def execStf1 (pr : BitVec 2) (lsid : BitVec 5) (imm : BitVec 18) (s : State) : Host.Outcome State Fault Refusal :=
  fireMem lsid.toNat true (shape (.stf1 pr lsid imm)) (fun a v _ w => w.attemptFill 1 lsid.toNat imm a v 0) s

/-- STF2 (11 R217). -/
def execStf2 (pr : BitVec 2) (lsid : BitVec 5) (imm : BitVec 18) (s : State) : Host.Outcome State Fault Refusal :=
  fireMem lsid.toNat true (shape (.stf2 pr lsid imm)) (fun a v _ w => w.attemptFill 2 lsid.toNat imm a v 0) s

/-- STF4 (11 R217). -/
def execStf4 (pr : BitVec 2) (lsid : BitVec 5) (imm : BitVec 18) (s : State) : Host.Outcome State Fault Refusal :=
  fireMem lsid.toNat true (shape (.stf4 pr lsid imm)) (fun a v _ w => w.attemptFill 4 lsid.toNat imm a v 0) s

/-- STF8 (11 R217). -/
def execStf8 (pr : BitVec 2) (lsid : BitVec 5) (imm : BitVec 18) (s : State) : Host.Outcome State Fault Refusal :=
  fireMem lsid.toNat true (shape (.stf8 pr lsid imm)) (fun a v _ w => w.attemptFill 8 lsid.toNat imm a v 0) s

/-- AMO (11 R218). -/
def execAmo (pr : BitVec 2) (lsid : BitVec 5) (aop : BitVec 5) (wid : BitVec 1) (t0 : BitVec 9) (s : State) : Host.Outcome State Fault Refusal :=
  fireMem lsid.toNat true (shape (.amo pr lsid aop wid t0)) (fun a v _ w => w.attemptAmo (shape (.amo pr lsid aop wid t0)) lsid.toNat aop.toNat (accSize wid) a v) s

/-- CAS (11 R219). -/
def execCas (lsid : BitVec 5) (wid : BitVec 1) (t0 : BitVec 9) (s : State) : Host.Outcome State Fault Refusal :=
  fireMem lsid.toNat true (shape (.cas lsid wid t0)) (fun a v x w => w.attemptCas (shape (.cas lsid wid t0)) lsid.toNat (accSize wid) a v x) s

/-- RED (11 R220). -/
def execRed (pr : BitVec 2) (lsid : BitVec 5) (aop : BitVec 5) (wid : BitVec 1) (s : State) : Host.Outcome State Fault Refusal :=
  fireMem lsid.toNat true (shape (.red pr lsid aop wid)) (fun a v _ w => w.reduce lsid.toNat aop.toNat (accSize wid) a v) s

/-! ### Retries (05 R101; 11 R213) -/

/-- Another attempt of a waiting access: the instruction in focus with its operands, after `tries` retries. -/
def retryAccess (i : Instr) (a v x : Word) (tries : Nat) (w : Work) : Option Work :=
  match i with
  | .ldw1 _ lsid imm _ => some (w.attemptLoad .waitLoad (shape i) 1 lsid.toNat imm a tries)
  | .ldw2 _ lsid imm _ => some (w.attemptLoad .waitLoad (shape i) 2 lsid.toNat imm a tries)
  | .ldw4 _ lsid imm _ => some (w.attemptLoad .waitLoad (shape i) 4 lsid.toNat imm a tries)
  | .ldw8 _ lsid imm _ => some (w.attemptLoad .waitLoad (shape i) 8 lsid.toNat imm a tries)
  | .ldc1 _ lsid imm _ => some (w.attemptLoad .consume (shape i) 1 lsid.toNat imm a tries)
  | .ldc2 _ lsid imm _ => some (w.attemptLoad .consume (shape i) 2 lsid.toNat imm a tries)
  | .ldc4 _ lsid imm _ => some (w.attemptLoad .consume (shape i) 4 lsid.toNat imm a tries)
  | .ldc8 _ lsid imm _ => some (w.attemptLoad .consume (shape i) 8 lsid.toNat imm a tries)
  | .stf1 _ lsid imm => some (w.attemptFill 1 lsid.toNat imm a v tries)
  | .stf2 _ lsid imm => some (w.attemptFill 2 lsid.toNat imm a v tries)
  | .stf4 _ lsid imm => some (w.attemptFill 4 lsid.toNat imm a v tries)
  | .stf8 _ lsid imm => some (w.attemptFill 8 lsid.toNat imm a v tries)
  | .amo _ lsid aop wid _ => some (w.attemptAmo (shape i) lsid.toNat aop.toNat (accSize wid) a v)
  | .cas lsid wid _ => some (w.attemptCas (shape i) lsid.toNat (accSize wid) a v x)
  | _ => none

end Sys2Proof.Machine
end

