-- ==== Sys2Proof/Machine/Queues.lean ====
section
/-! DEFINITION. Hardware queues and the combining queue of a die (11 R223 to R232; 19 R384, R385): what each instruction learns
when it fires, its waits, and the queue effects of a commit. -/

namespace Sys2Proof.Machine

open Sys2Proof

namespace HQueue

/-- Records in hardware entries (11 R224). -/
def hcnt (q : HQueue) : Nat := (q.hin - q.hout).toNat

/-- Records in the ring (11 R224). -/
def rcnt (q : HQueue) : Nat := (q.rin - q.rout).toNat

/-- The queue holds no room for another push (11 R228). -/
def noRoom (q : HQueue) : Bool := q.hd + q.rs ≤ q.hcnt + q.rcnt + q.pending.length

/-- The unclaimed hardware record with the lowest sequence number (11 R228): the entries stand oldest first. -/
def nextRecord (q : HQueue) : Option QRecord := q.entries.find? (fun r => r.claim.isNone)

/-- The queue with the record of number `seq` claimed by context `p`. -/
def claimRecord (q : HQueue) (seq p : Nat) : HQueue :=
  { q with entries := q.entries.map (fun r => if r.seq == seq then { r with claim := some p } else r) }

/-- QSTAT (11 R230). -/
def stat (q : HQueue) : Word :=
  if !q.enabled then 0
  else BitVec.ofNat 64 (2 ^ 63 + q.rcnt * 2 ^ 19 + q.hcnt * 2 ^ 13 + q.hd * 2 ^ 7 + (q.rw - 1) * 2 ^ 4)

/-- The physical address of word 0 of ring slot `n` (11 R224). -/
def slotAddr (q : HQueue) (n : Nat) : Nat :=
  let o := q.rbase + n * 64
  listGet 0 (o / 0x10000) q.ring + o % 0x10000

end HQueue

/-- S_EINFO of QTIMEOUT for a hardware queue (21 R397). -/
def einfoQueue (handle : Nat) (q : HQueue) : Word :=
  BitVec.ofNat 64 (handle % 256 * 2 ^ 56 + q.hout.toNat % 64 * 2 ^ 49 + q.hin.toNat % 64 * 2 ^ 43
    + q.rout.toNat % 2 ^ 21 * 2 ^ 22 + q.rin.toNat % 2 ^ 21 * 2)

/-- S_EINFO of QTIMEOUT for the combining queue of a die (21 R397). -/
def einfoCombining (die : Nat) : Word := BitVec.ofNat 64 (die * 2 ^ 62 + 2 ^ 55)

/-- The clk that a LIM field gives (07 R150). -/
def limClk (lim : Nat) : Nat := 16 * 2 ^ lim

namespace Work

/-- Hardware queue `q` (die × 64 + number). -/
def hq (w : Work) (q : Nat) : HQueue := mapGet {} q w.core.hwq

/-- Replace hardware queue `q`. -/
def setHq (w : Work) (q : Nat) (x : HQueue) : Work := { w with core := { w.core with hwq := mapSet q x w.core.hwq } }

/-- The instruction in focus traps PROTECTION for an operand or descriptor field (21 R397, ACC 4). -/
def protect (w : Work) (sub wordNo : Nat) : Work :=
  w.trap Cause.protection (einfoMem 0 sub 4 wordNo w.focus.idx)

/-- Check a queue handle and the queue's owner (11 R223). -/
def withQueue (w : Work) (h : Word) (k : Work → Nat → HQueue → Work) : Work :=
  if h.toNat / 256 != 0 then w.protect 3 0
  else
    let q := w.hq h.toNat
    if !q.enabled || q.owner != w.me.asid.toNat then w.protect 4 0 else k w h.toNat q

/-- Read `n` words at ea for the instruction in focus (ACC 4), which traps when that fails: `al` is the alignment. -/
def withWords (w : Work) (al n ea : Nat) (k : Work → List Word → Work) : Work :=
  if ea % al != 0 then w.trap Cause.align (einfoAlign ea w.focus.idx)
  else
    match w.readWords w.who n (w.va ea) with
    | (w, .error e) => w.trap e.1 (einfoAccess e 4 w.focus.idx)
    | (w, .ok ws) => k w ws

/-- The physical addresses of `n` words at ea that the instruction in focus will write. -/
def withPlace (w : Work) (al n ea : Nat) (k : Work → List Nat → Work) : Work :=
  if ea % al != 0 then w.trap Cause.align (einfoAlign ea w.focus.idx)
  else
    match w.placeWords w.who n (w.va ea) with
    | (w, .error e) => w.trap e.1 (einfoAccess e 4 w.focus.idx)
    | (w, .ok ps) => k w ps

/-- In a deterministic task the first pusher, or popper, of a queue is its only one (11 R231). -/
def soleParty (w : Work) (first : Option Nat) : Bool := !w.det || first == none || first == some w.party

/-- QPUSH (11 R228): with its record read, it claims a unit of capacity or waits; in a deterministic task another pusher may stand by the
time it tries again (11 R231). -/
def attemptPush (w : Work) (h : Word) (rec : List Word) : Work :=
  w.withQueue h (fun w n q =>
    if !w.soleParty q.pusher then w.trap Cause.detAtomic (BitVec.ofNat 64 w.focus.idx)
    else if q.noRoom then w.waitHolding 0 (w.now + 16) none rec
    else
      let q := { q with pending := w.party :: q.pending, pusher := if w.det then some w.party else q.pusher }
      ((w.setHq n q).stopWaiting).effect (.qpush n rec))

/-- QPUSH at its firing (11 R228). -/
def firePush (w : Work) (h a : Word) : Work :=
  w.withQueue h (fun w _ q =>
    if !w.soleParty q.pusher then w.trap Cause.detAtomic (BitVec.ofNat 64 w.focus.idx)
    else w.withWords 8 q.rw a.toNat (fun w rec => w.attemptPush h rec))

/-- QPOP (11 R228): it claims the oldest unclaimed hardware record, or waits. -/
def attemptPop (w : Work) (sh : Shape) (h a : Word) : Work :=
  w.withQueue h (fun w n q =>
    if !w.soleParty q.popper then w.trap Cause.detAtomic (BitVec.ofNat 64 w.focus.idx)
    else w.withPlace 8 q.rw a.toNat (fun w ps =>
      match q.nextRecord with
      | none => w.waitUntil 0 (w.now + 16) none
      | some r =>
        let q := { q.claimRecord r.seq w.party with popper := if w.det then some w.party else q.popper }
        let w := (w.setHq n q).stopWaiting
        let w := (w.effect (.stores (ps.zip r.words))).effect (.qpop n r.seq)
        w.sendValue sh (BitVec.ofNat 64 r.seq)))

/-- QPEEK (11 R229). -/
def peek (w : Work) (sh : Shape) (h a : Word) : Work :=
  w.withQueue h (fun w n q =>
    if !w.soleParty q.popper then w.trap Cause.detAtomic (BitVec.ofNat 64 w.focus.idx)
    else w.withPlace 8 q.rw a.toNat (fun w ps =>
      let w := w.setHq n { q with popper := if w.det then some w.party else q.popper }
      match q.nextRecord with
      | none => (w.perform).sendValue sh (BitVec.allOnes 64)
      | some r => (w.effect (.stores (ps.zip r.words))).sendValue sh (BitVec.ofNat 64 r.seq)))

/-- QSTAT (11 R230). -/
def queueStat (w : Work) (sh : Shape) (h : Word) : Work :=
  if h.toNat / 256 != 0 then w.protect 3 0
  else
    let q := w.hq h.toNat
    if q.enabled && q.owner != w.me.asid.toNat then w.protect 4 0
    else w.deliver sh q.stat memLat

/-- The pages of 64 KiB that a ring of `n` pages covers, translated for writing (11 R227). -/
def ringPages (w : Work) : Nat → Nat → Work × Except (Nat × Nat × Nat) (List Nat)
  | 0, _ => (w, .ok [])
  | n + 1, va =>
    match w.translate w.who .descStore 8 va with
    | (w, .fault c s) => (w, .error (c, s, va))
    | (w, .ok pa _) =>
      match ringPages w n (va + 0x10000) with
      | (w, .error e) => (w, .error e)
      | (w, .ok ps) => (w, .ok (pa / 0x10000 * 0x10000 :: ps))

/-- Deliver QCFG's status code (11 R227): 0 done, 1 busy, 2 refused, 3 another owner. -/
def qcfgStatus (w : Work) (sh : Shape) (n : Nat) : Work := w.deliver sh (BitVec.ofNat 64 n) memLat

/-- QCFG with its descriptor words (11 R227). HD and RBASE are checked where the descriptor enables; 2 precedes 3, and 3 precedes 1 (DESIGN
CHOICE, log 57). -/
def queueConfig (w : Work) (sh : Shape) (h d0 d1 : Word) : Work :=
  let n := h.toNat
  let q := w.hq n
  let d := d1.toNat
  let force := bit d 33
  let enable := bit d 32
  let hd := bits d 16 6
  let rsz := bits d 0 5
  let rs := if rsz == 0 then 0 else 2 ^ (rsz - 1)
  let bad := bits d 34 30 != 0 || bits d 22 10 != 0 || bits d 11 5 != 0 || bits d 5 3 != 0
    || (force && !w.me.fw) || 21 < rsz
    || (enable && (d0.toNat % 64 != 0 || hd == 0 || 32 < hd))
  if bad then w.qcfgStatus sh 2
  else if enable then
    if q.enabled then (if q.owner == w.me.asid.toNat || force then w.qcfgStatus sh 1 else w.qcfgStatus sh 3)
    else
      let va := w.va d0.toNat
      let pages := if rs == 0 then 0 else (d0.toNat % 0x10000 + rs * 64 + 0xFFFF) / 0x10000
      match w.ringPages pages (va / 0x10000 * 0x10000) with
      | (w, .error e) => w.trap e.1 (einfoAccess e 4 w.focus.idx)
      | (w, .ok ps) =>
        (w.effect (.qenable n (d0.toNat % 0x10000) ps hd (bits d 8 3 + 1) rs w.me.asid.toNat)).qcfgStatus sh 0
  else if q.enabled && q.owner != w.me.asid.toNat && !force then w.qcfgStatus sh 3
  else if q.enabled && !force && (q.hcnt + q.rcnt != 0 || !q.pending.isEmpty || q.entries.any (fun r => r.claim.isSome)) then
    w.qcfgStatus sh 1
  else (w.effect (.qdisable n force)).qcfgStatus sh 0

/-! ### Queue effects at commit (11 R214, R225, R227) -/

/-- Write the words of a record from physical address `pa` by filling stores. -/
def fillWords (w : Work) (pa : Nat) : List Word → Work
  | [] => w
  | v :: vs => fillWords (w.fillWord pa v) (pa + 8) vs

/-- Set `n` words from physical address `pa` to EMPTY. -/
def emptyWords (w : Work) (pa : Nat) : Nat → Work
  | 0 => w
  | n + 1 => emptyWords (w.setBit (pa / 8) false) (pa + 8) n

/-- Write 0 and EMPTY to `n` words from physical address `pa` by clearing stores. -/
def clearWords (w : Work) (pa : Nat) : Nat → Work
  | 0 => w
  | n + 1 => clearWords ((w.putWord pa 0).setBit (pa / 8) false) (pa + 8) n

/-- A push that commits (11 R225): it takes the next sequence number, and its record enters a hardware entry or spills. -/
def commitPush (w : Work) (p n : Nat) (rec : List Word) : Work :=
  let q := w.hq n
  let q := { q with pending := q.pending.erase p }
  let r : QRecord := { seq := q.seq.toNat, words := rec }
  if q.rcnt == 0 && q.hcnt < q.hd then
    w.setHq n { q with entries := q.entries ++ [r], hin := q.hin + 1, seq := q.seq + 1 }
  else
    let w := w.fillWords (q.slotAddr (q.rin.toNat % q.rs)) rec
    w.setHq n { q with rin := q.rin + 1, seq := q.seq + 1 }

/-- A pop that commits (11 R225): its entry is freed, and the oldest ring record refills the entries. -/
def commitPop (w : Work) (n seq : Nat) : Work :=
  let q := w.hq n
  let q := { q with entries := q.entries.filter (fun r => r.seq != seq), hout := q.hout + 1 }
  if q.rcnt == 0 then w.setHq n q
  else
    let pa := q.slotAddr (q.rout.toNat % q.rs)
    let r : QRecord := { seq := q.seq.toNat - q.rcnt, words := w.loadWords pa q.rw }
    (w.emptyWords pa q.rw).setHq n { q with entries := q.entries ++ [r], rout := q.rout + 1, hin := q.hin + 1 }

/-- A QCFG enable that commits (11 R227): counts and SEQ 0, every ring slot's words 0 and EMPTY. -/
def commitEnable (w : Work) (n rbase : Nat) (ring : List Nat) (hd rw rs owner : Nat) : Work :=
  let q : HQueue := { enabled := true, owner := owner, hd := hd, rw := rw, rs := rs, rbase := rbase, ring := ring }
  ((List.range rs).foldl (fun w i => w.clearWords (q.slotAddr i) rw) w).setHq n q

/-- The effect of a block's instruction names a push or a pop on queue `n`. -/
def onQueue (n : Nat) : Effect → Bool
  | .qpush m _ => m == n
  | .qpop m _ => m == n
  | _ => false

/-- A block whose claims on queue `n` a forced disable has ended: the QPUSH or QPOP traps PROTECTION, subcode 4, and what it
would have done is dropped (11 R227). -/
def loseQueue (n : Nat) (b : Block) : Block :=
  (b.effs.filter (fun e => onQueue n e.2)).foldl (fun b e =>
    { b.trapAt e.1 Cause.protection (einfoMem 0 4 4 0 e.1) with effs := b.effs.filter (fun x => x.1 != e.1) }) b

/-- A QCFG disable that commits (11 R227). What a claim or a record taken before it commits would have done is dropped, and a push that has
fired spills onto the disabled queue (DESIGN CHOICE, log 57). -/
def commitDisable (w : Work) (n : Nat) (force : Bool) : Work :=
  let w := w.setHq n {}
  if !force then w
  else { w with core := { w.core with tiles := w.core.tiles.map (fun t => (t.1, { t.2 with
    ctxs := t.2.ctxs.map (fun c => (c.1, { c.2 with block := c.2.block.map (loseQueue n) })) })) } }

/-! ### The combining queue (11 R232; 19 R384, R385) -/

/-- The combining queue of a die. -/
def cqueue (w : Work) (die : Nat) : CQueue := mapGet {} die w.core.cq

/-- Replace the combining queue of a die. -/
def setCq (w : Work) (die : Nat) (x : CQueue) : Work := { w with core := { w.core with cq := mapSet die x w.core.cq } }

/-- The die of the context in focus. -/
def myDie (w : Work) : Nat := dieOf w.focus.tile

/-- The ASID of a context number. -/
def asidOf (w : Work) (p : Nat) : Nat := (w.ctx (p / 4) (p % 4)).asid.toNat

/-- The combining queue is full for an ASID (19 R384): its quota or the die's 4,096 places are taken. -/
def cqFull (w : Work) (q : CQueue) (asid : Nat) : Bool :=
  let mine := (q.records.filter (fun r => r.asid == asid)).length + (q.pending.filter (fun p => w.asidOf p == asid)).length
  (w.asidInfo asid).quota ≤ mine || 4096 ≤ q.records.length + q.pending.length

/-- CQPUSH, with its record read (11 R232). -/
def attemptCqPush (w : Work) (rec : List Word) : Work :=
  let d := w.myDie
  let q := w.cqueue d
  if w.cqFull q w.me.asid.toNat then w.waitHolding 0 (w.now + 16) none rec
  else ((w.setCq d { q with pending := w.party :: q.pending }).stopWaiting).effect (.cqpush d rec)

/-- CQPUSH at its firing (11 R232). -/
def fireCqPush (w : Work) (a : Word) : Work :=
  if w.det then w.trap Cause.detAtomic (BitVec.ofNat 64 w.focus.idx)
  else w.withWords 64 8 a.toNat (fun w rec => w.attemptCqPush rec)

/-- CQPOP at its firing (11 R232): it waits for the next combining of its die, which serves it (19 R385). -/
def fireCqPop (w : Work) (a : Word) : Work :=
  if w.det then w.trap Cause.detAtomic (BitVec.ofNat 64 w.focus.idx)
  else w.withPlace 64 8 a.toNat (fun w _ => w.waitUntil 0 w.now none)

/-- A record of a combining queue is there for the pops of an ASID: unclaimed, and pushed before this clk, so that the pushes of one clk stand
in their order (19 R384, R385). -/
def cqFor (w : Work) (asid : Nat) (r : QRecord) : Bool := r.claim.isNone && r.asid == asid && r.clk < w.now

/-- Serve one waiting CQPOP, the instruction in focus, if a record of its ASID is there (11 R232, 19 R384). -/
def serveCqPop (w : Work) (sh : Shape) (a : Word) : Work :=
  let d := w.myDie
  let q := w.cqueue d
  match q.records.find? (w.cqFor w.me.asid.toNat) with
  | none => w
  | some r =>
    w.withPlace 64 8 a.toNat (fun w ps =>
      let w := w.setCq d { q with records := q.records.map (fun x => if x.seq == r.seq then { x with claim := some w.party } else x) }
      let w := w.stopWaiting
      ((w.effect (.stores (ps.zip r.words))).effect (.cqpop d r.seq)).sendValue sh (BitVec.ofNat 64 r.seq))

/-- Enter a record into a combining queue (19 R385): behind the records that stand, but before those that contexts of higher number pushed in
the same clk, which take the sequence numbers after it. -/
def enterRecord (r : QRecord) : List QRecord → List QRecord
  | [] => [r]
  | x :: xs =>
    if x.clk == r.clk && r.pushed < x.pushed then
      { r with seq := x.seq } :: (x :: xs).map (fun y => { y with seq := y.seq + 1 })
    else x :: enterRecord r xs

/-- A CQPUSH that commits (11 R232). -/
def commitCqPush (w : Work) (p d : Nat) (rec : List Word) : Work :=
  let q := w.cqueue d
  let r : QRecord := { seq := q.seq, words := rec, asid := w.asidOf p, clk := w.now, pushed := p }
  w.setCq d { q with pending := q.pending.erase p, seq := q.seq + 1, records := enterRecord r q.records }

/-- A CQPOP that commits (11 R232): the record's slot is emptied. -/
def commitCqPop (w : Work) (d seq : Nat) : Work :=
  let q := w.cqueue d
  w.setCq d { q with records := q.records.filter (fun r => r.seq != seq) }

end Work

/-! ### Meanings -/

/-- QPUSH (11 R228). -/
def execQpush (pr : BitVec 2) (lim : BitVec 5) (s : State) : Host.Outcome State Fault Refusal :=
  fireAccess (shape (.qpush pr lim)) (fun a b _ w => w.firePush a b) s

/-- QPOP (11 R228). -/
def execQpop (pr : BitVec 2) (lim : BitVec 5) (t1 t0 : BitVec 9) (s : State) : Host.Outcome State Fault Refusal :=
  fireAccess (shape (.qpop pr lim t1 t0)) (fun a b _ w => w.attemptPop (shape (.qpop pr lim t1 t0)) a b) s

/-- QPEEK (11 R229). -/
def execQpeek (pr : BitVec 2) (t1 t0 : BitVec 9) (s : State) : Host.Outcome State Fault Refusal :=
  fireAccess (shape (.qpeek pr t1 t0)) (fun a b _ w => w.peek (shape (.qpeek pr t1 t0)) a b) s

/-- QSTAT (11 R230). -/
def execQstat (pr : BitVec 2) (t1 t0 : BitVec 9) (s : State) : Host.Outcome State Fault Refusal :=
  fire (shape (.qstat pr t1 t0)) (fun a _ _ w => w.queueStat (shape (.qstat pr t1 t0)) a) s

/-- QCFG (11 R227). -/
def execQcfg (pr : BitVec 2) (t1 t0 : BitVec 9) (s : State) : Host.Outcome State Fault Refusal :=
  fireAccess (shape (.qcfg pr t1 t0)) (fun a b _ w =>
    if a.toNat / 256 != 0 then w.protect 3 0
    else w.withWords 16 2 b.toNat (fun w ws =>
      w.queueConfig (shape (.qcfg pr t1 t0)) a (listGet 0 0 ws) (listGet 0 1 ws))) s

/-- CQPOP (11 R232). -/
def execCqpop (pr : BitVec 2) (lim : BitVec 5) (t1 t0 : BitVec 9) (s : State) : Host.Outcome State Fault Refusal :=
  fireAccess (shape (.cqpop pr lim t1 t0)) (fun a _ _ w => w.fireCqPop a) s

/-- CQPUSH (11 R232). -/
def execCqpush (pr : BitVec 2) (lim : BitVec 5) (s : State) : Host.Outcome State Fault Refusal :=
  fireAccess (shape (.cqpush pr lim)) (fun a _ _ w => w.fireCqPush a) s

end Sys2Proof.Machine
end

