-- ==== Sys2Proof/Machine/System.lean ====
section
/-! DEFINITION. Branches and calls (09 R196 to R200), FENCE, WAIT, PAUSE, MFS, MTS, TRAP, HALT, ERET, RSEED, RNEXT and SPAWNC
(11 R222, R233 to R242). -/

namespace Sys2Proof.Machine

open Sys2Proof

/-! ### Special registers (11 R241, R242) -/

namespace Work

/-- The tile slot of tile `t` in its region (01 R23), or 0 outside a region. -/
def slotOf (w : Work) (t : Nat) : Nat :=
  match w.regionOf t with
  | none => 0
  | some r => (r.live.findIdx? (· == t)).getD 0

/-- Context `c` of tile `t` is the main context of its task: context 0 of the lead tile (01 R23, R26). -/
def isMain (w : Work) (t c : Nat) : Bool :=
  match w.regionOf t with
  | none => false
  | some r => c == 0 && r.live.head? == some t

/-- S_CYCLE of tile `t` (11 R241): the cycles it has counted of its own clock (00 R1), which stop while its cluster's clocks are gated (23 R429). -/
def cycles (w : Work) (t : Nat) : Nat :=
  match (w.tile t).stopped with
  | some c => c
  | none => w.now + (w.tile t).ahead - (w.tile t).cycle0

/-- The special register of an identifier, as the context in focus reads it (11 R241, R242). -/
def readSpecial (w : Work) (id : Nat) : Word :=
  let c := w.me
  let t := w.focus.tile
  match id with
  | 0x000 => BitVec.ofNat 64 (dieOf t * 2 ^ 12 + w.slotOf t * 2 ^ 8 + t % 256)
  | 0x001 => BitVec.ofNat 64 ((if c.fw then 8 else 0) + (if w.isMain t w.focus.ctx then 4 else 0) + w.focus.ctx % 4)
  | 0x002 => c.asid.setWidth 64
  | 0x003 => c.mode.setWidth 64
  | 0x004 => BitVec.ofNat 64 (w.cycles t)
  | 0x005 => c.budget.setWidth 64
  | 0x006 => c.fpflags.setWidth 64
  | 0x007 => c.dseg.setWidth 64
  | 0x008 => c.seedlog
  | 0x009 => c.rkey
  | 0x00A => c.rstream
  | 0x00B => c.utvec
  | 0x00C => c.ucause.setWidth 64
  | 0x00D => c.uepc
  | 0x00E => c.ueinfo
  | 0x800 => c.cause.setWidth 64
  | 0x801 => c.epc
  | 0x802 => c.einfo
  | 0x803 => c.estat
  | 0x804 => c.tvec
  | 0x805 => c.scratch
  | 0x806 => w.core.parkBase
  | _ => 0

end Work

/-- A write of a special register that belongs to the context, field by field under the access of the mode (11 R235, R241,
R242): fields that are RO in the mode keep their value, reserved fields read as 0. -/
def Ctx.writeSpecial (c : Ctx) (id : Nat) (v : Word) : Ctx :=
  match id with
  | 0x002 => if c.fw then { c with asid := v.setWidth 10 } else c
  | 0x003 => if c.fw then { c with mode := v.setWidth 3 } else c
  | 0x005 => { c with budget := v.setWidth 17 }
  | 0x006 => { c with fpflags := v.setWidth 5 }
  | 0x007 => { c with dseg := v.setWidth 8 }
  | 0x008 => { c with seedlog := v &&& 0xFFFFFFFFFFFF0FFF }
  | 0x009 => { c with rkey := v }
  | 0x00A => { c with rstream := v }
  | 0x00B => { c with utvec := v }
  | 0x00C => { c with ucause := v.setWidth 8 }
  | 0x00D => { c with uepc := v }
  | 0x00E => { c with ueinfo := v }
  | 0x800 => { c with cause := v.setWidth 8 }
  | 0x801 => { c with epc := v }
  | 0x802 => { c with einfo := v }
  | 0x803 => { c with estat := v &&& 0xFF01 }
  | 0x804 => { c with tvec := v }
  | 0x805 => { c with scratch := v }
  | _ => c

/-- An MTS that commits (11 R235): S_PARKBASE applies package-wide. -/
def Work.commitMts (w : Work) (id : Nat) (v : Word) : Work :=
  if id == 0x806 then { w with core := { w.core with parkBase := v } }
  else w.setCtx w.focus.tile w.focus.ctx (w.me.writeSpecial id v)

/-! ### Exits (09 R180, R182, R196 to R198) -/

namespace Work

/-- An exit instruction fires (09 R180): a second one breaks a rule (R182, `Block.seconds`). -/
def exitTo (w : Work) (kind : ExitKind) (dest : VAddr) : Work :=
  w.onBlock (fun b =>
    { b.setPhase w.focus.idx .performed with exits := b.exits ++ [⟨w.focus.idx, kind, dest⟩] })

/-- The address of the block in focus. -/
def blockAddr (w : Work) : VAddr :=
  match w.block with
  | none => 0
  | some b => b.addr

/-- The target of BR and CALL (09 R197). -/
def relTarget (w : Work) (off : BitVec 20) : VAddr := w.blockAddr + off.signExtend 72 * 16

/-- BRI, CALLI and RET (09 R198): a misaligned target traps ALIGN at its own index; the exit has fired all the same (R182). -/
def exitIndirect (w : Work) (kind : ExitKind) (a : Word) : Work :=
  if a.toNat % 16 != 0 then (w.exitTo kind 0).trap Cause.align (einfoAlign a.toNat w.focus.idx)
  else w.exitTo kind (vaddr (w.blockAddr.toNat / 2 ^ 64) a.toNat)

/-! ### WAIT, random numbers, SPAWNC -/

/-- WAIT tests its word (11 R233): it delivers the data, or waits for the next test 16 clk later. -/
def attemptWait (w : Work) (sh : Shape) (full : BitVec 1) (a : Word) : Work :=
  w.access .test 8 a.toNat (fun w pa u =>
    if w.bitAt pa u == (full == 1) then w.stopWaiting.deliver sh (BitVec.ofNat 64 (w.dataAt pa 8 u)) memLat
    else w.waitUntil 0 (w.now + 16) none)

/-- WAIT at the end of its limit (11 R233): WAIT_TIMEOUT, FORM 5. -/
def timeoutWait (w : Work) (a : Word) : Work :=
  w.access .test 8 a.toNat (fun w pa _ => w.stopWaiting.trap Cause.waitTimeout (einfoWait pa false 5 w.focus.idx))

/-- RSEED (11 R238): outside deterministic mode a fresh value, logged at commit; in a deterministic task a waiting load of
the log entry. -/
def attemptSeed (w : Work) (sh : Shape) (i : Word) (tries : Nat) : Work :=
  let log := w.me.seedlog.toNat
  if bits log 0 12 + 1 ≤ i.toNat then w.protect 3 0
  else
    let va := low (bits log 16 48 * 0x10000 + 8 * i.toNat) 64
    let form : AccForm := if w.det then .waitLoad else .plainStore
    match w.translate w.who form 8 va with
    | (w, .fault c s) => w.trap c (einfoMem va s form.acc 0 w.focus.idx)
    | (w, .ok pa u) =>
      match w.poisonOf pa with
      | some src => w.trap Cause.uncorrectable (einfoUncorr src (pa / 64) w.focus.idx)
      | none =>
        if w.det then
          (if w.bitAt pa u then w.stopWaiting.deliver sh (BitVec.ofNat 64 (w.dataAt pa 8 u)) memLat
           else w.notReady .waitLoad pa tries)
        else
          let v := Config.entropy w.core.free
          let w := { w with core := { w.core with free := w.core.free + 1 } }
          (w.effect (.seed pa v)).deliver sh v memLat

/-- SPAWNC at its firing (11 R240). -/
def fireSpawn (w : Work) (sh : Shape) (a b : Word) : Work :=
  let live := match w.regionOf w.focus.tile with
    | none => []
    | some r => r.live
  let slot := bits a.toNat 2 4
  let c := a.toNat % 4
  if a.toNat / 64 != 0 || live.length ≤ slot then w.protect 3 0
  else if b.toNat % 16 != 0 then w.trap Cause.align (einfoAlign b.toNat w.focus.idx)
  else
    let t := listGet 0 slot live
    let x := w.ctx t c
    if (x.status == .idle || x.status == .halted) && x.spawnedBy == none then
      let w := w.setCtx t c { x with spawnedBy := some w.party }
      let who := w.slotOf w.focus.tile * 4 + w.focus.ctx
      (w.effect (.spawn (t * 4 + c) (vaddr (w.blockAddr.toNat / 2 ^ 64) b.toNat) who)).deliver sh 1 memLat
    else w.deliver sh 0 memLat

/-- A context that SPAWNC starts at commit (11 R240). The trap registers of R241 keep their values. -/
def commitSpawn (w : Work) (p : Nat) (entry : VAddr) (who : Nat) : Work :=
  let me := w.me
  let x := w.ctx (p / 4) (p % 4)
  let task := match w.regionOf (p / 4) with
    | none => (me.asid, me.mode)
    | some r => (BitVec.ofNat 10 r.asid, r.mode)
  w.setCtx (p / 4) (p % 4)
    { x with status := .ready, pc := entry, regs := mapSet 2 Config.exitBlock (mapSet 3 (BitVec.ofNat 64 who) []),
             fw := me.fw, asid := task.1, mode := task.2, budget := 0x101FF, fpflags := 0, dseg := 0, seedlog := 0, rkey := 0,
             rstream := 0, utvec := 0, handler := false, fence := 0, spawnedBy := none, park := none, block := none }

end Work

/-! ### Philox4x32-10 (11 R239) -/

/-- One round on counter and key words (11 R239). -/
def philoxRound (k0 k1 c0 c1 c2 c3 : Nat) : Nat × Nat × Nat × Nat :=
  let p := 0xD2511F53 * c0
  let q := 0xCD9E8D57 * c2
  (Nat.xor (Nat.xor (q / 2 ^ 32) c1) k0, q % 2 ^ 32, Nat.xor (Nat.xor (p / 2 ^ 32) c3) k1, p % 2 ^ 32)

/-- `n` rounds, the key stepped before each but the first (11 R239). -/
def philoxRounds : Nat → Nat → Nat → Nat × Nat × Nat × Nat → Nat × Nat × Nat × Nat
  | 0, _, _, c => c
  | n + 1, k0, k1, c =>
    philoxRounds n ((k0 + 0x9E3779B9) % 2 ^ 32) ((k1 + 0xBB67AE85) % 2 ^ 32) (philoxRound k0 k1 c.1 c.2.1 c.2.2.1 c.2.2.2)

/-- RNEXT (11 R239). -/
def philox (key stream a : Word) : Word :=
  let h := a.toNat / 2
  let r := philoxRounds 10 (low key.toNat 32) (key.toNat / 2 ^ 32)
    (low h 32, h / 2 ^ 32, low stream.toNat 32, stream.toNat / 2 ^ 32)
  if a.toNat % 2 == 0 then BitVec.ofNat 64 (r.2.1 * 2 ^ 32 + r.1) else BitVec.ofNat 64 (r.2.2.2 * 2 ^ 32 + r.2.2.1)

/-! ### Meanings -/

/-- BR (09 R197). -/
def execBr (pr : BitVec 2) (exit : BitVec 3) (off : BitVec 20) (s : State) : Host.Outcome State Fault Refusal :=
  fire (shape (.br pr exit off)) (fun _ _ _ w => w.exitTo .branch (w.relTarget off)) s

/-- CALL (09 R197). -/
def execCall (pr : BitVec 2) (exit : BitVec 3) (off : BitVec 20) (s : State) : Host.Outcome State Fault Refusal :=
  fire (shape (.call pr exit off)) (fun _ _ _ w => w.exitTo .call (w.relTarget off)) s

/-- BADR (09 R199). -/
def execBadr (pr : BitVec 2) (imm : BitVec 14) (t0 : BitVec 9) (s : State) : Host.Outcome State Fault Refusal :=
  fire (shape (.badr pr imm t0)) (fun _ _ _ w =>
    w.deliver (shape (.badr pr imm t0)) ((w.blockAddr + imm.signExtend 72 * 16).setWidth 64) 1) s

/-- BRI (09 R198). -/
def execBri (pr : BitVec 2) (exit : BitVec 3) (s : State) : Host.Outcome State Fault Refusal :=
  fire (shape (.bri pr exit)) (fun a _ _ w => w.exitIndirect .branch a) s

/-- CALLI (09 R198). -/
def execCalli (pr : BitVec 2) (exit : BitVec 3) (s : State) : Host.Outcome State Fault Refusal :=
  fire (shape (.calli pr exit)) (fun a _ _ w => w.exitIndirect .call a) s

/-- RET (09 R198): its effect is that of BRI. -/
def execRet (pr : BitVec 2) (exit : BitVec 3) (s : State) : Host.Outcome State Fault Refusal :=
  fire (shape (.ret pr exit)) (fun a _ _ w => w.exitIndirect .branch a) s

/-- FENCE (11 R222): it acts at commit. -/
def execFence (pr : BitVec 2) (scope : BitVec 3) (s : State) : Host.Outcome State Fault Refusal :=
  fire (shape (.fence pr scope)) (fun _ _ _ w => w.effect (.fence scope.toNat)) s

/-- WAIT (11 R233). -/
def execWait (pr : BitVec 2) (full : BitVec 1) (lim : BitVec 5) (t0 : BitVec 9) (s : State) :
    Host.Outcome State Fault Refusal :=
  fireAccess (shape (.wait pr full lim t0)) (fun a _ _ w => w.attemptWait (shape (.wait pr full lim t0)) full a) s

/-- A wide instruction that the context in focus has committed is still to be applied, a run to its end (17 R327). -/
def Work.wideLeft (w : Work) : Bool :=
  let x := w.tile w.focus.tile
  x.wq.any (fun o => o.party == w.party) || x.wide.run.any (fun r => r.op.party == w.party)

/-- MFS (11 R235): the register as it stands at the firing; S_FPFLAGS only once the context's wide instructions have been
applied (17 R327). -/
def execMfs (pr : BitVec 2) (id : BitVec 12) (t0 : BitVec 9) (s : State) : Host.Outcome State Fault Refusal :=
  if id == 6 && s.work.wideLeft then .fault .notEnabled
  else fire (shape (.mfs pr id t0)) (fun _ _ _ w => w.deliver (shape (.mfs pr id t0)) (w.readSpecial id.toNat) 1) s

/-- MTS (11 R235): written at commit. -/
def execMts (pr : BitVec 2) (id : BitVec 12) (s : State) : Host.Outcome State Fault Refusal :=
  fire (shape (.mts pr id)) (fun a _ _ w => w.effect (.mts id.toNat a)) s

/-- TRAP (11 R236). -/
def execTrap (pr : BitVec 2) (code : BitVec 14) (s : State) : Host.Outcome State Fault Refusal :=
  fire (shape (.trap pr code)) (fun _ _ _ w =>
    w.trap Cause.trapInsn (BitVec.ofNat 64 (code.toNat * 2 ^ 7 + w.focus.idx))) s

/-- ERET (11 R237): an exit whose effects are made at commit. -/
def execEret (pr : BitVec 2) (s : State) : Host.Outcome State Fault Refusal :=
  fire (shape (.eret pr)) (fun _ _ _ w => w.exitTo .eret 0) s

/-- HALT (11 R237): an exit whose effects are made at commit. -/
def execHalt (pr : BitVec 2) (s : State) : Host.Outcome State Fault Refusal :=
  fire (shape (.halt pr)) (fun _ _ _ w => w.exitTo .halt 0) s

/-- PAUSE (11 R234): the context waits `units` × 16 clk. -/
def execPause (pr : BitVec 2) (units : BitVec 14) (t0 : BitVec 9) (s : State) : Host.Outcome State Fault Refusal :=
  fire (shape (.pause pr units t0)) (fun _ _ _ w => w.waitUntil 0 (w.now + units.toNat * 16) none) s

/-- RSEED (11 R238). -/
def execRseed (pr : BitVec 2) (t1 t0 : BitVec 9) (s : State) : Host.Outcome State Fault Refusal :=
  fireAccess (shape (.rseed pr t1 t0)) (fun a _ _ w => w.attemptSeed (shape (.rseed pr t1 t0)) a 0) s

/-- RNEXT (11 R239). -/
def execRnext (pr : BitVec 2) (t1 t0 : BitVec 9) (s : State) : Host.Outcome State Fault Refusal :=
  fire (shape (.rnext pr t1 t0)) (fun a _ _ w =>
    w.deliver (shape (.rnext pr t1 t0)) (philox w.me.rkey w.me.rstream a) memLat) s

/-- SPAWNC (11 R240). -/
def execSpawnc (pr : BitVec 2) (t1 t0 : BitVec 9) (s : State) : Host.Outcome State Fault Refusal :=
  fire (shape (.spawnc pr t1 t0)) (fun a b _ w => w.fireSpawn (shape (.spawnc pr t1 t0)) a b) s

end Sys2Proof.Machine
end

