-- ==== Sys2Proof/Machine/Commit.lean ====
section
/-! DEFINITION. The end of a block (09 R180 to R183; 11 R214): when it ends, whether it commits, its effects in their order, and
the trap of a block that does not commit. -/

namespace Sys2Proof.Machine

open Sys2Proof

namespace Block

/-- Some instruction that has not fired can still fire (09 R180): its slots are filled, and for an access every lsid below
its own is served (11 R211). -/
def canStillFire (b : Block) : Bool :=
  (b.words.zip b.insts).any (fun p =>
    match decode p.1 with
    | none => false
    | some i =>
      let sh := shape i
      p.2.phase == .idle && sh.filled p.2
        && (sh.hasNull p.2 || !sh.predOk p.2 ||
            (match lsidOf i with
             | none => true
             | some (l, _) => b.lsidReady l)))

/-- Nothing is on its way, nothing waits and nothing can still fire (09 R180). -/
def ended (b : Block) : Bool := b.inflight.isEmpty && b.waits.isEmpty && !b.canStillFire

/-- Broken rules that name no instruction, found at the end (09 R183): REASON 5, 6 and 7 in that order, lowest ENTRY first. -/
def endRules (b : Block) : List Trap :=
  let mk (entry reason : Nat) : Trap := ⟨129, Cause.blockFormat, einfoFormat entry reason 0x7F⟩
  let empty := ((List.range b.held.length).filter (fun j => listGet (some .null) j b.held == none)).map (fun j => mk j 5)
  let lsids := (List.range 32).filter (fun l => b.stores.any (fun u => u.1 == l) && !b.stores.any (fun u => u.1 == l && u.2.served))
  empty ++ lsids.map (fun l => mk l 6) ++ (if b.exits.isEmpty then [mk 0 7] else [])

/-- Which of two recorded traps is reported (09 R183): the lower index; at one index an instruction's own trap before a broken rule; then
the lower detail. What precedes at one index is a DESIGN CHOICE, log 57. -/
def trapBefore (x y : Trap) : Bool :=
  x.idx < y.idx || (x.idx == y.idx &&
    ((x.cause != Cause.blockFormat && y.cause == Cause.blockFormat) || ((x.cause == y.cause) && x.einfo < y.einfo)))

/-- A recorded trap stands whichever of two racing values a slot received first (09 R179): one of an instruction that has two, or that takes
what comes of one, does not, but for the second value itself (DEDUCED, log 48). -/
def settledTrap (b : Block) (t : Trap) : Bool :=
  if b.races.contains t.idx then t.cause == Cause.blockFormat && t.einfo == einfoFormat 0 2 t.idx
  else b.races.isEmpty || !(reached b.receivers b.insts.length b.races).contains t.idx

/-- The trap that a block reports (09 R183), or none when it commits: among rules that name no instruction, a second value in
a write entry stands first (index 128), then those found at the end. -/
def report (b : Block) : Option Trap :=
  match (b.traps ++ b.seconds).filter b.settledTrap with
  | [] => b.endRules.head?
  | t :: ts => some (ts.foldl (fun a x => if trapBefore x a then x else a) t)

/-- The wide instructions that the block enqueues at commit (17 R325), in ascending index. -/
def wideOps (b : Block) : List WideOp :=
  ((List.range 128).flatMap (fun i => b.effs.filterMap (fun e =>
    match e.2 with
    | .wide op => if e.1 == i then some op else none
    | _ => none)))

end Block

namespace Work

/-- A memory effect of a commit (11 R214): data and bit in one event. A consuming load or filling store that performs ends the context's
reservation of the word (05 R106). A store to the control window is posted to its register (23 R417). -/
def commitMem (w : Work) (e : MemEff) : Work :=
  if classify e.pa == .control then
    { w with core := { w.core with posted := w.core.posted ++ [(e.pa - 0x7FF0000000000, e.data, w.party)] } }
  else
    let w := e.writeData w
    match e.newBit with
    | none => w
    | some b =>
      let w := w.setBit (e.pa / 8) b
      if e.kind == .clear then w else w.endResv (e.pa / 8) w.party

/-- The plain stores of QPOP, QPEEK and CQPOP at commit (11 R214). -/
def commitStores (w : Work) : Effect → Work
  | .stores ws => ws.foldl (fun w x => w.putWord x.1 x.2) w
  | _ => w

/-- The value of each write entry goes to its register; a null leaves it (09 R181). -/
def writeRegs (c : Ctx) (b : Block) : Ctx :=
  (b.writes.zip b.held).foldl (fun c x =>
    match x.2 with
    | some (.val v) => c.setReg x.1 v
    | _ => c) c

/-- The context goes on after a commit (09 R181, 11 R237): g2 of a call, and the next block. -/
def afterCommit (c : Ctx) (b : Block) : Ctx :=
  let c := { c with block := none, status := .ready }
  match b.exits with
  | [] => c
  | x :: _ =>
    match x.kind with
    | .branch => { c with pc := x.dest }
    | .call => ({ c with pc := x.dest }).setReg 2 (returnAddr b.addr b.words.length b.nr b.writes.length)
    | .halt => { c with status := .halted }
    | .eret => c.returnTrap

/-- The block in focus traps (09 R183): it has no effect, and the trap is delivered at its address (21 R395). -/
def trapBlock (w : Work) (b : Block) (t : Trap) : Work :=
  let w := (w.undoAllocs b).release w.party
  w.deliverTrap b.addr t.cause t.einfo

end Work

end Sys2Proof.Machine
end

