-- ==== Sys2Proof/Machine/Crc.lean ====
section
/-! DEFINITION. The checks of the package: CRC-64 of 15 R305 (also 17 R360), CRC-32C of 07 R174, CRC-16 of 05 R119. -/

namespace Sys2Proof.Machine

open Sys2Proof

/-- `n` shifts of a CRC register of `len` bits, most significant bit first, with polynomial `poly`. -/
def crcShift (len poly : Nat) : Nat → Nat → Nat
  | 0, c => c
  | n + 1, c => crcShift len poly n (if bit c (len - 1) then Nat.xor (low (c * 2) len) poly else c * 2)

/-- Fold one byte into a CRC fed most significant bit first. -/
def crcByte (len poly c b : Nat) : Nat := crcShift len poly 8 (Nat.xor c (b * 2 ^ (len - 8)))

/-- CRC-64 of R305 over bytes, from `c`. -/
def crc64 (c : Nat) (bs : List Nat) : Nat := bs.foldl (crcByte 64 0x42F0E1EBA9EA3693) c

/-- The line check of R119 over 64 data bytes and a presence byte. -/
def lineCheck (bs : List Nat) : Nat := bs.foldl (crcByte 16 0x8BB7) 0

/-- `n` shifts of the reflected CRC-32C register (07 R174). -/
def crc32cShift : Nat → Nat → Nat
  | 0, c => c
  | n + 1, c => crc32cShift n (if bit c 0 then Nat.xor (c / 2) 0x82F63B78 else c / 2)

/-- CRC-32C over bytes (07 R174): polynomial 0x1EDC_6F41 reflected, initial value and final exclusive or 0xFFFF_FFFF. -/
def crc32c (bs : List Nat) : Nat :=
  Nat.xor (bs.foldl (fun c b => crc32cShift 8 (Nat.xor c b)) 0xFFFFFFFF) 0xFFFFFFFF

/-- `n` bytes of a number, little-endian. -/
def bytesOf : Nat → Nat → List Nat
  | 0, _ => []
  | n + 1, v => v % 256 :: bytesOf n (v / 256)

end Sys2Proof.Machine
end

