-- ==== Sys2Proof/Machine/Signature.lean ====
section
/-! DEFINITION. The dual signature of 07 R174: ECDSA P-384 over SHA-384, and a single-tree LMS signature of RFC 8554 with SHA-256, as those
standards define them (PRESUMED, log 56: the manual names them and does not restate them). -/

namespace Sys2Proof.Machine

open Sys2Proof

/-- `f n`, with n reduced to a numeral first, so that the kernel evaluates a long chain step by step. -/
def strict {α : Type} (f : Nat → α) (n : Nat) : α :=
  match n with
  | 0 => f 0
  | .succ m => f m.succ

/-- The number whose bytes, most significant first, are `bs`: a string of bytes is held as its length and this number. -/
def fromBig (bs : List Nat) : Nat := bs.foldl (fun v b => v * 256 + b) 0

/-- `n` bytes from byte `o` on of a string of `len` bytes. -/
def slice (len v o n : Nat) : Nat := (v.shiftRight (8 * (len - o - n))).mod (2 ^ (8 * n))

/-! ### SHA-2 -/

/-- Three rotations to the right of a word below `m`, joined. -/
def rotSum (m a b c x : Nat) : Nat :=
  strict (fun y => ((y.shiftRight a).xor ((y.shiftRight b).xor (y.shiftRight c))).mod m) (x.mul m.succ)

/-- Two rotations and a shift of a word below `m`, joined. -/
def shiftSum (m a b c x : Nat) : Nat :=
  strict (fun y => (((y.shiftRight a).xor (y.shiftRight b)).mod m).xor (x.shiftRight c)) (x.mul m.succ)

/-- A hash of the SHA-2 family: bits a word, 2 to that power, its round constants and its four functions. -/
structure Sha where
  size : Nat
  top : Nat
  constants : List Nat
  big0 : Nat → Nat
  big1 : Nat → Nat
  small0 : Nat → Nat
  small1 : Nat → Nat

namespace Sha

/-- The rounds of a block: the constants left, the next 16 words of the message schedule, and the eight working words. -/
def rounds (h : Sha) : List Nat → Nat → Nat → Nat → Nat → Nat → Nat → Nat → Nat → Nat → Nat → Nat → Nat → Nat → Nat → Nat → Nat →
    Nat → Nat → Nat → Nat → Nat → Nat → Nat → Nat → List Nat
  | [], _, _, _, _, _, _, _, _, _, _, _, _, _, _, _, _, a, b, c, d, e, f, g, i => [a, b, c, d, e, f, g, i]
  | k :: ks, w0, w1, w2, w3, w4, w5, w6, w7, w8, w9, wa, wb, wc, wd, we, wf, a, b, c, d, e, f, g, i =>
    strict (fun t => strict (fun y => strict (fun z => strict (fun x =>
        rounds h ks w1 w2 w3 w4 w5 w6 w7 w8 w9 wa wb wc wd we wf x y a b c z e f g)
      ((((h.small1 we).add w9).add ((h.small0 w1).add w0)).mod h.top))
      ((d.add t).mod h.top))
      (((t.add (h.big0 a)).add (((a.land b).xor (a.land c)).xor (b.land c))).mod h.top))
      (((i.add (h.big1 e)).add ((e.land f).xor ((h.top.pred.sub e).land g))).add (k.add w0))

/-- One block of 16 words, from the eight words so far. -/
def block (h : Sha) (s ws : List Nat) : List Nat :=
  match s, ws with
  | [a, b, c, d, e, f, g, i], [w0, w1, w2, w3, w4, w5, w6, w7, w8, w9, wa, wb, wc, wd, we, wf] =>
    List.zipWith (fun x y => x.add y |>.mod h.top) s (h.rounds h.constants w0 w1 w2 w3 w4 w5 w6 w7 w8 w9 wa wb wc wd we wf a b c d e f g i)
  | _, _ => s

/-- A list with its numbers reduced. -/
def settle {α : Type} : List Nat → (List Nat → α) → α
  | [], k => k []
  | x :: xs, k => strict (fun y => settle xs (fun ys => k (y :: ys))) x

/-- `n` blocks, the last ones of a string: the eight words after them, joined. -/
def blocks (h : Sha) (v : Nat) : Nat → List Nat → Nat
  | 0, s => s.foldl (fun x y => (x.mul h.top).add y) 0
  | n + 1, s =>
    strict (fun b => settle ((List.range 16).map (fun i => (b.shiftRight (h.size * (15 - i))).mod h.top))
      (fun ws => settle (h.block s ws) (blocks h v n))) ((v.shiftRight (16 * h.size * n)).mod (2 ^ (16 * h.size)))

/-- A message of `len` bytes padded and hashed from the initial words: the eight words joined. -/
def run (h : Sha) (s : List Nat) (len v : Nat) : Nat :=
  let b := 2 * h.size
  strict (fun n => strict (fun p => h.blocks p n s) ((v * 256 + 128) * 2 ^ (8 * (n * b - len - 1)) + 8 * len))
    ((len + h.size / 4 + b) / b)

end Sha

/-- The round constants of SHA-256. -/
def rounds256 : List Nat :=
  [0x428a2f98, 0x71374491, 0xb5c0fbcf, 0xe9b5dba5, 0x3956c25b, 0x59f111f1, 0x923f82a4, 0xab1c5ed5,
   0xd807aa98, 0x12835b01, 0x243185be, 0x550c7dc3, 0x72be5d74, 0x80deb1fe, 0x9bdc06a7, 0xc19bf174,
   0xe49b69c1, 0xefbe4786, 0x0fc19dc6, 0x240ca1cc, 0x2de92c6f, 0x4a7484aa, 0x5cb0a9dc, 0x76f988da,
   0x983e5152, 0xa831c66d, 0xb00327c8, 0xbf597fc7, 0xc6e00bf3, 0xd5a79147, 0x06ca6351, 0x14292967]
  ++ [0x27b70a85, 0x2e1b2138, 0x4d2c6dfc, 0x53380d13, 0x650a7354, 0x766a0abb, 0x81c2c92e, 0x92722c85,
   0xa2bfe8a1, 0xa81a664b, 0xc24b8b70, 0xc76c51a3, 0xd192e819, 0xd6990624, 0xf40e3585, 0x106aa070,
   0x19a4c116, 0x1e376c08, 0x2748774c, 0x34b0bcb5, 0x391c0cb3, 0x4ed8aa4a, 0x5b9cca4f, 0x682e6ff3,
   0x748f82ee, 0x78a5636f, 0x84c87814, 0x8cc70208, 0x90befffa, 0xa4506ceb, 0xbef9a3f7, 0xc67178f2]

/-- The round constants of SHA-384. -/
def rounds384 : List Nat :=
  [0x428a2f98d728ae22, 0x7137449123ef65cd, 0xb5c0fbcfec4d3b2f, 0xe9b5dba58189dbbc,
   0x3956c25bf348b538, 0x59f111f1b605d019, 0x923f82a4af194f9b, 0xab1c5ed5da6d8118,
   0xd807aa98a3030242, 0x12835b0145706fbe, 0x243185be4ee4b28c, 0x550c7dc3d5ffb4e2,
   0x72be5d74f27b896f, 0x80deb1fe3b1696b1, 0x9bdc06a725c71235, 0xc19bf174cf692694,
   0xe49b69c19ef14ad2, 0xefbe4786384f25e3, 0x0fc19dc68b8cd5b5, 0x240ca1cc77ac9c65,
   0x2de92c6f592b0275, 0x4a7484aa6ea6e483, 0x5cb0a9dcbd41fbd4, 0x76f988da831153b5,
   0x983e5152ee66dfab, 0xa831c66d2db43210, 0xb00327c898fb213f, 0xbf597fc7beef0ee4]
  ++ [0xc6e00bf33da88fc2, 0xd5a79147930aa725, 0x06ca6351e003826f, 0x142929670a0e6e70,
   0x27b70a8546d22ffc, 0x2e1b21385c26c926, 0x4d2c6dfc5ac42aed, 0x53380d139d95b3df,
   0x650a73548baf63de, 0x766a0abb3c77b2a8, 0x81c2c92e47edaee6, 0x92722c851482353b,
   0xa2bfe8a14cf10364, 0xa81a664bbc423001, 0xc24b8b70d0f89791, 0xc76c51a30654be30,
   0xd192e819d6ef5218, 0xd69906245565a910, 0xf40e35855771202a, 0x106aa07032bbd1b8,
   0x19a4c116b8d2d0c8, 0x1e376c085141ab53, 0x2748774cdf8eeb99, 0x34b0bcb5e19b48a8,
   0x391c0cb3c5c95a63, 0x4ed8aa4ae3418acb, 0x5b9cca4f7763e373, 0x682e6ff3d6b2b8a3]
  ++ [0x748f82ee5defb2fc, 0x78a5636f43172f60, 0x84c87814a1f0ab72, 0x8cc702081a6439ec,
   0x90befffa23631e28, 0xa4506cebde82bde9, 0xbef9a3f7b2c67915, 0xc67178f2e372532b,
   0xca273eceea26619c, 0xd186b8c721c0c207, 0xeada7dd6cde0eb1e, 0xf57d4f7fee6ed178,
   0x06f067aa72176fba, 0x0a637dc5a2c898a6, 0x113f9804bef90dae, 0x1b710b35131c471b,
   0x28db77f523047d84, 0x32caab7b40c72493, 0x3c9ebe0a15c9bebc, 0x431d67c49c100d4c,
   0x4cc5d4becb3e42b6, 0x597f299cfc657e2a, 0x5fcb6fab3ad6faec, 0x6c44198c4a475817]

/-- SHA-256 and SHA-384. -/
def hash256 : Sha :=
  { size := 32, top := 0x100000000, constants := rounds256, big0 := rotSum 0x100000000 2 13 22, big1 := rotSum 0x100000000 6 11 25,
    small0 := shiftSum 0x100000000 7 18 3, small1 := shiftSum 0x100000000 17 19 10 }
def hash384 : Sha :=
  { size := 64, top := 0x10000000000000000, constants := rounds384, big0 := rotSum 0x10000000000000000 28 34 39,
    big1 := rotSum 0x10000000000000000 14 18 41, small0 := shiftSum 0x10000000000000000 1 8 7, small1 := shiftSum 0x10000000000000000 19 61 6 }

/-- SHA-256 of a message of `len` bytes: 32 bytes. -/
def sha256 (len v : Nat) : Nat := hash256.run [0x6a09e667, 0xbb67ae85, 0x3c6ef372, 0xa54ff53a, 0x510e527f, 0x9b05688c, 0x1f83d9ab, 0x5be0cd19] len v

/-- SHA-384 of a message of `len` bytes: 48 bytes. -/
def sha384 (len v : Nat) : Nat :=
  (hash384.run
    [0xcbbb9d5dc1059ed8, 0x629a292a367cd507, 0x9159015a3070dd17, 0x152fecd8f70e5939,
   0x67332667ffc00b31, 0x8eb44a8768581511, 0xdb0c2e0d64f98fa7, 0x47b5481dbefa4fa4] len v).shiftRight 128

/-! ### ECDSA over P-384 -/

/-- The field of P-384, the order of its base point, the curve's constant, and the base point. -/
def fieldP : Nat := 2 ^ 384 - 2 ^ 128 - 2 ^ 96 + 2 ^ 32 - 1
def orderN : Nat := 0xffffffffffffffffffffffffffffffffffffffffffffffffc7634d81f4372ddf581a0db248b0a77aecec196accc52973
def curveB : Nat := 0xb3312fa7e23ee7e4988e056be3f82d19181d9c6efe8141120314088f5013875ac656398d8a2ed19d2a85c8edd3ec2aef
def baseX : Nat := 0xaa87ca22be8b05378eb1c71ef320ad746e1d3b628ba79b9859f741e082542a385502f25dbf55296c3a545e3872760ab7
def baseY : Nat := 0x3617de4a96262c6f5d9e98bf9292dc29f8f41dbd289a147ce9da3113b5f0b8c00a60b1ce1d7e819d7a431d7c90ea0e5f

/-- x to the power of the `n` low bits of `e`, above an accumulator `acc`, in a prime field. -/
def powMod (m x e : Nat) : Nat → Nat → Nat
  | 0, acc => acc
  | n + 1, acc => strict (powMod m x e n) (if bit e n then acc * acc % m * x % m else acc * acc % m)

/-- The inverse in a prime field. -/
def invMod (m x : Nat) : Nat := powMod m x (m - 2) 384 1

/-- A difference in the field. -/
def subP (a b : Nat) : Nat := (a + (fieldP - b % fieldP)) % fieldP

/-- A point of the curve as (X : Y : Z), standing for X / Z², Y / Z³; Z = 0 for the point at infinity. -/
structure Point where
  x : Nat
  y : Nat
  z : Nat
  deriving DecidableEq, Repr

namespace Point

/-- A point with its numbers reduced. -/
def norm (x y z : Nat) : Point := strict (fun x => strict (fun y => strict (fun z => ⟨x, y, z⟩) (z % fieldP)) (y % fieldP)) (x % fieldP)

/-- A point twice. -/
def double (p : Point) : Point :=
  strict (fun s => strict (fun m => strict (fun x =>
      norm x (subP (m * subP s x) (8 * (p.y * p.y % fieldP * (p.y * p.y % fieldP)))) (2 * p.y * p.z))
    (subP (m * m) (2 * s)))
    (3 * (subP p.x (p.z * p.z) * (p.x + p.z * p.z))  % fieldP))
    (4 * p.x * (p.y * p.y) % fieldP)

/-- The sum of two points. -/
def add (p q : Point) : Point :=
  if p.z == 0 then q
  else if q.z == 0 then p
  else
    strict (fun u => strict (fun v => strict (fun s => strict (fun t =>
        if u == v then (if s == t then p.double else ⟨1, 1, 0⟩)
        else
          strict (fun h => strict (fun r => strict (fun w => strict (fun x =>
              norm x (subP (r * subP w x) (s * (h * h * h % fieldP))) (h * p.z * q.z))
            (subP (subP (r * r) (h * h * h)) (2 * w)))
            (u * (h * h) % fieldP)) (subP t s)) (subP v u))
      (q.y * (p.z * p.z * p.z) % fieldP)) (p.y * (q.z * q.z * q.z) % fieldP)) (q.x * (p.z * p.z) % fieldP)) (p.x * (q.z * q.z) % fieldP)

/-- a·P + b·Q by the `n` low bits of the factors, above an accumulated point; `s` is P + Q. -/
def times (a b : Nat) (p q s : Point) : Nat → Point → Point
  | 0, acc => acc
  | n + 1, acc =>
    match acc.double with
    | ⟨x, y, z⟩ =>
      let d : Point := ⟨x, y, z⟩
      match if bit a n then (if bit b n then d.add s else d.add p) else if bit b n then d.add q else d with
      | ⟨x, y, z⟩ => times a b p q s n ⟨x, y, z⟩

end Point

/-- A signature (r, s) over a digest verifies under the public point (x, y). -/
def ecdsaOk (x y digest r s : Nat) : Bool :=
  let onCurve := x < fieldP && y < fieldP && y * y % fieldP == (subP (x * x * x) (3 * x) + curveB) % fieldP
  if !onCurve || r == 0 || orderN ≤ r || s == 0 || orderN ≤ s then false
  else
    strict (fun w => strict (fun a => strict (fun b =>
        let p : Point := ⟨baseX, baseY, 1⟩
        let q : Point := ⟨x, y, 1⟩
        let t := Point.times a b p q (p.add q) 384 ⟨1, 1, 0⟩
        t.z != 0 && (let i := invMod fieldP t.z; t.x * (i * i) % fieldP % orderN == r))
      (r * w % orderN)) (digest * w % orderN)) (invMod orderN s)

/-! ### LMS (RFC 8554) -/

/-- W, the number of chains and the checksum's shift of an LM-OTS typecode. -/
def otsSet : Nat → Option (Nat × Nat × Nat)
  | 1 => some (1, 265, 7)
  | 2 => some (2, 133, 6)
  | 3 => some (4, 67, 4)
  | 4 => some (8, 34, 0)
  | _ => none

/-- The tree height of an LMS typecode. -/
def treeHeight (t : Nat) : Option Nat := if 5 ≤ t && t ≤ 9 then some (5 * (t - 4)) else none

/-- The bytes of an LMS signature of these typecodes. -/
def lmsSize (lms ots : Nat) : Option Nat :=
  match otsSet ots, treeHeight lms with
  | some (_, p, _), some h => some (12 + 32 * (p + 1) + 32 * h)
  | _, _ => none

/-- The i-th digit of `w` bits of a digest of 32 bytes and its checksum of 2. -/
def digit (w d i : Nat) : Nat := (d.shiftRight (272 - w * (i + 1))).mod (2 ^ w)

/-- A digest with the checksum of its digits. -/
def withSum (w shift d : Nat) : Nat :=
  d * 65536 + ((List.range (256 / w)).foldl (fun s i => s + (2 ^ w - 1 - digit w (d * 65536) i)) 0) * 2 ^ shift

/-- The rest of a chain: `n` steps from step `j` on; `pre` is I, q and the chain's number. -/
def chain (pre : Nat) : Nat → Nat → Nat → Nat
  | 0, _, y => y
  | n + 1, j, y => strict (fun j => strict (chain pre n (j + 1)) (sha256 55 ((pre * 256 + j) * 2 ^ 256 + y))) j

/-- The public values of the last `n` of `p` chains, joined after `z`; `ys` are the signature's values. -/
def chains (pre d w p ys : Nat) : Nat → Nat → Nat
  | 0, z => z
  | n + 1, z =>
    strict (fun a => strict (fun y => strict (fun i => strict (fun x => strict (chains pre d w p ys n) (z * 2 ^ 256 + x))
        (chain i (2 ^ w - 1 - a) a y)) (pre * 65536 + (p - 1 - n)))
      ((ys.shiftRight (256 * n)).mod (2 ^ 256))) (digit w d (p - 1 - n))

/-- The root above a node, by the path of `h` values. -/
def climb (ident path : Nat) : Nat → Nat → Nat → Nat
  | 0, _, x => x
  | h + 1, node, x =>
    let p := (path.shiftRight (256 * h)).mod (2 ^ 256)
    let pre := (ident * 2 ^ 32 + node / 2) * 65536 + 0x8383
    strict (climb ident path h (node / 2)) (sha256 86 (pre * 2 ^ 512 + (if node % 2 == 1 then p * 2 ^ 256 + x else x * 2 ^ 256 + p)))

/-- The root that an LMS signature over a message of `len` bytes leads to, its lengths and typecodes being right. -/
def lmsRoot (w p shift h ident len v sig : Nat) : Nat :=
  let size := 12 + 32 * (p + 1) + 32 * h
  let q := slice size sig 0 4
  strict (fun pre => strict (fun d => strict (fun z =>
      climb ident (slice size sig (44 + 32 * p) (32 * h)) h (2 ^ h + q)
        (sha256 54 (((ident * 2 ^ 32 + 2 ^ h + q) * 65536 + 0x8282) * 2 ^ 256
          + sha256 (22 + 32 * p) ((pre * 65536 + 0x8080) * 2 ^ (256 * p) + z))))
    (strict (fun ys => chains pre d w p ys p 0) (slice size sig 40 (32 * p))))
    (withSum w shift (sha256 (54 + len) (((pre * 65536 + 0x8181) * 2 ^ 256 + slice size sig 8 32) * 2 ^ (8 * len) + v)))) (ident * 2 ^ 32 + q)

/-- An LMS signature of `n` bytes over a message of `len` bytes verifies. -/
def lmsOk (k : SigKey) (len v n sig : Nat) : Bool :=
  match otsSet k.ots, treeHeight k.lms with
  | some (w, p, shift), some h =>
    n == 12 + 32 * (p + 1) + 32 * h && slice n sig 4 4 == k.ots && slice n sig (40 + 32 * p) 4 == k.lms && slice n sig 0 4 < 2 ^ h
      && lmsRoot w p shift h k.ident len v sig == k.root
  | _, _ => false

/-- A signature block over a message verifies under a key: its lengths, the ECDSA half and the LMS half (07 R174). -/
def dualOk (k : SigKey) (msg sig : List Nat) : Bool :=
  let len := msg.length
  let n := sig.length - 104
  sig.take 8 == bytesOf 4 96 ++ bytesOf 4 n
    && strict (fun v =>
        ecdsaOk k.x k.y (sha384 len v) (fromBig ((sig.drop 8).take 48)) (fromBig ((sig.drop 56).take 48))
          && strict (lmsOk k len v n) (fromBig (sig.drop 104))) (fromBig msg)

end Sys2Proof.Machine
end

