-- ==== Sys2Proof/Machine/Digits.lean ====
section
/-! DEFINITION. Online arithmetic (03 R65 to R76, R82 to R84; 13 R250 to R262): prefixes, digit selection, the class, scale,
precision and zero sign of each operation's result, its digits, and its decisions. Every function works on what the lanes of
the operands have brought so far. -/

namespace Sys2Proof.Machine

open Sys2Proof

/-! ### Prefixes and selection (03 R68, R72) -/

/-- Digit i of a stream: 0 for i < 1 and beyond the digits received (03 R68). -/
def digitAt (ds : List Int) (i : Int) : Int := if i < 1 then 0 else listGet 0 (i.toNat - 1) ds

/-- 16^j × A(j): the prefix of j digits as an integer. -/
def prefixInt (ds : List Int) : Nat → Int
  | 0 => 0
  | j + 1 => 16 * prefixInt ds j + digitAt ds (j + 1)

/-- floor(m × 16^x). -/
def floor16 (m x : Int) : Int := if 0 ≤ x then m * 16 ^ x.toNat else Int.fdiv m (16 ^ (-x).toNat)

/-- The sum of two integers times powers of 16. -/
def add16 (a b : Int × Int) : Int × Int :=
  let x := min a.2 b.2
  (a.1 * 16 ^ (a.2 - x).toNat + b.1 * 16 ^ (b.2 - x).toNat, x)

/-- clamp (03 R68). -/
def clampInt (v lo hi : Int) : Int := if v < lo then lo else if hi < v then hi else v

/-- sel of the residual (03 R68, R72): `f8` is floor(8 × 16^k × F), `zs` the digits already formed. -/
def selectDigit (zs : List Int) (f8 : Int) : Int :=
  clampInt (Int.fdiv (f8 - 128 * prefixInt zs zs.length + 4) 8) (-10) 10

/-! ### What is known of an operand -/

namespace ILane

/-- FINITE, ZERO, INF and NAN (03 R62). -/
def isFin (a : ILane) : Bool := a.cls == 0
def isZero (a : ILane) : Bool := a.cls == 1
def isInf (a : ILane) : Bool := a.cls == 2
def isNan (a : ILane) : Bool := a.cls == 3

/-- The lane has brought every digit it can bring: only its colophon may still come. -/
def full (a : ILane) : Bool := a.ended || a.dead || a.cls != 0 || a.p ≤ a.digits.length

/-- The index of the first nonzero digit received. -/
def firstNonzero (a : ILane) : Option Nat := (a.digits.findIdx? (· != 0)).map (· + 1)

/-- The sign of the value (03 R65): for a FINITE lane that of its first nonzero digit, or its zero sign when it is zero; none
while it is not known. -/
def valueSign (a : ILane) : Option Bool :=
  if !a.isFin then some a.sign
  else
    match a.firstNonzero with
    | some n => some (digitAt a.digits n < 0)
    | none => if a.ended then some a.sign else none

/-- Whether a FINITE lane's value is nonzero; none while it is not known. -/
def nonzero (a : ILane) : Option Bool :=
  if a.firstNonzero.isSome then some true else if a.ended then some false else none

/-- The prefix of j digits as an integer times a power of 16. -/
def prefixVal (a : ILane) (j : Nat) : Int × Int := if a.isFin then (prefixInt a.digits j, a.e - j) else (0, a.e - j)

end ILane

/-! ### Precision (03 R69) -/

/-- The output precision: the cap, else the least cap of the FINITE inputs, else the least P of all. -/
def outPrec (cap : Nat) (ins : List ILane) : Nat :=
  let least (l : List ILane) : Nat := l.foldl (fun m a => min m a.p) 20
  if cap != 0 then cap
  else
    let f := ins.filter ILane.isFin
    if f.isEmpty then least ins else least f

/-! ### Result heads (03 R71 to R74; 13 R249 to R257) -/

/-- What is known of a result head: nothing yet, the head, or a scale out of range (03 R67, SCALE_RANGE). -/
inductive HeadRes where
  | wait
  | out (h : Head)
  | range
  deriving DecidableEq, Repr

/-- A FINITE head of scale e, or what a scale out of range gives (03 R67). -/
def finiteHead (e : Int) (zs : Bool) (p seq : Nat) : HeadRes :=
  if 2047 < e then .range
  else if e < -2048 then .out ⟨1, zs, 0, p, seq⟩
  else .out ⟨0, zs, e, p, seq⟩

/-- A head of class ZERO, INF or NAN. -/
def classHead (cls : Nat) (sign : Bool) (p seq : Nat) : HeadRes := .out ⟨cls, cls != 3 && sign, 0, p, seq⟩

/-- ADD of classes, scales and signs (03 R71, R74). `a` and `b` carry class, sign and scale. -/
def addHead (ca : Nat) (sa : Bool) (ea : Int) (cb : Nat) (sb : Bool) (eb : Int) (p seq : Nat) : HeadRes :=
  if ca == 3 || cb == 3 then classHead 3 false p seq
  else if ca == 2 && cb == 2 then (if sa == sb then classHead 2 sa p seq else classHead 3 false p seq)
  else if ca == 2 then classHead 2 sa p seq
  else if cb == 2 then classHead 2 sb p seq
  else if ca == 1 && cb == 1 then classHead 1 (sa && sb) p seq
  else if ca == 1 then finiteHead (eb + 1) (sa && sb) p seq
  else if cb == 1 then finiteHead (ea + 1) (sa && sb) p seq
  else finiteHead (max ea eb + 1) (sa && sb) p seq

/-- The classes and signs that a product can still have by what is known of its inputs (03 R74): FINITE, ZERO, INF or NAN. -/
def productCases (a b : ILane) : List (Nat × Bool) :=
  let signs : List Bool := match a.valueSign, b.valueSign with
    | some x, some y => [x != y]
    | _, _ => [false, true]
  if a.isNan || b.isNan then [(3, false)]
  else if a.isFin && b.isFin then [(0, a.sign != b.sign)]
  else if a.isInf && b.isInf then [(2, a.sign != b.sign)]
  else if a.isInf || b.isInf then
    let x := if a.isInf then b else a
    if x.isZero then [(3, false)]
    else
      match x.nonzero with
      | none => (3, false) :: signs.map (fun s => (2, s))
      | some false => [(3, false)]
      | some true => signs.map (fun s => (2, s))
  else signs.map (fun s => (1, s))

/-- The head on which all that can still come agrees; it waits while there are several (03 R74). -/
def agreed : List HeadRes → HeadRes
  | [] => .wait
  | h :: hs => if hs.all (· == h) then h else .wait

/-- MUL (03 R72, R74). -/
def mulHead (a b : ILane) (p : Nat) : HeadRes :=
  agreed ((productCases a b).map (fun k => if k.1 == 0 then finiteHead (a.e + b.e) k.2 p a.seq else classHead k.1 k.2 p a.seq))

/-- FMA (03 R72, R74): the product's class by the MUL rows, then the ADD rows. -/
def fmaHead (a b c : ILane) (p : Nat) : HeadRes :=
  agreed ((productCases a b).map (fun k => addHead k.1 k.2 (a.e + b.e) c.cls c.sign c.e p a.seq))

/-- DIV (03 R72 to R74): the divisor is normalised by its first nonzero digit. -/
def divHead (a b : ILane) (p : Nat) : HeadRes :=
  if a.isNan || b.isNan then classHead 3 false p a.seq
  else if a.isInf && b.isInf then classHead 3 false p a.seq
  else
    let s : Option Bool := match a.valueSign, b.valueSign with
      | some x, some y => some (x != y)
      | _, _ => none
    let az := if a.isFin then a.nonzero else some (!a.isZero)
    let bz := if b.isFin then b.nonzero else some (!b.isZero)
    if a.isInf then
      match s with
      | none => .wait
      | some s => classHead 2 s p a.seq
    else if b.isInf then
      match s with
      | none => .wait
      | some s => classHead 1 s p a.seq
    else
      match bz with
      | none => .wait
      | some false =>
        match az with
        | none => .wait
        | some false => classHead 3 false p a.seq
        | some true =>
          match s with
          | none => .wait
          | some s => classHead 2 s p a.seq
      | some true =>
        if a.isZero then
          match s with
          | none => .wait
          | some s => classHead 1 s p a.seq
        else
          match b.firstNonzero with
          | none => .wait
          | some n => finiteHead (a.e - b.e + n + 1) (a.sign != b.sign) p a.seq

/-- SQRT's c (03 R72): 2 if ea − n + 1 is even, else 3. -/
def sqrtC (ea : Int) (n : Nat) : Nat := if (ea - n + 1) % 2 == 0 then 2 else 3

/-- SQRT (03 R72 to R74). -/
def sqrtHead (a : ILane) (p : Nat) : HeadRes :=
  if a.isNan then classHead 3 false p a.seq
  else if a.isInf then (if a.sign then classHead 3 false p a.seq else classHead 2 false p a.seq)
  else if a.isZero then classHead 1 a.sign p a.seq
  else
    match a.firstNonzero with
    | none => if a.ended then classHead 1 a.sign p a.seq else .wait
    | some n =>
      if digitAt a.digits n < 0 then classHead 3 false p a.seq
      else finiteHead ((a.e - n + 1 + sqrtC a.e n) / 2) a.sign p a.seq

/-- The precision of a pass-through operation (13 R249). -/
def passPrec (cap : Nat) (a : ILane) : Nat := if cap == 0 then a.p else min cap a.p

/-- A pass-through head with its own scale and sign. -/
def passHead (cap : Nat) (a : ILane) : HeadRes := .out ⟨a.cls, a.cls != 3 && a.sign, a.e, passPrec cap a, a.seq⟩

/-- SCALE (13 R251). -/
def scaleHead (cap : Nat) (shift : Int) (a : ILane) : HeadRes :=
  if a.isFin then finiteHead (a.e + shift) a.sign (passPrec cap a) a.seq else passHead cap a

/-! ### Decisions (13 R252) -/

/-- A side of a comparison: the value of its first j digits, its scale, and whether it carries more than j digits: `some` when
known. -/
structure Side where
  val : Nat → Int × Int
  e : Int
  more : Nat → Option Bool
  /-- digits consumed, or none when it needs none -/
  have_ : Option Nat

/-- A lane as a side (13 R252): a ZERO input counts as FINITE with no digits. -/
def ILane.side (a : ILane) : Side :=
  { val := a.prefixVal, e := a.e,
    more := fun j => if !a.isFin || a.p ≤ j then some false
      else if j < a.digits.length then some true else if a.ended then some false else none,
    have_ := if !a.isFin || a.ended then none else some a.digits.length }

/-- The threshold TM × 16^(TE − 4) as a side, whose tail is 0 (13 R256). -/
def thresholdSide (te tm : Int) : Side := { val := fun _ => (tm, te - 4), e := te, more := fun _ => some false, have_ := none }

/-- The sign of an integer. -/
def signOf (x : Int) : Int := if x < 0 then -1 else if 0 < x then 1 else 0

/-- The decision of two sides from digit j on, with what has been consumed (13 R252): digit and outcome. -/
def decideFrom (a b : Side) : Nat → Nat → Option (Nat × Int)
  | 0, _ => none
  | fuel + 1, j =>
    let ok (s : Side) : Bool := match s.have_ with
      | none => true
      | some n => j ≤ n
    if !ok a || !ok b then none
    else
      let nb := b.val j
      let d := add16 (a.val j) (-nb.1, nb.2)
      let tail (s : Side) (m : Bool) : Int × Int := if m then (2, s.e - j) else (0, s.e - j)
      let t := add16 (tail a ((a.more j).getD true)) (tail b ((b.more j).getD true))
      let known := (a.more j).isSome && (b.more j).isSome
      -- |D| ≥ t, with t in thirds
      let cmp := add16 (3 * (d.1.natAbs : Int), d.2) (-t.1, t.2)
      if (t.1 == 0 || 0 ≤ cmp.1) then some (j, signOf d.1)
      else if known then decideFrom a b fuel (j + 1)
      else none

/-- The decision between lanes a and b: classes at j = 0, then digits (13 R252). NAN is the caller's. -/
def decideLanes (a b : ILane) : Option (Nat × Int) :=
  if a.isInf && b.isInf then (if a.sign == b.sign then some (0, 0) else some (0, if a.sign then -1 else 1))
  else if a.isInf then some (0, if a.sign then -1 else 1)
  else if b.isInf then some (0, if b.sign then 1 else -1)
  else decideFrom a.side b.side 24 0

/-- The decision of THRK (13 R256): a ≥ θ, which holds for a NAN; none while it is not known. -/
def decideThreshold (te tm : Int) (a : ILane) : Option (Nat × Int) :=
  if a.isNan then some (0, 0)
  else if a.isInf then some (0, if a.sign then -1 else 1)
  else decideFrom a.side (thresholdSide te tm) 24 0

/-- MAX and MIN (13 R253): which input wins by class alone, when one does: 0 for A, 1 for B. -/
def maxClass (isMin : Bool) (a b : ILane) : Option Nat :=
  if a.isNan then some 1
  else if b.isNan then some 0
  else if a.isInf && b.isInf && a.sign == b.sign then some 0
  else if a.isInf then some (if a.sign == isMin then 0 else 1)
  else if b.isInf then some (if b.sign == isMin then 1 else 0)
  else none

/-- MAX and MIN (13 R253). -/
def maxHead (isMin : Bool) (cap : Nat) (a b : ILane) : HeadRes :=
  let p := outPrec cap [a, b]
  match maxClass isMin a b with
  | some 0 => if a.isFin then finiteHead a.e a.sign p a.seq else classHead a.cls a.sign p a.seq
  | some _ => if b.isFin then finiteHead b.e b.sign p a.seq else classHead b.cls b.sign p a.seq
  | none => finiteHead (max a.e b.e) (if isMin then a.sign || b.sign else a.sign && b.sign) p a.seq

/-! ### Digits -/

/-- Digit k of ADD (03 R71), with `neg` of SUB: every digit of b negated. -/
def addDigit (neg : Bool) (a b : ILane) (e : Int) (k : Nat) : Int :=
  let sum (i : Nat) : Int :=
    let x := if a.isFin then digitAt a.digits ((i : Int) - (e - a.e)) else 0
    let y := if b.isFin then digitAt b.digits ((i : Int) - (e - b.e)) else 0
    if neg then x - y else x + y
  let carry (i : Nat) : Int := if 10 ≤ sum i then 1 else if sum i ≤ -10 then -1 else 0
  sum k - 16 * carry k + carry (k + 1)

/-- floor(8 × 16^k × F(j)) of MUL (03 R72). -/
def mulF8 (a b : ILane) (k j : Nat) : Int :=
  floor16 (8 * (prefixInt a.digits j * prefixInt b.digits j)) ((k : Int) - 2 * j)

/-- The product term of FMA and DOT: A(j) × B(j) at its scale, 0 unless both are FINITE. -/
def productAt (a b : ILane) (j : Nat) : Int × Int :=
  if a.isFin && b.isFin then (prefixInt a.digits j * prefixInt b.digits j, a.e + b.e - 2 * j) else (0, 0)

/-- floor(8 × 16^k × F(j)) of FMA (03 R72). -/
def fmaF8 (a b c : ILane) (e : Int) (k j : Nat) : Int :=
  let s := add16 (productAt a b j) (if c.isFin then (prefixInt c.digits j, c.e - j) else (0, 0))
  floor16 (8 * s.1) (s.2 - e + k)

/-- floor(8 × 16^k × F(j)) of DIV (03 R72): b′ starts at the divisor's first nonzero digit n. -/
def divF8 (a b : ILane) (n k j : Nat) : Int :=
  let y := prefixInt (b.digits.drop (n - 1)) j
  if y == 0 then 0 else Int.fdiv (8 * 16 ^ k * prefixInt a.digits j) (256 * y)

/-- floor(8 × 16^k × F(j)) of SQRT (03 R72). -/
def sqrtF8 (a : ILane) (n k j : Nat) : Int :=
  let x := prefixInt (a.digits.drop (n - 1)) j
  let v := floor16 (64 * x) (2 * (k : Int) - j - sqrtC a.e n)
  (isqrt v.toNat : Int)

/-- floor(8 × 16^k × F(j)) of MAX and MIN (13 R253); `win` names the winner once it is decided. -/
def maxF8 (isMin : Bool) (win : Option Nat) (a b : ILane) (e : Int) (k j : Nat) : Int :=
  let x := a.prefixVal j
  let y := b.prefixVal j
  let d := add16 x (-y.1, y.2)
  let useA := match win with
    | some 0 => true
    | some _ => false
    | none => if isMin then d.1 ≤ 0 else 0 ≤ d.1
  let v := if useA then x else y
  floor16 (8 * v.1) (v.2 - e + k)

/-! ### DOT (13 R260) -/

/-- The lanes that a mask takes of two operands. -/
def dotPairs (mask : Nat) (a b : Nat → ILane) : List (ILane × ILane) :=
  ((List.range 4).filter (fun i => bit mask i)).map (fun i => (a i, b i))

/-- DOT's head where its products have classes and signs `cs`: by ADD across lanes. The zero sign of a FINITE sum is the and of the
lanes' sai xor sbi. -/
def dotOf (p seq : Nat) (ps : List (ILane × ILane)) (cs : List (Nat × Bool)) : HeadRes :=
  let infs := cs.filter (fun c => c.1 == 2)
  if cs.any (fun c => c.1 == 3) || (infs.any (fun c => c.2) && infs.any (fun c => !c.2)) then classHead 3 false p seq
  else match infs.head? with
  | some c => classHead 2 c.2 p seq
  | none =>
    let es := (ps.filter (fun x => x.1.isFin && x.2.isFin)).map (fun x => x.1.e + x.2.e)
    match es with
    | [] => classHead 1 (cs.all (fun c => c.2)) p seq
    | e :: r => finiteHead (r.foldl max e + 1) (ps.all (fun x => x.1.sign != x.2.sign)) p seq

/-- DOT's head: classes by MUL within a lane, by ADD across lanes; its precision is CAP or the least cap of the lanes taken. -/
def dotHead (cap seq : Nat) (ps : List (ILane × ILane)) : HeadRes :=
  let p := if cap != 0 then cap else (ps.flatMap (fun x => [x.1.p, x.2.p])).foldl min 20
  let all_ := ps.foldl (fun cs x => cs.flatMap (fun c => (productCases x.1 x.2).map (fun k => c ++ [k]))) [[]]
  agreed (all_.map (dotOf p seq ps))

/-- floor(8 × 16^k × F(j)) of DOT. -/
def dotF8 (ps : List (ILane × ILane)) (e : Int) (k j : Nat) : Int :=
  let s := ps.foldl (fun s x => add16 s (productAt x.1 x.2 j)) (0, 0)
  floor16 (8 * s.1) (s.2 - e + k)

/-! ### CONVI and ACC digits (03 R75) -/

/-- The digits of |m × 2^x| at scale e, i.e. of |v| ÷ 16^e, by the expansion with transfers (03 R75): digits 1 to p, and whether the
value overflows the scale. -/
def recodeDigits (m : Nat) (x : Int) (e : Int) (p : Nat) : List Int × Bool :=
  -- floor(|v| ÷ 16^e × 16^p)
  let y := x - 4 * e + 4 * p
  let n := if 0 ≤ y then m * 2 ^ y.toNat else m / 2 ^ (-y).toNat
  let r := (List.range p).foldl (fun (r : List Int × Nat × Nat) _ =>
    let d := r.2.1 % 16 + r.2.2
    if 10 < d then (((d : Int) - 16) :: r.1, r.2.1 / 16, 1) else ((d : Int) :: r.1, r.2.1 / 16, 0)) ([], n, 0)
  (r.1, r.2.1 != 0 || r.2.2 == 1)

/-- The AUTO scale of a nonzero magnitude m × 2^x (03 R75): the least e with |v| < 16^(e − 1). -/
def autoScale (m : Nat) (x : Int) : Int :=
  -- bits of the value: v < 2^(log2 m + 1 + x)
  let t : Int := (Nat.log2 m : Int) + 1 + x
  (t + 3) / 4 + 1

/-- The head and digits of a magnitude with a sign (03 R75): at the AUTO scale or a fixed one. -/
def recode (neg : Bool) (m : Nat) (x : Int) (auto : Bool) (ef : Int) (p seq : Nat) (zsign : Bool) : HeadRes × List Int :=
  let e := if auto then autoScale m x else ef
  let r := recodeDigits m x e p
  if r.2 then (classHead 2 neg p seq, [])
  else
    let ds := if neg then r.1.map (fun d => -d) else r.1
    if 2047 < e then (.range, [])
    else if e < -2048 then (classHead 1 zsign p seq, [])
    else (.out ⟨0, zsign, e, p, seq⟩, ds)

/-- A word of a conversion format as an exact value: codes 0 to 8 floating, 9 to 12 signed, 13 to 16 unsigned (13 R263). -/
def convFmt (code : Nat) : Option Fmt :=
  match code with
  | 0 => some fp64
  | 1 => some fp32
  | 2 => some fp16
  | 3 => some bf16
  | 4 => some e5m2
  | 5 => some e4m3
  | 6 => some e3m2
  | 7 => some e2m3
  | 8 => some e2m1
  | _ => none

/-- The width in bits of a conversion format (13 R263). -/
def convWidth (code : Nat) : Nat :=
  match code with
  | 0 | 9 | 13 => 64
  | 1 | 10 | 14 => 32
  | 2 | 3 | 11 | 15 => 16
  | 4 | 5 | 12 | 16 => 8
  | 6 | 7 => 6
  | _ => 4

/-- The exact value of a word of a conversion format. -/
def convValue (code v : Nat) : Fp :=
  match convFmt code with
  | some f => Fp.of f v
  | none =>
    let n := convWidth code
    let x := low v n
    if code ≤ 12 && bit x (n - 1) then .fin true (2 ^ n - x) 0 else .fin false x 0

/-- A value rounded to a conversion format in a mode (03 R58, R60); the saturating option is that of E5M2 and E4M3. -/
def convTo (code : Nat) (sat : Bool) (rm : Nat) (x : Fp) : Nat :=
  match convFmt code with
  | some f => (fpConvert f (sat && (code == 4 || code == 5)) rm x).1
  | none => (fpToInt (convWidth code) (code ≤ 12) rm x).1

/-- CONVI of one value (13 R261; 03 R75). -/
def conviHead (code : Nat) (auto : Bool) (ef : Int) (p seq v : Nat) : HeadRes × List Int :=
  match convValue code v with
  | .nan _ => (classHead 3 false p seq, [])
  | .inf n => (classHead 2 n p seq, [])
  | .fin n 0 _ => (classHead 1 n p seq, [])
  | .fin n m e => recode n m e auto ef p seq (n && code ≤ 8)

/-- The exact value of a stream as significand and exponent of two (03 R65, R76). -/
def streamFp (a : ILane) : Fp :=
  if a.isNan then .nan false
  else if a.isInf then .inf a.sign
  else if a.isZero then .fin a.sign 0 0
  else
    let n := a.digits.length
    let v := prefixInt a.digits n
    if v == 0 then .fin a.sign 0 0 else .fin (v < 0) v.natAbs (4 * (a.e - n))

/-! ### Tables (03 R82 to R84) -/

/-- Little-endian number of `n` bytes of a table from byte `o`. -/
def tableNat (t : List Nat) (o : Nat) : Nat → Nat
  | 0 => 0
  | n + 1 => listGet 0 o t + 256 * tableNat t (o + 1) n

/-- A signed 16-bit number. -/
def signed16 (x : Nat) : Int := if x < 2 ^ 15 then (x : Int) else (x : Int) - 2 ^ 16

/-- An FP32 word of a table as an integer times a power of two. -/
def tableVal (t : List Nat) (o : Nat) : Int × Int :=
  match Fp.of fp32 (tableNat t o 4) with
  | .fin n m e => (sgn n m, e)
  | _ => (0, 0)

/-- A table's header: b_lo, nb, MONO, e_T. -/
structure TableHead where
  blo : Int
  nb : Nat
  mono : Nat
  esc : Int

/-- The header of a table image. -/
def tableHead (t : List Nat) : TableHead :=
  { blo := signed16 (tableNat t 0 2), nb := listGet 0 2 t % 8 + 1, mono := listGet 0 3 t % 4, esc := signed16 (tableNat t 4 2) }

/-- The sum of two integers times powers of two. -/
def add2 (a b : Int × Int) : Int × Int := exactAdd a.1 a.2 b.1 b.2

/-- The product of two integers times powers of two. -/
def mul2 (a b : Int × Int) : Int × Int := (a.1 * b.1, a.2 + b.2)

/-- Whether the first value is below the second. -/
def lt2 (a b : Int × Int) : Bool := (add2 a (-b.1, b.2)).1 < 0

/-- Start of segment i, and log2 of its length h (03 R83). -/
def segment (h : TableHead) (i : Nat) : (Int × Int) × Int :=
  let bhi := h.blo + h.nb - 1
  if i < 32 * h.nb then
    let b := bhi - (i / 32 : Nat)
    let s := 31 - i % 32
    ((-(32 + s + 1 : Nat), b - 5), b - 5)
  else if i == 32 * h.nb then ((-1, h.blo), h.blo + 1)
  else
    let j := i - 32 * h.nb - 1
    let b := h.blo + (j / 32 : Nat)
    (((32 + j % 32 : Nat), b - 5), b - 5)

/-- The coefficient `c` of segment i. -/
def coeff (t : List Nat) (i c : Nat) : Int × Int := tableVal t (32 + 12 * i + 4 * c)

/-- The start value of the region after segment i: the next segment's c0, or VPOS (03 R83). -/
def nextStart (t : List Nat) (h : TableHead) (i : Nat) : Int × Int :=
  if i + 1 < 64 * h.nb + 1 then coeff t (i + 1) 0 else tableVal t 12

/-- The last segment whose start is not above x. -/
def findSegment (h : TableHead) (x : Int × Int) : Nat :=
  ((List.range (64 * h.nb + 1)).filter (fun i => !lt2 x (segment h i).1)).getLast?.getD 0

/-- LUTF's y for a FINITE or ZERO input x (03 R84). -/
def tableY (t : List Nat) (x : Int × Int) : Int × Int :=
  let h := tableHead t
  let bhi := h.blo + h.nb - 1
  if lt2 x (-1, bhi + 1) then tableVal t 8
  else if !lt2 x (1, bhi + 1) then tableVal t 12
  else
    let i := findSegment h x
    let s := segment h i
    let d := add2 x (-s.1.1, s.1.2)
    let u : Int × Int := (d.1, d.2 - s.2)
    let y := add2 (coeff t i 0) (add2 (mul2 (coeff t i 1) u) (mul2 (coeff t i 2) (mul2 u u)))
    if h.mono == 0 then y
    else
      let a := coeff t i 0
      let b := nextStart t h i
      let lo := if lt2 a b then a else b
      let hi := if lt2 a b then b else a
      if lt2 y lo then lo else if lt2 hi y then hi else y

/-- LUTF's input value: the first six digits of the stream (03 R84), as an integer times a power of two. -/
def tableInput (a : ILane) : Int × Int := if a.isFin then (prefixInt a.digits 6, 4 * (a.e - 6)) else (0, 0)

/-- LUTF's value for a lane; none for NAN. -/
def tableValue (t : List Nat) (a : ILane) : Option (Int × Int) :=
  if a.isNan then none
  else if a.isInf then some (tableVal t (if a.sign then 8 else 12))
  else some (tableY t (tableInput a))

/-- floor(8 × 16^k × y ÷ 16^e_T). -/
def tableF8 (y : Int × Int) (esc : Int) (k : Nat) : Int :=
  let x := y.2 + 4 * ((k : Int) - esc)
  if 0 ≤ x then 8 * y.1 * 2 ^ x.toNat else Int.fdiv (8 * y.1) (2 ^ (-x).toNat)

end Sys2Proof.Machine
end

