-- ==== Sys2Proof/Machine/Fabric.lean ====
section
/-! DEFINITION. The fabric's elements and channels (07 R154 to R166; 13 R243 to R245, R265 to R267; 15 R277 to R280; 01 R38): planes
and slots, where a channel leads and how many flits it holds, taking and emitting flits, kills, kettles, region errors. -/

namespace Sys2Proof.Machine

open Sys2Proof

/-! ### Elements, planes and slots -/

/-- The kind of an element by its column (00 R7), as CTLL codes it (07 R155): 0 OE, 1 ME, 2 MB, 3 SP, 4 UE. -/
def kindOf (e : Nat) : Nat :=
  match e % 16 with
  | 0 => 3
  | 7 => 1
  | 8 => 4
  | 15 => 2
  | _ => 0

/-- The staging base of an element (07 R157). -/
def basePlane (e : Nat) : Plane := { ctll := kindOf e * 2 ^ 13 }

/-- An element at placement before its image is loaded. -/
def baseElem (e : Nat) : Elem := { planeA := basePlane e, planeB := basePlane e }

namespace Plane

/-- II (07 R155). -/
def ii (p : Plane) : Nat := bits p.ctll 8 4 + 1

/-- Fixed-rate firing (01 R43). -/
def fixr (p : Plane) : Bool := bit p.ctll 7

/-- The context word of slot s. -/
def word (p : Plane) (s : Nat) : Nat := mapGet 1 s p.ctx

/-- The slots below II whose IDLE bit is 0 (13 R243). -/
def slots (p : Plane) : List Nat := (List.range p.ii).filter (fun s => !bit (p.word s) 0)

/-- LINKS count of input port `port` (07 R155). -/
def link (p : Plane) (port : Nat) : Nat := bits p.links (3 * port) 3

/-- The fixed input count and output count of a port (07 R155). -/
def rateIn (p : Plane) (port : Nat) : Nat := bits p.ctlh (2 * port) 2 + 1
def rateOut (p : Plane) (port : Nat) : Nat := bits p.ctlh (8 + 2 * port) 2 + 1

end Plane

/-- A slot of an element in a plane: its context word and the parameter word in the slot after it (07 R160 to R166). -/
structure Slot where
  tile : Nat
  elem : Nat
  s : Nat
  kind : Nat
  cw : Nat
  pw : Nat
  deriving DecidableEq, Repr

namespace Slot

/-- The operation code; of an ME its OP field. -/
def opc (S : Slot) : Nat :=
  match S.kind with
  | 0 => bits S.cw 26 6
  | 1 => bits S.cw 19 2
  | 3 => bits S.cw 28 4
  | _ => bits S.cw 27 5

/-- ROUTE (07 R160). -/
def route (S : Slot) : Nat :=
  match S.kind with
  | 0 => bits S.cw 7 8
  | 1 => bits S.cw 2 8
  | 4 => bits S.cw 2 8
  | _ => bits S.cw 10 8

/-- The ports of ROUTE: 0 to 3 N E S W, 4 LOC, 5 SINK. -/
def ports (S : Slot) : List Nat := (List.range 6).filter (fun p => bit S.route p)

/-- The selects of its operands A, B and C, or of an ME its fixed ports; 7 for one it does not take. -/
def sels (S : Slot) : List Nat :=
  match S.kind with
  | 0 => [bits S.cw 18 3, bits S.cw 15 3, if S.opc == 4 || S.opc == 15 then bits S.pw 1 3 else 7]
  | 1 => if S.opc == 0 then [3, 2, 0, 1] else if S.opc == 1 then [3, 2] else []
  | 2 => [bits S.cw 21 3, bits S.cw 18 3, if S.opc == 8 then bits S.pw 1 3 else 7]
  | 3 => [if S.opc == 0 then 7 else bits S.cw 18 3]
  | _ => [bits S.cw 13 3, bits S.cw 10 3]

/-- The channel and CTL inputs that its selects name (01 R38). -/
def inputs (S : Slot) : List Nat := (S.sels.filter (fun x => x < 4 || x == 5)).eraseDups

/-- The selects that bring it flits: channels, LOC and CTL. -/
def taken (S : Slot) : List Nat := (S.sels.filter (· < 6)).eraseDups

/-- KILLSTOP; an ME forwards no kill (13 R271), an MB sends none, SPAWN acts as if it were set (15 R300). -/
def killstop (S : Slot) : Bool :=
  match S.kind with
  | 1 => true
  | 2 => true
  | 4 => bit S.cw 1 || S.opc == 3
  | _ => bit S.cw 1

/-- Its inputs bring word streams, of which each colophon ends one (15 R277): all but OE, KETTLE, DIGEST and PROBE. -/
def wordly (S : Slot) : Bool := S.kind != 0 && !(S.kind == 4 && (S.opc == 4 || S.opc == 9 || S.opc == 10))

/-- A source slot (15 R316): LDS and SEQ. -/
def source (S : Slot) : Bool := (S.kind == 3 && S.opc == 0) || (S.kind == 4 && S.opc == 6)

/-- A sink (15 R280). -/
def isSink (S : Slot) : Bool := S.sels.any (· != 7) && S.route % 32 == 0

/-- The number of a sink within a region. -/
def key (S : Slot) : Nat := S.tile * 4096 + S.elem * 16 + S.s

/-- The op tag of what it emits (13 R245). -/
def tag (S : Slot) : Nat := S.s % 4

end Slot

/-- The slot number s of an element in a plane. -/
def mkSlot (t e : Nat) (p : Plane) (s : Nat) : Slot :=
  { tile := t, elem := e, s := s, kind := kindOf e, cw := p.word s, pw := p.word (s + 1) }

/-- A kettle (15 R277). -/
def Flit.isKettle (f : Flit) : Bool := f.kind == 3 && f.mask == 0

/-- The colophon of a word stream (15 R277) with its flags. -/
def wordColophon (cut last mark : Bool) : Flit :=
  { kind := 3, tag := 0, mask := 1,
    payload := (if cut then 2 ^ 31 else 0) + (if last then 2 ^ 30 else 0) + (if mark then 2 ^ 29 else 0) }

/-- The flags that a word-stream consumer reads from a colophon (15 R277): CUT in every lane of the mask, LAST and DIGEST_MARK in
any. -/
def Flit.flags (f : Flit) : Bool × Bool × Bool :=
  let ls := (List.range 16).filter (fun l => bit f.mask l)
  (ls.all (fun l => bit f.payload (32 * l + 31)), ls.any (fun l => bit f.payload (32 * l + 30)),
   ls.any (fun l => bit f.payload (32 * l + 29)))

namespace Work

/-- Element `e` of tile `t`. -/
def elem (w : Work) (t e : Nat) : Elem := mapGet (baseElem e) (t * 256 + e) w.core.elems

/-- Replace element `e` of tile `t`. -/
def setElem (w : Work) (t e : Nat) (x : Elem) : Work :=
  { w with core := { w.core with elems := mapSet (t * 256 + e) x w.core.elems } }

/-- Replace region number `r`. -/
def setRegion (w : Work) (r : Nat) (x : Region) : Work :=
  { w with core := { w.core with regions := mapSet r x w.core.regions } }

/-- Change the region that holds tile `t`. -/
def onRegion (w : Work) (t : Nat) (f : Region → Region) : Work :=
  match (w.tile t).region with
  | none => w
  | some r =>
    match mapFind r w.core.regions with
    | none => w
    | some x => w.setRegion r (f x)

/-- The active plane of an element (01 R34). -/
def activePlane (w : Work) (t e : Nat) : Plane :=
  match w.regionOf t with
  | none => (w.elem t e).planeA
  | some r => if r.activeB then (w.elem t e).planeB else (w.elem t e).planeA

/-- The active slots of an element. -/
def elemSlots (w : Work) (t e : Nat) : List Slot :=
  let p := w.activePlane t e
  p.slots.map (mkSlot t e p)

/-- The operation in progress in a slot. -/
def op (w : Work) (S : Slot) : SlotOp := mapGet {} S.s (w.elem S.tile S.elem).ops

/-- Replace the operation in progress in a slot. -/
def setOp (w : Work) (S : Slot) (x : SlotOp) : Work :=
  let e := w.elem S.tile S.elem
  w.setElem S.tile S.elem { e with ops := mapSet S.s x e.ops }

/-- Change the element of a slot. -/
def onElem (w : Work) (S : Slot) (f : Elem → Elem) : Work := w.setElem S.tile S.elem (f (w.elem S.tile S.elem))

/-! ### Channels (15 R279) -/

/-- The tile across the edge in direction `dir`, or none at the package's edge. -/
def tileAcross (t dir : Nat) : Option Nat :=
  match dir with
  | 0 => if t < 16 then none else some (t - 16)
  | 1 => if t % 16 == 15 then none else some (t + 1)
  | 2 => if 144 ≤ t then none else some (t + 16)
  | _ => if t % 16 == 0 then none else some (t - 1)

/-- Where a channel that leaves tile `t` in direction `dir` enters a live tile, with its crossings' slots: 1 for a tile edge, 4
for a pass-through tile, 8 for a die boundary between gang members (15 R279; 01 R32). The boundary lies on a tile edge, and its 8 come
on top of the edge's 1, as "crossings add to one another" (DEDUCED, log 51). -/
def crossTo (w : Work) (r : Nat) (x : Region) (dir : Nat) : Nat → Nat → Nat → Option (Nat × Nat)
  | 0, _, _ => none
  | fuel + 1, t, extra =>
    match tileAcross t dir with
    | none => none
    | some u =>
      match (w.tile u).region with
      | none => none
      | some q =>
        if q == r then
          (if x.live.contains u then some (u, extra + 1) else crossTo w r x dir fuel u (extra + 5))
        else
          match mapFind q w.core.regions with
          | none => none
          | some y =>
            if x.gang != 0 && y.gang == x.gang && (y.node.map (·.1)) == (x.node.map (·.1)) && y.die != x.die then
              (if y.live.contains u then some (u, extra + 9) else crossTo w q y dir fuel u (extra + 13))
            else none

/-- The boundary that joins two dies: 0 for dies 0 and 1, 1 for 0 and 2, 2 for 1 and 3, 3 for 2 and 3 (00 R5; DESIGN CHOICE, log 32). -/
def boundaryOf (a b : Nat) : Nat :=
  match min a b, max a b with
  | 0, 1 => 0
  | 0, _ => 1
  | 1, _ => 2
  | _, _ => 3

/-- The boundary between the dies of two tiles is fenced: 25 or more of its modules are (23 R423). -/
def boundaryFenced (w : Work) (t u : Nat) : Bool :=
  dieOf t != dieOf u && 25 ≤ (w.core.modules.filter (fun m => m / 48 == boundaryOf (dieOf t) (dieOf u))).length

/-- The element in the given direction, with the crossings' slots on the way: none beyond the footprint. -/
def neighbour (w : Work) (t e dir : Nat) : Option (Nat × Nat × Nat) :=
  let ex := e % 16
  let ey := e / 16
  let inside : Option Nat := match dir with
    | 0 => if ey == 0 then none else some (e - 16)
    | 1 => if ex == 15 then none else some (e + 1)
    | 2 => if ey == 15 then none else some (e + 16)
    | _ => if ex == 0 then none else some (e - 1)
  match inside with
  | some e' => some (t, e', 0)
  | none =>
    match (w.tile t).region with
    | none => none
    | some r =>
      match mapFind r w.core.regions with
      | none => none
      | some x =>
        match w.crossTo r x dir 16 t 0 with
        | none => none
        | some (u, extra) =>
          some (u, (match dir with
            | 0 => 240 + ex
            | 1 => ey * 16
            | 2 => ex
            | _ => ey * 16 + 15), extra)

/-- The opposite direction: the input port that a route reaches, and the route that feeds an input port. -/
def opposite (dir : Nat) : Nat := (dir + 2) % 4

/-- Flits that a channel into input `port` of an element holds. -/
def held (x : Elem) (port : Nat) : Nat := (mapGet [] port x.ins).length + (mapGet [] port x.cross).length

/-- Free slots of the channel that leaves by route `port` (15 R279): a channel of no slots has room for one flit, which its
consumer must take in the same event (13 R243). -/
def freeSlots (w : Work) (t e port : Nat) : Nat :=
  match w.neighbour t e port with
  | none => 1
  | some (u, f, extra) =>
    let cap := (w.activePlane u f).link (opposite port) + extra
    (if cap == 0 then 1 else cap) - held (w.elem u f) (opposite port)

/-- Put a flit into the channel that leaves by route `port`. -/
def pushFlit (w : Work) (t e port : Nat) (f : Flit) : Work :=
  match w.neighbour t e port with
  | none => w
  | some (u, g, extra) =>
    let x := w.elem u g
    let i := opposite port
    if extra == 0 then w.setElem u g { x with ins := mapSet i (mapGet [] i x.ins ++ [f]) x.ins }
    else w.setElem u g { x with cross := mapSet i (mapGet [] i x.cross ++ [(f, w.now + extra)]) x.cross }

/-- A flit in a crossing slot arrives at its input (15 R279). -/
def crossingArrival (w : Work) (t e port : Nat) : Option Work :=
  let x := w.elem t e
  match mapGet [] port x.cross with
  | [] => none
  | (f, due) :: rest =>
    let q := mapGet [] port x.ins
    if due ≤ w.now && q.length < max 1 ((w.activePlane t e).link port) then
      some (w.setElem t e { x with cross := mapSet port rest x.cross, ins := mapSet port (q ++ [f]) x.ins })
    else none

/-- The queue at an input of an element: a channel's, or the CTL input's. -/
def queueAt (x : Elem) (sel : Nat) : List Flit :=
  if sel < 4 then mapGet [] sel x.ins else if sel == 5 then x.ctl else if sel == 4 then x.loc.toList else []

/-- The flit at the head of an input, none when there is none or a kettle stands there. -/
def headAt (w : Work) (S : Slot) (sel : Nat) : Option Flit :=
  match queueAt (w.elem S.tile S.elem) sel with
  | [] => none
  | f :: _ => if f.isKettle then none else some f

/-- A kettle stands at the head of an input. -/
def kettleAt (w : Work) (S : Slot) (sel : Nat) : Bool :=
  match queueAt (w.elem S.tile S.elem) sel with
  | [] => false
  | f :: _ => f.isKettle

/-- An element without the flit at the head of an input. -/
def dropHead (x : Elem) (sel : Nat) : Elem :=
  if sel < 4 then { x with ins := mapSet sel ((mapGet [] sel x.ins).drop 1) x.ins }
  else if sel == 5 then { x with ctl := x.ctl.drop 1 }
  else if sel == 4 then { x with loc := none }
  else x

/-- Take the flit at the head of an input: its tag and stream are those under way there (13 R266) until a word stream's colophon, its
arming is the slot's (21 R399). -/
def takeAt (w : Work) (S : Slot) (sel : Nat) : Work :=
  match w.headAt S sel with
  | none => w
  | some f =>
    let w := w.onElem S (fun x => dropHead x sel)
    let u := (w.op S).under
    w.setOp S { w.op S with under := if f.kind == 3 && S.wordly then mapDel sel u else mapSet sel (f.tag, f.sid) u, arm := f.arm }

/-! ### Emission (13 R243, R245; 03 R64) -/

/-- The routes that still take flits: those that no kill has made dead (13 R265, R267). -/
def liveRoutes (w : Work) (S : Slot) : List Nat := S.ports.filter (fun p => !(w.op S).dead.contains p)

/-- Every route of the slot but SINK is dead, and it has one (13 R267). -/
def allDead (w : Work) (S : Slot) : Bool :=
  let r := S.ports.filter (· != 5)
  !r.isEmpty && !bit S.route 5 && r.all (fun p => (w.op S).dead.contains p)

/-- A route has room for one flit (13 R243); with fixed rates, for as many as they say (01 R43). -/
def roomOn (w : Work) (S : Slot) (fixed : Bool) (port : Nat) : Bool :=
  if port < 4 then
    (if fixed then (w.activePlane S.tile S.elem).rateOut port else 1) ≤ w.freeSlots S.tile S.elem port
  else if port == 4 then (w.elem S.tile S.elem).loc.isNone
  else true

/-- The digit count of a lane on a route. -/
def routedOn (x : SlotOp) (port lane : Nat) : Nat := mapGet 0 (port * 4 + lane) x.routed

/-- A colophon as it leaves on a route: each lane carries the digits that left on that route, and CUT on a dead route (03 R64). -/
def colophonOn (x : SlotOp) (port : Nat) (f : Flit) : Flit :=
  (List.range 4).foldl (fun f l =>
    if !bit f.mask l then f
    else
      let v := bits f.payload (32 * l) 32
      let cut := bit v 31 || x.dead.contains port
      let v' := (if cut then 2 ^ 31 else 0) + bits v 29 2 * 2 ^ 29 + routedOn x port l * 2 ^ 24
      { f with payload := f.payload - v * 2 ^ (32 * l) + v' * 2 ^ (32 * l) }) f

/-- Put a flit on one route of a slot. -/
def emitOn (w : Work) (S : Slot) (f : Flit) (port : Nat) : Work :=
  let x := w.op S
  let f := if f.kind == 3 then colophonOn x port f else f
  let routed :=
    if f.kind == 1 then (List.range 4).foldl (fun m l =>
      if bit f.mask l then mapSet (port * 4 + l) (routedOn x port l + 1) m else m) x.routed
    else if f.kind == 3 then (List.range 4).foldl (fun m l => if bit f.mask l then mapDel (port * 4 + l) m else m) x.routed
    else x.routed
  let w := w.setOp S { x with routed := routed }
  if port < 4 then w.pushFlit S.tile S.elem port f
  else if port == 4 then w.onElem S (fun e => { e with loc := some f })
  else w.onElem S (fun e => { e with sink := f, sinkValid := true })

/-- The routes that a flit takes: a colophon goes on every one, so that a consumer's discarding ends (13 R266, R267). -/
def routesOf (w : Work) (S : Slot) (f : Flit) : List Nat := if f.kind == 3 then S.ports else w.liveRoutes S

/-- Emit a flit on the routes of a slot (13 R245). -/
def emitFlit (w : Work) (S : Slot) (f : Flit) : Work :=
  let f := { f with tag := S.tag, sid := (w.op S).sid, arm := (w.op S).arm }
  (w.routesOf S f).foldl (fun w p => w.emitOn S f p) w

/-! ### Errors and kills -/

/-- The latest arming made in the region of a tile. -/
def lastArm (w : Work) (t : Nat) : Nat := (w.regionOf t).elim 0 (fun r => r.arms - 1)

/-- A record of an asynchronous region error (21 R399), for an element by its op tag, with the lanes and the arming concerned. -/
def elementError (w : Work) (t e tag kind lanes arm : Nat) : Work :=
  w.onRegion t (fun r =>
    if 8 ≤ r.errq.length then { r with lost := min (r.lost + 1) 0xFFFF }
    else
      let slot := (r.live.findIdx? (· == t)).getD 0
      let rec_ := kind * 2 ^ 56 + lanes * 2 ^ 48 + slot * 2 ^ 44 + e * 2 ^ 36 + tag * 2 ^ 34 + r.lost * 2 ^ 16 + arm % 2 ^ 16
      { r with errq := r.errq ++ [BitVec.ofNat 64 rec_], lost := 0 })

/-- A region error of a slot: it names the slot's own op tag, not the flit's (DESIGN CHOICE, log 52), and the arming that it works for. -/
def slotError (w : Work) (S : Slot) (kind lanes : Nat) : Work := w.elementError S.tile S.elem S.tag kind lanes (w.op S).arm

/-- Send kill on an input with the tag of the stream under way there (13 R266, R267), unless there is none, KILLSTOP is set, or the input
has no producer. -/
def sendKill (w : Work) (S : Slot) (sel : Nat) : Work :=
  match if S.killstop then none else mapFind sel (w.op S).under with
  | none => w
  | some u =>
    let k : Option Kill :=
      if sel < 4 then (w.neighbour S.tile S.elem sel).map (fun n => ⟨n.1, n.2.1, opposite sel, u.1, u.2, w.now⟩)
      else if sel == 4 then some ⟨S.tile, S.elem, 4, u.1, u.2, w.now⟩
      else none
    match k with
    | none => w
    | some k => { w with core := { w.core with kills := w.core.kills ++ [k] } }

/-- An input is discarded up to the colophon of its stream (13 R244, R266): an entry is the select. -/
def discardInput (w : Work) (S : Slot) (sel : Nat) : Work :=
  let x := w.op S
  if x.discard.contains sel then w else w.setOp S { x with discard := x.discard ++ [sel] }

/-- An input that becomes dead is discarded, and its producer is told (13 R267). -/
def killInput (w : Work) (S : Slot) (sel : Nat) : Work :=
  if sel == 7 || sel == 6 || (w.op S).discard.contains sel then w else (w.discardInput S sel).sendKill S sel

/-! ### Kettles (01 R38; 15 R277, R280, R317) -/

/-- The full number of a kettle whose flit carries it mod 65,536. -/
def kettleNumber (latest payload : Nat) : Nat := latest - (latest - payload) % 0x10000

/-- The latest kettle injected into the region of tile `t`. -/
def latestKettle (w : Work) (t : Nat) : Nat :=
  match w.regionOf t with
  | none => 0
  | some r => r.kettle

/-- The first kettle in the queue of an input: its place and number. -/
def kettleIn (w : Work) (S : Slot) (sel : Nat) : Option (Nat × Nat) :=
  let q := queueAt (w.elem S.tile S.elem) sel
  match q.findIdx? Flit.isKettle with
  | none => none
  | some i => some (i, kettleNumber (w.latestKettle S.tile) (bits ((q.drop i).headD ⟨0, 0, 0, 0, 0, 0⟩).payload 0 16))

/-- A kettle reaches a sink; when it has reached every one, the region is drained, and ports that an error had halted run again
(15 R280, R309). -/
def sinkReached (w : Work) (S : Slot) (n : Nat) : Work :=
  match w.regionOf S.tile with
  | none => w
  | some r =>
    if n != r.kettle then w
    else
      let sinks := r.sinks.filter (· != S.key)
      let w := w.onRegion S.tile (fun r => { r with sinks := sinks })
      if sinks.isEmpty && !r.armedSince then
        { w with core := { w.core with elems := w.core.elems.map (fun x =>
            if r.live.contains (x.1 / 256) then
              (x.1, { x.2 with ops := x.2.ops.map (fun o => (o.1, { o.2 with halted := o.2.barred })) }) else x) } }
      else w

/-- The kettle that a slot may forward now (01 R38): `needs` are the inputs its next step takes, `busy` says that something it
received has still to be processed. The number, if there is one. -/
def kettleReady (w : Work) (S : Slot) (needs : List Nat) (busy pending : Bool) : Option Nat :=
  let x := w.op S
  if pending then none
  else if S.source then
    match x.agenda with
    | .kettle n :: _ => if x.busy then none else some n
    | _ => none
  else
    let n := x.kettle + 1
    if w.latestKettle S.tile < n then none
    else
      let locs := (w.elemSlots S.tile S.elem).filter (fun T => T.s != S.s && bit T.route 4)
      let locDone := locs.all (fun T => n ≤ (w.op T).kettle)
      let stuck := needs.any (fun p => w.kettleAt S p || (p == 4 && (w.elem S.tile S.elem).loc.isNone && locDone))
      let at_ := S.inputs.map (fun p => w.kettleIn S p)
      if busy && !stuck then none
      else if S.inputs.isEmpty then
        (if locDone && (stuck || (w.elem S.tile S.elem).loc.isNone || !S.sels.contains 4) then some n else none)
      else if at_.all (fun a => match a with
          | none => false
          | some a => n ≤ a.2 && (a.1 == 0 || stuck)) then some n
      else none

/-- A slot forwards kettle n (01 R38): on the ports where it is the last of the slots that share them, and at a sink it ends. -/
def forwardKettle (w : Work) (S : Slot) (n : Nat) : Option Work :=
  let others := (w.elemSlots S.tile S.elem).filter (fun T => T.s != S.s)
  let out := (S.ports.filter (· < 4)).filter (fun p => (others.filter (fun T => bit T.route p)).all (fun T => n ≤ (w.op T).kettle))
  if !out.all (fun p => w.roomOn S false p) then none
  else
    let f : Flit := { kind := 3, tag := 0, mask := 0, payload := n % 0x10000 }
    let w := out.foldl (fun w p => w.pushFlit S.tile S.elem p f) w
    let x := w.op S
    let w := w.setOp S { x with kettle := n, agenda := if S.source then x.agenda.drop 1 else x.agenda }
    let w := if S.kind == 4 && S.opc == 4 then w.onElem S (fun e => { e with count := (e.count + 1) % 2 ^ 32 }) else w
    some (if S.isSink then w.sinkReached S n else w)

/-- A kettle that every slot naming an input has passed leaves it (01 R38). -/
def clearKettles (w : Work) (t e : Nat) : Work :=
  [0, 1, 2, 3, 5].foldl (fun w sel =>
    let ss := (w.elemSlots t e).filter (fun S => !S.source && S.inputs.contains sel)
    match ss with
    | [] => w
    | S :: _ =>
      match w.kettleIn S sel with
      | none => w
      | some (i, n) =>
        if ss.all (fun T => n ≤ (w.op T).kettle) then
          let x := w.elem t e
          if sel < 4 then w.setElem t e { x with ins := mapSet sel (listErase i (mapGet [] sel x.ins)) x.ins }
          else w.setElem t e { x with ctl := listErase i x.ctl }
        else w) w

end Work

end Sys2Proof.Machine
end

