-- ==== Sys2Proof/Machine/Online.lean ====
section
/-! DEFINITION. A firing of an online element (13 R246 to R270): its operands' lanes, decisions, output heads, digits and colophons,
words in and words out. Element errors follow 03 R67. -/

namespace Sys2Proof.Machine

open Sys2Proof

/-! ### Flits of digit streams (03 R61 to R64) -/

/-- KIND of an element error (21 R399). -/
def errDigit : Nat := 0x80
def errHead : Nat := 0x81
def errOrder : Nat := 0x82
def errScale : Nat := 0x83

/-- The lanes of a mask. -/
def lanes4 (m : Nat) : List Nat := (List.range 4).filter (fun l => bit m l)

/-- A two's-complement number of n bits. -/
def signedBits (x n : Nat) : Int := if bit x (n - 1) then (low x n : Int) - 2 ^ n else low x n

/-- Lane l's digit of a digit flit (03 R63). -/
def digitOf (f : Flit) (l : Nat) : Int := signedBits (bits f.payload (5 * l) 5) 5

/-- A head flit breaks a layout rule (03 R67). -/
def headBad (f : Flit) : Bool :=
  f.mask == 0 || 16 ≤ f.mask || (List.range 4).any (fun l =>
    let v := bits f.payload (32 * l) 32
    if bit f.mask l then low v 8 != 0 || bits v 12 5 == 0 || 20 < bits v 12 5 else v != 0)

/-- A digit flit breaks a layout rule (03 R63). -/
def digitBad (f : Flit) : Bool :=
  16 ≤ f.mask || f.payload / 2 ^ 20 != 0 || (List.range 4).any (fun l =>
    let v := bits f.payload (5 * l) 5
    if bit f.mask l then 11 ≤ v && v ≤ 21 else v != 16)

/-- A colophon breaks a layout rule (03 R67). -/
def colophonBad (f : Flit) : Bool :=
  16 ≤ f.mask || (List.range 4).any (fun l =>
    let v := bits f.payload (32 * l) 32
    if bit f.mask l then low v 24 != 0 else v != 0)

/-- A colophon of a word stream breaks a layout rule or counts digits (03 R67; 15 R277). -/
def wordColophonBad (f : Flit) : Bool := colophonBad f || (lanes4 f.mask).any (fun l => bits f.payload (32 * l + 24) 5 != 0)

/-- The lane that a head opens (03 R62). -/
def headLane (f : Flit) (l : Nat) : ILane :=
  let v := bits f.payload (32 * l) 32
  let cls := bits v 30 2
  { cls := cls, sign := bit v 29, e := if cls == 0 then signedBits (bits v 17 12) 12 else 0, p := bits v 12 5, seq := bits v 8 4 }

/-- A head as it stands in a flit (03 R62). -/
def packHead (h : Head) : Nat :=
  h.cls * 2 ^ 30 + (if h.sign then 2 ^ 29 else 0) + (if h.cls == 0 then (h.e % 4096).toNat else 0) * 2 ^ 17 + h.p * 2 ^ 12
    + h.seq % 16 * 2 ^ 8

/-- A flit of heads by lane. -/
def headFlit (hs : List (Nat × Head)) : Flit :=
  { kind := 0, tag := 0, mask := hs.foldl (fun m h => m + 2 ^ h.1) 0,
    payload := hs.foldl (fun v h => v + packHead h.2 * 2 ^ (32 * h.1)) 0 }

/-- A flit of digits by lane: −16 in the lanes without one (03 R63). -/
def digitFlit (ds : List (Nat × Int)) : Flit :=
  { kind := 1, tag := 0, mask := ds.foldl (fun m d => m + 2 ^ d.1) 0,
    payload := (List.range 4).foldl (fun v l =>
      v + (match mapFind l ds with
        | some d => (d % 32).toNat
        | none => 16) * 2 ^ (5 * l)) 0 }

/-- A flit of colophons by lane: CUT, LAST, DIGEST_MARK; the digit counts are each route's (`colophonOn`). -/
def colophonFlit (cs : List (Nat × Bool × Bool × Bool)) : Flit :=
  { kind := 3, tag := 0, mask := cs.foldl (fun m c => m + 2 ^ c.1) 0,
    payload := cs.foldl (fun v c =>
      v + ((if c.2.1 then 2 ^ 31 else 0) + (if c.2.2.1 then 2 ^ 30 else 0) + (if c.2.2.2 then 2 ^ 29 else 0)) * 2 ^ (32 * c.1)) 0 }

/-! ### The lanes of an operand -/

/-- Lane l of operand o, when it is open or ended in the operation in progress. -/
def laneOf (x : SlotOp) (o l : Nat) : Option ILane := mapFind (o * 4 + l) x.ins

/-- The same, with an absent lane as an ended ZERO. -/
def inLane (x : SlotOp) (o l : Nat) : ILane := (laneOf x o l).getD { cls := 1, p := 20, ended := true }

/-- Set lane l of operand o. -/
def setLane (x : SlotOp) (o l : Nat) (a : ILane) : SlotOp := { x with ins := mapSet (o * 4 + l) a x.ins }

/-- The open lanes of an operand. -/
def openLanes (x : SlotOp) (o : Nat) : List Nat :=
  (List.range 4).filter (fun l => match laneOf x o l with
    | some a => !a.ended
    | none => false)

/-- What feeding a flit to an operand gives: the operation and the decisions counted (13 R270), or an error's KIND. -/
abbrev Fed := Except Nat (SlotOp × Nat)

/-- A head flit opens lanes (03 R62). -/
def feedHead (x : SlotOp) (o : Nat) (f : Flit) : Fed :=
  if headBad f then .error errHead
  else if (lanes4 f.mask).any (fun l => (laneOf x o l).isSome) then .error errOrder
  else .ok ((lanes4 f.mask).foldl (fun x l => setLane x o l (headLane f l)) x, 0)

/-- The decision of lane l has been counted (13 R270): once, whichever of its dead inputs brought more. -/
def counted (x : SlotOp) (l : Nat) : SlotOp := { x with ins := x.ins.map (fun a => if a.1 % 4 == l then (a.1, { a.2 with pend := false }) else a) }

/-- A digit flit (03 R63): a dead lane's digits are counted and dropped (03 R67), and the first counts its decision (13 R270). -/
def feedDigit (x : SlotOp) (o : Nat) (f : Flit) : Fed :=
  if digitBad f then .error errDigit
  else (lanes4 f.mask).foldl (fun (r : Fed) l =>
    match r with
    | .error e => .error e
    | .ok (x, n) =>
      match laneOf x o l with
      | none => .error errOrder
      | some a =>
        if a.ended || a.cls != 0 || a.p ≤ a.digits.length + a.lost then .error errOrder
        else if a.dead then
          let y := setLane x o l { a with lost := a.lost + 1 }
          if a.pend then .ok (counted y l, n + 1) else .ok (y, n)
        else .ok (setLane x o l { a with digits := a.digits ++ [digitOf f l] }, n)) (.ok (x, 0))

/-- A colophon flit ends lanes (03 R64). -/
def feedColophon (x : SlotOp) (o : Nat) (f : Flit) : Fed :=
  if colophonBad f then .error errOrder
  else (lanes4 f.mask).foldl (fun (r : Fed) l =>
    match r with
    | .error e => .error e
    | .ok (x, n) =>
      let v := bits f.payload (32 * l) 32
      match laneOf x o l with
      | none => .error errOrder
      | some a =>
        if a.ended || bits v 24 5 != a.digits.length + a.lost then .error errOrder
        else .ok (setLane x o l { a with ended := true, cut := bit v 31, last := bit v 30, mark := bit v 29, pend := false }, n))
    (.ok (x, 0))

/-- Feed a flit to an operand. -/
def feedFlit (x : SlotOp) (o : Nat) (f : Flit) : Fed :=
  match f.kind with
  | 0 => feedHead x o f
  | 1 => feedDigit x o f
  | 2 => .error errOrder
  | _ => feedColophon x o f

/-! ### What an operation makes of its lanes -/

namespace Slot

/-- The operands that a slot takes: index and select. -/
def operands (S : Slot) : List (Nat × Nat) := ((List.range 3).zip S.sels).filter (fun p => p.2 != 7)

/-- Fields of an OE context word (07 R161) and of parameter words (13 R263). -/
def cap (S : Slot) : Nat := bits S.cw 21 5
def auto (S : Slot) : Bool := bit S.cw 5
def sat (S : Slot) : Bool := bit S.cw 4
def rm (S : Slot) : Nat := bits S.cw 2 2
def lmask (S : Slot) : Nat := bits S.pw 1 4
def olane (S : Slot) : Nat := bits S.pw 5 2
def fmt (S : Slot) : Nat := bits S.pw 1 5

/-- The operations that emit a passed stream's digits (13 R249, R250). -/
def passes (S : Slot) : Bool := [0, 7, 8, 9, 13, 14, 15, 21].contains S.opc

/-- Those of δ 0 whose head waits for nothing else. -/
def direct (S : Slot) : Bool := [0, 7, 8, 9, 13, 21].contains S.opc

/-- The input lane that output lane l is made of. -/
def inLaneOf (S : Slot) (l : Nat) : Nat := if S.opc == 21 then S.rm else l

end Slot

/-- The value of CMPK (13 R254): none for NAN. -/
def cmpkValue (mode : Nat) (nan : Bool) (d : Int) : Option Int :=
  match mode with
  | 0 => if nan then none else some d
  | 1 => some (if !nan && 0 < d then 1 else 0)
  | 2 => some (if !nan && 0 ≤ d then 1 else 0)
  | _ => some (if nan || d != 0 then 1 else 0)

/-- The decision of a lane (13 R252 to R257), once it is made: its digit and its outcome. For MAX and MIN the outcome is 1 when A
wins and B is dead, −1 when B wins; for SEL 1 chooses A, −1 B, 2 neither; for RELU −1 ends the lane; for CMPK 2 is a NAN. -/
def decide_ (S : Slot) (a b c : ILane) : Option (Nat × Int) :=
  match S.opc with
  | 10 | 11 =>
    if (a.isNan && b.isNan) || (a.isInf && b.isInf && a.sign == b.sign) then some (0, 0)
    else
      match maxClass (S.opc == 11) a b with
      | some 0 => some (0, 1)
      | some _ => some (0, -1)
      | none => (decideLanes a b).map (fun d => (d.1, if S.opc == 11 then -d.2 else d.2))
  | 12 => if a.isNan || b.isNan then some (0, 2) else decideLanes a b
  | 13 =>
    if !a.isFin then none
    else
      match a.firstNonzero with
      | none => none
      | some n => some (n, if digitAt a.digits n < 0 then -1 else 1)
  | 14 => decideThreshold (signedBits (bits S.pw 1 12) 12) (signedBits (bits S.pw 13 16) 16) a
  | 15 =>
    if c.isNan then some (0, 2)
    else
      match c.valueSign with
      | none => none
      | some s => some (0, if s then -1 else 1)
  | _ => none

/-- The operands that a decision makes dead (13 R253 to R257). -/
def deadBy (S : Slot) (a b : ILane) (d : Int) : List Nat :=
  match S.opc with
  | 10 | 11 => if d == 1 then [1] else if d == -1 then [0] else []
  | 12 => if a.ended && b.ended then [] else [0, 1]
  | 13 => if d < 0 then [0] else []
  | 14 => if d < 0 then [0] else []
  | 15 => if d == 1 then [1] else if d == -1 then [0] else [0, 1]
  | _ => []

/-- The head of output lane l, as far as its operands fix it. The NAN head of SEL has A's precision (DESIGN CHOICE, log 57). -/
def headOf (S : Slot) (table : List Nat) (x : SlotOp) (l : Nat) (dec : Option (Nat × Int)) : HeadRes :=
  let i := S.inLaneOf l
  let a := inLane x 0 i
  let b := inLane x 1 i
  let c := inLane x 2 i
  let p2 := outPrec S.cap [a, b]
  match S.opc with
  | 0 | 21 => passHead S.cap a
  | 1 => addHead a.cls a.sign a.e b.cls b.sign b.e p2 a.seq
  | 2 => addHead a.cls a.sign a.e b.cls (!b.sign) b.e p2 a.seq
  | 3 => mulHead a b p2
  | 4 => fmaHead a b c (outPrec S.cap [a, b, c])
  | 5 => divHead a b p2
  | 6 => sqrtHead a (outPrec S.cap [a])
  | 7 => passHead S.cap { a with sign := !a.sign }
  | 8 => passHead S.cap { a with sign := false }
  | 9 => scaleHead S.cap (signedBits (bits S.pw 1 13) 13) a
  | 10 => maxHead false S.cap a b
  | 11 => maxHead true S.cap a b
  | 12 =>
    match dec with
    | none => .wait
    | some d =>
      match cmpkValue (bits S.pw 1 2) (d.2 == 2) d.2 with
      | none => classHead 3 false 1 a.seq
      | some _ => .out ⟨0, false, 1, 1, a.seq⟩
  | 13 =>
    if a.isInf && a.sign then classHead 1 false (passPrec S.cap a) a.seq
    else passHead S.cap { a with sign := false }
  | 14 =>
    match dec with
    | none => .wait
    | some d =>
      if 0 ≤ d.2 then passHead S.cap a
      else if bits S.pw 29 2 == 0 then classHead 1 false (passPrec S.cap a) a.seq
      else classHead 2 true (passPrec S.cap a) a.seq
  | 15 =>
    match dec with
    | none => .wait
    | some d =>
      if d.2 == 1 then passHead S.cap a
      else if d.2 == -1 then
        match passHead S.cap b with
        | .out h => .out { h with seq := a.seq }
        | r => r
      else classHead 3 false (passPrec S.cap a) a.seq
  | 16 =>
    if a.isNan then classHead 3 false (outPrec S.cap [a]) a.seq
    else .out ⟨0, false, (tableHead table).esc, outPrec S.cap [a], a.seq⟩
  | 18 => dotHead S.cap (inLane x 0 S.olane).seq (dotPairs S.lmask (inLane x 0) (inLane x 1))
  | _ => .wait

/-- Operand o has brought digit n of its lane l, or brings no more digits (03 R70): it has ended or is dead, or had brought its P digits
before this firing (`x0`). The last digit of a result waits for no other colophon than A's (13 R247; DEDUCED, log 27). -/
def brought (x0 x : SlotOp) (n o l : Nat) : Bool :=
  let a := inLane x o l
  a.ended || a.dead || n ≤ a.digits.length || (laneOf x0 o l).any ILane.full

/-- Output digit k of lane l, once it is due in a firing that finds the operation as `x0` and feeds it to `x` (13 R250; 03 R70 to R73). -/
def digitDue (S : Slot) (table : List Nat) (x0 x : SlotOp) (l : Nat) (o : OLane) (h : Head) (k : Nat) : Option Int :=
  let i := S.inLaneOf l
  let a := inLane x 0 i
  let b := inLane x 1 i
  let c := inLane x 2 i
  let own (s : ILane) : Option Int := if k ≤ s.digits.length then some (digitAt s.digits k) else none
  let all_ (os : List Nat) (n : Nat) (v : Int) : Option Int := if os.all (fun o => brought x0 x n o i) then some v else none
  match S.opc with
  | 0 | 9 | 14 | 21 => own a
  | 7 => (own a).map (fun d => -d)
  | 8 =>
    (own a).map (fun d =>
      match (a.digits.take k).find? (· != 0) with
      | some f => if f < 0 then -d else d
      | none => d)
  | 13 => if o.dec.any (fun d => d.2 < 0) then none else own a
  | 15 => if o.dec.any (fun d => d.2 == -1) then own b else own a
  | 1 => all_ [0, 1] (k + 2) (addDigit false a b h.e k)
  | 2 => all_ [0, 1] (k + 2) (addDigit true a b h.e k)
  | 3 => all_ [0, 1] (k + 3) (selectDigit o.zs (mulF8 a b k (k + 3)))
  | 4 => all_ [0, 1, 2] (k + 3) (selectDigit o.zs (fmaF8 a b c h.e k (k + 3)))
  | 5 =>
    let n := b.firstNonzero.getD 1
    all_ [0, 1] (k + 3 + n) (selectDigit o.zs (divF8 a b n k (k + 4)))
  | 6 =>
    let n := a.firstNonzero.getD 1
    all_ [0] (k + 3 + n) (selectDigit o.zs (sqrtF8 a n k (k + 4)))
  | 10 | 11 =>
    let win : Option Nat := match o.dec with
      | some d => if d.1 ≤ k + 1 then (if d.2 == 1 then some 0 else if d.2 == -1 then some 1 else none) else none
      | none => none
    all_ [0, 1] (k + 1) (selectDigit o.zs (maxF8 (S.opc == 11) win a b h.e k (k + 1)))
  | 12 =>
    match o.dec with
    | none => none
    | some d => cmpkValue (bits S.pw 1 2) (d.2 == 2) d.2
  | 16 =>
    match tableValue table a with
    | none => none
    | some y => all_ [0] 6 (selectDigit o.zs (tableF8 y h.e k))
  | 18 =>
    if (lanes4 S.lmask).all (fun i => brought x0 x (k + 3) 0 i && brought x0 x (k + 3) 1 i) then
      some (selectDigit o.zs (dotF8 (dotPairs S.lmask (inLane x 0) (inLane x 1)) h.e k (k + 3)))
    else none
  | _ => none

/-- The digits that a lane's output has in all, once that is fixed. -/
def totalDigits (S : Slot) (x : SlotOp) (l : Nat) (o : OLane) : Option Nat :=
  match o.head with
  | none => none
  | some h =>
    if h.cls != 0 then some 0
    else if S.opc == 17 then some h.p
    else if S.opc == 13 && o.dec.any (fun d => d.2 < 0) then some (min o.zs.length h.p)
    else if S.passes then
      let a := inLane x (if S.opc == 15 && o.dec.any (fun d => d.2 == -1) then 1 else 0) (S.inLaneOf l)
      if h.p ≤ a.digits.length then some h.p else if a.full then some (min a.digits.length h.p) else none
    else some h.p

/-- Form the digits that are due. -/
def formDigits (S : Slot) (table : List Nat) (x0 x : SlotOp) (l : Nat) (h : Head) : Nat → OLane → OLane
  | 0, o => o
  | fuel + 1, o =>
    if h.cls != 0 || h.p ≤ o.zs.length || o.cut then o
    else
      match digitDue S table x0 x l o h (o.zs.length + 1) with
      | none => o
      | some d => formDigits S table x0 x l h fuel { o with zs := o.zs ++ [d] }

/-! ### ACC (13 R259) -/

/-- The class of a sum with one more stream, by ADD's rows (03 R74): 0 FINITE, 1 ZERO, 2 and 4 INF of sign 0 and 1, 3 NAN, 5 CUT. -/
def sumClass (a b : Nat) : Nat :=
  if a == 5 || b == 5 then 5
  else if a == 3 || b == 3 then 3
  else if (a == 2 && b == 4) || (a == 4 && b == 2) then 3
  else if a == 2 || b == 2 then 2
  else if a == 4 || b == 4 then 4
  else if a == 0 || b == 0 then 0
  else 1

/-- A group's sum with one more stream of a lane. -/
def GroupSum.add (g : GroupSum) (a : ILane) : GroupSum :=
  let c := if a.cut then 5 else if a.isInf then (if a.sign then 4 else 2) else a.cls
  let v := add16 (g.m, g.x) (a.prefixVal a.digits.length)
  let first := g.n == 0
  let fin := a.isFin
  let anyFin := g.pmin != 0
  { m := if fin then v.1 else g.m, x := if fin then v.2 else g.x, zs := (first || g.zs) && a.sign,
    cls := if first then c else sumClass g.cls c,
    lo := if fin then (if anyFin then min g.lo a.e else a.e) else g.lo,
    hi := if fin then (if anyFin then max g.hi a.e else a.e) else g.hi,
    pmin := if fin then (if anyFin then min g.pmin a.p else a.p) else g.pmin,
    pall := if first then a.p else min g.pall a.p, n := g.n + 1 }

/-- The head and digits of a group's sum. -/
def GroupSum.result (S : Slot) (g : GroupSum) (seq : Nat) : HeadRes × List Int :=
  let p := if S.cap != 0 then S.cap else if g.pmin != 0 then g.pmin else g.pall
  match g.cls with
  | 0 =>
    if g.m == 0 then
      (if S.auto then (classHead 1 g.zs p seq, []) else (finiteHead (g.hi + 2) g.zs p seq, List.replicate p 0))
    else recode (g.m < 0) g.m.natAbs (4 * g.x) S.auto (g.hi + 2) p seq g.zs
  | 1 => (classHead 1 g.zs p seq, [])
  | 2 => (classHead 2 false p seq, [])
  | 4 => (classHead 2 true p seq, [])
  | _ => (classHead 3 false p seq, [])

/-! ### Words (13 R261, R262) -/

/-- Lanes of a word flit by width (03 R66). -/
def wordLanes (width : Nat) : Nat := if width == 64 then 2 else if width == 32 then 4 else if width == 16 then 8 else 16

/-- Bits from one lane to the next. -/
def lanePitch (width : Nat) : Nat := 128 / wordLanes width

/-- The values of a word flit in order, with whether each is valid: two to a lane for 4-bit formats. -/
def flitValues (width : Nat) (f : Flit) : List (Bool × Nat) :=
  (List.range (wordLanes width)).flatMap (fun l =>
    let v := bits f.payload (lanePitch width * l) (lanePitch width)
    let ok := bit f.mask l
    if width == 4 then [(ok, v % 16), (ok, v / 16 % 16)] else [(ok, low v width)])

/-- A word flit of the values of one flit in order. A word lane that two 4-bit values share is valid where one of them is, with 0 for the
other (DESIGN CHOICE, log 57). -/
def valuesFlit (width : Nat) (vs : List (Bool × Nat)) : Flit :=
  if width == 4 then
    (List.range 16).foldl (fun f l =>
      let a := listGet (false, 0) (2 * l) vs
      let b := listGet (false, 0) (2 * l + 1) vs
      if a.1 || b.1 then { f with mask := f.mask + 2 ^ l, payload := f.payload + (a.2 % 16 + b.2 % 16 * 16) * 2 ^ (8 * l) }
      else f) { kind := 2, tag := 0, mask := 0, payload := 0 }
  else
    (List.range (wordLanes width)).foldl (fun f l =>
      let a := listGet (false, 0) l vs
      if a.1 then { f with mask := f.mask + 2 ^ l, payload := f.payload + low a.2 width * 2 ^ (lanePitch width * l) }
      else f) { kind := 2, tag := 0, mask := 0, payload := 0 }

/-- CONVO's flits once every open lane has ended (13 R262). Where every open lane is CUT its word flits have no valid lane, which is to
emit no word (03 R76; DEDUCED, log 52). -/
def convoFlits (S : Slot) (x : SlotOp) : List Flit :=
  let open_ (l : Nat) : Bool := (laneOf x 0 l).isSome
  let vs := (List.range 4).map (fun l =>
    let a := inLane x 0 l
    if open_ l && !a.cut then (true, convTo S.fmt S.sat S.rm (streamFp a)) else (false, 0))
  let words := if convWidth S.fmt == 64 then [valuesFlit 64 (vs.take 2), valuesFlit 64 (vs.drop 2)]
    else [valuesFlit (convWidth S.fmt) vs]
  let cs := ((List.range 4).filter open_).map (fun l => (l, (inLane x 0 l).cut, (inLane x 0 l).last, (inLane x 0 l).mark))
  words ++ [colophonFlit cs]

/-- CMPK's word flit (13 R254). -/
def cmpkWord (S : Slot) (x : SlotOp) : Flit :=
  valuesFlit 8 ((List.range 4).map (fun l =>
    match mapFind l x.outs with
    | none => (false, 0)
    | some o =>
      match o.dec with
      | none => (false, 0)
      | some d => if o.cut then (false, 0) else (true, ((cmpkValue (bits S.pw 1 2) (d.2 == 2) d.2).getD (-128) % 256).toNat)))

/-! ### After an operand's flits (13 R246, R252 to R260, R267, R269) -/

/-- Change output lane l. -/
def setOut (x : SlotOp) (l : Nat) (o : OLane) : SlotOp := { x with outs := mapSet l o x.outs }

/-- Mark lane l of operand o dead (13 R265); `decided` when a decision did, which R270 counts. -/
def markDead (x : SlotOp) (o l : Nat) (decided : Bool) : SlotOp :=
  match laneOf x o l with
  | none => x
  | some a => if a.dead || a.ended then x else setLane x o l { a with dead := true, pend := decided }

/-- The output lanes that newly opened input lanes open (13 R251, R260). -/
def openOuts (S : Slot) (x : SlotOp) (m : Nat) : SlotOp :=
  let ls := match S.opc with
    | 17 | 20 => []
    | 18 => if Nat.land m S.lmask == 0 then [] else [S.olane]
    | 21 => if bit m S.rm then [0, 1, 2, 3] else []
    | _ => lanes4 m
  let x := ls.foldl (fun x l => setOut x l { grp := x.groups }) x
  { x with groups := x.groups + 1 }

/-- LUTF may emit from the firing after its sixth digit or its colophon on (03 R70, R84). -/
def tableDue (a : ILane) : Bool := a.ended || 6 ≤ a.digits.length

/-- One output lane after its operands' flits, before which the operation was `x0`: CUT, decision, head and digits. Also the lanes replaced and a scale out of range, after
which the lane sends a NAN head and a CUT colophon (DESIGN CHOICE, log 52). -/
def updateOut (S : Slot) (table : List Nat) (x0 x : SlotOp) (l : Nat) : SlotOp × Nat × Bool :=
  match mapFind l x.outs with
  | none => (x, 0, false)
  | some o =>
    let i := S.inLaneOf l
    let srcs := if S.opc == 18 then lanes4 S.lmask else [i]
    let cut := S.operands.any (fun p => srcs.any (fun s => (inLane x p.1 s).cut && !(inLane x p.1 s).dead))
    let x := if cut && !o.cut then S.operands.foldl (fun x p => srcs.foldl (fun x s => markDead x p.1 s false) x) x else x
    let o := { o with cut := o.cut || cut }
    if o.cut then
      let a := inLane x 0 i
      let h := o.head.getD ⟨3, false, 0, if a.p == 0 then 1 else a.p, a.seq⟩
      (setOut x l { o with head := some h }, 0, false)
    else
      let a := inLane x 0 i
      let b := inLane x 1 i
      let d := if o.dec.isSome then o.dec else decide_ S a b (inLane x 2 i)
      let fresh := o.dec.isNone && d.isSome
      let x := match d with
        | some d => if fresh then (deadBy S a b d.2).foldl (fun x k => markDead x k i true) x else x
        | none => x
      let rep := if fresh && S.opc == 14 && d.any (fun d => d.2 < 0) then 1 else 0
      let o := { o with dec := d }
      match (match o.head with
        | some h => HeadRes.out h
        | none => headOf S table x l d) with
      | .wait => (setOut x l o, rep, false)
      | .range => (setOut x l { o with head := some ⟨3, false, 0, if a.p == 0 then 1 else a.p, a.seq⟩, cut := true }, rep, true)
      | .out h =>
        let o := { o with head := some h }
        if S.opc == 16 && o.extra == 0 then (setOut x l { o with extra := if tableDue a then 1 else 0 }, rep, false)
        else (setOut x l (formDigits S table x0 x l h 21 o), rep, false)

/-- ACC after its operand's flits: lanes that ended join their sums, and a group that ends opens its output. Also the lanes with a
scale out of range (13 R259). -/
def updateSums (S : Slot) (x : SlotOp) : SlotOp × Nat :=
  let r := (List.range 4).foldl (fun (r : SlotOp × Nat) l =>
    match laneOf r.1 0 l with
    | none => r
    | some a =>
      if !a.ended || (mapFind l r.1.outs).isSome then r
      else
        let tooWide (g : GroupSum) : Bool := 32 < g.hi - g.lo || 65536 < g.n
        let g0 := mapGet {} l r.1.sums
        let g := g0.add a
        let bad := tooWide g
        -- a group raises SCALE_RANGE once
        let raised := if tooWide g0 then r.2 else r.2 + 2 ^ l
        let x := { r.1 with ins := if a.last then r.1.ins else mapDel l r.1.ins, sums := mapSet l g r.1.sums }
        if !a.last then (x, if bad then raised else r.2)
        else
          let x := { x with sums := mapDel l x.sums }
          let res := g.result S a.seq
          match res.1 with
          | .out h =>
            if bad || g.cls == 5 then
              (setOut x l { grp := x.groups, head := some ⟨3, false, 0, h.p, h.seq⟩, cut := true }, if bad then raised else r.2)
            else (setOut x l { grp := x.groups, head := some h, zs := res.2 }, r.2)
          | _ => (setOut x l { grp := x.groups, head := some ⟨3, false, 0, a.p, a.seq⟩, cut := true }, raised)) (x, 0)
  (if r.1.outs == x.outs then r.1 else { r.1 with groups := r.1.groups + 1 }, r.2)

/-- The operation after its operands' flits, before which it was `x0`: the operation, lanes replaced, lanes whose scale is out of range. -/
def updateOp (S : Slot) (table : List Nat) (x0 x : SlotOp) : SlotOp × Nat × Nat :=
  if S.opc == 17 then
    let r := updateSums S x
    (r.1, 0, r.2)
  else if S.opc == 20 then
    (if !x.ins.isEmpty && x.ins.all (fun a => a.2.ended) then ({ x with ins := [], queue := x.queue ++ (if x.abandoned then [colophonFlit (x.ins.map (fun a => (a.1 % 4, true, a.2.last, a.2.mark)))] else convoFlits S x) }, 0, 0) else (x, 0, 0))
  else
    let r := (List.range 4).foldl (fun (r : SlotOp × Nat × Nat) l =>
      let u := updateOut S table x0 r.1 l
      (u.1, r.2.1 + u.2.1, if u.2.2 then r.2.2 + 2 ^ l else r.2.2)) (x, 0, 0)
    -- CMPK with WORD = 1: the word once every lane is decided
    if S.opc == 12 && bit S.pw 3 && !r.1.outs.isEmpty && r.1.outs.all (fun o => o.2.dec.isSome || o.2.cut)
        && r.1.outs.any (fun o => !o.2.headSent) then
      ({ r.1 with queue := r.1.queue ++ [cmpkWord S r.1], outs := r.1.outs.map (fun o => (o.1, { o.2 with headSent := true })) }, r.2)
    else r

/-- CMPK emits a word: its heads and digits do not leave. -/
def Slot.wordOut (S : Slot) : Bool := S.opc == 12 && bit S.pw 3

/-! ### What leaves -/

/-- The head flit that can leave: that of the earliest group whose heads are all known (03 R70). -/
def readyHead (S : Slot) (x : SlotOp) : Option (List Nat × Flit) :=
  if S.wordOut || x.abandoned then none
  else
    let un := x.outs.filter (fun o => !o.2.headSent)
    match (un.map (fun o => o.2.grp)).min? with
    | none => none
    | some g =>
      let os := un.filter (fun o => o.2.grp == g)
      if os.all (fun o => o.2.head.isSome) then
        some (os.map (·.1), headFlit (os.filterMap (fun o => o.2.head.map (fun h => (o.1, h)))))
      else none

/-- The digits that can leave now, one a lane. -/
def readyDigits (S : Slot) (x : SlotOp) : List (Nat × Int) :=
  if S.wordOut || x.abandoned then []
  else x.outs.filterMap (fun o =>
    if o.2.headSent && !o.2.cut && o.2.sent < o.2.zs.length then some (o.1, listGet 0 o.2.sent o.2.zs) else none)

/-- Operand A's colophon for an output lane has come (13 R247), with its flags. DOT's LAST and DIGEST_MARK are those of any of its lanes,
and its sequence tag is that of A's lane OLANE (DESIGN CHOICE, log 57). -/
def lanesEnded (S : Slot) (x : SlotOp) (l : Nat) : Option (Bool × Bool) :=
  let ls := if S.opc == 18 then lanes4 S.lmask else [S.inLaneOf l]
  if ls.all (fun i => (inLane x 0 i).ended) then
    some (ls.any (fun i => (inLane x 0 i).last), ls.any (fun i => (inLane x 0 i).mark))
  else none

/-- The colophons that can leave now (13 R247, R267): lane, CUT, LAST, DIGEST_MARK. CMPK's word goes before them (13 R254). -/
def readyColophons (S : Slot) (x : SlotOp) : List (Nat × Bool × Bool × Bool) :=
  let each := x.outs.filterMap (fun o =>
    match lanesEnded S x o.1 with
    | none => none
    | some (last, mark) =>
      if !o.2.headSent then none
      else if x.abandoned || o.2.cut then some (o.1, true, last, mark)
      else if S.wordOut then some (o.1, false, last, mark)
      else
        match totalDigits S x o.1 o.2 with
        | none => none
        | some n => if n ≤ o.2.sent then some (o.1, false, last, mark) else none)
  if S.wordOut && (!x.queue.isEmpty || each.length < x.outs.length) then [] else each

/-- Forget the lanes that are over: outputs that have ended, and operands that have ended in lanes without an output. A stream that
is over leaves no dead route behind (13 R265). -/
def sweep (S : Slot) (x : SlotOp) (done : List Nat) : SlotOp :=
  let outs := x.outs.filter (fun o => !done.contains o.1 && !(x.abandoned && !o.2.headSent && (lanesEnded S x o.1).isSome))
  let used (i : Nat) : Bool := match S.opc with
    | 18 => !outs.isEmpty && bit S.lmask i
    | 21 => !outs.isEmpty && i == S.rm
    | 20 => true
    | _ => (mapFind i outs).isSome
  let ins := x.ins.filter (fun a => !a.2.ended || used (a.1 % 4))
  let gone := outs.isEmpty && !x.outs.isEmpty
  { x with outs := outs, ins := ins, dead := if gone then [] else x.dead, abandoned := x.abandoned && !gone,
           sid := if gone then x.sid + 1 else x.sid }

/-- An input is dead (13 R265): some lane of an operand it serves is open, and every open one is dead. -/
def selDead (S : Slot) (x : SlotOp) (sel : Nat) : Bool :=
  let ls := (S.operands.filter (fun p => p.2 == sel)).flatMap (fun p => (openLanes x p.1).map (fun l => (inLane x p.1 l).dead))
  !ls.isEmpty && ls.all id

namespace Work

/-- Add to CUTOFF and REPLACED (13 R270). -/
def countOe (w : Work) (S : Slot) (cut rep : Nat) : Work :=
  w.onElem S (fun e => { e with cutoff := (e.cutoff + cut) % 2 ^ 32, replaced := (e.replaced + rep) % 2 ^ 32 })

/-- The table image of a slot's element in the active plane. -/
def tableOf (w : Work) (S : Slot) : List Nat := (w.activePlane S.tile S.elem).table

/-- Kill the producers of inputs whose open lanes are all dead now, in every operand that they serve, and were not before (13 R267). -/
def killDead (w : Work) (S : Slot) (before : SlotOp) : Work :=
  ((S.operands.map (·.2)).eraseDups).foldl (fun w s => if selDead S (w.op S) s && !selDead S before s then w.sendKill S s else w) w

/-- An element error in an operation's operands (03 R67): every lane is dropped, the streams under way are discarded up to their
colophons, and an output whose head has left, or a word stream under way, ends with a CUT colophon (DESIGN CHOICE, log 52). -/
def failOp (w : Work) (S : Slot) (kind lanes : Nat) (taken : List (Nat × Nat × Flit)) : Work :=
  let w := w.slotError S kind lanes
  let x := w.op S
  let cs := (x.outs.filter (fun o => o.2.headSent)).map (fun o => (o.1, true, false, false))
  let open_ := S.operands.filter (fun p => p.2 ≤ 5 &&
    (match taken.find? (fun t => t.1 == p.1) with
     | some t => t.2.2.kind != 3
     | none => !(openLanes x p.1).isEmpty))
  let w := w.setOp S { x with ins := [], outs := [], sums := [], bufA := [], bufB := [], opened := false, openedB := false, busy := false,
                              abandoned := false,
                              queue := if !cs.isEmpty then [colophonFlit cs]
                                else if S.opc == 0 && x.opened then [wordColophon true false false] else [] }
  open_.foldl (fun w p => w.discardInput S p.2) w

/-- The output lanes that heads of a mask open, as far as they must be free first (13 R251, R260). -/
def opensOut (S : Slot) (m : Nat) : List Nat :=
  match S.opc with
  | 18 => if Nat.land m S.lmask == 0 then [] else [S.olane]
  | 21 => if bit m S.rm then [0, 1, 2, 3] else []
  | _ => lanes4 m

/-- The flits that the next firing takes (13 R244): operand, select, flit. None while a flit it needs is missing. A head in a lane whose
stream is open is taken alone, and raises STREAM_ORDER (03 R67). Heads are taken together from every operand, into lanes that are free;
otherwise every open operand gives its next flit, be it a digit or the colophon behind its last one. Once none has a digit to come, the
colophons are taken as they come: an output colophon waits for none but A's (R247; DEDUCED, log 27). -/
def oeTakes (w : Work) (S : Slot) : Option (List (Nat × Nat × Flit)) :=
  let x := w.op S
  let real := S.operands.filter (fun p => p.2 ≤ 5)
  let front (p : Nat × Nat) : Option Flit := if x.discard.contains p.2 then none else w.headAt S p.2
  let isHead (p : Nat × Nat) : Bool := (front p).any (fun f => f.kind == 0)
  let clash (p : Nat × Nat) : Option (Nat × Nat × Flit) :=
    ((front p).filter (fun f => f.kind == 0 && (lanes4 f.mask).any (openLanes x p.1).contains)).map (fun f => (p.1, p.2, f))
  if real.isEmpty then none
  else if (real.filterMap clash).length != 0 then some ((real.filterMap clash).take 1)
  else if real.all isHead then
    let m := real.foldl (fun m p => Nat.lor m ((front p).getD ⟨0, 0, 0, 0, 0, 0⟩).mask) 0
    if (lanes4 m).any (fun l => x.ins.any (fun a => a.1 % 4 == l)) || (opensOut S m).any (fun l => (mapFind l x.outs).isSome) then none
    else some (real.filterMap (fun p => (front p).map (fun f => (p.1, p.2, f))))
  else
    let stalls (p : Nat × Nat) : Bool := isHead p
    let lanes (p : Nat × Nat) : List Nat := openLanes x p.1
    let dead (p : Nat × Nat) : Bool := selDead S x p.2
    let more := real.any (fun p => !dead p && (lanes p).any (fun l => !(inLane x p.1 l).full))
    let must (p : Nat × Nat) : Bool := more && !(lanes p).isEmpty && !dead p && !stalls p
    if real.any (fun p => must p && (front p).isNone) then none
    else
      let idle := x.ins.isEmpty
      some (real.filterMap (fun p =>
        if stalls p || dead p then none
        else if idle && !real.all (fun q => (front q).isSome) then none
        else (front p).map (fun f => (p.1, p.2, f))))

/-- Feed the flits of a firing. -/
def feedAll (x : SlotOp) : List (Nat × Nat × Flit) → Except (Nat × Nat) (SlotOp × Nat)
  | [] => .ok (x, 0)
  | t :: ts =>
    match feedFlit x t.1 t.2.2 with
    | .error k => .error (k, t.2.2.mask % 16)
    | .ok (x, n) =>
      match feedAll x ts with
      | .error e => .error e
      | .ok (x, m) => .ok (x, n + m)

/-- The lanes that a firing's heads open, or with an error those in which the operands disagree (13 R246, R260). -/
def openedLanes (S : Slot) (ts : List (Nat × Nat × Flit)) : Except Nat Nat :=
  let ms := (ts.filter (fun t => t.2.2.kind == 0)).map (fun t => t.2.2.mask)
  match ms with
  | [] => .ok 0
  | m :: rest =>
    if rest.any (· != m) then .error (rest.foldl (fun a b => Nat.lor a (Nat.xor m b)) 0)
    else if S.opc == 18 && Nat.land S.lmask m != 0 && Nat.land S.lmask (15 - m % 16) != 0 then .error (Nat.land S.lmask (15 - m % 16))
    else .ok m

/-- The ZERO operands of lanes that open (13 R248): one head and one colophon. -/
def openZeros (S : Slot) (x : SlotOp) (m : Nat) : SlotOp :=
  (S.operands.filter (fun p => p.2 == 6)).foldl (fun x p =>
    (lanes4 m).foldl (fun x l =>
      let ps := (S.operands.filter (fun q => q.2 != 6)).map (fun q => (inLane x q.1 l).p)
      setLane x p.1 l { cls := 1, p := ps.foldl min 20, seq := 0, ended := true }) x) x

/-- Emit a flit of a firing: the work, the flit, and the clk the element is busy. -/
abbrev Fired := Option (Work × Option Flit × Nat)

/-- A firing of an operation on digit streams (13 R246). -/
def streamFire (w : Work) (S : Slot) : Fired :=
  let x0 := w.op S
  match x0.queue with
  | f :: rest => some (w.setOp S { x0 with queue := rest }, some f, 1)
  | [] =>
    let hd := readyHead S x0
    let ts := if hd.isSome && S.direct then [] else (w.oeTakes S).getD []
    -- one port may serve several operands
    let w1 := ((ts.map (fun t => t.2.1)).eraseDups).foldl (fun w s => w.takeAt S s) w
    let fed : Except (Nat × Nat) (SlotOp × Nat) := match feedAll (w1.op S) ts with
      | .error e => .error e
      | .ok (x, n) =>
        match openedLanes S ts with
        | .error m => .error (errOrder, m % 16)
        | .ok 0 => .ok (x, n)
        | .ok m => .ok (openOuts S (openZeros S x m) m, n)
    match fed with
    | .error (k, m) => some (w1.failOp S k m ts, none, 1)
    | .ok (x, cut) =>
      let r := updateOp S (w.tableOf S) x0 x
      let x := r.1
      let w2 := (w1.setOp S x).countOe S cut r.2.1
      let w2 := if r.2.2 == 0 then w2 else w2.slotError S errScale r.2.2
      let w2 := w2.killDead S x0
      let x := w2.op S
      match hd with
      | some (ls, f) =>
        let x := ls.foldl (fun x l => match mapFind l x.outs with
          | none => x
          | some o => setOut x l { o with headSent := true }) x
        some (w2.setOp S (sweep S x []), some f, 1)
      | none =>
        match readyDigits S x with
        | d :: ds =>
          let x := (d :: ds).foldl (fun x d => match mapFind d.1 x.outs with
            | none => x
            | some o => setOut x d.1 { o with sent := o.sent + 1 }) x
          some (w2.setOp S (sweep S x []), some (digitFlit (d :: ds)), if S.opc == 16 then 4 else 1)
        | [] =>
          match readyColophons S x with
          | c :: cs => some (w2.setOp S x, some (colophonFlit (c :: cs)), 1)
          | [] => if ts.isEmpty && x == x0 then none else some (w2.setOp S (sweep S x []), none, 1)

/-- The operation after its colophon flit has left on every route. -/
def oeAfterColophon (w : Work) (S : Slot) (f : Flit) : Work :=
  let x := w.op S
  if S.opc == 20 || x.outs.isEmpty then w.setOp S { x with dead := [], abandoned := false, sid := x.sid + 1 }
  else w.setOp S (sweep S x (lanes4 f.mask))

/-- PASS of a word stream (13 R251). -/
def passWords (w : Work) (S : Slot) : Fired :=
  let x := w.op S
  let sel := listGet 7 0 S.sels
  if x.discard.contains sel then none
  else
    match w.headAt S sel with
    | none => none
    | some f =>
      let w := w.takeAt S sel
      let x := w.op S
      if f.kind == 2 then some (w.setOp S { x with opened := true }, if x.abandoned then none else some f, 1)
      else if f.kind == 3 then
        let fl := f.flags
        if wordColophonBad f then some (w.failOp S errOrder (f.mask % 16) [(0, sel, f)], none, 1)
        else some (w.setOp S { x with opened := false }, some (if x.abandoned then wordColophon true fl.2.1 fl.2.2 else f), 1)
      else some (w.failOp S errOrder (f.mask % 16) [(0, sel, f)], none, 1)

/-- The word stream that PASS relays is under way, or the next flit begins one: a word, or the colophon of a stream of no words. -/
def passesWords (w : Work) (S : Slot) : Bool :=
  let x := w.op S
  x.opened || (x.ins.isEmpty && x.outs.isEmpty && x.queue.isEmpty
    && (w.headAt S (listGet 7 0 S.sels)).any (fun f => f.kind == 2 || f.kind == 3))

/-! ### CONVI (13 R261) -/

/-- The streams that a group of words opens (13 R261): lane, head, digits. -/
def convi (S : Slot) (opened : Nat) (vs : List (Bool × Nat)) : List (Nat × HeadRes × List Int) :=
  let vs4 := ((List.range 4).zip (vs.take 4)).filter (fun v => v.2.1)
  ((List.range vs4.length).zip vs4).map (fun q =>
    let r := conviHead S.fmt S.auto (signedBits (bits S.pw 6 12) 12) S.cap ((opened + q.1) % 16) q.2.2.2
    (q.2.1, r.1, r.2))

/-- Open a group's output lanes. The streams are numbered in ascending lane order (13 R247). -/
def openGroup (S : Slot) (x : SlotOp) (vs : List (Bool × Nat)) : SlotOp × Nat :=
  let ls := convi S x.streams vs
  let bad := (ls.filter (fun q => q.2.1 == .range)).foldl (fun m q => m + 2 ^ q.1) 0
  let x := ls.foldl (fun x q =>
    match q.2.1 with
    | .out h => setOut x q.1 { grp := x.groups, head := some h, zs := q.2.2 }
    | _ => setOut x q.1 { grp := x.groups, head := some ⟨3, false, 0, S.cap, 0⟩, cut := true }) x
  ({ x with groups := x.groups + 1, streams := x.streams + ls.length, bufA := [], bufB := [], opened := true }, bad)

/-- A firing of CONVI (13 R261). A group is in `bufA` (validity) and `bufB` (values) while its second flit is awaited. A first flit of a
64-bit group that the colophon follows is a group of two values (DESIGN CHOICE, log 57). -/
def conviFire (w : Work) (S : Slot) : Fired :=
  let x := w.op S
  let sel := listGet 7 0 S.sels
  let width := convWidth S.fmt
  match readyHead S x with
  | some (ls, f) =>
    let x := ls.foldl (fun x l => match mapFind l x.outs with
      | none => x
      | some o => setOut x l { o with headSent := true }) x
    some (w.setOp S x, some f, 1)
  | none =>
    match readyDigits S x with
    | d :: ds =>
      let x := (d :: ds).foldl (fun x d => match mapFind d.1 x.outs with
        | none => x
        | some o => setOut x d.1 { o with sent := o.sent + 1 }) x
      some (w.setOp S x, some (digitFlit (d :: ds)), 1)
    | [] =>
      let head := if x.discard.contains sel then none else w.headAt S sel
      if !x.outs.isEmpty && !x.opened then
        -- its input colophon has been taken already
        some (w.setOp S { x with openedB := false, busy := false },
          some (colophonFlit (x.outs.map (fun o => (o.1, o.2.cut || x.abandoned, x.openedB, x.busy)))), 1)
      else if !x.outs.isEmpty then
        -- the colophon waits for the next input flit: a colophon gives it its flags. An abandoned one waits for its input's colophon
        match head with
        | some f =>
          if x.abandoned && f.kind != 3 then some (w.takeAt S sel, none, 1)
          else if f.kind == 3 && wordColophonBad f then some ((w.takeAt S sel).failOp S errOrder (f.mask % 16) [(0, sel, f)], none, 1)
          else
          let fl := if f.kind == 3 then f.flags else (false, false, false)
          let w := if f.kind == 3 then w.takeAt S sel else w
          let x := w.op S
          let cs := x.outs.map (fun o => (o.1, o.2.cut || x.abandoned || fl.1, fl.2.1, fl.2.2))
          some (w.setOp S { x with opened := f.kind != 3 }, some (colophonFlit cs), 1)
        | none =>
          if w.kettleAt S sel then
            some (w.setOp S { x with opened := false }, some (colophonFlit (x.outs.map (fun o => (o.1, o.2.cut || x.abandoned, false, false)))), 1)
          else none
      else
        match head with
        | none => none
        | some f =>
          let w := w.takeAt S sel
          let x := w.op S
          let flush (w : Work) (x : SlotOp) (vs : List (Bool × Nat)) : Work :=
            let r := openGroup S x vs
            let w := w.setOp S r.1
            if r.2 == 0 then w else w.slotError S errScale r.2
          let held := (x.bufA.map (fun v => v == 1)).zip x.bufB
          if f.kind == 3 && wordColophonBad f then some (w.failOp S errOrder (f.mask % 16) [(0, sel, f)], none, 1)
          else if f.kind == 3 then
            (if held.isEmpty then some (w.setOp S { x with opened := false }, none, 1)
             else
               -- a lone first flit of a 64-bit group: its colophon comes with this one's flags
               let w := flush w x held
               let x := w.op S
               let outs := x.outs.map (fun o => (o.1, { o.2 with cut := o.2.cut || f.flags.1 }))
               some (w.setOp S { x with outs := outs, opened := false, openedB := f.flags.2.1, busy := f.flags.2.2 }, none, 1))
          else if f.kind != 2 then some (w.failOp S errOrder (f.mask % 16) [(0, sel, f)], none, 1)
          else
            let vs := flitValues width f
            if 2 ^ wordLanes width ≤ f.mask || (width != 64 && (vs.drop 4).any (·.1)) then
              some (w.failOp S errOrder (f.mask % 16) [(0, sel, f)], none, 1)
            else if width == 64 && held.isEmpty then
              some (w.setOp S { x with bufA := vs.map (fun v => if v.1 then 1 else 0), bufB := vs.map (·.2), opened := true }, none, 1)
            else some (flush w x (held ++ vs), none, 1)

/-- An online operation whose output has lost every route (13 R267): its open inputs are dead. ACC's output stands for streams that
have ended, so its inputs live. The kill of a group of CONVI goes to its word stream, if that has not ended (16's notes on R296). -/
def oeAbandon (w : Work) (S : Slot) : Work :=
  let x0 := { w.op S with abandoned := true }
  if S.opc == 17 || (S.opc == 19 && !x0.opened) then w.setOp S x0
  else if x0.opened then (w.setOp S x0).sendKill S (listGet 7 0 S.sels)
  else
    let x := x0.ins.foldl (fun x a => markDead x (a.1 / 4) (a.1 % 4) false) x0
    (w.setOp S x).killDead S x0

/-- A dead input of an online operation discards the flit at its port without a firing (13 R244, R266): none when it has none. -/
def oeDiscard (w : Work) (S : Slot) (sel : Nat) : Option Work :=
  if !selDead S (w.op S) sel then none
  else
    match w.headAt S sel with
    | none => none
    | some f =>
      if f.kind == 0 || f.kind == 2 then none
      else
        let w := w.takeAt S sel
        let r := (S.operands.filter (fun p => p.2 == sel)).foldl (fun (r : Fed) p =>
          match r with
          | .error e => .error e
          | .ok (x, n) =>
            match feedFlit x p.1 f with
            | .error e => .error e
            | .ok (x, m) => .ok (x, n + m)) (.ok (w.op S, 0))
        match r with
        | .error k => some (w.failOp S k (f.mask % 16) [])
        | .ok (x, n) => some ((w.setOp S (sweep S x [])).countOe S n 0)

/-- A firing of an online element's slot (13 R250). A slot halted by an error takes flits and drops them. -/
def oeFire (w : Work) (S : Slot) : Fired :=
  if S.opc == 19 then w.conviFire S
  else if S.opc == 0 && w.passesWords S then w.passWords S
  else w.streamFire S

/-- The inputs that an online operation's next firing takes. -/
def oeNeeds (w : Work) (S : Slot) : List Nat :=
  let x := w.op S
  let real := S.operands.filter (fun p => p.2 ≤ 5)
  if S.opc == 19 || x.opened || x.ins.isEmpty then real.map (·.2)
  else (real.filter (fun p => !(openLanes x p.1).isEmpty)).map (·.2)

/-- An online operation has taken something that is still to be processed. -/
def oeBusy (w : Work) (S : Slot) : Bool :=
  let x := w.op S
  !x.ins.isEmpty || !x.outs.isEmpty || !x.discard.isEmpty || x.opened || !x.bufA.isEmpty

end Work

end Sys2Proof.Machine
end

