-- ==== Sys2Proof/Machine/Wide.lean ====
section
/-! DEFINITION. The wide unit (17 R324 to R341; 03 R78 to R81, R86): lane arithmetic, masks, reductions, exact accumulators,
streamed programs. A wide instruction checks at fire, enters the tile's queue at commit, and acts when it is applied. -/

namespace Sys2Proof.Machine

open Sys2Proof

/-! ### Registers of the unit (17 R324) -/

/-- Lane `l` of register `r`. -/
def Wide.lane (x : Wide) (r l : Nat) : Word := mapGet 0 (r * 16 + l) x.w

/-- Write lane `l` of register `r`. -/
def Wide.setLane (x : Wide) (r l : Nat) (v : Word) : Wide := { x with w := mapSet (r * 16 + l) v x.w }

/-- Mask register `n`: k0 always reads 0xFFFF. -/
def Wide.mask (x : Wide) (n : Nat) : Nat := if n == 0 then 0xFFFF else (mapGet 0 n x.k).toNat

/-- Write a mask register: a write to k0 is discarded. -/
def Wide.setMask (x : Wide) (n v : Nat) : Wide := if n == 0 then x else { x with k := mapSet n (BitVec.ofNat 16 v) x.k }

/-- Accumulator `n`. -/
def Wide.acc (x : Wide) (n : Nat) : Acc := mapGet {} n x.x

/-- Write accumulator `n`. -/
def Wide.setAcc (x : Wide) (n : Nat) (a : Acc) : Wide := { x with x := mapSet n a x.x }

/-- The lanes whose bit of a mask is 1, ascending. -/
def maskLanes (m : Nat) : List Nat := (List.range 16).filter (fun l => bit m l)

/-! ### Lane arithmetic (17 R331 to R333) -/

/-- A lane operation over three lanes, with flags. -/
abbrev LaneFn := Word → Word → Word → FpResult

/-- WADD, WMUL, WFMA, WMIN, WMAX of a width (17 R331), in RNE: 1, 2, 3, 4, 5. -/
def laneFn (f : Fmt) (wop : Nat) : LaneFn := fun a b d =>
  let x := Fp.of f a.toNat
  let y := Fp.of f b.toNat
  match wop with
  | 1 => fpAdd f 0 x y
  | 2 => fpMul f 0 x y
  | 3 => fpFma f 0 false x y (Fp.of f d.toNat)
  | 4 => fpMinMax f false (bits a.toNat 0 (f.top + 1)) (bits b.toNat 0 (f.top + 1))
  | _ => fpMinMax f true (bits a.toNat 0 (f.top + 1)) (bits b.toNat 0 (f.top + 1))

/-- WCVT of FP64 lanes by kind (17 R333). -/
def cvtD (kind : Nat) (a : Word) : FpResult :=
  let x := Fp.of fp64 a.toNat
  match kind with
  | 0 => fpConvert fp32 false 0 x
  | 1 => fpConvert bf16 false 0 x
  | 2 => fpConvert fp16 false 0 x
  | 3 => fpToInt 64 true 0 x
  | 4 => fpToInt 64 false 0 x
  | 5 => fpOfInt fp64 0 a.toInt
  | _ => fpOfInt fp64 0 a.toNat

/-- WCVT of FP32 lanes by kind (17 R333). -/
def cvtS (kind : Nat) (a : Word) : FpResult :=
  let x := Fp.of fp32 a.toNat
  match kind with
  | 0 => fpConvert fp64 false 0 x
  | 1 => fpConvert bf16 false 0 x
  | 2 => fpConvert fp16 false 0 x
  | 3 => fpConvert fp32 false 0 (Fp.of bf16 a.toNat)
  | 4 => fpConvert fp32 false 0 (Fp.of fp16 a.toNat)
  | 5 => fpConvert e4m3 false 0 x
  | 6 => fpConvert e4m3 true 0 x
  | 7 => fpConvert e5m2 false 0 x
  | 8 => fpConvert e5m2 true 0 x
  | 9 => fpConvert fp32 false 0 (Fp.of e4m3 a.toNat)
  | 10 => fpConvert fp32 false 0 (Fp.of e5m2 a.toNat)
  | 11 => fpToInt 32 true 0 x
  | _ => fpOfInt fp32 0 (BitVec.ofNat 32 a.toNat).toInt

/-- Apply a lane operation to the lanes of a mask (17 R330): others are unchanged and raise no flag. Every source lane is read
before wd is written. -/
def Wide.lanes (x : Wide) (m wd : Nat) (f : Nat → FpResult) : Wide × FpFlags :=
  (maskLanes m).foldl (fun r l => (r.1.setLane wd l (BitVec.ofNat 64 (f l).1), r.2 ||| (f l).2)) (x, 0)

/-- WCMP (17 R332). -/
def Wide.compare (x : Wide) (f : Fmt) (cond kd wa wb km : Nat) : Wide × FpFlags :=
  let m := x.mask km
  let r := (maskLanes m).foldl (fun (r : Nat × FpFlags) l =>
    let t := fpCompare cond (Fp.of f (x.lane wa l).toNat) (Fp.of f (x.lane wb l).toNat)
    (if t.1 then r.1 + 2 ^ l else r.1, r.2 ||| t.2)) (0, 0)
  let old := x.mask kd
  let kept := (maskLanes old).foldl (fun a l => if bit m l then a else a + 2 ^ l) 0
  (x.setMask kd (kept + r.1), r.2)

/-! ### Reductions (17 R335) -/

/-- One level of the tree: neighbours combined, an absent one giving way. -/
def treeLevel (f : Word → Word → FpResult) : List (Option Word) → List (Option Word) × FpFlags
  | a :: b :: rest =>
    let r := treeLevel f rest
    match a, b with
    | none, y => (y :: r.1, r.2)
    | x, none => (x :: r.1, r.2)
    | some u, some v => (some (BitVec.ofNat 64 (f u v).1) :: r.1, (f u v).2 ||| r.2)
  | _ => ([], 0)

/-- Four levels of the tree over 16 lanes: the value, absent when every lane is. -/
def treeReduce (f : Word → Word → FpResult) (v : List (Option Word)) : Option Word × FpFlags :=
  let a := treeLevel f v
  let b := treeLevel f a.1
  let c := treeLevel f b.1
  let d := treeLevel f c.1
  ((d.1.head?).getD none, a.2 ||| b.2 ||| c.2 ||| d.2)

/-- The combination of WRED (17 R335) in a mode: 0 add, 1 min, 2 max. -/
def combine (f : Fmt) (rm red : Nat) (a b : Word) : FpResult :=
  if red == 0 then fpAdd f rm (Fp.of f a.toNat) (Fp.of f b.toNat)
  else fpMinMax f (red == 2) (bits a.toNat 0 (f.top + 1)) (bits b.toNat 0 (f.top + 1))

/-- What an empty reduction gives (17 R335). -/
def absentValue (f : Fmt) (red : Nat) : Word :=
  BitVec.ofNat 64 (if red == 0 then 0 else if red == 1 then f.infEnc else f.signed true f.infEnc)

/-- WRED (17 R335). -/
def Wide.reduce (x : Wide) (f : Fmt) (wd wa red km : Nat) : Wide × FpFlags :=
  let m := x.mask km
  let r := treeReduce (combine f 0 red) ((List.range 16).map (fun l => if bit m l then some (x.lane wa l) else none))
  let v := match r.1 with
    | none => absentValue f red
    | some y => BitVec.ofNat 64 (bits y.toNat 0 (f.top + 1))
  (x.setLane wd 0 v, r.2)

/-! ### Row variance (03 R86) -/

/-- The exact sum of signed dyadic values. -/
def exactSum (xs : List (Int × Int)) : Int × Int := xs.foldl (fun s x => exactAdd s.1 s.2 x.1 x.2) (0, 0)

/-- The variance of a row (03 R86): exact mean rounded once to FP64, exact deviations, rounded once in the row format. -/
def variance (f : Fmt) (rm : Nat) (sample : Bool) (row : List Fp) : FpResult :=
  let n := row.length
  let dv := if sample then n - 1 else n
  if row.any (fun x => x.isNan || x.isInf) || dv == 0 then nanResult f FpFlags.nv
  else
    let vals : List (Int × Int) := row.map (fun x => match x with
      | .fin neg m e => (sgn neg m, e)
      | _ => (0, 0))
    let s := exactSum vals
    let mean := (roundRat fp64 0 (s.1 < 0) s.1.natAbs n s.2).1
    let mv : Int × Int := match Fp.of fp64 mean with
      | .fin neg m e => (sgn neg m, e)
      | _ => (0, 0)
    let dev := exactSum (vals.map (fun x =>
      let d := exactAdd x.1 x.2 (-mv.1) mv.2
      (d.1 * d.1, 2 * d.2)))
    if dev.1 == 0 then (0, 0) else roundRat f rm false dev.1.natAbs dv dev.2

/-- WVAR (17 R336). -/
def Wide.variance (x : Wide) (f : Fmt) (wd wa opt km : Nat) : Wide × FpFlags :=
  let row := (maskLanes (x.mask km)).map (fun l => Fp.of f (x.lane wa l).toNat)
  let r := Machine.variance f 0 (opt == 1) row
  (x.setLane wd 0 (BitVec.ofNat 64 r.1), r.2)

/-! ### Exact accumulators (03 R78 to R81) -/

/-- Classes of two addends together (03 R79): 0 FINITE, 1 POSINF, 2 NEGINF, 3 NAN. -/
def accClass (a b : Nat) : Nat := if a == 0 then b else if b == 0 then a else if a == b then a else 3

/-- Add a value to an accumulator (03 R79): a changes exactly, reduced modulo 2^4352 when the range is left, which sets OVF. -/
def Acc.add (x : Acc) (v : Int) (cls : Nat) : Acc :=
  let a := x.a + v
  if -(2 ^ 4351) ≤ a && a < 2 ^ 4351 then { x with a := a, cls := accClass x.cls cls }
  else { a := (a + 2 ^ 4351) % 2 ^ 4352 - 2 ^ 4351, cls := 3, ovf := true }

/-- An exact FP64 product in units of 2^−2148, and its class (03 R79). -/
def accProduct (a b : Word) : Int × Nat :=
  let x := Fp.of fp64 a.toNat
  let y := Fp.of fp64 b.toNat
  match x, y with
  | .fin nx mx ex, .fin ny my ey => (sgn (nx != ny) (mx * my * 2 ^ (ex + ey + 2148).toNat), 0)
  | x, y =>
    if x.isNan || y.isNan || x.isZero || y.isZero then (0, 3) else (0, if x.neg != y.neg then 2 else 1)

/-- XACC (17 R340): the exact sum of the selected products, then added; OVF is judged on the result alone. -/
def Wide.xacc (x : Wide) (xd wa wb ksel : Nat) : Wide :=
  let s := (maskLanes (x.mask ksel)).foldl (fun (s : Int × Nat) l =>
    let p := accProduct (x.lane wa l) (x.lane wb l)
    (s.1 + p.1, accClass s.2 p.2)) (0, 0)
  x.setAcc xd ((x.acc xd).add s.1 s.2)

/-- The sign of an accumulator (03 R80), and NV for class NAN. -/
def Acc.sign (x : Acc) : Int × FpFlags :=
  if x.cls == 3 then (0, FpFlags.nv) else if x.cls == 1 then (1, 0) else if x.cls == 2 then (-1, 0) else (x.a.sign, 0)

/-- An accumulator rounded to FP64 (03 R80), +0 for a = 0 in every mode. -/
def Acc.round (x : Acc) (rm : Nat) : FpResult :=
  if x.cls == 3 then nanResult fp64 FpFlags.nv
  else if x.cls == 1 then infResult fp64 false 0
  else if x.cls == 2 then infResult fp64 true 0
  else roundInt fp64 rm x.a (-2148)

/-- Word `j` of an accumulator in memory (03 R81). -/
def Acc.word (x : Acc) (j : Nat) : Word :=
  if j < 68 then BitVec.ofNat 64 ((x.a % 2 ^ 4352).toNat / 2 ^ (64 * j))
  else BitVec.ofNat 64 ((if x.ovf then 4 else 0) + x.cls)

/-- The number of a list of 64-bit words, low word first. -/
def wordsNat : List Word → Nat
  | [] => 0
  | v :: vs => v.toNat + 2 ^ 64 * wordsNat vs

/-- An accumulator from its 69 words (03 R81). -/
def Acc.ofWords (ws : List Word) : Acc :=
  let u := wordsNat (ws.take 68)
  let st := (listGet 0 68 ws).toNat
  { a := if u < 2 ^ 4351 then (u : Int) else (u : Int) - 2 ^ 4352, cls := st % 4, ovf := bit st 2 }

/-! ### Stage programs (17 R337, R338) -/

/-- How many of its operands A, B, C a stage operation takes; none for a refused code. -/
def sopArity (sop : Nat) : Option Nat :=
  if sop == 0 || sop == 7 || sop == 8 then some 1
  else if sop == 4 then some 3
  else if sop ≤ 6 then some 2
  else none

/-- A stage word is in range at stage `k` (17 R337). -/
def stageOk (k : Nat) (w : Nat) : Bool :=
  let sels := [bits w 13 4, bits w 9 4, bits w 5 4]
  match sopArity (bits w 20 4) with
  | none => false
  | some n =>
    bits w 24 40 == 0
      && sels.all (fun s => s ≤ 8 && !(s == 4 && k == 0) && !(s == 5 && k ≤ 1))
      && (sels.drop n).all (fun s => s == 7)
      && (bits w 0 5 == 0 || sels.any (fun s => s == 6 || s == 8))

/-- The first word of a WCFG descriptor that is out of range (17 R337). -/
def wcfgBad (ws : List Word) : Option Nat :=
  let c := (listGet 0 6 ws).toNat
  let nst := bits c 0 3 + 1
  let stages := (List.range 6).find? (fun k =>
    let w := (listGet 0 k ws).toNat
    k < nst && (!stageOk k w || (bit c 5 && !bit w 17)))
  if bits c 6 58 != 0 || 6 < nst then some 6
  else match stages with
  | some k => some k
  | none => if listGet 0 7 ws != 0 then some 7 else none

/-- The first word of a WRUN descriptor whose fields are out of range, without the stage program (17 R338). -/
def wrunBad (pack : Bool) (ws : List Word) : Option Nat :=
  let esz := if pack then 4 else 8
  match (List.range 5).find? (fun k =>
    let w := (listGet 0 k ws).toNat
    bits w 22 10 != 0 || bits w 0 21 % esz != 0 || bits w 32 32 % esz != 0) with
  | some k => some k
  | none =>
    let w5 := (listGet 0 5 ws).toNat
    if bits w5 35 29 != 0 || bits w5 33 2 == 3 then some 5
    else if listGet 0 7 ws != 0 then some 7 else none

/-- The signed stride of a stream word (17 R338). -/
def strideOf (w : Word) : Int := (BitVec.ofNat 32 (w.toNat / 2 ^ 32)).toInt

/-- The lowest and highest byte that a stream's elements reach over `n` iterations of `lanes` elements. -/
def streamIn (w : Word) (n lanes esz : Nat) : Bool :=
  let off : Int := bits w.toNat 0 21
  let last := off + ((n : Int) - 1) * strideOf w
  n == 0 || (0 ≤ min off last && max off last + ((lanes * esz : Nat) : Int) ≤ 0x180000)

/-- The first word of a WRUN descriptor that the stage program makes out of range (17 R338). -/
def wrunFit (prog ws : List Word) : Option Nat :=
  let c := (listGet 0 6 prog).toNat
  let nst := bits c 0 3 + 1
  let esz := if bit c 5 then 4 else 8
  let sels := (List.range nst).flatMap (fun k =>
    let w := (listGet 0 k prog).toNat
    [bits w 13 4, bits w 9 4, bits w 5 4])
  let n := bits (listGet 0 5 ws).toNat 0 32
  let lastOnly := bit (listGet 0 5 ws).toNat 32
  let en (k : Nat) : Bool := bit (listGet 0 k ws).toNat 21
  match (List.range 4).find? (fun i => (sels.contains i && !en i) || (en i && !streamIn (listGet 0 i ws) n 16 esz)) with
  | some i => some i
  | none =>
    if !en 4 || !streamIn (listGet 0 4 ws) (if lastOnly then min n 1 else n) (if bits c 3 2 == 0 then 16 else 1) esz then some 4
    else none

/-! ### Fire (17 R325 to R328) -/

namespace Work

/-- Every wide instruction committed earlier on the tile in focus has been applied (17 R327, R334). -/
def wideIdle (w : Work) : Bool :=
  let t := w.tile w.focus.tile
  t.wq.isEmpty && t.wide.run.isNone

/-- In a deterministic task another context is the tile's only wide issuer (17 R328). -/
def wideForbidden (w : Work) : Bool :=
  w.det && (match (w.tile w.focus.tile).wide.issuer with
    | none => false
    | some c => c != w.focus.ctx)

/-- A wide instruction of the context in focus. -/
def wideOp (w : Work) (i : Instr) (lanes uni : List (Nat × Nat)) (words : List Word) : WideOp :=
  { instr := i, who := { w.who with tlb := none }, party := w.party, seg := w.me.dseg.toNat, lanes := lanes, uni := uni, words := words }

/-- A wide instruction with nothing more to check fires (17 R325, R328). -/
def fireWide (w : Work) (i : Instr) : Work :=
  if w.wideForbidden then w.trap Cause.detAtomic (BitVec.ofNat 64 w.focus.idx)
  else w.effect (.wide (w.wideOp i [] [] []))

/-- Check and translate the words that a wide access names, by number and ea (17 R334, R340): the first failure traps. -/
def wideWords (w : Work) (form : AccForm) : List (Nat × Nat) → Work × Option (List (Nat × Nat) × List (Nat × Nat))
  | [] => (w, some ([], []))
  | (l, ea) :: rest =>
    if ea % 8 != 0 then (w.trap Cause.align (einfoAlign ea w.focus.idx), none)
    else
      match w.translate w.who form 8 (w.va ea) with
      | (w, .fault c s) => (w.trap c (einfoMem (w.va ea) s form.acc 0 w.focus.idx), none)
      | (w, .ok pa u) =>
        if classify pa == .control then (w.trap Cause.protection (einfoMem (w.va ea) 1 form.acc 0 w.focus.idx), none)
        else match w.poisonOf pa with
        | some src => (w.trap Cause.uncorrectable (einfoUncorr src (pa / 64) w.focus.idx), none)
        | none =>
          match wideWords w form rest with
          | (w, none) => (w, none)
          | (w, some r) => (w, some ((l, pa) :: r.1, if u.isSome then (l, w.va ea) :: r.2 else r.2))

/-- WLD, WST, XST, XLD at fire: every word is checked (17 R334, R340). -/
def fireWideMem (w : Work) (i : Instr) (form : AccForm) (eas : List (Nat × Nat)) : Work :=
  if w.wideForbidden then w.trap Cause.detAtomic (BitVec.ofNat 64 w.focus.idx)
  else
    match w.wideWords form eas with
    | (w, none) => w
    | (w, some r) => w.effect (.wide (w.wideOp i r.1 r.2 []))

/-- The lanes that WLD and WST access (17 R334): lane and ea. -/
def laneEas (w : Work) (km : Nat) (a s : Word) : List (Nat × Nat) :=
  (maskLanes ((w.tile w.focus.tile).wide.mask km)).map (fun l => (l, (a + BitVec.ofNat 64 l * s).toNat))

/-- The 69 words of an accumulator (03 R81): number and ea. -/
def accEas (a : Word) : List (Nat × Nat) := (List.range 69).map (fun j => (j, (a + BitVec.ofNat 64 (8 * j)).toNat))

/-- WCFG at fire (17 R337). -/
def fireWcfg (w : Work) (i : Instr) (a : Word) : Work :=
  if w.wideForbidden then w.trap Cause.detAtomic (BitVec.ofNat 64 w.focus.idx)
  else w.withWords 64 8 a.toNat (fun w ws =>
    match wcfgBad ws with
    | some k => w.protect 3 k
    | none => w.effect (.wide (w.wideOp i [] [] ws)))

/-- The completion word at ea is checked at fire (17 R344): aligned, and translated for a store. -/
def withComp (w : Work) (va : Nat) (k : Work → Work) : Work :=
  if low va 64 == 0 then k w
  else if va % 8 != 0 then w.trap Cause.align (einfoAlign (low va 64) w.focus.idx)
  else
    match w.translate w.who .fill 8 va with
    | (w, .fault c s) => w.trap c (einfoMem va s 4 0 w.focus.idx)
    | (w, .ok _ _) => k w

/-- WRUN at fire (17 R338); the checks against the stage program are made when its block ends. -/
def fireWrun (w : Work) (i : Instr) (a : Word) : Work :=
  if w.wideForbidden then w.trap Cause.detAtomic (BitVec.ofNat 64 w.focus.idx)
  else w.withWords 64 8 a.toNat (fun w ws =>
    match wrunBad false ws with
    | some 5 => w.protect 3 5
    | some 7 => w.protect 3 7
    | _ =>
      match wrunBad true ws with
      | some k => w.protect 3 k
      | none =>
        w.withComp (w.va (listGet 0 6 ws).toNat) (fun w => w.effect (.wide (w.wideOp i [] [] ws))))

end Work

/-- The stage program that WRUN at index `idx` of a block will find (17 R338): that of the tile, after the WCFGs queued and
those of the block at lower indices. -/
def installedProg (t : Tile) (b : Block) (idx : Nat) : List Word :=
  let isCfg (o : WideOp) : Bool := match o.instr with
    | .wcfg _ => true
    | _ => false
  let own := (b.effs.filter (fun e => e.1 < idx)).filterMap (fun e => match e.2 with
    | .wide o => if isCfg o then some (e.1, o.words) else none
    | _ => none)
  let p := ((t.wq.filter isCfg).map (fun o => o.words)).getLast?.getD t.wide.prog
  (own.foldl (fun (r : Nat × List Word) e => if r.1 ≤ e.1 then e else r) (0, p)).2

/-- The traps of the WRUNs of a block, judged when it ends (17 R338). -/
def wrunTraps (t : Tile) (b : Block) : List Trap :=
  b.effs.filterMap (fun e => match e.2 with
    | .wide o =>
      match o.instr with
      | .wrun _ =>
        let p := installedProg t b e.1
        let bad := match wrunBad (bit (listGet 0 6 p).toNat 5) o.words with
          | some k => some k
          | none => wrunFit p o.words
        bad.map (fun k => ⟨e.1, Cause.protection, einfoMem 0 3 4 k e.1⟩)
      | _ => none
    | _ => none)

/-! ### Apply (17 R325, R326, R339) -/

namespace Work

/-- The value of word `n` of a wide access: 0 while its page is still ALL_EMPTY or ALL_FULL. -/
def wideLoad (w : Work) (o : WideOp) (n pa : Nat) : Word :=
  match mapFind n o.uni with
  | none => w.word pa
  | some va =>
    match (w.translate o.who .plainLoad 8 va).2 with
    | .ok pa u => BitVec.ofNat 64 (w.dataAt pa 8 u)
    | .fault _ _ => 0

/-- Flags of an applied register instruction go to S_FPFLAGS of the context that committed it (17 R327). -/
def wideFlags (w : Work) (p : Nat) (fl : FpFlags) : Work :=
  let c := w.ctx (p / 4) (p % 4)
  w.setCtx (p / 4) (p % 4) { c with fpflags := c.fpflags ||| fl }

/-- The condition of WCMP (07 R151): 0 EQ, 1 LT, 2 LE, 3 UN, in the order of R206. -/
def wcmpCond (c : Nat) : Nat := c

/-- A result of the unit with flags. -/
def wideResult (w : Work) (t : Nat) (o : WideOp) (r : Wide × FpFlags) : Work :=
  (w.setTile t { w.tile t with wide := r.1 }).wideFlags o.party r.2

/-- Apply a wide instruction of the tile (17 R325); WRUN starts its run. -/
def applyWide (w : Work) (t : Nat) (o : WideOp) : Work :=
  let x := (w.tile t).wide
  let lanes (f : Fmt) (wop wd wa wb km : Nat) : Work :=
    w.wideResult t o (x.lanes (x.mask km) wd (fun l => laneFn f wop (x.lane wa l) (x.lane wb l) (x.lane wd l)))
  let mov (wd wa km : Nat) : Work := w.wideResult t o (x.lanes (x.mask km) wd (fun l => ((x.lane wa l).toNat, 0)))
  let sel (wd wa wb km : Nat) : Work :=
    w.wideResult t o (x.lanes 0xFFFF wd (fun l => ((if bit (x.mask km) l then x.lane wa l else x.lane wb l).toNat, 0)))
  let shuf (wd wa wb km : Nat) : Work :=
    w.wideResult t o (x.lanes (x.mask km) wd (fun l => ((x.lane wa ((x.lane wb l).toNat % 16)).toNat, 0)))
  match o.instr with
  | .wmovD _ wd wa km => mov wd.toNat wa.toNat km.toNat
  | .wmovS _ wd wa km => mov wd.toNat wa.toNat km.toNat
  | .waddD _ wd wa wb km => lanes fp64 1 wd.toNat wa.toNat wb.toNat km.toNat
  | .waddS _ wd wa wb km => lanes fp32 1 wd.toNat wa.toNat wb.toNat km.toNat
  | .wmulD _ wd wa wb km => lanes fp64 2 wd.toNat wa.toNat wb.toNat km.toNat
  | .wmulS _ wd wa wb km => lanes fp32 2 wd.toNat wa.toNat wb.toNat km.toNat
  | .wfmaD _ wd wa wb km => lanes fp64 3 wd.toNat wa.toNat wb.toNat km.toNat
  | .wfmaS _ wd wa wb km => lanes fp32 3 wd.toNat wa.toNat wb.toNat km.toNat
  | .wminD _ wd wa wb km => lanes fp64 4 wd.toNat wa.toNat wb.toNat km.toNat
  | .wminS _ wd wa wb km => lanes fp32 4 wd.toNat wa.toNat wb.toNat km.toNat
  | .wmaxD _ wd wa wb km => lanes fp64 5 wd.toNat wa.toNat wb.toNat km.toNat
  | .wmaxS _ wd wa wb km => lanes fp32 5 wd.toNat wa.toNat wb.toNat km.toNat
  | .wcmpD _ cond kd wa wb km => w.wideResult t o (x.compare fp64 (wcmpCond cond.toNat) kd.toNat wa.toNat wb.toNat km.toNat)
  | .wcmpS _ cond kd wa wb km => w.wideResult t o (x.compare fp32 (wcmpCond cond.toNat) kd.toNat wa.toNat wb.toNat km.toNat)
  | .wselD _ wd wa wb km => sel wd.toNat wa.toNat wb.toNat km.toNat
  | .wselS _ wd wa wb km => sel wd.toNat wa.toNat wb.toNat km.toNat
  | .wcvtD _ wd wa kind km =>
    w.wideResult t o (x.lanes (x.mask km.toNat) wd.toNat (fun l => cvtD kind.toNat (x.lane wa.toNat l)))
  | .wcvtS _ wd wa kind km =>
    w.wideResult t o (x.lanes (x.mask km.toNat) wd.toNat (fun l => cvtS kind.toNat (x.lane wa.toNat l)))
  | .wredD _ wd wa rop km => w.wideResult t o (x.reduce fp64 wd.toNat wa.toNat rop.toNat km.toNat)
  | .wredS _ wd wa rop km => w.wideResult t o (x.reduce fp32 wd.toNat wa.toNat rop.toNat km.toNat)
  | .wvarD _ wd wa opt km => w.wideResult t o (x.variance fp64 wd.toNat wa.toNat opt.toNat km.toNat)
  | .wvarS _ wd wa opt km => w.wideResult t o (x.variance fp32 wd.toNat wa.toNat opt.toNat km.toNat)
  | .wshufD _ wd wa wb km => shuf wd.toNat wa.toNat wb.toNat km.toNat
  | .wshufS _ wd wa wb km => shuf wd.toNat wa.toNat wb.toNat km.toNat
  | .wld _ wd _ =>
    w.setTile t { w.tile t with wide := o.lanes.foldl (fun x l => x.setLane wd.toNat l.1 (w.wideLoad o l.1 l.2)) x }
  | .wst _ wd _ => o.lanes.foldl (fun w l => w.putWord l.2 (x.lane wd.toNat l.1)) w
  | .xacc _ xd wa wb ksel => w.setTile t { w.tile t with wide := x.xacc xd.toNat wa.toNat wb.toNat ksel.toNat }
  | .xadd _ xd xs =>
    w.setTile t { w.tile t with wide := x.setAcc xd.toNat ((x.acc xd.toNat).add (x.acc xs.toNat).a (x.acc xs.toNat).cls) }
  | .xclr _ xd => w.setTile t { w.tile t with wide := x.setAcc xd.toNat {} }
  | .xmov _ xd xs => w.setTile t { w.tile t with wide := x.setAcc xd.toNat (x.acc xs.toNat) }
  | .xst _ xs => o.lanes.foldl (fun w l => w.putWord l.2 ((x.acc xs.toNat).word l.1)) w
  | .xld _ xd =>
    w.setTile t { w.tile t with wide := x.setAcc xd.toNat (Acc.ofWords (o.lanes.map (fun l => w.wideLoad o l.1 l.2))) }
  | .wcfg _ => w.setTile t { w.tile t with wide := { x with prog := o.words } }
  | .wrun _ => w.setTile t { w.tile t with wide := { x with run := some { op := o } } }
  | _ => w

/-- The words that an applied wide store writes: it waits while another party claims one (11 R213). -/
def wideStores (o : WideOp) : List Nat :=
  match o.instr with
  | .wst _ _ _ => o.lanes.map (fun l => l.2 / 8)
  | .xst _ _ => o.lanes.map (fun l => l.2 / 8)
  | _ => []

/-- Some party holds a claim on one of some words. -/
def anyClaimed (w : Work) (ks : List Nat) : Bool := w.core.claims.any (fun c => ks.contains c.word)

end Work

/-! ### Runs (17 R339) -/

/-- One stage's result on operands (17 R337): rounded once in its mode and width. -/
def stageFn (sop rm : Nat) (f : Fmt) (a b c : Word) : FpResult :=
  let x := Fp.of f a.toNat
  let y := Fp.of f b.toNat
  let lo (v : Word) : Nat := bits v.toNat 0 (f.top + 1)
  match sop with
  | 0 => (lo a, 0)
  | 1 => fpAdd f rm x y
  | 2 => fpAdd f rm x y.negate
  | 3 => fpMul f rm x y
  | 4 => fpFma f rm false x y (Fp.of f c.toNat)
  | 5 => fpMinMax f false (lo a) (lo b)
  | 6 => fpMinMax f true (lo a) (lo b)
  | 7 => (Nat.xor (lo a) (2 ^ f.top), 0)
  | _ => (bits a.toNat 0 f.top, 0)

/-- The stages of one lane from stage `k` on: `done` holds the outputs of the stages before, newest first. -/
def runStages (x : Wide) (r : WideRun) (ins : Nat → Word) (l : Nat) (prog : List Word) : Nat → Nat → List Word → List Word × FpFlags
  | 0, _, done => (done, 0)
  | fuel + 1, k, done =>
    let w := (listGet 0 k prog).toNat
    let f := if bit w 17 then fp32 else fp64
    let operand (sel : Nat) : Word :=
      if sel < 4 then ins sel
      else if sel == 4 then listGet 0 0 done
      else if sel == 5 then listGet 0 1 done
      else if sel == 6 then x.lane (bits w 0 5) l
      else if sel == 7 then 0
      else if r.n == 0 then x.lane (bits w 0 5) l
      else mapGet 0 (k * 16 + l) r.prev
    let y := stageFn (bits w 20 4) (bits w 18 2) f (operand (bits w 13 4)) (operand (bits w 9 4)) (operand (bits w 5 4))
    let rest := runStages x r ins l prog fuel (k + 1) (BitVec.ofNat 64 y.1 :: done)
    (rest.1, y.2 ||| rest.2)

namespace Work

/-- The physical addresses that iteration `n` of a run writes, in lane order (17 R339). -/
def runTargets (w : Work) (t : Nat) (r : WideRun) : List Nat :=
  let c := (listGet 0 6 (w.tile t).wide.prog).toNat
  let esz := if bit c 5 then 4 else 8
  let w4 := listGet 0 4 r.op.words
  let w5 := (listGet 0 5 r.op.words).toNat
  let n := bits w5 0 32
  if bit w5 32 && r.n + 1 != n then []
  else
    let off : Int := (bits w4.toNat 0 21 : Int) + (if bit w5 32 then 0 else (r.n : Int) * strideOf w4)
    (List.range (if bits c 3 2 == 0 then 16 else 1)).map (fun l => stashBase t + off.toNat + esz * l)

/-- A poisoned line that iteration `n` of a run reads (05 R121). -/
def runPoison (w : Work) (t : Nat) (r : WideRun) : Option Nat :=
  let c := (listGet 0 6 (w.tile t).wide.prog).toNat
  let esz := if bit c 5 then 4 else 8
  let addrs := (List.range 4).flatMap (fun i =>
    let s := listGet 0 i r.op.words
    if bit s.toNat 21 then (List.range 16).map (fun l =>
      stashBase t + ((bits s.toNat 0 21 : Int) + (r.n : Int) * strideOf s).toNat + esz * l) else [])
  (addrs.find? (fun a => (w.poisonOf a).isSome))

/-- The run of tile `t` is over (17 R344): its completion word is due, with the iterations done and the flags collected. -/
def finishRun (w : Work) (t : Nat) (r : WideRun) (err : Nat) : Work :=
  let comp := (listGet 0 6 r.op.words).toNat
  let w := w.setTile t { w.tile t with wide := { (w.tile t).wide with run := none } }
  if comp == 0 then w
  else
    let v := (if err == 0 then 0 else 2 ^ 63 + err * 2 ^ 48) + r.n % 2 ^ 40 * 2 ^ 8 + r.flags.toNat
    { w with core := { w.core with comps := w.core.comps ++ [{ who := r.op.who, va := r.op.seg * 2 ^ 64 + comp,
                                                               value := BitVec.ofNat 64 v, kind := 0, party := r.op.party,
                                                               task := w.taskOf t }] } }

/-- One iteration of a run (17 R339). -/
def iterate (w : Work) (t : Nat) (r : WideRun) : Work :=
  let x := (w.tile t).wide
  let c := (listGet 0 6 x.prog).toNat
  let nst := bits c 0 3 + 1
  let esz := if bit c 5 then 4 else 8
  let w5 := (listGet 0 5 r.op.words).toNat
  let n := bits w5 0 32
  if n ≤ r.n then w.finishRun t r 0
  else if (w.runPoison t r).isSome then w.finishRun t r Cause.uncorrectable
  else
    let input (i l : Nat) : Word :=
      let s := listGet 0 i r.op.words
      BitVec.ofNat 64 (w.load (stashBase t + ((bits s.toNat 0 21 : Int) + (r.n : Int) * strideOf s).toNat + esz * l) esz)
    let outs := (List.range 16).map (fun l => runStages x r (fun i => input i l) l x.prog nst 0 [])
    let fl := outs.foldl (fun a o => a ||| o.2) 0
    let last := outs.map (fun o => listGet 0 0 o.1)
    let lastStage := (listGet 0 (nst - 1) x.prog).toNat
    let f := if bit lastStage 17 then fp32 else fp64
    let red := bits c 3 2
    let y := if red == 0 then (last, (0 : FpFlags))
      else
        let v := treeReduce (combine f (bits lastStage 18 2) (red - 1)) (last.map some)
        ([v.1.getD 0], v.2)
    let form := bits w5 33 2
    let w := ((w.runTargets t r).zip y.1).foldl (fun w p =>
      let w := w.store p.1 esz p.2.toNat
      if form == 1 then w.setBit (p.1 / 8) true else if form == 2 then w.setBit (p.1 / 8) false else w) w
    let prev := ((List.range 16).zip outs).flatMap (fun p => ((List.range nst).map (fun k => (k * 16 + p.1, listGet 0 (nst - 1 - k) p.2.1))))
    let r := { r with n := r.n + 1, prev := prev, flags := r.flags ||| fl ||| y.2 }
    if n ≤ r.n then w.finishRun t r 0
    else w.setTile t { w.tile t with wide := { (w.tile t).wide with run := some r } }

end Work

/-! ### Meanings -/

/-- WMOV_D (17 R331). -/
def execWmovD (pr : BitVec 2) (wd : BitVec 5) (wa : BitVec 5) (km : BitVec 3) (s : State) : Host.Outcome State Fault Refusal :=
  fire (shape (.wmovD pr wd wa km)) (fun _ _ _ w => w.fireWide (.wmovD pr wd wa km)) s

/-- WADD_D (17 R331). -/
def execWaddD (pr : BitVec 2) (wd : BitVec 5) (wa : BitVec 5) (wb : BitVec 5) (km : BitVec 3) (s : State) : Host.Outcome State Fault Refusal :=
  fire (shape (.waddD pr wd wa wb km)) (fun _ _ _ w => w.fireWide (.waddD pr wd wa wb km)) s

/-- WMUL_D (17 R331). -/
def execWmulD (pr : BitVec 2) (wd : BitVec 5) (wa : BitVec 5) (wb : BitVec 5) (km : BitVec 3) (s : State) : Host.Outcome State Fault Refusal :=
  fire (shape (.wmulD pr wd wa wb km)) (fun _ _ _ w => w.fireWide (.wmulD pr wd wa wb km)) s

/-- WFMA_D (17 R331). -/
def execWfmaD (pr : BitVec 2) (wd : BitVec 5) (wa : BitVec 5) (wb : BitVec 5) (km : BitVec 3) (s : State) : Host.Outcome State Fault Refusal :=
  fire (shape (.wfmaD pr wd wa wb km)) (fun _ _ _ w => w.fireWide (.wfmaD pr wd wa wb km)) s

/-- WMIN_D (17 R331). -/
def execWminD (pr : BitVec 2) (wd : BitVec 5) (wa : BitVec 5) (wb : BitVec 5) (km : BitVec 3) (s : State) : Host.Outcome State Fault Refusal :=
  fire (shape (.wminD pr wd wa wb km)) (fun _ _ _ w => w.fireWide (.wminD pr wd wa wb km)) s

/-- WMAX_D (17 R331). -/
def execWmaxD (pr : BitVec 2) (wd : BitVec 5) (wa : BitVec 5) (wb : BitVec 5) (km : BitVec 3) (s : State) : Host.Outcome State Fault Refusal :=
  fire (shape (.wmaxD pr wd wa wb km)) (fun _ _ _ w => w.fireWide (.wmaxD pr wd wa wb km)) s

/-- WCMP_D (17 R332). -/
def execWcmpD (pr : BitVec 2) (cond : BitVec 2) (kd : BitVec 3) (wa : BitVec 5) (wb : BitVec 5) (km : BitVec 3) (s : State) : Host.Outcome State Fault Refusal :=
  fire (shape (.wcmpD pr cond kd wa wb km)) (fun _ _ _ w => w.fireWide (.wcmpD pr cond kd wa wb km)) s

/-- WSEL_D (17 R331). -/
def execWselD (pr : BitVec 2) (wd : BitVec 5) (wa : BitVec 5) (wb : BitVec 5) (km : BitVec 3) (s : State) : Host.Outcome State Fault Refusal :=
  fire (shape (.wselD pr wd wa wb km)) (fun _ _ _ w => w.fireWide (.wselD pr wd wa wb km)) s

/-- WCVT_D (17 R333). -/
def execWcvtD (pr : BitVec 2) (wd : BitVec 5) (wa : BitVec 5) (kind : BitVec 5) (km : BitVec 3) (s : State) : Host.Outcome State Fault Refusal :=
  fire (shape (.wcvtD pr wd wa kind km)) (fun _ _ _ w => w.fireWide (.wcvtD pr wd wa kind km)) s

/-- WRED_D (17 R335). -/
def execWredD (pr : BitVec 2) (wd : BitVec 5) (wa : BitVec 5) (rop : BitVec 2) (km : BitVec 3) (s : State) : Host.Outcome State Fault Refusal :=
  fire (shape (.wredD pr wd wa rop km)) (fun _ _ _ w => w.fireWide (.wredD pr wd wa rop km)) s

/-- WVAR_D (17 R336). -/
def execWvarD (pr : BitVec 2) (wd : BitVec 5) (wa : BitVec 5) (opt : BitVec 1) (km : BitVec 3) (s : State) : Host.Outcome State Fault Refusal :=
  fire (shape (.wvarD pr wd wa opt km)) (fun _ _ _ w => w.fireWide (.wvarD pr wd wa opt km)) s

/-- WSHUF_D (17 R331). -/
def execWshufD (pr : BitVec 2) (wd : BitVec 5) (wa : BitVec 5) (wb : BitVec 5) (km : BitVec 3) (s : State) : Host.Outcome State Fault Refusal :=
  fire (shape (.wshufD pr wd wa wb km)) (fun _ _ _ w => w.fireWide (.wshufD pr wd wa wb km)) s

/-- WMOV_S (17 R331). -/
def execWmovS (pr : BitVec 2) (wd : BitVec 5) (wa : BitVec 5) (km : BitVec 3) (s : State) : Host.Outcome State Fault Refusal :=
  fire (shape (.wmovS pr wd wa km)) (fun _ _ _ w => w.fireWide (.wmovS pr wd wa km)) s

/-- WADD_S (17 R331). -/
def execWaddS (pr : BitVec 2) (wd : BitVec 5) (wa : BitVec 5) (wb : BitVec 5) (km : BitVec 3) (s : State) : Host.Outcome State Fault Refusal :=
  fire (shape (.waddS pr wd wa wb km)) (fun _ _ _ w => w.fireWide (.waddS pr wd wa wb km)) s

/-- WMUL_S (17 R331). -/
def execWmulS (pr : BitVec 2) (wd : BitVec 5) (wa : BitVec 5) (wb : BitVec 5) (km : BitVec 3) (s : State) : Host.Outcome State Fault Refusal :=
  fire (shape (.wmulS pr wd wa wb km)) (fun _ _ _ w => w.fireWide (.wmulS pr wd wa wb km)) s

/-- WFMA_S (17 R331). -/
def execWfmaS (pr : BitVec 2) (wd : BitVec 5) (wa : BitVec 5) (wb : BitVec 5) (km : BitVec 3) (s : State) : Host.Outcome State Fault Refusal :=
  fire (shape (.wfmaS pr wd wa wb km)) (fun _ _ _ w => w.fireWide (.wfmaS pr wd wa wb km)) s

/-- WMIN_S (17 R331). -/
def execWminS (pr : BitVec 2) (wd : BitVec 5) (wa : BitVec 5) (wb : BitVec 5) (km : BitVec 3) (s : State) : Host.Outcome State Fault Refusal :=
  fire (shape (.wminS pr wd wa wb km)) (fun _ _ _ w => w.fireWide (.wminS pr wd wa wb km)) s

/-- WMAX_S (17 R331). -/
def execWmaxS (pr : BitVec 2) (wd : BitVec 5) (wa : BitVec 5) (wb : BitVec 5) (km : BitVec 3) (s : State) : Host.Outcome State Fault Refusal :=
  fire (shape (.wmaxS pr wd wa wb km)) (fun _ _ _ w => w.fireWide (.wmaxS pr wd wa wb km)) s

/-- WCMP_S (17 R332). -/
def execWcmpS (pr : BitVec 2) (cond : BitVec 2) (kd : BitVec 3) (wa : BitVec 5) (wb : BitVec 5) (km : BitVec 3) (s : State) : Host.Outcome State Fault Refusal :=
  fire (shape (.wcmpS pr cond kd wa wb km)) (fun _ _ _ w => w.fireWide (.wcmpS pr cond kd wa wb km)) s

/-- WSEL_S (17 R331). -/
def execWselS (pr : BitVec 2) (wd : BitVec 5) (wa : BitVec 5) (wb : BitVec 5) (km : BitVec 3) (s : State) : Host.Outcome State Fault Refusal :=
  fire (shape (.wselS pr wd wa wb km)) (fun _ _ _ w => w.fireWide (.wselS pr wd wa wb km)) s

/-- WCVT_S (17 R333). -/
def execWcvtS (pr : BitVec 2) (wd : BitVec 5) (wa : BitVec 5) (kind : BitVec 5) (km : BitVec 3) (s : State) : Host.Outcome State Fault Refusal :=
  fire (shape (.wcvtS pr wd wa kind km)) (fun _ _ _ w => w.fireWide (.wcvtS pr wd wa kind km)) s

/-- WRED_S (17 R335). -/
def execWredS (pr : BitVec 2) (wd : BitVec 5) (wa : BitVec 5) (rop : BitVec 2) (km : BitVec 3) (s : State) : Host.Outcome State Fault Refusal :=
  fire (shape (.wredS pr wd wa rop km)) (fun _ _ _ w => w.fireWide (.wredS pr wd wa rop km)) s

/-- WVAR_S (17 R336). -/
def execWvarS (pr : BitVec 2) (wd : BitVec 5) (wa : BitVec 5) (opt : BitVec 1) (km : BitVec 3) (s : State) : Host.Outcome State Fault Refusal :=
  fire (shape (.wvarS pr wd wa opt km)) (fun _ _ _ w => w.fireWide (.wvarS pr wd wa opt km)) s

/-- WSHUF_S (17 R331). -/
def execWshufS (pr : BitVec 2) (wd : BitVec 5) (wa : BitVec 5) (wb : BitVec 5) (km : BitVec 3) (s : State) : Host.Outcome State Fault Refusal :=
  fire (shape (.wshufS pr wd wa wb km)) (fun _ _ _ w => w.fireWide (.wshufS pr wd wa wb km)) s

/-- XACC (17 R340). -/
def execXacc (pr : BitVec 2) (xd : BitVec 2) (wa : BitVec 5) (wb : BitVec 5) (ksel : BitVec 3) (s : State) : Host.Outcome State Fault Refusal :=
  fire (shape (.xacc pr xd wa wb ksel)) (fun _ _ _ w => w.fireWide (.xacc pr xd wa wb ksel)) s

/-- XADD (17 R340). -/
def execXadd (pr : BitVec 2) (xd : BitVec 2) (xs : BitVec 2) (s : State) : Host.Outcome State Fault Refusal :=
  fire (shape (.xadd pr xd xs)) (fun _ _ _ w => w.fireWide (.xadd pr xd xs)) s

/-- XCLR (17 R340). -/
def execXclr (pr : BitVec 2) (xd : BitVec 2) (s : State) : Host.Outcome State Fault Refusal :=
  fire (shape (.xclr pr xd)) (fun _ _ _ w => w.fireWide (.xclr pr xd)) s

/-- XMOV (17 R340). -/
def execXmov (pr : BitVec 2) (xd : BitVec 2) (xs : BitVec 2) (s : State) : Host.Outcome State Fault Refusal :=
  fire (shape (.xmov pr xd xs)) (fun _ _ _ w => w.fireWide (.xmov pr xd xs)) s

/-- WLD (17 R334). -/
def execWld (pr : BitVec 2) (wd : BitVec 5) (km : BitVec 3) (s : State) : Host.Outcome State Fault Refusal :=
  if !s.work.wideIdle then .fault .notEnabled
  else fire (shape (.wld pr wd km)) (fun a b _ w => w.fireWideMem (.wld pr wd km) .plainLoad (w.laneEas km.toNat a b)) s

/-- WST (17 R334). -/
def execWst (pr : BitVec 2) (wd : BitVec 5) (km : BitVec 3) (s : State) : Host.Outcome State Fault Refusal :=
  if !s.work.wideIdle then .fault .notEnabled
  else fire (shape (.wst pr wd km)) (fun a b _ w => w.fireWideMem (.wst pr wd km) .plainStore (w.laneEas km.toNat a b)) s

/-- XST (17 R340). -/
def execXst (pr : BitVec 2) (xs : BitVec 2) (s : State) : Host.Outcome State Fault Refusal :=
  fire (shape (.xst pr xs)) (fun a _ _ w => w.fireWideMem (.xst pr xs) .plainStore (Work.accEas a)) s

/-- XLD (17 R340). -/
def execXld (pr : BitVec 2) (xd : BitVec 2) (s : State) : Host.Outcome State Fault Refusal :=
  fire (shape (.xld pr xd)) (fun a _ _ w => w.fireWideMem (.xld pr xd) .plainLoad (Work.accEas a)) s

/-- WCFG (17 R337). -/
def execWcfg (pr : BitVec 2) (s : State) : Host.Outcome State Fault Refusal :=
  fireAccess (shape (.wcfg pr)) (fun a _ _ w => w.fireWcfg (.wcfg pr) a) s

/-- WRUN (17 R338). -/
def execWrun (pr : BitVec 2) (s : State) : Host.Outcome State Fault Refusal :=
  fireAccess (shape (.wrun pr)) (fun a _ _ w => w.fireWrun (.wrun pr) a) s

/-- XSGN (17 R341). -/
def execXsgn (pr : BitVec 2) (acc : BitVec 2) (t1 : BitVec 9) (t0 : BitVec 9) (s : State) : Host.Outcome State Fault Refusal :=
  if !s.work.wideIdle then .fault .notEnabled
  else fire (shape (.xsgn pr acc t1 t0)) (fun _ _ _ w =>
    if w.wideForbidden then w.trap Cause.detAtomic (BitVec.ofNat 64 w.focus.idx)
    else
      let r : Word × FpFlags := (let r := ((w.tile w.focus.tile).wide.acc acc.toNat).sign; (BitVec.ofInt 64 r.1, r.2))
      ((w.onBlock (fun b => { b with flags := b.flags ||| r.2, wide := true })).deliver (shape (.xsgn pr acc t1 t0)) r.1 2)) s

/-- XRND (17 R341). -/
def execXrnd (pr : BitVec 2) (rm : BitVec 2) (acc : BitVec 2) (t1 : BitVec 9) (t0 : BitVec 9) (s : State) : Host.Outcome State Fault Refusal :=
  if !s.work.wideIdle then .fault .notEnabled
  else fire (shape (.xrnd pr rm acc t1 t0)) (fun _ _ _ w =>
    if w.wideForbidden then w.trap Cause.detAtomic (BitVec.ofNat 64 w.focus.idx)
    else
      let r : Word × FpFlags := (let r := ((w.tile w.focus.tile).wide.acc acc.toNat).round rm.toNat; (BitVec.ofNat 64 r.1, r.2))
      ((w.onBlock (fun b => { b with flags := b.flags ||| r.2, wide := true })).deliver (shape (.xrnd pr rm acc t1 t0)) r.1 8)) s

end Sys2Proof.Machine
end

