-- ==== Sys2Proof/Machine/Matrix.lean ====
section
/-! DEFINITION. A firing of a matrix element (13 R271 to R274; 03 R77): MMA, MXLD, MXDRAIN. -/

namespace Sys2Proof.Machine

open Sys2Proof

namespace Slot

/-- Fields of an ME context word (07 R163). -/
def meShape (S : Slot) : Nat := bits S.cw 29 3
def meFmt (S : Slot) : Nat := bits S.cw 25 4
def meMx (S : Slot) : Bool := bit S.cw 24
def meSpar (S : Slot) : Nat := bits S.cw 22 2
def meInt (S : Slot) : Bool := bit S.cw 21
def meAcc (S : Slot) : Bool := bit S.cw 18

/-- M and N (13 R271). -/
def meM (S : Slot) : Nat := match S.meShape with
  | 0 => 32
  | 1 => 16
  | 2 => 8
  | _ => 32
def meN (S : Slot) : Nat := if S.meShape == 3 then 8 else 16

end Slot

/-- Lane width of an ME format (13 R272): codes of 07 R163. -/
def meWidth (fmt : Nat) : Nat := match fmt with
  | 4 => 4
  | 8 => 4
  | 5 => 16
  | 6 => 16
  | _ => 8

/-- kstep, ks and mb (13 R272). -/
def sparShape (spar : Nat) : Nat × Nat × Nat := match spar with
  | 0 => (2, 2, 0)
  | 1 => (4, 2, 4)
  | _ => (8, 4, 12)

/-- n ÷ d, rounded up. -/
def ceilDiv (n d : Nat) : Nat := (n + d - 1) / d

/-- A floating ME format. -/
def meFp (fmt : Nat) : Fmt := match fmt with
  | 0 => e4m3
  | 1 => e5m2
  | 2 => e3m2
  | 3 => e2m3
  | 4 => e2m1
  | 5 => bf16
  | _ => fp16

/-- The exact value of a word of an ME format. -/
def meValue (fmt v : Nat) : Fp :=
  if fmt == 7 then (let x := signedBits v 8; .fin (x < 0) x.natAbs 0)
  else if fmt == 8 then (let x := signedBits v 4; .fin (x < 0) x.natAbs 0)
  else .of (meFp fmt) v

/-- A word flit as it is buffered: mask and payload in one number. -/
def packWord (f : Flit) : Nat := f.mask * 2 ^ 128 + f.payload

/-- Value q of buffered flits that hold values of a lane width; one in an invalid lane is +0 (13 R272). -/
def bufValue (width : Nat) (fs : List Nat) (q : Nat) : Nat :=
  let vpf := 128 / width
  let f := listGet 0 (q / vpf) fs
  let i := q % vpf
  let lane := if width == 4 then i / 2 else i
  if !bit f (128 + lane) then 0
  else if width == 4 then bits f (8 * lane + 4 * (i % 2)) 4 else bits f (width * i) width

/-- The bits of buffered flits as one number, the first flit lowest. -/
def bufBits : List Nat → Nat
  | [] => 0
  | f :: fs => low f 128 + 2 ^ 128 * bufBits fs

/-- The exact product of two values and of two E8M0 scales (03 R53): none for NaN. -/
def exactProduct (a b : Fp) (sa sb : Option Int) : Fp :=
  match sa, sb with
  | some sa, some sb =>
    match a, b with
    | .fin na ma ea, .fin nb mb eb => .fin (na != nb) (ma * mb) (ea + eb + sa + sb)
    | .inf na, .inf nb => .inf (na != nb)
    | .inf na, .fin nb mb _ => if mb == 0 then .nan false else .inf (na != nb)
    | .fin na ma _, .inf nb => if ma == 0 then .nan false else .inf (na != nb)
    | _, _ => .nan false
  | _, _ => .nan false

/-- An exact sum of products, zero −0 only if every product is −0 (03 R77). -/
def exactSumFp (xs : List Fp) : Fp :=
  let infs := xs.filter Fp.isInf
  if xs.any Fp.isNan || (infs.any Fp.neg && infs.any (fun x => !x.neg)) then .nan false
  else match infs with
  | x :: _ => x
  | [] =>
    let s := xs.foldl (fun s x => match x with
      | .fin n m e => exactAdd s.1 s.2 (sgn n m) e
      | _ => s) ((0 : Int), (0 : Int))
    if s.1 == 0 then .fin (!xs.isEmpty && xs.all (fun x => x.neg && x.isZero)) 0 0 else .fin (s.1 < 0) s.1.natAbs s.2

/-- An exact value rounded to FP32, RNE. -/
def toFp32 (x : Fp) : Nat := match x with
  | .nan _ => fp32.nanEnc
  | .inf n => fp32.signed n fp32.infEnc
  | .fin n m e => (roundTo fp32 0 n m e false).1

/-- An E8M0 scale as a power of two (03 R53): none for its NaN. -/
def e8m0 (v : Nat) : Option Int := if v == 0xFF then none else some ((v : Int) - 127)

/-- The geometry of an MMA's operands (13 R272). -/
structure MmaGeom where
  m : Nat
  n : Nat
  kstep : Nat
  ks : Nat
  mb : Nat
  width : Nat
  /-- scale flits of a block, value flits and metadata flits of a step: of A, and of B -/
  sa : Nat
  va : Nat
  ma : Nat
  sb : Nat
  vb : Nat

/-- The geometry of a slot. -/
def mmaGeom (S : Slot) : MmaGeom :=
  let sp := sparShape S.meSpar
  let width := meWidth S.meFmt
  let vpf := 128 / width
  { m := S.meM, n := S.meN, kstep := sp.1, ks := sp.2.1, mb := sp.2.2, width := width,
    sa := if S.meMx then ceilDiv S.meM 16 else 0, va := ceilDiv (S.meM * sp.2.1) vpf, ma := ceilDiv (S.meM * sp.2.2) 128,
    sb := if S.meMx then ceilDiv S.meN 16 else 0, vb := ceilDiv (sp.1 * S.meN) vpf }

/-- The k within its step of A value r of row i in buffered step j (13 R272). -/
def mmaIndex (g : MmaGeom) (bufA : List Nat) (j i r : Nat) : Nat :=
  if g.mb == 0 then r
  else
    let meta_ := bufBits (((bufA.drop (g.sa + j * (g.va + g.ma) + g.va))).take g.ma)
    let w := g.mb / g.ks
    bits meta_ (g.mb * i + w * r) w

/-- The indices of every group of a step ascend strictly. -/
def mmaAscends (g : MmaGeom) (bufA : List Nat) (j : Nat) : Bool :=
  (List.range g.m).all (fun i => (List.range (g.ks - 1)).all (fun r => mmaIndex g bufA j i r < mmaIndex g bufA j i (r + 1)))

/-- Row i's values of A in step j: index within the step, and value. -/
def mmaRow (g : MmaGeom) (bufA : List Nat) (j i : Nat) : List (Nat × Nat) :=
  let fs := (bufA.drop (g.sa + j * (g.va + g.ma))).take g.va
  (List.range g.ks).map (fun r => (mmaIndex g bufA j i r, bufValue g.width fs (i * g.ks + r)))

/-- B's value at (k, column j) in step s. -/
def mmaCol (g : MmaGeom) (bufB : List Nat) (s k col : Nat) : Nat :=
  bufValue g.width ((bufB.drop (g.sb + s * g.vb)).take g.vb) (k * g.n + col)

/-- One held sum after the chunk made of steps `j0` to `j0 + cnt − 1` (03 R77). -/
def mmaSum (S : Slot) (g : MmaGeom) (bufA bufB : List Nat) (j0 cnt i col acc : Nat) : Nat :=
  let pairs := (List.range cnt).flatMap (fun d =>
    (mmaRow g bufA (j0 + d) i).map (fun a => (a.2, mmaCol g bufB (j0 + d) a.1 col)))
  if S.meInt then
    let v := pairs.foldl (fun s p =>
      match meValue S.meFmt p.1, meValue S.meFmt p.2 with
      | .fin na ma _, .fin nb mb _ => s + sgn na ma * sgn nb mb
      | _, _ => s) (0 : Int)
    (((acc : Int) + v) % 2 ^ 32).toNat
  else
    let sa := if S.meMx then e8m0 (bufValue 8 (bufA.take g.sa) i) else some 0
    let sb := if S.meMx then e8m0 (bufValue 8 (bufB.take g.sb) col) else some 0
    let chunk := toFp32 (exactSumFp (pairs.map (fun p => exactProduct (meValue S.meFmt p.1) (meValue S.meFmt p.2) sa sb)))
    (fpAdd fp32 0 (Fp.of fp32 acc) (Fp.of fp32 chunk)).1

namespace Work

/-- Every held sum of the shape after a chunk. -/
def mmaChunk (w : Work) (S : Slot) (bufA bufB : List Nat) (j0 cnt : Nat) : Work :=
  if cnt == 0 then w
  else
    let g := mmaGeom S
    w.onElem S (fun e =>
      { e with held := (List.range g.m).foldl (fun h i => (List.range g.n).foldl (fun h col =>
          mapSet (i * 16 + col) (mmaSum S g bufA bufB j0 cnt i col (mapGet 0 (i * 16 + col) e.held)) h) h) e.held })

/-- The flits of a drain (13 R273): M × N ÷ 4 and a colophon with LAST. -/
def drainFlits (S : Slot) (held : List (Nat × Nat)) : List Flit :=
  (List.range (S.meM * S.meN / 4)).map (fun f =>
    let i := f / (S.meN / 4)
    let j := 4 * (f % (S.meN / 4))
    ({ kind := 2, tag := 0, mask := 15, payload := (List.range 4).foldl (fun v l =>
        v + low (mapGet 0 (i * 16 + j + l) held) 32 * 2 ^ (32 * l)) 0 } : Flit))
  ++ [wordColophon false true false]

/-- A flit that leaves a drain, or the drain's start once the sums are final (13 R273). -/
def drainStep (w : Work) (S : Slot) : Fired :=
  let x := w.op S
  match x.queue with
  | f :: rest => if w.now < (w.elem S.tile S.elem).settled then none else some (w.setOp S { x with queue := rest }, some f, 1)
  | [] => none

/-- An operand error of an ME: what it holds is dropped, and the streams under way are discarded to their colophons. -/
def meFail (w : Work) (S : Slot) (open_ : List Nat) : Work :=
  let w := w.slotError S errOrder 0
  let x := w.op S
  let w := w.setOp S { x with bufA := [], bufB := [], cnt := 0, issued := 0, performed := 0, lanes := 0, opened := false }
  open_.foldl (fun w p => w.discardInput S p) w

/-- The port of an operand whose turn it is: `n` flits have been taken (13 R272). -/
def turnPort (p0 p1 n : Nat) : Nat := if n % 2 == 0 then p0 else p1

/-- One flit of an operand of an ME, if it is there and wanted: the port, and the flit. Each port carries a stream of its own,
which its colophon ends; `ended` are the ports that have ended. -/
def meTake (w : Work) (S : Slot) (p0 p1 n ended : Nat) (want : Bool) : Option (Nat × Flit) :=
  let x := w.op S
  let p := turnPort p0 p1 n
  let q := if bit ended p then p0 + p1 - p else p
  if bit ended q || x.discard.contains q then none
  else
    match w.headAt S q with
    | none => none
    | some f => if f.kind == 3 || want then some (q, f) else none

/-- The operation of MMA at its end: the last chunk, and the drain if it has a route (13 R271, R272). -/
def mmaEnd (w : Work) (S : Slot) : Work :=
  let g := mmaGeom S
  let x := w.op S
  let per := 16 / g.kstep
  let j := x.cnt % (32 / g.kstep)
  let whole := x.bufA.length == (if j == 0 then 0 else g.sa + j * (g.va + g.ma)) && x.bufB.length == (if j == 0 then 0 else g.sb + j * g.vb)
  if !whole then w.meFail S []
  else
    let w := w.mmaChunk S x.bufA x.bufB (j / per * per) (j % per)
    let w := w.setOp S { w.op S with bufA := [], bufB := [], cnt := 0, issued := 0, performed := 0, lanes := 0, opened := false }
    if S.route % 32 == 0 && !bit S.route 5 then w
    else w.setOp S { w.op S with queue := drainFlits S (w.elem S.tile S.elem).held }

/-- A flit that an ME's operand may not bring next: no word or colophon, a malformed colophon, a word out of its port's turn or after
another port's end, one with a lane beyond `lanes` (03 R66, R67), or one more than the other operand leaves room for (13 R272). -/
def meBad (ended n p0 p1 lanes : Nat) (room : Bool) (t : Option (Nat × Flit)) : Bool :=
  t.any (fun t => (t.2.kind != 2 && t.2.kind != 3) || (t.2.kind == 3 && wordColophonBad t.2)
    || (t.2.kind == 2 && (bit ended (p0 + p1 - t.1) || t.1 != turnPort p0 p1 n || 2 ^ lanes ≤ t.2.mask || !room)))

/-- The lanes of flit k of A in its block: 16, or of a value flit those of the format (13 R272). -/
def lanesA (g : MmaGeom) (k : Nat) : Nat := if g.sa ≤ k && (k - g.sa) % (g.va + g.ma) < g.va then 128 / max 8 g.width else 16

/-- The lanes of flit k of B in its block. -/
def lanesB (g : MmaGeom) (k : Nat) : Nat := if g.sb ≤ k then 128 / max 8 g.width else 16

/-- A firing of MMA (13 R271 to R273): it takes the next flit of each operand that the step under way wants, or makes the step. Once one
operand has ended short of the step, a flit of the other that the step has no room for is a mismatch. -/
def mmaFire (w : Work) (S : Slot) : Fired :=
  let x := w.op S
  let g := mmaGeom S
  if !x.queue.isEmpty then w.drainStep S
  else
    let perBlock := 32 / g.kstep
    let j := x.cnt % perBlock
    let needA := g.sa + (j + 1) * (g.va + g.ma)
    let needB := g.sb + (j + 1) * g.vb
    if needA ≤ x.bufA.length && needB ≤ x.bufB.length then
      if !mmaAscends g x.bufA j then
        some (w.meFail S ([3, 2, 0, 1].filter (fun p => !bit x.lanes p)), none, 1)
      else
        let busy := max 1 (ceilDiv (g.m * g.n * g.ks) (if g.width == 16 then 256 else if g.width == 8 then 512 else 1024))
        let per := 16 / g.kstep
        let w := if (j + 1) % per == 0 then w.mmaChunk S x.bufA x.bufB (j + 1 - per) per else w
        let x := w.op S
        let last := j + 1 == perBlock
        let w := w.setOp S { x with cnt := x.cnt + 1, bufA := if last then [] else x.bufA, bufB := if last then [] else x.bufB }
        some (w.onElem S (fun e => { e with settled := w.now + busy + 24 }), none, busy)
    else
      let roomA := x.bufA.length < needA
      let roomB := x.bufB.length < needB
      let a := w.meTake S 3 2 x.issued x.lanes (roomA || (roomB && bits x.lanes 0 2 == 3))
      let b := w.meTake S 0 1 x.performed x.lanes (roomB || (roomA && bits x.lanes 2 2 == 3))
      if a.isNone && b.isNone then none
      else
        if meBad x.lanes x.issued 3 2 (lanesA g x.bufA.length) roomA a || meBad x.lanes x.performed 0 1 (lanesB g x.bufB.length) roomB b then
          some (w.meFail S ([3, 2, 0, 1].filter (fun p => !bit x.lanes p)), none, 1)
        else
          -- ACC = 0 starts from +0
          let w := if x.opened || S.meAcc then w
            else w.onElem S (fun e => { e with held := e.held.filter (fun h => g.m ≤ h.1 / 16 || g.n ≤ h.1 % 16) })
          let w := (a.toList ++ b.toList).foldl (fun w t => w.takeAt S t.1) w
          let x := w.op S
          let wa := a.toList.filter (fun t => t.2.kind == 2)
          let wb := b.toList.filter (fun t => t.2.kind == 2)
          let ends := ((a.toList ++ b.toList).filter (fun t => t.2.kind == 3)).foldl (fun m t => Nat.lor m (2 ^ t.1)) x.lanes
          let x := { x with opened := true, bufA := x.bufA ++ wa.map (fun t => packWord t.2), bufB := x.bufB ++ wb.map (fun t => packWord t.2),
                            issued := x.issued + wa.length, performed := x.performed + wb.length, lanes := ends }
          let w := w.setOp S x
          some (if ends == 15 then w.mmaEnd S else w, none, 1)

/-- A firing of MXLD (13 R274): W and S alternate; the words replace the sums once the colophons have come. -/
def mxldFire (w : Work) (S : Slot) : Fired :=
  let x := w.op S
  match w.meTake S 3 2 x.issued x.lanes true with
  | none => none
  | some (p, f) =>
    if meBad x.lanes x.issued 3 2 4 true (some (p, f)) then
      some ((w.takeAt S p).meFail S ([3, 2].filter (fun q => !bit x.lanes q)), none, 1)
    else
      let w := w.takeAt S p
      let x := w.op S
      if f.kind == 2 then some (w.setOp S { x with bufA := x.bufA ++ [packWord f], issued := x.issued + 1 }, none, 1)
      else
        let ends := Nat.lor x.lanes (2 ^ p)
        if ends != 12 then some (w.setOp S { x with lanes := ends }, none, 1)
        else if x.bufA.length != S.meM * S.meN / 4 then some (w.meFail S [], none, 1)
        else
          let w := w.onElem S (fun e => { e with held := (List.range S.meM).foldl (fun h i => (List.range S.meN).foldl (fun h j =>
            mapSet (i * 16 + j) (bufValue 32 x.bufA (i * S.meN + j)) h) h) e.held })
          some (w.setOp S { w.op S with bufA := [], issued := 0, lanes := 0 }, none, 1)

/-- A firing of MXDRAIN (13 R273). -/
def mxdrainFire (w : Work) (S : Slot) : Fired :=
  let x := w.op S
  if x.queue.isEmpty && (w.elem S.tile S.elem).settled ≤ w.now then
    (w.setOp S { x with queue := drainFlits S (w.elem S.tile S.elem).held, arm := w.lastArm S.tile }).drainStep S
  else w.drainStep S

/-- A firing of a matrix element's slot. -/
def meFire (w : Work) (S : Slot) : Fired :=
  match S.opc with
  | 0 => w.mmaFire S
  | 1 => w.mxldFire S
  | _ => w.mxdrainFire S

/-- The inputs that an ME's next firing waits for. -/
def meNeeds (w : Work) (S : Slot) : List Nat :=
  let x := w.op S
  if S.opc == 2 then []
  else if S.opc == 1 then [turnPort 3 2 x.issued]
  else [turnPort 3 2 x.issued, turnPort 0 1 x.performed]

/-- An ME has taken something that is still to be processed. -/
def meBusy (w : Work) (S : Slot) : Bool :=
  let x := w.op S
  x.opened || !x.bufA.isEmpty || !x.bufB.isEmpty || x.lanes != 0 || !x.discard.isEmpty

/-- A drain whose last route a kill has made dead (13 R274): it stops and sends a colophon with CUT. -/
def meAbandon (w : Work) (S : Slot) : Work :=
  let x := w.op S
  if x.queue.isEmpty then w else w.setOp S { x with queue := [wordColophon true false false], abandoned := true }

end Work

end Sys2Proof.Machine
end

