-- ==== Sys2Proof/Machine/Banks.lean ====
section
/-! DEFINITION. Memory accesses of the fabric (05 R95, R98, R102, R121; 15 R281, R285), ordering arcs, and a firing of a memory-bank
element (15 R282 to R288). -/

namespace Sys2Proof.Machine

open Sys2Proof

/-- What an access of the fabric does: it is made, its word is not ready, a claim holds it back, or it raises an error. -/
inductive AccRes where
  | done (v : Nat)
  | wait
  | heldBack
  | bad (kind : Nat)
  deriving DecidableEq, Repr

/-- Bits and format of a TYPE code (07 R164). -/
def typeWidth (typ : Nat) : Nat := if typ ≤ 2 then 64 else 32
def typeIsFp (typ : Nat) : Bool := typ == 2 || typ == 3
def typeSigned (typ : Nat) : Bool := typ == 0 || typ == 4

/-- The update of an MB sink or a SCAT (15 R283): 0 RADD, 1 RMIN, 2 RMAX, 3 RAND, 4 ROR, 5 RXOR. -/
def updateValue (opc typ old v : Nat) : Nat :=
  let n := typeWidth typ
  let f := if n == 32 then fp32 else fp64
  let old := low old n
  let v := low v n
  match opc with
  | 0 => if typeIsFp typ then (fpAdd f 0 (Fp.of f old) (Fp.of f v)).1 else low (old + v) n
  | 1 =>
    if typeIsFp typ then (fpMinMax f false old v).1
    else if typeSigned typ then (if signedBits v n < signedBits old n then v else old) else min old v
  | 2 =>
    if typeIsFp typ then (fpMinMax f true old v).1
    else if typeSigned typ then (if signedBits old n < signedBits v n then v else old) else max old v
  | 3 => Nat.land old v
  | 4 => Nat.lor old v
  | _ => Nat.xor old v

namespace Slot

/-- The slot carries arc fields (15 R281). -/
def arcs (S : Slot) : Bool := (S.kind == 3 && (bit S.cw 2 || S.opc == 2 || S.opc == 3)) || (S.kind == 2 && bit S.cw 1)

/-- ARCID, PRED and WHOLE (15 R281), 0 without arc fields. -/
def arcId (S : Slot) : Nat := if S.arcs then bits S.pw 4 6 else 0
def arcPred (S : Slot) : Nat := if S.arcs then bits S.pw 10 6 else 0
def arcWhole (S : Slot) : Bool := S.arcs && bit S.pw 16

/-- TYPE of an MB slot (07 R164), SERIAL (15 R287). -/
def mbType (S : Slot) : Nat := bits S.cw 24 3
def serial (S : Slot) : Bool := S.arcs && bit S.pw 17

/-- The slot makes floating-point updates of a bank (15 R288). -/
def fpUpdates (S : Slot) : Bool :=
  (S.kind == 2 && typeIsFp S.mbType && [0, 1, 2, 6].contains S.opc) || (S.kind == 3 && S.opc == 3 && bits S.pw 17 4 != 0 && typeIsFp (bits S.pw 21 3))

end Slot

/-- The offsets between two direct-window offsets take in bank b (00 R8; 05 R90). -/
def hitsBank (lo hi b : Nat) : Bool :=
  1024 ≤ hi - lo + 64 || (List.range ((hi / 64 - lo / 64) + 1)).any (fun i => (lo / 64 + i) % 16 == b)

namespace Work

/-- The fabric of a region as the maker of accesses (05 R91). -/
def fabricWho (w : Work) (t : Nat) : Who :=
  match w.regionOf t with
  | none => ⟨0, false, [], [], none⟩
  | some r => ⟨r.asid, false, r.live, r.passTiles, none⟩

/-- Make an access at a translated address (05 R95, R96, R98): 0 to 3 load plain, waiting, consuming, test; 4 to 6 store plain,
filling, clearing; 8 + s update by SOP s. `u` is the bit of an ALL_EMPTY or ALL_FULL page. -/
def accessAt (w : Work) (op typ size pa : Nat) (u : Option Bool) (v : Nat) : Work × AccRes :=
  let k := pa / 8
  let claimed := w.anyClaimed [k]
  let reserved := w.core.resv.any (fun r => r.word == k)
  if (w.poisonOf pa).isSome then (w, .bad 0x13)
  else
    match op with
    | 0 => (w, .done (w.dataAt pa size u))
    | 1 => if w.bitAt pa u then (w, .done (w.dataAt pa size u)) else (w, .wait)
    | 2 =>
      if !w.bitAt pa u || reserved then (w, .wait)
      else if claimed then (w, .heldBack)
      else (w.setBit k false, .done (w.dataAt pa size u))
    | 3 => (w, .done (if w.bitAt pa u then 1 else 0))
    | 4 => if claimed then (w, .heldBack) else (w.store pa size v, .done 0)
    | 5 =>
      if w.bitAt pa u || reserved then (w, .wait)
      else if claimed then (w, .heldBack)
      else ((w.store pa size v).setBit k true, .done 0)
    | 6 => if claimed then (w, .heldBack) else ((w.store pa size v).setBit k false, .done 0)
    | _ =>
      if claimed then (w, .heldBack)
      else (w.store pa size (updateValue (op - 9) typ (w.load pa size) v), .done 0)

/-- The active slots of a region. -/
def regionSlots (w : Work) (live : List Nat) : List Slot :=
  (w.core.elems.filter (fun x => live.contains (x.1 / 256))).flatMap (fun x => w.elemSlots (x.1 / 256) (x.1 % 256))

/-- Some chain of arcs leads from slot S back to the node of arc number a (15 R281). -/
def chainTo (ss : List Slot) (a : Nat) : Nat → Slot → Bool
  | 0, _ => false
  | fuel + 1, S =>
    if S.arcPred == 0 then false
    else if S.arcPred == a then true
    else
      match ss.find? (fun T => T.arcId == S.arcPred) with
      | none => false
      | some T => chainTo ss a fuel T

/-- A chain of arcs joins two nodes. -/
def joined (ss : List Slot) (S T : Slot) : Bool :=
  (T.arcId != 0 && chainTo ss T.arcId 64 S) || (S.arcId != 0 && chainTo ss S.arcId 64 T)

/-- The accesses of a slot's arming under way that have performed, each with every one before it (15 R281). -/
def performedBy (w : Work) (S : Slot) : Nat :=
  let y := w.op S
  if S.kind == 2 then y.performed
  else
    let spilled := ((w.elem S.tile S.elem).spill.filter (fun p => p.slot == S.s)).map (·.n)
    let away := (w.core.tokens.filter (fun k => k.tile == S.tile && k.elem == S.elem && k.slot == S.s && k.reply.isNone)).map (·.pos)
    (spilled ++ away).foldl min y.issued

/-- Access n (from 0) of the arming under way may be issued (15 R281). -/
def arcOk (w : Work) (S : Slot) (n : Nat) : Bool :=
  if S.arcPred == 0 then true
  else
    match w.regionOf S.tile with
    | none => true
    | some r =>
      match (w.regionSlots r.live).find? (fun T => T.arcId == S.arcPred) with
      | none => true
      | some T =>
        let x := w.op S
        let y := w.op T
        x.armings < y.armings || (x.armings == y.armings && !S.arcWhole && n < w.performedBy T)

/-- The lowest and highest byte that a pattern of `size`-byte accesses declares (07 R158), the strides signed. -/
def declared (p : Strm) (dims size : Nat) : Int × Int :=
  let ds := (p.counts.zip p.strides).take dims
  (ds.foldl (fun a d => a + min 0 (((d.1 : Int) - 1) * d.2)) (p.base : Int),
   ds.foldl (fun a d => a + max 0 (((d.1 : Int) - 1) * d.2)) (p.base : Int) + size - 1)

/-- A declared range of virtual addresses can reach bank `b` of tile `t` (05 R126; 15 R288). -/
def reachesBank (lo hi : Int) (t b : Nat) : Bool :=
  let base : Int := (0xFF * 2 ^ 64 + t * 0x200000 : Nat)
  let l := max lo base - base
  let h := min hi (base + 0x17FFFF) - base
  if h < l then false else hitsBank l.toNat h.toNat b

/-- The stream of an SP slot in the active plane. -/
def streamOf (w : Work) (S : Slot) : Strm := mapGet {} S.s (w.activePlane S.tile S.elem).strm

/-- The range that an SP slot declares. -/
def spRange (w : Work) (S : Slot) : Int × Int :=
  declared (w.streamOf S) (bits S.cw 21 2 + 1) (2 ^ bits S.cw 23 2)

/-- What a deterministic task forbids at a memory slot's first firing (15 R288, R294): the KIND of its error. -/
def detError (w : Work) (S : Slot) : Option Nat :=
  match w.regionOf S.tile with
  | none => none
  | some r =>
    if !bit r.mode.toNat 0 then none
    else if S.kind == 2 && [6, 7, 8].contains S.opc && !typeIsFp S.mbType then some 0x0B
    else if !S.fpUpdates then none
    else if S.kind == 2 && !S.serial then some 0x0C
    else
      let ss := w.regionSlots r.live
      let meets (T : Slot) : Bool :=
        if S.kind == 2 then
          (if T.kind == 2 then T.tile == S.tile && T.elem == S.elem
           else let g := w.spRange T; reachesBank g.1 g.2 S.tile (S.elem / 16))
        else
          let g := w.spRange S
          if T.kind == 2 then reachesBank g.1 g.2 T.tile (T.elem / 16)
          else let h := w.spRange T; g.1 ≤ h.2 && h.1 ≤ g.2
      if ss.any (fun T => T != S && T.fpUpdates && meets T && !joined ss S T) then some 0x0C else none

/-- What a deterministic task forbids, at a firing for which every input has a flit (15 R288, R294); before that such a slot takes
nothing. -/
def detFire (w : Work) (S : Slot) (k : Nat) : Fired :=
  if S.taken.all (fun p => (w.headAt S p).isSome) then
    some (let w := w.slotError S k 0; w.setOp S { w.op S with halted := true, barred := true }, none, 1)
  else none

/-- A memory slot's arming ends at a colophon with LAST (15 R281, R291). -/
def endArming (w : Work) (S : Slot) (last : Bool) : Work :=
  let x := w.op S
  if last then w.setOp S { x with issued := 0, performed := 0, armings := x.armings + 1, done := false } else w

/-- A colophon that a memory slot takes or discards on an input ends its arming there (15 R281, R291): that of input A, which the others
accompany. -/
def endsArming (w : Work) (S : Slot) (sel : Nat) (f : Flit) : Work :=
  if f.kind == 3 && sel == listGet 7 0 S.sels && (S.kind == 2 || S.kind == 3) then w.endArming S f.flags.2.1 else w

/-- A colophon ends the discarding of its input (13 R266). -/
def endDiscard (w : Work) (S : Slot) (sel : Nat) (f : Flit) : Work :=
  if f.kind == 3 then w.setOp S { w.op S with discard := (w.op S).discard.filter (· != sel) } else w

/-- A slot halted by an error takes the flits of its inputs and drops them (15 R309); its armings end all the same. -/
def dropInputs (w : Work) (S : Slot) : Fired :=
  match S.taken.find? (fun p => (w.headAt S p).isSome) with
  | none => none
  | some p =>
    match w.headAt S p with
    | none => none
    | some f => some (((w.takeAt S p).endDiscard S p f).endsArming S p f, none, 1)

/-- An error in the streams of a word operation (15 R309): the rest of its streams is discarded up to their colophons; a slot with
routes ends its output with a CUT colophon. `ended` are the inputs whose colophon has been taken. -/
def wordFail (w : Work) (S : Slot) (ended : List Nat) : Work :=
  let w := w.slotError S errOrder 0
  let x := w.op S
  let w := w.setOp S { x with taking := none, lanes := 0, bufA := [], bufB := [], cnt := 0, opened := false, openedB := false,
                              queue := if S.route % 64 == 0 then [] else [wordColophon true false false] }
  (S.taken.filter (fun p => !ended.contains p)).foldl (fun w p => w.discardInput S p) w

/-! ### MB slots (15 R282 to R287) -/

/-- The positions of a group that an index flit holds: valid, offset. -/
def indexLanes (f : Flit) : List (Bool × Nat) := (List.range 4).map (fun q => (bit f.mask q, bits f.payload (32 * q) 32))

/-- The values of a group from its buffered value flits (15 R278): four positions of n bits. -/
def groupValues (n : Nat) (fs : List Nat) : List (Bool × Nat) :=
  let l := min 4 (128 / n)
  (List.range 4).map (fun q =>
    let f := listGet 0 (q / l) fs
    (bit f (128 + q % l), bits f (n * (q % l)) n))

/-- The value flits of a returned group. -/
def returnFlits (n : Nat) (vs : List (Bool × Nat)) : List Flit :=
  let l := min 4 (128 / n)
  let pack (vs : List (Bool × Nat)) : Flit :=
    ((List.range l).zip vs).foldl (fun f v =>
      if v.2.1 then { f with mask := f.mask + 2 ^ v.1, payload := f.payload + low v.2.2 n * 2 ^ (n * v.1) } else f)
      { kind := 2, tag := 0, mask := 0, payload := 0 }
  if l == 2 then [pack (vs.take 2), pack (vs.drop 2)] else [pack vs]

/-- Value flits of a group are laid out well: no lane beyond L, a value exactly where its index is valid (15 R278). -/
def groupOk (n : Nat) (idx : Flit) (fs : List Nat) : Bool :=
  let l := min 4 (128 / n)
  idx.mask < 16 && fs.all (fun f => f / 2 ^ (128 + l) == 0)
    && ((groupValues n fs).zip (indexLanes idx)).all (fun p => p.1.1 == p.2.1)

/-- The check of an offset at a bank (15 R282): the KIND of the error. -/
def offsetError (S : Slot) (n o : Nat) : Option Nat :=
  if 0x180000 ≤ o then some 0x06
  else if bits o 6 4 != S.elem / 16 then some 0x84
  else if o % (n / 8) != 0 then some 0x04
  else none

/-- Apply one position of an MB slot at its word (15 R283, R284, R286): the old value. -/
def bankApply (w : Work) (S : Slot) (o v expect : Nat) : Work × AccRes :=
  let pa := stashBase S.tile + o
  let n := typeWidth S.mbType
  let size := n / 8
  if S.opc == 10 then
    (if listGet 7 1 S.sels == 7 then w.accessAt 2 0 size pa none 0 else w.accessAt 5 0 size pa none v)
  else if (w.poisonOf pa).isSome then (w, .bad 0x13)
  else if w.anyClaimed [pa / 8] then (w, .heldBack)
  else
    let old := w.load pa size
    let new := match S.opc with
      | 6 => updateValue 0 S.mbType old v
      | 7 => v
      | 8 => if old == low expect n then v else old
      | k => updateValue k S.mbType old v
    (if S.opc == 8 && old != low expect n then w else w.store pa size new, .done old)

/-- Apply the positions of the group in hand from position `q` on (15 R282): none once one cannot be applied now. The old values
gather in `elems`. -/
def applyGroup (w : Work) (S : Slot) (idx : Flit) : Nat → Nat → Work × Bool
  | 0, _ => (w, true)
  | fuel + 1, q =>
    if 4 ≤ q then (w, true)
    else
      let n := typeWidth S.mbType
      let x := w.op S
      let next (w : Work) (v : Option Nat) : Work × Bool :=
        let x := w.op S
        applyGroup (w.setOp S { x with lanes := q + 1, elems := x.elems ++ [⟨q, some v⟩] }) S idx fuel (q + 1)
      let i := listGet (false, 0) q (indexLanes idx)
      if !i.1 then next w none
      else
        match offsetError S n i.2 with
        | some k => next (w.slotError S k 0) none
        | none =>
          if !w.arcOk S x.performed then (w, false)
          else
            match w.bankApply S i.2 (listGet (false, 0) q (groupValues n x.bufA)).2 (listGet (false, 0) q (groupValues n x.bufB)).2 with
            | (w, .done old) =>
              let w := w.onElem S (fun e => { e with count := (e.count + 1) % 2 ^ 64 })
              let w := w.setOp S { w.op S with performed := (w.op S).performed + 1 }
              next w (some old)
            | (w, .bad k) => next (w.slotError S k 0) none
            | (w, _) => (w, false)

/-- The group in hand once every position is applied: its old values leave on the routes (15 R284). -/
def endGroup (w : Work) (S : Slot) : Work :=
  let x := w.op S
  let vs := x.elems.map (fun e => match e.val with
    | some (some v) => (true, v)
    | _ => (false, 0))
  let out := if S.route % 64 == 0 || w.allDead S then [] else returnFlits (typeWidth S.mbType) vs
  w.setOp S { x with taking := none, lanes := 0, elems := [], bufA := [], bufB := [], queue := x.queue ++ out }

/-- A firing of an MB slot but GAPPLY: it takes the flits of a group as they come, and applies the group in hand. -/
def mbFire (w : Work) (S : Slot) : Fired :=
  let x := w.op S
  if x.halted then w.dropInputs S
  else
    match w.detError S with
    | some k => w.detFire S k
    | none =>
      match x.queue with
      | f :: rest => some (w.setOp S { x with queue := rest }, some f, 1)
      | [] =>
        let sel (i : Nat) : Nat := listGet 7 i S.sels
        let per := 4 / min 4 (128 / typeWidth S.mbType)
        let free (p : Nat) : Option Flit := if p == 7 || x.discard.contains p then none else w.headAt S p
        let want (i : Nat) (have_ : Nat) : Bool := sel i != 7 && have_ < per
        match x.taking with
        | none =>
          (match free (sel 0) with
          | none => none
          | some f =>
            if f.kind == 3 then
              -- the colophons of every input come together
              let others := [1, 2].filter (fun i => sel i != 7)
              if others.any (fun i => (free (sel i)).isNone) then none
              else if others.all (fun i => (free (sel i)).any (fun g => g.kind == 3)) && x.bufA.isEmpty && x.bufB.isEmpty then
                let fl := f.flags
                let bad := wordColophonBad f || others.any (fun i => (free (sel i)).any wordColophonBad)
                let w := S.taken.foldl (fun w p => w.takeAt S p) w
                let w := if bad then w.wordFail S S.taken else w
                let w := w.endArming S fl.2.1
                some (w, if bad || S.route % 64 == 0 then none else some (wordColophon (w.allDead S || fl.1) fl.2.1 fl.2.2), 1)
              else some (((w.takeAt S (sel 0)).wordFail S [sel 0]).endsArming S (sel 0) f, none, 1)
            else if f.kind != 2 then some ((w.takeAt S (sel 0)).wordFail S [], none, 1)
            else
              let w := w.takeAt S (sel 0)
              some (w.setOp S { w.op S with taking := some f }, none, 1))
        | some idx =>
          if want 1 x.bufA.length || want 2 x.bufB.length then
            let t1 := if want 1 x.bufA.length then free (sel 1) else none
            let t2 := if want 2 x.bufB.length then free (sel 2) else none
            if t1.isNone && t2.isNone then none
            else
              let w := if t1.isSome then w.takeAt S (sel 1) else w
              let w := if t2.isSome then w.takeAt S (sel 2) else w
              if (t1.toList ++ t2.toList).any (fun f => f.kind != 2) then
                some (w.wordFail S ((if t1.any (fun f => f.kind == 3) then [sel 1] else []) ++ (if t2.any (fun f => f.kind == 3) then [sel 2] else [])), none, 1)
              else
                let x := w.op S
                some (w.setOp S { x with bufA := x.bufA ++ t1.toList.map packWord, bufB := x.bufB ++ t2.toList.map packWord }, none, 1)
          else
            let n := typeWidth S.mbType
            if (sel 1 != 7 && !groupOk n idx x.bufA) || (sel 2 != 7 && !groupOk n idx x.bufB) || 16 ≤ idx.mask then
              some (w.wordFail S [], none, 1)
            else
              let r := w.applyGroup S idx 4 x.lanes
              if r.2 then some (r.1.endGroup S, none, 1)
              else if (r.1.op S).lanes == x.lanes then none
              else some (r.1, none, 1)

/-- The inputs that an MB slot's next firing waits for: none once it holds a whole group. -/
def mbNeeds (w : Work) (S : Slot) : List Nat :=
  let x := w.op S
  let per := 4 / min 4 (128 / typeWidth S.mbType)
  let more (i n : Nat) : List Nat := [listGet 7 i S.sels].filter (fun p => p != 7 && n < per)
  if x.taking.isNone then S.taken else more 1 x.bufA.length ++ more 2 x.bufB.length

/-- A memory or utility slot has taken something that is still to be processed. -/
def wordBusy (w : Work) (S : Slot) : Bool :=
  let x := w.op S
  x.taking.isSome || !x.bufA.isEmpty || !x.bufB.isEmpty || !x.discard.isEmpty || x.lanes != 0

end Work

end Sys2Proof.Machine
end

