-- ==== Sys2Proof/Machine/Notify.lean ====
section
/-! DEFINITION. What the package tells the host: MSI-X vectors (23 R422), the error log and the host error vector (21 R408). -/

namespace Sys2Proof.Machine

open Sys2Proof

namespace Work

/-- Send a message outward. -/
def emit (w : Work) (m : OutMsg) : Work := { w with core := { w.core with out := w.core.out ++ [m] } }

/-- MSI-X vector `v` is raised (23 R422): its message is sent, or it is pending while the vector is masked. MSI-X counts as enabled
(PRESUMED, log 9). -/
def raiseVector (w : Work) (v : Nat) : Work :=
  let x := mapGet ({} : Vector) v w.core.msix
  if x.masked then { w with core := { w.core with msix := mapSet v { x with pending := true } w.core.msix } }
  else w.emit (.msi x.addr x.data)

/-- An entry of the package error log, and the host error vector (21 R408). -/
def logError (w : Work) (kind unit addr : Nat) : Work :=
  ({ w with core := { w.core with errlog := w.core.errlog ++ [({ kind := kind, unit := unit, addr := addr, now := w.now } : LogEntry)] } }).raiseVector 0

end Work

end Sys2Proof.Machine
end

