-- ==== Sys2Proof/Machine/Ports.lean ====
section
/-! DEFINITION. Stream ports (15 R289 to R296; 05 R102, R115, R117, R118; 23 R425): the pattern, element accesses, the spill queue,
extents, tokens of GATH and SCAT, and the port's events. -/

namespace Sys2Proof.Machine

open Sys2Proof

/-! ### Errors of these elements (21 R399) -/

def errIndex : Nat := 0x85
def errNoApply : Nat := 0x86

namespace Slot

/-- FORM, SIZE in bytes, DIMS + 1, LIM of an SP slot (07 R165). -/
def form (S : Slot) : Nat := bits S.cw 25 3
def size (S : Slot) : Nat := 2 ^ bits S.cw 23 2
def dims (S : Slot) : Nat := bits S.cw 21 2 + 1
def lim (S : Slot) : Nat := bits S.cw 6 4

/-- SOP and STYPE of a SCAT (15 R294). -/
def sop (S : Slot) : Nat := if S.opc == 3 then bits S.pw 17 4 else 0
def stype (S : Slot) : Nat := bits S.pw 21 3

/-- The access of a port as the fabric numbers it. -/
def access (S : Slot) : Nat :=
  if S.opc == 0 || S.opc == 2 then S.form
  else if S.sop != 0 then 8 + S.sop
  else if S.form == 0 then 4 else if S.form == 4 then 5 else 6

/-- The access form of a port, for its permission (05 R97). -/
def accForm (S : Slot) : AccForm :=
  match S.access with
  | 0 => .plainLoad
  | 1 => .waitLoad
  | 2 => .consume
  | 3 => .test
  | 4 => .plainStore
  | 5 => .fill
  | 6 => .clear
  | _ => .red

/-- The port's form waits for a word (15 R292). -/
def waitsForm (S : Slot) : Bool := S.access == 1 || S.access == 2 || S.access == 5

/-- Lanes of a flit of the port's values (15 R289). -/
def lanes (S : Slot) : Nat := 16 / S.size

end Slot

/-! ### The pattern (15 R289) -/

/-- The number of elements of a pattern. -/
def Strm.total (p : Strm) (dims : Nat) : Nat := (p.counts.take dims).foldl (· * ·) 1

/-- The offset of element n, dimension 0 fastest. -/
def Strm.offset : Nat → List (Nat × Int) → Int
  | _, [] => 0
  | n, (c, s) :: ds => ((n % (max 1 c) : Nat) : Int) * s + Strm.offset (n / (max 1 c)) ds

/-- The address of element n (15 R289). -/
def Strm.va (p : Strm) (dims n : Nat) : Nat :=
  (((p.base : Int) + Strm.offset n ((p.counts.zip p.strides).take dims)) % 2 ^ 72).toNat

/-- What an element of a port comes to: performed with a value or skipped, diverted to the spill queue, waiting for its word, held
back, or misaligned. -/
inductive PortRes where
  | made (v : Option Nat)
  | spilled
  | waits
  | held
  | misaligned
  deriving DecidableEq, Repr

/-- What a port's translation gives: an address, an error, or no extent that covers it. -/
inductive PortAddr where
  | at_ (pa : Nat) (u : Option Bool)
  | bad (kind : Nat)
  | need
  deriving DecidableEq, Repr

/-- The link and channel of a stream base bound to a package link (23 R425). -/
def boundTo (base : Nat) : Option (Nat × Nat) :=
  if bits base 64 8 == 0xFE then some (bits base 56 4, bits base 48 6) else none

namespace Work

/-- The position of a stream port's slot: as an element of the pattern its number, else the lane of the flit in hand. -/
def spTotal (w : Work) (S : Slot) : Nat := (w.streamOf S).total S.dims

/-- The address that an index of GATH or SCAT gives (15 R293). -/
def indexVa (w : Work) (S : Slot) (x : Nat) : Nat :=
  let p := w.streamOf S
  (((p.base : Int) + (x : Int) * (p.strides.headD 0)) % 2 ^ 72).toNat

/-- The addresses of a port's next elements, in order. -/
def nextVas (w : Work) (S : Slot) : List Nat :=
  let x := w.op S
  if S.opc == 0 || S.opc == 1 then
    ((List.range 64).filter (fun i => x.issued + i < w.spTotal S)).map (fun i => (w.streamOf S).va S.dims (x.issued + i))
  else
    match x.taking with
    | none => []
    | some f =>
      (((List.range 4).zip (indexLanes f)).filter (fun q => x.lanes ≤ q.1 && q.2.1 && q.2.2 < (w.streamOf S).counts.headD 0)).map
        (fun q => w.indexVa S q.2.2)

/-- A spilled element of the port lies in the same 64 KiB page (05 R117). -/
def spillsPage (w : Work) (S : Slot) (va : Nat) : Bool :=
  (w.elem S.tile S.elem).spill.any (fun p => p.va / 0x10000 == va / 0x10000)

/-- The slot has spilled elements. -/
def spillsOf (w : Work) (S : Slot) : Bool := (w.elem S.tile S.elem).spill.any (fun p => p.slot == S.s)

/-- The slot has tokens in the mesh. -/
def tokensOf (w : Work) (S : Slot) : Bool :=
  w.core.tokens.any (fun k => k.tile == S.tile && k.elem == S.elem && k.slot == S.s)

/-- An element is diverted to the spill queue (05 R117), with the time since when it has waited for its word. -/
def divert (w : Work) (S : Slot) (n va v : Nat) : Work :=
  let p : Spill := { slot := S.s, n := n, va := va, v := v, since := (w.op S).since, due := w.now }
  w.onElem S (fun e => { e with spill := e.spill ++ [p] })

/-- What a leaf entry gives a port's access. Where a token of GATH or SCAT may go is judged as it is steered (15 R293; 23 R418), so that a
host address passes here in every form. -/
def portEntry (w : Work) (S : Slot) (va : Nat) (te : TlbEntry) : Work × Xlat :=
  w.entryGives (w.fabricWho S.tile) S.accForm (if S.opc == 2 || S.opc == 3 then .plainLoad else S.accForm) S.size va te

/-- An earlier token of the port to the word of a physical address has not been applied: what the port accesses there comes after it
(05 R124 rule 1). -/
def tokenBefore (w : Work) (S : Slot) (pa : Nat) : Bool :=
  w.core.tokens.any (fun n => n.reply.isNone && n.tile == S.tile && n.elem == S.elem && n.pa / 8 == pa / 8)

/-- Translate an element through the port's extents (05 R91, R115). -/
def spTranslate (w : Work) (S : Slot) (va : Nat) : Work × PortAddr :=
  let q := w.fabricWho S.tile
  if 0xFE ≤ bits va 64 8 then
    match w.translate q S.accForm S.size va with
    | (w, .ok pa u) => (w, .at_ pa u)
    | (w, .fault _ _) => (w, .bad 0x06)
  else
    match tlbFind q.asid va (w.op S).extents with
    | none => (w, .need)
    | some te =>
      match w.portEntry S va te with
      | (w, .ok pa u) => (w, .at_ pa u)
      | (w, .fault _ _) => (w, .bad 0x06)

/-- An SP element has performed: ELEMS (15 R321). -/
def countElem (w : Work) (S : Slot) : Work := w.onElem S (fun e => { e with count := (e.count + 1) % 2 ^ 40 })

/-- Make element n of an LDS or STS at a virtual address, with the value that a store takes (15 R289 to R292). -/
def spAccess (w : Work) (S : Slot) (n va v : Nat) : Work × PortRes :=
  if va % S.size != 0 then (w.slotError S 0x04 0, .misaligned)
  else if 64 ≤ (w.elem S.tile S.elem).spill.length then (w, .held)
  else if w.spillsPage S va then (w.divert S n va v, .spilled)
  else
    match w.spTranslate S va with
    | (w, .need) => (w.setOp S { w.op S with paused := true }, .held)
    | (w, .bad k) => (w.slotError S k 0, .made none)
    | (w, .at_ pa u) =>
      if w.tokenBefore S pa then (w, .held)
      else
      match w.accessAt S.access 0 S.size pa u v with
      | (w, .done d) => (w.countElem S, .made (some d))
      | (w, .wait) => (w, .waits)
      | (w, .heldBack) => (w, .held)
      | (w, .bad k) => (w.slotError S k 0, .made none)

/-- Every route of the slot leads straight to an MB sink that takes late elements (15 R295): it is marked REORDER. -/
def reorder (w : Work) (S : Slot) : Bool :=
  !S.ports.isEmpty && S.ports.all (fun p =>
    if 4 ≤ p then false
    else
      match w.neighbour S.tile S.elem p with
      | none => false
      | some (u, f, _) =>
        let ss := (w.elemSlots u f).filter (fun T => T.taken.contains (opposite p))
        kindOf f == 2 && !ss.isEmpty && ss.all (fun T => T.opc ≤ 5 && !T.serial))

/-- A presence access waits from now (15 R292). -/
def presented (w : Work) (S : Slot) : Work :=
  let x := w.op S
  w.setOp S { x with since := some (x.since.getD w.now), due := w.now + 16 }

/-! ### LDS (15 R290, R296) -/

/-- An element of an LDS has its value, or none. -/
def ldsTake (w : Work) (S : Slot) (v : Option Nat) : Work :=
  let x := w.op S
  w.setOp S { x with issued := x.issued + 1, elems := x.elems ++ [⟨x.issued, some v⟩], since := none }

/-- The element that stands next is diverted: a port in order keeps its place. -/
def ldsSpill (w : Work) (S : Slot) : Work :=
  let x := w.op S
  w.setOp S { x with issued := x.issued + 1, since := none, elems := if w.reorder S then x.elems else x.elems ++ [⟨x.issued, none⟩] }

/-- What an attempt at the element that stands next leaves, and whether the port goes on. -/
def ldsAfter (w : Work) (S : Slot) : PortRes → Work × Bool
  | .made v => (w.ldsTake S v, true)
  | .spilled => (w.ldsSpill S, true)
  | .waits => (w.presented S, false)
  | .held => (w, false)
  | .misaligned => (w.setOp S { w.op S with done := true, since := none }, false)

/-- Issue up to `fuel` elements, in order. -/
def ldsIssue (w : Work) (S : Slot) : Nat → Work
  | 0 => w
  | fuel + 1 =>
    let x := w.op S
    if w.spTotal S ≤ x.issued || !w.arcOk S x.issued then w
    else
      let va := (w.streamOf S).va S.dims x.issued
      let r := w.spAccess S x.issued va 0
      match r.1.ldsAfter S r.2 with
      | (w, true) => ldsIssue w S fuel
      | (w, false) => w

/-- The slot's stream base names a bound channel of a link that is down (23 R424). -/
def linkLost (w : Work) (S : Slot) : Bool :=
  (boundTo (w.streamOf S).base).any (fun b =>
    let lk := mapGet ({} : Link) b.1 w.core.links
    lk.down && (mapFind b.2 lk.binds).map (·.1) == (w.regionOf S.tile).map (·.asid))

/-- The values of a flit received on a bound channel that the pattern still takes; the rest of the flit stays (23 R425). Flits that carry
no element are dropped (DEDUCED, log 41). -/
def ldsReceive (w : Work) (S : Slot) (l c : Nat) : Work :=
  let lk := mapGet ({} : Link) l w.core.links
  let region := w.regionOf S.tile
  if (mapFind c lk.binds).map (·.1) != region.map (·.asid) then
    (w.slotError S 0x06 0).setOp S { w.op S with done := true }
  else
    match (mapGet [] c lk.rx).dropWhile (fun f => f.kind != 2 || (flitValues (8 * S.size) f).all (fun v => !v.1)) with
    | [] => if (mapGet [] c lk.rx).isEmpty then w
      else { w with core := { w.core with links := mapSet l { lk with rx := mapSet c [] lk.rx } w.core.links } }
    | f :: rest =>
      let x := w.op S
      let vs := flitValues (8 * S.size) f
      let valid := ((List.range vs.length).zip vs).filter (fun v => v.2.1)
      let room := w.spTotal S - x.issued
      let took := valid.take room
      let left := (valid.drop room).foldl (fun m v => m + 2 ^ v.1) 0
      let rx := if left == 0 then rest else { f with mask := left } :: rest
      let w := { w with core := { w.core with links := mapSet l { lk with rx := mapSet c rx lk.rx } w.core.links } }
      let new := ((List.range took.length).zip took).map (fun v => (⟨x.issued + v.1, some (some v.2.2.2)⟩ : PortElem))
      let w := w.setOp S { x with issued := x.issued + took.length, elems := x.elems ++ new }
      w.onElem S (fun e => { e with count := (e.count + took.length) % 2 ^ 40 })

/-- The flit that an LDS can emit next: its first L elements, or the last of the pattern, all with their values. -/
def ldsReady (w : Work) (S : Slot) (gone : Bool) : Option Flit :=
  let x := w.op S
  let front := x.elems.take S.lanes
  if front.isEmpty || front.any (fun e => e.val.isNone) then none
  else if front.length < S.lanes && (!gone || w.spillsOf S) then none
  else some (valuesFlit (8 * S.size) (front.map (fun e => match e.val with
    | some (some v) => (true, v)
    | _ => (false, 0))))

/-- A firing of an LDS under way. -/
def ldsStep (w : Work) (S : Slot) : Fired :=
  let x := w.op S
  let quiet := x.halted || (w.allDead S && S.form != 2)
  let drop := x.halted || w.allDead S
  let gone (w : Work) : Bool := quiet || (w.op S).done || w.spTotal S ≤ (w.op S).issued
  let emit (w : Work) : Fired :=
    match w.ldsReady S (gone w) with
    | none => none
    | some f =>
      let x := w.op S
      let last := (w.setOp S { x with elems := x.elems.drop S.lanes })
      some (last, if drop then none else some f, 1)
  match emit w with
  | some r => some r
  | none =>
    if gone w then
      (if x.elems.isEmpty && !w.spillsOf S && x.since.isNone then
        some (w.setOp S { x with busy := false, done := false, issued := 0, agenda := x.agenda.drop 1, armings := x.armings + 1 },
          some (wordColophon drop true false), 1)
      else none)
    else if x.since.isSome || x.paused then none
    else
      let w1 := match boundTo (w.streamOf S).base with
        | none => w.ldsIssue S S.lanes
        | some (l, c) => w.ldsReceive S l c
      if w1.op S == x && w1.core.links == w.core.links then none
      else
        match emit w1 with
        | some r => some r
        | none => some (w1, none, 1)

/-- A firing of an LDS (15 R290): it begins the arming that stands first. -/
def ldsFire (w : Work) (S : Slot) : Fired :=
  let x := w.op S
  if x.busy then w.ldsStep S
  else
    match x.agenda with
    | .arm :: _ =>
      let w := if w.linkLost S then w.slotError S 0x13 0 else w
      let w1 := w.setOp S { x with busy := true, issued := 0, elems := [], done := false, dead := [], sid := x.sid + 1, arm := x.armings }
      (match w1.ldsStep S with
      | some r => some r
      | none => some (w1, none, 1))
    | _ => none

/-! ### STS (15 R291) -/

/-- An STS has done with its element. -/
def stsTake (w : Work) (S : Slot) : Work :=
  let x := w.op S
  w.setOp S { x with issued := x.issued + 1, lanes := x.lanes + 1, since := none }

/-- What an attempt at the element that stands next leaves, and whether the port goes on. -/
def stsAfter (w : Work) (S : Slot) : PortRes → Work × Bool
  | .made _ => (w.stsTake S, true)
  | .spilled => (w.stsTake S, true)
  | .waits => (w.presented S, false)
  | .held => (w, false)
  | .misaligned => (w.setOp S { w.op S with done := true, since := none, taking := none, lanes := 0 }, false)

/-- The value in the lane that an STS stands at. -/
def stsValue (w : Work) (S : Slot) : Option (Bool × Nat) :=
  match (w.op S).taking with
  | none => none
  | some f => (flitValues (8 * S.size) f)[(w.op S).lanes]?

/-- Send a value flit on a bound channel (23 R425), once fewer than 64 frames of it are without a credit. One of a link that is down raises UNCORRECTABLE as a stream begins, and the flit
is lost (R424). -/
def stsSend (w : Work) (S : Slot) (l c : Nat) (f : Flit) : Work :=
  let lk := mapGet ({} : Link) l w.core.links
  if (mapFind c lk.binds).map (·.1) != (w.regionOf S.tile).map (·.asid) then
    (w.slotError S 0x06 0).setOp S { w.op S with done := true, taking := none, lanes := 0 }
  else
    let x := w.op S
    let n := ((flitValues (8 * S.size) f).filter (·.1)).length
    if w.spTotal S < x.issued + n then w.wordFail S []
    else
      let w1 := if x.issued == 0 && w.linkLost S then w.slotError S 0x13 0 else w
      let w1 := w1.setOp S { x with issued := x.issued + n, taking := none, lanes := 0 }
      let w1 := w1.onElem S (fun e => { e with count := (e.count + n) % 2 ^ 40 })
      if lk.down then w1
      else if 64 ≤ mapGet 0 c lk.tx then w
      else
        let k := { lk with tx := mapSet c (mapGet 0 c lk.tx + 1) lk.tx }
        let w1 := { w1 with core := { w1.core with links := mapSet l k w1.core.links } }
        w1.emit (.frame l c { f with tag := 0, sid := 0 })

/-- Write the lanes of the flit in hand, in order, from the lane the port stands at. -/
def stsLanes (w : Work) (S : Slot) : Nat → Work
  | 0 => w
  | fuel + 1 =>
    match w.stsValue S with
    | none => w.setOp S { w.op S with taking := none, lanes := 0 }
    | some (false, _) => stsLanes (w.setOp S { w.op S with lanes := (w.op S).lanes + 1 }) S fuel
    | some (true, v) =>
      let x := w.op S
      if w.spTotal S ≤ x.issued then w.wordFail S []
      else if !w.arcOk S x.issued then w
      else
        let r := w.spAccess S x.issued ((w.streamOf S).va S.dims x.issued) v
        match r.1.stsAfter S r.2 with
        | (w, true) => stsLanes w S fuel
        | (w, false) => w

/-- A malformed colophon of a port's stream raises STREAM_ORDER (03 R67), and ends the stream and its arming as it is. -/
def badColophon (w : Work) (S : Slot) (sel : Nat) (f : Flit) : Work := ((w.takeAt S sel).wordFail S [sel]).endArming S f.flags.2.1

/-- A firing of an STS (15 R291). -/
def stsFire (w : Work) (S : Slot) : Fired :=
  let x := w.op S
  let sel := listGet 7 0 S.sels
  let run (w : Work) : Work :=
    match boundTo (w.streamOf S).base, (w.op S).taking with
    | some (l, c), some f => w.stsSend S l c f
    | _, _ => w.stsLanes S 18
  if x.halted then w.dropInputs S
  else
    match x.taking with
    | some _ =>
      if x.since.isSome || x.paused then none
      else
        let w1 := run w
        if w1.op S == x then none else some (w1, none, 1)
    | none =>
      match if x.discard.contains sel then none else w.headAt S sel with
      | none => none
      | some f =>
        if f.kind == 3 then
          (if f.flags.2.1 && w.spillsOf S then none
           else if wordColophonBad f then some (w.badColophon S sel f, none, 1)
           else some ((w.takeAt S sel).endArming S f.flags.2.1, none, 1))
        else if f.kind != 2 || 2 ^ S.lanes ≤ f.mask then some ((w.takeAt S sel).wordFail S [], none, 1)
        else if x.done then some (w.takeAt S sel, none, 1)
        else
          let w := w.takeAt S sel
          some (run (w.setOp S { w.op S with taking := some f, lanes := 0 }), none, 1)

/-! ### GATH and SCAT (15 R293 to R296) -/

/-- A live tile's bank holds a GAPPLY slot in the active plane (15 R285). -/
def hasApply (w : Work) (t o : Nat) : Bool := (w.elemSlots t (bits o 6 4 * 16 + 15)).any (fun T => T.opc == 9)

/-- Where a token goes by its physical address (15 R293): none where no one applies it. -/
def steered (w : Work) (S : Slot) (pa : Nat) : Bool :=
  match classify pa with
  | .stash t o => w.hasApply t o
  | .hbm => true
  | .host => S.access == 0 || S.access == 4
  | .firmware | .control | .nowhere => false

/-- The position that stands next of GATH or SCAT is over: with its token away, or without a value. -/
def tokenTake (w : Work) (S : Slot) (away : Bool) : Work :=
  let x := w.op S
  w.setOp S { x with lanes := x.lanes + 1, issued := if away then x.issued + 1 else x.issued,
                     elems := if S.opc == 2 then x.elems ++ [⟨x.issued, if away then none else some none⟩] else x.elems }

/-- The position that stands next of GATH or SCAT is diverted to the spill queue: a REORDER port emits later ones at once (15 R295). -/
def tokenSpill (w : Work) (S : Slot) (va v : Nat) : Work :=
  let x := w.op S
  let w1 := (w.divert S x.issued va v).tokenTake S true
  if w.reorder S then w1.setOp S { w1.op S with elems := x.elems } else w1

/-- Put a token into the mesh. -/
def sendToken (w : Work) (S : Slot) (pos pa : Nat) (u : Option Bool) (v : Nat) : Work :=
  { w with core := { w.core with tokens := w.core.tokens ++
      [{ tile := S.tile, elem := S.elem, slot := S.s, pos := pos, op := S.access, typ := S.stype, size := S.size, pa := pa, uni := u,
         v := v, since := w.now }] } }

/-- Issue the position that stands next: whether the port goes on. -/
def tokenIssue (w : Work) (S : Slot) (idx v : Nat) : Work × Bool :=
  let x := w.op S
  if x.done then (w.tokenTake S false, true)
  else if (w.streamOf S).counts.headD 0 ≤ idx then ((w.slotError S errIndex 0).tokenTake S false, true)
  else
    let va := w.indexVa S idx
    if va % S.size != 0 then (((w.slotError S 0x04 0).setOp S { w.op S with done := true }).tokenTake S false, true)
    else if 64 ≤ (w.elem S.tile S.elem).spill.length || !w.arcOk S x.issued then (w, false)
    else if w.spillsPage S va then (w.tokenSpill S va v, true)
    else
      match w.spTranslate S va with
      | (w, .need) => (w.setOp S { w.op S with paused := true }, false)
      | (w, .bad k) => ((w.slotError S k 0).tokenTake S false, true)
      | (w, .at_ pa u) =>
        if w.steered S pa then ((w.sendToken S x.issued pa u v).tokenTake S true, true)
        else ((w.slotError S errNoApply 0).tokenTake S false, true)

/-- Issue the positions of the index flit in hand, from the one that stands next. -/
def tokenLanes (w : Work) (S : Slot) (idx : Flit) : Nat → Work
  | 0 => w
  | fuel + 1 =>
    let q := (w.op S).lanes
    if 4 ≤ q then w.setOp S { w.op S with taking := none, lanes := 0, bufA := [] }
    else
      let i := listGet (false, 0) q (indexLanes idx)
      if !i.1 then tokenLanes (w.tokenTake S false) S idx fuel
      else
        match w.tokenIssue S i.2 (listGet (false, 0) q (groupValues (8 * S.size) (w.op S).bufA)).2 with
        | (w, true) => tokenLanes w S idx fuel
        | (w, false) => w

/-- A GATH whose output all routes' kills have ended closes it once its issued elements have returned (15 R296). The rest of the arming is
passed over; `opened` says that its end has come, `openedB` that the colophon has left. -/
def gathClose (w : Work) (S : Slot) : Fired :=
  let x := w.op S
  if x.openedB || w.tokensOf S || w.spillsOf S then none
  else some (w.setOp S { x with elems := [], queue := [], taking := none, lanes := 0, abandoned := !x.opened, opened := false, openedB := !x.opened },
    some (wordColophon true true false), 1)

/-- A GATH that passes over the rest of an arming discards a flit at its port (15 R296; 13 R244); at the arming's end its routes live
again. -/
def gathDiscard (w : Work) (S : Slot) (sel : Nat) : Option Work :=
  let x := w.op S
  match if x.opened then none else w.headAt S sel with
  | none => none
  | some f =>
    let w := w.takeAt S sel
    if f.kind != 3 || !f.flags.2.1 then some w
    else
      let w := w.endArming S true
      let x := w.op S
      some (w.setOp S (if x.openedB then { x with abandoned := false, openedB := false, dead := [] } else { x with opened := true }))

/-- A firing of a GATH (15 R293). -/
def gathFire (w : Work) (S : Slot) : Fired :=
  let x := w.op S
  let sel := listGet 7 0 S.sels
  let mute := x.halted || w.allDead S
  match x.queue with
  | f :: rest => some (w.setOp S { x with queue := rest }, if mute && f.kind != 3 then none else some f, 1)
  | [] =>
    if x.abandoned then w.gathClose S
    else if x.elems.length ≥ 4 && (x.elems.take 4).all (fun e => e.val.isSome) then
      let vs := (x.elems.take 4).map (fun e => match e.val with
        | some (some v) => (true, v)
        | _ => (false, 0))
      match returnFlits (8 * S.size) vs with
      | [] => none
      | f :: rest => some (w.setOp S { x with elems := x.elems.drop 4, queue := rest }, if mute then none else some f, 1)
    else
      match x.taking with
      | some idx =>
        if x.paused then none
        else
          let w1 := w.tokenLanes S idx 5
          if w1.op S == x then none else some (w1, none, 1)
      | none =>
        match if x.discard.contains sel then none else w.headAt S sel with
        | none => none
        | some f =>
          if f.kind == 3 then
            (if !x.elems.isEmpty || w.tokensOf S || w.spillsOf S then none
             else if wordColophonBad f then some (w.badColophon S sel f, none, 1)
             else some ((w.takeAt S sel).endArming S f.flags.2.1, some (wordColophon (mute || f.flags.1) f.flags.2.1 f.flags.2.2), 1))
          else if f.kind != 2 || 16 ≤ f.mask then some ((w.takeAt S sel).wordFail S [], none, 1)
          else if x.halted then some (w.takeAt S sel, none, 1)
          else
            let w := w.takeAt S sel
            some ((w.setOp S { w.op S with taking := some f, lanes := 0 }).tokenLanes S f 5, none, 1)

/-- A firing of a SCAT (15 R293, R294). -/
def scatFire (w : Work) (S : Slot) : Fired :=
  let x := w.op S
  let sel := listGet 7 0 S.sels
  let per := 4 / min 4 (16 / S.size)
  if x.halted then w.dropInputs S
  else
    match w.detError S with
    | some k => w.detFire S k
    | none =>
      let head := if x.discard.contains sel then none else w.headAt S sel
      match x.taking with
      | none =>
        (match head with
        | none => none
        | some f =>
          if f.kind == 3 then
            (if w.tokensOf S || w.spillsOf S then none
             else if wordColophonBad f then some (w.badColophon S sel f, none, 1)
             else some ((w.takeAt S sel).endArming S f.flags.2.1, none, 1))
          else if f.kind != 2 || 16 ≤ f.mask then some ((w.takeAt S sel).wordFail S [], none, 1)
          else
            let w := w.takeAt S sel
            some (w.setOp S { w.op S with taking := some f, lanes := 0, bufA := [] }, none, 1))
      | some idx =>
        if x.bufA.length < per then
          match head with
          | none => none
          | some f =>
            if f.kind != 2 then some (((w.takeAt S sel).wordFail S (if f.kind == 3 then [sel] else [])).endsArming S sel f, none, 1)
            else
              let w := w.takeAt S sel
              some (w.setOp S { w.op S with bufA := (w.op S).bufA ++ [packWord f] }, none, 1)
        else if !groupOk (8 * S.size) idx x.bufA then some (w.wordFail S [], none, 1)
        else if x.paused then none
        else
          let w1 := w.tokenLanes S idx 5
          if w1.op S == x then none else some (w1, none, 1)

/-- A firing of a stream port. -/
def spFire (w : Work) (S : Slot) : Fired :=
  match S.opc with
  | 0 => w.ldsFire S
  | 1 => w.stsFire S
  | 2 => w.gathFire S
  | _ => w.scatFire S

/-- The inputs that a stream port's next firing waits for. -/
def spNeeds (w : Work) (S : Slot) : List Nat :=
  let x := w.op S
  if x.taking.isNone || (S.opc == 3 && x.bufA.length < 4 / min 4 (16 / S.size)) then S.taken else []

/-- A kettle leaves a port only when its spill queue is empty and everything it has taken is done (05 R117; 01 R38). -/
def spPending (w : Work) (S : Slot) : Bool :=
  let x := w.op S
  !(w.elem S.tile S.elem).spill.isEmpty || w.tokensOf S || x.since.isSome || !x.queue.isEmpty || (S.opc == 2 && !x.elems.isEmpty)

/-- A kill has made the last route of a GATH dead (15 R296). -/
def gathAbandon (w : Work) (S : Slot) : Work :=
  let sel := listGet 7 0 S.sels
  if S.form == 2 then w.sendKill S sel
  else
    let x := w.op S
    (w.setOp S { x with abandoned := true, taking := none, lanes := 0, opened := false, openedB := false }).sendKill S sel

/-! ### Events of a port -/

/-- A waiting element of an LDS or STS is presented again (15 R292). -/
def spRepresent (w : Work) (S : Slot) : Option Work :=
  let x := w.op S
  if x.since.isNone || w.now < x.due || x.halted then none
  else if S.opc == 0 then
    let r := w.spAccess S x.issued ((w.streamOf S).va S.dims x.issued) 0
    match r.2 with
    | .held => some (r.1.presented S)
    | q => some (r.1.ldsAfter S q).1
  else if S.opc == 1 then
    match w.stsValue S with
    | none => none
    | some v =>
      let r := w.spAccess S x.issued ((w.streamOf S).va S.dims x.issued) v.2
      match r.2 with
      | .held => some (r.1.presented S)
      | q => some (r.1.stsAfter S q).1
  else none

/-- A port halts until the region is drained or replaced (15 R309): each slot drops what it holds. -/
def haltPort (w : Work) (S : Slot) : Work :=
  ((w.elemSlots S.tile S.elem).filter (fun T => T.kind == 3)).foldl (fun w T =>
    w.setOp T { w.op T with halted := true, since := none, paused := false, taking := none, lanes := 0, bufA := [], elems := [], queue := [] }) w

/-- The cycle limit of a waiting element has passed (05 R102; 15 R309), be it at the port, in the mesh or in the spill queue: the error, and
the port halts. -/
def feTimeout (w : Work) (S : Slot) : Option Work :=
  let x := w.op S
  let limit := 2 ^ (S.lim + 7)
  let late (s : Nat) : Bool := s + limit ≤ w.now
  let mine (k : Token) : Bool := k.tile == S.tile && k.elem == S.elem && k.slot == S.s && k.reply.isNone
  if S.lim == 0 || !S.waitsForm || x.halted then none
  else
    let spent (p : Spill) : Bool := p.slot == S.s && p.since.any late
    if x.since.any late || w.core.tokens.any (fun k => mine k && late k.since) || (w.elem S.tile S.elem).spill.any spent then
      let w := w.slotError S 0x18 0
      let w := { w with core := { w.core with tokens := w.core.tokens.filter (fun k => !mine k) } }
      some ((w.onElem S (fun e => { e with spill := e.spill.filter (fun p => !spent p) })).haltPort S)
    else none

/-- Element n of an LDS or GATH that was away comes back with a value or without one: at its place, or late where none was kept (15 R295).
A halted or abandoned port discards it. -/
def resolve (w : Work) (S : Slot) (n : Nat) (v : Option Nat) : Work :=
  let x := w.op S
  if (S.opc != 0 && S.opc != 2) || x.halted || x.abandoned then w
  else if x.elems.any (fun e => e.n == n && e.val.isNone) then
    w.setOp S { x with elems := x.elems.map (fun e => if e.n == n && e.val.isNone then { e with val := some v } else e) }
  else if w.reorder S then w.setOp S { x with elems := x.elems ++ [⟨n, some v⟩] }
  else w

/-- The walker gives the extents of some pages of 64 KiB (05 R115), and sets A (05 R110); a page without a translation gives none. -/
def fetchExtents (w : Work) (asid : Nat) (pages : List Nat) : Work × List TlbEntry :=
  match pages with
  | [] => (w, [])
  | p :: ps =>
    match w.findEntry ⟨asid, false, [], [], none⟩ (p * 0x10000) with
    | (_, .ok te) =>
      let r := fetchExtents (w.touch te false false) asid ps
      (r.1, { te with bits := markBits false false te.bits } :: r.2)
    | (_, .error _) => fetchExtents w asid ps

/-- A paused generator takes its next extents from the walker and resumes; an element whose page has no translation is diverted
(05 R115, R117). -/
def extentFetch (w : Work) (S : Slot) : Option Work :=
  let x := w.op S
  if !x.paused || 64 ≤ (w.elem S.tile S.elem).spill.length then none
  else
    let vas := w.nextVas S
    match vas with
    | [] => some (w.setOp S { x with paused := false })
    | va :: _ =>
      let pages := ((vas.map (· / 0x10000)).eraseDups).take 8
      let asid := (w.fabricWho S.tile).asid
      let r := w.fetchExtents asid pages
      let w := r.1.setOp S { x with extents := r.2, paused := false }
      if (tlbFind asid va r.2).isSome then some w
      else if S.opc == 0 then some ((w.divert S x.issued va 0).ldsSpill S)
      else if S.opc == 1 then
        (match w.stsValue S with
        | none => some w
        | some v => some ((w.divert S x.issued va v.2).stsTake S))
      else
        let v := (listGet (false, 0) x.lanes (groupValues (8 * S.size) x.bufA)).2
        some (w.tokenSpill S va v)

/-- The oldest spilled element of a port is tried again, or firmware declares it unresolvable (05 R117). One that is translated and waits for
its word is presented again after 16 clk (05 R102). -/
def spillRetry (w : Work) (t e : Nat) (ok : Bool) : Option Work :=
  match (w.elem t e).spill with
  | [] => none
  | p :: rest =>
    match (w.elemSlots t e).find? (fun S => S.s == p.slot) with
    | none => none
    | some S =>
      let pop (w : Work) : Work := w.setElem t e { w.elem t e with spill := rest }
      let q := w.fabricWho t
      match w.findEntry q p.va with
      | (_, .error _) =>
        if ok then none
        else
          some (((pop w).slotError S 0x05 0).haltPort S)
      | (w, .ok te) =>
        if !ok || (p.since.isSome && w.now < p.due) then none
        else
          match w.portEntry S p.va te with
          | (w, .fault _ _) => some (((pop w).slotError S 0x06 0).resolve S p.n none)
          | (w, .ok pa u) =>
            if S.opc == 2 || S.opc == 3 then
              (if w.steered S pa then some ((pop w).sendToken S p.n pa u p.v)
               else some (((pop w).slotError S errNoApply 0).resolve S p.n none))
            else if w.tokenBefore S pa then none
            else
              match w.accessAt S.access 0 S.size pa u p.v with
              | (w, .done d) => some (((pop w).countElem S).resolve S p.n (some d))
              | (w, .bad k) => some (((pop w).slotError S k 0).resolve S p.n none)
              | (w, .wait) =>
                let q := { p with since := some (p.since.getD w.now), due := w.now + 16 }
                some (w.setElem t e { w.elem t e with spill := q :: rest })
              | (_, .heldBack) => none

/-- The k-th token is applied at its home (15 R285, R293): after every earlier one of its port to its word. -/
def gapplyToken (w : Work) (k : Nat) : Option Work :=
  match w.core.tokens[k]? with
  | none => none
  | some m =>
    let before := (w.core.tokens.take k).any (fun n =>
      n.reply.isNone && n.tile == m.tile && n.elem == m.elem && n.pa / 8 == m.pa / 8)
    let home := match classify m.pa with
      | .stash t o => (w.elemSlots t (bits o 6 4 * 16 + 15)).find? (fun T => T.opc == 9)
      | .hbm | .firmware | .host | .control | .nowhere => none
    if m.reply.isSome || before || home.any (fun T => !w.arcOk T (w.op T).performed) then none
    else
      let w1 := match home with
        | none => w
        | some T =>
          let w := w.setOp T { w.op T with performed := (w.op T).performed + 1 }
          w.onElem T (fun e => { e with count := (e.count + 1) % 2 ^ 64 })
      match w1.accessAt m.op m.typ m.size m.pa m.uni m.v with
      | (w, .done d) => some { w with core := { w.core with tokens := listModify (fun m => { m with reply := some d }) k w.core.tokens } }
      | (_, .wait) => none
      | (_, .heldBack) => none
      | (_, .bad e) =>
        let S := mkSlot m.tile m.elem (w.activePlane m.tile m.elem) m.slot
        let w := w.slotError S e 0
        let w := { w with core := { w.core with tokens := listErase k w.core.tokens } }
        some (if 160 ≤ m.tile then w else w.resolve S m.pos none)

/-- A reply returns to its requester (15 R293). -/
def tokenReply (w : Work) (k : Nat) : Option Work :=
  match w.core.tokens[k]? with
  | none => none
  | some m =>
    match m.reply with
    | none => none
    | some d =>
      let S := mkSlot m.tile m.elem (w.activePlane m.tile m.elem) m.slot
      let w := { w with core := { w.core with tokens := listErase k w.core.tokens } }
      -- the requester's region has been contained: its replies are discarded (21 R400)
      if 160 ≤ m.tile then some w
      else some ((w.countElem S).resolve S m.pos (some d))

end Work

end Sys2Proof.Machine
end

