-- ==== Sys2Proof/Machine/Utility.lean ====
section
/-! DEFINITION. Utility elements (15 R297 to R308): FOLD, TRIM, JOG, SPAWN, KETTLE, COLO, SEQ, PRUNE, CVT, DIGEST, PROBE, TABLEQ. -/

namespace Sys2Proof.Machine

open Sys2Proof

def errTag : Nat := 0x87

namespace Slot

/-- ARG of a UE slot (07 R166). -/
def arg (S : Slot) : Nat := bits S.cw 16 11

/-- The width in bits that a code W names at bit `i` of ARG (15 R297). -/
def ueWidth (S : Slot) (i : Nat) : Nat := 8 * 2 ^ bits S.arg i 2

/-- PROBE: D, ES, TAU, M (15 R306). -/
def probeD (S : Slot) : Nat := bits S.pw 1 2 + 1
def probeEs (S : Slot) : Int := signedBits (bits S.pw 3 12) 12
def probeTau (S : Slot) : Nat := bits S.pw 15 8

/-- SPAWN: words of a frame, and the direct-window offset of the frame area (15 R300). -/
def frameWords (S : Slot) : Nat := 2 ^ bits S.pw 1 5
def frameBase (S : Slot) : Nat := bits S.pw 6 15 * 64

end Slot

/-- A number with its validity, as one number. -/
def packValid (v : Bool × Nat) : Nat := if v.1 then 2 * v.2 + 1 else 0
def unpackValid (n : Nat) : Bool × Nat := (bit n 0, n / 2)

/-- Values packed into full flits of `width`-bit lanes from the front of a list; the rest that fills no flit. -/
def packFlits (width : Nat) (per : Nat) : Nat → List (Bool × Nat) → List Flit × List (Bool × Nat)
  | 0, vs => ([], vs)
  | fuel + 1, vs =>
    if vs.length < per || per == 0 then ([], vs)
    else let r := packFlits width per fuel (vs.drop per); (valuesFlit width (vs.take per) :: r.1, r.2)

/-- Values of a flit of a word width (03 R66): two to a lane for 4-bit formats. -/
def perFlit (width : Nat) : Nat := if width == 4 then 32 else wordLanes width

/-- A word flit with a valid lane beyond its lane count (03 R67). -/
def wideMask (width : Nat) (f : Flit) : Bool := 2 ^ wordLanes width ≤ f.mask

namespace Work

/-- The flit that a UE slot can take on a select. -/
def ueHead (w : Work) (S : Slot) (sel : Nat) : Option Flit := if (w.op S).discard.contains sel then none else w.headAt S sel

/-- Queue flits behind those waiting and emit the first. -/
def ueSend (w : Work) (S : Slot) (fs : List Flit) : Fired :=
  let x := w.op S
  match x.queue ++ fs with
  | [] => some (w, none, 1)
  | f :: rest => some (w.setOp S { x with queue := rest }, if x.abandoned && f.kind != 3 then none else some f, 1)

/-- A firing of an operation that turns the values of one stream into values of another: `step` takes the validity and values of a
flit and gives the flits to emit; `flush` gives those that precede the colophon. -/
def ueMap (w : Work) (S : Slot) (width : Nat) (step : Work → List (Bool × Nat) → Work × List Flit) (flush : Work → Work × List Flit) : Fired :=
  let sel := listGet 7 0 S.sels
  let x := w.op S
  if !x.queue.isEmpty then w.ueSend S []
  else
    match w.ueHead S sel with
    | none => none
    | some f =>
      let w := w.takeAt S sel
      if f.kind == 2 && !wideMask width f then
        let r := step w (flitValues width f)
        r.1.ueSend S r.2
      else if f.kind == 3 && !wordColophonBad f then
        let r := flush w
        let fl := f.flags
        r.1.ueSend S (r.2 ++ [wordColophon (fl.1 || x.abandoned) fl.2.1 fl.2.2])
      else some (w.wordFail S (if f.kind == 3 then [sel] else []), none, 1)

/-- Values held for the next flit. -/
def ueHeld (w : Work) (S : Slot) : List (Bool × Nat) := (w.op S).bufA.map unpackValid

/-- Hold values for the next flit. -/
def ueHold (w : Work) (S : Slot) (vs : List (Bool × Nat)) : Work := w.setOp S { w.op S with bufA := vs.map packValid }

/-- Append values to those held and emit the full flits. -/
def uePack (w : Work) (S : Slot) (width : Nat) (vs : List (Bool × Nat)) : Work × List Flit :=
  let all_ := w.ueHeld S ++ vs
  let r := packFlits width (perFlit width) all_.length all_
  (w.ueHold S r.2, r.1)

/-- The last partial flit. -/
def ueFlush (w : Work) (S : Slot) (width : Nat) : Work × List Flit :=
  let vs := w.ueHeld S
  (w.ueHold S [], if vs.isEmpty then [] else [valuesFlit width vs])

/-! ### FOLD, TRIM, JOG, COLO, SEQ -/

/-- A firing of an operation on one stream whose output is abandoned (13 R267; 15 R308): it drops the flits of A up to its colophon, and
closes its output with CUT. A COLO's colophons carry LAST (15 R302). -/
def ueDrop (w : Work) (S : Slot) : Fired :=
  let sel := listGet 7 0 S.sels
  if !(w.op S).queue.isEmpty then w.ueSend S []
  else
    match w.ueHead S sel with
    | none => none
    | some f =>
      let w := w.takeAt S sel
      if f.kind != 3 then some (w, none, 1)
      else
        let w := if wordColophonBad f then w.slotError S errOrder 0 else w
        (w.setOp S { w.op S with bufA := [], cnt := 0 }).ueSend S [wordColophon true (f.flags.2.1 || S.opc == 5) f.flags.2.2]

/-- FOLD (15 R298): a block of n × n values in row order leaves in column order. Its `cnt` counts the flits that a partial block has taken
a value from (21 R403). -/
def foldFire (w : Work) (S : Slot) : Fired :=
  let n := bits S.arg 0 5 + 1
  let width := S.ueWidth 5
  let x := w.op S
  let sel := listGet 7 0 S.sels
  if !x.queue.isEmpty then w.ueSend S []
  else if (w.ueHead S sel).any (fun f => f.kind == 3) && !x.bufA.isEmpty then some ((w.takeAt S sel).wordFail S [sel], none, 1)
  else
    w.ueMap S width
      (fun w vs =>
        let all_ := w.ueHeld S ++ vs.filter (·.1)
        if all_.length < n * n then
          let w := w.ueHold S all_
          (w.setOp S { w.op S with cnt := if vs.any (·.1) then (w.op S).cnt + 1 else (w.op S).cnt }, [])
        else
          let col := (List.range (n * n)).map (fun i => listGet (false, 0) (i % n * n + i / n) all_)
          let rest := all_.drop (n * n)
          let w := w.ueHold S rest
          (w.setOp S { w.op S with cnt := if rest.isEmpty then 0 else 1 }, (packFlits width (perFlit width) (n * n) col).1))
      (fun w => (w, []))

/-- TRIM (15 R299): lanes of A kept by lanes of B. -/
def trimFire (w : Work) (S : Slot) : Fired :=
  let width := S.ueWidth 0
  let inv := bit S.arg 2
  let x := w.op S
  let sa := listGet 7 0 S.sels
  let sb := listGet 7 1 S.sels
  if !x.queue.isEmpty then w.ueSend S []
  else
    match w.ueHead S sa, (if x.abandoned then w.ueHead S sa else w.ueHead S sb) with
    | some a, some b =>
      let w := w.takeAt S sa
      let w := if x.abandoned || sb == sa then w else w.takeAt S sb
      if a.kind == 3 && b.kind == 3 && !wordColophonBad a && !wordColophonBad b then
        let fl := a.flags
        w.ueSend S [wordColophon (fl.1 || b.flags.1 || x.abandoned) fl.2.1 fl.2.2]
      else if a.kind == 2 && b.kind == 2 && !wideMask width a && !wideMask width b then
        let vs := ((flitValues width a).zip (flitValues width b)).map (fun p =>
          (p.1.1 && p.2.1 && ((p.2.2 == 0) == inv), p.1.2))
        w.ueSend S [valuesFlit width vs]
      else some (w.wordFail S ((if a.kind == 3 then [sa] else []) ++ (if b.kind == 3 then [sb] else [])), none, 1)
    | _, _ => none

/-- JOG (15 R299): the valid values packed into full flits. -/
def jogFire (w : Work) (S : Slot) : Fired :=
  w.ueMap S (S.ueWidth 0) (fun w vs => w.uePack S (S.ueWidth 0) (vs.filter (·.1))) (fun w => w.ueFlush S (S.ueWidth 0))

/-- The parts of a flit that COLO emits (15 R302): groups of N valid lanes, each followed by a colophon with LAST. -/
def coloParts (n : Nat) (f : Flit) : List Nat → Nat → Nat → List Flit × Nat
  | [], cnt, mask => (if mask == 0 then [] else [{ f with mask := mask }], cnt)
  | l :: ls, cnt, mask =>
    if cnt + 1 == n then
      let r := coloParts n f ls 0 0
      ({ f with mask := mask + 2 ^ l } :: wordColophon false true false :: r.1, r.2)
    else coloParts n f ls (cnt + 1) (mask + 2 ^ l)

/-- COLO (15 R302). -/
def coloFire (w : Work) (S : Slot) : Fired :=
  let x := w.op S
  let sel := listGet 7 0 S.sels
  if !x.queue.isEmpty then w.ueSend S []
  else
    match w.ueHead S sel with
    | none => none
    | some f =>
      let w := w.takeAt S sel
      if f.kind == 2 then
        let ls := (List.range 16).filter (fun l => bit f.mask l)
        let r := coloParts (S.arg + 1) f ls x.cnt 0
        let w := w.setOp S { w.op S with cnt := r.2 }
        w.ueSend S (if ls.isEmpty then [f] else r.1)
      else if f.kind == 3 && !wordColophonBad f then
        let fl := f.flags
        (w.setOp S { w.op S with cnt := 0 }).ueSend S [wordColophon fl.1 true fl.2.2]
      else some (w.wordFail S (if f.kind == 3 then [sel] else []), none, 1)

/-- SEQ (15 R302, R308): NF flits at each arming. -/
def seqFire (w : Work) (S : Slot) : Fired :=
  let x := w.op S
  let go (w : Work) : Fired :=
    let x := w.op S
    if x.issued ≤ S.arg && !w.allDead S then
      some (w.setOp S { x with issued := x.issued + 1 },
        some (valuesFlit 32 ((List.range 4).map (fun l => (true, 4 * x.issued + l)))), 1)
    else
      some (w.setOp S { x with busy := false, agenda := x.agenda.drop 1, armings := x.armings + 1 },
        some (wordColophon (w.allDead S) true false), 1)
  if x.busy then go w
  else
    match x.agenda with
    | .arm :: _ => go (w.setOp S { x with busy := true, issued := 0, dead := [], sid := x.sid + 1, arm := x.armings })
    | _ => none

/-! ### SPAWN (15 R300; 01 R40 to R42) -/

/-- Set the words of a frame to data 0 and EMPTY by clearing stores. -/
def clearFrame (w : Work) (pa : Nat) : Nat → Work
  | 0 => w
  | n + 1 => clearFrame ((w.store pa 8 0).setBit (pa / 8) false) (pa + 8) n

/-- Return the frame offsets of a flit's lanes. -/
def spawnReturn (w : Work) (S : Slot) (vs : List (Bool × Nat)) : Work :=
  vs.foldl (fun w v =>
    if !v.1 then w
    else
      let size := S.frameWords * 8
      let t := (v.2 - S.frameBase) / size
      let e := w.elem S.tile S.elem
      if S.frameBase ≤ v.2 && (v.2 - S.frameBase) % size == 0 && e.tags.contains (S.s * 64 + t) then
        (w.setElem S.tile S.elem { e with tags := e.tags.filter (· != S.s * 64 + t) }).clearFrame (stashBase S.tile + v.2) S.frameWords
      else w.slotError S errTag 0) w

/-- Some word of a frame that a flit returns is claimed by a block. -/
def returnHeld (w : Work) (S : Slot) (vs : List (Bool × Nat)) : Bool :=
  vs.any (fun v => v.1 && w.anyClaimed ((List.range S.frameWords).map (fun i => (stashBase S.tile + v.2) / 8 + i)))

/-- SPAWN: a return and a request in one firing, when they are there. -/
def spawnFire (w : Work) (S : Slot) : Fired :=
  let sa := listGet 7 0 S.sels
  let sb := listGet 7 1 S.sels
  let back := match w.ueHead S sb with
    | none => none
    | some f =>
      if f.kind == 2 && !wideMask 64 f then
        (if w.returnHeld S (flitValues 64 f) then none else some ((w.takeAt S sb).spawnReturn S (flitValues 64 f)))
      else if f.kind == 3 && !wordColophonBad f then some (w.takeAt S sb)
      else some ((w.takeAt S sb).slotError S errOrder 0)
  let w1 := back.getD w
  let x := w1.op S
  if !x.queue.isEmpty then w1.ueSend S []
  else
    let e := w1.elem S.tile S.elem
    let free := (List.range 64).find? (fun t => !e.tags.contains (S.s * 64 + t))
    let still : Fired := match back with
      | none => none
      | some w1 => some (w1, none, 1)
    match w1.ueHead S sa with
    | none => still
    | some f =>
      if f.kind == 3 && !wordColophonBad f then
        let fl := f.flags
        (w1.takeAt S sa).ueSend S [wordColophon fl.1 fl.2.1 fl.2.2]
      else if f.kind != 2 || wideMask 64 f then some ((w1.takeAt S sa).wordFail S (if f.kind == 3 then [sa, sb] else [sb]), none, 1)
      else
        match free with
        | none => still
        | some t =>
          let vs := flitValues 64 f
          let a0 := listGet (false, 0) 0 vs
          let a1 := listGet (false, 0) 1 vs
          let w2 := w1.takeAt S sa
          let e := w2.elem S.tile S.elem
          let w2 := w2.setElem S.tile S.elem { e with tags := (S.s * 64 + t) :: e.tags }
          w2.ueSend S [valuesFlit 64 [(true, S.frameBase + t * S.frameWords * 8), (true, a0.2)], valuesFlit 64 [(true, a1.2), (true, t)]]

/-- KETTLE (15 R301) discards every flit. -/
def kettleFire (w : Work) (S : Slot) : Fired :=
  match S.taken.find? (fun p => (w.headAt S p).isSome) with
  | none => none
  | some p => some (w.takeAt S p, none, 1)

/-! ### PRUNE (15 R303) -/

/-- Magnitude order: a is less than b, NaN above every number. -/
def magLess (a b : Fp) : Bool :=
  match a, b with
  | .nan _, _ => false
  | _, .nan _ => true
  | .inf _, _ => false
  | .fin _ _ _, .inf _ => true
  | .fin _ m e, .fin _ n f => let s := exactAdd (m : Int) e (-(n : Int)) f; s.1 < 0

/-- The indices of the `k` values of greatest magnitude of a group, ascending; the lower of two equal ones first. -/
def keepLargest (fmt k : Nat) (vs : List Nat) : List Nat :=
  let ix := List.range vs.length
  ix.filter (fun i =>
    let a := meValue fmt (listGet 0 i vs)
    (ix.filter (fun j =>
      let b := meValue fmt (listGet 0 j vs)
      j != i && (magLess a b || (!magLess b a && j < i)))).length < k)

/-- One step of A for an ME (13 R272) from M rows of kstep dense values. -/
def pruneStep (S : Slot) (vs : List Nat) : List Flit :=
  let fmt := bits S.pw 3 4
  let m := bits S.pw 7 5 + 1
  let sh := sparShape (bits S.pw 1 2)
  let kstep := sh.1
  let ks := sh.2.1
  let mb := sh.2.2
  let width := meWidth fmt
  let rows := (List.range m).map (fun i =>
    let row := (vs.drop (i * kstep)).take kstep
    let keep := keepLargest fmt ks row
    (keep.map (fun k => (true, listGet 0 k row)), (List.range ks).foldl (fun a r => a + listGet 0 r keep * 2 ^ (mb / ks * r)) 0))
  let vals := rows.flatMap (·.1)
  let r := packFlits width (128 / meWidth fmt) vals.length vals
  let metaNum := ((List.range m).zip rows).foldl (fun a q => a + q.2.2 * 2 ^ (mb * q.1)) 0
  r.1 ++ (if r.2.isEmpty then [] else [valuesFlit width r.2])
    ++ (List.range (ceilDiv (m * mb) 128)).map (fun i => { kind := 2, tag := 0, mask := 0xFFFF, payload := bits metaNum (128 * i) 128 })

/-- The flits of as many whole steps as the values held make. -/
def pruneSteps (S : Slot) (n : Nat) : Nat → List Nat → List Flit × List Nat
  | 0, vs => ([], vs)
  | fuel + 1, vs =>
    if vs.length < n || n == 0 then ([], vs)
    else let r := pruneSteps S n fuel (vs.drop n); (pruneStep S (vs.take n) ++ r.1, r.2)

/-- PRUNE. -/
def pruneFire (w : Work) (S : Slot) : Fired :=
  let x := w.op S
  let sel := listGet 7 0 S.sels
  let n := (bits S.pw 7 5 + 1) * (sparShape (bits S.pw 1 2)).1
  let width := meWidth (bits S.pw 3 4)
  if !x.queue.isEmpty then w.ueSend S []
  else if (w.ueHead S sel).any (fun f => f.kind == 3) && !x.bufA.isEmpty then some ((w.takeAt S sel).wordFail S [sel], none, 1)
  else
    w.ueMap S (if width == 6 then 8 else width)
      (fun w vs =>
        let all_ := (w.op S).bufA ++ (vs.filter (·.1)).map (·.2)
        let r := pruneSteps S n all_.length all_
        (w.setOp S { w.op S with bufA := r.2 }, r.1))
      (fun w => (w, []))

/-! ### CVT, DIGEST, TABLEQ -/

/-- CVT (15 R304): valid values converted, RNE. -/
def cvtFire (w : Work) (S : Slot) : Fired :=
  let src := bits S.arg 0 5
  let dst := bits S.arg 5 5
  w.ueMap S (convWidth src)
    (fun w vs => w.uePack S (convWidth dst) ((vs.filter (·.1)).map (fun v => (true, convTo dst (bit S.arg 10) 0 (convValue src v.2)))))
    (fun w => w.ueFlush S (convWidth dst))

/-- The 18 bytes of a flit that DIGEST folds (15 R305). -/
def digestBytes (f : Flit) : List Nat := bytesOf 2 f.mask ++ bytesOf 16 f.payload

/-- DIGEST (15 R305): flits pass unchanged; the CRC is latched at a colophon with DIGEST_MARK. Lanes under way stand in `lanes`. With WR
the CRC's filling store is made before the next flit is taken; an offset beyond the direct window raises PROTECTION (05 R91). -/
def digestFire (w : Work) (S : Slot) : Fired :=
  let x := w.op S
  let sel := listGet 7 0 S.sels
  let pa := stashBase S.tile + bits S.pw 2 21 * 8
  if x.done && 0x180000 ≤ bits S.pw 2 21 * 8 then some ((w.slotError S 0x06 0).setOp S { w.op S with done := false }, none, 1)
  else if x.done then
    match w.accessAt 5 0 8 pa none (w.elem S.tile S.elem).digest with
    | (w, .done _) => some (w.setOp S { w.op S with done := false }, none, 1)
    | (w, .bad k) => some (let w := w.slotError S k 0; w.setOp S { w.op S with done := false }, none, 1)
    | (_, .wait) => none
    | (_, .heldBack) => none
  else
    match w.ueHead S sel with
    | none => none
    | some f =>
      let crc := crc64 x.crc (digestBytes f)
      let mark := f.kind == 3 && f.flags.2.2
      let w := w.takeAt S sel
      let lanes :=
        if f.kind == 0 then Nat.lor x.lanes (f.mask % 16)
        else if f.kind == 3 then (if x.opened then 0 else x.lanes - Nat.land x.lanes (f.mask % 16))
        else x.lanes
      let w := if mark then w.onElem S (fun e => { e with digest := crc }) else w
      let w := w.setOp S { w.op S with crc := if mark then 0 else crc, lanes := lanes, opened := f.kind == 2 || (x.opened && f.kind != 3),
                                       done := mark && bit S.pw 1 }
      let out := if f.kind == 3 && x.abandoned then
          { f with payload := (List.range 4).foldl (fun p l => if bit f.mask l && !bit p (32 * l + 31) then p + 2 ^ (32 * l + 31) else p) f.payload }
        else f
      some (w, if x.abandoned && f.kind != 3 then none else some out, 1)

/-- An entry of a table image (15 R307). -/
def tableEntry (table : List Nat) (size i : Nat) : Nat :=
  ((List.range size).map (fun j => listGet 0 (i * size + j) table * 2 ^ (8 * j))).foldl (· + ·) 0

/-- TABLEQ (15 R307): "an index at or beyond the last entry". -/
def tableqFire (w : Work) (S : Slot) : Fired :=
  let size := 2 ^ bits S.pw 1 2
  let table := w.tableOf S
  let last := table.length / size - 1
  w.ueMap S 32
    (fun w vs =>
      let ix := (vs.filter (·.1)).map (·.2)
      let clamp := bit S.pw 3
      let w := ix.foldl (fun w i => if !clamp && last ≤ i then w.slotError S errIndex 0 else w) w
      w.uePack S (8 * size) (ix.map (fun i => if last ≤ i then (clamp, if clamp then tableEntry table size last else 0) else (true, tableEntry table size i))))
    (fun w => w.ueFlush S (8 * size))

/-! ### PROBE (15 R306) -/

/-- The number of digits of a lane that its probe takes (15 R306). -/
def probeDigits (S : Slot) (a : ILane) : Int := S.probeD + S.probeEs - a.e

/-- The probe of a lane: none while its digits are not all there. -/
def probeOf (S : Slot) (a : ILane) : Option Int :=
  let k := probeDigits S a
  if a.cut && a.cls == 0 && (a.digits.length : Int) < k then some (16 ^ S.probeD)
  else if a.isZero then some 0
  else if !a.isFin || S.probeEs < a.e then some (16 ^ S.probeD)
  else
    let n := k.toNat
    if a.digits.length < n && !a.ended then none
    else
      let q := floor16 (prefixInt a.digits n) (a.e - k + S.probeD - S.probeEs)
      some (clampInt q (-(16 ^ S.probeD - 1)) (16 ^ S.probeD - 1))

/-- Probes that are known: each stands at its place. A lane whose digits the probe takes have been consumed is dead by decision unless it
has ended (13 R267). -/
def probeUpdate (S : Slot) (x : SlotOp) : SlotOp :=
  let x := { x with elems := x.elems.map (fun (e : PortElem) =>
    match if e.val.isSome then none else (laneOf x 0 e.n).bind (probeOf S) with
    | none => e
    | some q => { e with val := some (some (q % 2 ^ 32).toNat) }) }
  let spent (a : Nat × ILane) : Bool := a.2.isFin && probeDigits S a.2 ≤ a.2.digits.length
  let x := (x.ins.filter spent).foldl (fun (x : SlotOp) a => markDead x 0 a.1 false) x
  let gone := x.ins.filter (fun a => a.2.ended)
  { x with ins := x.ins.filter (fun a => !a.2.ended), busy := x.busy || gone.any (fun a => a.2.last) }

/-- The registers of a PROBE element (15 R321), kept across switches of the plane: one set for the element, whichever of its slots carries
the operation (DEDUCED, log 52). -/
def probeReg (w : Work) (S : Slot) : Probe := (w.elem S.tile S.elem).probe

/-- Replace the registers of a PROBE element. -/
def setProbe (w : Work) (S : Slot) (p : Probe) : Work := w.onElem S (fun e => { e with probe := p })

/-- Positions that differ between the probes of a flit and B's flit (15 R306). -/
def probeDiff (S : Slot) (qs : List Nat) (b : Option Flit) : Nat :=
  match b with
  | none => 0
  | some f =>
    let lim : Int := 16 ^ S.probeD
    ((qs.zip (flitValues 32 f)).filter (fun p =>
      let q := signedBits p.1 32
      let r := signedBits p.2.2 32
      !p.2.1 || q == lim || r == lim || (S.probeTau : Int) < (q - r).natAbs)).length

/-- The next flits of A and B in PROBE fail (15 R309). -/
def probeFail (w : Work) (S : Slot) (kind lanes : Nat) (ended : List Nat) : Work :=
  let w := w.slotError S kind lanes
  let x := w.op S
  let w := w.setOp S { x with ins := [], elems := [], busy := false, queue := if S.route % 64 == 0 then [] else [wordColophon true false false] }
  (S.taken.filter (fun p => !ended.contains p)).foldl (fun w p => w.discardInput S p) w

/-- A's next flit, once it can be taken: a head in a lane whose stream is open raises STREAM_ORDER as it is (03 R67). -/
def probeTakes (w : Work) (S : Slot) : Option Flit :=
  let sel := listGet 7 0 S.sels
  let x := w.op S
  match w.ueHead S sel with
  | none => none
  | some f =>
    if x.busy && x.ins.isEmpty then none
    else if selDead S x sel && f.kind != 0 then none
    else some f

/-- PROBE: a flit of A, or four probes (the last ones at LAST) against B's flit. -/
def probeFire (w : Work) (S : Slot) : Fired :=
  let sa := listGet 7 0 S.sels
  let sb := listGet 7 1 S.sels
  let x := w.op S
  if !x.queue.isEmpty then w.ueSend S []
  else
    let front := x.elems.take 4
    let gone := x.busy && x.ins.isEmpty
    let full := !front.isEmpty && front.all (fun e => e.val.isSome) && (front.length == 4 || gone)
    if full || (gone && x.elems.isEmpty) then
      let b := if sb == 7 then none else w.ueHead S sb
      if sb != 7 && b.isNone then none
      else
        let w1 := if sb == 7 then w else w.takeAt S sb
        let x := w1.op S
        if full then
          -- a valid lane of B beyond the last probe of A is a count mismatch
          if b.any (fun f => f.kind != 2 || wideMask 32 f || 2 ^ front.length ≤ f.mask) then
            some (w1.probeFail S errOrder 0 ((if b.any (fun f => f.kind == 3) then [sb] else []) ++ (if gone then [sa] else [])), none, 1)
          else
            let qs := front.map (fun e => match e.val with
              | some (some v) => v
              | _ => 0)
            let p := w1.probeReg S
            some ((w1.setOp S { x with elems := x.elems.drop 4 }).setProbe S { p with diff := (p.diff + probeDiff S qs b) % 2 ^ 32 },
              some (valuesFlit 32 (qs.map (fun q => (true, q)))), 1)
        else if b.any (fun f => f.kind != 3 || wordColophonBad f) then
          some (w1.probeFail S errOrder 0 (if b.any (fun f => f.kind == 3) then [sa, sb] else [sa]), none, 1)
        else
          let p := w1.probeReg S
          some ((w1.setOp S { x with busy := false }).setProbe S { p with done := true, matched := sb != 7 && p.diff ≤ S.arg },
            some (wordColophon false true false), 1)
    else
      match w.probeTakes S with
      | none => none
      | some f =>
        let w1 := w.takeAt S sa
        let x := w1.op S
        if f.kind == 2 then some (w1.probeFail S errOrder 0 [], none, 1)
        else
          match feedFlit x 0 f with
          | .error k => some (w1.probeFail S k (f.mask % 16) (if f.kind == 3 then [sa] else []), none, 1)
          | .ok (y, _) =>
            let y := if f.kind == 0 then { y with elems := y.elems ++ (lanes4 f.mask).map (fun l => (⟨l, none⟩ : PortElem)) } else y
            let y := probeUpdate S y
            let w2 := w1.setOp S y
            -- DONE is cleared at the next head
            let w2 := if f.kind == 0 && (w2.probeReg S).done then w2.setProbe S {} else w2
            some (if selDead S y sa && !selDead S x sa then w2.sendKill S sa else w2, none, 1)

/-- PROBE discards a flit of its dead input without a firing (13 R244, R266). -/
def probeDiscard (w : Work) (S : Slot) : Option Work :=
  let sa := listGet 7 0 S.sels
  if !selDead S (w.op S) sa then none
  else
    match w.headAt S sa with
    | none => none
    | some f =>
      if f.kind == 0 || f.kind == 2 then none
      else
        let w := w.takeAt S sa
        match feedFlit (w.op S) 0 f with
        | .error k => some (w.probeFail S k (f.mask % 16) (if f.kind == 3 then [sa] else []))
        | .ok (y, _) => some (w.setOp S (probeUpdate S y))

/-! ### Every operation -/

/-- A firing of a utility element's slot. -/
def ueFire (w : Work) (S : Slot) : Fired :=
  if (w.op S).abandoned && [0, 2, 5, 7, 8, 11].contains S.opc then w.ueDrop S
  else match S.opc with
  | 0 => w.foldFire S
  | 1 => w.trimFire S
  | 2 => w.jogFire S
  | 3 => w.spawnFire S
  | 4 => w.kettleFire S
  | 5 => w.coloFire S
  | 6 => w.seqFire S
  | 7 => w.pruneFire S
  | 8 => w.cvtFire S
  | 9 => w.digestFire S
  | 10 => w.probeFire S
  | _ => w.tableqFire S

/-- An element of a UE that has lost its last route (15 R308; 13 R267): its inputs die; A's colophon closes its output, with CUT if it
has been taken and stands in the queue. The colophons that COLO itself has formed leave no more. -/
def ueAbandon (w : Work) (S : Slot) : Work :=
  if S.opc == 3 || S.opc == 4 || S.opc == 6 || S.opc == 10 then w
  else
    let x := w.op S
    let ends := (x.queue.filter (fun f => f.kind == 3)).map (fun f => wordColophon true f.flags.2.1 f.flags.2.2)
    let w := w.setOp S { x with abandoned := true, bufA := [], cnt := 0, queue := if S.opc == 5 then [] else ends }
    let sa := listGet 7 0 S.sels
    let w := w.sendKill S sa
    (S.taken.filter (· != sa)).foldl (fun w p => w.killInput S p) w

/-- The inputs that a UE's next firing waits for. -/
def ueNeeds (w : Work) (S : Slot) : List Nat :=
  if !(w.op S).queue.isEmpty || ((w.op S).done && S.opc == 9) then [] else S.taken

/-- A UE has taken something that is still to be processed. -/
def ueBusy (w : Work) (S : Slot) : Bool :=
  let x := w.op S
  !x.queue.isEmpty || !x.bufA.isEmpty || !x.discard.isEmpty || !x.ins.isEmpty || !x.elems.isEmpty || x.done && S.opc == 9

end Work

end Sys2Proof.Machine
end

