-- ==== Sys2Proof/Machine/Collator.lean ====
section
/-! DEFINITION. The Collator (07 R154 to R174; 15 R322; 03 R85; 05 R126): staging a command stream onto planes, its checks in their
order, and Fingaette images. -/

namespace Sys2Proof.Machine

open Sys2Proof

/-- A command as staged: the tile slot and the index it is reported under, its word, and whether it is a relocated field that names
a logical tile of no section (07 R173). -/
structure Cmd where
  slot : Nat
  idx : Nat
  word : Nat
  lost : Bool := false
  deriving DecidableEq, Repr

/-- What a check refuses: its order in R322, where in the stream it stands, the subcode, and the slot and index reported. -/
structure Bad where
  order : Nat
  pos : Nat
  sub : Nat
  slot : Nat
  cmd : Nat
  deriving DecidableEq, Repr

/-- The command index of a failure that names no command (15 R322). -/
def wholeCmd : Nat := 0xFFFFFFFF

/-- A place in the stream: position, slot, index. -/
structure At where
  pos : Nat
  slot : Nat
  idx : Nat
  deriving DecidableEq, Repr

/-- A failure at a place. -/
def At.bad (a : At) (order sub : Nat) : Bad := ⟨order, a.pos, sub, a.slot, a.idx⟩

/-- A failure that names no command, of a tile slot. -/
def badWhole (order sub slot : Nat) : Bad := ⟨order, 2 ^ 40, sub, slot, wholeCmd⟩

/-- An element being staged: its plane, its context pointer (slot × 2 + half), its BASE and EXT counters, and the last command that
wrote it and each part of it: context slot 0 to 15, field 32 + FIELD. -/
structure Draft where
  plane : Plane
  ptr : Nat := 0
  nbase : Nat := 0
  next : Nat := 0
  last : Option At := none
  wrote : List (Nat × At) := []
  deriving DecidableEq, Repr

/-- The staging place: drafts by tile slot × 256 + element, PERMISSIVE, the failures found. -/
structure Stage0 where
  drafts : List (Nat × Draft) := []
  permissive : Bool := false
  bads : List Bad := []
  deriving DecidableEq, Repr

/-! ### Commands (07 R154 to R158) -/

/-- A number with its 16-bit half `h` replaced. -/
def putHalf (x h v : Nat) : Nat := x - bits x (16 * h) 16 * 2 ^ (16 * h) + v * 2 ^ (16 * h)

/-- A list with entry `i` replaced, padded with `d`. -/
def putAt {α : Type} (d : α) : Nat → α → List α → List α
  | 0, a, [] => [a]
  | 0, a, _ :: xs => a :: xs
  | i + 1, a, [] => d :: putAt d i a []
  | i + 1, a, x :: xs => x :: putAt d i a xs

/-- An EXT half of a stream (07 R158): the count, then the stride's halves, of each dimension. -/
def putExt (p : Strm) (j v : Nat) : Strm :=
  let d := j / 3
  if j % 3 == 0 then { p with counts := putAt 0 d v p.counts }
  else
    let raw := (listGet 0 d p.strides % 2 ^ 32).toNat
    { p with strides := putAt 0 d (signedBits (putHalf raw (j % 3 - 1) v) 32) p.strides }

/-- An element field (07 R155): the draft after it, and the order and subcode of what is refused. A LINKS word with a count of 5 to 7 stands
in the plane that the other checks see. -/
def Draft.field (kind : Nat) (d : Draft) (fld v : Nat) (a : At) : Draft × Option (Nat × Nat) :=
  match fld with
  | 0 => if bits v 13 3 != kind || bit v 12 || bits v 0 7 != 0 then (d, some (3, 1)) else ({ d with plane := { d.plane with ctll := v } }, none)
  | 1 => ({ d with plane := { d.plane with ctlh := v } }, none)
  | 2 =>
    if bits v 12 4 != 0 then (d, some (3, 1))
    else ({ d with plane := { d.plane with links := v } }, if (List.range 4).any (fun p => 4 < bits v (3 * p) 3) then some (4, 4) else none)
  | 3 => if bits v 5 11 != 0 then (d, some (3, 1)) else ({ d with ptr := v, nbase := 0, next := 0 }, none)
  | 4 =>
    if 31 < d.ptr then (d, some (4, 4))
    else
      let s := d.ptr / 2
      ({ d with ptr := d.ptr + 1, plane := { d.plane with ctx := mapSet s (putHalf (d.plane.word s) (d.ptr % 2) v) d.plane.ctx },
                   wrote := mapSet s a d.wrote }, none)
  | 5 =>
    if kind != 0 && kind != 4 then (d, some (3, 1))
    else if 6188 < d.plane.table.length + 2 then (d, some (4, 4))
    else ({ d with plane := { d.plane with table := d.plane.table ++ [v % 256, v / 256] } }, none)
  | 6 =>
    if kind != 3 then (d, some (3, 1))
    else if d.nbase == 4 && v / 256 != 0 then (d, some (3, 1))
    else if 31 < d.ptr || 5 ≤ d.nbase then (d, some (4, 4))
    else
      let s := d.ptr / 2
      let p := mapGet {} s d.plane.strm
      ({ d with nbase := d.nbase + 1, plane := { d.plane with strm := mapSet s { p with base := putHalf p.base d.nbase v } d.plane.strm } }, none)
  | _ =>
    if kind != 3 then (d, some (3, 1))
    else if 31 < d.ptr || 12 ≤ d.next then (d, some (4, 4))
    else
      let s := d.ptr / 2
      let p := mapGet {} s d.plane.strm
      ({ d with next := d.next + 1, plane := { d.plane with strm := mapSet s (putExt p d.next v) d.plane.strm } }, none)

/-- Stage one command that stands between BEGIN and END. One that names no live tile breaks a limit, and is staged apart for the checks of
its encoding, which come first (15 R322). -/
def Stage0.command (g : Stage0) (live : Nat) (pos : Nat) (c : Cmd) : Stage0 :=
  let a : At := ⟨pos, c.slot, c.idx⟩
  let fld := bits c.word 16 4
  let v := bits c.word 0 16
  let refuse (e : Nat × Nat) : Stage0 := { g with bads := a.bad e.1 e.2 :: g.bads }
  let g := if c.lost || (fld < 8 && live ≤ bits c.word 28 4) then refuse (4, 4) else g
  let refuse (e : Nat × Nat) : Stage0 := { g with bads := a.bad e.1 e.2 :: g.bads }
  if 8 ≤ fld then
    (if bits c.word 20 12 == 0xFFF && fld == 9 && v < 2 then { g with permissive := v == 1 } else refuse (3, 1))
  else
    let e := bits c.word 20 8
    let key := ((if c.lost then 16 else 0) + bits c.word 28 4) * 256 + e
    let d := mapGet ({ plane := basePlane e } : Draft) key g.drafts
    match d.field (kindOf e) fld v a with
    | (d, bad) =>
      let g := bad.elim g refuse
      { g with drafts := mapSet key { d with last := some a, wrote := mapSet (32 + fld) a d.wrote } g.drafts }

/-- The structure of a stream (07 R157): BEGIN first, END last, the count between them. -/
def streamBad (cs : List Cmd) : Option Bad :=
  let is (c : Cmd) (fld : Nat) : Bool := bits c.word 20 12 == 0xFFF && bits c.word 16 4 == fld
  let n := cs.length
  let ps := (List.range n).zip cs
  let at_ (p : Nat × Cmd) : Bad := ⟨2, p.1, 5, p.2.slot, p.2.idx⟩
  match ps with
  | [] => some ⟨2, 0, 5, 0, 0⟩
  | p :: _ =>
    let last := ps.getLast?.getD p
    match ps.find? (fun q => (is q.2 8 && q.1 != 0) || (is q.2 15 && q.1 + 1 != n) || (q.1 == 0 && (n < 2 || !is q.2 8))
        || (q.1 + 1 == n && (n < 2 || !is q.2 15))) with
    | some q => some (at_ q)
    | none => if bits last.2.word 0 16 != (n - 2) % 65536 then some (at_ last) else none

/-! ### Context words (07 R160 to R166; 13 R248, R249, R254 to R263, R274; 15 R281 to R307; 23 R425) -/

namespace Slot

/-- Operations of a kind. -/
def opCount (kind : Nat) : Nat :=
  match kind with
  | 0 => 22
  | 1 => 3
  | 2 => 11
  | 3 => 4
  | _ => 12

/-- Reserved bits of a context word are zero. -/
def reservedOk (S : Slot) : Bool :=
  bits S.route 6 2 == 0 &&
    (match S.kind with
     | 0 => !bit S.cw 6
     | 1 => bits S.cw 10 8 == 0
     | 2 => bits S.cw 2 8 == 0
     | 3 => bits S.cw 3 3 == 0
     | _ => true)

/-- The slot takes a parameter word (07 R162). -/
def takesParam (S : Slot) : Bool :=
  match S.kind with
  | 0 => [4, 9, 12, 14, 15, 18, 19, 20].contains S.opc
  | 1 => false
  | 2 => S.opc == 8 || S.opc == 9 || bit S.cw 1
  | 3 => S.opc == 2 || S.opc == 3 || bit S.cw 2
  | _ => [3, 7, 9, 10, 11].contains S.opc

/-- The width of the fields of a parameter word: bits above bit 0 that may be nonzero (13 R263; 15 R287, R294, R297 to R307), as the
first bit beyond them. A stream port's fields begin at bit 4. -/
def paramTop (S : Slot) : Nat :=
  match S.kind with
  | 0 =>
    (match S.opc with
     | 4 | 15 => 4
     | 9 => 14
     | 12 => 4
     | 14 => 31
     | 18 => 7
     | 19 => 18
     | _ => 6)
  | 2 => 26
  | 3 => 24
  | _ =>
    (match S.opc with
     | 3 => 21
     | 7 => 12
     | 9 => 23
     | 10 => 23
     | _ => 4)

/-- The parameter word's own encoding. -/
def paramOk (S : Slot) : Bool :=
  S.pw / 2 ^ S.paramTop == 0 &&
    (match S.kind with
     | 0 => ((S.opc != 4 && S.opc != 15) || bits S.pw 1 3 != 7) && (S.opc != 14 || bits S.pw 29 2 < 2)
     | 2 => (S.opc == 8 || bits S.pw 1 3 == 7) && (S.opc != 8 || bits S.pw 1 3 != 7) && (S.opc != 9 || bits S.pw 18 8 != 0)
     | 3 =>
       let sop := bits S.pw 17 4
       bits S.pw 1 3 == 0 && (sop == 0 || (S.opc == 3 && sop ≤ 6 && S.form == 0 && S.stype ≤ 5 && typeWidth S.stype == 8 * S.size))
     | _ => (S.opc != 3 || bits S.pw 1 5 ≤ 10)
         && (S.opc != 7 || ((bits S.pw 1 2 == 1 || bits S.pw 1 2 == 2) && bits S.pw 3 4 ≤ 8
             && (bits S.pw 1 2 != 2 || bits S.pw 3 4 == 4 || bits S.pw 3 4 == 8))))

/-- A taken operand is not NONE, one not taken is NONE (13 R248). -/
def selectsOk (S : Slot) (a b : Bool) : Bool :=
  let selA := listGet 7 0 S.sels
  let selB := listGet 7 1 S.sels
  ((selA != 7) == a) && ((selB != 7) == b)

/-- Fields of an OE word and of its parameter (13 R249, R254, R256, R260 to R263). -/
def oeOk (S : Slot) : Bool :=
  let two := [1, 2, 3, 4, 5, 10, 11, 12, 15, 18].contains S.opc
  let conv := S.opc == 19 || S.opc == 20
  S.selectsOk true two
    && S.cap ≤ 20 && (S.cap == 0 || (S.opc != 12 && S.opc != 20)) && (S.opc != 19 || S.cap != 0)
    && (!S.auto || S.opc == 17 || S.opc == 19)
    && (!S.sat || (S.opc == 20 && (S.fmt == 4 || S.fmt == 5)))
    && (S.rm == 0 || S.opc == 20 || S.opc == 21)
    && (S.opc != 18 || S.lmask != 0) && (!conv || S.fmt ≤ 16)

/-- Fields of an ME word (07 R163; 13 R274). -/
def meOk (S : Slot) : Bool :=
  S.meShape < 4 &&
    (if S.opc == 0 then
      S.meFmt ≤ 8 && S.meSpar != 3 && (S.meInt == (S.meFmt == 7 || S.meFmt == 8)) && (!S.meMx || S.meFmt < 5)
        && (S.meSpar != 2 || S.meFmt == 4 || S.meFmt == 8)
     else S.meFmt == 0 && !S.meMx && S.meSpar == 0 && !S.meAcc && ((S.route == 0) == (S.opc == 1)))

/-- Fields of an MB word (07 R164; 15 R283 to R287). -/
def mbOk (S : Slot) : Bool :=
  let typ := S.mbType
  if S.opc == 9 then S.selectsOk false false && S.route == 0 && typ ≤ 5
  else if S.opc == 10 then
    S.selectsOk true (S.route == 0) && typ ≤ 2
  else
    S.selectsOk true true && typ ≤ 5 && !(3 ≤ S.opc && S.opc ≤ 5 && typeIsFp typ)
      && ((S.route == 0) == decide (S.opc ≤ 5))

/-- Fields of an SP word (07 R165; 15 R290 to R294; 23 R425). -/
def spOk (S : Slot) (base : Nat) : Bool :=
  let form := S.form
  (if S.opc == 0 || S.opc == 2 then form ≤ 3 else form == 0 || form == 4 || form == 5)
    && ((bits S.cw 18 3 == 7) == (S.opc == 0))
    && (S.opc < 2 || S.dims == 1)
    && (bits base 64 8 != 0xFE || (S.opc < 2 && form == 0 && bits base 0 48 == 0 && bits base 54 2 == 0 && bits base 60 4 == 0
          && bits base 56 4 ≤ 11))

/-- Fields of a UE word (15 R297 to R307). -/
def ueOk (S : Slot) : Bool :=
  let bare := (match S.opc with
    | 0 => bits S.arg 7 4 == 0
    | 1 => bits S.arg 3 8 == 0
    | 2 => bits S.arg 2 9 == 0
    | 3 | 4 | 7 | 9 | 11 => S.arg == 0
    | 8 => bits S.arg 0 5 ≤ 16 && bits S.arg 5 5 ≤ 16
    | _ => true)
  let sel := if S.opc == 6 then S.selectsOk false false
    else if S.opc == 1 || S.opc == 3 then S.selectsOk true true
    else if S.opc == 10 then listGet 7 0 S.sels != 7
    else S.selectsOk true false
  bare && sel

/-- The encoding of a context word and its parameter (15 R322, order 3). -/
def wordOk (S : Slot) (base : Nat) : Bool :=
  match S.kind with
  | 0 => S.oeOk
  | 1 => S.meOk
  | 2 => S.mbOk
  | 3 => S.spOk base
  | _ => S.ueOk

/-- The limits of a context word (07 R158, R159; 15 R298, R300): a count of 0, a FOLD too big, a frame area outside the reserved
stash. R158 refuses a count of 0 in a used dimension and names no subcode: 4, a broken limit (DESIGN CHOICE, log 57). -/
def limitOk (S : Slot) (p : Plane) (stashres : Nat) : Bool :=
  if S.kind == 3 then
    (List.range S.dims).all (fun d => listGet 0 d (mapGet ({} : Strm) S.s p.strm).counts != 0)
  else if S.kind == 4 && S.opc == 0 then
    let n := bits S.arg 0 5 + 1
    let width := S.ueWidth 5
    n * n * width ≤ 65536 && n % (128 / width) == 0
  else if S.kind == 4 && S.opc == 3 then
    0x180000 - stashres * 1024 ≤ S.frameBase && S.frameBase + 64 * S.frameWords * 8 ≤ 0x180000
  else true

end Slot

/-! ### Tables (03 R85; 13 R258; 15 R307) -/

/-- Every coefficient, VNEG and VPOS of a table is finite. -/
def tableFinite (t : List Nat) (nb : Nat) : Bool :=
  let fin (o : Nat) : Bool := match Fp.of fp32 (tableNat t o 4) with
    | .fin _ _ _ => true
    | _ => false
  fin 8 && fin 12 && (List.range (3 * (64 * nb + 1))).all (fun i => fin (32 + 4 * i))

/-- x is at most y. -/
def le2 (x y : Int × Int) : Bool := !lt2 y x

/-- The absolute value. -/
def abs2 (x : Int × Int) : Int × Int := (x.1.natAbs, x.2)

/-- A value clamped between two others. -/
def clamp2 (mono : Nat) (y a b : Int × Int) : Int × Int :=
  if mono == 0 then y
  else
    let lo := if lt2 a b then a else b
    let hi := if lt2 a b then b else a
    if lt2 y lo then lo else if lt2 hi y then hi else y

/-- A segment keeps to the bound (03 R85): at u = 0, at u = 1 and at its vertex. The vertex value c0 − c1² ÷ (4 c2) is compared as
4 c2 c0 − c1² against 4 c2 times the bound; where clamping applies it lies between the segment's ends, which are checked. -/
def segmentBounded (t : List Nat) (h : TableHead) (i : Nat) (lim : Int × Int) : Bool :=
  let c0 := coeff t i 0
  let c1 := coeff t i 1
  let c2 := coeff t i 2
  let nx := nextStart t h i
  let ok (y : Int × Int) : Bool := le2 (abs2 y) lim
  let end_ := add2 c0 (add2 c1 c2)
  let vertexIn := c2.1 != 0 &&
    (let m := if c2.1 < 0 then c1 else (-c1.1, c1.2)
     let d := mul2 (2, 0) (abs2 c2)
     le2 (0, 0) m && le2 m d)
  let num := add2 (mul2 (4, 0) (mul2 c2 c0)) (let q := mul2 c1 c1; (-q.1, q.2))
  let den := mul2 (4, 0) c2
  let below (b : Int × Int) : Bool := if den.1 < 0 then lt2 (mul2 den b) num else lt2 num (mul2 den b)
  let above (b : Int × Int) : Bool := if den.1 < 0 then lt2 num (mul2 den b) else lt2 (mul2 den b) num
  let vertexOk :=
    if h.mono == 0 then !above lim && !below (-lim.1, lim.2)
    else
      let lo := if lt2 c0 nx then c0 else nx
      let hi := if lt2 c0 nx then nx else c0
      (below lo || above hi || (!above lim && !below (-lim.1, lim.2))) && ok lo && ok hi
  ok (clamp2 h.mono c0 c0 nx) && ok (clamp2 h.mono end_ c0 nx) && (!vertexIn || vertexOk)

/-- The Collator takes a LUTF table (03 R85). -/
def tableOk (t : List Nat) : Bool :=
  let h := tableHead t
  let nseg := 64 * h.nb + 1
  32 ≤ t.length && bits (listGet 0 2 t) 3 5 == 0 && bits (listGet 0 3 t) 2 6 == 0 && h.mono != 3
    && tableNat t 6 2 == 0 && tableNat t 16 16 == 0
    && -8192 ≤ h.blo && h.blo ≤ 8183 && -2048 ≤ h.esc && h.esc ≤ 2047
    && 32 + 12 * nseg ≤ t.length && tableFinite t h.nb
    && (let lim : Int × Int := (1, 4 * h.esc - 1)
        le2 (abs2 (tableVal t 8)) lim && le2 (abs2 (tableVal t 12)) lim
        && (List.range nseg).all (fun i => segmentBounded t h i lim)
        && (h.mono == 0 ||
            (let flip (x : Int × Int) : Int × Int := if h.mono == 2 then (-x.1, x.2) else x
             le2 (flip (tableVal t 8)) (flip (coeff t 0 0))
             && (List.range nseg).all (fun i =>
                  let c1 := coeff t i 1
                  let c2 := coeff t i 2
                  le2 (0, 0) (flip c1) && le2 (0, 0) (flip (add2 c1 (mul2 (2, 0) c2)))
                    && le2 (flip (add2 (coeff t i 0) (add2 c1 c2))) (flip (nextStart t h i))))))

/-- The table of an element suits its slots. -/
def tablesOk (kind : Nat) (p : Plane) (ss : List Slot) : Bool :=
  if kind == 0 then (p.table.isEmpty && !ss.any (fun S => S.opc == 16)) || (!p.table.isEmpty && tableOk p.table)
  else if kind == 4 then
    ss.all (fun S => S.opc != 11 || (!p.table.isEmpty && p.table.length % 2 ^ bits S.pw 1 2 == 0))
  else true

/-! ### Checks of the plane as it will stand (15 R322) -/

/-- An element as staged, with its active slots whose encodings pass. -/
structure Staged where
  key : Nat
  draft : Draft
  slots : List Slot
  deriving DecidableEq, Repr

/-- Where a faulty part of an element is reported: the last command that wrote it, else the element's last, else no command. -/
def Draft.place (d : Draft) (slot part : Nat) : At :=
  match mapFind part d.wrote with
  | some a => a
  | none => d.last.getD ⟨2 ^ 40, slot, wholeCmd⟩

/-- Orders 3 to 5 of R322 for one element. -/
def checkElement (live : List Nat) (stashres : Nat) (key : Nat) (d : Draft) : Staged × List Bad :=
  let e := key % 256
  let slot := key / 256
  let t := listGet 0 slot live
  let ss := d.plane.slots.map (mkSlot t e d.plane)
  let r := ss.foldl (fun (r : List Slot × List Bad) S =>
    let base := (mapGet ({} : Strm) S.s d.plane.strm).base
    let here (order sub part : Nat) : Bad := (d.place slot part).bad order sub
    if Slot.opCount S.kind ≤ S.opc then (r.1, here 3 1 S.s :: r.2)
    else
      let own := if S.reservedOk && S.wordOk base then [] else [here 3 1 S.s]
      let missing := S.s == 15 || !bit (d.plane.word (S.s + 1)) 0
      let param := if !S.takesParam then [] else if missing then [here 3 5 S.s] else if S.paramOk then [] else [here 3 1 (S.s + 1)]
      let lim := if S.limitOk d.plane stashres then [] else [here 4 4 S.s]
      (if own.isEmpty && param.isEmpty then r.1 ++ [S] else r.1, own ++ param ++ lim ++ r.2)) ([], [])
  let twins := ss.flatMap (fun S => (ss.filter (fun T => S.s < T.s && S.tag == T.tag && Nat.land S.route T.route % 64 != 0)).map
    (fun T => (d.place slot T.s).bad 3 1))
  let tab := if tablesOk (kindOf e) d.plane r.1 then [] else [(d.place slot 37).bad 5 2]
  (⟨key, d, r.1⟩, twins ++ tab ++ r.2)

/-- The channel inputs of the slots of an element: ports 0 to 3. -/
def Staged.ins (n : Staged) : List Nat := ((n.slots.flatMap Slot.inputs).filter (· < 4)).eraseDups

/-- The channel routes of an element. -/
def Staged.outs (n : Staged) : List Nat := (List.range 4).filter (fun p => n.slots.any (fun S => bit S.route p))

/-- Whether a set of edges among nodes has a cycle: nodes without an edge to a node that is left fall away. -/
def hasCycle (edges : List (Nat × Nat)) : Nat → List Nat → Bool
  | 0, nodes => !nodes.isEmpty
  | fuel + 1, nodes =>
    let left := nodes.filter (fun n => edges.any (fun e => e.1 == n && nodes.contains e.2))
    if left.length == nodes.length then !left.isEmpty else hasCycle edges fuel left

namespace Work

/-- The graph of one element (15 R279, R322 order 6; 01 R43): its failures, and its channels of no slots. No channel is placed across a
fenced boundary (23 R423; DEDUCED, log 51). -/
def checkChannels (w : Work) (live : List Nat) (nodes : List (Nat × Staged)) (n : Staged) : List Bad × List (Nat × Nat) :=
  let t := listGet 0 (n.key / 256) live
  let e := n.key % 256
  let p := n.draft.plane
  let rates := (n.draft.place (n.key / 256) 33).bad 4 4
  let outs := n.outs.foldl (fun (r : List Bad × List (Nat × Nat)) d =>
    match w.neighbour t e d with
    | none => (badWhole 6 7 0 :: r.1, r.2)
    | some (u, f, extra) =>
      if w.boundaryFenced t u then (badWhole 6 7 0 :: r.1, r.2)
      else
      match live.findIdx? (· == u) with
      | none => r
      | some su =>
        let m := mapGet (⟨su * 256 + f, { plane := basePlane f }, []⟩ : Staged) (su * 256 + f) nodes
        let count := m.draft.plane.link (opposite d) + extra
        let bad1 := if m.ins.contains (opposite d) then [] else [badWhole 6 7 0]
        let bad2 := if p.fixr && count < p.rateOut d then [rates] else []
        (bad1 ++ bad2 ++ r.1, if count == 0 then (n.key, m.key) :: r.2 else r.2)) ([], [])
  let ins := n.ins.flatMap (fun d =>
    match w.neighbour t e d with
    | none => [badWhole 6 7 0]
    | some (u, f, extra) =>
      if w.boundaryFenced t u then [badWhole 6 7 0]
      else
      match live.findIdx? (· == u) with
      | none => []
      | some su =>
        let m := mapGet (⟨su * 256 + f, { plane := basePlane f }, []⟩ : Staged) (su * 256 + f) nodes
        let bad1 := if m.outs.contains (opposite d) then [] else [badWhole 6 7 0]
        let bad2 := if p.fixr && p.link d + extra < p.rateIn d then [rates] else []
        bad1 ++ bad2)
  (ins ++ outs.1, outs.2)

/-- Arcs (15 R281): a duplicate number, a predecessor that no node carries, a cycle. -/
def arcsOk (ss : List Slot) : Bool :=
  let ids := (ss.map Slot.arcId).filter (· != 0)
  ids.length == ids.eraseDups.length && ss.all (fun S => S.arcPred == 0 || ids.contains S.arcPred)
    && ss.all (fun S => S.arcId == 0 || !chainTo ss S.arcId 64 S)

/-- A memory node of the race check (05 R126): whether it writes, 1 for filling stores and 2 for waiting or consuming loads, its
reduction if it is one. -/
def memNode (S : Slot) : Option (Bool × Nat × Option (Nat × Nat)) :=
  if S.kind == 2 then
    (if S.opc == 9 then none
     else some (true, if S.opc == 10 then (if listGet 7 1 S.sels == 7 then 2 else 1) else 0, if S.opc ≤ 5 then some (S.opc, S.mbType) else none))
  else if S.kind == 3 then
    let a := S.access
    some (a == 2 || 4 ≤ a, if a == 5 then 1 else if a == 1 || a == 2 then 2 else 0, if 8 < a then some (a - 9, S.stype) else none)
  else none

/-- Two memory nodes reach a common address (05 R126). -/
def nodesMeet (S T : Slot) (p q : Strm) : Bool :=
  let range (S : Slot) (p : Strm) : Int × Int := declared p S.dims S.size
  if S.kind == 2 && T.kind == 2 then S.tile == T.tile && S.elem == T.elem
  else if S.kind == 2 then let h := range T q; reachesBank h.1 h.2 S.tile (S.elem / 16)
  else if T.kind == 2 then let g := range S p; reachesBank g.1 g.2 T.tile (T.elem / 16)
  else
    let g := range S p
    let h := range T q
    bits p.base 64 8 != 0xFE && bits q.base 64 8 != 0xFE && g.1 ≤ h.2 && h.1 ≤ g.2

/-- Two memory nodes race (05 R126). -/
def races (ss : List Slot) (S T : Slot) (p q : Strm) : Bool :=
  match memNode S, memNode T with
  | some a, some b =>
    nodesMeet S T p q && (a.1 || b.1) && !((a.2.1 == 1 && b.2.1 == 2) || (a.2.1 == 2 && b.2.1 == 1))
      && !(a.2.2.isSome && a.2.2 == b.2.2) && !joined ss S T
  | _, _ => false

/-- Every pair of nodes that races: the places of their words. -/
def racePairs (all_ : List Slot) : List (Slot × Strm × At) → List (At × At)
  | [] => []
  | x :: xs => ((xs.filter (fun y => races all_ x.1 y.1 x.2.1 y.2.1)).map (fun y => (x.2.2, y.2.2))) ++ racePairs all_ xs

/-- The first failure: by order, then by place. -/
def firstBad : List Bad → Option Bad
  | [] => none
  | b :: bs =>
    match firstBad bs with
    | none => some b
    | some c => if c.order < b.order || (c.order == b.order && c.pos < b.pos) then some c else some b

/-- Stage and check a stream for a region (15 R322): the planes by slot × 256 + element, and RACE; or what is refused. `start` gives the
drafts for BASE 0, 1 and 2. -/
def collate (w : Work) (live : List Nat) (stashres : Nat) (start : Nat → List (Nat × Plane)) (cs : List Cmd) :
    Except Bad (List (Nat × Plane) × Bool) :=
  match streamBad cs with
  | some b => .error b
  | none =>
    let head := (cs.headD ⟨0, 0, 0, false⟩)
    let base := bits head.word 0 16
    let bads0 : List Bad := if 2 < base then [⟨3, 0, 1, head.slot, head.idx⟩] else []
    let g0 : Stage0 := { drafts := (start base).map (fun p => (p.1, ({ plane := p.2 } : Draft))), bads := bads0 }
    let body := ((List.range cs.length).zip cs).drop 1
    let g := (body.take (cs.length - 2)).foldl (fun g p => g.command live.length p.1 p.2) g0
    let checked := g.drafts.map (fun d => checkElement live stashres d.1 d.2)
    let nodes := checked.map (fun c => (c.1.key, c.1))
    let graph := checked.map (fun c => w.checkChannels live nodes c.1)
    let edges := graph.flatMap (·.2)
    let ss := checked.flatMap (fun c => c.1.slots)
    let cyc := if hasCycle edges (edges.length + 1) (edges.map (·.1)).eraseDups then [badWhole 6 7 0] else []
    let arcs := if arcsOk ss then [] else [badWhole 6 7 0]
    let mems := checked.flatMap (fun c => c.1.slots.map (fun S =>
      (S, mapGet ({} : Strm) S.s c.1.draft.plane.strm, c.1.draft.place (c.1.key / 256) S.s)))
    let pairs := racePairs ss mems
    let raceBads := if g.permissive then [] else pairs.map (fun p => (if p.1.pos ≤ p.2.pos then p.1 else p.2).bad 7 0)
    let bads := g.bads ++ checked.flatMap (·.2) ++ graph.flatMap (·.1) ++ cyc ++ arcs ++ raceBads
    match firstBad bads with
    | some b => .error b
    | none => .ok (g.drafts.map (fun d => (d.1, d.2.plane)), g.permissive && !pairs.isEmpty)

/-- The planes of a region's elements, active or shadow, as a stage begins (07 R156). -/
def planesOf (w : Work) (r : Region) (b : Bool) : List (Nat × Plane) :=
  (List.range r.live.length).flatMap (fun s =>
    let t := listGet 0 s r.live
    (w.core.elems.filter (fun x => x.1 / 256 == t)).map (fun x => (s * 256 + x.1 % 256, if b then x.2.planeB else x.2.planeA)))

end Work

/-! ### Fingaette images (07 R172 to R174) -/

/-- Little-endian number of `n` bytes at offset `o`. -/
def bytesAt (b : List Nat) (o n : Nat) : Nat := tableNat b o n

/-- A section of an image. -/
structure Section where
  ltile : Nat
  lx : Nat
  ly : Nat
  off : Nat
  cmds : List Nat
  crc : Nat
  rels : List Nat
  deriving DecidableEq, Repr

/-- An image whose structure and signatures pass. -/
structure Image where
  w : Nat
  h : Nat
  live : Nat
  reloc : Bool
  permissive : Bool
  partial_ : Bool
  ptmask : Nat
  stashres : Nat
  sections : List Section
  deriving DecidableEq, Repr

/-- A big-endian number of 4 bytes at offset `o`. -/
def big32 (b : List Nat) (o : Nat) : Nat := bytesAt ((b.drop o).take 4).reverse 0 4

/-- The length of an LMS signature that stands at offset `o` (07 R174), by its two typecodes; none for a pair that R174 does not list. -/
def lmsLength (b : List Nat) (o : Nat) : Option Nat :=
  match otsSet (big32 b (o + 4)) with
  | none => none
  | some (_, p, _) => lmsSize (big32 b (o + 40 + 32 * p)) (big32 b (o + 4))

/-- The length of an image, from its header of 64 bytes: the end of its signature block. -/
def imageLength (b : List Nat) : Nat := bytesAt b 28 4 + bytesAt b 32 4

/-- The header's own fields (07 R174, check 1). -/
def headerOk (b : List Nat) : Bool :=
  bytesAt b 0 4 == 0x49474746 && bytesAt b 4 2 == 1 && bytesAt b 6 2 == 64 && bits (bytesAt b 11 1) 3 5 == 0
    && bits (bytesAt b 12 4) 20 12 == 0 && bytesAt b 22 2 == 0 && (List.range 28).all (fun i => listGet 0 (36 + i) b == 0)
    && bytesAt b 20 2 == bytesAt b 10 1
    && 64 ≤ bytesAt b 16 4 && bytesAt b 16 4 + 24 * bytesAt b 20 2 ≤ bytesAt b 28 4
    && 64 ≤ bytesAt b 28 4 && 104 ≤ bytesAt b 32 4

/-- `n` 32-bit words. -/
def words32 : Nat → List Nat → List Nat
  | 0, _ => []
  | n + 1, b => bytesAt b 0 4 :: words32 n (b.drop 4)

/-- A section of an image, by its entry. -/
def sectionAt (b : List Nat) (i : Nat) : Section :=
  let o := bytesAt b 16 4 + 24 * i
  { ltile := bytesAt b o 1, lx := bytesAt b (o + 1) 1, ly := bytesAt b (o + 2) 1, off := bytesAt b (o + 4) 4,
    cmds := words32 (bytesAt b (o + 8) 4) (b.drop (bytesAt b (o + 4) 4)), crc := bytesAt b (o + 12) 4,
    rels := words32 (bytesAt b (o + 20) 4) (b.drop (bytesAt b (o + 16) 4)) }

/-- A section's entry and records (07 R173; R174, check 1). An LTILE above 15 is refused here, and so is an offset below 64 of a table
that is empty (DESIGN CHOICE, log 47). -/
def sectionOk (b : List Nat) (i : Nat) : Bool :=
  let o := bytesAt b 16 4 + 24 * i
  let sig := bytesAt b 28 4
  bytesAt b (o + 3) 1 == 0 && bytesAt b o 1 < 16
    && 64 ≤ bytesAt b (o + 4) 4 && bytesAt b (o + 4) 4 + 4 * bytesAt b (o + 8) 4 ≤ sig
    && 64 ≤ bytesAt b (o + 16) 4 && bytesAt b (o + 16) 4 + 4 * bytesAt b (o + 20) 4 ≤ sig
    && (words32 (bytesAt b (o + 20) 4) (b.drop (bytesAt b (o + 16) 4))).all (fun r =>
        bit (bytesAt b 11 1) 0 && bits r 28 4 == 0 && bits r 24 4 ≤ 2 && bits r 0 24 < bytesAt b (o + 8) 4)

/-- The signature block (07 R174): its lengths, that of the LMS signature by its typecodes. -/
def signatureOk (b : List Nat) : Bool :=
  let sig := bytesAt b 28 4
  bytesAt b sig 4 == 96 && bytesAt b 32 4 == 104 + bytesAt b (sig + 4) 4 && lmsLength b (sig + 104) == some (bytesAt b (sig + 4) 4)

/-- Some key pair of firmware's verifies both signatures of an image, which cover it up to SIGOFF (07 R174, check 2). -/
def signedBy (keys : List SigKey) (b : List Nat) : Bool := keys.any (fun k => dualOk k (b.take (bytesAt b 28 4)) (b.drop (bytesAt b 28 4)))

/-- Checks 1 and 2 of an image (07 R174): its structure, and its signatures against firmware's keys. -/
def parseImage (keys : List SigKey) (b : List Nat) : Option Image :=
  if !headerOk b then none
  else
    let n := bytesAt b 20 2
    if !((List.range n).all (sectionOk b)) || !signatureOk b || !signedBy keys b then none
    else
      let fl := bytesAt b 11 1
      some { w := bytesAt b 8 1, h := bytesAt b 9 1, live := bytesAt b 10 1, reloc := bit fl 0, permissive := bit fl 1, partial_ := bit fl 2,
             ptmask := bytesAt b 12 4, stashres := bytesAt b 24 4, sections := (List.range n).map (sectionAt b) }

/-- The slot of a design position in a region: none where it is not live. -/
def Region.slotAt (r : Region) (lx ly : Nat) : Option Nat :=
  if r.w ≤ lx || r.h ≤ ly then none
  else r.live.findIdx? (· == (r.die / 2 * 5 + r.oy + ly) * 16 + (r.die % 2) * 8 + r.ox + lx)

/-- An image matches a region (15 R312): its shape, pass-through pattern, live count, and one section for each live tile. -/
def Image.fits (g : Image) (r : Region) : Bool :=
  let slots := g.sections.map (fun s => r.slotAt s.lx s.ly)
  g.w == r.w && g.h == r.h && g.live == r.live.length && g.ptmask == r.ptmask && slots.all (·.isSome)
    && slots.eraseDups.length == slots.length && ((g.sections.map (·.ltile)).eraseDups).length == g.sections.length

/-- A section's commands for a footprint (07 R173): relocated, with the slot of each logical tile. -/
def Section.relocate (s : Section) (slotOf : Nat → Option Nat) (slot : Nat) : List Cmd :=
  let cs := ((List.range s.cmds.length).zip s.cmds).map (fun c => ({ slot := slot, idx := c.1, word := c.2 } : Cmd))
  s.rels.foldl (fun cs r =>
    let i := bits r 0 24
    listModify (fun c =>
      if bits r 24 4 == 0 then
        (match slotOf (bits c.word 28 4) with
         | none => { c with lost := true }
         | some t => { c with word := c.word % 2 ^ 28 + t * 2 ^ 28 })
      else if bits r 24 4 == 1 then
        (match slotOf (bits c.word 0 4) with
         | none => { c with lost := true }
         | some t => { c with word := c.word - bits c.word 0 4 + t })
      else c) i cs) cs

/-- The stream that the loader makes of an image for a region (07 R173), or what is refused: the match, then each section's CRC. -/
def Image.stream (g : Image) (r : Region) : Except Bad (List Cmd) :=
  if !g.fits r then .error ⟨1, 2 ^ 40, 4, 0, wholeCmd⟩
  else
    let slot (s : Section) : Nat := (r.slotAt s.lx s.ly).getD 0
    match g.sections.find? (fun s => crc32c (s.cmds.flatMap (bytesOf 4)) != s.crc) with
    | some s => .error ⟨1, 2 ^ 40, 6, slot s, wholeCmd⟩
    | none =>
      let slotOf (lt : Nat) : Option Nat := (g.sections.find? (fun s => s.ltile == lt)).map slot
      let body := (if g.permissive then [({ slot := 0, idx := 0, word := 0xFFF90001 } : Cmd)] else [])
        ++ g.sections.flatMap (fun s => s.relocate slotOf (slot s))
      let begin_ : Cmd := { slot := 0, idx := 0, word := 0xFFF80000 + (if g.partial_ then 1 else 2) }
      let end_ : Cmd := { slot := 0, idx := 0, word := 0xFFFF0000 + body.length % 65536 }
      .ok (begin_ :: body ++ [end_])

/-- The commands of a stream that CFGSTRM carries (15 R313). -/
def streamCmds (ws : List Nat) : List Cmd :=
  ((List.range ws.length).zip ws).map (fun c => { slot := if bits c.2 20 12 == 0xFFF then 0 else bits c.2 28 4, idx := c.1, word := c.2 })

namespace Work

/-- Read `n` bytes with plain loads, as 64-bit words from an aligned address. -/
def readImageBytes (w : Work) (q : Who) (va n : Nat) : Work × Except (Nat × Nat × Nat) (List Nat) :=
  match w.readWords q ((n + 7) / 8) va with
  | (w, .error e) => (w, .error e)
  | (w, .ok ws) => (w, .ok ((ws.flatMap (fun v => bytesOf 8 v.toNat)).take n))

/-- Read an image (07 R172): its header, and where that passes the whole of it. -/
def readImage (w : Work) (q : Who) (va : Nat) : Work × Except (Nat × Nat × Nat) (List Nat) :=
  match w.readImageBytes q va 64 with
  | (w, .error e) => (w, .error e)
  | (w, .ok b) => if headerOk b then w.readImageBytes q va (imageLength b) else (w, .ok b)

/-- The pages of 64 KiB, up to eight, that a stream port's slot reaches first (05 R115): those of the pattern's first 64 elements; of the
base for GATH and SCAT, whose indices are not known yet; none in a window or on a bound channel. -/
def firstPages (S : Slot) (p : Strm) : List Nat :=
  let vas := if S.opc < 2 then ((List.range 64).filter (fun i => i < p.total S.dims)).map (p.va S.dims) else [p.base]
  (((vas.filter (fun va => bits va 64 8 < 0xFE)).map (· / 0x10000)).eraseDups).take 8

/-- The Collator translates the stream bases of an element's plane, and patches the extents into its generators (05 R115; 07 R158). -/
def planeExtents (w : Work) (asid t e : Nat) (p : Plane) : Work × Plane :=
  if kindOf e != 3 then (w, p)
  else p.slots.foldl (fun (r : Work × Plane) s =>
    let f := r.1.fetchExtents asid (firstPages (mkSlot t e p s) (mapGet {} s p.strm))
    (f.1, { r.2 with extents := mapSet s f.2 r.2.extents })) (w, { p with extents := [] })

/-- The stream bases of planes that have passed their checks are translated (05 R115; 15 R322). -/
def loadExtents (w : Work) (asid : Nat) (live : List Nat) (planes : List (Nat × Plane)) : Work × List (Nat × Plane) :=
  planes.foldl (fun (r : Work × List (Nat × Plane)) p =>
    let f := r.1.planeExtents asid (listGet 0 (p.1 / 256) live) (p.1 % 256) p.2
    (f.1, r.2 ++ [(p.1, f.2)])) (w, [])

end Work

end Sys2Proof.Machine
end

