-- ==== Sys2Proof/Machine/Nodes.lean ====
section
/-! DEFINITION. Node records (19 R368, R369, R373, R374): their checks, how a TASK or a COPY begins (R375, R377), and the Imposer's
holding of PATCHABLE nodes (R382; 17 R351). -/

namespace Sys2Proof.Machine

open Sys2Proof

/-! ### Words of records -/

/-- The first word of a descriptor with a nonzero bit outside its mask: masks by word. -/
def maskBad : List Nat → List Word → Nat → Option Nat
  | [], _, _ => none
  | _, [], _ => none
  | m :: ms, v :: vs, k => if Nat.land v.toNat (2 ^ 64 - 1 - m) != 0 then some k else maskBad ms vs (k + 1)

/-- All 64 bits of a word. -/
def allBits : Nat := 2 ^ 64 - 1

/-- The Sequencer and the engines of a replay's nodes as makers of accesses (19 R362: the queue's ASID). -/
def replayWho (r : Replay) : Who := ⟨r.asid, false, [], [], none⟩

/-- An address of a replay's records: VA[71:64] is the queue's VAH (19 R373). -/
def Replay.va (r : Replay) (a : Nat) : Nat := 2 ^ 64 * r.vah + low a 64

namespace Work

/-- Word `k` of a list of words, as a number. -/
def nth (ws : List Word) (k : Nat) : Nat := (listGet 0 k ws).toNat

/-- The alignment that a copy must have (17 R347): the first of SRC, DST, LEN that is not a multiple of 8. -/
def copyBad (mode : Nat) (ws : List Word) : Option Nat :=
  if mode == 3 then none
  else [nth ws 0, nth ws 1, bits (nth ws 2) 0 48].find? (fun x => x % 8 != 0)

/-- STATUS of a node that has run (19 R368). -/
def statusOf : Outcome → Option Word
  | .passed => none
  | .done d => some (BitVec.ofNat 64 (2 ^ 62 + d % 2 ^ 48))
  | .skipped d => some (BitVec.ofNat 64 (2 * 2 ^ 62 + d % 2 ^ 48))
  | .error c d => some (BitVec.ofNat 64 (3 * 2 ^ 62 + c % 256 * 2 ^ 48 + d % 2 ^ 48))

/-- A plain store of a word for the Sequencer; a word that it cannot write is left. -/
def putVa (w : Work) (q : Who) (va : Nat) (v : Word) : Work :=
  match w.translate q .descStore 8 va with
  | (w, .fault _ _) => w
  | (w, .ok pa _) => w.putWord pa v

/-- The replay of a number. -/
def replay (w : Work) (n : Nat) : Option Replay := mapFind n w.core.replays

/-- Replace a replay. -/
def setReplay (w : Work) (n : Nat) (r : Replay) : Work := { w with core := { w.core with replays := mapSet n r w.core.replays } }

/-- The node at an address of a replay. -/
def node (w : Work) (r a : Nat) : Option Node := w.core.nodes.find? (fun x => x.replay == r && x.addr == a)

/-- Change the node at an address of a replay. -/
def onNode (w : Work) (r a : Nat) (f : Node → Node) : Work :=
  { w with core := { w.core with nodes := w.core.nodes.map (fun x => if x.replay == r && x.addr == a then f x else x) } }

/-- A node stands to finish. -/
def endNode (w : Work) (n : Nat × Nat) (o : Outcome) : Work := w.onNode n.1 n.2 (fun x => { x with stage := .ends o })

/-- The die whose Imposer holds a node: that of its replay's Sequencer. -/
def nodeDie (w : Work) (x : Node) : Nat :=
  match w.replay x.replay with
  | none => 0
  | some r => r.die

/-- The ASID of a node's replay. -/
def nodeAsid (w : Work) (x : Node) : Nat :=
  match w.replay x.replay with
  | none => 0
  | some r => r.asid

/-- The hold group of a node: HOLD of word 0 (19 R368). -/
def holdGroup (x : Node) : Nat := bits (nth x.words 0) 48 16

/-- KIND of a node. -/
def nodeKind (x : Node) : Nat := bits (nth x.words 0) 0 4

/-- Word 2 of a node's task record: its shape and place. -/
def shapeWord (x : Node) : Nat := nth x.trec 2

/-- The node has a fixed placement. -/
def fixed (x : Node) : Bool := bit (shapeWord x) 10

/-- The die that a TASK node is placed on: that of its fixed place, else that of its Sequencer (01 R44). -/
def placeDie (w : Work) (x : Node) : Nat := if fixed x then bits (shapeWord x) 11 2 else w.nodeDie x

/-- GANG of a node. -/
def nodeGang (x : Node) : Nat := bits (nth x.words 2) 16 16

/-! ### Checks (19 R369, R373) -/

/-- The flags of word 0 [7:4] that a kind takes: PATCHABLE, CW, CONSUME, INDIRECT. -/
def kindFlags (k : Nat) : Nat :=
  match k with
  | 0 => 0xF0
  | 1 => 0x80
  | 2 => 0x20
  | 3 => 0x20
  | _ => 0

/-- The bits of words 3 to 6 that a kind's payload lists (19 R373). -/
def payloadMasks (k : Nat) : List Nat :=
  match k with
  | 0 => [allBits, allBits, 2 ^ 37 - 1, 0xFFFF]
  | 1 => [allBits, allBits, 2 ^ 56 - 1, 0]
  | 2 => [allBits, allBits, 2 ^ 21 - 1, 0]
  | 3 => [allBits, allBits, 2 ^ 21 - 1, 2 ^ 32 - 1]
  | 4 => [allBits, 2 ^ 40 - 1, 2 ^ 12 - 1, 0]
  | 5 => [allBits, 1, 0, 0]
  | 6 => [0, 0, 0, 0]
  | _ => [allBits, 2 ^ 48 - 1, 2 ^ 9 - 1, 2 ^ 32 - 1]

/-- A record that R369 refuses: KIND, reserved fields, flags; and a GANG on a node that is no TASK (R376). -/
def nodeReserved (ws : List Word) : Bool :=
  let w0 := nth ws 0
  let k := bits w0 0 4
  8 ≤ k || bits w0 12 4 != 0 || bits (nth ws 2) 36 28 != 0
    || Nat.land (bits w0 4 4 * 16) (kindFlags k) != bits w0 4 4 * 16
    || (k == 0 && bit w0 5 && !bit w0 4)
    || (k != 0 && bits (nth ws 2) 16 16 != 0)
    || (maskBad (payloadMasks k) (ws.drop 3) 0).isSome

/-- Misaligned addresses of a record (19 R373): SUCC, and those of the kind's payload. -/
def nodeMisaligned (ws : List Word) : Bool :=
  let n := nth ws
  n 1 % 8 != 0 ||
    (match bits (n 0) 0 4 with
     | 0 => n 3 % 64 != 0 || (bit (n 0) 4 && n 4 % 8 != 0)
     | 2 => n 3 % 8 != 0 || n 4 % 8 != 0
     | 3 => n 3 % 8 != 0 || n 4 % 8 != 0
     | 4 => n 3 % 8 != 0
     | 5 => n 3 % 64 != 0
     | 7 => n 3 % 8 != 0
     | _ => false)

/-- Fields of a record out of range (19 R373, R422). -/
def nodeOutOfRange (ws : List Word) : Bool :=
  let n := nth ws
  match bits (n 0) 0 4 with
  | 1 => 2 ^ 48 ≤ bits (n 5) 0 48 * 2 ^ bits (n 5) 50 6
  | 3 => bits (n 5) 0 16 == 0 || bits (n 6) 0 32 == 0
  | 4 => bit (n 5) 11 && bits (n 5) 0 11 ≤ 1
  | 7 => n 4 % 8 != 0 || 11 < bits (n 5) 0 4
  | _ => false

/-- The error of a record that its checks refuse. -/
def nodeBad (ws : List Word) : Option Nat :=
  if nodeReserved ws then some Cause.reservedField
  else if nodeMisaligned ws then some Cause.align
  else if nodeOutOfRange ws then some Cause.protection
  else none

/-- The task record's own checks (19 R374; 01 R20): its cause. -/
def taskBad (r : Replay) (ws trec : List Word) : Option Nat :=
  let t := nth trec
  let w2 := t 2
  let fixed := bit w2 10
  let wd := bits w2 0 3 + 1
  let ht := bits w2 3 3 + 1
  if bits w2 32 32 != 0 || bits w2 19 10 != 0 || bits (t 8) 36 28 != 0 || (trec.drop 11).any (· != 0)
      || bit (nth ws 0) 6 != bit w2 31 then some Cause.reservedField
  else if t 0 % 64 != 0 || t 9 % 32 != 0 || (bit w2 31 && t 10 % 64 != 0) then some Cause.align
  else if t 1 % 16 != 0 || 5 < wd || 5 < ht || 20 < wd * ht
      || (fixed && (8 < bits w2 13 3 + wd || 5 < bits w2 16 3 + ht || (bits (nth ws 2) 16 16 == 0 && bits w2 11 2 != r.die))) then
    some Cause.protection
  else none

/-- The design positions that a pass-through pattern marks in a footprint. -/
def marked (ptmask n : Nat) : Nat := ((List.range n).filter (fun i => bit ptmask i)).length

/-- The image of a task record (01 R20, R22; 19 R374): its pass-through pattern, or the error and its detail. -/
def taskImage (w : Work) (r : Replay) (trec : List Word) : Work × Except (Nat × Nat) Nat :=
  let w2 := nth trec 2
  let wd := bits w2 0 3 + 1
  let ht := bits w2 3 3 + 1
  let live := bits w2 6 4 + 1
  match w.readImage (replayWho r) (r.va (nth trec 0)) with
  | (w, .error e) => (w, .error (e.1, 0))
  | (w, .ok b) =>
    match parseImage w.core.imageKeys b with
    | none => (w, .error (Cause.cfgReject, 6))
    | some g =>
      if g.w != wd || g.h != ht || g.live != live || live + marked g.ptmask (wd * ht) != wd * ht then (w, .error (Cause.cfgReject, 4))
      else (w, .ok g.ptmask)

/-! ### How a TASK and a COPY begin -/

/-- A TASK that is ready and not held (19 R374, R375): checked, and ready for placement or waiting for its count. -/
def beginTask (w : Work) (r : Replay) (x : Node) : Work × Node :=
  let ends (w : Work) (cause detail : Nat) : Work × Node := (w, { x with stage := .ends (.error cause detail) })
  match w.readWords (replayWho r) 16 (r.va (nth x.words 3)) with
  | (w, .error e) => ends w e.1 0
  | (w, .ok trec) =>
    match taskBad r x.words trec with
    | some cause => ends w cause 0
    | none =>
      match w.taskImage r trec with
      | (w, .error e) => ends w e.1 e.2
      | (w, .ok pt) =>
        let x := { x with trec := trec, ptmask := pt, tcount := bits (nth x.words 5) 0 32 }
        if bit (nth x.words 0) 4 then (w, { x with stage := .reads w.now })
        else if 65535 < x.tcount then ends w Cause.launchCount 0
        else (w, { x with stage := .ready })

/-- A COPY that is ready and not held (19 R377): the copy engine of the replay's die takes it. -/
def beginCopy (w : Work) (r : Replay) (x : Node) : Work × Node :=
  let n := nth x.words
  let len := bits (n 5) 0 48 * 2 ^ bits (n 5) 50 6
  let mode := bits (n 5) 48 2
  let ws : List Word := [BitVec.ofNat 64 (n 3), BitVec.ofNat 64 (n 4), BitVec.ofNat 64 (len + r.vah * 2 ^ 48 + r.vah * 2 ^ 56), 0, 0]
  if (copyBad mode ws).isSome then (w, { x with stage := .ends (.error Cause.copyAlign 0) })
  else
    let c : EngCmd := { instr := .cpy 0 (BitVec.ofNat 2 mode), who := replayWho r, party := 1000 + x.order, die := r.die,
                        seg := r.vah, words := ws, node := some (x.replay, x.addr) }
    ({ w with core := { w.core with engines := w.core.engines ++ [c] } }, { x with stage := .running })

/-- A released node begins with its record as it then stands (17 R351; 19 R382). -/
def beginReleased (w : Work) (x : Node) : Work × Node :=
  match w.replay x.replay with
  | none => (w, x)
  | some r =>
    match w.readWords (replayWho r) 8 x.addr with
    | (w, .error e) => (w, { x with stage := .ends (.error e.1 0) })
    | (w, .ok ws) =>
      let x := { x with words := ws }
      match nodeBad ws with
      | some cause => (w, { x with stage := .ends (.error cause 0) })
      | none => if nodeKind x == 1 then w.beginCopy r x else w.beginTask r x

/-! ### Holding (19 R382) -/

/-- The nodes that a die's Imposer holds. -/
def heldCount (w : Work) (die : Nat) : Nat := (w.core.nodes.filter (fun x => x.stage == .held && w.nodeDie x == die)).length

/-- A PATCHABLE TASK or COPY with a group. -/
def holds (x : Node) : Bool := bit (nth x.words 0) 7 && holdGroup x != 0

/-- Nodes that wait for room are held once there is room. -/
def admitHeld (w : Work) (die : Nat) : Work :=
  let r := w.core.nodes.foldl (fun (r : List Node × Nat) x =>
    if x.stage == .unheld && w.nodeDie x == die && r.2 < 1024 then (r.1 ++ [{ x with stage := .held }], r.2 + 1)
    else (r.1 ++ [x], r.2)) ([], w.heldCount die)
  { w with core := { w.core with nodes := r.1 } }

/-- The held nodes of a group are ready again, in the order in which they were held (17 R351; 19 R382), and begin. -/
def releaseGroup (w : Work) (die group : Nat) : Work :=
  let xs := w.core.nodes.filter (fun x => x.stage == .held && w.nodeDie x == die && holdGroup x == group)
  let w := xs.foldl (fun w x =>
    let b := w.beginReleased { x with order := w.core.nextOrder, stage := .ready }
    let w := { b.1 with core := { b.1.core with nextOrder := b.1.core.nextOrder + 1 } }
    w.onNode x.replay x.addr (fun _ => b.2)) w
  w.admitHeld die

end Work

end Sys2Proof.Machine
end

