-- ==== Sys2Proof/Machine/Engines.lean ====
section
/-! DEFINITION. Engine commands (17 R343 to R360): bulk copies and CPYFE, digests, IMPOSE and IMPREL, the allocator, the
catchword directory; and the completion words of R344. -/

namespace Sys2Proof.Machine

open Sys2Proof

/-! ### Descriptors (17 R343) -/

namespace Work

/-- Read and check a descriptor of eight words for the instruction in focus (17 R343). -/
def withDesc (w : Work) (masks : List Nat) (a : Word) (k : Work → List Word → Work) : Work :=
  w.withWords 64 8 a.toNat (fun w ws =>
    match maskBad masks ws 0 with
    | some j => w.protect 3 j
    | none => k w ws)

/-- The instruction in focus traps for a misaligned field (17 R343 to R360). -/
def misaligned (w : Work) (cause ea : Nat) : Work := w.trap cause (einfoAlign ea w.focus.idx)

/-- The engine command of the instruction in focus (17 R343). -/
def command (w : Work) (i : Instr) (ws : List Word) : EngCmd :=
  { instr := i, who := { w.who with tlb := none }, party := w.party, die := dieOf w.focus.tile, seg := w.me.dseg.toNat, words := ws,
    task := w.taskOf w.focus.tile }

/-! ### Copies (17 R346 to R349; 05 R108) -/

/-- The completion address of CPY and CPYFE: COMP and COMPH (17 R346, R349). -/
def copyComp (ws : List Word) : Nat := bits (nth ws 4) 0 8 * 2 ^ 64 + nth ws 3

/-- CPY at fire (17 R346, R347). -/
def fireCopy (w : Work) (i : Instr) (mode : Nat) (a : Word) : Work :=
  w.withDesc [allBits, allBits, allBits, allBits, 0xFF, 0, 0, 0] a (fun w ws =>
    match copyBad mode ws with
    | some x => w.misaligned Cause.copyAlign x
    | none => w.withComp (copyComp ws) (fun w => w.effect (.engine (w.command i ws))))

/-- CPYFE at fire (17 R349). -/
def fireCpyfe (w : Work) (i : Instr) (a : Word) : Work :=
  w.withDesc [allBits, allBits, allBits, allBits, 0xFF, 0, 0, 0] a (fun w ws =>
    let bad := if nth ws 0 % 8 != 0 then some (nth ws 0) else if nth ws 1 % 8 != 0 then some (nth ws 1)
      else if bits (nth ws 2) 0 48 % 64 != 0 then some (bits (nth ws 2) 0 48) else none
    match bad with
    | some x => w.misaligned Cause.copyAlign x
    | none => w.withComp (copyComp ws) (fun w => w.effect (.engine (w.command i ws))))

/-- DGST at fire (17 R360): its completion is the CRC itself, and DEST is not checked before it is written. -/
def fireDigest (w : Work) (i : Instr) (a : Word) : Work :=
  w.withDesc [allBits, 2 ^ 48 - 1, allBits, 0, 0, 0, 0, 0] a (fun w ws =>
    match [nth ws 0, nth ws 1, nth ws 2].find? (fun x => x % 8 != 0) with
    | some x => w.misaligned Cause.align x
    | none => w.withComp (w.va (nth ws 2)) (fun w => w.effect (.engine (w.command i ws))))

/-! ### The Imposer (17 R350, R351) -/

/-- IMPOSE at fire (17 R350). -/
def fireImpose (w : Work) (i : Instr) (a : Word) : Work :=
  w.withDesc [allBits, 2 ^ 44 - 1, allBits, allBits, 0xFFFF, allBits, 0, 0] a (fun w ws =>
    let bad := if nth ws 0 % 4 != 0 then some (nth ws 0) else if nth ws 2 % 4 != 0 then some (nth ws 2)
      else if nth ws 3 % 8 != 0 then some (nth ws 3) else none
    match bad with
    | some x => w.misaligned Cause.align x
    | none => w.withComp (w.va (nth ws 5)) (fun w => w.effect (.engine (w.command i ws))))

/-- IMPREL at fire (17 R351). -/
def fireImprel (w : Work) (i : Instr) (g : Word) : Work :=
  if g.toNat / 2 ^ 16 != 0 then w.protect 3 0 else w.effect (.engine (w.command i [g]))

/-! ### Allocation (17 R352 to R356) -/

/-- In a deterministic task a pool's only user is another context (17 R356). -/
def poolForbidden (w : Work) (pool : Nat) : Bool := w.det && (mapFind pool w.core.pools).any (fun p => p != w.party)

/-- In a deterministic task the first context that operates on a pool becomes its only user (17 R356). -/
def usePool (w : Work) (pool : Nat) : Work :=
  if w.det && (mapFind pool w.core.pools).isNone then { w with core := { w.core with pools := mapSet pool w.party w.core.pools } } else w

/-- The first word of a pool's descriptor with a reserved field that is not 0, or a chunk that is out of range (17 R343, R352). -/
def poolBad (w : Work) (pool : Nat) : Option Nat :=
  let n (i : Nat) : Nat := (w.word (pool + 8 * i)).toNat
  (List.range 32).find? (fun i =>
    if i == 0 then n 0 % 65536 != 0
    else if i == 1 then bits (n 1) 57 7 != 0 || bits (n 1) 0 16 != 0
    else if i == 3 then bits (n 3) 32 32 != 0
    else (3 < i && i < 8 || 24 < i) && n i != 0)

/-- The physical address of a pool descriptor for the instruction in focus (17 R343, R352, R353, R356), which traps when it has none that
is sound, or whose only user is another. S_EINFO names a bad word by the low 3 bits of its number (DESIGN CHOICE, log 49). -/
def withPool (w : Work) (ea : Nat) (k : Work → Nat → Work) : Work :=
  if ea % 256 != 0 then w.misaligned Cause.align ea
  else
    match w.translate w.who .atomic 8 (w.va ea) with
    | (w, .fault c s) => w.trap c (einfoMem (w.va ea) s 4 0 w.focus.idx)
    | (w, .ok pa _) =>
      match (List.range 4).findSome? (fun i => (w.poisonOf (pa + 64 * i)).map (fun s => (s, pa / 64 + i))) with
      | some (src, line) => w.trap Cause.uncorrectable (einfoUncorr src line w.focus.idx)
      | none =>
        if w.poolForbidden pa then w.trap Cause.detAtomic (BitVec.ofNat 64 w.focus.idx)
        else
          match w.poolBad pa with
          | some i => w.protect 3 (i % 8)
          | none => k w pa

/-- Size class of an allocation (17 R353): max(0, ⌈log2 size⌉ − 4). -/
def sizeClass (size : Nat) : Nat := if size ≤ 16 then 0 else Nat.log2 (size - 1) + 1 - 4

/-- A poisoned line of `n` bytes from a physical address: its SOURCE and its number (05 R121). -/
def poisonIn (w : Work) (pa n : Nat) : Option (Nat × Nat) :=
  (w.core.poison.find? (fun p => pa / 64 ≤ p.1 && p.1 < (pa + n + 63) / 64)).map (fun p => (p.2, p.1))

/-- Every page of a block of `len` bytes at `va` translates for writing, and none of its lines is poisoned (17 R353; 05 R121): the physical
addresses page by page, or what fails. -/
def blockPages (w : Work) (q : Who) : Nat → Nat → Nat → Work × Except (Nat × Nat × Nat) (List (Nat × Nat))
  | 0, _, _ => (w, .ok [])
  | fuel + 1, va, len =>
    match w.translate q .descStore 8 va with
    | (w, .fault c s) => (w, .error (c, s, va))
    | (w, .ok pa _) =>
      let n := min len (0x10000 - va % 0x10000)
      match w.poisonIn pa n with
      | some (src, line) => (w, .error (Cause.uncorrectable, src, line))
      | none =>
      if len ≤ n then (w, .ok [(pa, n)])
      else
        match blockPages w q fuel (va + n) (len - n) with
        | (w, .error e) => (w, .error e)
        | (w, .ok ps) => (w, .ok ((pa, n) :: ps))

/-- Set `n` words from physical address `pa` to data 0 and a bit, one event a word. -/
def initWords (w : Work) (pa : Nat) (full : Bool) : Nat → Work
  | 0 => w
  | n + 1 => initWords ((w.putWord pa 0).setBit (pa / 8) full) (pa + 8) full n

/-- ALLOC at fire (17 R353): `soft` is ALLOC.n. A block on a free list that is not aligned to its words, which only software that frees
against R354 can leave, traps ALIGN (DESIGN CHOICE, log 49). -/
def fireAlloc (w : Work) (sh : Shape) (soft : Bool) (p size : Word) : Work :=
  w.withPool p.toNat (fun w pool =>
    let w := w.usePool pool
    let c := sizeClass size.toNat
    let len := 16 * 2 ^ c
    let head := if size.toNat ≤ 2 ^ 20 then (w.word (pool + 64 + 8 * c)).toNat else 0
    let used := (w.word (pool + 16)).toNat
    let al := min len 65536
    let off := (used + al - 1) / al * al
    let w1 := (w.word (pool + 8)).toNat
    let carve := off + len ≤ bits w1 0 48
    if 2 ^ 20 < size.toNat || (head == 0 && !carve) then
      (if soft then (w.perform).onBlock (fun b => b.sendBoth w.focus.idx sh.t0 sh.t1 (.val 0) (w.now + memLat))
       else w.trap Cause.allocExhausted
         (BitVec.ofNat 64 (bits p.toNat 8 48 * 2 ^ 16 + (if 2 ^ 20 < size.toNat then 0x1F else c) * 2 ^ 7 + w.focus.idx)))
    else
      let blk := if head != 0 then head else low ((w.word pool).toNat + off) 64
      let va := bits w1 48 8 * 2 ^ 64 + blk
      if blk % 8 != 0 then w.misaligned Cause.align blk
      else
      match w.blockPages w.who 17 va len with
      | (w, .error e) =>
        w.trap e.1 (if e.1 == Cause.uncorrectable then einfoUncorr e.2.1 e.2.2 w.focus.idx else einfoMem va e.2.1 4 0 w.focus.idx)
      | (w, .ok ps) =>
        let pa := match ps with
          | [] => 0
          | x :: _ => x.1
        let w := if head != 0 then w.putWord (pool + 64 + 8 * c) (w.word pa)
          else w.putWord (pool + 16) (BitVec.ofNat 64 (off + len))
        let w := ps.foldl (fun w x => w.initWords x.1 (bit w1 56) (x.2 / 8)) w
        (w.perform).onBlock (fun b =>
          let b := { b with allocs := b.allocs ++ [(pool, c, blk, pa)] }
          (b.send w.focus.idx sh.t0 (.val (BitVec.ofNat 64 blk)) (w.now + memLat)).send w.focus.idx sh.t1 (.val 1) (w.now + memLat)))

/-- FREE at fire (17 R354). -/
def fireFree (w : Work) (p b : Word) : Work :=
  let c := p.toNat % 32
  if bits p.toNat 5 3 != 0 || 16 < c then w.protect 3 0
  else if b.toNat % min (16 * 2 ^ c) 65536 != 0 then w.misaligned Cause.align b.toNat
  else w.withPool (p.toNat / 256 * 256) (fun w pool =>
    if b == 0 then w.perform
    else
      let va := bits (w.word (pool + 8)).toNat 48 8 * 2 ^ 64 + b.toNat
      match w.translate w.who .descStore 8 va with
      | (w, .fault x s) => w.trap x (einfoMem va s 4 0 w.focus.idx)
      | (w, .ok pa _) =>
        match w.poisonIn pa 8 with
        | some (src, line) => w.trap Cause.uncorrectable (einfoUncorr src line w.focus.idx)
        | none => w.effect (.pfree pool c b.toNat pa))

/-- POOLGROW at fire (17 R355). -/
def fireGrow (w : Work) (p e : Word) : Work :=
  w.withPool p.toNat (fun w pool =>
    w.withWords 16 2 e.toNat (fun w ws =>
      let base := nth ws 0
      let len := nth ws 1
      if base % 65536 != 0 then w.protect 3 0
      else if len % 65536 != 0 || len == 0 || 2 ^ 48 ≤ len then w.protect 3 1
      else w.effect (.pgrow pool base len)))

/-- The traps of the FREEs and POOLGROWs of a block whose pool has got another only user since they fired, judged when it ends
(17 R356). -/
def poolTraps (w : Work) (b : Block) : List Trap :=
  b.effs.filterMap (fun e =>
    let pool := match e.2 with
      | .pfree pool _ _ _ => some pool
      | .pgrow pool _ _ => some pool
      | _ => none
    if pool.any w.poolForbidden then some ⟨e.1, Cause.detAtomic, BitVec.ofNat 64 e.1⟩ else none)

/-- A FREE that commits (17 R354). -/
def commitFree (w : Work) (pool c blk pa : Nat) : Work :=
  let w := w.usePool pool
  let head := pool + 64 + 8 * c
  (w.putWord pa (w.word head)).putWord head (BitVec.ofNat 64 blk)

/-- A POOLGROW that commits (17 R355). -/
def commitGrow (w : Work) (pool base len : Nat) : Work :=
  let w := w.usePool pool
  let w1 := (w.word (pool + 8)).toNat
  let w := w.putWord pool (BitVec.ofNat 64 base)
  let w := w.putWord (pool + 8) (BitVec.ofNat 64 (w1 / 2 ^ 48 * 2 ^ 48 + len))
  let w := w.putWord (pool + 16) 0
  w.store (pool + 24) 4 (w.load (pool + 24) 4 + 1)

/-! ### The catchword directory (17 R357 to R359; 19 R391, R392) -/

/-- The directory entry of a key. -/
def cwFind (w : Work) (asid key : Nat) : Option CwEntry := w.core.directory.find? (fun e => e.asid == asid && e.key == key)

/-- The directory without the entry of a key. -/
def cwWithout (asid key : Nat) (d : List CwEntry) : List CwEntry := d.filter (fun e => !(e.asid == asid && e.key == key))

/-- Look a key up: the entry becomes the most recently used (17 R358). -/
def cwLookup (w : Work) (asid key : Nat) : Work × Option CwEntry :=
  match w.cwFind asid key with
  | none => (w, none)
  | some e => ({ w with core := { w.core with directory := e :: cwWithout asid key w.core.directory } }, some e)

/-- A list without its last element that satisfies `p`. -/
def dropLast (p : CwEntry → Bool) (d : List CwEntry) : List CwEntry := ((d.reverse.eraseP p)).reverse

/-- Record an entry (17 R359, 19 R392): 0 when it is not made, 1 recorded, 2 recorded with an eviction. -/
def cwRecord (w : Work) (e : CwEntry) : Work × Nat :=
  let d := cwWithout e.asid e.key w.core.directory
  let put (d : List CwEntry) : Work := { w with core := { w.core with directory := e :: d } }
  if d.length < 4096 then (put d, 1)
  else if d.any (fun x => !x.pinned) then (put (dropLast (fun x => !x.pinned) d), 2)
  else (w, 0)

/-- Advance count `k` of a statistics block (19 R391): a non-returning add; 0 keeps no counts. -/
def bumpStat (w : Work) (q : Who) (stats k : Nat) : Work :=
  if low stats 64 == 0 then w
  else
    match w.translate q .red 8 (stats + 8 * k) with
    | (w, .fault _ _) => w
    | (w, .ok pa _) => w.putWord pa (w.word pa + 1)

/-- Catchword instructions need S_MODE.CW (17 R357). -/
def withCw (w : Work) (masks : List Nat) (a : Word) (k : Work → List Word → Work) : Work :=
  if !bit w.me.mode.toNat 2 then w.protect 5 0 else w.withDesc masks a k

/-- CWPROBE at fire (17 R358). -/
def fireCwprobe (w : Work) (sh : Shape) (a : Word) : Work :=
  w.withCw [2 ^ 48 - 1, allBits, allBits, allBits, allBits, allBits, allBits, allBits] a (fun w ws =>
    if nth ws 1 % 64 != 0 then w.misaligned Cause.align (nth ws 1)
    else
      match w.cwLookup w.me.asid.toNat (nth ws 0) with
      | (w, none) => w.deliver sh 0 memLat
      | (w, some e) =>
        w.withPlace 64 8 (nth ws 1) (fun w ps =>
          let v := [e.step, low e.probe 64, low e.out 64, e.plen, e.olen, e.probe / 2 ^ 64 + e.out / 2 ^ 64 * 2 ^ 8, 0, 0]
          (w.effect (.stores (ps.zip (v.map (BitVec.ofNat 64))))).deliver sh 1 memLat))

/-- A CWSTORE that commits (17 R359). -/
def commitCwstore (w : Work) (ws : List Word) : Work :=
  let n := nth ws
  let e : CwEntry := { asid := w.me.asid.toNat, key := n 0, step := n 1, probe := bits (n 6) 0 8 * 2 ^ 64 + n 2, plen := n 3,
                       out := bits (n 6) 8 8 * 2 ^ 64 + n 4, olen := n 5, pinned := w.det }
  let stats := match w.regionOf w.focus.tile with
    | none => 0
    | some r => r.stats
  match w.cwRecord e with
  | (w, 0) => w
  | (w, 1) => w.bumpStat w.who stats 2
  | (w, _) => (w.bumpStat w.who stats 2).bumpStat w.who stats 3

/-- A CWINV that commits (17 R359). -/
def commitCwinv (w : Work) (key : Word) : Work :=
  let a := w.me.asid.toNat
  let keep (e : CwEntry) : Bool :=
    !(e.asid == a && (if bit key.toNat 48 then low e.key 32 == low key.toNat 32 else e.key == key.toNat))
  { w with core := { w.core with directory := w.core.directory.filter keep } }

/-! ### Engines at work (17 R344, R345, R348) -/

/-- What one event of a copy did: it was made, a claim holds it back, its page is awaited, or it ends the copy with a cause. -/
inductive Moved where
  | made
  | heldBack
  | paused
  | failed (cause : Nat)
  deriving DecidableEq, Repr

/-- The physical address of a byte that a command reads or writes, with its page's uniform bit; else how the command fares. -/
def reach (w : Work) (q : Who) (form : AccForm) (va : Nat) : Work × Except Moved (Nat × Option Bool) :=
  match w.translate q form 1 (va % 2 ^ 72) with
  | (w, .fault c _) => (w, .error (if c == Cause.pageFault then .paused else .failed c))
  | (w, .ok pa u) =>
    match w.poisonOf pa with
    | some _ => (w, .error (.failed Cause.uncorrectable))
    | none => (w, .ok (pa, u))

/-- `n` source bytes from a virtual address, as a little-endian number. -/
def gather (w : Work) (q : Who) : Nat → Nat → Work × Except Moved Nat
  | 0, _ => (w, .ok 0)
  | n + 1, va =>
    match w.reach q .desc va with
    | (w, .error m) => (w, .error m)
    | (w, .ok (pa, u)) =>
      match gather w q n (va + 1) with
      | (w, .error m) => (w, .error m)
      | (w, .ok v) => (w, .ok (w.dataAt pa 1 u + 256 * v))

/-- A copy writes the part of one destination word that starts `off` bytes into the range: bytes, and the bit in its mode
(05 R108). Answers how many bytes that part has. -/
def copyWord (w : Work) (q : Who) (mode src dst len off : Nat) : Work × Moved × Nat :=
  let d := dst + off
  let n := min (8 - d % 8) (len - off)
  match w.gather q n (src + off) with
  | (w, .error m) => (w, m, n)
  | (w, .ok v) =>
    match w.reach q .desc (src + off) with
    | (w, .error m) => (w, m, n)
    | (w, .ok (spa, su)) =>
      match w.reach q .descStore d with
      | (w, .error m) => (w, m, n)
      | (w, .ok (pa, _)) =>
        if w.anyClaimed [pa / 8] then (w, .heldBack, n)
        else
          let b := w.bitAt spa su
          let w := w.store pa n v
          let w := if mode == 0 then w.setBit (pa / 8) b else if mode == 1 then w.setBit (pa / 8) true
            else if mode == 2 then w.setBit (pa / 8) false else w
          (w, .made, n)

/-- The presence bits of 64 words from a virtual address, as a number (17 R349). -/
def gatherBits (w : Work) (q : Who) : Nat → Nat → Work × Except Moved Nat
  | 0, _ => (w, .ok 0)
  | n + 1, va =>
    match w.reach q .desc va with
    | (w, .error m) => (w, .error m)
    | (w, .ok (pa, u)) =>
      match gatherBits w q n (va + 8) with
      | (w, .error m) => (w, .error m)
      | (w, .ok v) => (w, .ok ((if w.bitAt pa u then 1 else 0) + 2 * v))

/-- CPYFE, dir=out: array word `i` is written by a plain store (17 R349). -/
def cpyfeOutWord (w : Work) (q : Who) (mem arr i : Nat) : Work × Moved :=
  match w.gatherBits q 64 (mem + 512 * i) with
  | (w, .error m) => (w, m)
  | (w, .ok v) =>
    match w.reach q .descStore (arr + 8 * i) with
    | (w, .error m) => (w, m)
    | (w, .ok (pa, _)) => if w.anyClaimed [pa / 8] then (w, .heldBack) else (w.store pa 8 v, .made)

/-- CPYFE, dir=in: the bit of memory word `i` is set, its data unchanged (17 R349). -/
def cpyfeInWord (w : Work) (q : Who) (mem arr i : Nat) : Work × Moved :=
  match w.gather q 8 (arr + 8 * (i / 64)) with
  | (w, .error m) => (w, m)
  | (w, .ok v) =>
    match w.reach q .descStore (mem + 8 * i) with
    | (w, .error m) => (w, m)
    | (w, .ok (pa, _)) => if w.anyClaimed [pa / 8] then (w, .heldBack) else (w.setBit (pa / 8) (bit v (i % 64)), .made)

/-- Whether a copy command has moved everything. -/
def copyDone (c : EngCmd) : Bool :=
  match c.instr with
  | .cpyfeOut _ => bits (nth c.words 2) 0 48 / 64 ≤ c.done
  | _ => bits (nth c.words 2) 0 48 ≤ c.done

/-- One event of a copy command (17 R346, R349): what it did, and how far the command then is. -/
def copyEvent (w : Work) (c : EngCmd) : Work × Moved × Nat :=
  let n := nth c.words
  let hi (k : Nat) : Nat := bits (n 2) k 8 * 2 ^ 64
  match c.instr with
  | .cpy _ mode =>
    let r := w.copyWord c.who mode.toNat (hi 48 + n 0) (hi 56 + n 1) (bits (n 2) 0 48) c.done
    (r.1, r.2.1, c.done + r.2.2)
  | .cpyfeOut _ =>
    let r := w.cpyfeOutWord c.who (hi 48 + n 0) (hi 56 + n 1) c.done
    (r.1, r.2, c.done + 1)
  | .cpyfeIn _ =>
    let r := w.cpyfeInWord c.who (hi 48 + n 0) (hi 56 + n 1) c.done
    (r.1, r.2, c.done + 1)
  | _ => (w, .made, c.done + 1)

/-- Up to `n` events of a copy command: the command as it then stands, and how the last event fared. -/
def runCopy (w : Work) (c : EngCmd) : Nat → Work × EngCmd × Moved
  | 0 => (w, c, .made)
  | n + 1 =>
    if copyDone c then (w, c, .made)
    else
      match w.copyEvent c with
      | (w, .made, d) => runCopy w { c with done := d } n
      | (w, .paused, _) => (w, { c with paused := true }, .paused)
      | (w, m, _) => (w, c, m)

/-- The status word of an ended command (17 R344). -/
def statusWord (cause detail : Nat) : Word :=
  BitVec.ofNat 64 ((if cause == 0 then 0 else 2 ^ 63 + cause * 2 ^ 48) + detail % 2 ^ 40 * 2 ^ 8)

/-- Write a completion word if its word is EMPTY (17 R344): none while it has to wait; `some false` when it cannot be written, as one that
is not a multiple of 8 (00 R17; DEDUCED, log 47). -/
def fillComp (w : Work) (c : Comp) : Option (Work × Bool) :=
  match w.translate c.who .fill 8 c.va with
  | (_, .fault cause _) => if cause == Cause.pageFault then none else some (w, false)
  | (w, .ok pa u) =>
    if (w.poisonOf pa).isSome || c.va % 8 != 0 then some (w, false)
    else if w.bitAt pa u || w.anyClaimed [pa / 8] || w.core.resv.any (fun r => r.word == pa / 8) then none
    else some (w.fillWord pa c.value, true)

/-- Two commands come of one context of one task (17 R343). -/
def sameIssuer (p q : Nat) (x y : Option (Nat × Nat)) : Bool := p == q && x == y

/-- Some completion word of the same party and kind stands before position `k` (17 R343: commands of one context to one engine
complete in the order of issue). -/
def compBlocked (w : Work) (k : Nat) (c : Comp) : Bool :=
  (w.core.comps.take k).any (fun d => sameIssuer d.party c.party d.task c.task && d.kind == c.kind && d.kind ≤ 2)

/-- A completion word is written at once when it can be, else it stands waiting (17 R344). -/
def complete (w : Work) (c : Comp) : Work :=
  let wait : Work := { w with core := { w.core with comps := w.core.comps ++ [c] } }
  if w.compBlocked w.core.comps.length c then wait
  else
    match w.fillComp c with
    | none => wait
    | some (w, true) => w
    | some (w, false) => w.logError 0x100 c.kind c.va

/-- The kind of completion of an engine command: 1 copy engine, 2 Imposer. -/
def engineKind : Instr → Nat
  | .impose _ => 2
  | .imprel _ => 2
  | _ => 1

/-- An engine of a die, 1 the bulk copy engine and 2 the Imposer, waits for a completion word (17 R344). -/
def engineWaits (w : Work) (die kind : Nat) : Bool := w.core.comps.any (fun d => d.kind == kind && d.die == die)

/-- The engine of command `k` does not wait for a completion word, and no earlier command of the same context stands before it (17 R343,
R344). -/
def engineFirst (w : Work) (k : Nat) (c : EngCmd) : Bool :=
  !w.engineWaits c.die (engineKind c.instr) && !(w.core.engines.take k).any (fun d => sameIssuer d.party c.party d.task c.task && d.die == c.die && engineKind d.instr == engineKind c.instr)

/-- Command `k` of the list, if there is one. -/
def engine (w : Work) (k : Nat) : Option EngCmd := w.core.engines[k]?

/-- Replace, or with none remove, command `k`. -/
def setEngine (w : Work) (k : Nat) (c : Option EngCmd) : Work :=
  match c with
  | none => { w with core := { w.core with engines := listErase k w.core.engines } }
  | some c => { w with core := { w.core with engines := listModify (fun _ => c) k w.core.engines } }

/-- The completion address of an engine command, 72 bits: low 64 bits 0 for none. -/
def engineComp (c : EngCmd) : Nat :=
  match c.instr with
  | .impose _ => c.seg * 2 ^ 64 + nth c.words 5
  | .dgst _ => c.seg * 2 ^ 64 + nth c.words 2
  | _ => copyComp c.words

/-- The completion word of a command with its status. -/
def compOf (c : EngCmd) (value : Word) : Comp :=
  { who := c.who, va := engineComp c, value := value, kind := engineKind c.instr, party := c.party,
    task := if c.task.isSome then c.task else c.node, die := c.die }

/-- A command ends with a status word (17 R344): it leaves the engine, and its node or its completion word hears of it. -/
def endEngine (w : Work) (k : Nat) (c : EngCmd) (cause detail : Nat) (value : Word) : Work :=
  let w := w.setEngine k none
  let w := match c.node with
    | some n => w.endNode n (if cause == 0 then .done detail else .error cause c.refused)
    | none => w
  if low (engineComp c) 64 == 0 then w
  else w.complete (compOf c value)

/-- COPY_COMPLETE: up to `n` events of copy command `k`; when everything has moved, or an event ends it, the copy ends. None
when it cannot go on. -/
def copyComplete (w : Work) (k n : Nat) : Option Work :=
  match w.engine k with
  | none => none
  | some c =>
    if c.paused || !w.engineFirst k c then none
    else
      match c.instr with
      | .cpy _ _ | .cpyfeOut _ | .cpyfeIn _ =>
        match w.runCopy c n with
        | (w, c', .failed cause) => some (w.endEngine k c' cause 0 (statusWord cause 0))
        | (w, c', .heldBack) => if c'.done == c.done then none else some (w.setEngine k (some c'))
        | (w, c', _) => if copyDone c' then some (w.endEngine k c' 0 0 (statusWord 0 0)) else some (w.setEngine k (some c'))
      | _ => none

/-- The CRC of `n` words from a virtual address (17 R360): nine bytes a word. -/
def digestWords (w : Work) (q : Who) : Nat → Nat → Nat → Work × Except Moved Nat
  | 0, _, c => (w, .ok c)
  | n + 1, va, c =>
    match w.reach q .desc va with
    | (w, .error m) => (w, .error m)
    | (w, .ok (pa, u)) =>
      digestWords w q n (va + 8) (crc64 c (bytesOf 8 (w.dataAt pa 8 u) ++ [if w.bitAt pa u then 1 else 0]))

/-- DGST_COMPLETE (17 R360). None when it cannot go on. -/
def digestComplete (w : Work) (k : Nat) : Option Work :=
  match w.engine k with
  | none => none
  | some c =>
    if c.paused || !w.engineFirst k c then none
    else
      match c.instr with
      | .dgst _ =>
        match w.digestWords c.who (nth c.words 1 / 8) (c.seg * 2 ^ 64 + nth c.words 0) 0 with
        | (w, .ok v) => some (w.endEngine k c 0 0 (BitVec.ofNat 64 v))
        | (w, .error (.failed cause)) => some (w.endEngine k c cause 0 (statusWord cause 0))
        | (w, .error _) => some (w.setEngine k (some { c with paused := true }))
      | _ => none

/-! ### IMPOSE at work (17 R350, R351; 19 R382) -/

/-- The keys counted into B + 1 counts. -/
def countKeys (w : Work) (q : Who) (b : Nat) : Nat → Nat → List Nat → Work × Except Moved (List Nat)
  | 0, _, cnt => (w, .ok cnt)
  | n + 1, va, cnt =>
    match w.gather q 4 va with
    | (w, .error m) => (w, .error m)
    | (w, .ok key) => countKeys w q b n (va + 4) (listModify (fun x => x + 1) (min key b) cnt)

/-- Write a count at a patch address: the length field of a PATCHABLE command held in the group (17 R350, 19 R382). Answers how the write
fared, and whether the address is one. -/
def patchOne (w : Work) (q : Who) (die group va v : Nat) : Work × Moved × Bool :=
  match w.core.nodes.find? (fun x => x.stage == .held && w.nodeDie x == die && holdGroup x == group
      && w.nodeAsid x == q.asid && x.addr + 40 == va) with
  | none => (w, .made, false)
  | some x =>
    match w.reach q .descStore va with
    | (w, .error m) => (w, m, true)
    | (w, .ok (pa, _)) =>
      if w.anyClaimed [pa / 8] then (w, .heldBack, true)
      else
        let w := w.store pa 4 v
        ((if nodeKind x == 1 then w.store (pa + 4) 2 0 else w), .made, true)

/-- The group that an Imposer command names. -/
def imposeGroup (c : EngCmd) : Nat :=
  match c.instr with
  | .imprel _ => nth c.words 0
  | _ => bits (nth c.words 4) 0 16

/-- Releases that no IMPOSE of their group and die stands before any more (17 R351), with their Imposer not waiting for a completion word
(R344); a node whose release it is ends (19 R381). -/
def settleReleases (w : Work) : Work :=
  let r := w.core.engines.foldl (fun (r : Work × List EngCmd) c =>
    match c.instr with
    | .imprel _ =>
      if r.1.engineWaits c.die 2 || r.2.any (fun d => d.die == c.die && imposeGroup d == imposeGroup c && engineKind d.instr == 2) then (r.1, r.2 ++ [c])
      else
        let w := r.1.releaseGroup c.die (imposeGroup c)
        ((match c.node with
          | some n => w.endNode n (.done c.refused)
          | none => w), r.2)
    | _ => (r.1, r.2 ++ [c])) (w, [])
  { r.1 with core := { r.1.core with engines := r.2 } }

/-- The bins of an IMPOSE. -/
def imposeBins (c : EngCmd) : Nat := bits (nth c.words 1) 32 12 + 1

/-- Whether an IMPOSE has stored its counts and tried its patches: `done` counts both. -/
def imposeDone (c : EngCmd) : Bool := (if nth c.words 3 == 0 then imposeBins c + 1 else 2 * imposeBins c + 1) ≤ c.done

/-- One event of an IMPOSE whose keys are counted (17 R350): the next count stored, or the next patch made; how it fared, and how far the
command then is. -/
def imposeEvent (w : Work) (c : EngCmd) : Work × Moved × EngCmd :=
  let seg := c.seg * 2 ^ 64
  let next : EngCmd := { c with done := c.done + 1 }
  if c.done < imposeBins c + 1 then
    match w.reach c.who .descStore (seg + nth c.words 2 + 4 * c.done) with
    | (w, .error m) => (w, m, c)
    | (w, .ok (pa, _)) =>
      if w.anyClaimed [pa / 8] then (w, .heldBack, c) else (w.store pa 4 (listGet 0 c.done c.counts), .made, next)
  else
    let i := c.done - (imposeBins c + 1)
    match w.gather c.who 8 (seg + nth c.words 3 + 8 * i) with
    | (w, .error m) => (w, m, c)
    | (w, .ok 0) => (w, .made, next)
    | (w, .ok p) =>
      match w.patchOne c.who c.die (imposeGroup c) (seg + p) (listGet 0 i c.counts) with
      | (w, m, true) => (w, m, next)
      | (w, m, false) => (w, m, { next with refused := c.refused + 1 })

/-- Up to `n` events of an IMPOSE: the command as it then stands, and how the last event fared. -/
def runImpose (w : Work) (c : EngCmd) : Nat → Work × EngCmd × Moved
  | 0 => (w, c, .made)
  | n + 1 =>
    if imposeDone c then (w, c, .made)
    else
      match w.imposeEvent c with
      | (w, .made, c) => runImpose w c n
      | (w, m, _) => (w, c, m)

/-- IMPOSE as far as it can go (17 R350): the keys are counted, the counts stored, then the commands patched. -/
def impose (w : Work) (c : EngCmd) : Work × EngCmd × Moved :=
  let run (w : Work) (c : EngCmd) : Work × EngCmd × Moved := w.runImpose c (2 * imposeBins c + 1)
  if !c.counts.isEmpty then run w c
  else
    match w.countKeys c.who (imposeBins c) (bits (nth c.words 1) 0 32) (c.seg * 2 ^ 64 + nth c.words 0)
        (List.replicate (imposeBins c + 1) 0) with
    | (w, .error m) => (w, c, m)
    | (w, .ok cnt) => run w { c with counts := cnt }

/-- An IMPOSE ends (17 R350); a node that asks for it goes on as an IMPREL of its group in the command's place (19 R381). -/
def endImpose (w : Work) (k : Nat) (c : EngCmd) : Work :=
  let rel := c.node.any (fun n => w.core.nodes.any (fun x => x.replay == n.1 && x.addr == n.2 && bit (nth x.words 4) 0))
  if !rel then (w.endEngine k c 0 c.refused (statusWord 0 c.refused)).settleReleases
  else
    let r : EngCmd := { c with instr := .imprel 0, words := [BitVec.ofNat 64 (imposeGroup c)] }
    let w := if low (engineComp c) 64 == 0 then w
      else w.complete (compOf c (statusWord 0 c.refused))
    (w.setEngine k (some r)).settleReleases

/-- IMPOSE_COMPLETE (17 R350): it goes on as far as it can, and ends when everything is done or an event ends it. None when it cannot go
on. -/
def imposeComplete (w : Work) (k : Nat) : Option Work :=
  match w.engine k with
  | none => none
  | some c =>
    if c.paused || !w.engineFirst k c then none
    else
      match c.instr with
      | .impose _ =>
        match w.impose c with
        | (w, c, .failed cause) => some (w.endEngine k c cause 0 (statusWord cause c.refused)).settleReleases
        | (w, d, .heldBack) => if d == c then none else some (w.setEngine k (some d))
        | (w, c, .paused) => some (w.setEngine k (some { c with paused := true }))
        | (w, c, .made) => some (w.endImpose k c)
      | _ => none

/-- ENGINE_PAGE_RESUME (17 R348): firmware has made the page resident, or declares the fault unresolvable. -/
def pageResume (w : Work) (k : Nat) (ok : Bool) : Option Work :=
  match w.engine k with
  | none => none
  | some c =>
    if !c.paused then none
    else if ok then some (w.setEngine k (some { c with paused := false }))
    else some (w.endEngine k c Cause.pageFault 0 (statusWord Cause.pageFault c.refused)).settleReleases

/-- An engine command that its block commits (17 R343): the engine takes it, or an IMPREL acts (R351). -/
def issueEngine (w : Work) (c : EngCmd) : Work :=
  let w := { w with core := { w.core with engines := w.core.engines ++ [c] } }
  w.settleReleases

end Work

/-! ### Meanings -/

/-- CPY (17 R346). -/
def execCpy (pr mode : BitVec 2) (s : State) : Host.Outcome State Fault Refusal :=
  fireAccess (shape (.cpy pr mode)) (fun a _ _ w => w.fireCopy (.cpy pr mode) mode.toNat a) s

/-- CPYFE, dir=out (17 R349). -/
def execCpyfeOut (pr : BitVec 2) (s : State) : Host.Outcome State Fault Refusal :=
  fireAccess (shape (.cpyfeOut pr)) (fun a _ _ w => w.fireCpyfe (.cpyfeOut pr) a) s

/-- CPYFE, dir=in (17 R349). -/
def execCpyfeIn (pr : BitVec 2) (s : State) : Host.Outcome State Fault Refusal :=
  fireAccess (shape (.cpyfeIn pr)) (fun a _ _ w => w.fireCpyfe (.cpyfeIn pr) a) s

/-- IMPOSE (17 R350). -/
def execImpose (pr : BitVec 2) (s : State) : Host.Outcome State Fault Refusal :=
  fireAccess (shape (.impose pr)) (fun a _ _ w => w.fireImpose (.impose pr) a) s

/-- IMPREL (17 R351). -/
def execImprel (pr : BitVec 2) (s : State) : Host.Outcome State Fault Refusal :=
  fire (shape (.imprel pr)) (fun a _ _ w => w.fireImprel (.imprel pr) a) s

/-- ALLOC.t (17 R353). -/
def execAllocT (pr : BitVec 2) (t1 t0 : BitVec 9) (s : State) : Host.Outcome State Fault Refusal :=
  fireStore (shape (.allocT pr t1 t0)) (fun a b _ w => w.fireAlloc (shape (.allocT pr t1 t0)) false a b) s

/-- ALLOC.n (17 R353). -/
def execAllocN (pr : BitVec 2) (t1 t0 : BitVec 9) (s : State) : Host.Outcome State Fault Refusal :=
  fireStore (shape (.allocN pr t1 t0)) (fun a b _ w => w.fireAlloc (shape (.allocN pr t1 t0)) true a b) s

/-- FREE (17 R354). -/
def execFree (pr : BitVec 2) (s : State) : Host.Outcome State Fault Refusal :=
  fireAccess (shape (.free pr)) (fun a b _ w => w.fireFree a b) s

/-- POOLGROW (17 R355). -/
def execPoolgrow (pr : BitVec 2) (s : State) : Host.Outcome State Fault Refusal :=
  fireAccess (shape (.poolgrow pr)) (fun a b _ w => w.fireGrow a b) s

/-- CWPROBE (17 R358). -/
def execCwprobe (pr : BitVec 2) (t1 t0 : BitVec 9) (s : State) : Host.Outcome State Fault Refusal :=
  fireAccess (shape (.cwprobe pr t1 t0)) (fun a _ _ w => w.fireCwprobe (shape (.cwprobe pr t1 t0)) a) s

/-- CWSTORE (17 R359). -/
def execCwstore (pr : BitVec 2) (s : State) : Host.Outcome State Fault Refusal :=
  fireAccess (shape (.cwstore pr)) (fun a _ _ w =>
    w.withCw [2 ^ 48 - 1, 2 ^ 32 - 1, allBits, 2 ^ 32 - 1, allBits, 2 ^ 48 - 1, 0xFFFF, 0] a
      (fun w ws => w.effect (.cwstore ws))) s

/-- CWINV (17 R359). -/
def execCwinv (pr : BitVec 2) (s : State) : Host.Outcome State Fault Refusal :=
  fireAccess (shape (.cwinv pr)) (fun a _ _ w =>
    w.withCw [2 ^ 49 - 1, allBits, allBits, allBits, allBits, allBits, allBits, allBits] a
      (fun w ws => w.effect (.cwinv (listGet 0 0 ws)))) s

/-- DGST (17 R360). -/
def execDgst (pr : BitVec 2) (s : State) : Host.Outcome State Fault Refusal :=
  fireAccess (shape (.dgst pr)) (fun a _ _ w => w.fireDigest (.dgst pr) a) s

/-- COPY_COMPLETE (17 R344, R347 to R349): the copy at position `k` makes up to `n` of its events, and ends with the last. -/
def execCopyComplete (k n : Nat) (s : State) : Host.Outcome State Fault Refusal := happen (fun w => w.copyComplete k n) s

/-- DGST_COMPLETE (17 R360). -/
def execDgstComplete (k : Nat) (s : State) : Host.Outcome State Fault Refusal := happen (fun w => w.digestComplete k) s

/-- IMPOSE_COMPLETE (17 R350). -/
def execImposeComplete (k : Nat) (s : State) : Host.Outcome State Fault Refusal := happen (fun w => w.imposeComplete k) s

/-- ENGINE_PAGE_RESUME (17 R348). -/
def execEnginePageResume (k : Nat) (ok : Bool) (s : State) : Host.Outcome State Fault Refusal :=
  happen (fun w => w.pageResume k ok) s

end Sys2Proof.Machine
end

