-- ==== Sys2Proof/Machine/Element.lean ====
section
/-! DEFINITION. The firing of an element (13 R243 to R245; 01 R38, R43; 15 R279), and the events of kills, discarding, crossings and
busy periods (13 R244, R258, R266, R267, R273). -/

namespace Sys2Proof.Machine

open Sys2Proof

namespace Work

/-- The fabric of a tile runs: its region holds it live and is not halting (21 R405), and its clock runs (23 R429). -/
def fabricRuns (w : Work) (t : Nat) : Bool :=
  (w.tile t).stopped.isNone &&
    (match w.regionOf t with
     | none => false
     | some r => r.live.contains t && (r.progress == .running || r.progress == .probing))

/-- A firing of the slot's operation. -/
def slotFire (w : Work) (S : Slot) : Fired :=
  match S.kind with
  | 0 => w.oeFire S
  | 1 => w.meFire S
  | 2 => w.mbFire S
  | 3 => w.spFire S
  | _ => w.ueFire S

/-- The inputs that the slot's next firing waits for. -/
def slotNeeds (w : Work) (S : Slot) : List Nat :=
  match S.kind with
  | 0 => w.oeNeeds S
  | 1 => w.meNeeds S
  | 2 => w.mbNeeds S
  | 3 => w.spNeeds S
  | _ => w.ueNeeds S

/-- The slot has taken something that is still to be processed. -/
def slotBusy (w : Work) (S : Slot) : Bool :=
  match S.kind with
  | 0 => w.oeBusy S
  | 1 => w.meBusy S
  | 2 => w.wordBusy S
  | 3 => w.wordBusy S
  | _ => w.ueBusy S

/-- Something the slot has processed has still to leave it. -/
def slotPending (w : Work) (S : Slot) : Bool :=
  !(w.op S).queue.isEmpty || (S.kind == 3 && w.spPending S)

/-- The fixed rates of a stage are covered (01 R43): heads on its inputs. A kettle that stands in an input counts among its flits (DESIGN
CHOICE, log 57). -/
def ratesIn (w : Work) (S : Slot) : Bool :=
  let p := w.activePlane S.tile S.elem
  !p.fixr || (S.inputs.filter (· < 4)).all (fun i => p.rateIn i ≤ (queueAt (w.elem S.tile S.elem) i).length)

/-- The fixed rates of a stage are covered: room on its routes. -/
def ratesOut (w : Work) (S : Slot) : Bool :=
  let p := w.activePlane S.tile S.elem
  !p.fixr || (S.ports.filter (· < 4)).all (fun i => w.roomOn S true i)

/-- The output stream of a slot is over once a colophon has left (13 R265): its routes live again. A GATH's stay dead to the end of the
arming (15 R296), which `openedB` says is still to come. -/
def wordAfterColophon (w : Work) (S : Slot) (f : Flit) : Work :=
  let x := w.op S
  if S.kind == 4 && S.opc == 9 && x.lanes != 0 then w
  else if S.kind == 3 && S.opc == 2 && x.openedB then w.setOp S { x with sid := x.sid + 1 }
  else
    let keep := S.kind == 3 && S.opc == 2 && !f.flags.2.1
    w.setOp S { x with dead := if keep then x.dead else [], abandoned := false, sid := x.sid + 1 }

/-- The slot that the context counter points at (13 R243). -/
def atCounter (ss : List Slot) (counter : Nat) : Option Slot :=
  match ss.find? (fun S => counter ≤ S.s) with
  | some S => some S
  | none => ss.head?

/-- What a slot has done without emitting is a whole step of its operation, after which the counter advances (13 R243): an online
operation took a flit, MMA made a step of its array or ended, a load port dropped a flit of an arming whose routes are dead, a bank or port has done with the group in hand. DEDUCED, log 27. -/
def stepDone (w w1 : Work) (S : Slot) : Bool :=
  let d := w.elem S.tile S.elem
  let d1 := w1.elem S.tile S.elem
  let took := d.ins != d1.ins || d.loc != d1.loc || d.ctl != d1.ctl
  let x := w.op S
  let x1 := w1.op S
  match S.kind with
  | 0 => took
  | 1 => S.opc != 0 || x1.cnt != x.cnt || !x1.opened
  | 2 => x1.taking.isNone && x1.bufA.isEmpty && (took || x.taking.isSome)
  | 3 => if S.opc == 0 then x1.elems.length < x.elems.length
         else x1.taking.isNone && x1.bufA.isEmpty && (took || x.taking.isSome)
  | _ => true

/-- The slot at the counter fires (13 R243): what it emits has room on every route it takes. -/
def fireSlot (w : Work) (S : Slot) : Option Work :=
  if !w.ratesIn S || !w.ratesOut S then none
  else
    match w.slotFire S with
    | none => none
    | some (w1, none, busy) =>
      let done := w.stepDone w1 S
      some (w1.onElem S (fun e => { e with counter := if done then S.s + 1 else e.counter, busyTo := w.now + busy, lastFire := some w.now }))
    | some (w1, some f, busy) =>
      if !(w1.routesOf S f).all (fun p => w.roomOn S false p) then none
      else
        let w2 := w1.emitFlit S f
        let w3 := if f.kind != 3 then w2 else if S.kind == 0 then w2.oeAfterColophon S f else w2.wordAfterColophon S f
        some (w3.onElem S (fun e => { e with counter := S.s + 1, busyTo := w.now + busy, lastFire := some w.now }))

/-- A kettle that a slot of the element may forward now goes on (01 R38): a slot that something it received still occupies forwards
it only when it can go no further. A kettle at a FOLD strands its partial block (15 R323). -/
def passKettle (w : Work) (t e : Nat) : Option Work :=
  (w.elemSlots t e).findSome? (fun S =>
    let busy := w.slotBusy S
    match w.kettleReady S (w.slotNeeds S) busy (w.slotPending S) with
    | none => none
    | some n =>
      if busy && (w.slotFire S).isSome then none
      else
        match w.forwardKettle S n with
        | none => none
        | some w =>
          let x := w.op S
          let w := if S.kind == 4 && S.opc == 0 then w.setOp S { x with stranded := x.stranded + x.cnt, bufA := [], cnt := 0 } else w
          some ((w.clearKettles t e).onElem S (fun d => { d with lastFire := some w.now })))

/-- One element fires in this clk, or a kettle passes it. -/
def fireElem (w : Work) (t e : Nat) : Option Work :=
  let x := w.elem t e
  if !w.fabricRuns t || 256 ≤ e || x.lastFire == some w.now then none
  else
    let fired := if w.now < x.busyTo then none else (atCounter (w.elemSlots t e) x.counter).bind (fun S => w.fireSlot S)
    match fired with
    | some w => some w
    | none => w.passKettle t e

/-- A channel into an input comes over a crossing, which has slots of its own (15 R279). -/
def hasCrossing (w : Work) (t e i : Nat) : Bool :=
  match w.neighbour t e i with
  | none => false
  | some n => n.1 != t

/-- No flit stands in a channel of no slots (15 R279). -/
def noFlitHeld (w : Work) (t : Nat) : Bool :=
  match w.regionOf t with
  | none => true
  | some r => (w.core.elems.filter (fun x => r.live.contains (x.1 / 256))).all (fun x =>
      (List.range 4).all (fun i =>
        let n := (mapGet [] i x.2.ins).length
        n == 0 || 1 ≤ (w.activePlane (x.1 / 256) (x.1 % 256)).link i || w.hasCrossing (x.1 / 256) (x.1 % 256) i))

/-- Elements fire in one clk, a producer before the consumer of a channel of no slots: afterwards no such channel holds a flit. -/
def elementFire (w : Work) (t e : Nat) (more : List (Nat × Nat)) : Option Work :=
  match ((t, e) :: more).foldl (fun (w : Option Work) p => w.bind (fun w => w.fireElem p.1 p.2)) (some w) with
  | none => none
  | some w => if w.noFlitHeld t then some w else none

/-! ### Kills -/

/-- What a slot does once every route of its output is dead (13 R267; 15 R284, R296, R308). -/
def abandon (w : Work) (S : Slot) : Work :=
  match S.kind with
  | 0 => w.oeAbandon S
  | 1 => w.meAbandon S
  | 2 => w
  | 3 => if S.opc == 2 then w.gathAbandon S else w
  | _ => w.ueAbandon S

/-- A decision at the other end of an output port has still to be counted (13 R270): the consumer waits for the next flit of a lane that
it marked dead. -/
def countsAhead (w : Work) (t e port : Nat) : Bool :=
  let dest : Option (Nat × Nat × Nat) :=
    if port == 4 then some (t, e, 4) else (w.neighbour t e port).map (fun n => (n.1, n.2.1, opposite port))
  match dest with
  | none => false
  | some (u, f, sel) => (w.elemSlots u f).any (fun T => (T.operands.filter (fun p => p.2 == sel)).any (fun p =>
      (List.range 4).any (fun l => (mapFind (p.1 * 4 + l) (w.op T).ins).any (fun a => a.pend && !a.ended))))

/-- A lane of an operation that decides (13 R252 to R257) has still to be decided, and can be. -/
def undecided (w : Work) (S : Slot) : Bool :=
  let x := w.op S
  S.kind == 0 && 10 ≤ S.opc && S.opc ≤ 15
    && x.outs.any (fun o => o.2.dec.isNone && !o.2.cut && S.operands.any (fun p => !(inLane x p.1 o.1).ended))

/-- A kill reaches a producer's output port (13 R265, R266): its route is dead for the stream that it names, unless that stream's
colophon has left. It comes after the flits that decisions on the way wait for, and one that would abandon a deciding operation after its
decisions, so that CUTOFF is fixed by data alone (R270; DEDUCED, log 19). -/
def killArrive (w : Work) (t e s port : Nat) : Option Work :=
  let hit (k : Kill) : Bool := k.tile == t && k.elem == e && k.port == port && k.tag == s % 4
  match if w.countsAhead t e port then none else w.core.kills.findIdx? hit with
  | none => none
  | some i =>
    let sid := ((w.core.kills[i]?).map (·.sid)).getD 0
    let w1 := { w with core := { w.core with kills := listErase i w.core.kills } }
    -- the slot of that tag whose output takes the port (13 R245)
    match (w.elemSlots t e).find? (fun S => S.tag == s % 4 && bit S.route port) with
    | none => some w1
    | some S =>
      if S.s != s then none
      else
        let x := w1.op S
        if x.sid != sid || x.dead.contains port || (S.kind == 4 && S.opc == 3) then some w1
        else
          let w2 := w1.setOp S { x with dead := x.dead ++ [port] }
          if !w2.allDead S || x.abandoned then some w2 else if w2.undecided S then none else some (w2.abandon S)

/-- A slot's input discards its flit at its port, if its stream is discarded (13 R244, R266; 15 R296, R309). A stream that has not begun is
the one of the next flit. -/
def discardAt (w : Work) (S : Slot) (sel : Nat) : Option Work :=
  let x := w.op S
  if x.discard.contains sel then
    match w.headAt S sel with
    | none => none
    | some f =>
      if f.tag != (mapGet (f.tag, 0) sel x.under).1 then none
      else some (((w.takeAt S sel).endDiscard S sel f).endsArming S sel f)
  else if S.kind == 0 then w.oeDiscard S sel
  else if S.kind == 3 && S.opc == 2 && x.abandoned then w.gathDiscard S sel
  else if S.kind == 4 && S.opc == 10 then w.probeDiscard S
  else none

/-- A flit of a discarded stream leaves its input without a firing, one a clk (13 R244). -/
def killDiscard (w : Work) (t e s sel : Nat) : Option Work :=
  if !w.fabricRuns t || mapFind sel (w.elem t e).drops == some w.now then none
  else
    match (w.elemSlots t e).find? (fun S => S.s == s) with
    | none => none
    | some S => (w.discardAt S sel).map (fun u => u.onElem S (fun d => { d with drops := mapSet sel u.now d.drops }))

/-! ### Busy periods -/

/-- The busy period of an element of a kind ends (13 R258, R273). -/
def busyEnd (w : Work) (t e : Nat) (serves : Slot → Bool) : Option Work :=
  let x := w.elem t e
  if x.busyTo == 0 || w.now < x.busyTo || !(w.elemSlots t e).any serves then none
  else some (w.setElem t e { x with busyTo := 0 })

/-- An event of a stream port's slot. -/
def onPort (w : Work) (t e s : Nat) (f : Work → Slot → Option Work) : Option Work :=
  if !w.fabricRuns t then none
  else
    match (w.elemSlots t e).find? (fun S => S.s == s && S.kind == 3) with
    | none => none
    | some S => f w S

end Work

/-! ### Meanings -/

/-- ELEMENT_FIRE (13 R243). -/
def execElementFire (tile elem : Nat) (more : List (Nat × Nat)) (s : State) : Host.Outcome State Fault Refusal :=
  happen (fun w => w.elementFire tile elem more) s

/-- KILL_ARRIVE (13 R266). -/
def execKillArrive (tile elem slot port : Nat) (s : State) : Host.Outcome State Fault Refusal :=
  happen (fun w => w.killArrive tile elem slot port) s

/-- KILL_DISCARD (13 R244). -/
def execKillDiscard (tile elem slot port : Nat) (s : State) : Host.Outcome State Fault Refusal :=
  happen (fun w => w.killDiscard tile elem slot port) s

/-- LUTF_DIGIT (13 R258). -/
def execLutfDigit (tile elem : Nat) (s : State) : Host.Outcome State Fault Refusal :=
  happen (fun w => w.busyEnd tile elem (fun S => S.kind == 0 && S.opc == 16)) s

/-- ME_STEP_DONE (13 R273). -/
def execMeStepDone (tile elem : Nat) (s : State) : Host.Outcome State Fault Refusal :=
  happen (fun w => w.busyEnd tile elem (fun S => S.kind == 1)) s

/-- CROSSING_SLOT_ARRIVAL (15 R279). -/
def execCrossingSlotArrival (tile elem port : Nat) (s : State) : Host.Outcome State Fault Refusal :=
  happen (fun w => w.crossingArrival tile elem port) s

/-- SP_REPRESENT (15 R292). -/
def execSpRepresent (tile elem slot : Nat) (s : State) : Host.Outcome State Fault Refusal :=
  happen (fun w => w.onPort tile elem slot Work.spRepresent) s

/-- FE_TIMEOUT (05 R102). -/
def execFeTimeout (tile elem slot : Nat) (s : State) : Host.Outcome State Fault Refusal :=
  happen (fun w => w.onPort tile elem slot Work.feTimeout) s

/-- EXTENT_FETCH (05 R115). -/
def execExtentFetch (tile elem slot : Nat) (s : State) : Host.Outcome State Fault Refusal :=
  happen (fun w => w.onPort tile elem slot Work.extentFetch) s

/-- SPILL_RETRY (05 R117). -/
def execSpillRetry (tile elem : Nat) (ok : Bool) (s : State) : Host.Outcome State Fault Refusal :=
  happen (fun w => if w.fabricRuns tile then w.spillRetry tile elem ok else none) s

/-- GAPPLY_TOKEN (15 R285). -/
def execGapplyToken (k : Nat) (s : State) : Host.Outcome State Fault Refusal := happen (fun w => w.gapplyToken k) s

/-- TOKEN_REPLY (15 R293). -/
def execTokenReply (k : Nat) (s : State) : Host.Outcome State Fault Refusal := happen (fun w => w.tokenReply k) s

end Sys2Proof.Machine
end

