-- ==== Sys2Proof/Machine/RegionControl.lean ====
section
/-! DEFINITION. Region control (15 R310 to R321; 01 R34 to R39; 21 R403): CFGLD, CFGSTRM, CFGSW, CFGABORT, ARM, DRAIN, INJECT, SINKRD,
KWAIT, their waits, and what they do at commit. -/

namespace Sys2Proof.Machine

open Sys2Proof

namespace Work

/-- The context, instruction and clk of an event: its focus. -/
def at_ (w : Work) (t c i : Nat) : Work := { w with focus := ⟨t, c, i⟩ }

/-- The region of the instruction in focus; an instruction of a context in no region traps PROTECTION. -/
def withRegion (w : Work) (k : Work → Nat → Region → Work) : Work :=
  match (w.tile w.focus.tile).region with
  | none => w.protect 3 0
  | some r =>
    match mapFind r w.core.regions with
    | none => w.protect 3 0
    | some x => k w r x

/-- S_EINFO of CFG_REJECT and CFG_RACE (21 R397). -/
def einfoConfig (b : Bad) (idx : Nat) : Word :=
  BitVec.ofNat 64 (low b.cmd 32 * 2 ^ 32 + low b.slot 4 * 2 ^ 28 + b.sub * 2 ^ 16 + idx)

/-- The instruction in focus is refused by the Collator (07 R159; 15 R322). -/
def rejectConfig (w : Work) (b : Bad) : Work :=
  w.trap (if b.order == 7 then Cause.cfgRace else Cause.cfgReject) (einfoConfig b w.focus.idx)

/-- Take the staging claim of a region (15 R311), or wait for it. -/
def withClaim (w : Work) (k : Work → Nat → Region → Work) : Work :=
  w.withRegion (fun w r x =>
    match x.staging with
    | none =>
      let x := { x with staging := some ⟨w.party, w.focus.idx⟩ }
      k (w.setRegion r x).stopWaiting r x
    | some s => if s.party == w.party then k w.stopWaiting r x else w.waitUntil 0 w.now none)

/-! ### CFGLD and CFGSTRM (15 R312, R313) -/

/-- The planes that a stage begins from (07 R156), shadow and active, as the region-control instructions at lower indices of the block,
which hold the same claim, will leave them. The planes that effects which have fired and not yet committed will leave are meant (DESIGN
CHOICE, log 57). -/
def stageBase (w : Work) (r : Nat) (x : Region) : List (Nat × Plane) × List (Nat × Plane) :=
  let own : List Effect := match w.block with
    | none => []
    | some b => (List.range w.focus.idx).flatMap (fun i => (b.effs.filter (fun e => e.1 == i)).map (·.2))
  own.foldl (fun (p : List (Nat × Plane) × List (Nat × Plane)) e =>
    match e with
    | .config q planes _ => if q == r then (planes, p.2) else p
    | .switch q => if q == r then (p.2, p.1) else p
    | .abort q rolled => if q == r then ([], if rolled then p.1 else p.2) else p
    | _ => p) (w.planesOf x (!x.activeB), w.planesOf x x.activeB)

/-- Stage a stream for a region's shadow (07 R156, R157; 15 R322). -/
def collateRegion (w : Work) (r : Nat) (x : Region) (stashres : Nat) (cs : List Cmd) : Except Bad (List (Nat × Plane) × Bool) :=
  let from_ := w.stageBase r x
  w.collate x.live stashres (fun base => if base == 0 then from_.1 else if base == 1 then from_.2 else []) cs

/-- What the Collator answers: a refusal, or the planes that the commit will write, with their stream bases translated. -/
def stageInto (w : Work) (sh : Shape) (r : Nat) (x : Region) (n : Nat) : Except Bad (List (Nat × Plane) × Bool) → Work
  | .error b => w.rejectConfig b
  | .ok p =>
    let t := w.loadExtents x.asid x.live p.1
    (t.1.effect (.config r t.2 p.2)).deliver sh (BitVec.ofNat 64 n) memLat

/-- CFGLD (15 R312): it delivers the commands of its stream, BEGIN and END among them as in CFGSTRM. -/
def fireCfgld (w : Work) (sh : Shape) (a : Word) : Work :=
  if a.toNat % 64 != 0 then w.trap Cause.align (einfoAlign a.toNat w.focus.idx)
  else w.withClaim (fun w r x =>
    match w.readImage w.who (w.va a.toNat) with
    | (w, .error e) => w.trap e.1 (einfoAccess e 4 w.focus.idx)
    | (w, .ok b) =>
      match parseImage w.core.imageKeys b with
      | none => w.rejectConfig ⟨1, 0, 6, 0, wholeCmd⟩
      | some g =>
        match g.stream x with
        | .error e => w.rejectConfig e
        | .ok cs => w.stageInto sh r x cs.length (w.collateRegion r x g.stashres cs))

/-- Read `n` 32-bit words for the instruction in focus. -/
def readWords32 (w : Work) (q : Who) : Nat → Nat → Work × Except (Nat × Nat × Nat) (List Nat)
  | 0, _ => (w, .ok [])
  | n + 1, va =>
    match w.translate q .desc 4 va with
    | (w, .fault c s) => (w, .error (c, s, va))
    | (w, .ok pa u) =>
      match w.poisonOf pa with
      | some src => (w, .error (Cause.uncorrectable, src, pa / 64))
      | none =>
        match readWords32 w q n (2 ^ 64 * (va / 2 ^ 64) + low (va + 4) 64) with
        | (w, .error e) => (w, .error e)
        | (w, .ok vs) => (w, .ok (w.dataAt pa 4 u :: vs))

/-- CFGSTRM (15 R313). -/
def fireCfgstrm (w : Work) (sh : Shape) (a b : Word) : Work :=
  if b.toNat < 2 || 65538 < b.toNat then w.rejectConfig ⟨2, 0, 5, 0, wholeCmd⟩
  else if a.toNat % 4 != 0 then w.trap Cause.align (einfoAlign a.toNat w.focus.idx)
  else w.withClaim (fun w r x =>
    match w.readWords32 w.who b.toNat (w.va a.toNat) with
    | (w, .error e) => w.trap e.1 (einfoAccess e 4 w.focus.idx)
    | (w, .ok ws) => w.stageInto sh r x b.toNat (w.collateRegion r x x.stashres (streamCmds ws)))

/-! ### Kettles (15 R317, R280) -/

/-- A kettle is injected into a region (15 R317): behind the armings made, and into every CTL input. -/
def injectKettle (w : Work) (r : Nat) (x : Region) : Work :=
  let n := x.kettle + 1
  let ss := w.regionSlots x.live
  let w := w.setRegion r { x with kettle := n, armedSince := false, sinks := (ss.filter Slot.isSink).map Slot.key }
  let w := (ss.filter Slot.source).foldl (fun w S => let o := w.op S; w.setOp S { o with agenda := o.agenda ++ [.kettle n] }) w
  let ctls := ((ss.filter (fun S => S.inputs.contains 5)).map (fun S => S.tile * 256 + S.elem)).eraseDups
  ctls.foldl (fun w e =>
    let d := w.elem (e / 256) (e % 256)
    w.setElem (e / 256) (e % 256) { d with ctl := d.ctl ++ [{ kind := 3, tag := 0, mask := 0, payload := n % 0x10000 }] }) w

/-- The kettle of number `n` has reached every sink of the active plane (15 R317). -/
def kettleReached (w : Work) (x : Region) (n : Nat) : Bool :=
  ((w.regionSlots x.live).filter Slot.isSink).all (fun S => n ≤ (w.op S).kettle)

/-- DRAINED (15 R320). -/
def drained (x : Region) : Bool := x.arms == 0 || (!x.armedSince && x.kettle != 0 && x.sinks.isEmpty)

/-- KWAIT (15 R317). -/
def fireKwait (w : Work) (sh : Shape) (lim : Nat) : Work :=
  w.withRegion (fun w _ x =>
    if x.kettle == 0 || w.kettleReached x x.kettle then w.deliver sh (BitVec.ofNat 64 x.kettle) 1
    else w.waitHolding 0 (w.now + limClk lim) none [BitVec.ofNat 64 x.kettle])

/-! ### CFGSW and CFGABORT (15 R314, R315; 21 R403) -/

/-- The flits that a plane's elements would strand: at inputs and LOC latches, those of operations half taken in, and a FOLD's partial
block. -/
def strandedOf (w : Work) (key : Nat) (e : Elem) : Nat :=
  let ins := ((e.ins.map (fun q => (q.2.filter (fun f => !f.isKettle)).length)).foldl (· + ·) 0) + (e.ctl.filter (fun f => !f.isKettle)).length
  let loc := if e.loc.isSome then 1 else 0
  let held := ((w.elemSlots (key / 256) (key % 256)).map (fun S =>
    let x := w.op S
    x.stranded + (if S.kind == 1 || S.kind == 2 || (S.kind == 3 && S.opc == 3) then
        (if x.taking.isSome then 1 else 0) + x.bufA.length + x.bufB.length
      else if S.kind == 4 && S.opc == 0 then x.cnt else 0))).foldl (· + ·) 0
  ins + loc + held

/-- Discard the stranded operands of a region, and count them. -/
def discardStranded (w : Work) (live : List Nat) : Work × Nat :=
  let mine (x : Nat × Elem) : Bool := live.contains (x.1 / 256)
  let n := (w.core.elems.map (fun x => if mine x then w.strandedOf x.1 x.2 else 0)).foldl (· + ·) 0
  let wipe (o : Nat × SlotOp) : Nat × SlotOp := (o.1, { o.2 with stranded := 0, taking := none, lanes := 0, bufA := [], bufB := [], cnt := 0 })
  let clear (e : Elem) : Elem := { e with ins := [], ctl := [], loc := none, ops := e.ops.map wipe }
  let es := w.core.elems.map (fun x => if mine x then (x.1, clear x.2) else x)
  ({ w with core := { w.core with elems := es } }, n)

/-- The rest of CFGSW's firing once the latest kettle has reached every sink (15 R314). -/
def switchNow (w : Work) (sh : Shape) (r : Nat) (x : Region) (e : Effect) (v : Nat) : Work :=
  let d := w.discardStranded x.live
  let w := d.1.stopWaiting
  if d.2 != 0 then
    (w.setRegion r { x with stranded := (x.stranded + d.2) % 2 ^ 32 }).rejectConfig ⟨2, 0, 3, 0, 0⟩
  else if 65535 ≤ x.switches then w.rejectConfig ⟨4, 0, 4, 0, 0⟩
  else (w.effect e).deliver sh (BitVec.ofNat 64 v) 1

/-- An effect exchanges a region's planes (15 R314, R315). -/
def switches : Effect → Bool
  | .switch _ | .abort _ true => true
  | _ => false

/-- Switches that instructions of the block at lower indices will make. -/
def switchesPending (w : Work) : Nat :=
  match w.block with
  | none => 0
  | some b => (b.effs.filter (fun e => e.1 < w.focus.idx && switches e.2)).length

/-- The effect and the value of a switch by CFGSW or by a CFGABORT that rolls back: a second one of a block delivers the phase that it will
begin (DESIGN CHOICE, log 49). -/
def switchOf (w : Work) (abort : Bool) (r : Nat) (x : Region) : Effect × Nat :=
  let phase := x.phase + w.switchesPending + 1
  if abort then (.abort r true, 2 ^ 63 + phase) else (.switch r, phase)

/-- The traps of the switches of a block that pass the 65,535 of a task (01 R36), found when the block ends. -/
def switchTraps (w : Work) (b : Block) : List Trap :=
  let done := (w.regionOf w.focus.tile).elim 0 (·.switches)
  let idx := (List.range b.insts.length).flatMap (fun i => (b.effs.filter (fun e => e.1 == i && switches e.2)).map (fun _ => i))
  (idx.drop (65535 - done)).map (fun i => ⟨i, Cause.cfgReject, einfoConfig ⟨4, 0, 4, 0, 0⟩ i⟩)

/-- The firing part of CFGSW (15 R314). -/
def fireSwitch (w : Work) (sh : Shape) (abort : Bool) (r : Nat) (x : Region) : Work :=
  let w := if x.armedSince || x.kettle == 0 then w.injectKettle r x else w
  match mapFind r w.core.regions with
  | none => w
  | some x =>
    let s := w.switchOf abort r x
    if x.sinks.isEmpty then w.switchNow sh r x s.1 s.2 else w.waitHolding 0 w.now none [BitVec.ofNat 64 x.kettle]

/-- CFGABORT at its firing (15 R315). -/
def fireAbort (w : Work) (sh : Shape) (r : Nat) (x : Region) : Work :=
  if x.rollable then w.fireSwitch sh true r x
  else (w.effect (.abort r false)).deliver sh (BitVec.ofNat 64 x.phase) 1

/-- An instruction that takes the staging claim, at its firing or once the claim is free (15 R311). -/
def fireStaging (w : Work) (i : Instr) (a b : Word) : Work :=
  match i with
  | .cfgld _ _ _ => w.fireCfgld (shape i) a
  | .cfgstrm _ _ _ => w.fireCfgstrm (shape i) a b
  | .cfgsw _ _ _ => w.withClaim (fun w r x => w.fireSwitch (shape i) false r x)
  | _ => w.withClaim (fun w r x => w.fireAbort (shape i) r x)

/-! ### ARM, DRAIN, INJECT, SINKRD -/

/-- Armings of a region that commits under way have still to make: those of blocks that stand before a switch (01 R30, R36). -/
def armsLate (w : Work) (r : Nat) : Nat :=
  let of_ (b : Block) : Nat := ((b.late.getD []).map (fun e => match e with
    | .arm q n => if q == r then n else 0
    | _ => 0)).foldl (· + ·) 0
  (w.core.tiles.map (fun t => (t.2.ctxs.map (fun c => c.2.block.elim 0 of_)).foldl (· + ·) 0)).foldl (· + ·) 0

/-- The traps of the ARMs of a block that the armings left do not cover any more when it ends, since other contexts have made armings
(01 R30; 15 R316). -/
def armTraps (w : Work) (b : Block) : List Trap :=
  let late := ((w.tile w.focus.tile).region).elim 0 w.armsLate
  let left := (w.regionOf w.focus.tile).elim 0 (fun x => x.tcount - (x.arms + late))
  let arms := (List.range b.insts.length).flatMap (fun i => b.effs.filterMap (fun e => match e.2 with
    | .arm _ n => if e.1 == i then some (i, n) else none
    | _ => none))
  (arms.foldl (fun (r : Nat × List Trap) a =>
    if left < r.1 + a.2 then (r.1, r.2 ++ [⟨a.1, Cause.protection, einfoMem 0 3 4 0 a.1⟩]) else (r.1 + a.2, r.2)) (0, [])).2

/-- Armings that instructions of the block at lower indices will make. -/
def armsPending (w : Work) : Nat :=
  match w.block with
  | none => 0
  | some b => (b.effs.map (fun e => match e.2 with
      | .arm _ n => if e.1 < w.focus.idx then n else 0
      | _ => 0)).foldl (· + ·) 0

/-- ARM (15 R316): it delivers the number that its first arming has as matters stand when it fires (DESIGN CHOICE, log 49). -/
def fireArm (w : Work) (sh : Shape) (a : Word) : Work :=
  w.withRegion (fun w r x =>
    let first := x.arms + w.armsLate r + w.armsPending
    if a.toNat / 65536 != 0 || a == 0 || x.tcount < first + a.toNat then w.protect 3 0
    else (w.effect (.arm r a.toNat)).deliver sh (BitVec.ofNat 64 first) 1)

/-- DRAIN (15 R317). -/
def fireDrain (w : Work) (sh : Shape) : Work :=
  w.withRegion (fun w r x =>
    let before := match w.block with
      | none => 0
      | some b => (b.effs.filter (fun e => e.2 == .drain r && e.1 < w.focus.idx)).length
    (w.effect (.drain r)).deliver sh (BitVec.ofNat 64 (x.kettle + before + 1)) 1)

/-- A free slot of a CTL input (15 R318). -/
def ctlFree (e : Elem) : Bool := e.ctl.length + e.ctlHeld.length < 4

/-- INJECT with HALF = 1 takes a slot of the CTL input, or waits as R101 has it (15 R318). -/
def attemptInject (w : Work) (dst v : Word) (tries : Nat) : Work :=
  let t := w.focus.tile
  let e := w.elem t (dst.toNat % 256)
  if ctlFree e then
    ((w.setElem t (dst.toNat % 256) { e with ctlHeld := w.party :: e.ctlHeld }).stopWaiting).effect (.inject dst v)
  else
    let budget := w.me.budget.toNat
    if tries < bits budget 0 8 then w.waitUntil tries (w.now + bits budget 8 8 * 16) none
    else w.stopWaiting.trap Cause.feBudget (einfoWait 0 false 3 w.focus.idx)

/-- INJECT at its firing (15 R318). -/
def fireInject (w : Work) (dst v : Word) : Work :=
  w.withRegion (fun w r x =>
    let d := dst.toNat
    if d / 2 ^ 34 != 0 || bit d 12 || bits d 8 4 != w.slotOf w.focus.tile then w.protect 3 0
    else
      let key := w.focus.tile * 256 + d % 256
      let first := (mapFind key x.injectors).getD w.party
      if w.det && first != w.party then w.trap Cause.detAtomic (BitVec.ofNat 64 w.focus.idx)
      else
        let w := if w.det then w.setRegion r { x with injectors := mapSet key w.party x.injectors } else w
        if bit d 13 then w.attemptInject dst v 0 else w.effect (.inject dst v))

/-- INJECT at commit (15 R318). -/
def commitInject (w : Work) (dst v : Word) : Work :=
  let d := dst.toNat
  let t := w.focus.tile
  let e := w.elem t (d % 256)
  if bit d 13 then
    let f : Flit := { kind := bits d 14 2, tag := bits d 32 2, mask := bits d 16 16, payload := v.toNat * 2 ^ 64 + e.inject.toNat, arm := w.lastArm t }
    w.setElem t (d % 256) { e with ctl := e.ctl ++ [f], ctlHeld := e.ctlHeld.erase w.party, inject := 0 }
  else w.setElem t (d % 256) { e with inject := v }

/-- The region status register (15 R320). -/
def regionStatus (x : Region) : Nat :=
  x.phase % 65536 * 2 ^ 48 + (if x.activeB then 2 ^ 47 else 0) + (if x.staged then 2 ^ 46 else 0) + (if x.race then 2 ^ 45 else 0)
    + (if drained x then 2 ^ 44 else 0) + x.stranded % 2 ^ 32

/-- The element status register (13 R270; 15 R321). -/
def elementStatus (w : Work) (t e : Nat) : Nat :=
  let x := w.elem t e
  match kindOf e with
  | 0 => x.cutoff % 2 ^ 32 * 2 ^ 32 + x.replaced % 2 ^ 32
  | 1 => 0
  | 2 => x.count % 2 ^ 64
  | 3 => x.spill.length * 2 ^ 40 + x.count % 2 ^ 40
  | _ =>
    match (w.elemSlots t e).find? (fun S => [3, 4, 9, 10].contains S.opc) with
    | none => 0
    | some S =>
      (match S.opc with
       | 3 => 64 - (x.tags.filter (fun k => k / 64 == S.s)).length
       | 4 => x.count % 2 ^ 32
       | 9 => x.digest
       | _ =>
         (if x.probe.done then 2 ^ 63 else 0) + (if x.probe.matched then 2 ^ 62 else 0) + x.probe.diff % 2 ^ 32)

/-- SINKRD's register (15 R319): `src` has been checked. -/
def sinkRegister (w : Work) (x : Region) (src : Nat) : Nat :=
  let reg := bits src 12 2
  if bits src 0 12 == 0xFFF then
    (match reg with
     | 0 => x.arms % 2 ^ 32
     | 1 => x.kettle % 2 ^ 32
     | 2 => 0
     | _ => regionStatus x)
  else
    let t := w.focus.tile
    let e := w.elem t (src % 256)
    match reg with
    | 0 => bits e.sink.payload 0 64
    | 1 => bits e.sink.payload 64 64
    | 2 => (if e.sinkValid then 2 ^ 63 else 0) + e.sink.kind % 4 * 2 ^ 18 + e.sink.tag % 4 * 2 ^ 16 + e.sink.mask % 65536
    | _ => w.elementStatus t (src % 256)

/-- SINKRD (15 R319). -/
def fireSinkrd (w : Work) (sh : Shape) (a : Word) : Work :=
  w.withRegion (fun w _ x =>
    let d := a.toNat
    if d / 2 ^ 14 != 0 || (bits d 0 12 != 0xFFF && bits d 8 4 != w.slotOf w.focus.tile) then w.protect 3 0
    else w.deliver sh (BitVec.ofNat 64 (w.sinkRegister x d)) 1)

/-! ### At commit -/

/-- The planes checked for a region's shadow are written, as one event (07 R157; 15 R311). Their extents are the entries as they then stand,
since a page may have been converted after the check (05 R110, R112, R115). -/
def commitConfig (w : Work) (r : Nat) (planes : List (Nat × Plane)) (race : Bool) : Work :=
  match mapFind r w.core.regions with
  | none => w
  | some x =>
    let put (e : Elem) (p : Plane) : Elem := if x.activeB then { e with planeA := p } else { e with planeB := p }
    let keys := planes.map (fun p => (listGet 0 (p.1 / 256) x.live * 256 + p.1 % 256, p.2.onExtents (List.map w.recent)))
    let es := w.core.elems.map (fun e =>
      if x.live.contains (e.1 / 256) then (e.1, put e.2 (mapGet (basePlane (e.1 % 256)) e.1 keys)) else e)
    let es := keys.foldl (fun es k => if (mapFind k.1 es).isSome then es else mapSet k.1 (put (baseElem (k.1 % 256)) k.2) es) es
    { w with core := { w.core with elems := es, regions := mapSet r { x with staged := true, raceShadow := race } w.core.regions } }

/-- A plane becomes active (13 R243; 15 R314, R319): counters at the first slot, operations anew, behind the kettles and armings made so far and with
the extents that its load patched in (05 R115), VALID cleared. -/
def freshOps (kettle arms : Nat) (b : Bool) (e : Elem) : Elem :=
  let p := if b then e.planeB else e.planeA
  let op (s : Nat) : Nat × SlotOp := (s, { kettle := kettle, armings := arms, extents := mapGet [] s p.extents })
  { e with counter := 0, sinkValid := false, ins := [], cross := [], ops := p.slots.map op }

/-- The planes of a region are exchanged under the next phase number (15 R314, R315; 01 R35). Kills still on the way name streams that have
ended, and have no effect any more (13 R266). -/
def exchange (w : Work) (r : Nat) (x : Region) (rollable : Bool) : Work :=
  let b := !x.activeB
  let x' := { x with activeB := b, phase := x.phase + 1, switches := x.switches + 1, staged := false, race := x.raceShadow, raceShadow := x.race, rollable := rollable }
  let es := w.core.elems.map (fun e => if x.live.contains (e.1 / 256) then (e.1, freshOps x.kettle x.arms b e.2) else e)
  let ks := w.core.kills.filter (fun k => !x.live.contains k.tile)
  { w with core := { w.core with elems := es, kills := ks, regions := mapSet r x' w.core.regions } }

/-- CFGSW at commit (15 R314). -/
def commitSwitch (w : Work) (r : Nat) : Work :=
  match mapFind r w.core.regions with
  | none => w
  | some x => w.exchange r x true

/-- The shadow planes of a region at the staging base of R157 (15 R315). -/
def clearShadow (w : Work) (r : Nat) : Work :=
  match mapFind r w.core.regions with
  | none => w
  | some x =>
    let base (e : Nat × Elem) : Elem :=
      if x.activeB then { e.2 with planeA := basePlane (e.1 % 256) } else { e.2 with planeB := basePlane (e.1 % 256) }
    let es := w.core.elems.map (fun e => if x.live.contains (e.1 / 256) then (e.1, base e) else e)
    let x' := { x with staged := false, raceShadow := false }
    { w with core := { w.core with elems := es, regions := mapSet r x' w.core.regions } }

/-- CFGABORT at commit (15 R315). -/
def commitAbort (w : Work) (r : Nat) (rolled : Bool) : Work :=
  match mapFind r w.core.regions with
  | none => w
  | some x => (if rolled then w.exchange r x false else w).clearShadow r

/-- ARM at commit (15 R316). -/
def commitArm (w : Work) (r n : Nat) : Work :=
  match mapFind r w.core.regions with
  | none => w
  | some x =>
    let w := w.setRegion r { x with arms := x.arms + n, armedSince := true, rollable := false }
    ((w.regionSlots x.live).filter Slot.source).foldl (fun w S =>
      let o := w.op S
      w.setOp S { o with agenda := o.agenda ++ List.replicate n .arm }) w

/-- DRAIN at commit (15 R317). -/
def commitDrain (w : Work) (r : Nat) : Work :=
  match mapFind r w.core.regions with
  | none => w
  | some x => w.injectKettle r x

/-! ### Waits -/

/-- The waiting instruction at an index of a context's block: itself, its operands, its wait. -/
def waiting (w : Work) : Option (Instr × Word × Word × Waiting) :=
  match w.block, w.waitOf with
  | some b, some x =>
    match b.instr w.focus.idx with
    | none => none
    | some i =>
      if w.me.status == .running && (b.inst w.focus.idx).phase == .waiting then
        some (i, Operand.word (b.inst w.focus.idx).left, Operand.word (b.inst w.focus.idx).right, x)
      else none
  | _, _ => none

/-- An instruction that waits for the staging claim of its region tries again (15 R311). -/
def stagingRetry (w : Work) : Option Work :=
  match w.waiting, w.regionOf w.focus.tile with
  | some (i, a, b, x), some r =>
    if x.data.isEmpty && r.staging.all (fun c => c.party == w.party) then
      (match i with
       | .cfgld _ _ _ => some (w.fireStaging i a b)
       | .cfgstrm _ _ _ => some (w.fireStaging i a b)
       | .cfgsw _ _ _ => some (w.fireStaging i a b)
       | .cfgabort _ _ _ => some (w.fireStaging i a b)
       | _ => none)
    else none
  | _, _ => none

/-- A CFGSW or CFGABORT that waits finds the region drained (15 R314, R315). Where armings have been made since the kettle it waited for,
another is injected behind them, and it waits on (01 R36). -/
def drainDone (w : Work) : Option Work :=
  match w.waiting, (w.tile w.focus.tile).region with
  | some (i, _, _, x), some r =>
    match mapFind r w.core.regions with
    | none => none
    | some g =>
      if x.data.isEmpty || !g.sinks.isEmpty then none
      else if g.armedSince then
        (match i with
         | .cfgsw _ _ _ => some (w.injectKettle r g)
         | .cfgabort _ _ _ => some (w.injectKettle r g)
         | _ => none)
      else
        match i with
        | .cfgsw _ _ _ => let s := w.switchOf false r g; some (w.switchNow (shape i) r g s.1 s.2)
        | .cfgabort _ _ _ => let s := w.switchOf true r g; some (w.switchNow (shape i) r g s.1 s.2)
        | _ => none
  | _, _ => none

/-- A KWAIT finds its kettle at every sink (15 R317). -/
def kwaitDone (w : Work) : Option Work :=
  match w.waiting, w.regionOf w.focus.tile with
  | some (.kwait pr lim t1 t0, _, _, x), some r =>
    let n := (x.data.headD 0)
    if w.kettleReached r n.toNat then some (w.stopWaiting.deliver (shape (.kwait pr lim t1 t0)) n 1) else none
  | _, _ => none

/-- The limit of a KWAIT has passed (15 R317; 21 R398, FORM 6). -/
def kwaitExpire (w : Work) : Option Work :=
  match w.waiting, w.regionOf w.focus.tile with
  | some (.kwait _ _ _ _, _, _, x), some r =>
    if x.due ≤ w.now && !w.kettleReached r (x.data.headD 0).toNat then
      some (w.stopWaiting.trap Cause.waitTimeout (einfoWait 0 false 6 w.focus.idx))
    else none
  | _, _ => none

/-- An INJECT that waits tries again (15 R318). -/
def injectRetry (w : Work) : Option Work :=
  match w.waiting with
  | some (.inject _, a, b, x) => if x.due ≤ w.now then some (w.attemptInject a b (x.tries + 1)) else none
  | _ => none

end Work

/-! ### Meanings -/

/-- CFGLD (15 R312). -/
def execCfgld (pr : BitVec 2) (t1 t0 : BitVec 9) (s : State) : Host.Outcome State Fault Refusal :=
  fireAccess (shape (.cfgld pr t1 t0)) (fun a b _ w => w.fireStaging (.cfgld pr t1 t0) a b) s

/-- CFGSTRM (15 R313). -/
def execCfgstrm (pr : BitVec 2) (t1 t0 : BitVec 9) (s : State) : Host.Outcome State Fault Refusal :=
  fireAccess (shape (.cfgstrm pr t1 t0)) (fun a b _ w => w.fireStaging (.cfgstrm pr t1 t0) a b) s

/-- CFGSW (15 R314). -/
def execCfgsw (pr : BitVec 2) (t1 t0 : BitVec 9) (s : State) : Host.Outcome State Fault Refusal :=
  fire (shape (.cfgsw pr t1 t0)) (fun a b _ w => w.fireStaging (.cfgsw pr t1 t0) a b) s

/-- CFGABORT (15 R315). -/
def execCfgabort (pr : BitVec 2) (t1 t0 : BitVec 9) (s : State) : Host.Outcome State Fault Refusal :=
  fire (shape (.cfgabort pr t1 t0)) (fun a b _ w => w.fireStaging (.cfgabort pr t1 t0) a b) s

/-- ARM (15 R316). -/
def execArm (pr : BitVec 2) (t1 t0 : BitVec 9) (s : State) : Host.Outcome State Fault Refusal :=
  fire (shape (.arm pr t1 t0)) (fun a _ _ w => w.fireArm (shape (.arm pr t1 t0)) a) s

/-- DRAIN (15 R317). -/
def execDrain (pr : BitVec 2) (t1 t0 : BitVec 9) (s : State) : Host.Outcome State Fault Refusal :=
  fire (shape (.drain pr t1 t0)) (fun _ _ _ w => w.fireDrain (shape (.drain pr t1 t0))) s

/-- INJECT (15 R318). -/
def execInject (pr : BitVec 2) (s : State) : Host.Outcome State Fault Refusal :=
  fire (shape (.inject pr)) (fun a b _ w => w.fireInject a b) s

/-- SINKRD (15 R319). -/
def execSinkrd (pr : BitVec 2) (t1 t0 : BitVec 9) (s : State) : Host.Outcome State Fault Refusal :=
  fire (shape (.sinkrd pr t1 t0)) (fun a _ _ w => w.fireSinkrd (shape (.sinkrd pr t1 t0)) a) s

/-- KWAIT (15 R317). -/
def execKwait (pr : BitVec 2) (lim : BitVec 5) (t1 t0 : BitVec 9) (s : State) : Host.Outcome State Fault Refusal :=
  fire (shape (.kwait pr lim t1 t0)) (fun _ _ _ w => w.fireKwait (shape (.kwait pr lim t1 t0)) lim.toNat) s

/-- STAGING_CLAIM_WAIT_END (15 R311). -/
def execStagingClaimWaitEnd (tile ctx idx : Nat) (s : State) : Host.Outcome State Fault Refusal :=
  happen (fun w => (w.at_ tile ctx idx).stagingRetry) s

/-- CFGSW_DRAIN_DONE (15 R314). -/
def execCfgswDrainDone (tile ctx idx : Nat) (s : State) : Host.Outcome State Fault Refusal :=
  happen (fun w => (w.at_ tile ctx idx).drainDone) s

/-- KWAIT_DONE (15 R317). -/
def execKwaitDone (tile ctx idx : Nat) (s : State) : Host.Outcome State Fault Refusal :=
  happen (fun w => (w.at_ tile ctx idx).kwaitDone) s

/-- KWAIT_LIMIT_EXPIRE (15 R317). -/
def execKwaitLimitExpire (tile ctx idx : Nat) (s : State) : Host.Outcome State Fault Refusal :=
  happen (fun w => (w.at_ tile ctx idx).kwaitExpire) s

/-- INJECT_SLOT_RETRY (15 R318). -/
def execInjectSlotRetry (tile ctx idx : Nat) (s : State) : Host.Outcome State Fault Refusal :=
  happen (fun w => (w.at_ tile ctx idx).injectRetry) s

end Sys2Proof.Machine
end

