-- ==== Sys2Proof/Machine/Blocks.lean ====
section
/-! DEFINITION. The events of blocks in flight: fetch, delivery, end and commit (09 R175 to R183; 11 R214), retries, polls and time
limits (05 R101, R106; 11 R213, R228, R232 to R234; 19 R385), and the wide unit's queue and runs (17 R325, R339). -/

namespace Sys2Proof.Machine

open Sys2Proof

namespace Work

/-! ### Which context issues (01 R28) -/

/-- The Spine of a tile runs: its clocks are on, and its region, if it is in one, is neither halting nor halted (21 R405). -/
def spineRuns (w : Work) (t : Nat) : Bool :=
  (w.tile t).stopped.isNone &&
    (match (w.tile t).region with
     | none => true
     | some r =>
       match mapFind r w.core.regions with
       | none => false
       | some x => x.progress == .running || x.progress == .probing)

/-- Accesses of a context's committed blocks that have still to perform (11 R222; 17 R326): those of the wide unit, those of engine
commands up to their completion words (17 R344), and stores to the control window. -/
def accessesLeft (w : Work) (t p : Nat) : Bool :=
  (w.tile t).wq.any (fun o => o.party == p && wideMemory o.instr) || (w.tile t).wide.run.any (fun r => r.op.party == p)
    || w.core.engines.any (fun c => sameIssuer c.party p c.task (w.taskOf t))
    || w.core.comps.any (fun c => c.kind ≤ 2 && sameIssuer c.party p c.task (w.taskOf t))
    || w.core.posted.any (fun x => x.2.2 == p)

/-- A context may take up its next block: it is ready and no FENCE holds it. -/
def ready (w : Work) (t c : Nat) : Bool :=
  (w.ctx t c).status == .ready && ((w.ctx t c).fence == 0 || !w.accessesLeft t (t * 4 + c))

/-- A context has a block in flight that does not wait. -/
def executing (w : Work) (t c : Nat) : Bool :=
  (w.ctx t c).status == .running &&
    (match (w.ctx t c).block with
     | none => false
     | some b => b.waits.isEmpty && b.late.isNone)

/-- The context of a tile whose block issues next: the first ready one after the last whose block ended (01 R28). -/
def nextIssuer (w : Work) (t : Nat) : Option Nat :=
  ([1, 2, 3, 4].map (fun k => ((w.tile t).last + k) % 4)).find? (fun c => w.ready t c)

/-- A region error stands to be delivered to a context before its next block (21 R399). -/
def errorDue (w : Work) (t c : Nat) : Bool :=
  w.isMain t c && !(w.ctx t c).handler &&
    (match w.regionOf t with
     | none => false
     | some r => !r.errq.isEmpty)

/-- The context in focus fetches its next block (07 R153; 01 R28). -/
def blockFetch (w : Work) : Option Work :=
  let t := w.focus.tile
  let c := w.focus.ctx
  if w.spineRuns t && w.nextIssuer t == some c && !w.errorDue t c && ! [0, 1, 2, 3].any (fun d => w.executing t d) then some w.fetchBlock
  else none

/-- The result `k` on its way in the block in focus arrives (09 R177, R208). -/
def resultDelivery (w : Work) (k : Nat) : Option Work :=
  match w.block with
  | none => none
  | some b =>
    match b.inflight[k]? with
    | none => none
    | some f =>
      if w.me.status == .running && f.due ≤ w.now then
        some (w.setBlock ({ b with inflight := listErase k b.inflight }.arrive f.tgt f.val))
      else none

/-! ### Commit (09 R181; 11 R214) -/

/-- One of the effects of order 3 of R214 at the commit of the block in focus; the wide instructions enter their queue after all of
them (17 R325). -/
def commitEffect (w : Work) : Effect → Work
  | .stores _ => w
  | .qpush q rec => w.commitPush w.party q rec
  | .qpop q seq => w.commitPop q seq
  | .qenable q rbase ring hd rw rs owner => w.commitEnable q rbase ring hd rw rs owner
  | .qdisable q force => w.commitDisable q force
  | .cqpush die rec => w.commitCqPush w.party die rec
  | .cqpop die seq => w.commitCqPop die seq
  | .mts id v => w.commitMts id v
  | .seed pa v => w.fillWord pa v
  | .spawn p entry who => w.commitSpawn p entry who
  | .fence n => w.setCtx w.focus.tile w.focus.ctx { w.me with fence := max w.me.fence n }
  | .wide _ => w
  | .engine cmd => w.issueEngine cmd
  | .config r planes race => w.commitConfig r planes race
  | .switch r => w.commitSwitch r
  | .abort r rolled => w.commitAbort r rolled
  | .arm r n => w.commitArm r n
  | .drain r => w.commitDrain r
  | .inject dst v => w.commitInject dst v
  | .pfree pool cls blk pa => w.commitFree pool cls blk pa
  | .pgrow pool base len => w.commitGrow pool base len
  | .cwstore ws => w.commitCwstore ws
  | .cwinv key => w.commitCwinv key

/-- An effect issues a command to an engine (17 R343). -/
def commands : Effect → Bool
  | .engine _ | .pfree _ _ _ _ | .pgrow _ _ _ | .cwstore _ | .cwinv _ => true
  | .stores _ | .qpush _ _ | .qpop _ _ | .qenable _ _ _ _ _ _ _ | .qdisable _ _ | .cqpush _ _ | .cqpop _ _ | .mts _ _ | .seed _ _
  | .spawn _ _ _ | .fence _ | .wide _ | .config _ _ _ | .switch _ | .abort _ _ | .arm _ _ | .drain _ | .inject _ _ => false

/-- The effects of a block in ascending instruction index, and behind them its engine commands (17 R343). -/
def effectsInOrder (b : Block) : List Effect :=
  let es := (List.range b.words.length).flatMap (fun i => (b.effs.filter (fun e => e.1 == i)).map (·.2))
  es.filter (fun e => !commands e) ++ es.filter commands

/-- The block's wide instructions enter the tile's wide queue, and in a deterministic task the committing context becomes the tile's
only wide issuer (17 R325, R328). -/
def enqueueWide (w : Work) (b : Block) : Work :=
  let t := w.focus.tile
  let ops := b.wideOps
  let x := w.tile t
  let issuer := if w.det && x.wide.issuer.isNone && (b.wide || !ops.isEmpty) then some w.focus.ctx else x.wide.issuer
  w.setTile t { x with wq := x.wq ++ ops, wide := { x.wide with issuer := issuer } }

/-- The wide queue of the tile in focus has room for the wide instructions of a block (17 R325). -/
def wideRoom (w : Work) (b : Block) : Bool :=
  let n := b.wideOps.length
  let q := (w.tile w.focus.tile).wq.length
  n == 0 || q + n ≤ 64 || (64 < n && q == 0)

/-- An effect that switches a region's planes waits at commit while an arming made since the latest kettle, or a sink that it has still to
reach, stands in the way (01 R36; 15 R323). -/
def switchHeld (w : Work) (e : Effect) : Bool :=
  let r := match e with
    | .switch r => some r
    | .abort r true => some r
    | _ => none
  (r.bind (fun r => mapFind r w.core.regions)).any (fun x => x.armedSince || !x.sinks.isEmpty)

/-- The effects up to a switch that has to wait, and those that are left. -/
def untilSwitch (w : Work) : List Effect → Work × List Effect
  | [] => (w, [])
  | e :: es => if w.switchHeld e then (w, e :: es) else untilSwitch (w.commitEffect e) es

/-- The end of a commit: flags, wide instructions and the exit. -/
def endCommit (w : Work) (b : Block) : Work :=
  let t := w.focus.tile
  let c := w.focus.ctx
  let w := w.setCtx t c { w.me with fpflags := w.me.fpflags ||| b.flags }
  let w := w.enqueueWide b
  let w := w.setCtx t c (afterCommit w.me b)
  (w.release w.party).setLast t c

/-- A commit goes on with some effects. Before a switch that has to wait it stands, with a kettle injected behind the armings that have
been made (01 R36; 15 R314). -/
def goOn (w : Work) (b : Block) (es : List Effect) : Work :=
  match w.untilSwitch es with
  | (w, []) => w.endCommit b
  | (w, e :: es) =>
    let w := match w.regionOf w.focus.tile, (w.tile w.focus.tile).region with
      | some x, some r => if x.armedSince then w.injectKettle r x else w
      | _, _ => w
    (w.setBlock { b with late := some (e :: es), allocs := [] }).releaseClaims w.party

/-- The switch that a commit stands before may be made (01 R36): operands that it strands are discarded and counted (21 R403; DEDUCED,
log 50). Where armings have been made in the meantime another kettle is injected. None while it has to wait. -/
def resumeCommit (w : Work) (b : Block) (es : List Effect) : Option Work :=
  match w.regionOf w.focus.tile, (w.tile w.focus.tile).region with
  | some x, some r =>
    if !x.sinks.isEmpty then none
    else if x.armedSince then some (w.injectKettle r x)
    else
      let d := w.discardStranded x.live
      some ((d.1.setRegion r { x with stranded := (x.stranded + d.2) % 2 ^ 32 }).goOn b es)
  | _, _ => none

/-- An effect concerns the region of its tile alone. -/
def regional : Effect → Bool
  | .config _ _ _ | .switch _ | .abort _ _ | .arm _ _ | .drain _ | .inject _ _ | .spawn _ _ _ => true
  | .stores _ | .qpush _ _ | .qpop _ _ | .qenable _ _ _ _ _ _ _ | .qdisable _ _ | .cqpush _ _ | .cqpop _ _ | .mts _ _ | .seed _ _
  | .fence _ | .wide _ | .engine _ | .pfree _ _ _ _ | .pgrow _ _ _ | .cwstore _ | .cwinv _ => false

/-- A commit that stands before a switch when its region ends is completed, so that the block commits whole (01 R28): what is left of it
acts on the region no more (DEDUCED, log 50). -/
def finishLate (w : Work) (b : Block) (es : List Effect) : Work :=
  ((es.filter (fun e => !regional e)).foldl commitEffect w).endCommit b

/-- The block in focus commits (09 R181): registers, store-class effects, stores of pops, other effects, flags, wide instructions, and
the exit. -/
def commitBlock (w : Work) (b : Block) : Work :=
  let w := w.setCtx w.focus.tile w.focus.ctx (writeRegs w.me b)
  let w := b.mems.foldl commitMem w
  let es := effectsInOrder b
  let w := es.foldl commitStores w
  w.goOn b es

/-- The block in focus has ended: it traps, or it commits once the wide queue has room; and not while another party claims a word that
it writes (11 R213, R214). -/
def blockEnd (w : Work) : Option Work :=
  match w.block with
  | none => none
  | some b =>
    if w.me.status != .running then none
    else
    match b.late with
    | some es => if !w.wideRoom b then none else unlessClaimed (w.resumeCommit b es)
    | none =>
    if b.ended then
      let b := { b with traps := b.traps ++ wrunTraps (w.tile w.focus.tile) b ++ w.poolTraps b ++ w.armTraps b ++ w.switchTraps b }
      match b.report with
      | some t => unlessClaimed (some (w.trapBlock b t))
      | none => if !w.wideRoom b then none else unlessClaimed (some (w.commitBlock b))
    else none

/-! ### Waits (05 R101, R106; 11 R213, R228, R232 to R234) -/

/-- The third operand of the instruction in focus. -/
def thirdOf (w : Work) : Word :=
  match w.block with
  | none => 0
  | some b => Operand.word (b.inst w.focus.idx).third

/-- A waiting access of the instruction in focus tries its word again (05 R101). -/
def waitRetry (w : Work) : Option Work :=
  match w.waiting with
  | none => none
  | some (i, a, v, x) =>
    if x.word.isNone || w.now < x.due then none
    else
      match i with
      | .rseed _ _ _ => some (w.attemptSeed (shape i) a (x.tries + 1))
      | i => retryAccess i a v w.thirdOf (x.tries + 1) w

/-- An AMO or CAS held back by another party's claim tries again (11 R213). -/
def claimWaitEnd (w : Work) : Option Work :=
  match w.waiting with
  | none => none
  | some (i, a, v, x) =>
    let again := match i with
      | .amo _ _ _ _ _ => retryAccess i a v w.thirdOf 0 w
      | .cas _ _ _ => retryAccess i a v w.thirdOf 0 w
      | _ => none
    match again with
    | none => none
    | some u => if x.word.isSome || u.waitOf.isSome then none else some u

/-- The reservations of a word that 4,096 clk have outlasted lapse (05 R106). -/
def reservationExpire (w : Work) (k : Nat) : Option Work :=
  if w.core.resv.any (fun r => r.word == k && r.since + 4096 ≤ w.now) then
    some { w with core := { w.core with resv := w.core.resv.filter (fun r => !(r.word == k && r.since + 4096 ≤ w.now)) } }
  else none

/-- The instructions of a die's contexts that wait in CQPOP, in ascending tile and context (19 R385). -/
def cqWaiters (w : Work) (die : Nat) : List Focus :=
  ((List.range 160).filter (fun t => dieOf t == die)).flatMap (fun t => [0, 1, 2, 3].flatMap (fun c =>
    if (w.ctx t c).status != .running then []
    else
      match (w.ctx t c).block with
      | none => []
      | some b => b.waits.filterMap (fun x =>
        match b.instr x.idx with
        | some (.cqpop _ _ _ _) => some ⟨t, c, x.idx⟩
        | _ => none)))

/-- Serve one waiting CQPOP. -/
def serveCq (w : Work) (f : Focus) : Work :=
  let w := { w with focus := f }
  match w.waiting with
  | some (.cqpop pr lim t1 t0, a, _, _) => w.serveCqPop (shape (.cqpop pr lim t1 t0)) a
  | _ => w

/-- A record stands in a die's combining queue for a waiting pop (19 R384). -/
def cqServable (w : Work) (die : Nat) (f : Focus) : Bool :=
  (w.cqueue die).records.any (w.cqFor (w.ctx f.tile f.ctx).asid.toNat)

/-- The limit of a queue instruction, and what S_EINFO of QTIMEOUT says of its queue (11 R228, R232). -/
def queueLimit (w : Work) (a : Word) : Instr → Option (Nat × Word)
  | .qpush _ lim => some (limClk lim.toNat, einfoQueue a.toNat (w.hq a.toNat))
  | .qpop _ lim _ _ => some (limClk lim.toNat, einfoQueue a.toNat (w.hq a.toNat))
  | .cqpush _ lim => some (limClk lim.toNat, einfoCombining w.myDie)
  | .cqpop _ lim _ _ => some (limClk lim.toNat, einfoCombining w.myDie)
  | _ => none

/-- The clk at which the limit of the queue instruction in focus expires has passed: it traps, and tries no more (11 R228, R232). -/
def limitPassed (w : Work) : Bool :=
  match w.waiting with
  | none => false
  | some (i, a, _, x) => (w.queueLimit a i).any (fun l => x.since + l.1 < w.now)

/-- CQ_COMBINE (19 R385): the waiting pops of a die whose limits have not passed are served in ascending tile and context, once in a clk. -/
def cqCombine (w : Work) (die : Nat) : Option Work :=
  let fs := (w.cqWaiters die).filter (fun f => !{ w with focus := f }.limitPassed)
  if (w.cqueue die).combined != some w.now && fs.any (fun f => w.cqServable die f) then
    let w := w.setCq die { w.cqueue die with combined := some w.now }
    some { fs.foldl serveCq w with focus := w.focus }
  else none

/-- A waiting queue instruction tries again (11 R228, R232). A CQPOP's turn comes in ascending tile and context (19 R385). -/
def queueRetry (w : Work) : Option Work :=
  match w.waiting with
  | none => none
  | some (i, a, b, x) =>
    if w.now < x.due || w.limitPassed then none
    else
      match i with
      | .qpush _ _ => some (w.attemptPush a x.data)
      | .qpop _ _ _ _ => some (w.attemptPop (shape i) a b)
      | .cqpush _ _ => some (w.attemptCqPush x.data)
      | .cqpop _ _ _ _ => w.cqCombine w.myDie
      | _ => none

/-- The limit of a waiting queue instruction passes (11 R228). -/
def queueTimeout (w : Work) : Option Work :=
  match w.waiting with
  | none => none
  | some (i, a, _, x) =>
    match w.queueLimit a i with
    | none => none
    | some l => if x.since + l.1 ≤ w.now then some (w.stopWaiting.trap Cause.qTimeout l.2) else none

/-- WAIT tests its word again (11 R233). -/
def waitPoll (w : Work) : Option Work :=
  match w.waiting with
  | some (.wait pr full lim t0, a, _, x) =>
    if x.due ≤ w.now && w.now ≤ x.since + limClk lim.toNat then some (w.attemptWait (shape (.wait pr full lim t0)) full a) else none
  | _ => none

/-- The limit of a WAIT passes (11 R233). -/
def waitTimeout (w : Work) : Option Work :=
  match w.waiting with
  | some (.wait _ _ lim _, a, _, x) => if x.since + limClk lim.toNat ≤ w.now then some (w.timeoutWait a) else none
  | _ => none

/-- The interval of a PAUSE is over (11 R234). -/
def pauseDone (w : Work) : Option Work :=
  match w.waiting with
  | some (.pause pr units t0, _, _, x) =>
    if x.due ≤ w.now then some (w.stopWaiting.deliver (shape (.pause pr units t0)) 0 0) else none
  | _ => none

/-! ### The wide unit (17 R325, R339) -/

/-- The wide unit of a tile applies the oldest instruction of its queue (17 R325). -/
def wideApply (w : Work) (t : Nat) : Option Work :=
  let x := w.tile t
  match x.wq with
  | [] => none
  | o :: q =>
    if x.stopped.isSome || x.wide.run.isSome || w.claimedElsewhere (wideStores o) o.party then none
    else some ((w.setTile t { x with wq := q }).applyWide t o)

/-- One iteration of the streamed run of a tile (17 R339). -/
def wrunIteration (w : Work) (t : Nat) : Option Work :=
  match (w.tile t).wide.run with
  | none => none
  | some r =>
    if !w.spineRuns t || w.claimedElsewhere ((w.runTargets t r).map (· / 8)) r.op.party then none else some (w.iterate t r)

end Work

/-! ### Meanings -/

/-- BLOCK_FETCH (07 R153). -/
def execBlockFetch (tile ctx : Nat) (s : State) : Host.Outcome State Fault Refusal :=
  happen (fun w => (w.at_ tile ctx 0).blockFetch) s

/-- RESULT_DELIVERY (09 R208). -/
def execResultDelivery (tile ctx k : Nat) (s : State) : Host.Outcome State Fault Refusal :=
  happen (fun w => (w.at_ tile ctx 0).resultDelivery k) s

/-- BLOCK_END (09 R180). -/
def execBlockEnd (tile ctx : Nat) (s : State) : Host.Outcome State Fault Refusal :=
  happen (fun w => (w.at_ tile ctx 0).blockEnd) s

/-- WAIT_RETRY (05 R101). -/
def execWaitRetry (tile ctx idx : Nat) (s : State) : Host.Outcome State Fault Refusal :=
  happen (fun w => (w.at_ tile ctx idx).waitRetry.filter (fun u => !u.writesClaimed (some (w.at_ tile ctx idx).party))) s

/-- RESERVATION_EXPIRE (05 R106). -/
def execReservationExpire (word : Nat) (s : State) : Host.Outcome State Fault Refusal :=
  happen (fun w => w.reservationExpire word) s

/-- CLAIM_WAIT_END (11 R213). -/
def execClaimWaitEnd (tile ctx idx : Nat) (s : State) : Host.Outcome State Fault Refusal :=
  happen (fun w => (w.at_ tile ctx idx).claimWaitEnd) s

/-- QUEUE_WAIT_RETRY (11 R228). -/
def execQueueWaitRetry (tile ctx idx : Nat) (s : State) : Host.Outcome State Fault Refusal :=
  happen (fun w => (w.at_ tile ctx idx).queueRetry) s

/-- QTIMEOUT (11 R228). -/
def execQtimeout (tile ctx idx : Nat) (s : State) : Host.Outcome State Fault Refusal :=
  happen (fun w => (w.at_ tile ctx idx).queueTimeout) s

/-- CQ_COMBINE (19 R385). -/
def execCqCombine (die : Nat) (s : State) : Host.Outcome State Fault Refusal := happen (fun w => w.cqCombine die) s

/-- WAIT_POLL (11 R233). -/
def execWaitPoll (tile ctx idx : Nat) (s : State) : Host.Outcome State Fault Refusal :=
  happen (fun w => (w.at_ tile ctx idx).waitPoll) s

/-- WAIT_TIMEOUT (11 R233). -/
def execWaitTimeout (tile ctx idx : Nat) (s : State) : Host.Outcome State Fault Refusal :=
  happen (fun w => (w.at_ tile ctx idx).waitTimeout) s

/-- PAUSE_DONE (11 R234). -/
def execPauseDone (tile ctx idx : Nat) (s : State) : Host.Outcome State Fault Refusal :=
  happen (fun w => (w.at_ tile ctx idx).pauseDone) s

/-- WIDE_APPLY (17 R325). -/
def execWideApply (tile : Nat) (s : State) : Host.Outcome State Fault Refusal := happen (fun w => w.wideApply tile) s

/-- WRUN_ITERATION (17 R339). -/
def execWrunIteration (tile : Nat) (s : State) : Host.Outcome State Fault Refusal := happen (fun w => w.wrunIteration tile) s

end Sys2Proof.Machine
end

