-- ==== Sys2Proof/Machine/Halting.lean ====
section
/-! DEFINITION. Stopping the contexts of a region, freeing it, and ending a task or a gang (01 R33; 05 R106, R107; 21 R400 to R402,
R405); firmware's notices (21 R394, R404, R411). -/

namespace Sys2Proof.Machine

open Sys2Proof

/-- The tiles of a footprint in ascending number (00 R6; 01 R22). -/
def footprint (die ox oy wd ht : Nat) : List Nat :=
  let base := (die / 2 * 5 + oy) * 16 + (die % 2) * 8 + ox
  (List.range ht).flatMap (fun y => (List.range wd).map (fun x => base + y * 16 + x))

/-- The tiles of a region's footprint. -/
def Region.tiles (r : Region) : List Nat := footprint r.die r.ox r.oy r.w r.h

namespace Work

/-- A context comes to a block boundary (21 R405 step 2; 05 R107): its block is abandoned, and its parking record unlinked. A block whose
commit has begun stands with `keep`, and is completed otherwise (01 R28). -/
def leaveBlock (w : Work) (keep : Bool) (t c : Nat) : Work :=
  let f := w.focus
  let p := t * 4 + c
  let w := { w with focus := ⟨t, c, 0⟩ }
  let w := match w.block with
    | none => w
    | some b =>
      match b.late with
      | none => w.abandonBlock
      | some es => if keep then w else w.finishLate b es
  let w := match (w.ctx t c).park with
    | none => w
    | some k => ((w.unpark p).setCtx t c { (w.unpark p).ctx t c with status := .ready, park := none }).unwatch k.word
  { w with focus := f }

/-- A context stops at a block boundary, and its reservations end (05 R106). -/
def stopContext (w : Work) (keep : Bool) (t c : Nat) : Work := (w.leaveBlock keep t c).endResvs (t * 4 + c)

/-- Every context of some tiles stops at a block boundary. -/
def stopTiles (w : Work) (keep : Bool) (ts : List Nat) : Work :=
  ts.foldl (fun w t => [0, 1, 2, 3].foldl (fun w c => w.stopContext keep t c) w) w

/-- A context as a free tile holds it. -/
def idleCtx (c : Ctx) : Ctx :=
  { c with status := .idle, block := none, park := none, handler := false, fence := 0, spawnedBy := none }

/-- The contexts that claims of queue records, pending pushes, the sole parties of queues and pools, and the commands and completion words
of a node belong to, under new numbers. -/
def renumber (w : Work) (n : Option (Nat × Nat)) (f : Nat → Nat) : Work :=
  let rec_ (r : QRecord) : QRecord := { r with claim := r.claim.map f }
  let hq (q : HQueue) : HQueue :=
    { q with entries := q.entries.map rec_, pending := q.pending.map f, pusher := q.pusher.map f, popper := q.popper.map f }
  let cq (q : CQueue) : CQueue := { q with records := q.records.map rec_, pending := q.pending.map f }
  { w with core := { w.core with
      hwq := w.core.hwq.map (fun q => (q.1, hq q.2)), cq := w.core.cq.map (fun q => (q.1, cq q.2)),
      pools := w.core.pools.map (fun p => (p.1, f p.2)),
      engines := w.core.engines.map (fun c => if n.isSome && c.task == n then { c with party := f c.party } else c),
      comps := w.core.comps.map (fun c => if n.isSome && c.task == n then { c with party := f c.party } else c) } }

/-- Contexts of a task that is over are the only parties of queues and pools no longer (11 R231; 17 R356; DEDUCED, log 49). -/
def forget (w : Work) (gone : Nat → Bool) : Work :=
  let hq (q : HQueue) : HQueue := { q with pusher := q.pusher.filter (fun p => !gone p), popper := q.popper.filter (fun p => !gone p) }
  { w with core := { w.core with
      hwq := w.core.hwq.map (fun q => (q.1, hq q.2)), pools := w.core.pools.filter (fun p => !gone p.2) } }

/-- The number by which a context of a pre-empted task is known, by its region, tile slot and number there; none of a placed context. -/
def savedParty (id slot c : Nat) : Nat := 2 ^ 20 + id * 1024 + slot * 4 + c

/-- Tiles that are freed on a node's die are held for the nodes that 64 placements have passed (01 R45). -/
def holdFreed (w : Work) (ts : List Nat) : Work :=
  let f (x : Node) : Node :=
    if 64 ≤ x.passed && (x.stage == .ready || x.stage == .saved) then { x with held := x.held ++ ts.filter (fun t => dieOf t == w.placeDie x) } else x
  { w with core := { w.core with nodes := w.core.nodes.map f } }

/-- The token mesh's number of a requester that is gone: its replies are discarded (21 R400). -/
def goneTile : Nat := 255

/-- A region is freed (01 R29; 21 R400): its tiles hold no task, its elements stand at the staging base, its contexts are idle. -/
def freeRegion (w : Work) (r : Nat) (x : Region) : Work :=
  let ts := x.tiles
  let w := ts.foldl (fun w t =>
    if (w.tile t).region == some r then
      let y := w.tile t
      w.setTile t { y with region := none, ctxs := y.ctxs.map (fun c => (c.1, idleCtx c.2)), wide := { y.wide with run := none }, wq := [] }
    else w) w
  let gone (t : Nat) : Bool := x.live.contains t
  let lost (k : Token) : Token := if gone k.tile then { k with tile := goneTile, node := x.node } else k
  let w := (w.forget (fun p => gone (p / 4))).holdFreed ts
  let es := w.core.elems.filter (fun e => !gone (e.1 / 256))
  let ks := w.core.kills.filter (fun k => !gone k.tile)
  { w with core := { w.core with elems := es, kills := ks, tokens := w.core.tokens.map lost, regions := mapDel r w.core.regions } }

/-- The outcome of a placed task that ends in error: DETAIL holds the armings made (01 R30; 19 R375). -/
def failureOf (x : Region) (cause : Nat) : Outcome := .error cause (x.arms % 2 ^ 48)

/-- A placed task is ended (21 R400): its contexts killed, what it holds released, its region freed, its node in error. -/
def endTask (w : Work) (r cause : Nat) : Work :=
  match mapFind r w.core.regions with
  | none => w
  | some x =>
    let w := (w.stopTiles false x.live).freeRegion r x
    match x.node with
    | none => w
    | some n => w.endNode n (failureOf x cause)

/-- The regions of a gang: a region's own, and those of its replay with its gang number (01 R31). -/
def gangOf (w : Work) (r : Nat) (x : Region) : List Nat :=
  if x.gang == 0 then [r]
  else (w.core.regions.filter (fun y => y.2.gang == x.gang && y.2.node.map (·.1) == x.node.map (·.1))).map (·.1)

/-- Firmware's notice at the Sequencer of a die (21 R394): the cause and the detail stand in its core's registers. -/
def notice (w : Work) (die cause : Nat) (einfo : Word) : Work :=
  w.setCtx (160 + die) 0 { w.ctx (160 + die) 0 with cause := BitVec.ofNat 8 cause, einfo := einfo }

/-- A member of a gang that fails ends with GANG_FAILED, one that has retired too (19 R376; 21 R402). -/
def memberFails (w : Work) (y : Node) : Node :=
  match y.stage with
  | .ends (.error _ d) | .ends (.done d) | .ends (.skipped d) => { y with stage := .ends (.error Cause.gangFailed d) }
  | .ends .passed => { y with stage := .ends (.error Cause.gangFailed 0) }
  | .saved =>
    let d := ((mapFind (y.replay * 2 ^ 72 + y.addr) w.core.saved).map (fun v => v.region.arms % 2 ^ 48)).getD 0
    { y with stage := .ends (.error Cause.gangFailed d) }
  | .ready | .reads _ | .body _ | .running | .held | .unheld | .steps _ _ => { y with stage := .ends (.error Cause.gangFailed 0) }

/-- The members of a gang that have not become ready and have not run, as nodes that end with it (19 R376, R393). -/
def unreadyMembers (w : Work) (n g : Nat) (r : Replay) : List Node :=
  r.nodes.filterMap (fun a =>
    if w.core.nodes.any (fun x => x.replay == n && x.addr == a) then none
    else
      match (w.readWords (replayWho r) 8 a).2 with
      | .error _ => none
      | .ok ws =>
        if bits (nth ws 0) 0 4 == 0 && bits (nth ws 2) 16 16 == g && bits (nth ws 7) 62 2 == 0 then
          some { replay := n, addr := a, words := ws, prio := 3, prio0 := 3, order := w.core.nextOrder,
                 stage := .ends (.error Cause.gangFailed 0) }
        else none)

/-- The members of a gang that have run and finished take GANG_FAILED in their STATUS, DETAIL as it stands (19 R376; 21 R402; DEDUCED,
log 25). -/
def finishedMembers (w : Work) (n g : Nat) (r : Replay) : Work :=
  r.nodes.foldl (fun w a =>
    if w.core.nodes.any (fun x => x.replay == n && x.addr == a) then w
    else
      match (w.readWords (replayWho r) 8 a).2 with
      | .error _ => w
      | .ok ws =>
        if bits (nth ws 0) 0 4 == 0 && bits (nth ws 2) 16 16 == g && bits (nth ws 7) 62 2 != 0 then
          ((statusOf (.error Cause.gangFailed (bits (nth ws 7) 0 48))).map (w.putVa (replayWho r) (a + 56))).getD w
        else w) w

/-- A gang of a replay fails (01 R33; 19 R376, R393; 21 R402): every member that is placed is ended, one that is pre-empted is not restored,
and one that waits or is not ready never runs; one that has finished takes the error too. Firmware has the notice, whose detail is not given (21 R394; DESIGN CHOICE, log 14). -/
def failGang (w : Work) (n g : Nat) : Work :=
  let ids := (w.core.regions.filter (fun y => y.2.gang == g && y.2.node.map (·.1) == some n)).map (·.1)
  let w := ids.foldl (fun w r => w.endTask r Cause.gangFailed) w
  let mine (y : Node) : Bool := y.replay == n && nodeKind y == 0 && nodeGang y == g
  let gone := (w.core.nodes.filter (fun y => mine y && y.stage == .saved)).map (fun y => y.replay * 2 ^ 72 + y.addr)
  let lost := w.core.saved.filter (fun s => gone.contains s.1)
  let nodes := w.core.nodes.map (fun y => if mine y then w.memberFails y else y)
  let more := ((w.replay n).map (w.unreadyMembers n g)).getD []
  let w := ((w.replay n).map (w.finishedMembers n g)).getD w
  let die := ((w.replay n).map (·.die)).getD 0
  let core := { w.core with
    nodes := nodes ++ more, saved := w.core.saved.filter (fun s => !gone.contains s.1), free := w.core.free + 1 }
  let w := lost.foldl (fun w s => w.forget (fun p => p / 1024 == 1024 + s.2.id)) { w with core := core }
  w.notice die Cause.gangFailed (Config.unstated (w.core.free - 1))

/-- A node ends in error, and the gang that it belongs to fails with it (19 R393). -/
def failNode (w : Work) (n : Nat × Nat) (gang : Nat) (o : Outcome) : Work :=
  let w := w.endNode n o
  if gang == 0 then w else w.failGang n.1 gang

/-- Containment of a task, or of every member of its gang (21 R400, R402; 19 R376). -/
def contain (w : Work) (r cause : Nat) : Work :=
  match mapFind r w.core.regions with
  | none => w
  | some x =>
    match x.node with
    | none => w.endTask r cause
    | some n => if x.gang == 0 then w.endTask r cause else w.failGang n.1 x.gang

/-- The tile of a unit of a self-test (21 R409): a stash row, an element, a wide stage, a Spine core or a router. -/
def unitTile (kind unit : Nat) : Option Nat :=
  if kind == 0 || kind == 6 || kind == 7 || kind == 8 then some unit
  else if kind == 5 then some (unit / 256)
  else none

/-- A self-test of a unit holds a tile: its own tile, or for a die-cache row each tile of the die (21 R409). -/
def testHolds (t : Nat) (k : Nat × Nat) : Bool := unitTile k.1 k.2 == some t || (k.1 == 1 && dieOf t == k.2)

/-- A self-test in progress holds a tile. -/
def underTest (w : Work) (t : Nat) : Bool := w.core.tests.any (testHolds t)

end Work

end Sys2Proof.Machine
end

