-- ==== Sys2Proof/Machine/Sequencer.lean ====
section
/-! DEFINITION. The Sequencers (19 R362 to R382, R387, R388): submissions, replays, nodes, and their waits. -/

namespace Sys2Proof.Machine

open Sys2Proof

/-! ### Host queues (19 R362, R363) -/

namespace HostQueue

def enabled (q : HostQueue) : Bool := bit q.ctl.toNat 63
def vah (q : HostQueue) : Nat := bits q.ctl.toNat 48 8
/-- The ring's entries N. -/
def size (q : HostQueue) : Nat := 2 ^ (bits q.ctl.toNat 40 4 + 4)
def die (q : HostQueue) : Nat := bits q.ctl.toNat 36 2
def prio (q : HostQueue) : Nat := bits q.ctl.toNat 34 2
def asid (q : HostQueue) : Nat := bits q.ctl.toNat 0 10
/-- The physical address of the next entry. -/
def next (q : HostQueue) : Nat := bits q.base.toNat 0 52 + 64 * (q.head.toNat % q.size)
/-- Some entry stands in the ring: TAIL − HEAD lies from 1 to N. -/
def waiting (q : HostQueue) : Bool := q.enabled && 1 ≤ (q.tail - q.head).toNat && (q.tail - q.head).toNat ≤ q.size

end HostQueue

/-- Two replays are of one graph (19 R365). -/
def Replay.sameGraph (r s : Replay) : Bool := r.graph == s.graph && r.asid == s.asid

/-- A submission entry that R364 refuses; its patches' own addresses are checked once read. -/
def entryBad (ws : List Word) : Bool :=
  let n := Work.nth ws
  (maskBad [0xFFFF000F, allBits, allBits, allBits, 0, 0, 0, 0] ws 0).isSome || bits (n 0) 0 4 != 1 || 64 < bits (n 0) 16 16
    || n 1 % 64 != 0 || n 2 % 16 != 0 || n 3 % 8 != 0

/-- The pairs of a list of words. -/
def pairsOf : List Word → List (Nat × Word)
  | a :: v :: ws => (a.toNat, v) :: pairsOf ws
  | _ => []

namespace Work

/-- The Sequencers serve queues and place tasks once firmware has enabled them (23 R426). -/
def seqRuns (w : Work) : Bool := w.core.mgmt.stage == 3

/-- The queued replays of a replay's graph. -/
def queued (w : Work) (r : Replay) : Nat := (w.core.replays.filter (fun s => !s.2.live && r.sameGraph s.2)).length

/-- Word 4 of a graph's descriptor takes LIVE, PEND and REPLAYS + `inc` (19 R366). -/
def graphState (w : Work) (r : Replay) (live : Bool) (inc : Nat) : Work :=
  match w.translate (replayWho r) .descStore 8 (r.graph + 32) with
  | (w, .fault _ _) => w
  | (w, .ok pa _) =>
    let n := (bits (w.word pa).toNat 0 48 + inc) % 2 ^ 48
    w.putWord pa (BitVec.ofNat 64 ((if live then 2 ^ 63 else 0) + w.queued r % 16 * 2 ^ 56 + n))

/-- The next entry of a queue can be taken: it is refused, or its graph has fewer than 15 queued replays (19 R363, R365). -/
def takeable (w : Work) (q : HostQueue) : Bool :=
  let ws := w.loadWords q.next 8
  let g : Replay := { graph := q.vah * 2 ^ 64 + nth ws 1, asid := q.asid, vah := q.vah, die := q.die, prio := q.prio, comp := 0, patches := [] }
  q.waiting && (entryBad ws || w.queued g < 15)

/-- The queue that a die's Sequencer serves next (19 R363): the lowest PRIO first, round-robin among equals. -/
def servedQueue (w : Work) (die : Nat) : Option Nat :=
  let qs := w.core.hostq.filter (fun q => q.2.die == die && w.takeable q.2)
  match [0, 1, 2, 3].find? (fun p => qs.any (fun q => q.2.prio == p)) with
  | none => none
  | some p =>
    let ns := (qs.filter (fun q => q.2.prio == p)).map (·.1)
    let last := mapFind (die * 4 + p) w.core.turns
    match last with
    | none => ns.head?
    | some k =>
      match ns.find? (fun n => k < n) with
      | some n => some n
      | none => ns.head?

/-- A submission that starts no replay fills its COMP (19 R364). -/
def refuseEntry (w : Work) (q : HostQueue) (comp cause : Nat) : Work :=
  if comp == 0 || comp % 8 != 0 then w
  else w.complete { who := ⟨q.asid, false, [], [], none⟩, va := q.vah * 2 ^ 64 + comp, value := statusWord cause 0, kind := 4 }

/-- Take an entry that R364 accepts: its patches are read, and the replay is queued (19 R365). -/
def takeEntry (w : Work) (q : HostQueue) (ws : List Word) : Work :=
  let n := nth ws
  let r : Replay := { graph := q.vah * 2 ^ 64 + n 1, asid := q.asid, vah := q.vah, die := q.die, prio := q.prio, comp := n 3, patches := [] }
  match w.readWords (replayWho r) (2 * bits (n 0) 16 16) (r.va (n 2)) with
  | (w, .error e) => w.refuseEntry q (n 3) e.1
  | (w, .ok ps) =>
    if (pairsOf ps).any (fun p => p.1 % 8 != 0) then w.refuseEntry q (n 3) Cause.reservedField
    else
      let r := { r with patches := pairsOf ps }
      let id := w.core.nextReplay
      let w := { w with core := { w.core with replays := mapSet id r w.core.replays, nextReplay := id + 1 } }
      w.graphState r (w.core.replays.any (fun s => s.2.live && r.sameGraph s.2)) 0

/-- SUBMISSION_TAKE (19 R363 to R365). -/
def submissionTake (w : Work) (die : Nat) : Option Work :=
  if !w.seqRuns then none
  else
    match w.servedQueue die with
    | none => none
    | some k =>
      let q := mapGet {} k w.core.hostq
      let ws := w.loadWords q.next 8
      let hq := mapSet k { q with head := q.head + 1 } w.core.hostq
      let w := { w with core := { w.core with hostq := hq, turns := mapSet (die * 4 + q.prio) k w.core.turns } }
      some (if entryBad ws then w.refuseEntry q (nth ws 3) Cause.reservedField else w.takeEntry q ws)

/-! ### A node becomes ready (19 R369), and its kind begins (R373 to R382, R387) -/

/-- The gang of a TASK is as R376 requires: as many TASK nodes of the graph as its size says, all of that size. -/
def gangBad (w : Work) (r : Replay) (ws : List Word) : Bool :=
  let g := bits (nth ws 2) 16 16
  if g == 0 then false
  else
    let members := r.nodes.filterMap (fun a =>
      match (w.readWords (replayWho r) 3 a).2 with
      | .error _ => none
      | .ok vs => if bits (nth vs 0) 0 4 == 0 && bits (nth vs 2) 16 16 == g then some (bits (nth vs 2) 32 4) else none)
    members.length != bits (nth ws 2) 32 4 + 1 || members.any (· != bits (nth ws 2) 32 4)

/-- What follows a completion word that has been written, or never can be (19 R372, R380): an EVENT's vector, and its node's end; the Imposer
that waited goes on to releases (17 R344, R351). -/
def afterComp (w : Work) (c : Comp) : Work :=
  match c.node with
  | none => if c.kind == 2 then w.settleReleases else w
  | some n =>
    if c.kind == 5 || c.kind == 6 then
      let irq := match w.replay n.1 with
        | none => 0
        | some r =>
          (match (w.readWords (replayWho r) 6 n.2).2 with
           | .error _ => 0
           | .ok ws => nth ws 5)
      let w := if bit irq 11 && 1 < bits irq 0 11 then w.raiseVector (bits irq 0 11) else w
      if c.kind == 5 then w.endNode n (.done 0) else w
    else w

/-- Fill a completion word now, or let it stand waiting (17 R344). -/
def post (w : Work) (c : Comp) : Work :=
  match w.fillComp c with
  | none => { w with core := { w.core with comps := w.core.comps ++ [c] } }
  | some (w, true) => w.afterComp c
  | some (w, false) => (w.logError 0x100 c.kind c.va).afterComp c

/-- A replica mismatch halts the placed tasks of a replay at their boundaries (19 R388; 21 R411). -/
def haltGraph (w : Work) (n : Nat) : Work :=
  let rs := w.core.regions.filter (fun x => x.2.node.map (·.1) == some n)
  rs.foldl (fun w x =>
    let w := w.stopTiles false x.2.live
    match mapFind x.1 w.core.regions with
    | none => w
    | some y => w.setRegion x.1 { y with progress := .mismatch }) w

/-- The two digests of a STEPSYNC node meet (19 R387, R388). -/
def meetDigests (w : Work) (r : Replay) (x : Node) (d e : Nat) : Work :=
  if d == e then w.endNode (x.replay, x.addr) (.done (d % 2 ^ 48))
  else
    let link := bits (nth x.words 5) 0 4
    let step := bits (nth x.words 6) 0 32
    let w := (w.haltGraph x.replay).endNode (x.replay, x.addr) (.error Cause.replicaMismatch 0)
    let w := w.notice r.die Cause.replicaMismatch (BitVec.ofNat 64 (link * 2 ^ 32 + step))
    if r.report == 0 then w
    else
      let q := replayWho r
      let at_ := r.va r.report
      let w := ((w.putVa q (at_ + 8) (BitVec.ofNat 64 d)).putVa q (at_ + 16) (BitVec.ofNat 64 e)).putVa q (at_ + 24) (BitVec.ofNat 64 link)
      w.post { who := q, va := at_, value := BitVec.ofNat 64 (r.graphid * 2 ^ 32 + step), kind := 7 }

/-- A STEPSYNC begins (19 R387): its digest is sent, and it takes a message that is held, or waits; on a link that is
down it waits until its limit (23 R424). -/
def beginSteps (w : Work) (r : Replay) (x : Node) : Work :=
  let n := nth x.words
  let link := bits (n 5) 0 4
  let step := bits (n 6) 0 32
  match w.digestWords (replayWho r) (n 4 / 8) (r.va (n 3)) 0 with
  | (w, .error (.failed cause)) => w.endNode (x.replay, x.addr) (.error cause 0)
  | (w, .error _) => w.endNode (x.replay, x.addr) (.error Cause.pageFault 0)
  | (w, .ok d) =>
    let up := !(mapGet ({} : Link) link w.core.links).down
    let w := if up then w.emit (.step ⟨link, r.graphid, step, d⟩) else w
    match w.core.stepMsgs.find? (fun m => up && m.link == link && m.graphid == r.graphid && m.step == step) with
    | none => w.onNode x.replay x.addr (fun y => { y with stage := .steps w.now d })
    | some m => ({ w with core := { w.core with stepMsgs := w.core.stepMsgs.erase m } }).meetDigests r x d m.digest

/-- An IMPOSE node issues its command (19 R381; 17 R343, R350). -/
def beginImpose (w : Work) (r : Replay) (x : Node) : Work :=
  let ends (w : Work) (cause : Nat) : Work := w.endNode (x.replay, x.addr) (.error cause 0)
  match w.readWords (replayWho r) 8 (r.va (nth x.words 3)) with
  | (w, .error e) => ends w e.1
  | (w, .ok ws) =>
    if (maskBad [allBits, 2 ^ 44 - 1, allBits, allBits, 0xFFFF, allBits, 0, 0] ws 0).isSome then ends w Cause.protection
    else if nth ws 0 % 4 != 0 || nth ws 2 % 4 != 0 || nth ws 3 % 8 != 0 || nth ws 5 % 8 != 0 then ends w Cause.align
    else
      let c : EngCmd := { instr := .impose 0, who := replayWho r, party := 1000 + x.order, die := r.die, seg := r.vah, words := ws,
                          node := some (x.replay, x.addr) }
      let w := { w with core := { w.core with engines := w.core.engines ++ [c] } }
      w.onNode x.replay x.addr (fun y => { y with stage := .running })

/-- An EVENT node fills its COMP, or waits to (19 R380). -/
def beginEvent (w : Work) (r : Replay) (x : Node) : Work :=
  let w := w.onNode x.replay x.addr (fun y => { y with stage := .running })
  w.post { who := replayWho r, va := r.va (nth x.words 3), value := BitVec.ofNat 64 (nth x.words 4 * 2 ^ 8), kind := 5,
           node := some (x.replay, x.addr) }

/-- A node that has become ready, and whose record its checks accept, begins (19 R373 to R382). -/
def beginNode (w : Work) (r : Replay) (x : Node) : Work :=
  let put (w : Work) (y : Node) : Work := w.onNode x.replay x.addr (fun _ => y)
  if holds x then w.admitHeld r.die
  else
    match nodeKind x with
    | 0 => let b := w.beginTask r x; put b.1 b.2
    | 1 => let b := w.beginCopy r x; put b.1 b.2
    | 2 => put w { x with stage := .reads w.now }
    | 3 => put w { x with stage := .reads w.now }
    | 4 => w.beginEvent r x
    | 5 => w.beginImpose r x
    | 6 => put w { x with stage := .ends (.done 0) }
    | _ => w.beginSteps r x

/-- A node becomes ready (19 R369, R370): `started` under R367 or R379. After a failure no node does (R372). -/
def makeReady (w : Work) (n a : Nat) (started : Bool) : Work :=
  match w.replay n with
  | none => w
  | some r =>
    if r.failed.isSome then w
    else
      let read := w.readWords (replayWho r) 8 a
      let ws := match read.2 with
        | .error _ => []
        | .ok ws => ws
      let prio := max (bits (nth ws 0) 8 2) r.prio
      let w := read.1
      let x : Node := { replay := n, addr := a, words := ws, prio := prio, prio0 := prio, order := w.core.nextOrder, stage := .unheld }
      let add (y : Node) : Work := { w with core := { w.core with nodes := w.core.nodes ++ [y], nextOrder := w.core.nextOrder + 1 } }
      match read.2 with
      | .error e => add { x with stage := .ends (.error e.1 0) }
      | .ok _ =>
        if !started && !bit (nth ws 0) 11 then add { x with stage := .ends .passed }
        else
          match nodeBad ws with
          | some cause => add { x with stage := .ends (.error cause 0) }
          | none =>
            if w.gangBad r ws then add { x with stage := .ends (.error Cause.reservedField 0) }
            else (add x).beginNode r x

/-! ### Replays (19 R367) -/

/-- PCOUNT := PINIT, ARRIVED := 0, STATUS := 0 of a node (19 R367, R379). -/
def resetNode (w : Work) (q : Who) (a : Nat) : Work :=
  match w.readWords q 1 a with
  | (w, .error _) => w
  | (w, .ok ws) =>
    let v := nth ws 0
    let v := v - bits v 32 16 * 2 ^ 32 - (if bit v 11 then 2 ^ 11 else 0) + bits v 16 16 * 2 ^ 32
    (w.putVa q a (BitVec.ofNat 64 v)).putVa q (a + 56) 0

/-- The roots among nodes: PINIT = 0, and for a replay's start BODY = 0. -/
def rootsOf (w : Work) (q : Who) (body : Bool) (ns : List Nat) : List Nat :=
  ns.filter (fun a =>
    match (w.readWords q 1 a).2 with
    | .error _ => !body
    | .ok ws => bits (nth ws 0) 16 16 == 0 && (body || !bit (nth ws 0) 10))

/-- Store the patches of a snapshot in order: the cause of the first that cannot be stored. -/
def putPatches (w : Work) (q : Who) : List (Nat × Word) → Work × Option Nat
  | [] => (w, none)
  | p :: ps =>
    match w.translate q .descStore 8 p.1 with
    | (w, .fault c _) => (w, some c)
    | (w, .ok pa _) => putPatches (w.putWord pa p.2) q ps

/-- A patch's word is claimed: the start waits (11 R213). -/
def patchClaimed (w : Work) (q : Who) (ps : List (Nat × Word)) : Bool :=
  ps.any (fun p =>
    match (w.translate q .descStore 8 p.1).2 with
    | .fault _ _ => false
    | .ok pa _ => w.anyClaimed [pa / 8])

/-- A replay is live, and fails before any of its nodes is ready. -/
def failStart (w : Work) (n : Nat) (r : Replay) (cause : Nat) : Work :=
  let r := { r with live := true, failed := some cause }
  (w.setReplay n r).graphState r true 0

/-- The replay that a die starts next: the first taken whose graph has no live replay and none that another die has taken earlier
(19 R365). -/
def nextReplay (w : Work) (die : Nat) : Option (Nat × Replay) :=
  w.core.replays.find? (fun r =>
    r.2.die == die && !r.2.live && !w.core.replays.any (fun s => (s.2.live || s.1 < r.1) && r.2.sameGraph s.2))

/-- REPLAY_START (19 R367). -/
def replayStart (w : Work) (die : Nat) : Option Work :=
  match w.nextReplay die with
  | none => none
  | some (n, r) =>
    let q := replayWho r
    let patches := r.patches.map (fun p => (r.va p.1, p.2))
    if !w.seqRuns || w.patchClaimed q patches then none
    else
      some (match w.readWords q 8 r.graph with
      | (w, .error e) => w.failStart n r e.1
      | (w, .ok d) =>
        let r := { r with graphid := bits (nth d 0) 0 32, report := nth d 3 }
        if (maskBad [2 ^ 32 - 1, allBits, 2 ^ 16 - 1, allBits, allBits, 0, 0, 0] d 0).isSome then w.failStart n r Cause.reservedField
        else if nth d 1 % 8 != 0 || nth d 3 % 64 != 0 then w.failStart n r Cause.align
        else
          match w.readWords q (bits (nth d 2) 0 16 + 1) (r.va (nth d 1)) with
          | (w, .error e) => w.failStart n r e.1
          | (w, .ok as) =>
            let ns := as.map (fun a => r.va a.toNat)
            if ns.any (fun a => a % 64 != 0) then w.failStart n r Cause.align
            else
              let w := ns.foldl (fun w a => w.resetNode q a) w
              match w.putPatches q patches with
              | (w, some cause) => w.failStart n { r with nodes := ns } cause
              | (w, none) =>
                let r := { r with live := true, nodes := ns }
                let w := (w.setReplay n r).graphState r true 0
                (w.rootsOf q false ns).foldl (fun w a => w.makeReady n a true) w)

/-- Nodes of a replay that are ready, wait or run. -/
def nodesLeft (w : Work) (n : Nat) : Bool := w.core.nodes.any (fun x => x.replay == n)

/-- Completion words of a kind of a replay that still wait. -/
def compsLeft (w : Work) (n kind : Nat) : Bool := w.core.comps.any (fun c => c.kind == kind && c.node.map (·.1) == some n)

/-- OUTCOME of the node at an address (19 R368). -/
def outcomeOf (w : Work) (r : Replay) (a : Nat) : Nat :=
  match (w.readWords (replayWho r) 8 a).2 with
  | .error _ => 0
  | .ok ws => bits (nth ws 7) 62 2

/-- The EVENT nodes of a failed replay with OUTCOME 0 fill their COMP (19 R372). -/
def failEvents (w : Work) (n : Nat) (r : Replay) (cause : Nat) : Work :=
  r.nodes.foldl (fun w a =>
    match (w.readWords (replayWho r) 8 a).2 with
    | .error _ => w
    | .ok ws =>
      if bits (nth ws 0) 0 4 == 4 && bits (nth ws 7) 62 2 == 0 then
        w.post { who := replayWho r, va := r.va (nth ws 3), value := statusWord cause 0, kind := 6, node := some (n, a) }
      else w) w

/-- The end of a replay from the point it has come to (19 R367, R372): events, COMP, then REPLAYS. None when it waits. -/
def endFrom (w : Work) (n : Nat) (r : Replay) : Nat → Option Work
  | 0 => none
  | fuel + 1 =>
    if r.ending == 0 then
      let w := match r.failed with
        | none => w
        | some cause => w.failEvents n r cause
      let r := { r with ending := 1 }
      let w := w.setReplay n r
      match endFrom w n r fuel with
      | some u => some u
      | none => some w
    else if r.ending == 1 then
      if w.compsLeft n 6 then none
      else
        let done := (r.nodes.filter (fun a => [1, 2].contains (w.outcomeOf r a))).length
        let w := if r.comp == 0 then w
          else w.post { who := replayWho r, va := r.va r.comp, value := statusWord (r.failed.getD 0) done, kind := 3, node := some (n, 0) }
        let r := { r with ending := 2, done := done }
        let w := w.setReplay n r
        match endFrom w n r fuel with
        | some u => some u
        | none => some w
    else if w.compsLeft n 3 then none
    else
      let w := { w with core := { w.core with replays := mapDel n w.core.replays } }
      some (w.graphState r false 1)

/-- REPLAY_END (19 R367): nothing of it is ready or running. The next queued replay can then start. -/
def replayEnd (w : Work) (n : Nat) : Option Work :=
  match w.replay n with
  | none => none
  | some r => if !r.live || w.nodesLeft n then none else w.endFrom n r 3

/-! ### A node finishes (19 R370 to R372) -/

/-- One successor is decremented by one atomic event on its word 0; a count of 0 makes it ready (19 R370). -/
def decrement (w : Work) (n : Nat) (r : Replay) (arrived : Bool) (a : Nat) : Work :=
  match w.readWords (replayWho r) 1 a with
  | (w, .error _) => w
  | (w, .ok ws) =>
    let v := nth ws 0
    if bits v 32 16 == 0 then w
    else
      let u := v - 2 ^ 32 + (if arrived && !bit v 11 then 2 ^ 11 else 0)
      let w := w.putVa (replayWho r) a (BitVec.ofNat 64 u)
      if bits v 32 16 == 1 then w.makeReady n a false else w

/-- The node addresses of a list of `k` at an address. -/
def listOf (w : Work) (r : Replay) (va k : Nat) : List Nat :=
  match (w.readWords (replayWho r) k (r.va va)).2 with
  | .error _ => []
  | .ok ws => ws.map (fun a => r.va a.toNat)

/-- The successors of a node in list order, with whether ARRIVED is set (19 R370, R371, R378): those of SUCC, and a COND's FALSE
list. -/
def successors (w : Work) (r : Replay) (x : Node) (o : Outcome) : List (Nat × Bool) :=
  let n := nth x.words
  let succ := w.listOf r (n 1) (bits (n 2) 0 16)
  let false_ := if nodeKind x == 2 then w.listOf r (n 4) (bits (n 5) 0 16) else []
  match o with
  | .passed => (succ ++ false_).map (fun a => (a, false))
  | .error _ _ => []
  | .done d | .skipped d =>
    if nodeKind x == 2 && d == 0 then false_.map (fun a => (a, true)) ++ succ.map (fun a => (a, false))
    else succ.map (fun a => (a, true)) ++ false_.map (fun a => (a, false))

/-- What a failed replay lets go (19 R372): waits of the Sequencer, and nodes that are ready and do not run. -/
def droppedAtFailure (x : Node) : Bool :=
  match x.stage with
  | .ready | .reads _ | .body _ | .held | .unheld | .steps _ _ => true
  | .running | .saved | .ends _ => false

/-- The graph fails with its first error's cause (19 R372). -/
def failGraph (w : Work) (n : Nat) (cause : Nat) : Work :=
  match w.replay n with
  | none => w
  | some r =>
    if r.failed.isSome then w
    else
      let w := w.setReplay n { r with failed := some cause }
      { w with core := { w.core with nodes := w.core.nodes.filter (fun x => !(x.replay == n && droppedAtFailure x)) } }

/-- The error of a member of a gang is GANG_FAILED, and its gang fails with it (19 R376, R393); one whose record or gang R369 or R376
refuses is no member. -/
def gangError (w : Work) (r : Replay) (x : Node) (o : Outcome) : Work × Outcome :=
  match o with
  | .error c d =>
    if c == Cause.gangFailed || nodeKind x != 0 || nodeGang x == 0 || nodeReserved x.words || w.gangBad r x.words then (w, o)
    else (w.failGang x.replay (nodeGang x), .error Cause.gangFailed d)
  | .passed | .done _ | .skipped _ => (w, o)

/-- A node that ran has stores of engine commands or of the token mesh, or completion words, still to perform (01 R19; 05 R124 rule 8). -/
def storesLeft (w : Work) (n a : Nat) (o : Outcome) : Bool :=
  match o with
  | .done _ | .skipped _ =>
    w.core.engines.any (fun c => c.task == some (n, a) || c.node == some (n, a)) || w.core.comps.any (fun c => c.task == some (n, a))
      || w.core.tokens.any (fun k => k.node == some (n, a) && k.reply.isNone && 4 ≤ k.op)
  | .passed | .error _ _ => false

/-- NODE_FINISH (19 R370): STATUS is written, and the successors hear of it, or the graph fails. -/
def nodeFinish (w : Work) (n a : Nat) : Option Work :=
  match w.node n a, w.replay n with
  | some x, some r =>
    match x.stage with
    | .ends o =>
      if w.storesLeft n a o then none
      else
      let e := w.gangError r x o
      let w := e.1
      let o := e.2
      let w := { w with core := { w.core with nodes := w.core.nodes.filter (fun y => !(y.replay == n && y.addr == a)) } }
      let w := match statusOf o with
        | none => w
        | some v => w.putVa (replayWho r) (a + 56) v
      some (match o with
        | .error c _ => (w.failGraph n c).admitHeld r.die
        | _ => if r.failed.isSome then w else (w.successors r x o).foldl (fun w s => w.decrement n r s.2 s.1) w)
    | _ => none
  | _, _ => none

/-! ### Waits of the Sequencer (19 R375, R378, R379, R387) -/

/-- What the Sequencer finds at a count or predicate word (19 R375): not ready yet, an error, or the word's value and place. -/
inductive Found where
  | wait
  | bad (cause : Nat)
  | value (v : Nat) (pa : Nat)
  deriving DecidableEq, Repr

/-- Look at a count or predicate word with a waiting or a consuming load (19 R375). -/
def look (w : Work) (r : Replay) (va : Nat) (consume : Bool) : Work × Found :=
  match w.translate (replayWho r) (if consume then .consume else .waitLoad) 8 (r.va va) with
  | (w, .fault c _) => (w, .bad c)
  | (w, .ok pa u) =>
    if (w.poisonOf pa).isSome then (w, .bad Cause.uncorrectable)
    else if !w.bitAt pa u then (w, .wait)
    else if consume && (w.anyClaimed [pa / 8] || w.core.resv.any (fun v => v.word == pa / 8)) then (w, .wait)
    else (w, .value (w.dataAt pa 8 u) pa)

/-- The load performs: a consuming one leaves the word EMPTY. -/
def took (w : Work) (consume : Bool) (pa : Nat) : Work := if consume then w.setBit (pa / 8) false else w

/-- A node of a replay that reads a word, and what it finds: the word is COUNTA of a TASK, PRED of COND and LOOP. -/
def reading (w : Work) (n a : Nat) (kind : Nat) : Option (Replay × Node × Nat × Work × Found) :=
  match w.node n a, w.replay n with
  | some x, some r =>
    match x.stage with
    | .reads since =>
      if nodeKind x != kind then none
      else
        let f := w.look r (if kind == 0 then nth x.words 4 else nth x.words 3) (bit (nth x.words 0) 5)
        some (r, x, since, f.1, f.2)
    | _ => none
  | _, _ => none

/-- INDIRECT_COUNT_READ (19 R375): the count word is FULL, and the node is ready for placement from now on. -/
def indirectRead (w : Work) (n a : Nat) : Option Work :=
  match w.reading n a 0 with
  | some (_, x, _, w, .value v pa) =>
    if 65535 < v then none
    else
      let w := w.took (bit (nth x.words 0) 5) pa
      let w := w.onNode n a (fun y => { y with stage := .ready, tcount := v, order := w.core.nextOrder })
      some { w with core := { w.core with nextOrder := w.core.nextOrder + 1 } }
  | some (_, _, _, w, .bad c) => some (w.endNode (n, a) (.error c 0))
  | _ => none

/-- LAUNCH_COUNT (19 R375): the limit has passed, or the count is above 65,535. -/
def launchCount (w : Work) (n a : Nat) : Option Work :=
  match w.reading n a 0 with
  | some (_, x, _, w, .value v pa) =>
    if 65535 < v then some ((w.took (bit (nth x.words 0) 5) pa).endNode (n, a) (.error Cause.launchCount 0)) else none
  | some (_, x, since, w, .wait) =>
    if since + limClk (bits (nth x.words 5) 32 5) ≤ w.now then some (w.endNode (n, a) (.error Cause.launchCount 0)) else none
  | _ => none

/-- COND_PREDICATE_READ (19 R378). -/
def condRead (w : Work) (n a : Nat) : Option Work :=
  match w.reading n a 2 with
  | some (_, x, _, w, .value v pa) => some ((w.took (bit (nth x.words 0) 5) pa).endNode (n, a) (.done (if v == 0 then 0 else 1)))
  | some (_, _, _, w, .bad c) => some (w.endNode (n, a) (.error c 0))
  | _ => none

/-- The body of a LOOP starts (19 R379). -/
def startBody (w : Work) (r : Replay) (n : Nat) (body : List Nat) : Work :=
  let q := replayWho r
  let w := body.foldl (fun w b => w.resetNode q b) w
  (w.rootsOf q true body).foldl (fun w b => w.makeReady n b true) w

/-- LOOP_ITERATION (19 R379): the predicate starts another body or completes the LOOP; or a body has ended, and the predicate is read
again. -/
def loopIteration (w : Work) (n a : Nat) : Option Work :=
  match w.node n a, w.replay n with
  | some x, some r =>
    let body := w.listOf r (nth x.words 4) (bits (nth x.words 5) 0 16)
    match x.stage with
    | .body it =>
      if nodeKind x != 3 || w.core.nodes.any (fun y => y.replay == n && body.contains y.addr) then none
      else some (w.onNode n a (fun y => { y with iter := it + 1, stage := .reads w.now }))
    | .reads _ =>
      match w.reading n a 3 with
      | some (_, _, _, w, .value v pa) =>
        let w := w.took (bit (nth x.words 0) 5) pa
        if v == 0 || x.iter == bits (nth x.words 6) 0 32 then
          some (w.endNode (n, a) (.done (x.iter + (if v == 0 then 0 else 2 ^ 32))))
        else some ((w.onNode n a (fun y => { y with stage := .body x.iter })).startBody r n body)
      | some (_, _, _, w, .bad c) => some (w.endNode (n, a) (.error c 0))
      | _ => none
    | _ => none
  | _, _ => none

/-- NODE_WAIT_TIMEOUT (19 R378, R379, R387): a COND's, LOOP's or STEPSYNC's limit has passed. A STEPSYNC's halts the graph (R388). -/
def nodeTimeout (w : Work) (n a : Nat) : Option Work :=
  match w.node n a with
  | none => none
  | some x =>
    let n5 := nth x.words 5
    match x.stage with
    | .reads since =>
      if (nodeKind x == 2 || nodeKind x == 3) && since + limClk (bits n5 16 5) ≤ w.now then
        (match w.reading n a (nodeKind x) with
         | some (_, _, _, w, .wait) => some (w.endNode (n, a) (.error Cause.waitTimeout 0))
         | _ => none)
      else none
    | .steps since _ =>
      if since + limClk (bits n5 4 5) ≤ w.now then some ((w.haltGraph n).endNode (n, a) (.error Cause.waitTimeout 0)) else none
    | _ => none

/-- STEPSYNC_MESSAGE (19 R387): a peer's message, on one of the 12 package links (00 R6), is taken by the STEPSYNC of its step, or held. -/
def stepMessage (w : Work) (m : StepMsg) : Option Work :=
  let mine (x : Node) : Bool :=
    (match x.stage with
     | .steps _ _ => true
     | _ => false)
      && bits (nth x.words 5) 0 4 == m.link && bits (nth x.words 6) 0 32 == m.step
      && (w.replay x.replay).any (fun r => r.graphid == m.graphid)
  if 11 < m.link || (mapGet ({} : Link) m.link w.core.links).down then none
  else
    match w.core.nodes.find? mine with
    | none => some { w with core := { w.core with stepMsgs := w.core.stepMsgs ++ [m] } }
    | some x =>
      match w.replay x.replay, x.stage with
      | some r, .steps _ d => some (w.meetDigests r x d m.digest)
      | _, _ => some w

/-- COMPLETION_WRITE (17 R344): a waiting completion word is written once its word is EMPTY; with `ok` false firmware declares its page's
fault unresolvable. -/
def completionWrite (w : Work) (k : Nat) (ok : Bool) : Option Work :=
  match w.core.comps[k]? with
  | none => none
  | some c =>
    if w.compBlocked k c then none
    else
      let done (w : Work) : Work := ({ w with core := { w.core with comps := listErase k w.core.comps } }).afterComp c
      match w.fillComp c with
      | some (u, true) => some (done u)
      | some (u, false) => some (done (u.logError 0x100 c.kind c.va))
      | none =>
        match (w.translate c.who .fill 8 c.va).2 with
        | .fault _ _ => if ok then none else some (done (w.logError 0x100 c.kind c.va))
        | .ok _ _ => none

end Work

/-! ### Meanings -/

/-- SUBMISSION_TAKE (19 R364). -/
def execSubmissionTake (die : Nat) (s : State) : Host.Outcome State Fault Refusal := happen (fun w => Work.unlessClaimed (w.submissionTake die)) s

/-- REPLAY_START (19 R367). -/
def execReplayStart (die : Nat) (s : State) : Host.Outcome State Fault Refusal := happen (fun w => Work.unlessClaimed (w.replayStart die)) s

/-- REPLAY_END (19 R367). -/
def execReplayEnd (replay : Nat) (s : State) : Host.Outcome State Fault Refusal := happen (fun w => Work.unlessClaimed (w.replayEnd replay)) s

/-- NODE_FINISH (19 R370). -/
def execNodeFinish (replay node : Nat) (s : State) : Host.Outcome State Fault Refusal :=
  happen (fun w => Work.unlessClaimed (w.nodeFinish replay node)) s

/-- INDIRECT_COUNT_READ (19 R375). -/
def execIndirectCountRead (replay node : Nat) (s : State) : Host.Outcome State Fault Refusal :=
  happen (fun w => Work.unlessClaimed (w.indirectRead replay node)) s

/-- LAUNCH_COUNT (19 R375). -/
def execLaunchCount (replay node : Nat) (s : State) : Host.Outcome State Fault Refusal := happen (fun w => Work.unlessClaimed (w.launchCount replay node)) s

/-- COND_PREDICATE_READ (19 R378). -/
def execCondPredicateRead (replay node : Nat) (s : State) : Host.Outcome State Fault Refusal := happen (fun w => Work.unlessClaimed (w.condRead replay node)) s

/-- LOOP_ITERATION (19 R379). -/
def execLoopIteration (replay node : Nat) (s : State) : Host.Outcome State Fault Refusal := happen (fun w => Work.unlessClaimed (w.loopIteration replay node)) s

/-- NODE_WAIT_TIMEOUT (19 R378). -/
def execNodeWaitTimeout (replay node : Nat) (s : State) : Host.Outcome State Fault Refusal :=
  happen (fun w => Work.unlessClaimed (w.nodeTimeout replay node)) s

/-- STEPSYNC_MESSAGE (19 R387). -/
def execStepsyncMessage (link graphid step digest : Nat) (s : State) : Host.Outcome State Fault Refusal :=
  happen (fun w => Work.unlessClaimed (w.stepMessage ⟨link, graphid, step, digest⟩)) s

/-- COMPLETION_WRITE (17 R344). -/
def execCompletionWrite (k : Nat) (ok : Bool) (s : State) : Host.Outcome State Fault Refusal := happen (fun w => Work.unlessClaimed (w.completionWrite k ok)) s

end Sys2Proof.Machine
end

