-- ==== Sys2Proof/Machine/Place.lean ====
section
/-! DEFINITION. Placement, restore, the catchword decision and retirement of tasks (01 R22 to R31, R44 to R47, R50; 19 R376, R383, R389 to
R392; 21 R405). -/

namespace Sys2Proof.Machine

open Sys2Proof

/-! ### Footprints (01 R22, R44) -/

/-- Where a task is to stand: its node, die and origin. -/
structure Spot where
  node : Node
  die : Nat
  ox : Nat
  oy : Nat
  deriving DecidableEq, Repr

/-- A TASK node with a priority's place in the queue: a node alone, or the members of a gang (01 R31; 19 R376). -/
structure Unit45 where
  nodes : List Node
  prio : Nat
  order : Nat
  passed : Nat
  deriving DecidableEq, Repr

namespace Work

/-- Footprint width and height of a node. -/
def taskW (x : Node) : Nat := bits (shapeWord x) 0 3 + 1
def taskH (x : Node) : Nat := bits (shapeWord x) 3 3 + 1
/-- The cluster of a tile (00 R9): die × 5 + row. -/
def clusterOf (t : Nat) : Nat := dieOf t * 5 + t / 16 % 5

/-- The Sequencer may place on a tile's cluster (23 R429). -/
def clusterOpen (w : Work) (t : Nat) : Bool :=
  let c := mapGet ({} : Cluster) (clusterOf t) w.clusters
  !c.req && !c.gate && !c.gated

/-- A tile can take a position, live or pass-through (01 R22); none while a self-test holds it (21 R409). -/
def canTake (w : Work) (taken : List Nat) (pass : Bool) (t : Nat) : Bool :=
  (w.tile t).region.isNone && !taken.contains t && w.clusterOpen t && !w.underTest t &&
    (match (w.tile t).fence with
     | .none => true
     | .routerSound => pass
     | .routerFaulty => false)

/-- A footprint matches a node's shape and pass-through pattern (01 R44). -/
def fits (w : Work) (taken : List Nat) (x : Node) (die ox oy : Nat) : Bool :=
  let ts := footprint die ox oy (taskW x) (taskH x)
  ox + taskW x ≤ 8 && oy + taskH x ≤ 5
    && ((List.range ts.length).zip ts).all (fun p => w.canTake taken (bit x.ptmask p.1) p.2)

/-- The lead tile that a footprint would have. -/
def leadOf (x : Node) (die ox oy : Nat) : Nat :=
  let ts := footprint die ox oy (taskW x) (taskH x)
  (((List.range ts.length).zip ts).find? (fun p => !bit x.ptmask p.1)).elim 0 (·.2)

/-- The footprint that a node takes (01 R44): at its origin, or the matching one whose lead tile has the lowest number; a task that
is restored on its own die (R50), and in its own place after a self-test (21 R409). -/
def spotFor (w : Work) (taken : List Nat) (home : Nat) (x : Node) : Option Spot :=
  let die := if fixed x then bits (shapeWord x) 11 2 else home
  let own : Option Saved := match x.stage with
    | .saved => (mapFind (x.replay * 2 ^ 72 + x.addr) w.core.saved).filter (fun v => v.region.inPlace)
    | _ => none
  match own with
  | some v => if w.fits taken x v.region.die v.region.ox v.region.oy then some ⟨x, v.region.die, v.region.ox, v.region.oy⟩ else none
  | none =>
  if fixed x then
    (if w.fits taken x die (bits (shapeWord x) 13 3) (bits (shapeWord x) 16 3) then
       some ⟨x, die, bits (shapeWord x) 13 3, bits (shapeWord x) 16 3⟩ else none)
  else
    let all_ := (List.range 5).flatMap (fun oy => (List.range 8).map (fun ox => (ox, oy)))
    let ok := all_.filter (fun o => w.fits taken x die o.1 o.2)
    match ok with
    | [] => none
    | o :: os =>
      let best := os.foldl (fun b o => if leadOf x die o.1 o.2 < leadOf x die b.1 b.2 then o else b) o
      some ⟨x, die, best.1, best.2⟩

/-- Two nodes are the same node. -/
def sameNode (x y : Node) : Bool := x.replay == y.replay && x.addr == y.addr

/-- The tiles that are held for nodes other than those of a unit (01 R45). What a node behind it in the order holds does not keep from its
place a unit that 64 placements have passed too (DEDUCED, log 53). -/
def heldFrom (w : Work) (u : Unit45) : List Nat :=
  let behind (x : Node) : Bool := u.prio < x.prio || (u.prio == x.prio && u.order < x.order)
  w.core.nodes.flatMap (fun x =>
    if (x.stage == .ready || x.stage == .saved) && !u.nodes.any (sameNode x) && !(64 ≤ u.passed && behind x) then x.held else [])

/-- Places for all members of a unit: the fixed ones first, then the others, in the order in which they became ready, each at the first
place left for it (DESIGN CHOICE, log 25). -/
def spotsFor (w : Work) (home : Nat) (u : Unit45) : Option (List Spot) :=
  let xs := u.nodes.filter fixed ++ u.nodes.filter (fun x => !fixed x)
  let r := xs.foldl (fun (r : Option (List Spot × List Nat)) x =>
    match r with
    | none => none
    | some (ss, taken) =>
      match w.spotFor taken home x with
      | none => none
      | some s => some (ss ++ [s], taken ++ footprint s.die s.ox s.oy (taskW x) (taskH x))) (some ([], w.heldFrom u))
  r.map (·.1)

/-! ### Choice (01 R45 to R47; 19 R376, R383) -/

/-- A TASK node stands ready for placement. -/
def readyTask (w : Work) (die : Nat) (x : Node) : Bool :=
  nodeKind x == 0 && (x.stage == .ready || x.stage == .saved) && w.nodeDie x == die

/-- A node's members: itself, or its whole gang once every member is ready in the same way; none while one is not. A gang of one member,
which is no gang of R31, is placed as a node alone is (DESIGN CHOICE, log 25). -/
def unitOf (w : Work) (die : Nat) (x : Node) : Option Unit45 :=
  if nodeGang x == 0 then some ⟨[x], x.prio, x.order, x.passed⟩
  else
    let ms := w.core.nodes.filter (fun y => y.replay == x.replay && nodeGang y == nodeGang x && w.readyTask die y && y.stage == x.stage)
    if ms.length == bits (nth x.words 2) 32 4 + 1 && ms.head? == some x then
      some ⟨ms, ms.foldl (fun p y => max p y.prio) 0, ms.foldl (fun o y => max o y.order) 0, ms.foldl (fun o y => max o y.passed) 0⟩
    else none

/-- Priority, then readiness order. -/
def Unit45.before (u v : Unit45) : Bool := u.prio < v.prio || (u.prio == v.prio && u.order < v.order)

/-- Insert a unit in order. -/
def insertUnit (u : Unit45) : List Unit45 → List Unit45
  | [] => [u]
  | v :: vs => if Unit45.before u v then u :: v :: vs else v :: insertUnit u vs

/-- The units ready on a die, in the order of R45. -/
def units (w : Work) (die : Nat) : List Unit45 :=
  ((w.core.nodes.filter (w.readyTask die)).filterMap (w.unitOf die)).foldl (fun us u => insertUnit u us) []

/-- EQV of a node's task record. -/
def eqv (x : Node) : Nat := bits (nth x.trec 8) 32 4

/-- The score of a node at the region scheduler (19 R383). The placements that have passed it are those of its own priority (DESIGN CHOICE,
log 57). -/
def score (w : Work) (x : Node) : Nat :=
  let tokens := (List.range 4).map (fun i =>
    if bit (eqv x) i then
      let q := w.hq (bits (nth x.trec 8) (8 * i) 8)
      if q.enabled && q.owner == w.nodeAsid x then q.hcnt + q.rcnt else 0
    else 0)
  tokens.foldl (· + ·) 0 + 8 * x.passed

/-- A unit of one task that draws on entry queues. -/
def drawsOn (u : Unit45) : Bool :=
  match u.nodes with
  | [x] => eqv x != 0
  | _ => false

/-- A pre-empted task of a node may be restored at a footprint as far as its own place goes (21 R409). -/
def mayReturn (w : Work) (x : Node) (die ox oy : Nat) : Bool :=
  match x.stage with
  | .saved => !(mapFind (x.replay * 2 ^ 72 + x.addr) w.core.saved).any (fun v =>
      v.region.inPlace && !(v.region.die == die && v.region.ox == ox && v.region.oy == oy))
  | _ => true

/-- Among the units of the priority that fit the same free footprint, the one with the highest score; equal scores in readiness order
(19 R383). None may pass a unit that 64 placements have passed (01 R45). -/
def byScore (w : Work) (us : List Unit45) (u : Unit45) (s : Spot) : List Spot :=
  let same (v : Unit45) : Option Node :=
    match v.nodes with
    | [y] =>
      if drawsOn v && !us.any (fun z => Unit45.before z v && 64 ≤ z.passed) && v.prio == u.prio && taskW y == taskW s.node && taskH y == taskH s.node && w.mayReturn y s.die s.ox s.oy
          && (!fixed y || (bits (shapeWord y) 11 2 == s.die && bits (shapeWord y) 13 3 == s.ox && bits (shapeWord y) 16 3 == s.oy))
          && w.fits (w.heldFrom v) y s.die s.ox s.oy then some y else none
    | _ => none
  let ys := us.filterMap same
  let best := ys.foldl (fun b y => if w.score b < w.score y then y else b) (ys.headD s.node)
  [{ s with node := best }]

/-- The units that a placement has passed (01 R45, R46): the earlier ones of its priority, and those of lower priority, which 256 such
placements raise. A gang that is not ready as a whole is none. -/
def countPassed (w : Work) (us : List Unit45) (placed : List Node) : Work :=
  let isPlaced (u : Unit45) : Bool := u.nodes.any (fun x => placed.any (sameNode x))
  match us.find? isPlaced with
  | none => w
  | some p =>
    let f (y : Node) : Node :=
      match us.find? (fun u => u.nodes.any (sameNode y)) with
      | none => y
      | some u =>
        if isPlaced u then { y with held := [] }
        else if u.prio == p.prio && u.order < p.order then { y with passed := y.passed + 1 }
        else if p.prio < u.prio then
          (if 256 ≤ y.higher + 1 then { y with prio := min y.prio (u.prio - 1), higher := 0 } else { y with higher := y.higher + 1 })
        else y
    { w with core := { w.core with nodes := w.core.nodes.map f } }

/-! ### Placing (01 R22, R27, R34; 05 R91; 07 R157; 17 R324) -/

/-- The region that a task gets. -/
def regionFor (w : Work) (s : Spot) : Region :=
  let x := s.node
  let ts := footprint s.die s.ox s.oy (taskW x) (taskH x)
  let live := (((List.range ts.length).zip ts).filter (fun p => !bit x.ptmask p.1)).map (·.2)
  { die := s.die, ox := s.ox, oy := s.oy, w := taskW x, h := taskH x, live := live, ptmask := x.ptmask, asid := w.nodeAsid x,
    mode := BitVec.ofNat 3 (bits (shapeWord x) 29 3), node := some (x.replay, x.addr), prio := x.prio0, gang := nodeGang x,
    tcount := x.tcount }

/-- The tiles of a region are taken (01 R22): live ones get their contexts idle, the wide unit's state of R324 and a stash of data 0
and EMPTY (05 R91), and their elements stand at the staging base. -/
def takeTiles (w : Work) (id : Nat) (g : Region) : Work :=
  let w := g.tiles.foldl (fun w t => w.setTile t { w.tile t with region := some id }) w
  let w := g.live.foldl (fun w t =>
    let y := w.tile t
    let w := w.setTile t { y with ctxs := y.ctxs.map (fun c => (c.1, idleCtx c.2)), wide := {}, wq := [], last := 3 }
    w.resetWords (stashBase t) 196608 false) w
  let inStash (line : Nat) : Bool :=
    match classify (line * 64) with
    | .stash t _ => g.live.contains t
    | _ => false
  let es := w.core.elems.filter (fun e => !g.live.contains (e.1 / 256))
  let ps := w.core.poison.filter (fun p => !inStash p.1)
  { w with core := { w.core with elems := es, poison := ps, regions := mapSet id g w.core.regions, nextRegion := max w.core.nextRegion (id + 1) } }

/-- The main context starts at the entry block (01 R27). -/
def startMain (w : Work) (g : Region) (vah : Nat) (trec : List Word) : Work :=
  match g.live with
  | [] => w
  | t :: _ =>
    let c := w.ctx t 0
    let regs := [(1, listGet 0 3 trec), (2, Config.exitBlock), (3, listGet 0 4 trec), (4, listGet 0 5 trec), (5, listGet 0 6 trec),
                 (6, listGet 0 7 trec)]
    let c := { c with status := .ready, pc := vaddr vah (nth trec 1), regs := regs, fw := false, asid := BitVec.ofNat 10 g.asid }
    let c := { c with mode := g.mode, budget := 0x101FF, fpflags := 0, dseg := 0, seedlog := 0, rkey := 0, rstream := 0 }
    let c := { c with utvec := 0, ucause := 0, uepc := 0, ueinfo := 0, handler := false, fence := 0, spawnedBy := none }
    let c := { c with park := none, block := none }
    w.setTile t { w.tile t with ctxs := mapSet 0 c (w.tile t).ctxs }

/-- A checked image is loaded into plane A, which becomes active (01 R34). -/
def loadPlaneA (w : Work) (id : Nat) (g : Region) (planes : List (Nat × Plane)) (race : Bool) : Work :=
  let w := (w.setRegion id { g with activeB := true }).commitConfig id planes race
  let es := w.core.elems.map (fun e => if g.live.contains (e.1 / 256) then (e.1, freshOps 0 0 false e.2) else e)
  { w with core := { w.core with elems := es, regions := mapSet id { g with race := race } w.core.regions } }

/-- The image of a node, staged for its region: its planes and its reserved stash, or what is refused (01 R20; 15 R322). -/
def stageImage (w : Work) (r : Replay) (g : Region) (trec : List Word) : Work × Except (Nat × Nat) (List (Nat × Plane) × Bool × Nat) :=
  match w.readImage (replayWho r) (r.va (nth trec 0)) with
  | (w, .error e) => (w, .error (e.1, 0))
  | (w, .ok b) =>
    match parseImage w.core.imageKeys b with
    | none => (w, .error (Cause.cfgReject, 6))
    | some m =>
      match m.stream g with
      | .error e => (w, .error (Cause.cfgReject, e.sub))
      | .ok cs =>
        match w.collate g.live m.stashres (fun _ => []) cs with
        | .error e => (w, .error (if e.order == 7 then Cause.cfgRace else Cause.cfgReject, e.sub))
        | .ok p => (w, .ok (p.1, p.2, m.stashres))

/-! ### Catchword nodes (19 R389 to R391) -/

/-- A copy of `len` bytes in COPY mode for the Sequencer, made whole: none while a claim holds it back; else the cause that ended it. -/
def copyAll (w : Work) (q : Who) (src dst len : Nat) : Option (Work × Option Nat) :=
  let words := [src % 2 ^ 64, dst % 2 ^ 64, len + src / 2 ^ 64 * 2 ^ 48 + dst / 2 ^ 64 * 2 ^ 56, 0, 0].map (BitVec.ofNat 64)
  if src % 8 != 0 || dst % 8 != 0 || len % 8 != 0 then some (w, some Cause.copyAlign)
  else
    let c : EngCmd := { instr := .cpy 0 0, who := q, party := 0, die := 0, seg := 0, words := words }
    match w.runCopy c (len / 8 + 1) with
    | (w, _, .failed cause) => some (w, some cause)
    | (w, _, .paused) => some (w, some Cause.pageFault)
    | (_, _, .heldBack) => none
    | (w, _, .made) => some (w, none)

/-- The key of a CW node: GRAPHID and CWBLK (19 R389). -/
def cwKey (r : Replay) (x : Node) : Nat := r.graphid + bits (nth x.words 6) 0 16 * 2 ^ 32

/-- Steps 2 to 4 of R390 for a node just placed: none while a claim holds a copy back; else the work, and the cause of an error. -/
def beginProbe (w : Work) (id : Nat) (r : Replay) (x : Node) : Option (Work × Option Nat) :=
  let q := replayWho r
  match w.readWords q 8 (r.va (nth x.trec 10)) with
  | (w, .error e) => some (w, some e.1)
  | (w, .ok d) =>
    if nth d 0 % 8 != 0 then some (w, some Cause.align)
    else
      match w.readWords q 1 (r.va (nth d 0)) with
      | (w, .error e) => some (w, some e.1)
      | (w, .ok sv) =>
        let s := bits (nth sv 0) 0 32
        let e := w.cwLookup r.asid (cwKey r x)
        let w := e.1
        let hit := e.2.any (fun e => e.step == (s + 2 ^ 32 - 1) % 2 ^ 32)
        let copied := match hit, e.2 with
          | true, some e => w.copyAll q e.probe (r.va (nth d 1)) (bits (nth d 4) 0 32)
          | _, _ => some (w, none)
        match copied with
        | none => none
        | some (w, some c) => some (w, some c)
        | some (w, none) =>
          let out := e.2.elim 0 (·.out)
          let w := match mapFind id w.core.regions with
            | none => w
            | some g => w.setRegion id { g with progress := .probing, cw := some { step := s, desc := d, hit := hit, out := out } }
          some ((w.commitArm id 1).commitDrain id, none)

/-- A task is placed at a spot whose tiles its region `id` has taken (01 R44; 19 R390): none while it cannot be just now. Beside the
work stands the error, if one is found. -/
def placeTask (w : Work) (id : Nat) (s : Spot) : Option (Work × Option (Nat × Nat)) :=
  let x := s.node
  match w.replay x.replay with
  | none => none
  | some r =>
    let g := w.regionFor s
    match w.stageImage r g x.trec with
    | (u, .error e) => some (u, some e)
    | (u, .ok (planes, race, stashres)) =>
      let stats := nth x.trec 9
      let g := { g with stashres := stashres, stats := if stats == 0 then 0 else r.va stats }
      let t := u.loadExtents g.asid g.live planes
      let u := (t.1.loadPlaneA id g t.2 race).onNode x.replay x.addr (fun y => { y with stage := .running })
      if bit (shapeWord x) 31 then
        match u.beginProbe id r x with
        | none => none
        | some (u, some c) => some (u, some (c, 0))
        | some (u, none) => some (u, none)
      else some (u.startMain g r.vah x.trec, none)

/-! ### Restore (01 R50; 21 R405) -/

/-- The tile that takes a tile's place when a region moves. -/
def movedTile (old new : List Nat) (t : Nat) : Nat := listGet t ((old.findIdx? (· == t)).getD old.length) new

/-- A context number after a move. -/
def movedParty (old new : List Nat) (p : Nat) : Nat := movedTile old new (p / 4) * 4 + p % 4

/-- An element whose clk move on by `d`. -/
def shiftElem (d : Nat) (e : Elem) : Elem :=
  let op (x : SlotOp) : SlotOp := { x with since := x.since.map (· + d), due := x.due + d }
  let due (k : Nat × List (Flit × Nat)) : Nat × List (Flit × Nat) := (k.1, k.2.map (fun f => (f.1, f.2 + d)))
  let spill (p : Spill) : Spill := { p with since := p.since.map (· + d), due := p.due + d }
  { e with busyTo := if e.busyTo == 0 then 0 else e.busyTo + d, lastFire := e.lastFire.map (· + d), settled := e.settled + d,
           ops := e.ops.map (fun o => (o.1, op o.2)), cross := e.cross.map due, spill := e.spill.map spill }

/-- A physical address of a region's stash after a move. -/
def movedPa (old new : List Nat) (pa : Nat) : Nat :=
  match classify pa with
  | .stash t off => stashBase (movedTile old new t) + off
  | .hbm | .firmware | .host | .control | .nowhere => pa

/-- A wide instruction after a move. -/
def movedOp (old new pass : List Nat) (o : WideOp) : WideOp :=
  { o with party := movedParty old new o.party, who := { o.who with live := new, pass := pass },
           lanes := o.lanes.map (fun l => (l.1, movedPa old new l.2)) }

/-- An effect that a commit has still to make, after a move. -/
def movedEffect (old new pass : List Nat) (e : Effect) : Effect :=
  match e with
  | .spawn p entry who => .spawn (movedParty old new p) entry who
  | .wide op => .wide (movedOp old new pass op)
  | .engine c => .engine { c with party := movedParty old new c.party, who := { c.who with live := new, pass := pass } }
  | .seed pa v => .seed (movedPa old new pa) v
  | .pfree pool cls blk pa => .pfree (movedPa old new pool) cls blk (movedPa old new pa)
  | .pgrow pool base len => .pgrow (movedPa old new pool) base len
  | .qenable q rbase ring hd rw rs owner => .qenable q rbase (ring.map (movedPa old new)) hd rw rs owner
  | .stores _ | .qpush _ _ | .qpop _ _ | .qdisable _ _ | .cqpush _ _ | .cqpop _ _ | .mts _ _ | .fence _ | .config _ _ _ | .switch _ | .abort _ _
  | .arm _ _ | .drain _ | .inject _ _ | .cwstore _ | .cwinv _ => e

/-- A context after a move: its block is one whose commit has begun. -/
def movedCtx (old new pass : List Nat) (c : Ctx) : Ctx :=
  let mv := movedEffect old new pass
  let block (b : Block) : Block := { b with effs := b.effs.map (fun e => (e.1, mv e.2)), late := b.late.map (fun es => es.map mv) }
  { c with spawnedBy := c.spawnedBy.map (movedParty old new), block := c.block.map block }

/-- The stash of a tile from its block of a save area: data, and presence bits. -/
def restoreStash (w : Work) (base t : Nat) : Work :=
  let m := applyMem w.mem w.log
  let cells := m.filter (fun c => base + 0x10000 ≤ c.1 && c.1 < base + 0x190000)
  let w := cells.foldl (fun w c => w.putByte (stashBase t + (c.1 - base - 0x10000)) c.2) w
  let bitsAt := m.filter (fun c => base + 0x190000 ≤ c.1 && c.1 < base + 0x196000)
  bitsAt.foldl (fun w c => (List.range 8).foldl (fun w b =>
    if bit c.2.toNat b then { w with log := .bit (stashBase t / 8 + (c.1 - base - 0x190000) * 8 + b) true :: w.log } else w) w) w

/-- A pre-empted task is restored at a spot (21 R405): every context, wide unit and element where it stood, and the stash from the save
area. -/
def restoreTask (w : Work) (s : Spot) : Option Work :=
  let x := s.node
  let key := x.replay * 2 ^ 72 + x.addr
  match mapFind key w.core.saved with
  | none => none
  | some v =>
    let id := v.id
    let g0 := w.regionFor s
    let old := v.region.live
    let new := g0.live
    let pass := g0.passTiles
    let d := w.now - v.since
    let claim := v.region.staging.map (fun k => ({ k with party := movedParty old new k.party } : Staging))
    let inject := v.region.injectors.map (fun k => (movedTile old new (k.1 / 256) * 256 + k.1 % 256, movedParty old new k.2))
    let g := { v.region with die := s.die, ox := s.ox, oy := s.oy, live := new, injectors := inject, staging := claim, asked := false,
                             sinks := v.region.sinks.map (fun k => movedTile old new (k / 4096) * 4096 + k % 4096), inPlace := false }
    let w := w.takeTiles id g
    let w := new.foldl (fun w t =>
      let slot := (new.findIdx? (· == t)).getD 0
      let y := w.tile t
      let q : Wide := mapGet {} slot v.wides
      let run := q.run.map (fun o => ({ o with op := movedOp old new pass o.op } : WideRun))
      let ctxs := (mapGet [] slot v.ctxs).map (fun c => (c.1, movedCtx old new pass c.2))
      let w := w.setTile t { y with ctxs := ctxs, wide := { q with run := run }, wq := (mapGet [] slot v.wqs).map (movedOp old new pass) }
      w.restoreStash (v.area + 0x10000 + slot * 0xA00000) t) w
    let held (e : Elem) : Elem := { e with ctlHeld := e.ctlHeld.map (movedParty old new) }
    let es := v.elems.foldl (fun es e => mapSet (listGet 0 (e.1 / 256) new * 256 + e.1 % 256) (held (shiftElem d e.2)) es) w.core.elems
    let ts := v.tokens.map (fun (k : Token) =>
      { k with tile := movedTile old new k.tile, pa := movedPa old new k.pa, since := k.since + d })
    let ks := v.kills.map (fun (k : Kill) => { k with tile := movedTile old new k.tile, sent := k.sent + d })
    let core := { w.core with
      elems := es, saved := mapDel key w.core.saved, tokens := w.core.tokens ++ ts, kills := w.core.kills ++ ks }
    let back (p : Nat) : Nat := if p / 1024 == 1024 + v.id then listGet 0 (p % 1024 / 4) new * 4 + p % 4 else p
    let w := { w with core := core }.renumber g.node back
    let probing := g.cw.isSome && ((w.ctx (new.headD 0) 0).status == .idle)
    let w := w.setRegion id { g with progress := if probing then .probing else .running }
    some (w.onNode x.replay x.addr (fun y => { y with stage := .running }))

/-- The pre-empted tasks of a unit restored at their places. -/
def restoreAll (w : Work) (ss : List Spot) : Option Work :=
  ss.foldl (fun (r : Option Work) s => r.bind (fun w => w.restoreTask s)) (some w)

/-- A channel of an element, in either plane, leads across a fenced boundary (23 R423). -/
def fencedChannel (w : Work) (t e : Nat) : Bool :=
  let x := w.elem t e
  [x.planeA, x.planeB].any (fun p => (p.slots.map (mkSlot t e p)).any (fun S =>
    ((S.inputs ++ S.ports).filter (· < 4)).any (fun d => (w.neighbour t e d).any (fun u => w.boundaryFenced t u.1))))

/-- Restored at these places, a pre-empted gang would have a channel across a fenced boundary (23 R423). -/
def crossesFence (w : Work) (ss : List Spot) : Bool :=
  ss.any (fun s => s.node.stage == .saved) && (w.restoreAll ss).any (fun u =>
    u.core.elems.any (fun e => ss.any (fun s => (w.regionFor s).live.contains (e.1 / 256)) && u.fencedChannel (e.1 / 256) (e.1 % 256)))

/-- The tasks to place next on a die, with their places (01 R45): the first unit that fits, none behind a unit that 64 placements have
passed. A pre-empted gang does not fit places that part its channels by a fenced boundary (23 R423). -/
def choose (w : Work) (die : Nat) (all_ : List Unit45) : List Unit45 → Option (List Spot)
  | [] => none
  | u :: us =>
    match w.spotsFor die u with
    | none => if 64 ≤ u.passed then none else choose w die all_ us
    | some [s] => some (if drawsOn u && u.passed < 64 then w.byScore all_ u s else [s])
    | some ss => if w.crossesFence ss then (if 64 ≤ u.passed then none else choose w die all_ us) else some ss

/-! ### The events -/

/-- The tiles of every member of a unit are taken, each by a region of its own: ids from `id` on (01 R31). -/
def takeAll (w : Work) (id : Nat) : List Spot → Work
  | [] => w
  | s :: ss => takeAll (w.takeTiles id (w.regionFor s)) (id + 1) ss

/-- The members of a unit are placed in regions from `id` on; beside the work stands the first error. -/
def placeEach (w : Work) (id : Nat) : List Spot → Option (Work × Option (Nat × Nat))
  | [] => some (w, none)
  | s :: ss =>
    match w.placeTask id s with
    | none => none
    | some (u, some e) => some (u, some e)
    | some (u, none) => placeEach u (id + 1) ss

/-- Place the members of a unit together (01 R31): every member's tiles are taken before the first image is checked, since channels
may join the members (01 R32). A gang of which one member cannot start fails (19 R393). An error leaves the tiles untouched. Beside the work
stands whether the unit has been placed. -/
def placeAll (w : Work) (ss : List Spot) : Option (Work × Bool) :=
  if ss.any (fun s => s.node.stage == .saved) then
    (w.restoreAll ss).map (fun u => (u, true))
  else
    let id := w.core.nextRegion
    match (w.takeAll id ss).placeEach id ss with
    | none => none
    | some (u, none) => some (u, true)
    | some (_, some e) => (ss.head?).map (fun s =>
      (w.failNode (s.node.replay, s.node.addr) (nodeGang s.node) (.error e.1 e.2), false))

/-- TASK_PLACE (01 R44). -/
def taskPlace (w : Work) (die : Nat) : Option Work :=
  let us := w.units die
  match w.choose die us us with
  | none => none
  | some ss =>
    if !w.seqRuns then none
    else (w.placeAll ss).map (fun u => if u.2 then u.1.countPassed us (ss.map (·.node)) else u.1)

/-- The PROBE slots of the active plane have all found a match (15 R306; 19 R390 step 5). -/
def probesMatch (w : Work) (g : Region) : Bool :=
  let ps := (w.regionSlots g.live).filter (fun S => S.kind == 4 && S.opc == 10)
  !ps.isEmpty && ps.all (fun S => (w.probeReg S).done && (w.probeReg S).matched)

/-- The body is skipped (19 R390 step 6): the output is aliased or copied, CW_HIT advances, and the node is skipped. -/
def cwSkip (w : Work) (id : Nat) (g : Region) (r : Replay) (x : Node) (c : CwRun) : Option Work :=
  let q := replayWho r
  let d := nth c.desc
  let key := cwKey r x
  let dir := w.core.directory.map (fun e => if e.asid == r.asid && e.key == key then { e with step := c.step } else e)
  let w := { w with core := { w.core with directory := dir } }
  let finish (w : Work) : Work := ((w.bumpStat q g.stats 0).freeRegion id g).endNode (x.replay, x.addr) (.skipped 1)
  let fail (w : Work) (cause : Nat) : Work := (w.freeRegion id g).failNode (x.replay, x.addr) g.gang (failureOf g cause)
  if bit (d 5) 48 then
    if d 7 % 8 != 0 then some (fail w Cause.align)
    else
      match w.translate q .fill 8 (r.va (d 7)) with
      | (w, .fault cause _) => some (fail w cause)
      | (w, .ok pa u) =>
        if w.bitAt pa u || w.anyClaimed [pa / 8] || w.core.resv.any (fun v => v.word == pa / 8) then none
        else some (finish (w.fillWord pa (BitVec.ofNat 64 c.out)))
  else
    match w.copyAll q c.out (r.va (d 3)) (bits (d 5) 0 48) with
    | none => none
    | some (w, some cause) => some (fail w cause)
    | some (w, none) => some (finish w)

/-- CW_DECIDE (19 R390 steps 5 and 6). -/
def cwDecide (w : Work) (id : Nat) : Option Work :=
  match mapFind id w.core.regions with
  | none => none
  | some g =>
    match g.cw, g.node with
    | some c, some n =>
      match w.node n.1 n.2, w.replay n.1 with
      | some x, some r =>
        if g.progress != .probing || !g.sinks.isEmpty then none
        else if c.hit && w.probesMatch g then w.cwSkip id g r x c
        else
          let w := w.bumpStat (replayWho r) g.stats 1
          some ((w.setRegion id { g with progress := .running }).startMain g r.vah x.trec)
      | _, _ => none
    | _, _ => none

/-- The contexts of a region have all halted or never started, the main one by HALT (01 R29). -/
def contextsDone (w : Work) (g : Region) : Bool :=
  (w.ctx (g.live.headD 0) 0).status == .halted &&
    g.live.all (fun t => [0, 1, 2, 3].all (fun c => (w.ctx t c).status == .halted || (w.ctx t c).status == .idle))

/-- The wide units of a region have nothing left to do. -/
def wideDone (w : Work) (g : Region) : Bool := g.live.all (fun t => (w.tile t).wq.isEmpty && (w.tile t).wide.run.isNone)

/-- Step 7 of R390 after a miss's task has retired: none while it is held back; else the cause that it fails with. -/
def cwStoreBack (w : Work) (g : Region) (r : Replay) (x : Node) (c : CwRun) : Option (Work × Option Nat) :=
  let q := replayWho r
  let d := nth c.desc
  let plen := bits (d 4) 0 32
  let olen := bits (d 5) 0 48
  let dst := low (d 6 + c.step % 2 * (plen + olen)) 64
  match w.copyAll q (r.va (d 2)) (r.va dst) plen with
  | none => none
  | some (w, some cause) => some (w, some cause)
  | some (w, none) =>
    match w.copyAll q (r.va (d 3)) (r.va (dst + plen)) olen with
    | none => none
    | some (w, some cause) => some (w, some cause)
    | some (w, none) =>
      let e : CwEntry := { asid := r.asid, key := cwKey r x, step := c.step, probe := r.va dst, plen := plen, out := r.va (dst + plen),
                           olen := olen, pinned := bit g.mode.toNat 0 }
      match w.cwRecord e with
      | (w, 0) => some (w, some Cause.allocExhausted)
      | (w, 1) => some (w.bumpStat q g.stats 2, none)
      | (w, _) => some ((w.bumpStat q g.stats 2).bumpStat q g.stats 3, none)

/-- What R29 asks of a task that retires. -/
def mayRetire (w : Work) (g : Region) : Bool := g.progress == .running && w.contextsDone g && drained g && w.wideDone g

/-- TASK_RETIRE (01 R29; 21 R399; 19 R390 step 7): a gang of which a member ends in error fails (01 R33; 19 R393). -/
def taskRetire (w : Work) (id : Nat) : Option Work :=
  match mapFind id w.core.regions with
  | none => none
  | some g =>
    if !w.mayRetire g then none
    else
      match g.node with
      | none => some (w.freeRegion id g)
      | some n =>
        let free (w : Work) (o : Outcome) : Work := (w.freeRegion id g).endNode n o
        let fail (w : Work) (cause : Nat) : Work := (w.freeRegion id g).failNode n g.gang (failureOf g cause)
        if !g.errq.isEmpty then some (fail w Cause.regionError)
        else
          match g.cw, w.node n.1 n.2, w.replay n.1 with
          | some c, some x, some r =>
            (match w.cwStoreBack g r x c with
             | none => none
             | some (w, some cause) => some (fail w cause)
             | some (w, none) => some (free w (.done (g.arms % 2 ^ 48))))
          | _, _, _ => some (free w (.done (g.arms % 2 ^ 48)))

end Work

/-! ### Meanings -/

/-- TASK_PLACE (01 R44). -/
def execTaskPlace (die : Nat) (s : State) : Host.Outcome State Fault Refusal := happen (fun w => Work.unlessClaimed (w.taskPlace die)) s

/-- CW_DECIDE (19 R390). -/
def execCwDecide (region : Nat) (s : State) : Host.Outcome State Fault Refusal := happen (fun w => Work.unlessClaimed (w.cwDecide region)) s

/-- TASK_RETIRE (01 R29). -/
def execTaskRetire (region : Nat) (s : State) : Host.Outcome State Fault Refusal := happen (fun w => Work.unlessClaimed (w.taskRetire region)) s

end Sys2Proof.Machine
end

