-- ==== Sys2Proof/Machine/Faults.lean ====
section
/-! DEFINITION. The delivery of region errors (21 R399), pre-emption and its save area (21 R404 to R406), containment (21 R400, R402),
faults, self-tests and fences (21 R407 to R409; 23 R423, R424), invalidation (05 R116), the teardown of an ASID (05 R107; 17 R359) and
the reset of a tile (11 R232). -/

namespace Sys2Proof.Machine

open Sys2Proof

namespace Work

/-! ### Region errors (21 R399) -/

/-- REGION_ERROR: the oldest record of a region is delivered to its main context, before its next block, or while it is parked or its
block waits. -/
def regionError (w : Work) (id : Nat) : Option Work :=
  match mapFind id w.core.regions with
  | none => none
  | some g =>
    match g.errq with
    | [] => none
    | rec :: rest =>
      let t := g.live.headD 0
      let c := w.ctx t 0
      let waits := match c.block with
        | some b => !b.waits.isEmpty
        | none => false
      let due := match c.status with
        | .ready => !c.handler
        | .running => waits
        | .parked => true
        | .idle | .halted => false
      if !w.spineRuns t || !due then none
      else
        let a := match c.block with
          | some b => b.addr
          | none => c.pc
        let w := (w.setRegion id { g with errq := rest }).leaveBlock false t 0
        some { { w with focus := ⟨t, 0, 0⟩ }.deliverTrap a Cause.regionError rec with focus := w.focus }

/-! ### Pre-emption (21 R404, R405) -/

/-- Steps 1 and 2 of R405 for one region: nothing more is issued for it, its contexts stop at block boundaries, and firmware has the
notice. -/
def haltRegion (w : Work) (id : Nat) (inPlace : Bool) : Work :=
  match mapFind id w.core.regions with
  | none => w
  | some g =>
    let w := w.stopTiles true g.live
    let g := (mapFind id w.core.regions).getD g
    let w := w.setRegion id { g with progress := .halting, inPlace := inPlace, asked := false }
    w.notice g.die Cause.preempt (BitVec.ofNat 64 (low ((g.node.map (·.2)).getD 0) 64))

/-- A region takes pre-emption requests: it runs (21 R411). -/
def canHalt (g : Region) : Bool := (g.progress == .running || g.progress == .probing) && g.node.isSome

/-- A region that halts for a self-test on its tiles takes a request too, when the test ends (21 R404, R415). -/
def canAsk (g : Region) : Bool := canHalt g || (g.progress == .halting && g.inPlace && g.node.isSome)

/-- Some region of a list holds a self-test in progress (21 R404). -/
def heldByTest (w : Work) (ids : List Nat) : Bool := ids.any (fun i => (mapFind i w.core.regions).any (fun g => g.tiles.any w.underTest))

/-- A task that a self-test has had saved holds the test still (21 R404, R409). -/
def savedByTest (w : Work) (v : Saved) : Bool := v.region.inPlace && v.region.tiles.any w.underTest

/-- Tasks that self-tests have had saved, and their gangs, take the request when the test ends (21 R404, R415). -/
def askSaved (w : Work) (v : Saved) : Work :=
  let mate (g : Region) : Bool := g.node == v.region.node || (g.gang != 0 && g.gang == v.region.gang && g.node.map (·.1) == v.region.node.map (·.1))
  let ask (g : Region) : Region := if mate g then { g with asked := true } else g
  { w with core := { w.core with
      saved := w.core.saved.map (fun s => (s.1, { s.2 with region := ask s.2.region })),
      regions := w.core.regions.map (fun g => (g.1, ask g.2)) } }

/-- The tile blocks that save areas hold or will hold, with those of some more regions (05 R89). -/
def saveBlocks (w : Work) (ids : List Nat) : Nat :=
  let held := w.core.saved.map (fun s => s.2.region.live.length)
  let due := (w.core.regions.filter (fun g => g.2.progress == .halting || g.2.asked || ids.contains g.1)).map (fun g => g.2.live.length)
  (held ++ due).foldl (· + ·) 0

/-- A region has been asked to halt (21 R404). -/
def askHalt (w : Work) (id : Nat) : Work :=
  match mapFind id w.core.regions with
  | none => w
  | some g => w.setRegion id { g with asked := true }

/-- The regions of a gang halt, or take the request when the self-test that one of them holds ends (21 R404). -/
def haltAll (w : Work) (ids : List Nat) (inPlace : Bool) : Work :=
  if w.heldByTest ids then ids.foldl askHalt w
  else ids.foldl (fun w i => w.haltRegion i inPlace) w

/-- Requests that waited for a self-test are taken (21 R404): a task that the test had saved is not restored in place, but placed like any
other. -/
def settleHalts (w : Work) : Work :=
  let free (v : Saved) : Saved :=
    if v.region.asked && !w.savedByTest v then { v with region := { v.region with inPlace := false, asked := false } } else v
  let w := { w with core := { w.core with saved := w.core.saved.map (fun (s : Nat × Saved) => (s.1, free s.2)) } }
  (w.core.regions.map (·.1)).foldl (fun w i =>
    match mapFind i w.core.regions with
    | none => w
    | some g => if g.asked && canHalt g && !w.heldByTest (w.gangOf i g) then w.haltAll (w.gangOf i g) false else w) w

/-- A request of pre-emption for a region and its gang (21 R404): not made when the save areas would need more than 320 tile blocks
(05 R89). -/
def requestHalt (w : Work) (id : Nat) (inPlace : Bool) : Option Work :=
  match mapFind id w.core.regions with
  | none => none
  | some g =>
    let ids := w.gangOf id g
    if ids.all (fun i => (mapFind i w.core.regions).any canAsk) && w.saveBlocks ids ≤ 320 then some (w.haltAll ids inPlace) else none

/-! ### The save area (21 R406) -/

/-- Write `n` words whose contents the manual leaves open (DESIGN CHOICE, log 14). -/
def putOpen (w : Work) (a : Nat) : Nat → Work
  | 0 => w
  | n + 1 =>
    let w1 := w.putWord a (Config.unstated w.core.free)
    putOpen { w1 with core := { w1.core with free := w1.core.free + 1 } } (a + 8) n

/-- Write a list of numbers as 64-bit words one behind another. -/
def putWords (w : Work) (a : Nat) : List Nat → Work
  | [] => w
  | v :: vs => putWords (w.store a 8 v) (a + 8) vs

/-- Write flits one behind another, 32 bytes each: payload, kind and tag and mask, and a number that says where it stands. -/
def putFlits (w : Work) (a : Nat) : List (Nat × Flit) → Work
  | [] => w
  | (k, f) :: fs => putFlits (w.putWords a [f.payload, f.payload / 2 ^ 64, f.kind + f.tag * 2 ^ 2 + f.mask * 2 ^ 16, k]) (a + 32) fs

/-- Write a list of bytes. -/
def putBytes (w : Work) (a : Nat) : List Nat → Work
  | [] => w
  | b :: bs => putBytes (w.putByte a (BitVec.ofNat 8 b)) (a + 1) bs

/-- The header of a save area. -/
def saveHeader (w : Work) (base : Nat) (g : Region) : Work :=
  let b (x : Bool) (n : Nat) : Nat := if x then 2 ^ n else 0
  let w0 := low g.phase 16 * 2 ^ 48 + low g.arms 16 * 2 ^ 32 + low g.kettle 16 * 2 ^ 16 + b g.activeB 15 + b g.staged 14 + b g.race 13
    + (g.h - 1) * 2 ^ 10 + (g.w - 1) * 2 ^ 7 + (g.live.length - 1) * 2 ^ 3
  let w1 := low g.stranded 32 * 2 ^ 32 + low g.ptmask 20
  let w2 := low g.tcount 16 * 2 ^ 48 + g.mode.toNat * 2 ^ 10 + low g.asid 10
  let w3 := low ((g.node.map (·.2)).getD 0) 64
  let errs := (List.range 8).map (fun i => (listGet (0 : Word) i g.errq).toNat)
  let put (w : Work) (k : Nat × Nat) : Work := w.store (base + 8 * k.1) 8 k.2
  (((List.range 4).zip [w0, w1, w2, w3]) ++ ((List.range 8).map (· + 8)).zip errs).foldl put w

/-- A plane as an element record holds it: context words, the configuration words and the table image at their offsets. -/
def savePlane (w : Work) (a : Nat) (b : Bool) (p : Plane) : Work :=
  let k := if b then 1 else 0
  let w := p.ctx.foldl (fun w c => if c.1 < 16 then w.store (a + 0x40 * k + 4 * c.1) 4 (low c.2 32) else w) w
  let w := w.store (a + 0x80 + 0x10 * k) 4 p.ctll
  let w := w.store (a + 0x84 + 0x10 * k) 4 p.ctlh
  let w := w.store (a + 0x88 + 0x10 * k) 4 p.links
  w.putBytes (a + 0x3000 + 0x2000 * k) (p.table.take 0x2000)

/-- The places of the flits of a list of inputs: input + 8 × position. -/
def placed (qs : List (Nat × List Flit)) : List (Nat × Flit) :=
  qs.flatMap (fun q => ((List.range q.2.length).zip q.2).map (fun f => (q.1 + 8 * f.1, f.2)))

/-- An operation as a slot of a plane that has done nothing holds it. -/
def freshOp (x : SlotOp) : Bool := x == { kettle := x.kettle, armings := x.armings, extents := x.extents }

/-- An element differs from the staging base in a plane, or holds state (21 R406). -/
def holdsState (key : Nat) (e : Elem) : Bool :=
  { e with ops := [] } != baseElem (key % 256) || e.ops.any (fun o => !freshOp o.2)

/-- The last 12 digits of a list in a word, 5 bits each. -/
def digitWord (ds : List Int) : Nat := low (ds.foldl (fun v d => v * 32 + (d % 32).toNat) 0) 64

/-- A number with the bits of a list set. -/
def bitMap (ps : List Nat) : Nat := ps.foldl (fun m p => Nat.lor m (2 ^ p)) 0

/-- The state of a slot's operation in the 16 words that a record has for it (21 R406; DESIGN CHOICE, log 54): flags, dead marks and decisions;
counts; the digits buffered of eight operand lanes, or ACC's exact sums; the digits of four output lanes that have not left. -/
def opWords (x : SlotOp) : List Nat :=
  let lane (i : Nat) : ILane := mapGet {} i x.ins
  let out (l : Nat) : OLane := mapGet {} l x.outs
  let marks := bitMap ([0, 1, 2, 3, 4, 5, 6, 7].filter (fun i => (lane i).dead))
  let decided (l : Nat) : Nat := ((out l).dec.elim 0 (fun d => 4 + ((d.2 + 1) % 4).toNat)) * 2 ^ (32 + 8 * l)
  let flags := flagBit x.opened 0 + flagBit x.openedB 1 + flagBit x.busy 2 + flagBit x.halted 3 + flagBit x.barred 4 + flagBit x.done 5
    + flagBit x.abandoned 6 + flagBit x.paused 7 + low (bitMap x.dead) 8 * 2 ^ 8 + low (bitMap x.discard) 8 * 2 ^ 16 + marks * 2 ^ 24
    + ([0, 1, 2, 3].map decided).foldl (· + ·) 0
  let sum (l : Nat) : Nat := ((mapGet ({} : GroupSum) l x.sums).m % 2 ^ 64).toNat
  let second := if x.sums.isEmpty then [4, 5, 6, 7].map (fun i => digitWord (lane i).digits) else [0, 1, 2, 3].map sum
  [flags, low x.cnt 64, low x.issued 64, low x.kettle 64] ++ [0, 1, 2, 3].map (fun i => digitWord (lane i).digits) ++ second
    ++ [0, 1, 2, 3].map (fun l => digitWord ((out l).zs.drop (out l).sent))

/-- The state of an element's kind in its record (21 R406; DESIGN CHOICE, log 54): held sums of an ME; the flit and lanes in hand of each MB
slot; generators and spill queue of an SP; SPAWN's tags, DIGEST's CRCs, PROBE's registers and FOLD's buffer of a UE. -/
def kindWords (kind : Nat) (e : Elem) : List Nat :=
  let op (s : Nat) : SlotOp := mapGet {} s e.ops
  let slots := List.range 16
  match kind with
  | 1 => (List.range 256).map (fun k => mapGet 0 k e.held)
  | 2 => slots.flatMap (fun s => let x := op s
           let f := x.taking.getD ⟨0, 0, 0, 0, 0, 0⟩
           [x.lanes, low f.payload 64, f.payload / 2 ^ 64, f.mask])
  | 3 => slots.flatMap (fun s => let x := op s
           [x.issued, x.performed, x.lanes, x.armings]) ++ e.spill.flatMap (fun p => [p.slot, p.n, low p.va 64, p.va / 2 ^ 64, p.v])
  | 4 => slots.map (fun s => bitMap ((e.tags.filter (· / 64 == s)).map (· % 64))) ++ slots.map (fun s => (op s).crc)
           ++ [flagBit e.probe.done 63 + flagBit e.probe.matched 62 + low e.probe.diff 62]
           ++ slots.flatMap (fun s => ((op s).bufA ++ (op s).bufB).flatMap (fun v => [low v 64, v / 2 ^ 64]))
  | _ => []

/-- An element's record: what R406 places in it, fields one behind another in the order of its table (DESIGN CHOICE, log 54). -/
def saveElem (w : Work) (a key : Nat) (kills : List Kill) (e : Elem) : Work :=
  let pending (p : Nat) : Nat := (kills.filter (fun k => k.tile * 256 + k.elem == key && k.port == p)).length
  let w := w.putWords (a + 0xA0) ([e.counter, e.busyTo - w.now] ++ [0, 1, 2, 3, 4].map pending ++ [e.cutoff, e.replaced, e.count, e.digest])
  let w := w.putFlits (a + 0x100) (placed e.ins)
  let w := match e.loc with
    | none => w
    | some f => w.putFlits (a + 0x500) [(1, f)]
  let w := (w.putFlits (a + 0x520) (placed [(5, e.ctl)])).putWords (a + 0x5A0) [e.inject.toNat]
  let w := if e.sinkValid then w.putFlits (a + 0x5C0) [(1, e.sink)] else w
  let w := w.putWords (a + 0x600) ((List.range 16).flatMap (fun s => opWords (mapGet {} s e.ops)))
  let w := w.putWords (a + 0x1000) ((kindWords (kindOf (key % 256)) e).take 1024)
  (w.savePlane a false e.planeA).savePlane a true e.planeB

/-- The stash of a tile: data, presence bits and line checks. -/
def saveStash (w : Work) (base t : Nat) : Work :=
  let s := stashBase t
  let inside (a : Nat) : Bool := s ≤ a && a < s + 0x180000
  let cells := (applyMem w.mem w.log).filter (fun c => inside c.1)
  let fulls := (applyFull w.full w.log).filter (fun k => inside (k * 8))
  let lines := (cells.map (fun c => (c.1 - s) / 64) ++ fulls.map (fun k => (k * 8 - s) / 64)).eraseDups
  let w := cells.foldl (fun w c => w.putByte (base + 0x10000 + (c.1 - s)) c.2) w
  let w := fulls.foldl (fun w k =>
    let i := k - s / 8
    let a := base + 0x190000 + i / 8
    w.putByte a (w.byte a ||| BitVec.ofNat 8 (2 ^ (i % 8)))) w
  lines.foldl (fun w n =>
    let bytes := (List.range 64).map (fun j => (w.byte (s + n * 64 + j)).toNat)
    let bits8 := (List.range 8).foldl (fun v j => if w.isFull ((s + n * 64) / 8 + j) then v + 2 ^ j else v) 0
    w.store (base + 0x196000 + 2 * n) 2 (lineCheck (bytes ++ [bits8]))) w

/-- The state of a context in a save area. -/
def ctxState (c : Ctx) : Nat :=
  (match c.status with
   | .idle => 0
   | .halted => 1
   | .ready => 2
   | .running => 3
   | .parked => 4) + flagBit c.fw 8 + flagBit c.handler 9 + low c.fence 3 * 2 ^ 16

/-- A context in a save area (21 R406): g0 to g127, the special registers 0x002, 0x003 and 0x005 to 0x00E, the resume block and the state
(DESIGN CHOICE, log 54). -/
def saveCtx (w : Work) (a : Nat) (c : Ctx) : Work :=
  let special : List Word := [c.asid.setWidth 64, c.mode.setWidth 64, c.budget.setWidth 64, c.fpflags.setWidth 64, c.dseg.setWidth 64, c.seedlog,
    c.rkey, c.rstream, c.utvec, c.ucause.setWidth 64, c.uepc, c.ueinfo]
  w.putWords a ((List.range 128).map (fun n => (c.reg n).toNat) ++ special.map (·.toNat) ++ [low c.pc.toNat 64, c.pc.toNat / 2 ^ 64, ctxState c])

/-- The wide unit in a save area (21 R406): w0 to w31, k1 to k7, x0 to x3 in the layout of R81, the stage program, and the position of a run
(DESIGN CHOICE, log 54). -/
def saveWide (w : Work) (a : Nat) (u : Wide) : Work :=
  let ws := (List.range 512).map (fun i => (mapGet (0 : Word) i u.w).toNat)
  let ks := (List.range 7).map (fun i => (mapGet (0 : BitVec 16) (i + 1) u.k).toNat)
  let xs := (List.range 4).flatMap (fun i => (List.range 69).map (fun j => ((mapGet ({} : Acc) i u.x).word j).toNat))
  let run := match u.run with
    | none => [0]
    | some r => [r.n + 1]
  w.putWords a (ws ++ ks ++ xs ++ (List.range 7).map (fun i => (listGet (0 : Word) i u.prog).toNat) ++ run)

/-- A tile's block of a save area: its header with the map of the element records and the staging claim, the crossing slots, contexts, wide
unit, stash and elements. -/
def saveTile (w : Work) (base t : Nat) (claim : Option Staging) : Work :=
  let es := w.core.elems.filter (fun e => e.1 / 256 == t && holdsState e.1 e.2)
  let w := match claim with
    | none => w
    | some k => if k.party / 4 == t then w.putWords (base + 32) [1 + k.party % 4 * 2 + k.idx * 2 ^ 8] else w
  let w := es.foldl (fun w e => w.putByte (base + e.1 % 256 / 8) (w.byte (base + e.1 % 256 / 8) ||| BitVec.ofNat 8 (2 ^ (e.1 % 8)))) w
  let crossing := es.flatMap (fun e => placed (e.2.cross.map (fun c => (e.1 % 256 * 2 ^ 16 + c.1, c.2.map (·.1)))))
  let w := w.putFlits (base + 0x800) (crossing.take 64)
  let w := [0, 1, 2, 3].foldl (fun w c => w.saveCtx (base + 0x1000 + c * 0x800) (w.ctx t c)) w
  let w := w.saveWide (base + 0x3000) (w.tile t).wide
  let w := w.saveStash base t
  let ks := w.core.kills
  es.foldl (fun w e => w.saveElem (base + 0x200000 + e.1 % 256 * 0x8000) e.1 ks e.2) w

/-- The SOURCE of a poisoned line in the stash of some tiles. -/
def stashPoison (w : Work) (ts : List Nat) : Bool :=
  w.core.poison.any (fun p =>
    match classify (p.1 * 64) with
    | .stash t _ => ts.contains t
    | _ => false)

/-- Every element, queue and requester of a halting region stands at its boundary (21 R405 step 3): what is left of its wide queue stands
behind a run that has halted (17 R361; DEDUCED, log 54), and what is left of its tokens waits for a presence bit. -/
def atBoundary (w : Work) (g : Region) : Bool :=
  g.live.all (fun t => (w.tile t).wq.isEmpty || (w.tile t).wide.run.isSome)
    && !w.core.elems.any (fun e => g.live.contains (e.1 / 256) && w.now < e.2.busyTo)
    && !w.core.tokens.any (fun k => g.live.contains k.tile && (k.reply.isSome || k.op == 0 || k.op == 4 || 8 ≤ k.op))

/-- The bytes of a save area for a region (21 R406). -/
def areaSize (g : Region) : Nat := 0x10000 + g.live.length * 0xA00000

/-- A save area stands in firmware-held HBM, at a line, apart from the areas in use. -/
def areaOk (w : Work) (g : Region) (area : Nat) : Bool :=
  area % 64 == 0 && 0x7800000000 ≤ area && area + areaSize g ≤ 0x7A00000000
    && w.core.saved.all (fun s => area + areaSize g ≤ s.2.area || s.2.area + areaSize s.2.region ≤ area)

/-- PREEMPT_SAVE (21 R405 steps 4 and 5; R415): a halting region's state is written to its save area, the region is freed and the node
is ready again. An uncorrectable error ends the task. -/
def preemptSave (w : Work) (id area : Nat) : Option Work :=
  match mapFind id w.core.regions with
  | none => none
  | some g =>
    match g.progress, g.node with
    | .halting, some n =>
      if !w.atBoundary g || !w.areaOk g area then none
      else if w.stashPoison g.live then some (w.contain id Cause.uncorrectable)
      else
        let slots := (List.range g.live.length).zip g.live
        let wEs := w.core.elems.filter (fun e => g.live.contains (e.1 / 256) && holdsState e.1 e.2)
        let slot (t : Nat) : Nat := (g.live.findIdx? (· == t)).getD 0
        let v : Saved := {
          id := id, region := g, area := area, since := w.now,
          ctxs := slots.map (fun s => (s.1, (w.tile s.2).ctxs)),
          wides := slots.map (fun s => (s.1, (w.tile s.2).wide)),
          wqs := slots.map (fun s => (s.1, (w.tile s.2).wq)),
          elems := wEs.map (fun e => (slot (e.1 / 256) * 256 + e.1 % 256, e.2)),
          tokens := w.core.tokens.filter (fun k => g.live.contains k.tile),
          kills := w.core.kills.filter (fun k => g.live.contains k.tile) }
        let w := { w with log := .zero area (areaSize g) :: w.log }
        let w := w.saveHeader area g
        let w := slots.foldl (fun w s => w.saveTile (area + 0x10000 + s.1 * 0xA00000) s.2 g.staging) w
        let ts := w.core.tokens.filter (fun k => !g.live.contains k.tile)
        let core := { w.core with tokens := ts, saved := mapSet (n.1 * 2 ^ 72 + n.2) v w.core.saved, nextOrder := w.core.nextOrder + 1 }
        let order := w.core.nextOrder
        let away (p : Nat) : Nat := if g.live.contains (p / 4) then savedParty id (slot (p / 4)) (p % 4) else p
        let w := (({ w with core := core }).renumber g.node away).freeRegion id g
        some (w.onNode n.1 n.2 (fun x =>
          { x with stage := .saved, order := order, prio := x.prio0, passed := 0, higher := 0, held := [] }))
    | _, _ => none

/-! ### Containment (21 R396, R400, R402) -/

/-- CONTAINMENT: a placed task, or its whole gang, is ended with a cause of R394. -/
def containment (w : Work) (id cause : Nat) : Option Work :=
  if (mapFind id w.core.regions).isSome && 1 ≤ cause && cause ≤ 0x18 then some (w.contain id cause) else none

/-- A cause that firmware disposes of by ending the task (21 R396), for a context that has just trapped to it. A fetch faults in the segment of
its block, any other access in that of S_DSEG (11 R209; 21 R397, ACC). -/
def endsTask (w : Work) (c : Ctx) : Bool :=
  let valid := c.utvec != 0 && c.utvec.toNat % 16 == 0
  let k := c.cause.toNat
  let asid := c.asid.toNat
  let top := if bits c.einfo.toNat 10 3 == 0 then bits c.estat.toNat 8 8 else c.dseg.toNat
  let at_ := bits c.einfo.toNat 16 48 * 2 ^ 16 + top * 2 ^ 64
  let held := (w.asidInfo asid).ranges.any (fun r => r.1 ≤ at_ && at_ < r.1 + r.2)
  let sub := bits c.einfo.toNat 13 3
  c.fw && c.handler && c.status == .ready && bit c.estat.toNat 0 &&
    (if k == Cause.pageFault then !valid && (sub == 1 || (sub == 0 && !held))
     else if k == Cause.uncorrectable || k == Cause.priv then true
     else taskTakes k && !valid)

/-- The regions whose tasks firmware ends next, with the causes (21 R396). -/
def tasksToEnd (w : Work) : List (Nat × Nat) :=
  w.core.regions.filterMap (fun g =>
    let cs := g.2.live.flatMap (fun t => [0, 1, 2, 3].map (fun c => w.ctx t c))
    (cs.find? w.endsTask).map (fun c => (g.1, c.cause.toNat)))

/-! ### Faults, self-tests and fences (21 R407 to R409; 23 R423, R424) -/

/-- A fault report: the log entry, the host error vector, and a self-test of the unit to come (21 R408, R409). -/
def report (w : Work) (what kind unit addr : Nat) : Work :=
  let w := w.logError what (kind * 2 ^ 32 + unit) addr
  let known := w.core.reports.contains (kind, unit) || w.core.tests.contains (kind, unit)
  { w with core := { w.core with reports := if known then w.core.reports else w.core.reports ++ [(kind, unit)] } }

/-- A unit that a report can name (21 R409): 0 stash row of a tile, 1 die-cache row of a die, 2 HBM row as its page, 3 link lane set as
link × 2 + set, 4 UCIe module as boundary × 48 + module, 5 element as tile × 256 + element, 6 wide stage, 7 Spine core and 8 router of
a tile. -/
def unitExists (kind unit : Nat) : Bool :=
  match kind with
  | 0 => decide (unit < 160)
  | 1 => decide (unit < 4)
  | 2 => decide (unit < 0x7A0000)
  | 3 => decide (unit < 24)
  | 4 => decide (unit < 192)
  | 5 => decide (unit < 160 * 256)
  | 6 | 7 | 8 => decide (unit < 160)
  | _ => false

/-- An error of a channel of an element (21 R399): the record bears the op tag and the arming of the flit struck, the first at the input
that the address names by its number 0 to 5, or of the latest arming where none stands there (DESIGN CHOICE, log 32). -/
def channelError (w : Work) (t e port : Nat) : Work :=
  match queueAt (w.elem t e) port with
  | [] => w.elementError t e 0 0x13 0 (w.lastArm t)
  | f :: _ => w.elementError t e f.tag 0x13 0 f.arm

/-- FAULT_DETECT (21 R408, R402; 05 R121): the fault is logged and reported. An uncorrectable one of sources 0 to 4 poisons the line it
concerns, once; one of a channel is an error of its element; one of the logic of a tile ends the task there. -/
def faultDetect (w : Work) (source : Nat) (fatal : Bool) (kind unit addr : Nat) : Option Work :=
  if 7 < source || !unitExists kind unit then none
  else
    let line := addr / 64
    let poisons := fatal && source ≤ 4
    if poisons && (mapFind line w.core.poison).isSome then none
    else
      let w := w.report (source + (if fatal then 16 else 0)) kind unit addr
      if !fatal then some w
      else if poisons then some { w with core := { w.core with poison := mapSet line source w.core.poison } }
      else if source == 5 then some (if kind == 5 then w.channelError (unit / 256) (unit % 256) addr else w)
      else if source == 7 then
        match (unitTile kind unit).bind (fun t => (w.tile t).region) with
        | none => some w
        | some r => some (w.contain r Cause.uncorrectable)
      else some w

/-- A self-test holds a region (21 R409): one of its live tiles, or the router of any tile of its footprint. -/
def testOn (k : Nat × Nat) (g : Region) : Bool := (if k.1 == 8 then g.tiles else g.live).any (fun t => testHolds t k)

/-- SELF_TEST_START (21 R409): the test of a reported unit begins; live regions on the tiles it holds are pre-empted, to be restored in
place. None while one of them cannot be halted: its save area has no room (05 R89), or it holds another test (R404). -/
def selfTestStart (w : Work) (kind unit : Nat) : Option Work :=
  if !w.core.reports.contains (kind, unit) then none
  else
    let on := w.core.regions.filter (fun g => testOn (kind, unit) g.2 && canHalt g.2)
    let runs (w : Work) (i : Nat) : Bool := (mapFind i w.core.regions).any canHalt
    let r := on.foldl (fun (r : Option Work) g =>
      r.bind (fun w => if runs w g.1 then (w.requestHalt g.1 true).filter (fun u => !runs u g.1) else some w)) (some w)
    r.map (fun w =>
      { w with core := { w.core with reports := w.core.reports.filter (· != (kind, unit)), tests := w.core.tests ++ [(kind, unit)] } })

/-- A tile is fenced (01 R22; 21 R409; 23 R430): the task of a live tile ends; on a gated cluster the fence waits for the wake. -/
def fenceTile (w : Work) (t : Nat) (sound : Bool) : Work :=
  if (mapGet ({} : Cluster) (clusterOf t) w.clusters).gated then
    { w with core := { w.core with lateFences := w.core.lateFences ++ [(t, sound)] } }
  else
    let old := (w.tile t).fence
    let w := w.setTile t { w.tile t with fence := if sound && old != .routerFaulty then .routerSound else .routerFaulty }
    let slot (x : Region) : Bool := x.tiles.contains t
    let saved := w.core.saved.map (fun s => (s.1, if slot s.2.region then { s.2 with region := { s.2.region with inPlace := false } } else s.2))
    let w := { w with core := { w.core with saved := saved } }
    match (w.tile t).region with
    | none => w
    | some r => if (mapFind r w.core.regions).any (fun g => g.live.contains t) then w.contain r Cause.uncorrectable else w

/-- The stream ports of a link's bound channels raise UNCORRECTABLE (23 R424): those of tasks in the ASID that the channel is bound to
(R425). -/
def linkErrors (w : Work) (l : Nat) : Work :=
  let lk := mapGet ({} : Link) l w.core.links
  let ports := w.core.elems.flatMap (fun e => (w.elemSlots (e.1 / 256) (e.1 % 256)).filter (fun S =>
    S.kind == 3 && (boundTo (w.streamOf S).base).any (fun b =>
      b.1 == l && (mapFind b.2 lk.binds).isSome && (mapFind b.2 lk.binds).map (·.1) == (w.regionOf S.tile).map (·.asid))))
  ports.foldl (fun w S => w.slotError S 0x13 0) w

/-- A link goes down (23 R424). -/
def linkDown (w : Work) (l : Nat) : Option Work :=
  let k := mapGet ({} : Link) l w.core.links
  if 11 < l || k.down then none
  else some (({ w with core := { w.core with links := mapSet l { k with down := true } w.core.links } }).linkErrors l)

/-- A unit that has failed its test is fenced (21 R409; 23 R423, R424). -/
def fenceUnit (w : Work) (kind unit : Nat) (router : Bool) : Work :=
  match kind with
  | 2 => { w with core := { w.core with
      retired := if w.core.retired.contains unit then w.core.retired else w.core.retired ++ [unit], moved := w.core.moved.filter (· != unit) } }
  | 3 =>
    let l := unit / 2
    let k := mapGet ({} : Link) l w.core.links
    let m := k.fenced ||| 2 ^ (unit % 2)
    let w := { w with core := { w.core with links := mapSet l { k with fenced := m } w.core.links } }
    if m == 3 then (w.linkDown l).getD w else w
  | 4 => { w with core := { w.core with modules := if w.core.modules.contains unit then w.core.modules else w.core.modules ++ [unit] } }
  | 8 => w.fenceTile unit false
  | k =>
    match unitTile k unit with
    | none => w
    | some t => w.fenceTile t router

/-- A page of HBM holds readable data that firmware has not moved (21 R409): a byte that is not 0 or a FULL word of a line that is not
poisoned. -/
def unmoved (w : Work) (page : Nat) : Bool :=
  let here (line : Nat) : Bool := line / 1024 == page && (mapFind line w.core.poison).isNone
  !w.core.moved.contains page && (w.mem.any (fun c => here (c.1 / 64)) || w.full.any (fun k => here (k / 8)))

/-- Firmware moves the readable data of a page of HBM under test, with its presence bits, to another frame (21 R409). -/
def movePage (w : Work) (page frame : Nat) : Work :=
  if !w.core.tests.contains (2, page) || page == frame || 0x7A0000 ≤ frame || w.core.retired.contains frame then w
  else
    let here (line : Nat) : Bool := line / 1024 == page && (mapFind line w.core.poison).isNone
    let w1 := w.resetWords (frame * 0x10000) 8192 false
    let w1 := (w.mem.filter (fun c => here (c.1 / 64))).foldl (fun u c => u.putByte (frame * 0x10000 + c.1 % 0x10000) c.2) w1
    let w1 := (w.full.filter (fun k => here (k / 8))).foldl (fun u k => { u with log := .bit (frame * 8192 + k % 8192) true :: u.log }) w1
    { w1 with core := { w1.core with moved := page :: w1.core.moved } }

/-- SELF_TEST_END (21 R409): a test ends once no region it holds still halts; a unit that failed is fenced, a page of HBM once its readable
data has been moved. A request of pre-emption that waited for the test is taken (R404). -/
def selfTestEnd (w : Work) (kind unit : Nat) (pass router : Bool) : Option Work :=
  let halts := w.core.regions.any (fun g => g.2.progress == .halting && testOn (kind, unit) g.2)
  if !w.core.tests.contains (kind, unit) || halts || (kind == 2 && !pass && w.unmoved unit) then none
  else
    let w := { w with core := { w.core with tests := w.core.tests.filter (· != (kind, unit)) } }
    some (if pass then w else w.fenceUnit kind unit router).settleHalts

/-- PATROL_BIST (21 R407, R408): a unit of a guarded task's live tile is tested: element 0 to 255, wide stage 256 to 261, Spine core 262.
A failure ends the task. -/
def patrolBist (w : Work) (t e : Nat) (pass : Bool) : Option Work :=
  match (w.tile t).region with
  | none => none
  | some r =>
    if !(mapFind r w.core.regions).any (fun g => g.live.contains t && bit g.mode.toNat 1) || 262 < e then none
    else
      let kind := if e < 256 then 5 else if e < 262 then 6 else 7
      let key := t * 512 + e
      if pass then some { w with core := { w.core with patrols := mapSet key w.now w.core.patrols } }
      else
        let w := w.report (7 + 16) kind (if kind == 5 then t * 256 + e else t) (mapGet 0 key w.core.patrols)
        some (w.contain r Cause.uncorrectable)

/-! ### Translations that go (05 R107, R116) -/

/-- A translation of an entry lies in a range of an ASID, or of all. -/
def inRange (asid : Nat) (all_ : Bool) (va len : Nat) (e : TlbEntry) : Bool :=
  (all_ || e.gl || e.asid == asid) && e.base < va + len && va < e.base + 2 ^ e.lg

/-- No access of an ASID, or of any, is under way on a translation taken earlier, be it one that a pre-empted task has still to make
(05 R116). -/
def settled (w : Work) (asid : Nat) (all_ : Bool) : Bool :=
  let hit (a : Nat) : Bool := all_ || a == asid
  let busy (b : Block) : Bool := !b.mems.isEmpty || !b.effs.isEmpty || b.waits.any (·.word.isSome)
  !w.core.tiles.any (fun t =>
      t.2.ctxs.any (fun c => hit c.2.asid.toNat && c.2.block.any busy)
        || t.2.wq.any (fun o => hit o.who.asid) || t.2.wide.run.any (fun r => hit r.op.who.asid))
    && !w.core.tokens.any (fun k => match w.regionOf k.tile with
      | none => all_
      | some g => hit g.asid)
    && !w.core.saved.any (fun s => hit s.2.region.asid && (!s.2.tokens.isEmpty
      || s.2.ctxs.any (fun t => t.2.any (fun c => c.2.block.any busy))
      || s.2.wqs.any (fun q => !q.2.isEmpty) || s.2.wides.any (fun u => u.2.run.isSome)))

/-- A list changed member by member, the work threaded through. -/
def each {α : Type} (f : Work → α → Work × α) (w : Work) : List α → Work × List α
  | [] => (w, [])
  | x :: xs =>
    let r := f w x
    let rs := each f r.1 xs
    (rs.1, r.2 :: rs.2)

/-- A generator's extents after an invalidation: those in the range are patched from the tables as they stand, those without a
translation go (05 R116). -/
def repatch (w : Work) (asid : Nat) (hit : TlbEntry → Bool) : List TlbEntry → Work × List TlbEntry
  | [] => (w, [])
  | e :: es =>
    let r := if hit e then w.fetchExtents asid [e.base / 0x10000] else (w, [e])
    let rs := repatch r.1 asid hit es
    (rs.1, r.2 ++ rs.2)

/-- The extents that a plane's load patched in, after an invalidation. -/
def repatchPlane (asid : Nat) (hit : TlbEntry → Bool) (w : Work) (p : Plane) : Work × Plane :=
  let r := w.each (fun w (x : Nat × List TlbEntry) => let r := w.repatch asid hit x.2; (r.1, (x.1, r.2))) p.extents
  (r.1, { p with extents := r.2 })

/-- The extents of an element after an invalidation: those of its generators and of its planes. -/
def repatchElem (asid : Nat) (hit : TlbEntry → Bool) (w : Work) (e : Elem) : Work × Elem :=
  let o := w.each (fun w (x : Nat × SlotOp) => let r := w.repatch asid hit x.2.extents; (r.1, (x.1, { x.2 with extents := r.2 }))) e.ops
  let a := repatchPlane asid hit o.1 e.planeA
  let b := repatchPlane asid hit a.1 e.planeB
  (b.1, { e with ops := o.2, planeA := a.2, planeB := b.2 })

/-- INVALIDATION (05 R116): the TLB entries in the range go, and generators are repatched, those of pre-empted tasks too. -/
def invalidation (w : Work) (asid : Nat) (all_ : Bool) (va len : Nat) : Option Work :=
  if !w.settled asid all_ then none
  else
    let hit := inRange asid all_ va len
    let tiles := w.core.tiles.map (fun t => (t.1, { t.2 with tlb := t.2.tlb.filter (fun e => !hit e) }))
    let elem (a : Nat → Nat) (w : Work) (x : Nat × Elem) : Work × (Nat × Elem) :=
      let r := repatchElem (a x.1) hit w x.2
      (r.1, (x.1, r.2))
    let saved (w : Work) (x : Nat × Saved) : Work × (Nat × Saved) :=
      let r := w.each (elem (fun _ => x.2.region.asid)) x.2.elems
      (r.1, (x.1, { x.2 with elems := r.2 }))
    let w := { w with core := { w.core with tiles := tiles } }
    let es := w.each (elem (fun k => (w.fabricWho (k / 256)).asid)) w.core.elems
    let ss := es.1.each saved es.1.core.saved
    some { ss.1 with core := { ss.1.core with elems := es.2, saved := ss.2 } }

/-- A cause that the manual does not name (DESIGN CHOICE, log 14). -/
def openCause (w : Work) : Work × Nat :=
  ({ w with core := { w.core with free := w.core.free + 1 } }, 1 + (Config.unstated w.core.free).toNat % 24)

/-- A pre-empted task ends (05 R107; 21 R400, R402): its contexts are never restored, and its gang fails with it. -/
def endSaved (w : Work) (v : Saved) (cause : Nat) : Work :=
  match v.region.node with
  | none => w
  | some n =>
    if (mapFind (n.1 * 2 ^ 72 + n.2) w.core.saved).isNone then w
    else if v.region.gang != 0 then w.failGang n.1 v.region.gang
    else
      let w := w.forget (fun p => p / 1024 == 1024 + v.id)
      ({ w with core := { w.core with saved := mapDel (n.1 * 2 ^ 72 + n.2) w.core.saved } }).endNode n (failureOf v.region cause)

/-- ASID_TEARDOWN (05 R107; 17 R359): the tasks of the ASID end, the pre-empted ones too, every context of it is killed and its record
unlinked, and its catchword entries go. -/
def asidTeardown (w : Work) (asid : Nat) : Work :=
  let ids := (w.core.regions.filter (fun g => g.2.asid == asid)).map (·.1)
  let w := ids.foldl (fun w r => let c := w.openCause; c.1.contain r c.2) w
  let kept := (w.core.saved.filter (fun s => s.2.region.asid == asid)).map (·.2)
  let w := kept.foldl (fun w v => let c := w.openCause; c.1.endSaved v c.2) w
  let mine (t c : Nat) : Bool := (w.ctx t c).asid.toNat == asid && (w.ctx t c).status != .idle
  let rest := w.core.tiles.flatMap (fun t => ([0, 1, 2, 3].filter (mine t.1)).map (fun c => (t.1, c)))
  let w := rest.foldl (fun w k => let w := w.stopContext false k.1 k.2; w.setCtx k.1 k.2 (idleCtx (w.ctx k.1 k.2))) w
  { w with core := { w.core with directory := w.core.directory.filter (fun e => e.asid != asid) } }

/-- TILE_RESET (11 R215, R232): blocks in flight are abandoned, with claims and records released, and the tile's contexts, wide unit,
TLB and elements stand as after reset. Its fence stays (21 R409). -/
def tileReset (w : Work) (t : Nat) : Option Work :=
  if 160 ≤ t then none
  else
    let w := w.stopTiles false [t]
    let x := w.tile t
    let w := w.setTile t { region := x.region, fence := x.fence, stopped := x.stopped, cycle0 := w.now, ahead := 0 }
    some { w with core := { w.core with elems := w.core.elems.filter (fun e => e.1 / 256 != t) } }

end Work

/-! ### Meanings -/

/-- REGION_ERROR (21 R399). -/
def execRegionError (region : Nat) (s : State) : Host.Outcome State Fault Refusal := happen (fun w => Work.unlessClaimed (w.regionError region)) s

/-- PREEMPT_REQUEST (21 R404, R405). -/
def execPreemptRequest (region : Nat) (s : State) : Host.Outcome State Fault Refusal := happen (fun w => Work.unlessClaimed (w.requestHalt region false)) s

/-- PREEMPT_SAVE (21 R405, R406). -/
def execPreemptSave (region area : Nat) (s : State) : Host.Outcome State Fault Refusal := happen (fun w => Work.unlessClaimed (w.preemptSave region area)) s

/-- CONTAINMENT (21 R400). -/
def execContainment (region cause : Nat) (s : State) : Host.Outcome State Fault Refusal := happen (fun w => Work.unlessClaimed (w.containment region cause)) s

/-- FAULT_DETECT (21 R408). -/
def execFaultDetect (source : Nat) (fatal : Bool) (kind unit addr : Nat) (s : State) : Host.Outcome State Fault Refusal :=
  happen (fun w => Work.unlessClaimed (w.faultDetect source fatal kind unit addr)) s

/-- SELF_TEST_START (21 R409). -/
def execSelfTestStart (kind unit : Nat) (s : State) : Host.Outcome State Fault Refusal := happen (fun w => Work.unlessClaimed (w.selfTestStart kind unit)) s

/-- SELF_TEST_END (21 R409). -/
def execSelfTestEnd (kind unit : Nat) (pass router : Bool) (s : State) : Host.Outcome State Fault Refusal :=
  happen (fun w => Work.unlessClaimed (w.selfTestEnd kind unit pass router)) s

/-- PATROL_BIST (21 R407). -/
def execPatrolBist (tile elem : Nat) (pass : Bool) (s : State) : Host.Outcome State Fault Refusal :=
  happen (fun w => Work.unlessClaimed (w.patrolBist tile elem pass)) s

/-- INVALIDATION (05 R116). -/
def execInvalidation (asid : Nat) (all : Bool) (va len : Nat) (s : State) : Host.Outcome State Fault Refusal :=
  happen (fun w => w.invalidation asid all va len) s

/-- ASID_TEARDOWN (05 R107; 17 R359). -/
def execAsidTeardown (asid : Nat) (s : State) : Host.Outcome State Fault Refusal := happen (fun w => Work.unlessClaimed (some (w.asidTeardown asid))) s

/-- TILE_RESET (11 R232). -/
def execTileReset (tile : Nat) (s : State) : Host.Outcome State Fault Refusal := happen (fun w => Work.unlessClaimed (w.tileReset tile)) s

/-- LINK_DOWN (23 R424). -/
def execLinkDown (link : Nat) (s : State) : Host.Outcome State Fault Refusal := happen (fun w => w.linkDown link) s

end Sys2Proof.Machine
end

