-- ==== Sys2Proof/Machine/Float.lean ====
section
/-! DEFINITION. The scalar floating-point instructions (09 R201 to R207). The results and flags are those of Flags.lean; the
flags reach S_FPFLAGS only at commit (R181). -/

namespace Sys2Proof.Machine

open Sys2Proof

/-- An FP64 operand is the whole word, an FP32 operand its low 32 bits (09 R201). -/
def fpIn (f : Fmt) (a : Word) : Fp := Fp.of f a.toNat

/-- The format an op's width bit selects (09 R205): 0 .D, 1 .S. -/
def widFmt (wid : BitVec 1) : Fmt := if wid == 0 then fp64 else fp32

/-- The bits of an operand in a format's width. -/
def fpBits (f : Fmt) (a : Word) : Nat := bits a.toNat 0 (f.top + 1)

/-- Fire an FP instruction: a result word and flags, after `lat` clk. -/
def fireFp (sh : Shape) (lat : Nat) (f : Word → Word → Word → FpResult) (s : State) : Host.Outcome State Fault Refusal :=
  fire sh (fun a b c w =>
    (w.onBlock (fun k => { k with flags := k.flags ||| (f a b c).2 })).deliver sh (BitVec.ofNat 64 (f a b c).1) lat) s

/-- A compare's result (09 R206). -/
def fpTest (r : Bool × FpFlags) : FpResult := (if r.1 then 1 else 0, r.2)

/-- FADD_D (09 R203). -/
def execFaddD (pr : BitVec 2) (rm : BitVec 2) (t1 : BitVec 9) (t0 : BitVec 9) (s : State) : Host.Outcome State Fault Refusal :=
  fireFp (shape (.faddD pr rm t1 t0)) 4 (fun a b _ => fpAdd fp64 rm.toNat (fpIn fp64 a) (fpIn fp64 b)) s

/-- FSUB_D (09 R203). -/
def execFsubD (pr : BitVec 2) (rm : BitVec 2) (t1 : BitVec 9) (t0 : BitVec 9) (s : State) : Host.Outcome State Fault Refusal :=
  fireFp (shape (.fsubD pr rm t1 t0)) 4 (fun a b _ => fpAdd fp64 rm.toNat (fpIn fp64 a) (fpIn fp64 b).negate) s

/-- FMUL_D (09 R203). -/
def execFmulD (pr : BitVec 2) (rm : BitVec 2) (t1 : BitVec 9) (t0 : BitVec 9) (s : State) : Host.Outcome State Fault Refusal :=
  fireFp (shape (.fmulD pr rm t1 t0)) 4 (fun a b _ => fpMul fp64 rm.toNat (fpIn fp64 a) (fpIn fp64 b)) s

/-- FDIV_D (09 R203). -/
def execFdivD (pr : BitVec 2) (rm : BitVec 2) (t1 : BitVec 9) (t0 : BitVec 9) (s : State) : Host.Outcome State Fault Refusal :=
  fireFp (shape (.fdivD pr rm t1 t0)) 20 (fun a b _ => fpDiv fp64 rm.toNat (fpIn fp64 a) (fpIn fp64 b)) s

/-- FSQRT_D (09 R203). -/
def execFsqrtD (pr : BitVec 2) (rm : BitVec 2) (t1 : BitVec 9) (t0 : BitVec 9) (s : State) : Host.Outcome State Fault Refusal :=
  fireFp (shape (.fsqrtD pr rm t1 t0)) 20 (fun a _ _ => fpSqrt fp64 rm.toNat (fpIn fp64 a)) s

/-- FMA_D (09 R203). -/
def execFmaD (rm : BitVec 2) (t1 : BitVec 9) (t0 : BitVec 9) (s : State) : Host.Outcome State Fault Refusal :=
  fireFp (shape (.fmaD rm t1 t0)) 4 (fun a b c => fpFma fp64 rm.toNat false (fpIn fp64 a) (fpIn fp64 b) (fpIn fp64 c)) s

/-- FMS_D (09 R203). -/
def execFmsD (rm : BitVec 2) (t1 : BitVec 9) (t0 : BitVec 9) (s : State) : Host.Outcome State Fault Refusal :=
  fireFp (shape (.fmsD rm t1 t0)) 4 (fun a b c => fpFma fp64 rm.toNat false (fpIn fp64 a) (fpIn fp64 b) (fpIn fp64 c).negate) s

/-- FNMA_D (09 R203). -/
def execFnmaD (rm : BitVec 2) (t1 : BitVec 9) (t0 : BitVec 9) (s : State) : Host.Outcome State Fault Refusal :=
  fireFp (shape (.fnmaD rm t1 t0)) 4 (fun a b c => fpFma fp64 rm.toNat true (fpIn fp64 a) (fpIn fp64 b) (fpIn fp64 c)) s

/-- FADD_S (09 R203). -/
def execFaddS (pr : BitVec 2) (rm : BitVec 2) (t1 : BitVec 9) (t0 : BitVec 9) (s : State) : Host.Outcome State Fault Refusal :=
  fireFp (shape (.faddS pr rm t1 t0)) 4 (fun a b _ => fpAdd fp32 rm.toNat (fpIn fp32 a) (fpIn fp32 b)) s

/-- FSUB_S (09 R203). -/
def execFsubS (pr : BitVec 2) (rm : BitVec 2) (t1 : BitVec 9) (t0 : BitVec 9) (s : State) : Host.Outcome State Fault Refusal :=
  fireFp (shape (.fsubS pr rm t1 t0)) 4 (fun a b _ => fpAdd fp32 rm.toNat (fpIn fp32 a) (fpIn fp32 b).negate) s

/-- FMUL_S (09 R203). -/
def execFmulS (pr : BitVec 2) (rm : BitVec 2) (t1 : BitVec 9) (t0 : BitVec 9) (s : State) : Host.Outcome State Fault Refusal :=
  fireFp (shape (.fmulS pr rm t1 t0)) 4 (fun a b _ => fpMul fp32 rm.toNat (fpIn fp32 a) (fpIn fp32 b)) s

/-- FDIV_S (09 R203). -/
def execFdivS (pr : BitVec 2) (rm : BitVec 2) (t1 : BitVec 9) (t0 : BitVec 9) (s : State) : Host.Outcome State Fault Refusal :=
  fireFp (shape (.fdivS pr rm t1 t0)) 12 (fun a b _ => fpDiv fp32 rm.toNat (fpIn fp32 a) (fpIn fp32 b)) s

/-- FSQRT_S (09 R203). -/
def execFsqrtS (pr : BitVec 2) (rm : BitVec 2) (t1 : BitVec 9) (t0 : BitVec 9) (s : State) : Host.Outcome State Fault Refusal :=
  fireFp (shape (.fsqrtS pr rm t1 t0)) 12 (fun a _ _ => fpSqrt fp32 rm.toNat (fpIn fp32 a)) s

/-- FMA_S (09 R203). -/
def execFmaS (rm : BitVec 2) (t1 : BitVec 9) (t0 : BitVec 9) (s : State) : Host.Outcome State Fault Refusal :=
  fireFp (shape (.fmaS rm t1 t0)) 4 (fun a b c => fpFma fp32 rm.toNat false (fpIn fp32 a) (fpIn fp32 b) (fpIn fp32 c)) s

/-- FMS_S (09 R203). -/
def execFmsS (rm : BitVec 2) (t1 : BitVec 9) (t0 : BitVec 9) (s : State) : Host.Outcome State Fault Refusal :=
  fireFp (shape (.fmsS rm t1 t0)) 4 (fun a b c => fpFma fp32 rm.toNat false (fpIn fp32 a) (fpIn fp32 b) (fpIn fp32 c).negate) s

/-- FNMA_S (09 R203). -/
def execFnmaS (rm : BitVec 2) (t1 : BitVec 9) (t0 : BitVec 9) (s : State) : Host.Outcome State Fault Refusal :=
  fireFp (shape (.fnmaS rm t1 t0)) 4 (fun a b c => fpFma fp32 rm.toNat true (fpIn fp32 a) (fpIn fp32 b) (fpIn fp32 c)) s

/-- FMIN (09 R205). -/
def execFmin (pr : BitVec 2) (wid : BitVec 1) (t1 : BitVec 9) (t0 : BitVec 9) (s : State) : Host.Outcome State Fault Refusal :=
  fireFp (shape (.fmin pr wid t1 t0)) 2 (fun a b _ => fpMinMax (widFmt wid) false (fpBits (widFmt wid) a) (fpBits (widFmt wid) b)) s

/-- FMAX (09 R205). -/
def execFmax (pr : BitVec 2) (wid : BitVec 1) (t1 : BitVec 9) (t0 : BitVec 9) (s : State) : Host.Outcome State Fault Refusal :=
  fireFp (shape (.fmax pr wid t1 t0)) 2 (fun a b _ => fpMinMax (widFmt wid) true (fpBits (widFmt wid) a) (fpBits (widFmt wid) b)) s

/-- FNEG (09 R205). -/
def execFneg (pr : BitVec 2) (wid : BitVec 1) (t1 : BitVec 9) (t0 : BitVec 9) (s : State) : Host.Outcome State Fault Refusal :=
  fireFp (shape (.fneg pr wid t1 t0)) 1 (fun a _ _ => (Nat.xor (fpBits (widFmt wid) a) (2 ^ (widFmt wid).top), 0)) s

/-- FABS (09 R205). -/
def execFabs (pr : BitVec 2) (wid : BitVec 1) (t1 : BitVec 9) (t0 : BitVec 9) (s : State) : Host.Outcome State Fault Refusal :=
  fireFp (shape (.fabs pr wid t1 t0)) 1 (fun a _ _ => (bits a.toNat 0 (widFmt wid).top, 0)) s

/-- FCPYS (09 R205). -/
def execFcpys (pr : BitVec 2) (wid : BitVec 1) (t1 : BitVec 9) (t0 : BitVec 9) (s : State) : Host.Outcome State Fault Refusal :=
  fireFp (shape (.fcpys pr wid t1 t0)) 1 (fun a b _ => ((widFmt wid).signed (bit b.toNat (widFmt wid).top) (bits a.toNat 0 (widFmt wid).top), 0)) s

/-- FCLASS (09 R205). -/
def execFclass (pr : BitVec 2) (wid : BitVec 1) (t1 : BitVec 9) (t0 : BitVec 9) (s : State) : Host.Outcome State Fault Refusal :=
  fireFp (shape (.fclass pr wid t1 t0)) 1 (fun a _ _ => (fpClass (widFmt wid) (fpBits (widFmt wid) a), 0)) s

/-- FTEQ (09 R206). -/
def execFteq (pr : BitVec 2) (wid : BitVec 1) (t1 : BitVec 9) (t0 : BitVec 9) (s : State) : Host.Outcome State Fault Refusal :=
  fireFp (shape (.fteq pr wid t1 t0)) 2 (fun a b _ => fpTest (fpCompare 0 (fpIn (widFmt wid) a) (fpIn (widFmt wid) b))) s

/-- FTLT (09 R206). -/
def execFtlt (pr : BitVec 2) (wid : BitVec 1) (t1 : BitVec 9) (t0 : BitVec 9) (s : State) : Host.Outcome State Fault Refusal :=
  fireFp (shape (.ftlt pr wid t1 t0)) 2 (fun a b _ => fpTest (fpCompare 1 (fpIn (widFmt wid) a) (fpIn (widFmt wid) b))) s

/-- FTLE (09 R206). -/
def execFtle (pr : BitVec 2) (wid : BitVec 1) (t1 : BitVec 9) (t0 : BitVec 9) (s : State) : Host.Outcome State Fault Refusal :=
  fireFp (shape (.ftle pr wid t1 t0)) 2 (fun a b _ => fpTest (fpCompare 2 (fpIn (widFmt wid) a) (fpIn (widFmt wid) b))) s

/-- FTUN (09 R206). -/
def execFtun (pr : BitVec 2) (wid : BitVec 1) (t1 : BitVec 9) (t0 : BitVec 9) (s : State) : Host.Outcome State Fault Refusal :=
  fireFp (shape (.ftun pr wid t1 t0)) 2 (fun a b _ => fpTest (fpCompare 3 (fpIn (widFmt wid) a) (fpIn (widFmt wid) b))) s

/-- FCVT_D_S (09 R207). -/
def execFcvtDS (pr : BitVec 2) (t1 : BitVec 9) (t0 : BitVec 9) (s : State) : Host.Outcome State Fault Refusal :=
  fireFp (shape (.fcvtDS pr t1 t0)) 2 (fun a _ _ => fpConvert fp64 false 0 (fpIn fp32 a)) s

/-- FCVT_S_D (09 R207). -/
def execFcvtSD (pr : BitVec 2) (rm : BitVec 2) (t1 : BitVec 9) (t0 : BitVec 9) (s : State) : Host.Outcome State Fault Refusal :=
  fireFp (shape (.fcvtSD pr rm t1 t0)) 2 (fun a _ _ => fpConvert fp32 false rm.toNat (fpIn fp64 a)) s

/-- FCVT_D_I (09 R207). -/
def execFcvtDI (pr : BitVec 2) (rm : BitVec 2) (t1 : BitVec 9) (t0 : BitVec 9) (s : State) : Host.Outcome State Fault Refusal :=
  fireFp (shape (.fcvtDI pr rm t1 t0)) 2 (fun a _ _ => fpOfInt fp64 rm.toNat a.toInt) s

/-- FCVT_D_N (09 R207). -/
def execFcvtDN (pr : BitVec 2) (rm : BitVec 2) (t1 : BitVec 9) (t0 : BitVec 9) (s : State) : Host.Outcome State Fault Refusal :=
  fireFp (shape (.fcvtDN pr rm t1 t0)) 2 (fun a _ _ => fpOfInt fp64 rm.toNat a.toNat) s

/-- FCVT_I_D (09 R207). -/
def execFcvtID (pr : BitVec 2) (rm : BitVec 2) (t1 : BitVec 9) (t0 : BitVec 9) (s : State) : Host.Outcome State Fault Refusal :=
  fireFp (shape (.fcvtID pr rm t1 t0)) 2 (fun a _ _ => fpToInt 64 true rm.toNat (fpIn fp64 a)) s

/-- FCVT_N_D (09 R207). -/
def execFcvtND (pr : BitVec 2) (rm : BitVec 2) (t1 : BitVec 9) (t0 : BitVec 9) (s : State) : Host.Outcome State Fault Refusal :=
  fireFp (shape (.fcvtND pr rm t1 t0)) 2 (fun a _ _ => fpToInt 64 false rm.toNat (fpIn fp64 a)) s

/-- FCVT_S_I (09 R207). -/
def execFcvtSI (pr : BitVec 2) (rm : BitVec 2) (t1 : BitVec 9) (t0 : BitVec 9) (s : State) : Host.Outcome State Fault Refusal :=
  fireFp (shape (.fcvtSI pr rm t1 t0)) 2 (fun a _ _ => fpOfInt fp32 rm.toNat a.toInt) s

/-- FCVT_I_S (09 R207). -/
def execFcvtIS (pr : BitVec 2) (rm : BitVec 2) (t1 : BitVec 9) (t0 : BitVec 9) (s : State) : Host.Outcome State Fault Refusal :=
  fireFp (shape (.fcvtIS pr rm t1 t0)) 2 (fun a _ _ => fpToInt 64 true rm.toNat (fpIn fp32 a)) s

end Sys2Proof.Machine
end

