-- ==== Sys2Proof/Machine/HostPort.lean ====
section
/-! DEFINITION. The host port: queue pages (19 R362, R363), BAR 2 and the presence aperture (23 R419, R420), the management registers and
commands (23 R421; 21 R411, R414), MSI-X (23 R422), the resets and the boot (23 R416, R426, R427; 21 R412, R413), the package links'
frames and bindings (23 R424, R425), and plain register writes (00 R12). -/

namespace Sys2Proof.Machine

open Sys2Proof

namespace Work

/-! ### What the host reaches -/

/-- BAR accesses reach their targets once STAGE is 3 (23 R426). -/
def barOpen (w : Work) : Bool := w.core.mgmt.stage == 3

/-- The management registers and MSI-X are reached also when the boot has failed, for recovery (23 R421, R427). -/
def mgmtOpen (w : Work) : Bool := w.core.mgmt.stage == 3 || w.core.mgmt.stage == 15

/-- A host access that completes as an Unsupported Request. -/
def refused (w : Work) : Work := w.emit .unsupported

/-- Change the management registers. -/
def onMgmt (w : Work) (f : Mgmt → Mgmt) : Work := { w with core := { w.core with mgmt := f w.core.mgmt } }

/-- The oldest store to the control window leaves the queue of posted stores (23 R417). -/
def dropPosted (w : Work) : Work := { w with core := { w.core with posted := w.core.posted.drop 1 } }

/-! ### Queue pages (19 R362, R363) -/

/-- Replace a host queue. -/
def setQueue (w : Work) (n : Nat) (q : HostQueue) : Work := { w with core := { w.core with hostq := mapSet n q w.core.hostq } }

/-- The host queue of a number. -/
def hostQueue (w : Work) (n : Nat) : HostQueue := mapGet {} n w.core.hostq

/-- The fields of Q_CTL that a write reaches. -/
def queueFields : Word := 0x80FF0F3C000003FF#64

/-- A write to Q_CTL (19 R363). -/
def writeQueueCtl (w : Work) (n : Nat) (v : Word) : Work :=
  let q := w.hostQueue n
  let v := v &&& queueFields
  if q.enabled then (if bit v.toNat 63 then w else w.setQueue n { q with ctl := v })
  else if bit v.toNat 63 then w.setQueue n { q with ctl := v, head := 0, tail := 0 }
  else w.setQueue n { q with ctl := v }

/-- A write to Q_TAIL (19 R362). -/
def writeQueueTail (w : Work) (n : Nat) (v : Word) : Work := w.setQueue n { w.hostQueue n with tail := v.setWidth 32 }

/-- A write to Q_BASE (19 R362, R363): a multiple of 64 in bits [51:0]; ignored while the queue is enabled. -/
def writeQueueBase (w : Work) (n : Nat) (v : Word) : Work :=
  let q := w.hostQueue n
  if q.enabled then w else w.setQueue n { q with base := BitVec.ofNat 64 (v.toNat % 2 ^ 52) }

/-- A host write of a queue page's register. -/
def queueWrite (w : Work) (n : Nat) (f : Work → Work) : Option Work :=
  if 16384 ≤ n then none else if w.barOpen then some (f w) else some w.refused

/-! ### MSI-X (23 R419, R422) -/

/-- Replace a vector. -/
def setVector (w : Work) (n : Nat) (v : Vector) : Work := { w with core := { w.core with msix := mapSet n v w.core.msix } }

/-- A vector's mask is written: a pending message is delivered on unmask. -/
def maskVector (w : Work) (n : Nat) (masked : Bool) : Work :=
  let v := mapGet ({} : Vector) n w.core.msix
  if masked then w.setVector n { v with masked := true }
  else
    let w := w.setVector n { v with masked := false, pending := false }
    if v.pending then w.emit (.msi v.addr v.data) else w

/-! ### Plain registers (00 R12) -/

/-- An 8-byte write to BAR 0 at a multiple of 8. -/
def writeBar0 (w : Work) (o : Nat) (v : Word) : Work :=
  if o < 0x4000000 then
    (match o % 0x1000 with
     | 0x000 => w.writeQueueBase (o / 0x1000) v
     | 0x008 => w.writeQueueCtl (o / 0x1000) v
     | 0x010 => w.writeQueueTail (o / 0x1000) v
     | _ => w)
  else if o == 0x4000010 then w.onMgmt (fun m => { m with arg := v })
  else if o == 0x4000020 then w.onMgmt (fun m => { m with pwin := v.setWidth 16 })
  else if 0x4001000 ≤ o && o < 0x4009000 then
    (let n := (o - 0x4001000) / 16
     let x := mapGet ({} : Vector) n w.core.msix
     if o % 16 == 0 then w.setVector n { x with addr := v }
     else (w.setVector n { x with data := v.setWidth 32 }).maskVector n (bit v.toNat 32))
  else w

/-- The 8 bytes that a read of BAR 0 at a multiple of 8 below the aperture returns (19 R362; 23 R419, R421, R422): a write-only register
and an offset with no register read 0. -/
def readBar0 (w : Work) (o : Nat) : Word :=
  if o < 0x4000000 then
    (match o % 0x1000 with
     | 0x000 => (w.hostQueue (o / 0x1000)).base
     | 0x008 => (w.hostQueue (o / 0x1000)).ctl
     | 0x018 => (w.hostQueue (o / 0x1000)).head.setWidth 64
     | _ => 0)
  else if o < 0x4001000 then BitVec.ofNat 64 (w.core.mgmt.read (o - 0x4000000))
  else if o < 0x4009000 then
    (let x := mapGet ({} : Vector) ((o - 0x4001000) / 16) w.core.msix
     if o % 16 == 0 then x.addr else BitVec.ofNat 64 (x.data.toNat + flagBit x.masked 32))
  else if o < 0x4009100 then
    BitVec.ofNat 64 ((List.range 64).foldl (fun v k =>
      v + flagBit (mapGet ({} : Vector) ((o - 0x4009000) * 8 + k) w.core.msix).pending k) 0)
  else 0

/-- An offset of BAR 0 whose write has no row of its own: not M_CMD, and not in the aperture. -/
def plainOffset (o : Nat) : Bool := o % 8 == 0 && o < 0x6000000 && o != 0x4000008

/-- A store to the control window that only writes fields: M_ARG and M_PWIN, an offset without a register, a read-only register. -/
def writeControl (w : Work) (o : Nat) (v : Word) : Work :=
  if o == 0x10 then w.onMgmt (fun m => { m with arg := v })
  else if o == 0x20 then w.onMgmt (fun m => { m with pwin := v.setWidth 16 })
  else w

/-! ### Host accesses of HBM (23 R420) -/

/-- What leaves for the host from a line, with the poison indication when the line is poisoned (21 R408). -/
def answer (w : Work) (pa : Nat) (v : Word) : Work :=
  if (w.poisonOf pa).isSome then w.emit (.poisoned v) else w.emit (.value v)

/-- A plain host load or store of HBM: a store waits on a claim of a word it touches. -/
def hostPlain (w : Work) (pa size : Nat) (write : Bool) (v : Word) : Option Work :=
  if !write then some (w.answer pa (BitVec.ofNat 64 (w.load pa size)))
  else if w.core.claims.any (fun c => pa / 8 ≤ c.word && c.word ≤ (pa + size - 1) / 8) then none
  else some (w.store pa size v.toNat)

/-- BAR2_ACCESS. -/
def bar2Access (w : Work) (f : Nat) (write : Bool) (size : Nat) (v : Word) : Option Work :=
  if size == 0 || 8 < size || 2 ^ 39 ≤ f then none
  else if !w.barOpen || 0x7800000000 < f + size then some w.refused
  else w.hostPlain f size write v

/-- The physical address that the aperture reaches at g, none where it completes as an Unsupported Request. -/
def aperturePa (w : Work) (g : Nat) : Option Nat :=
  if 0xF000 ≤ w.core.mgmt.pwin.toNat then none else some (w.core.mgmt.pwin.toNat * 0x800000 + g)

/-- An aperture access in views 1 to 3: any but an aligned one of 8 bytes completes as an Unsupported Request. -/
def apertureWord (w : Work) (r : Reach) (f : Nat → Work) : Option Work :=
  if 0x800000 ≤ r.offset || r.size == 0 || 8 < r.size then none
  else
    match w.aperturePa r.offset with
    | none => some w.refused
    | some pa => some (if !w.barOpen || r.offset % 8 != 0 || r.size != 8 then w.refused else f pa)

/-- APERTURE_PLAIN: any access within one word. -/
def aperturePlain (w : Work) (g : Nat) (write : Bool) (size : Nat) (v : Word) : Option Work :=
  if 0x800000 ≤ g || size == 0 || 8 < size then none
  else
    match w.aperturePa g with
    | none => some w.refused
    | some pa => if !w.barOpen || 8 < g % 8 + size then some w.refused else w.hostPlain pa size write v

/-- A word is neither claimed nor reserved (05 R95, R106; 11 R213). -/
def wordFree (w : Work) (k : Nat) : Bool := !w.core.claims.any (·.word == k) && !w.core.resv.any (·.word == k)

/-- A waiting form of the host at an offset of a view: the oldest such access that waits there, within its limit, and can be made is
made, at the address that M_PWIN gave it; where there is none, a new one is made, or waits from now on. -/
def hostWait (w : Work) (r : Reach) (view : Nat) (write : Bool) (v : Word) (ready : Nat → Bool) (make : Work → Nat → Word → Work) : Option Work :=
  let mine (h : HostOp) : Bool :=
    r.size == 8 && h.offset == r.offset && h.view == view && h.write == write && w.now ≤ h.since + 16 * 2 ^ w.core.mgmt.hwlim && ready h.pa
  match w.core.hostOps.find? mine with
  | some h =>
    let i := (w.core.hostOps.findIdx? mine).getD 0
    some (make { w with core := { w.core with hostOps := listErase i w.core.hostOps } } h.pa h.value)
  | none => w.apertureWord r (fun pa =>
    if ready pa then make w pa v
    else { w with core := { w.core with hostOps := w.core.hostOps ++ [⟨r.offset, pa, view, write, v, w.now⟩] } })

/-- APERTURE_WAITING_LOAD. -/
def apertureLoad (w : Work) (r : Reach) : Option Work :=
  w.hostWait r 1 false 0 (fun pa => w.isFull (pa / 8)) (fun w pa _ => w.answer pa (w.word pa))

/-- APERTURE_FILLING_STORE. -/
def apertureFill (w : Work) (r : Reach) (v : Word) : Option Work :=
  w.hostWait r 1 true v (fun pa => !w.isFull (pa / 8) && w.wordFree (pa / 8)) (fun w pa v => w.fillWord pa v)

/-- APERTURE_CONSUMING_LOAD: the read and the change of the bit are one event. -/
def apertureConsume (w : Work) (r : Reach) : Option Work :=
  w.hostWait r 2 false 0 (fun pa => w.isFull (pa / 8) && w.wordFree (pa / 8))
    (fun w pa _ => (w.answer pa (w.word pa)).setBit (pa / 8) false)

/-- APERTURE_CLEARING_STORE: it waits for a claim alone. -/
def apertureClear (w : Work) (r : Reach) (v : Word) : Option Work :=
  if (w.aperturePa r.offset).any (fun pa => w.core.claims.any (·.word == pa / 8)) then none
  else w.apertureWord r (fun pa => (w.putWord pa v).setBit (pa / 8) false)

/-- APERTURE_TEST; a write in view 3 is ignored. -/
def apertureTest (w : Work) (r : Reach) : Option Work := w.apertureWord r (fun pa =>
  if r.write then w else w.emit (.value (boolWord (w.isFull (pa / 8)))))

/-- HOST_WAIT_EXPIRE: after 16 × 2^HWLIM clk a read returns all ones and a write is dropped, and HWFAIL counts. -/
def hostExpire (w : Work) (k : Nat) : Option Work :=
  match w.core.hostOps[k]? with
  | none => none
  | some h =>
    if w.now < h.since + 16 * 2 ^ w.core.mgmt.hwlim then none
    else
      let w := { w with core := { w.core with hostOps := listErase k w.core.hostOps } }
      let w := w.onMgmt (fun m => { m with hwfail := m.hwfail + 1 })
      some (if h.write then w else w.emit (.value (BitVec.allOnes 64)))

/-! ### Management commands (23 R421) -/

/-- What a command answers: ERR, CAUSE, DETAIL. -/
abbrev CmdAnswer := Bool × Nat × Nat

/-- A command that is refused: CAUSE 0x06. -/
def refusal : CmdAnswer := (true, 6, 0)

/-- A write of M_CMD with a code, by a firmware store that stands posted at M_CMD, else by the host: ignored while BUSY; with STAGE =
0xF only code 5 is taken. The command runs, and its answer waits for M_CMD_COMPLETE. -/
def mgmtCommand (w : Work) (code : Nat) (run : Work → Work × CmdAnswer) : Work :=
  let fw := w.core.posted.head?.any (fun p => p.1 == 8 && bits p.2.1.toNat 60 4 == code)
  if !fw && !w.mgmtOpen then w.refused
  else
    let w := if fw then w.dropPosted else w
    if w.core.mgmt.busy then w
    else
      let r := if w.core.mgmt.stage == 15 && code != 5 then (w, refusal) else run w
      r.1.onMgmt (fun m => { m with busy := true, err := false, cause := 0, detail := 0, answer := some r.2 })

/-- The argument of a command. -/
def cmdArg (w : Work) : Nat := w.core.mgmt.arg.toNat

/-- Code 1: pre-empt the node at M_ARG (21 R404): refused for a replica mismatch (R411), and where the save areas have no room
(05 R89). One whose region holds a self-test takes the request when the test ends (R415). -/
def cmdPreempt (w : Work) : Work × CmdAnswer :=
  let named (g : Region) : Bool := g.node.any (fun n => low n.2 64 == w.cmdArg)
  match w.core.regions.find? (fun g => named g.2) with
  | none =>
    match w.core.saved.find? (fun s => named s.2.region && w.savedByTest s.2) with
    | none => (w, refusal)
    | some s => (w.askSaved s.2, (false, 0, 0))
  | some g =>
    if g.2.progress == .mismatch then (w, refusal)
    else
      match w.requestHalt g.1 false with
      | some w => (w, (false, 0, 0))
      | none => (w, if w.saveBlocks (w.gangOf g.1 g.2) ≤ 320 then refusal else (true, Cause.preempt, 0))

/-- Code 2: end the halted graph at M_ARG (21 R411). -/
def cmdEndGraph (w : Work) : Work × CmdAnswer :=
  let mine (g : Region) : Bool := g.progress == .mismatch && g.node.any (fun n => (w.replay n.1).any (fun r => low r.graph 64 == w.cmdArg))
  let ids := (w.core.regions.filter (fun g => mine g.2)).map (·.1)
  if ids.isEmpty then (w, refusal) else (ids.foldl (fun w r => w.contain r Cause.replicaMismatch) w, (false, 0, 0))

/-- The map of fenced tiles in an attestation report (21 R414). -/
def fenceMap (w : Work) : Nat := (List.range 160).foldl (fun m t => if (w.tile t).fence == .none then m else m + 2 ^ t) 0

/-- The bytes of an attestation report: the fields, an ECDSA signature of 96 bytes and an LMS signature of height 20 (07 R174). -/
def reportSize : Nat := 232 + 96 + 1772

/-- The measurements of an attestation report (21 R414): the SHA-384 of the boot firmware, of the engine firmware and of the image key record. -/
def measurements (w : Work) : List Nat :=
  let hash (bs : List Nat) : List Nat := (bytesOf 48 (sha384 bs.length (fromBig bs))).reverse
  hash w.core.bootFirm.body ++ hash w.core.engineFirm.body
    ++ hash (w.core.imageKeys.flatMap (fun k => (Config.keyRecord k).map BitVec.toNat))

/-- Code 3: attest into the host buffer at M_ARG (21 R414): the buffer's first 48 bytes are the nonce. -/
def cmdAttest (w : Work) : Work × CmdAnswer :=
  let pa := 0x4000000000000 + w.cmdArg
  if 0x7FF0000000000 < pa + reportSize || w.cmdArg % 8 != 0 then (w, refusal)
  else if 2 ^ 20 ≤ w.core.mgmt.leaf then (w, (true, Cause.allocExhausted, 0))
  else
    let leaf := w.core.mgmt.leaf
    let w := w.onMgmt (fun m => { m with leaf := leaf + 1 })
    let w := ((w.putBytes (pa + 48) w.measurements).store (pa + 192) 2 w.core.fusedVersion.toNat).store (pa + 194) 2 0
    let w := ((w.store (pa + 196) 4 leaf).store (pa + 200) 32 w.fenceMap).putOpen (pa + 232) 233
    let r := ({ w with core := { w.core with free := w.core.free + 1 } }).store (pa + 232 + 1864) 4 (Config.unstated w.core.free).toNat
    (r, (false, 0, reportSize))

/-- Code 4: clear the fence of tile M_ARG[7:0]. -/
def cmdClearFence (w : Work) : Work × CmdAnswer :=
  let t := bits w.cmdArg 0 8
  if 160 ≤ t then (w, refusal)
  else
    let w := w.setTile t { w.tile t with fence := .none }
    ({ w with core := { w.core with lateFences := w.core.lateFences.filter (·.1 != t) } }, (false, 0, 0))

/-- Code 6: HWLIM := M_ARG[4:0] (23 R420). -/
def cmdHwlim (w : Work) : Work × CmdAnswer := (w.onMgmt (fun m => { m with hwlim := bits w.cmdArg 0 5 }), (false, 0, 0))

/-- M_CMD_COMPLETE: the command's answer stands in M_RESP, and vector 1 is raised (23 R421, R422). -/
def cmdComplete (w : Work) : Option Work :=
  match w.core.mgmt.answer with
  | none => none
  | some a =>
    let m := w.core.mgmt
    let m := { m with busy := false, err := a.1, cause := a.2.1, detail := a.2.2, answer := none }
    some (({ w with core := { w.core with mgmt := m } }).raiseVector 1)

/-- M_STATUS_READ by the host: the value, and HWFAIL cleared. -/
def statusRead (w : Work) : Work :=
  if w.mgmtOpen then (w.emit (.value (BitVec.ofNat 64 w.core.mgmt.status))).onMgmt (fun m => { m with hwfail := 0 }) else w.refused

/-- A host read of BAR 0 below the aperture that has no row of its own (23 R419): it changes nothing. M_STATUS has the row
M_STATUS_READ. -/
def readRegister (w : Work) (o : Nat) : Work :=
  if o % 8 != 0 || 0x6000000 ≤ o || o == 0x4000000 then w
  else if (if o < 0x4000000 then w.barOpen else w.mgmtOpen) then w.emit (.value (w.readBar0 o)) else w.refused

/-! ### Resets and boot (23 R416, R426, R427) -/

/-- FUNCTION_LEVEL_RESET (23 R416, R420): every placed task ends, no host queue is enabled, HWLIM is 20. Clusters keep their state. -/
def functionReset (w : Work) : Work :=
  let w := (w.core.regions.map (·.1)).foldl (fun w r => let c := w.openCause; c.1.contain r c.2) w
  let off (q : HostQueue) : HostQueue := { q with ctl := q.ctl &&& 0x7FFFFFFFFFFFFFFF#64 }
  let core := { w.core with hostq := w.core.hostq.map (fun q => (q.1, off q.2)), mgmt := { w.core.mgmt with hwlim := 20 } }
  { w with core := core }

/-- The core after a device reset: all at reset but what no reset clears: fences, retired pages, the leaf index, and what stands outside
the device. -/
def resetCore (c : Core) (now : Nat) : Core :=
  let tiles := (List.range 164).map (fun t => (t, ({ fence := (mapGet {} t c.tiles).fence, cycle0 := now } : Tile)))
  let links := c.links.map (fun l => (l.1, ({ fenced := l.2.fenced, down := l.2.fenced == 3 } : Link)))
  { tiles := tiles, links := links, modules := c.modules, retired := c.retired, lateFences := c.lateFences,
    errlog := c.errlog, rootKey := c.rootKey, firmKeys := c.firmKeys, imageKeys := c.imageKeys, fusedVersion := c.fusedVersion,
    bootFirm := c.bootFirm, engineFirm := c.engineFirm, mgmt := { leaf := c.mgmt.leaf }, out := c.out, free := c.free }

/-- Write zeros and EMPTY from an address to the end of HBM user memory, around the retired pages, which are listed in order. -/
def wipe (w : Work) (start : Nat) : List Nat → Work
  | [] => w.resetWords start ((0x7A00000000 - start) / 8) false
  | p :: ps =>
    if p * 0x10000 < start then wipe w start ps
    else wipe (w.resetWords start ((p * 0x10000 - start) / 8) false) (p * 0x10000 + 0x10000) ps

/-- Insert a page in order. -/
def insertPage (p : Nat) : List Nat → List Nat
  | [] => [p]
  | q :: qs => if p ≤ q then p :: q :: qs else q :: insertPage p qs

/-- Step 2 of the boot (23 R426): HBM user memory and every stash word are at data 0 and EMPTY, with line checks that match. -/
def initMemory (w : Work) : Work :=
  let w := w.wipe 0 (w.core.retired.foldl (fun ps p => insertPage p ps) [])
  let w := w.resetWords (stashBase 0) (160 * 0x40000) false
  { w with core := { w.core with poison := w.core.poison.filter (fun p => isHost (p.1 * 64)) } }

/-- STAGE takes a value, and vector 1 is raised (23 R422); for a failure only if MSI-X is enabled (R426). -/
def setStage (w : Work) (n fail : Nat) : Work :=
  let w := w.onMgmt (fun m => { m with stage := n, fail := fail })
  if n == 15 && !w.core.mgmt.msixOn then w else w.raiseVector 1

/-- What the stage before finds of firmware (21 R412, R413): 0 where some key verifies both signatures and its version is not below the fused
one, else the code of FAIL. -/
def verdict (w : Work) (keys : List SigKey) (f : Firmware) : Nat :=
  if !keys.any (fun k => dualOk k f.body f.block) then 1
  else if (Config.securityVersion f.body).toNat < w.core.fusedVersion.toNat then 2
  else 0

/-- Fences that waited for the wake of a cluster are applied where it is not gated (23 R426: the stored fences). -/
def storedFences (w : Work) : Work :=
  let waits (f : Nat × Bool) : Bool := (mapGet ({} : Cluster) (clusterOf f.1) w.clusters).gated
  let due := w.core.lateFences.filter (fun f => !waits f)
  let w := { w with core := { w.core with lateFences := w.core.lateFences.filter waits } }
  due.foldl (fun w f =>
    w.setTile f.1 { w.tile f.1 with fence := if f.2 && (w.tile f.1).fence != .routerFaulty then .routerSound else .routerFaulty }) w

/-- BOOT_STAGE (23 R426; 21 R412, R413): the next stage begins, or the stage fails with a code of FAIL: that of the firmware which it
verifies, or one that BIST or training finds. -/
def bootStage (w : Work) (fail : Nat) : Option Work :=
  let s := w.core.mgmt.stage
  let found := match s with
    | 0 => w.verdict w.core.rootKey.toList w.core.bootFirm
    | 1 => w.verdict w.core.firmKeys w.core.engineFirm
    | _ => 0
  if 3 ≤ s || !(fail == found || (s == 1 && 3 ≤ fail && fail ≤ 5)) then none
  else if fail != 0 then some (w.setStage 15 fail)
  else if s == 1 then some (w.initMemory.storedFences.setStage 2 0)
  else some (w.setStage (s + 1) 0)

/-- The firmware that stands in host memory at an offset: `len` bytes, and the signature block after them. -/
def hostFirmware (w : Work) (o len : Nat) : Firmware :=
  let pa := 0x4000000000000 + o
  let n := 104 + min (w.load (pa + len + 4) 4) 9324
  { body := bytesOf len (w.load pa len), block := bytesOf n (w.load (pa + len) n) }

/-- Code 5 (23 R427): engine firmware of `len` bytes is fetched at M_ARG. One that verifies restarts the boot from step 2 with it; a
refused one leaves STAGE at 0xF, with CAUSE 0x13. -/
def cmdRecover (w : Work) (len : Nat) : Work × CmdAnswer :=
  let f := w.hostFirmware w.cmdArg len
  if 0x3FF0000000000 < w.cmdArg + len + 9428 then (w, refusal)
  else
    match w.verdict w.core.firmKeys f with
    | 0 =>
      let m := w.core.mgmt
      let w := { w with core := { resetCore w.core w.now with msix := w.core.msix, hostq := w.core.hostq, engineFirm := f } }
      ((w.onMgmt (fun _ => { m with stage := 0, fail := 0 })).setStage 1 0, (false, 0, 0))
    | n =>
      let w := if w.core.mgmt.stage == 15 then w.onMgmt (fun m => { m with fail := n }) else w.setStage 15 n
      (w, (true, Cause.uncorrectable, 0))

/-- CONFIGURATION_REQUEST (23 R426): retried until STAGE reaches 3. -/
def configRequest (w : Work) : Work := if w.core.mgmt.stage == 3 then w.emit .config else w.emit .retry

/-! ### Package links (23 R424, R425) -/

/-- LINK_FRAME_RECEIVE: a flit arrives on a channel of a link that is up, under the channel's 64 credits. -/
def frameReceive (w : Work) (l c kind tag mask payload : Nat) : Option Work :=
  let k := mapGet ({} : Link) l w.core.links
  let rx := mapGet [] c k.rx
  if 11 < l || 63 < c || k.down || 64 ≤ rx.length || 3 < kind || 3 < tag then none
  else
    let f : Flit := { kind := kind, tag := tag, mask := mask, payload := payload }
    some { w with core := { w.core with links := mapSet l { k with rx := mapSet c (rx ++ [f]) k.rx } w.core.links } }

/-- CHANNEL_BIND: firmware binds a channel to a local and a peer ASID. -/
def channelBind (w : Work) (l c asid peer : Nat) : Option Work :=
  let k := mapGet ({} : Link) l w.core.links
  if 11 < l || 63 < c || 1023 < asid || 1023 < peer then none
  else some { w with core := { w.core with links := mapSet l { k with binds := mapSet c (asid, peer) k.binds } w.core.links } }

end Work

/-! ### Meanings -/

/-- Q_TAIL_WRITE (19 R363). -/
def execQTailWrite (queue : Nat) (value : BitVec 64) (s : State) : Host.Outcome State Fault Refusal :=
  happen (fun w => w.queueWrite queue (fun w => w.writeQueueTail queue value)) s

/-- Q_CTL_WRITE (19 R363). -/
def execQCtlWrite (queue : Nat) (value : BitVec 64) (s : State) : Host.Outcome State Fault Refusal :=
  happen (fun w => w.queueWrite queue (fun w => w.writeQueueCtl queue value)) s

/-- BAR2_ACCESS (23 R420). -/
def execBar2Access (addr : Nat) (write : Bool) (size : Nat) (value : BitVec 64) (s : State) : Host.Outcome State Fault Refusal :=
  happen (fun w => w.bar2Access addr write size value) s

/-- APERTURE_PLAIN (23 R420). -/
def execAperturePlain (addr : Nat) (write : Bool) (size : Nat) (value : BitVec 64) (s : State) : Host.Outcome State Fault Refusal :=
  happen (fun w => w.aperturePlain addr write size value) s

/-- APERTURE_WAITING_LOAD (23 R420). -/
def execApertureWaitingLoad (addr : Reach) (s : State) : Host.Outcome State Fault Refusal := happen (fun w => w.apertureLoad addr) s

/-- APERTURE_FILLING_STORE (23 R420). -/
def execApertureFillingStore (addr : Reach) (value : BitVec 64) (s : State) : Host.Outcome State Fault Refusal :=
  happen (fun w => w.apertureFill addr value) s

/-- APERTURE_CONSUMING_LOAD (23 R420). -/
def execApertureConsumingLoad (addr : Reach) (s : State) : Host.Outcome State Fault Refusal :=
  happen (fun w => w.apertureConsume addr) s

/-- APERTURE_CLEARING_STORE (23 R420). -/
def execApertureClearingStore (addr : Reach) (value : BitVec 64) (s : State) : Host.Outcome State Fault Refusal :=
  happen (fun w => w.apertureClear addr value) s

/-- APERTURE_TEST (23 R420). -/
def execApertureTest (addr : Reach) (s : State) : Host.Outcome State Fault Refusal := happen (fun w => w.apertureTest addr) s

/-- HOST_WAIT_EXPIRE (23 R420). -/
def execHostWaitExpire (k : Nat) (s : State) : Host.Outcome State Fault Refusal := happen (fun w => w.hostExpire k) s

/-- MSIX_UNMASK (23 R422). -/
def execMsixUnmask (vector : Nat) (s : State) : Host.Outcome State Fault Refusal :=
  happen (fun w => if 2047 < vector then none else some (if w.mgmtOpen then w.maskVector vector false else w.refused)) s

/-- M_CMD_PREEMPT (23 R421). -/
def execMCmdPreempt (s : State) : Host.Outcome State Fault Refusal := happen (fun w => Work.unlessClaimed (some (w.mgmtCommand 1 Work.cmdPreempt))) s

/-- M_CMD_END_GRAPH (23 R421; 21 R411). -/
def execMCmdEndGraph (s : State) : Host.Outcome State Fault Refusal := 
  happen (fun w => Work.unlessClaimed (some (w.mgmtCommand 2 Work.cmdEndGraph))) s

/-- M_CMD_ATTEST (23 R421; 21 R414). -/
def execMCmdAttest (s : State) : Host.Outcome State Fault Refusal :=
  happen (fun w => Work.unlessClaimed (some (w.mgmtCommand 3 Work.cmdAttest))) s

/-- M_CMD_CLEAR_FENCE (23 R421). -/
def execMCmdClearFence (s : State) : Host.Outcome State Fault Refusal := happen (fun w => some (w.mgmtCommand 4 Work.cmdClearFence)) s

/-- M_CMD_RECOVER (23 R427). -/
def execMCmdRecover (len : Nat) (s : State) : Host.Outcome State Fault Refusal :=
  happen (fun w => some (w.mgmtCommand 5 (fun w => w.cmdRecover len))) s

/-- M_CMD_SET_HWLIM (23 R420, R421). -/
def execMCmdSetHwlim (s : State) : Host.Outcome State Fault Refusal := happen (fun w => some (w.mgmtCommand 6 Work.cmdHwlim)) s

/-- M_CMD_REFUSED (23 R421): codes 0 and 7 to 15. -/
def execMCmdRefused (code : Nat) (s : State) : Host.Outcome State Fault Refusal :=
  happen (fun w => if code == 0 || (7 ≤ code && code ≤ 15) then some (w.mgmtCommand code (fun w => (w, Work.refusal))) else none) s

/-- M_CMD_COMPLETE (23 R421, R422). -/
def execMCmdComplete (s : State) : Host.Outcome State Fault Refusal := happen Work.cmdComplete s

/-- M_STATUS_READ (23 R421). -/
def execMStatusRead (s : State) : Host.Outcome State Fault Refusal := happen (fun w => some w.statusRead) s

/-- FUNCTION_LEVEL_RESET (23 R416). -/
def execFunctionLevelReset (s : State) : Host.Outcome State Fault Refusal := happen (fun w => some w.functionReset) s

/-- BOOT_STAGE (23 R426). -/
def execBootStage (fail : Nat) (s : State) : Host.Outcome State Fault Refusal := happen (fun w => w.bootStage fail) s

/-- CONFIGURATION_REQUEST (23 R426). -/
def execConfigurationRequest (s : State) : Host.Outcome State Fault Refusal := happen (fun w => some w.configRequest) s

/-- LINK_FRAME_RECEIVE (23 R425). -/
def execLinkFrameReceive (link channel kind tag mask payload : Nat) (s : State) : Host.Outcome State Fault Refusal :=
  happen (fun w => w.frameReceive link channel kind tag mask payload) s

/-- CHANNEL_BIND (23 R425). -/
def execChannelBind (link channel asid peer : Nat) (s : State) : Host.Outcome State Fault Refusal :=
  happen (fun w => w.channelBind link channel asid peer) s

/-- CLOCK_THROTTLE (00 R3): counts in clk are unchanged. -/
def execClockThrottle (level : Nat) (s : State) : Host.Outcome State Fault Refusal :=
  happen (fun w => some { w with core := { w.core with throttle := level } }) s

end Sys2Proof.Machine
end

