-- ==== Sys2Proof/Machine/Integer.lean ====
section
/-! DEFINITION. Integer and logic, multiply and divide, one-operand, immediate, bit-field, LEA, compare, constant and move
instructions (09 R185 to R195). The results are functions of the operands; each meaning fires one of them. -/

namespace Sys2Proof.Machine

open Sys2Proof

/-! ### Results -/

/-- Arithmetic shift right (09 R185). -/
def sar (a : Word) (n : Nat) : Word := a.sshiftRight n

/-- The low 32 bits, sign-extended (09 R185, R186). -/
def sextW (a : Word) : Word := (a.setWidth 32).signExtend 64

/-- The smaller or larger of two values as I64. -/
def minS (a b : Word) : Word := if a.slt b then a else b
def maxS (a b : Word) : Word := if a.slt b then b else a
/-- The smaller or larger of two values as N64. -/
def minU (a b : Word) : Word := if a < b then a else b
def maxU (a b : Word) : Word := if a < b then b else a

/-- Bits [127:64] of an exact product (09 R186). -/
def highOf (p : Int) : Word := BitVec.ofInt 64 (p / 2 ^ 64)

/-- Quotient and rest of signed `n`-bit operands (09 R186): toward zero, all ones by zero. -/
def divS {n : Nat} (x y : BitVec n) : BitVec n := if y = 0 then BitVec.allOnes n else x.sdiv y
def remS {n : Nat} (x y : BitVec n) : BitVec n := if y = 0 then x else x.srem y
/-- Quotient and rest of unsigned operands. -/
def divU {n : Nat} (x y : BitVec n) : BitVec n := if y = 0 then BitVec.allOnes n else x / y
def remU {n : Nat} (x y : BitVec n) : BitVec n := if y = 0 then x else x % y

/-- A 32-bit operation whose result is sign-extended (09 R186). -/
def onW (f : BitVec 32 → BitVec 32 → BitVec 32) (a b : Word) : Word := (f (a.setWidth 32) (b.setWidth 32)).signExtend 64

/-- Leading zero bits of the low `n` bits. -/
def clzFrom (a : Word) : Nat → Nat
  | 0 => 0
  | n + 1 => if a.getLsbD n then 0 else 1 + clzFrom a n

/-- Trailing zero bits, with `n` bits left to look at, the first of them bit 64 − n. -/
def ctzFrom (a : Word) : Nat → Nat
  | 0 => 0
  | n + 1 => if a.getLsbD (63 - n) then 0 else 1 + ctzFrom a n

/-- One bits among the low `n` bits. -/
def popFrom (a : Word) : Nat → Nat
  | 0 => 0
  | n + 1 => (if a.getLsbD n then 1 else 0) + popFrom a n

/-- The low `n` bits in reverse order, as a number. -/
def revFrom (a : Word) : Nat → Nat
  | 0 => 0
  | n + 1 => (if a.getLsbD (63 - n) then 2 ^ n else 0) + revFrom a n

/-- The eight bytes in reverse order. -/
def bswapFrom (a : Nat) : Nat → Nat
  | 0 => 0
  | n + 1 => a / 256 ^ (7 - n) % 256 * 256 ^ n + bswapFrom a n

/-- The mask of `len` bits at `pos` (09 R189). -/
def fieldMask (pos len : Nat) : Word := BitVec.ofNat 64 ((2 ^ len - 1) * 2 ^ pos)

/-- EXT: the field at `pos` of `len` bits (09 R189). -/
def extField (a : Word) (pos len : Nat) : Word := BitVec.ofNat 64 (bits a.toNat pos len)

/-- EXTS: the field, sign-extended (09 R189). -/
def extsField (a : Word) (pos len : Nat) : Word := BitVec.ofInt 64 (BitVec.ofNat len (bits a.toNat pos len)).toInt

/-- INS: `f` inserted into `a` (09 R189). -/
def insField (a f : Word) (pos len : Nat) : Word := (a &&& ~~~(fieldMask pos len)) ||| ((f <<< pos) &&& fieldMask pos len)

/-- imm14 sign-extended (07 R147). -/
def immWord (imm : BitVec 14) : Word := imm.signExtend 64

/-! ### Meanings -/

/-- ADD (09 R185). -/
def execAdd (pr : BitVec 2) (t1 : BitVec 9) (t0 : BitVec 9) (s : State) : Host.Outcome State Fault Refusal :=
  fireAlu (shape (.add pr t1 t0)) 1 (fun a b _ => a + b) s

/-- SUB (09 R185). -/
def execSub (pr : BitVec 2) (t1 : BitVec 9) (t0 : BitVec 9) (s : State) : Host.Outcome State Fault Refusal :=
  fireAlu (shape (.sub pr t1 t0)) 1 (fun a b _ => a - b) s

/-- AND (09 R185). -/
def execAnd (pr : BitVec 2) (t1 : BitVec 9) (t0 : BitVec 9) (s : State) : Host.Outcome State Fault Refusal :=
  fireAlu (shape (.and pr t1 t0)) 1 (fun a b _ => a &&& b) s

/-- OR (09 R185). -/
def execOr (pr : BitVec 2) (t1 : BitVec 9) (t0 : BitVec 9) (s : State) : Host.Outcome State Fault Refusal :=
  fireAlu (shape (.or pr t1 t0)) 1 (fun a b _ => a ||| b) s

/-- XOR (09 R185). -/
def execXor (pr : BitVec 2) (t1 : BitVec 9) (t0 : BitVec 9) (s : State) : Host.Outcome State Fault Refusal :=
  fireAlu (shape (.xor pr t1 t0)) 1 (fun a b _ => a ^^^ b) s

/-- ANDN (09 R185). -/
def execAndn (pr : BitVec 2) (t1 : BitVec 9) (t0 : BitVec 9) (s : State) : Host.Outcome State Fault Refusal :=
  fireAlu (shape (.andn pr t1 t0)) 1 (fun a b _ => a &&& ~~~b) s

/-- ORN (09 R185). -/
def execOrn (pr : BitVec 2) (t1 : BitVec 9) (t0 : BitVec 9) (s : State) : Host.Outcome State Fault Refusal :=
  fireAlu (shape (.orn pr t1 t0)) 1 (fun a b _ => a ||| ~~~b) s

/-- XNOR (09 R185). -/
def execXnor (pr : BitVec 2) (t1 : BitVec 9) (t0 : BitVec 9) (s : State) : Host.Outcome State Fault Refusal :=
  fireAlu (shape (.xnor pr t1 t0)) 1 (fun a b _ => ~~~(a ^^^ b)) s

/-- SHL (09 R185). -/
def execShl (pr : BitVec 2) (t1 : BitVec 9) (t0 : BitVec 9) (s : State) : Host.Outcome State Fault Refusal :=
  fireAlu (shape (.shl pr t1 t0)) 1 (fun a b _ => a <<< (b.toNat % 64)) s

/-- SHR (09 R185). -/
def execShr (pr : BitVec 2) (t1 : BitVec 9) (t0 : BitVec 9) (s : State) : Host.Outcome State Fault Refusal :=
  fireAlu (shape (.shr pr t1 t0)) 1 (fun a b _ => a >>> (b.toNat % 64)) s

/-- SAR (09 R185). -/
def execSar (pr : BitVec 2) (t1 : BitVec 9) (t0 : BitVec 9) (s : State) : Host.Outcome State Fault Refusal :=
  fireAlu (shape (.sar pr t1 t0)) 1 (fun a b _ => sar a (b.toNat % 64)) s

/-- ROL (09 R185). -/
def execRol (pr : BitVec 2) (t1 : BitVec 9) (t0 : BitVec 9) (s : State) : Host.Outcome State Fault Refusal :=
  fireAlu (shape (.rol pr t1 t0)) 1 (fun a b _ => a.rotateLeft (b.toNat % 64)) s

/-- ROR (09 R185). -/
def execRor (pr : BitVec 2) (t1 : BitVec 9) (t0 : BitVec 9) (s : State) : Host.Outcome State Fault Refusal :=
  fireAlu (shape (.ror pr t1 t0)) 1 (fun a b _ => a.rotateRight (b.toNat % 64)) s

/-- MIN (09 R185). -/
def execMin (pr : BitVec 2) (t1 : BitVec 9) (t0 : BitVec 9) (s : State) : Host.Outcome State Fault Refusal :=
  fireAlu (shape (.min pr t1 t0)) 1 (fun a b _ => minS a b) s

/-- MAX (09 R185). -/
def execMax (pr : BitVec 2) (t1 : BitVec 9) (t0 : BitVec 9) (s : State) : Host.Outcome State Fault Refusal :=
  fireAlu (shape (.max pr t1 t0)) 1 (fun a b _ => maxS a b) s

/-- MINU (09 R185). -/
def execMinu (pr : BitVec 2) (t1 : BitVec 9) (t0 : BitVec 9) (s : State) : Host.Outcome State Fault Refusal :=
  fireAlu (shape (.minu pr t1 t0)) 1 (fun a b _ => minU a b) s

/-- MAXU (09 R185). -/
def execMaxu (pr : BitVec 2) (t1 : BitVec 9) (t0 : BitVec 9) (s : State) : Host.Outcome State Fault Refusal :=
  fireAlu (shape (.maxu pr t1 t0)) 1 (fun a b _ => maxU a b) s

/-- ADDW (09 R185). -/
def execAddw (pr : BitVec 2) (t1 : BitVec 9) (t0 : BitVec 9) (s : State) : Host.Outcome State Fault Refusal :=
  fireAlu (shape (.addw pr t1 t0)) 1 (fun a b _ => sextW (a + b)) s

/-- SUBW (09 R185). -/
def execSubw (pr : BitVec 2) (t1 : BitVec 9) (t0 : BitVec 9) (s : State) : Host.Outcome State Fault Refusal :=
  fireAlu (shape (.subw pr t1 t0)) 1 (fun a b _ => sextW (a - b)) s

/-- MUL (09 R186). -/
def execMul (pr : BitVec 2) (t1 : BitVec 9) (t0 : BitVec 9) (s : State) : Host.Outcome State Fault Refusal :=
  fireAlu (shape (.mul pr t1 t0)) 3 (fun a b _ => a * b) s

/-- MULH (09 R186). -/
def execMulh (pr : BitVec 2) (t1 : BitVec 9) (t0 : BitVec 9) (s : State) : Host.Outcome State Fault Refusal :=
  fireAlu (shape (.mulh pr t1 t0)) 3 (fun a b _ => highOf (a.toInt * b.toInt)) s

/-- MULHU (09 R186). -/
def execMulhu (pr : BitVec 2) (t1 : BitVec 9) (t0 : BitVec 9) (s : State) : Host.Outcome State Fault Refusal :=
  fireAlu (shape (.mulhu pr t1 t0)) 3 (fun a b _ => highOf (a.toNat * b.toNat)) s

/-- MULHSU (09 R186). -/
def execMulhsu (pr : BitVec 2) (t1 : BitVec 9) (t0 : BitVec 9) (s : State) : Host.Outcome State Fault Refusal :=
  fireAlu (shape (.mulhsu pr t1 t0)) 3 (fun a b _ => highOf (a.toInt * b.toNat)) s

/-- DIV (09 R186). -/
def execDiv (pr : BitVec 2) (t1 : BitVec 9) (t0 : BitVec 9) (s : State) : Host.Outcome State Fault Refusal :=
  fireAlu (shape (.div pr t1 t0)) 36 (fun a b _ => divS a b) s

/-- DIVU (09 R186). -/
def execDivu (pr : BitVec 2) (t1 : BitVec 9) (t0 : BitVec 9) (s : State) : Host.Outcome State Fault Refusal :=
  fireAlu (shape (.divu pr t1 t0)) 36 (fun a b _ => divU a b) s

/-- REM (09 R186). -/
def execRem (pr : BitVec 2) (t1 : BitVec 9) (t0 : BitVec 9) (s : State) : Host.Outcome State Fault Refusal :=
  fireAlu (shape (.rem pr t1 t0)) 36 (fun a b _ => remS a b) s

/-- REMU (09 R186). -/
def execRemu (pr : BitVec 2) (t1 : BitVec 9) (t0 : BitVec 9) (s : State) : Host.Outcome State Fault Refusal :=
  fireAlu (shape (.remu pr t1 t0)) 36 (fun a b _ => remU a b) s

/-- MULW (09 R186). -/
def execMulw (pr : BitVec 2) (t1 : BitVec 9) (t0 : BitVec 9) (s : State) : Host.Outcome State Fault Refusal :=
  fireAlu (shape (.mulw pr t1 t0)) 3 (fun a b _ => onW (fun x y => x * y) a b) s

/-- DIVW (09 R186). -/
def execDivw (pr : BitVec 2) (t1 : BitVec 9) (t0 : BitVec 9) (s : State) : Host.Outcome State Fault Refusal :=
  fireAlu (shape (.divw pr t1 t0)) 36 (fun a b _ => onW divS a b) s

/-- DIVUW (09 R186). -/
def execDivuw (pr : BitVec 2) (t1 : BitVec 9) (t0 : BitVec 9) (s : State) : Host.Outcome State Fault Refusal :=
  fireAlu (shape (.divuw pr t1 t0)) 36 (fun a b _ => onW divU a b) s

/-- REMW (09 R186). -/
def execRemw (pr : BitVec 2) (t1 : BitVec 9) (t0 : BitVec 9) (s : State) : Host.Outcome State Fault Refusal :=
  fireAlu (shape (.remw pr t1 t0)) 36 (fun a b _ => onW remS a b) s

/-- REMUW (09 R186). -/
def execRemuw (pr : BitVec 2) (t1 : BitVec 9) (t0 : BitVec 9) (s : State) : Host.Outcome State Fault Refusal :=
  fireAlu (shape (.remuw pr t1 t0)) 36 (fun a b _ => onW remU a b) s

/-- CLZ (09 R187). -/
def execClz (pr : BitVec 2) (t1 : BitVec 9) (t0 : BitVec 9) (s : State) : Host.Outcome State Fault Refusal :=
  fireAlu (shape (.clz pr t1 t0)) 1 (fun a _ _ => BitVec.ofNat 64 (clzFrom a 64)) s

/-- CTZ (09 R187). -/
def execCtz (pr : BitVec 2) (t1 : BitVec 9) (t0 : BitVec 9) (s : State) : Host.Outcome State Fault Refusal :=
  fireAlu (shape (.ctz pr t1 t0)) 1 (fun a _ _ => BitVec.ofNat 64 (ctzFrom a 64)) s

/-- POPC (09 R187). -/
def execPopc (pr : BitVec 2) (t1 : BitVec 9) (t0 : BitVec 9) (s : State) : Host.Outcome State Fault Refusal :=
  fireAlu (shape (.popc pr t1 t0)) 1 (fun a _ _ => BitVec.ofNat 64 (popFrom a 64)) s

/-- BREV (09 R187). -/
def execBrev (pr : BitVec 2) (t1 : BitVec 9) (t0 : BitVec 9) (s : State) : Host.Outcome State Fault Refusal :=
  fireAlu (shape (.brev pr t1 t0)) 1 (fun a _ _ => BitVec.ofNat 64 (revFrom a 64)) s

/-- BSWAP (09 R187). -/
def execBswap (pr : BitVec 2) (t1 : BitVec 9) (t0 : BitVec 9) (s : State) : Host.Outcome State Fault Refusal :=
  fireAlu (shape (.bswap pr t1 t0)) 1 (fun a _ _ => BitVec.ofNat 64 (bswapFrom a.toNat 8)) s

/-- SEXTB (09 R187). -/
def execSextb (pr : BitVec 2) (t1 : BitVec 9) (t0 : BitVec 9) (s : State) : Host.Outcome State Fault Refusal :=
  fireAlu (shape (.sextb pr t1 t0)) 1 (fun a _ _ => (a.setWidth 8).signExtend 64) s

/-- SEXTH (09 R187). -/
def execSexth (pr : BitVec 2) (t1 : BitVec 9) (t0 : BitVec 9) (s : State) : Host.Outcome State Fault Refusal :=
  fireAlu (shape (.sexth pr t1 t0)) 1 (fun a _ _ => (a.setWidth 16).signExtend 64) s

/-- SEXTW (09 R187). -/
def execSextw (pr : BitVec 2) (t1 : BitVec 9) (t0 : BitVec 9) (s : State) : Host.Outcome State Fault Refusal :=
  fireAlu (shape (.sextw pr t1 t0)) 1 (fun a _ _ => (a.setWidth 32).signExtend 64) s

/-- ZEXTB (09 R187). -/
def execZextb (pr : BitVec 2) (t1 : BitVec 9) (t0 : BitVec 9) (s : State) : Host.Outcome State Fault Refusal :=
  fireAlu (shape (.zextb pr t1 t0)) 1 (fun a _ _ => (a.setWidth 8).setWidth 64) s

/-- ZEXTH (09 R187). -/
def execZexth (pr : BitVec 2) (t1 : BitVec 9) (t0 : BitVec 9) (s : State) : Host.Outcome State Fault Refusal :=
  fireAlu (shape (.zexth pr t1 t0)) 1 (fun a _ _ => (a.setWidth 16).setWidth 64) s

/-- ZEXTW (09 R187). -/
def execZextw (pr : BitVec 2) (t1 : BitVec 9) (t0 : BitVec 9) (s : State) : Host.Outcome State Fault Refusal :=
  fireAlu (shape (.zextw pr t1 t0)) 1 (fun a _ _ => (a.setWidth 32).setWidth 64) s

/-- ADDI (09 R188). -/
def execAddi (pr : BitVec 2) (imm : BitVec 14) (t0 : BitVec 9) (s : State) : Host.Outcome State Fault Refusal :=
  fireAlu (shape (.addi pr imm t0)) 1 (fun a _ _ => a + immWord imm) s

/-- ANDI (09 R188). -/
def execAndi (pr : BitVec 2) (imm : BitVec 14) (t0 : BitVec 9) (s : State) : Host.Outcome State Fault Refusal :=
  fireAlu (shape (.andi pr imm t0)) 1 (fun a _ _ => a &&& immWord imm) s

/-- ORI (09 R188). -/
def execOri (pr : BitVec 2) (imm : BitVec 14) (t0 : BitVec 9) (s : State) : Host.Outcome State Fault Refusal :=
  fireAlu (shape (.ori pr imm t0)) 1 (fun a _ _ => a ||| immWord imm) s

/-- XORI (09 R188). -/
def execXori (pr : BitVec 2) (imm : BitVec 14) (t0 : BitVec 9) (s : State) : Host.Outcome State Fault Refusal :=
  fireAlu (shape (.xori pr imm t0)) 1 (fun a _ _ => a ^^^ immWord imm) s

/-- SHLI (09 R188). -/
def execShli (pr : BitVec 2) (cnt : BitVec 6) (t0 : BitVec 9) (s : State) : Host.Outcome State Fault Refusal :=
  fireAlu (shape (.shli pr cnt t0)) 1 (fun a _ _ => a <<< cnt.toNat) s

/-- SHRI (09 R188). -/
def execShri (pr : BitVec 2) (cnt : BitVec 6) (t0 : BitVec 9) (s : State) : Host.Outcome State Fault Refusal :=
  fireAlu (shape (.shri pr cnt t0)) 1 (fun a _ _ => a >>> cnt.toNat) s

/-- SARI (09 R188). -/
def execSari (pr : BitVec 2) (cnt : BitVec 6) (t0 : BitVec 9) (s : State) : Host.Outcome State Fault Refusal :=
  fireAlu (shape (.sari pr cnt t0)) 1 (fun a _ _ => sar a cnt.toNat) s

/-- MULI (09 R188). -/
def execMuli (pr : BitVec 2) (imm : BitVec 14) (t0 : BitVec 9) (s : State) : Host.Outcome State Fault Refusal :=
  fireAlu (shape (.muli pr imm t0)) 3 (fun a _ _ => a * immWord imm) s

/-- EXT (09 R189). -/
def execExt (pr : BitVec 2) (len : BitVec 6) (pos : BitVec 6) (t0 : BitVec 9) (s : State) : Host.Outcome State Fault Refusal :=
  fireAlu (shape (.ext pr len pos t0)) 1 (fun a _ _ => extField a pos.toNat (len.toNat + 1)) s

/-- EXTS (09 R189). -/
def execExts (pr : BitVec 2) (len : BitVec 6) (pos : BitVec 6) (t0 : BitVec 9) (s : State) : Host.Outcome State Fault Refusal :=
  fireAlu (shape (.exts pr len pos t0)) 1 (fun a _ _ => extsField a pos.toNat (len.toNat + 1)) s

/-- INS (09 R189). -/
def execIns (pr : BitVec 2) (len : BitVec 6) (pos : BitVec 6) (t0 : BitVec 9) (s : State) : Host.Outcome State Fault Refusal :=
  fireAlu (shape (.ins pr len pos t0)) 1 (fun a b _ => insField a b pos.toNat (len.toNat + 1)) s

/-- LEA1 (09 R190). -/
def execLea1 (pr : BitVec 2) (t1 : BitVec 9) (t0 : BitVec 9) (s : State) : Host.Outcome State Fault Refusal :=
  fireAlu (shape (.lea1 pr t1 t0)) 1 (fun a b _ => a + (b <<< 0)) s

/-- LEA2 (09 R190). -/
def execLea2 (pr : BitVec 2) (t1 : BitVec 9) (t0 : BitVec 9) (s : State) : Host.Outcome State Fault Refusal :=
  fireAlu (shape (.lea2 pr t1 t0)) 1 (fun a b _ => a + (b <<< 1)) s

/-- LEA4 (09 R190). -/
def execLea4 (pr : BitVec 2) (t1 : BitVec 9) (t0 : BitVec 9) (s : State) : Host.Outcome State Fault Refusal :=
  fireAlu (shape (.lea4 pr t1 t0)) 1 (fun a b _ => a + (b <<< 2)) s

/-- LEA8 (09 R190). -/
def execLea8 (pr : BitVec 2) (t1 : BitVec 9) (t0 : BitVec 9) (s : State) : Host.Outcome State Fault Refusal :=
  fireAlu (shape (.lea8 pr t1 t0)) 1 (fun a b _ => a + (b <<< 3)) s

/-- LEA16 (09 R190). -/
def execLea16 (pr : BitVec 2) (t1 : BitVec 9) (t0 : BitVec 9) (s : State) : Host.Outcome State Fault Refusal :=
  fireAlu (shape (.lea16 pr t1 t0)) 1 (fun a b _ => a + (b <<< 4)) s

/-- TEQ (09 R191). -/
def execTeq (pr : BitVec 2) (t1 : BitVec 9) (t0 : BitVec 9) (s : State) : Host.Outcome State Fault Refusal :=
  fireAlu (shape (.teq pr t1 t0)) 1 (fun a b _ => boolWord (a == b)) s

/-- TNE (09 R191). -/
def execTne (pr : BitVec 2) (t1 : BitVec 9) (t0 : BitVec 9) (s : State) : Host.Outcome State Fault Refusal :=
  fireAlu (shape (.tne pr t1 t0)) 1 (fun a b _ => boolWord (a != b)) s

/-- TLT (09 R191). -/
def execTlt (pr : BitVec 2) (t1 : BitVec 9) (t0 : BitVec 9) (s : State) : Host.Outcome State Fault Refusal :=
  fireAlu (shape (.tlt pr t1 t0)) 1 (fun a b _ => boolWord (a.slt b)) s

/-- TLE (09 R191). -/
def execTle (pr : BitVec 2) (t1 : BitVec 9) (t0 : BitVec 9) (s : State) : Host.Outcome State Fault Refusal :=
  fireAlu (shape (.tle pr t1 t0)) 1 (fun a b _ => boolWord (a.sle b)) s

/-- TGT (09 R191). -/
def execTgt (pr : BitVec 2) (t1 : BitVec 9) (t0 : BitVec 9) (s : State) : Host.Outcome State Fault Refusal :=
  fireAlu (shape (.tgt pr t1 t0)) 1 (fun a b _ => boolWord (b.slt a)) s

/-- TGE (09 R191). -/
def execTge (pr : BitVec 2) (t1 : BitVec 9) (t0 : BitVec 9) (s : State) : Host.Outcome State Fault Refusal :=
  fireAlu (shape (.tge pr t1 t0)) 1 (fun a b _ => boolWord (b.sle a)) s

/-- TLTU (09 R191). -/
def execTltu (pr : BitVec 2) (t1 : BitVec 9) (t0 : BitVec 9) (s : State) : Host.Outcome State Fault Refusal :=
  fireAlu (shape (.tltu pr t1 t0)) 1 (fun a b _ => boolWord (a.ult b)) s

/-- TLEU (09 R191). -/
def execTleu (pr : BitVec 2) (t1 : BitVec 9) (t0 : BitVec 9) (s : State) : Host.Outcome State Fault Refusal :=
  fireAlu (shape (.tleu pr t1 t0)) 1 (fun a b _ => boolWord (a.ule b)) s

/-- TGTU (09 R191). -/
def execTgtu (pr : BitVec 2) (t1 : BitVec 9) (t0 : BitVec 9) (s : State) : Host.Outcome State Fault Refusal :=
  fireAlu (shape (.tgtu pr t1 t0)) 1 (fun a b _ => boolWord (b.ult a)) s

/-- TGEU (09 R191). -/
def execTgeu (pr : BitVec 2) (t1 : BitVec 9) (t0 : BitVec 9) (s : State) : Host.Outcome State Fault Refusal :=
  fireAlu (shape (.tgeu pr t1 t0)) 1 (fun a b _ => boolWord (b.ule a)) s

/-- TBS (09 R191). -/
def execTbs (pr : BitVec 2) (t1 : BitVec 9) (t0 : BitVec 9) (s : State) : Host.Outcome State Fault Refusal :=
  fireAlu (shape (.tbs pr t1 t0)) 1 (fun a b _ => boolWord (bit a.toNat (b.toNat % 64))) s

/-- TBC (09 R191). -/
def execTbc (pr : BitVec 2) (t1 : BitVec 9) (t0 : BitVec 9) (s : State) : Host.Outcome State Fault Refusal :=
  fireAlu (shape (.tbc pr t1 t0)) 1 (fun a b _ => boolWord (!bit a.toNat (b.toNat % 64))) s

/-- TEQI (09 R192). -/
def execTeqi (pr : BitVec 2) (imm : BitVec 14) (t0 : BitVec 9) (s : State) : Host.Outcome State Fault Refusal :=
  fireAlu (shape (.teqi pr imm t0)) 1 (fun a _ _ => boolWord (a == (immWord imm))) s

/-- TNEI (09 R192). -/
def execTnei (pr : BitVec 2) (imm : BitVec 14) (t0 : BitVec 9) (s : State) : Host.Outcome State Fault Refusal :=
  fireAlu (shape (.tnei pr imm t0)) 1 (fun a _ _ => boolWord (a != (immWord imm))) s

/-- TLTI (09 R192). -/
def execTlti (pr : BitVec 2) (imm : BitVec 14) (t0 : BitVec 9) (s : State) : Host.Outcome State Fault Refusal :=
  fireAlu (shape (.tlti pr imm t0)) 1 (fun a _ _ => boolWord (a.slt (immWord imm))) s

/-- TLEI (09 R192). -/
def execTlei (pr : BitVec 2) (imm : BitVec 14) (t0 : BitVec 9) (s : State) : Host.Outcome State Fault Refusal :=
  fireAlu (shape (.tlei pr imm t0)) 1 (fun a _ _ => boolWord (a.sle (immWord imm))) s

/-- TGTI (09 R192). -/
def execTgti (pr : BitVec 2) (imm : BitVec 14) (t0 : BitVec 9) (s : State) : Host.Outcome State Fault Refusal :=
  fireAlu (shape (.tgti pr imm t0)) 1 (fun a _ _ => boolWord ((immWord imm).slt a)) s

/-- TGEI (09 R192). -/
def execTgei (pr : BitVec 2) (imm : BitVec 14) (t0 : BitVec 9) (s : State) : Host.Outcome State Fault Refusal :=
  fireAlu (shape (.tgei pr imm t0)) 1 (fun a _ _ => boolWord ((immWord imm).sle a)) s

/-- TLTUI (09 R192). -/
def execTltui (pr : BitVec 2) (imm : BitVec 14) (t0 : BitVec 9) (s : State) : Host.Outcome State Fault Refusal :=
  fireAlu (shape (.tltui pr imm t0)) 1 (fun a _ _ => boolWord (a.ult (immWord imm))) s

/-- TGEUI (09 R192). -/
def execTgeui (pr : BitVec 2) (imm : BitVec 14) (t0 : BitVec 9) (s : State) : Host.Outcome State Fault Refusal :=
  fireAlu (shape (.tgeui pr imm t0)) 1 (fun a _ _ => boolWord ((immWord imm).ule a)) s

/-- GENC (09 R193). -/
def execGenc (imm : BitVec 16) (t0 : BitVec 9) (s : State) : Host.Outcome State Fault Refusal :=
  fireAlu (shape (.genc imm t0)) 1 (fun _ _ _ => imm.signExtend 64) s

/-- APPC (09 R193). -/
def execAppc (imm : BitVec 16) (t0 : BitVec 9) (s : State) : Host.Outcome State Fault Refusal :=
  fireAlu (shape (.appc imm t0)) 1 (fun a _ _ => (a <<< 16) ||| imm.setWidth 64) s

/-- MOV (09 R194). -/
def execMov (pr : BitVec 2) (t1 : BitVec 9) (t0 : BitVec 9) (s : State) : Host.Outcome State Fault Refusal :=
  fireAlu (shape (.mov pr t1 t0)) 1 (fun a _ _ => a) s

/-- MOVI (09 R194). -/
def execMovi (pr : BitVec 2) (imm : BitVec 14) (t0 : BitVec 9) (s : State) : Host.Outcome State Fault Refusal :=
  fireAlu (shape (.movi pr imm t0)) 1 (fun _ _ _ => immWord imm) s

/-- NULL (09 R195): its effect is to deliver a null; it performs, and is never itself nullified. -/
def execNull (pr : BitVec 2) (t1 : BitVec 9) (t0 : BitVec 9) (s : State) : Host.Outcome State Fault Refusal :=
  fire (shape (.null pr t1 t0)) (fun _ _ _ w =>
    w.onBlock (fun b => (b.setPhase w.focus.idx .performed).sendBoth w.focus.idx t0 t1 .null (w.now + 1))) s

end Sys2Proof.Machine
end

