-- ==== Sys2Proof/Machine/Power.lean ====
section
/-! DEFINITION. Cluster power (23 R428 to R430), the device reset (23 R426), and register writes (00 R12). These meanings may change the
cluster registers. -/

namespace Sys2Proof.Machine

open Sys2Proof

/-- The state with a meaning's result, cluster registers included. -/
def State.putPower (s : State) (w : Work) : State := { s.put w with clusters := w.clusters }

/-- An event of the cluster registers that happens when it can. -/
def happenPower (f : Work → Option Work) (s : State) : Host.Outcome State Fault Refusal :=
  match f s.work with
  | none => .fault .notEnabled
  | some w => .next (s.putPower w)

/-- The tiles of cluster c, die × 5 + row (00 R9). -/
def clusterTiles (c : Nat) : List Nat := footprint (c / 5) 0 (c % 5) 8 1

namespace Work

/-- The registers of a cluster. -/
def cluster (w : Work) (c : Nat) : Cluster := mapGet {} c w.clusters

/-- Change the registers of a cluster. -/
def onCluster (w : Work) (c : Nat) (f : Cluster → Cluster) : Work := { w with clusters := mapSet c (f (w.cluster c)) w.clusters }

/-- A write out of sequence (23 R429): ignored, SEQERR set. -/
def seqError (w : Work) (c : Nat) : Work := w.onCluster c (fun x => { x with seqerr := true })

/-- The value of the posted store that stands first, if it names register `i` of cluster `c`; the store is taken. -/
def takeStore (w : Work) (c i : Nat) : Option (Work × Nat) :=
  match w.core.posted with
  | (o, v, _) :: _ => if c < 20 && o == clusterOffset c i then some (w.dropPosted, v.toNat) else none
  | [] => none

/-- CL_QREQ: REQ := 1, unless the cluster is gated. -/
def reqSet (w : Work) (c : Nat) : Option Work :=
  match w.takeStore c 0 with
  | some (w, v) =>
    if !bit v 0 then none
    else if (w.cluster c).gated then some (w.seqError c)
    else if (w.cluster c).req then some w
    else some (w.onCluster c (fun x => { x with req := true, busy := true }))
  | none => none

/-- CL_QREQ: REQ := 0: ACK, BUSY and DONE fall, unless the cluster is gated. -/
def reqClear (w : Work) (c : Nat) : Option Work :=
  match w.takeStore c 0 with
  | some (w, v) =>
    if bit v 0 then none
    else if (w.cluster c).gated then some (w.seqError c)
    else some (w.onCluster c (fun x => { x with req := false, ack := false, busy := false, done := false }))
  | none => none

/-- The tile whose stash holds a physical address, 164 for none. -/
def stashTile (pa : Nat) : Nat :=
  match classify pa with
  | .stash t _ => t
  | .hbm | .firmware | .host | .control | .nowhere => 164

/-- Every tile of a cluster is idle: no task holds one, no report of it waits for its self-test, and nothing is under way in its routers
(23 R429, R430). -/
def clusterIdle (w : Work) (c : Nat) : Bool :=
  let ts := clusterTiles c
  let of_ (k : Nat × Nat) : Bool := (unitTile k.1 k.2).any ts.contains
  ts.all (fun t => (w.tile t).region.isNone) && !w.core.reports.any of_ && !w.core.tests.any of_
    && !w.core.tokens.any (fun k => ts.contains k.tile || ts.contains (stashTile k.pa)) && !w.core.kills.any (fun k => ts.contains k.tile)

/-- CLUSTER_QUIESCE_ACK. -/
def quiesceAck (w : Work) (c : Nat) : Option Work :=
  if c < 20 && (w.cluster c).req && !(w.cluster c).ack && w.clusterIdle c then
    some (w.onCluster c (fun x => { x with ack := true, busy := false }))
  else none

/-- CL_SAVE with GO: the save starts, if ACK = 1; ADDR is written in any case. -/
def saveGo (w : Work) (c : Nat) : Option Work :=
  match w.takeStore c 2 with
  | some (w, v) =>
    if !bit v 0 then none
    else
      let w := w.onCluster c (fun x => { x with addr := bits v 16 36 })
      if (w.cluster c).ack then some (w.onCluster c (fun x => { x with saving := true, done := false, err := false }))
      else some (w.seqError c)
  | none => none

/-- CLUSTER_SAVE_DONE: S_CYCLE, the router tables and the fence and test records of each tile stand in the save area, whose layout the
manual leaves open; an area outside firmware-held HBM fails (05 R89). DONE does not rise once REQ has fallen (DEDUCED, log 36). -/
def saveDone (w : Work) (c : Nat) (ok : Bool) : Option Work :=
  let a := (w.cluster c).addr * 0x10000
  if 20 ≤ c || !(w.cluster c).saving then none
  else if ok then
    if 0x7800000000 ≤ a && a + 0x8000 ≤ 0x7A00000000 then
      let kept := (clusterTiles c).map (fun t => (t, w.cycles t))
      some ((w.putOpen a 4096).onCluster c (fun x => { x with saving := false, done := x.ack, err := false, saved := kept }))
    else none
  else some (w.onCluster c (fun x => { x with saving := false, done := false, err := true }))

/-- CL_CLKG: GATE := 1, if DONE = 1: the clocks stop. -/
def gateSet (w : Work) (c : Nat) : Option Work :=
  match w.takeStore c 4 with
  | some (w, v) =>
    if !bit v 0 then none
    else if !(w.cluster c).done then some (w.seqError c)
    else if (w.cluster c).gate then some w
    else
      let w := (clusterTiles c).foldl (fun w t => w.setTile t { w.tile t with stopped := some (w.cycles t) }) w
      some (w.onCluster c (fun x => { x with gate := true, gated := true }))
  | none => none

/-- CL_RAIL with an ON bit := 0: the bits written 0 fall, if GATED = 1; a bit that rises beside them is out of sequence. -/
def railOff (w : Work) (c : Nat) : Option Work :=
  match w.takeStore c 5 with
  | some (w, v) =>
    let on := (w.cluster c).on
    let falls := [0, 1].filter (fun j => bit on j && !bit v j)
    let rises := [0, 1].any (fun j => !bit on j && bit v j)
    if v % 4 == 3 then none
    else
      let w := if rises || !(w.cluster c).gated then w.seqError c else w
      if (w.cluster c).gated then some (w.onCluster c (fun x => { x with on := falls.foldl (fun n j => n - 2 ^ j) x.on })) else some w
  | none => none

/-- RAIL_GOOD_FALL: GOOD of a segment that is off falls. -/
def goodFall (w : Work) (c : Nat) : Option Work :=
  let x := w.cluster c
  let good := [0, 1].foldl (fun n j => if bit x.good j && bit x.on j then n + 2 ^ j else n) 0
  if c < 20 && good != x.good then some (w.onCluster c (fun x => { x with good := good })) else none

/-- CL_WAKE with GO: the wake sequence starts, if GATED = 1. -/
def wakeGo (w : Work) (c : Nat) : Option Work :=
  match w.takeStore c 7 with
  | some (w, v) =>
    if !bit v 0 then none
    else if !(w.cluster c).gated then some (w.seqError c)
    else some (w.onCluster c (fun x => { x with on := 3, waking := true, wakeDone := false, wakeErr := false }))
  | none => none

/-- CLUSTER_WAKE_DONE: the rails are good and the clocks run again, S_CYCLE goes on from where the save area holds it, tiles that failed their
test are fenced, each with its router sound or not, with the fences that waited; or the wake fails and the cluster stays gated. -/
def wakeDone (w : Work) (c : Nat) (failed : List (Nat × Bool)) (ok : Bool) : Option Work :=
  if 20 ≤ c || !(w.cluster c).waking || (ok && (w.cluster c).on != 3) then none
  else if !ok then some (w.onCluster c (fun x => { x with waking := false, wakeErr := true }))
  else
    let ts := clusterTiles c
    let saved := (w.cluster c).saved
    let w := ts.foldl (fun w t =>
      match (w.tile t).stopped with
      | none => w
      | some n => w.setTile t { w.tile t with stopped := none, cycle0 := w.now + (w.tile t).ahead - mapGet n t saved }) w
    let w := w.onCluster c (fun x => { x with gate := false, gated := false, good := 3, waking := false, wakeDone := true,
                                              req := false, ack := false, busy := false, done := false })
    let late := w.core.lateFences.filter (fun f => ts.contains f.1)
    let w := { w with core := { w.core with lateFences := w.core.lateFences.filter (fun f => !ts.contains f.1) } }
    some ((late ++ failed.filter (fun f => ts.contains f.1)).foldl (fun w f => w.fenceTile f.1 f.2) w)

/-- CL_QACK: writing 1 to SEQERR clears it. -/
def qackWrite (w : Work) (c : Nat) : Option Work :=
  match w.takeStore c 1 with
  | some (w, v) => some (if bit v 2 then w.onCluster c (fun x => { x with seqerr := false }) else w)
  | none => none

/-- FORCED_POWER_LOSS (11 R232; 23 R430): every tile of the cluster loses what a reset loses, and the rails are no longer good. -/
def powerLoss (w : Work) (c : Nat) : Option Work :=
  if 20 ≤ c then none
  else some (((clusterTiles c).foldl (fun w t => (w.tileReset t).getD w) w).onCluster c (fun x => { x with good := 0 }))

/-- A store to a cluster register that has no row of its own: ADDR without GO; GATE := 0 and ON := 0b11 are out of sequence; the rest
writes nothing. -/
def clusterPlain (w : Work) (c i v : Nat) : Option Work :=
  match i with
  | 0 | 1 => none
  | 2 => if bit v 0 then none else some (w.onCluster c (fun x => { x with addr := bits v 16 36 }))
  | 4 => if bit v 0 then none else some (w.seqError c)
  | 5 => if v % 4 == 3 then some (w.seqError c) else none
  | 7 => if bit v 0 then none else some w
  | _ => some w

/-- REGISTER_WRITE: the host's 8-byte write of BAR 0, or the first posted store to the control window. -/
def registerWrite (w : Work) (ctl : Bool) (o : Nat) (v : Word) : Option Work :=
  if ctl then
    if w.core.posted.head?.map (fun p => (p.1, p.2.1)) != some (o, v) then none
    else
      match clusterReg o with
      | some (c, i) => w.dropPosted.clusterPlain c i v.toNat
      | none => if o == 8 then none else some (w.dropPosted.writeControl o v)
  else if !plainOffset o then none
  else if (if o < 0x4000000 then w.barOpen else w.mgmtOpen) then some (w.writeBar0 o v)
  else some w.refused

/-- DEVICE_RESET (23 R426): STAGE is 0, and the cluster registers are at their reset values. -/
def deviceReset (w : Work) : Work := { w with core := resetCore w.core w.now, clusters := [] }

end Work

/-! ### Meanings -/

/-- REGISTER_WRITE (00 R12; 23 R417, R419, R421, R428). -/
def execRegisterWrite (ctl : Bool) (addr : Nat) (value : BitVec 64) (s : State) : Host.Outcome State Fault Refusal :=
  happenPower (fun w => w.registerWrite ctl addr value) s

/-- DEVICE_RESET (23 R426). -/
def execDeviceReset (s : State) : Host.Outcome State Fault Refusal := happenPower (fun w => some w.deviceReset) s

/-- CL_QREQ_SET (23 R429). -/
def execClQreqSet (cluster : Nat) (s : State) : Host.Outcome State Fault Refusal := happenPower (fun w => w.reqSet cluster) s

/-- CL_QREQ_CLEAR (23 R429). -/
def execClQreqClear (cluster : Nat) (s : State) : Host.Outcome State Fault Refusal := happenPower (fun w => w.reqClear cluster) s

/-- CLUSTER_QUIESCE_ACK (23 R429, R430). -/
def execClusterQuiesceAck (cluster : Nat) (s : State) : Host.Outcome State Fault Refusal := happenPower (fun w => w.quiesceAck cluster) s

/-- CL_SAVE_GO (23 R429). -/
def execClSaveGo (cluster : Nat) (s : State) : Host.Outcome State Fault Refusal := happenPower (fun w => w.saveGo cluster) s

/-- CLUSTER_SAVE_DONE (23 R429). -/
def execClusterSaveDone (cluster : Nat) (ok : Bool) (s : State) : Host.Outcome State Fault Refusal :=
  happenPower (fun w => w.saveDone cluster ok) s

/-- CL_CLKG_GATE (23 R429). -/
def execClClkgGate (cluster : Nat) (s : State) : Host.Outcome State Fault Refusal := happenPower (fun w => w.gateSet cluster) s

/-- CL_RAIL_OFF (23 R429). -/
def execClRailOff (cluster : Nat) (s : State) : Host.Outcome State Fault Refusal := happenPower (fun w => w.railOff cluster) s

/-- RAIL_GOOD_FALL (23 R429). -/
def execRailGoodFall (cluster : Nat) (s : State) : Host.Outcome State Fault Refusal := happenPower (fun w => w.goodFall cluster) s

/-- CL_WAKE_GO (23 R429). -/
def execClWakeGo (cluster : Nat) (s : State) : Host.Outcome State Fault Refusal := happenPower (fun w => w.wakeGo cluster) s

/-- CLUSTER_WAKE_DONE (23 R429, R430). -/
def execClusterWakeDone (cluster : Nat) (failed : List (Nat × Bool)) (ok : Bool) (s : State) : Host.Outcome State Fault Refusal :=
  happenPower (fun w => w.wakeDone cluster failed ok) s

/-- CL_QACK_WRITE (23 R428; 00 R12). -/
def execClQackWrite (cluster : Nat) (s : State) : Host.Outcome State Fault Refusal := happenPower (fun w => w.qackWrite cluster) s

/-- FORCED_POWER_LOSS (23 R430; 11 R232). -/
def execForcedPowerLoss (cluster : Nat) (s : State) : Host.Outcome State Fault Refusal := happenPower (fun w => w.powerLoss cluster) s

end Sys2Proof.Machine
end

