-- ==== Sys2Proof/Machine/Dispatch.lean ====
section
/-! DEFINITION. The dispatcher: one arm for each constructor of `Instr`, each a direct call of that row's meaning. -/

namespace Sys2Proof.Machine

open Sys2Proof

/-- The meaning of a row of the operation table at a state. -/
def exec (i : Instr) (s : State) : Host.Outcome State Fault Refusal :=
  match i with
  | .add pr t1 t0 => Sys2Proof.Machine.execAdd pr t1 t0 s
  | .sub pr t1 t0 => Sys2Proof.Machine.execSub pr t1 t0 s
  | .and pr t1 t0 => Sys2Proof.Machine.execAnd pr t1 t0 s
  | .or pr t1 t0 => Sys2Proof.Machine.execOr pr t1 t0 s
  | .xor pr t1 t0 => Sys2Proof.Machine.execXor pr t1 t0 s
  | .andn pr t1 t0 => Sys2Proof.Machine.execAndn pr t1 t0 s
  | .orn pr t1 t0 => Sys2Proof.Machine.execOrn pr t1 t0 s
  | .xnor pr t1 t0 => Sys2Proof.Machine.execXnor pr t1 t0 s
  | .shl pr t1 t0 => Sys2Proof.Machine.execShl pr t1 t0 s
  | .shr pr t1 t0 => Sys2Proof.Machine.execShr pr t1 t0 s
  | .sar pr t1 t0 => Sys2Proof.Machine.execSar pr t1 t0 s
  | .rol pr t1 t0 => Sys2Proof.Machine.execRol pr t1 t0 s
  | .ror pr t1 t0 => Sys2Proof.Machine.execRor pr t1 t0 s
  | .min pr t1 t0 => Sys2Proof.Machine.execMin pr t1 t0 s
  | .max pr t1 t0 => Sys2Proof.Machine.execMax pr t1 t0 s
  | .minu pr t1 t0 => Sys2Proof.Machine.execMinu pr t1 t0 s
  | .maxu pr t1 t0 => Sys2Proof.Machine.execMaxu pr t1 t0 s
  | .addw pr t1 t0 => Sys2Proof.Machine.execAddw pr t1 t0 s
  | .subw pr t1 t0 => Sys2Proof.Machine.execSubw pr t1 t0 s
  | .mul pr t1 t0 => Sys2Proof.Machine.execMul pr t1 t0 s
  | .mulh pr t1 t0 => Sys2Proof.Machine.execMulh pr t1 t0 s
  | .mulhu pr t1 t0 => Sys2Proof.Machine.execMulhu pr t1 t0 s
  | .mulhsu pr t1 t0 => Sys2Proof.Machine.execMulhsu pr t1 t0 s
  | .div pr t1 t0 => Sys2Proof.Machine.execDiv pr t1 t0 s
  | .divu pr t1 t0 => Sys2Proof.Machine.execDivu pr t1 t0 s
  | .rem pr t1 t0 => Sys2Proof.Machine.execRem pr t1 t0 s
  | .remu pr t1 t0 => Sys2Proof.Machine.execRemu pr t1 t0 s
  | .mulw pr t1 t0 => Sys2Proof.Machine.execMulw pr t1 t0 s
  | .divw pr t1 t0 => Sys2Proof.Machine.execDivw pr t1 t0 s
  | .divuw pr t1 t0 => Sys2Proof.Machine.execDivuw pr t1 t0 s
  | .remw pr t1 t0 => Sys2Proof.Machine.execRemw pr t1 t0 s
  | .remuw pr t1 t0 => Sys2Proof.Machine.execRemuw pr t1 t0 s
  | .clz pr t1 t0 => Sys2Proof.Machine.execClz pr t1 t0 s
  | .ctz pr t1 t0 => Sys2Proof.Machine.execCtz pr t1 t0 s
  | .popc pr t1 t0 => Sys2Proof.Machine.execPopc pr t1 t0 s
  | .brev pr t1 t0 => Sys2Proof.Machine.execBrev pr t1 t0 s
  | .bswap pr t1 t0 => Sys2Proof.Machine.execBswap pr t1 t0 s
  | .sextb pr t1 t0 => Sys2Proof.Machine.execSextb pr t1 t0 s
  | .sexth pr t1 t0 => Sys2Proof.Machine.execSexth pr t1 t0 s
  | .sextw pr t1 t0 => Sys2Proof.Machine.execSextw pr t1 t0 s
  | .zextb pr t1 t0 => Sys2Proof.Machine.execZextb pr t1 t0 s
  | .zexth pr t1 t0 => Sys2Proof.Machine.execZexth pr t1 t0 s
  | .zextw pr t1 t0 => Sys2Proof.Machine.execZextw pr t1 t0 s
  | .addi pr imm t0 => Sys2Proof.Machine.execAddi pr imm t0 s
  | .andi pr imm t0 => Sys2Proof.Machine.execAndi pr imm t0 s
  | .ori pr imm t0 => Sys2Proof.Machine.execOri pr imm t0 s
  | .xori pr imm t0 => Sys2Proof.Machine.execXori pr imm t0 s
  | .shli pr cnt t0 => Sys2Proof.Machine.execShli pr cnt t0 s
  | .shri pr cnt t0 => Sys2Proof.Machine.execShri pr cnt t0 s
  | .sari pr cnt t0 => Sys2Proof.Machine.execSari pr cnt t0 s
  | .muli pr imm t0 => Sys2Proof.Machine.execMuli pr imm t0 s
  | .ext pr len pos t0 => Sys2Proof.Machine.execExt pr len pos t0 s
  | .exts pr len pos t0 => Sys2Proof.Machine.execExts pr len pos t0 s
  | .ins pr len pos t0 => Sys2Proof.Machine.execIns pr len pos t0 s
  | .lea1 pr t1 t0 => Sys2Proof.Machine.execLea1 pr t1 t0 s
  | .lea2 pr t1 t0 => Sys2Proof.Machine.execLea2 pr t1 t0 s
  | .lea4 pr t1 t0 => Sys2Proof.Machine.execLea4 pr t1 t0 s
  | .lea8 pr t1 t0 => Sys2Proof.Machine.execLea8 pr t1 t0 s
  | .lea16 pr t1 t0 => Sys2Proof.Machine.execLea16 pr t1 t0 s
  | .teq pr t1 t0 => Sys2Proof.Machine.execTeq pr t1 t0 s
  | .tne pr t1 t0 => Sys2Proof.Machine.execTne pr t1 t0 s
  | .tlt pr t1 t0 => Sys2Proof.Machine.execTlt pr t1 t0 s
  | .tle pr t1 t0 => Sys2Proof.Machine.execTle pr t1 t0 s
  | .tgt pr t1 t0 => Sys2Proof.Machine.execTgt pr t1 t0 s
  | .tge pr t1 t0 => Sys2Proof.Machine.execTge pr t1 t0 s
  | .tltu pr t1 t0 => Sys2Proof.Machine.execTltu pr t1 t0 s
  | .tleu pr t1 t0 => Sys2Proof.Machine.execTleu pr t1 t0 s
  | .tgtu pr t1 t0 => Sys2Proof.Machine.execTgtu pr t1 t0 s
  | .tgeu pr t1 t0 => Sys2Proof.Machine.execTgeu pr t1 t0 s
  | .tbs pr t1 t0 => Sys2Proof.Machine.execTbs pr t1 t0 s
  | .tbc pr t1 t0 => Sys2Proof.Machine.execTbc pr t1 t0 s
  | .teqi pr imm t0 => Sys2Proof.Machine.execTeqi pr imm t0 s
  | .tnei pr imm t0 => Sys2Proof.Machine.execTnei pr imm t0 s
  | .tlti pr imm t0 => Sys2Proof.Machine.execTlti pr imm t0 s
  | .tlei pr imm t0 => Sys2Proof.Machine.execTlei pr imm t0 s
  | .tgti pr imm t0 => Sys2Proof.Machine.execTgti pr imm t0 s
  | .tgei pr imm t0 => Sys2Proof.Machine.execTgei pr imm t0 s
  | .tltui pr imm t0 => Sys2Proof.Machine.execTltui pr imm t0 s
  | .tgeui pr imm t0 => Sys2Proof.Machine.execTgeui pr imm t0 s
  | .genc imm t0 => Sys2Proof.Machine.execGenc imm t0 s
  | .appc imm t0 => Sys2Proof.Machine.execAppc imm t0 s
  | .mov pr t1 t0 => Sys2Proof.Machine.execMov pr t1 t0 s
  | .movi pr imm t0 => Sys2Proof.Machine.execMovi pr imm t0 s
  | .null pr t1 t0 => Sys2Proof.Machine.execNull pr t1 t0 s
  | .br pr exit off => Sys2Proof.Machine.execBr pr exit off s
  | .call pr exit off => Sys2Proof.Machine.execCall pr exit off s
  | .badr pr imm t0 => Sys2Proof.Machine.execBadr pr imm t0 s
  | .bri pr exit => Sys2Proof.Machine.execBri pr exit s
  | .calli pr exit => Sys2Proof.Machine.execCalli pr exit s
  | .ret pr exit => Sys2Proof.Machine.execRet pr exit s
  | .faddD pr rm t1 t0 => Sys2Proof.Machine.execFaddD pr rm t1 t0 s
  | .fsubD pr rm t1 t0 => Sys2Proof.Machine.execFsubD pr rm t1 t0 s
  | .fmulD pr rm t1 t0 => Sys2Proof.Machine.execFmulD pr rm t1 t0 s
  | .fdivD pr rm t1 t0 => Sys2Proof.Machine.execFdivD pr rm t1 t0 s
  | .fsqrtD pr rm t1 t0 => Sys2Proof.Machine.execFsqrtD pr rm t1 t0 s
  | .fmaD rm t1 t0 => Sys2Proof.Machine.execFmaD rm t1 t0 s
  | .fmsD rm t1 t0 => Sys2Proof.Machine.execFmsD rm t1 t0 s
  | .fnmaD rm t1 t0 => Sys2Proof.Machine.execFnmaD rm t1 t0 s
  | .faddS pr rm t1 t0 => Sys2Proof.Machine.execFaddS pr rm t1 t0 s
  | .fsubS pr rm t1 t0 => Sys2Proof.Machine.execFsubS pr rm t1 t0 s
  | .fmulS pr rm t1 t0 => Sys2Proof.Machine.execFmulS pr rm t1 t0 s
  | .fdivS pr rm t1 t0 => Sys2Proof.Machine.execFdivS pr rm t1 t0 s
  | .fsqrtS pr rm t1 t0 => Sys2Proof.Machine.execFsqrtS pr rm t1 t0 s
  | .fmaS rm t1 t0 => Sys2Proof.Machine.execFmaS rm t1 t0 s
  | .fmsS rm t1 t0 => Sys2Proof.Machine.execFmsS rm t1 t0 s
  | .fnmaS rm t1 t0 => Sys2Proof.Machine.execFnmaS rm t1 t0 s
  | .fmin pr wid t1 t0 => Sys2Proof.Machine.execFmin pr wid t1 t0 s
  | .fmax pr wid t1 t0 => Sys2Proof.Machine.execFmax pr wid t1 t0 s
  | .fneg pr wid t1 t0 => Sys2Proof.Machine.execFneg pr wid t1 t0 s
  | .fabs pr wid t1 t0 => Sys2Proof.Machine.execFabs pr wid t1 t0 s
  | .fcpys pr wid t1 t0 => Sys2Proof.Machine.execFcpys pr wid t1 t0 s
  | .fclass pr wid t1 t0 => Sys2Proof.Machine.execFclass pr wid t1 t0 s
  | .fteq pr wid t1 t0 => Sys2Proof.Machine.execFteq pr wid t1 t0 s
  | .ftlt pr wid t1 t0 => Sys2Proof.Machine.execFtlt pr wid t1 t0 s
  | .ftle pr wid t1 t0 => Sys2Proof.Machine.execFtle pr wid t1 t0 s
  | .ftun pr wid t1 t0 => Sys2Proof.Machine.execFtun pr wid t1 t0 s
  | .fcvtDS pr t1 t0 => Sys2Proof.Machine.execFcvtDS pr t1 t0 s
  | .fcvtSD pr rm t1 t0 => Sys2Proof.Machine.execFcvtSD pr rm t1 t0 s
  | .fcvtDI pr rm t1 t0 => Sys2Proof.Machine.execFcvtDI pr rm t1 t0 s
  | .fcvtDN pr rm t1 t0 => Sys2Proof.Machine.execFcvtDN pr rm t1 t0 s
  | .fcvtID pr rm t1 t0 => Sys2Proof.Machine.execFcvtID pr rm t1 t0 s
  | .fcvtND pr rm t1 t0 => Sys2Proof.Machine.execFcvtND pr rm t1 t0 s
  | .fcvtSI pr rm t1 t0 => Sys2Proof.Machine.execFcvtSI pr rm t1 t0 s
  | .fcvtIS pr rm t1 t0 => Sys2Proof.Machine.execFcvtIS pr rm t1 t0 s
  | .ld1 pr lsid imm t0 => Sys2Proof.Machine.execLd1 pr lsid imm t0 s
  | .ld1s pr lsid imm t0 => Sys2Proof.Machine.execLd1s pr lsid imm t0 s
  | .ld2 pr lsid imm t0 => Sys2Proof.Machine.execLd2 pr lsid imm t0 s
  | .ld2s pr lsid imm t0 => Sys2Proof.Machine.execLd2s pr lsid imm t0 s
  | .ld4 pr lsid imm t0 => Sys2Proof.Machine.execLd4 pr lsid imm t0 s
  | .ld4s pr lsid imm t0 => Sys2Proof.Machine.execLd4s pr lsid imm t0 s
  | .ld8 pr lsid imm t0 => Sys2Proof.Machine.execLd8 pr lsid imm t0 s
  | .tstfe pr lsid imm t0 => Sys2Proof.Machine.execTstfe pr lsid imm t0 s
  | .ldw1 pr lsid imm t0 => Sys2Proof.Machine.execLdw1 pr lsid imm t0 s
  | .ldw2 pr lsid imm t0 => Sys2Proof.Machine.execLdw2 pr lsid imm t0 s
  | .ldw4 pr lsid imm t0 => Sys2Proof.Machine.execLdw4 pr lsid imm t0 s
  | .ldw8 pr lsid imm t0 => Sys2Proof.Machine.execLdw8 pr lsid imm t0 s
  | .ldc1 pr lsid imm t0 => Sys2Proof.Machine.execLdc1 pr lsid imm t0 s
  | .ldc2 pr lsid imm t0 => Sys2Proof.Machine.execLdc2 pr lsid imm t0 s
  | .ldc4 pr lsid imm t0 => Sys2Proof.Machine.execLdc4 pr lsid imm t0 s
  | .ldc8 pr lsid imm t0 => Sys2Proof.Machine.execLdc8 pr lsid imm t0 s
  | .st1 pr lsid imm => Sys2Proof.Machine.execSt1 pr lsid imm s
  | .st2 pr lsid imm => Sys2Proof.Machine.execSt2 pr lsid imm s
  | .st4 pr lsid imm => Sys2Proof.Machine.execSt4 pr lsid imm s
  | .st8 pr lsid imm => Sys2Proof.Machine.execSt8 pr lsid imm s
  | .stf1 pr lsid imm => Sys2Proof.Machine.execStf1 pr lsid imm s
  | .stf2 pr lsid imm => Sys2Proof.Machine.execStf2 pr lsid imm s
  | .stf4 pr lsid imm => Sys2Proof.Machine.execStf4 pr lsid imm s
  | .stf8 pr lsid imm => Sys2Proof.Machine.execStf8 pr lsid imm s
  | .ste1 pr lsid imm => Sys2Proof.Machine.execSte1 pr lsid imm s
  | .ste2 pr lsid imm => Sys2Proof.Machine.execSte2 pr lsid imm s
  | .ste4 pr lsid imm => Sys2Proof.Machine.execSte4 pr lsid imm s
  | .ste8 pr lsid imm => Sys2Proof.Machine.execSte8 pr lsid imm s
  | .amo pr lsid aop wid t0 => Sys2Proof.Machine.execAmo pr lsid aop wid t0 s
  | .cas lsid wid t0 => Sys2Proof.Machine.execCas lsid wid t0 s
  | .red pr lsid aop wid => Sys2Proof.Machine.execRed pr lsid aop wid s
  | .fence pr scope => Sys2Proof.Machine.execFence pr scope s
  | .qpush pr lim => Sys2Proof.Machine.execQpush pr lim s
  | .qpop pr lim t1 t0 => Sys2Proof.Machine.execQpop pr lim t1 t0 s
  | .qpeek pr t1 t0 => Sys2Proof.Machine.execQpeek pr t1 t0 s
  | .qstat pr t1 t0 => Sys2Proof.Machine.execQstat pr t1 t0 s
  | .qcfg pr t1 t0 => Sys2Proof.Machine.execQcfg pr t1 t0 s
  | .cqpop pr lim t1 t0 => Sys2Proof.Machine.execCqpop pr lim t1 t0 s
  | .cqpush pr lim => Sys2Proof.Machine.execCqpush pr lim s
  | .wait pr full lim t0 => Sys2Proof.Machine.execWait pr full lim t0 s
  | .mfs pr id t0 => Sys2Proof.Machine.execMfs pr id t0 s
  | .mts pr id => Sys2Proof.Machine.execMts pr id s
  | .trap pr code => Sys2Proof.Machine.execTrap pr code s
  | .eret pr => Sys2Proof.Machine.execEret pr s
  | .halt pr => Sys2Proof.Machine.execHalt pr s
  | .pause pr units t0 => Sys2Proof.Machine.execPause pr units t0 s
  | .rseed pr t1 t0 => Sys2Proof.Machine.execRseed pr t1 t0 s
  | .rnext pr t1 t0 => Sys2Proof.Machine.execRnext pr t1 t0 s
  | .spawnc pr t1 t0 => Sys2Proof.Machine.execSpawnc pr t1 t0 s
  | .cfgld pr t1 t0 => Sys2Proof.Machine.execCfgld pr t1 t0 s
  | .cfgstrm pr t1 t0 => Sys2Proof.Machine.execCfgstrm pr t1 t0 s
  | .cfgsw pr t1 t0 => Sys2Proof.Machine.execCfgsw pr t1 t0 s
  | .cfgabort pr t1 t0 => Sys2Proof.Machine.execCfgabort pr t1 t0 s
  | .arm pr t1 t0 => Sys2Proof.Machine.execArm pr t1 t0 s
  | .drain pr t1 t0 => Sys2Proof.Machine.execDrain pr t1 t0 s
  | .inject pr => Sys2Proof.Machine.execInject pr s
  | .sinkrd pr t1 t0 => Sys2Proof.Machine.execSinkrd pr t1 t0 s
  | .kwait pr lim t1 t0 => Sys2Proof.Machine.execKwait pr lim t1 t0 s
  | .cpy pr mode => Sys2Proof.Machine.execCpy pr mode s
  | .cpyfeOut pr => Sys2Proof.Machine.execCpyfeOut pr s
  | .cpyfeIn pr => Sys2Proof.Machine.execCpyfeIn pr s
  | .impose pr => Sys2Proof.Machine.execImpose pr s
  | .imprel pr => Sys2Proof.Machine.execImprel pr s
  | .allocT pr t1 t0 => Sys2Proof.Machine.execAllocT pr t1 t0 s
  | .allocN pr t1 t0 => Sys2Proof.Machine.execAllocN pr t1 t0 s
  | .free pr => Sys2Proof.Machine.execFree pr s
  | .poolgrow pr => Sys2Proof.Machine.execPoolgrow pr s
  | .cwprobe pr t1 t0 => Sys2Proof.Machine.execCwprobe pr t1 t0 s
  | .cwstore pr => Sys2Proof.Machine.execCwstore pr s
  | .cwinv pr => Sys2Proof.Machine.execCwinv pr s
  | .dgst pr => Sys2Proof.Machine.execDgst pr s
  | .wcfg pr => Sys2Proof.Machine.execWcfg pr s
  | .wrun pr => Sys2Proof.Machine.execWrun pr s
  | .wld pr wd km => Sys2Proof.Machine.execWld pr wd km s
  | .wst pr wd km => Sys2Proof.Machine.execWst pr wd km s
  | .wmovD pr wd wa km => Sys2Proof.Machine.execWmovD pr wd wa km s
  | .waddD pr wd wa wb km => Sys2Proof.Machine.execWaddD pr wd wa wb km s
  | .wmulD pr wd wa wb km => Sys2Proof.Machine.execWmulD pr wd wa wb km s
  | .wfmaD pr wd wa wb km => Sys2Proof.Machine.execWfmaD pr wd wa wb km s
  | .wminD pr wd wa wb km => Sys2Proof.Machine.execWminD pr wd wa wb km s
  | .wmaxD pr wd wa wb km => Sys2Proof.Machine.execWmaxD pr wd wa wb km s
  | .wcmpD pr cond kd wa wb km => Sys2Proof.Machine.execWcmpD pr cond kd wa wb km s
  | .wselD pr wd wa wb km => Sys2Proof.Machine.execWselD pr wd wa wb km s
  | .wcvtD pr wd wa kind km => Sys2Proof.Machine.execWcvtD pr wd wa kind km s
  | .wredD pr wd wa rop km => Sys2Proof.Machine.execWredD pr wd wa rop km s
  | .wvarD pr wd wa opt km => Sys2Proof.Machine.execWvarD pr wd wa opt km s
  | .wshufD pr wd wa wb km => Sys2Proof.Machine.execWshufD pr wd wa wb km s
  | .wmovS pr wd wa km => Sys2Proof.Machine.execWmovS pr wd wa km s
  | .waddS pr wd wa wb km => Sys2Proof.Machine.execWaddS pr wd wa wb km s
  | .wmulS pr wd wa wb km => Sys2Proof.Machine.execWmulS pr wd wa wb km s
  | .wfmaS pr wd wa wb km => Sys2Proof.Machine.execWfmaS pr wd wa wb km s
  | .wminS pr wd wa wb km => Sys2Proof.Machine.execWminS pr wd wa wb km s
  | .wmaxS pr wd wa wb km => Sys2Proof.Machine.execWmaxS pr wd wa wb km s
  | .wcmpS pr cond kd wa wb km => Sys2Proof.Machine.execWcmpS pr cond kd wa wb km s
  | .wselS pr wd wa wb km => Sys2Proof.Machine.execWselS pr wd wa wb km s
  | .wcvtS pr wd wa kind km => Sys2Proof.Machine.execWcvtS pr wd wa kind km s
  | .wredS pr wd wa rop km => Sys2Proof.Machine.execWredS pr wd wa rop km s
  | .wvarS pr wd wa opt km => Sys2Proof.Machine.execWvarS pr wd wa opt km s
  | .wshufS pr wd wa wb km => Sys2Proof.Machine.execWshufS pr wd wa wb km s
  | .xacc pr xd wa wb ksel => Sys2Proof.Machine.execXacc pr xd wa wb ksel s
  | .xadd pr xd xs => Sys2Proof.Machine.execXadd pr xd xs s
  | .xclr pr xd => Sys2Proof.Machine.execXclr pr xd s
  | .xmov pr xd xs => Sys2Proof.Machine.execXmov pr xd xs s
  | .xst pr xs => Sys2Proof.Machine.execXst pr xs s
  | .xld pr xd => Sys2Proof.Machine.execXld pr xd s
  | .xsgn pr acc t1 t0 => Sys2Proof.Machine.execXsgn pr acc t1 t0 s
  | .xrnd pr rm acc t1 t0 => Sys2Proof.Machine.execXrnd pr rm acc t1 t0 s
  | .blockFetch tile ctx => Sys2Proof.Machine.execBlockFetch tile ctx s
  | .resultDelivery tile ctx k => Sys2Proof.Machine.execResultDelivery tile ctx k s
  | .blockEnd tile ctx => Sys2Proof.Machine.execBlockEnd tile ctx s
  | .waitRetry tile ctx idx => Sys2Proof.Machine.execWaitRetry tile ctx idx s
  | .reservationExpire word => Sys2Proof.Machine.execReservationExpire word s
  | .claimWaitEnd tile ctx idx => Sys2Proof.Machine.execClaimWaitEnd tile ctx idx s
  | .queueWaitRetry tile ctx idx => Sys2Proof.Machine.execQueueWaitRetry tile ctx idx s
  | .qtimeout tile ctx idx => Sys2Proof.Machine.execQtimeout tile ctx idx s
  | .cqCombine die => Sys2Proof.Machine.execCqCombine die s
  | .waitPoll tile ctx idx => Sys2Proof.Machine.execWaitPoll tile ctx idx s
  | .waitTimeout tile ctx idx => Sys2Proof.Machine.execWaitTimeout tile ctx idx s
  | .pauseDone tile ctx idx => Sys2Proof.Machine.execPauseDone tile ctx idx s
  | .kwaitDone tile ctx idx => Sys2Proof.Machine.execKwaitDone tile ctx idx s
  | .kwaitLimitExpire tile ctx idx => Sys2Proof.Machine.execKwaitLimitExpire tile ctx idx s
  | .cfgswDrainDone tile ctx idx => Sys2Proof.Machine.execCfgswDrainDone tile ctx idx s
  | .stagingClaimWaitEnd tile ctx idx => Sys2Proof.Machine.execStagingClaimWaitEnd tile ctx idx s
  | .injectSlotRetry tile ctx idx => Sys2Proof.Machine.execInjectSlotRetry tile ctx idx s
  | .wideApply tile => Sys2Proof.Machine.execWideApply tile s
  | .wrunIteration tile => Sys2Proof.Machine.execWrunIteration tile s
  | .elementFire tile elem more => Sys2Proof.Machine.execElementFire tile elem more s
  | .killArrive tile elem slot port => Sys2Proof.Machine.execKillArrive tile elem slot port s
  | .killDiscard tile elem slot port => Sys2Proof.Machine.execKillDiscard tile elem slot port s
  | .lutfDigit tile elem => Sys2Proof.Machine.execLutfDigit tile elem s
  | .meStepDone tile elem => Sys2Proof.Machine.execMeStepDone tile elem s
  | .spRepresent tile elem slot => Sys2Proof.Machine.execSpRepresent tile elem slot s
  | .feTimeout tile elem slot => Sys2Proof.Machine.execFeTimeout tile elem slot s
  | .extentFetch tile elem slot => Sys2Proof.Machine.execExtentFetch tile elem slot s
  | .spillRetry tile elem ok => Sys2Proof.Machine.execSpillRetry tile elem ok s
  | .gapplyToken k => Sys2Proof.Machine.execGapplyToken k s
  | .tokenReply k => Sys2Proof.Machine.execTokenReply k s
  | .regionError region => Sys2Proof.Machine.execRegionError region s
  | .invalidation asid all va len => Sys2Proof.Machine.execInvalidation asid all va len s
  | .qTailWrite queue value => Sys2Proof.Machine.execQTailWrite queue value s
  | .qCtlWrite queue value => Sys2Proof.Machine.execQCtlWrite queue value s
  | .registerWrite ctl addr value => Sys2Proof.Machine.execRegisterWrite ctl addr value s
  | .submissionTake die => Sys2Proof.Machine.execSubmissionTake die s
  | .replayStart die => Sys2Proof.Machine.execReplayStart die s
  | .replayEnd replay => Sys2Proof.Machine.execReplayEnd replay s
  | .nodeFinish replay node => Sys2Proof.Machine.execNodeFinish replay node s
  | .taskPlace die => Sys2Proof.Machine.execTaskPlace die s
  | .taskRetire region => Sys2Proof.Machine.execTaskRetire region s
  | .indirectCountRead replay node => Sys2Proof.Machine.execIndirectCountRead replay node s
  | .launchCount replay node => Sys2Proof.Machine.execLaunchCount replay node s
  | .condPredicateRead replay node => Sys2Proof.Machine.execCondPredicateRead replay node s
  | .loopIteration replay node => Sys2Proof.Machine.execLoopIteration replay node s
  | .nodeWaitTimeout replay node => Sys2Proof.Machine.execNodeWaitTimeout replay node s
  | .stepsyncMessage link graphid step digest => Sys2Proof.Machine.execStepsyncMessage link graphid step digest s
  | .cwDecide region => Sys2Proof.Machine.execCwDecide region s
  | .copyComplete k n => Sys2Proof.Machine.execCopyComplete k n s
  | .completionWrite k ok => Sys2Proof.Machine.execCompletionWrite k ok s
  | .enginePageResume k ok => Sys2Proof.Machine.execEnginePageResume k ok s
  | .imposeComplete k => Sys2Proof.Machine.execImposeComplete k s
  | .dgstComplete k => Sys2Proof.Machine.execDgstComplete k s
  | .preemptRequest region => Sys2Proof.Machine.execPreemptRequest region s
  | .preemptSave region area => Sys2Proof.Machine.execPreemptSave region area s
  | .containment region cause => Sys2Proof.Machine.execContainment region cause s
  | .faultDetect source fatal kind unit addr => Sys2Proof.Machine.execFaultDetect source fatal kind unit addr s
  | .selfTestStart kind unit => Sys2Proof.Machine.execSelfTestStart kind unit s
  | .selfTestEnd kind unit pass router => Sys2Proof.Machine.execSelfTestEnd kind unit pass router s
  | .patrolBist tile elem pass => Sys2Proof.Machine.execPatrolBist tile elem pass s
  | .mCmdPreempt => Sys2Proof.Machine.execMCmdPreempt s
  | .mCmdEndGraph => Sys2Proof.Machine.execMCmdEndGraph s
  | .mCmdAttest => Sys2Proof.Machine.execMCmdAttest s
  | .mCmdClearFence => Sys2Proof.Machine.execMCmdClearFence s
  | .mCmdRecover len => Sys2Proof.Machine.execMCmdRecover len s
  | .mCmdSetHwlim => Sys2Proof.Machine.execMCmdSetHwlim s
  | .mCmdRefused code => Sys2Proof.Machine.execMCmdRefused code s
  | .mCmdComplete => Sys2Proof.Machine.execMCmdComplete s
  | .mStatusRead => Sys2Proof.Machine.execMStatusRead s
  | .bar2Access addr write size value => Sys2Proof.Machine.execBar2Access addr write size value s
  | .aperturePlain addr write size value => Sys2Proof.Machine.execAperturePlain addr write size value s
  | .apertureWaitingLoad addr => Sys2Proof.Machine.execApertureWaitingLoad addr s
  | .apertureFillingStore addr value => Sys2Proof.Machine.execApertureFillingStore addr value s
  | .apertureConsumingLoad addr => Sys2Proof.Machine.execApertureConsumingLoad addr s
  | .apertureClearingStore addr value => Sys2Proof.Machine.execApertureClearingStore addr value s
  | .apertureTest addr => Sys2Proof.Machine.execApertureTest addr s
  | .hostWaitExpire k => Sys2Proof.Machine.execHostWaitExpire k s
  | .msixUnmask vector => Sys2Proof.Machine.execMsixUnmask vector s
  | .functionLevelReset => Sys2Proof.Machine.execFunctionLevelReset s
  | .deviceReset => Sys2Proof.Machine.execDeviceReset s
  | .bootStage fail => Sys2Proof.Machine.execBootStage fail s
  | .linkFrameReceive link channel kind tag mask payload => Sys2Proof.Machine.execLinkFrameReceive link channel kind tag mask payload s
  | .linkDown link => Sys2Proof.Machine.execLinkDown link s
  | .channelBind link channel asid peer => Sys2Proof.Machine.execChannelBind link channel asid peer s
  | .clockThrottle level => Sys2Proof.Machine.execClockThrottle level s
  | .clQreqSet cluster => Sys2Proof.Machine.execClQreqSet cluster s
  | .clQreqClear cluster => Sys2Proof.Machine.execClQreqClear cluster s
  | .clusterQuiesceAck cluster => Sys2Proof.Machine.execClusterQuiesceAck cluster s
  | .clSaveGo cluster => Sys2Proof.Machine.execClSaveGo cluster s
  | .clusterSaveDone cluster ok => Sys2Proof.Machine.execClusterSaveDone cluster ok s
  | .clClkgGate cluster => Sys2Proof.Machine.execClClkgGate cluster s
  | .clRailOff cluster => Sys2Proof.Machine.execClRailOff cluster s
  | .railGoodFall cluster => Sys2Proof.Machine.execRailGoodFall cluster s
  | .clWakeGo cluster => Sys2Proof.Machine.execClWakeGo cluster s
  | .clusterWakeDone cluster failed ok => Sys2Proof.Machine.execClusterWakeDone cluster failed ok s
  | .clQackWrite cluster => Sys2Proof.Machine.execClQackWrite cluster s
  | .asidTeardown asid => Sys2Proof.Machine.execAsidTeardown asid s
  | .tileReset tile => Sys2Proof.Machine.execTileReset tile s
  | .forcedPowerLoss cluster => Sys2Proof.Machine.execForcedPowerLoss cluster s
  | .crossingSlotArrival tile elem port => Sys2Proof.Machine.execCrossingSlotArrival tile elem port s
  | .configurationRequest => Sys2Proof.Machine.execConfigurationRequest s

end Sys2Proof.Machine
end

