-- ==== Sys2Proof/Machine/Policy.lean ====
section
/-! DEFINITION. What the package does of itself when no choice of the schedule stands (DESIGN CHOICE, log 1): the acts that may happen now, in a fixed
order, and the contexts that may fetch; and what firmware and the host do from outside the table's rows (21 R396). -/

namespace Sys2Proof.Machine

open Sys2Proof

/-- An event changes data or presence bits of an HBM page whose row is under test: it waits for the end of the test (21 R409). A read is served
from the line that the die cache holds; that it waits changes nothing but its time (log 55). -/
def rowHeld (s t : State) : Bool :=
  s.core.tests.any (fun k => k.1 == 2 &&
    ((s.mem.filter (fun c => c.1 / 0x10000 == k.2)) != (t.mem.filter (fun c => c.1 / 0x10000 == k.2))
      || (s.full.filter (fun j => j / 8192 == k.2)) != (t.full.filter (fun j => j / 8192 == k.2))))

/-- One thing that may happen: a meaning with its arguments. -/
abbrev Try := State → Host.Outcome State Fault Refusal

/-- The instruction at an index of a context's block in flight fires: the meaning of the word that stands there. -/
def fireAt (t c i : Nat) (s : State) : Host.Outcome State Fault Refusal :=
  match (s.work.ctx t c).block with
  | none => .fault .notEnabled
  | some b =>
    match b.instr i with
    | none => .fault .notEnabled
    | some ins => exec ins { s with focus := ⟨t, c, i⟩ }

namespace Work

/-! ### Candidates -/

/-- The acts of one context's block in flight: results that are due, instructions that may fire, waits, and the block's end. -/
def blockActs (w : Work) (t c : Nat) : List Try :=
  match (w.ctx t c).block with
  | none => []
  | some b =>
    let due := ((List.range b.inflight.length).zip b.inflight).filterMap (fun f =>
      if f.2.due ≤ w.now then some ((execResultDelivery t c f.1)) else none)
    let fires := ((List.range b.insts.length).zip b.insts).filterMap (fun x => if x.2.phase == .idle then some (fireAt t c x.1) else none)
    let waits := b.waits.flatMap (fun x =>
      [(execClaimWaitEnd t c x.idx), (execPauseDone t c x.idx), (execWaitRetry t c x.idx), (execQueueWaitRetry t c x.idx),
       (execQtimeout t c x.idx), (execWaitPoll t c x.idx), (execWaitTimeout t c x.idx), (execKwaitDone t c x.idx),
       (execKwaitLimitExpire t c x.idx), (execCfgswDrainDone t c x.idx), (execStagingClaimWaitEnd t c x.idx),
       (execInjectSlotRetry t c x.idx)])
    due ++ fires ++ waits ++ [(execBlockEnd t c)]

/-- The acts of a tile's contexts and its wide unit. -/
def tileActs (w : Work) (t : Nat) : List Try :=
  [0, 1, 2, 3].flatMap (fun c => w.blockActs t c) ++ [(execWideApply t), (execWrunIteration t)]

/-- Elements that channels of no slots reach from some elements, nearest first (15 R279). -/
def zeroReach (w : Work) : Nat → List (Nat × Nat) → List (Nat × Nat)
  | 0, _ => []
  | fuel + 1, front =>
    let next := (front.flatMap (fun p => ((w.elemSlots p.1 p.2).flatMap (fun S => S.ports.filter (· < 4))).eraseDups.filterMap (fun d =>
      match w.neighbour p.1 p.2 d with
      | some (u, f, 0) =>
        let i := opposite d
        if (w.activePlane u f).link i == 0 && (w.elemSlots u f).any (fun T => T.inputs.contains i) then some (u, f) else none
      | _ => none))).eraseDups
    if next.isEmpty then [] else next ++ zeroReach w fuel next

/-- An element fires; into a channel of no slots, together with the elements that take what it emits (13 R243, 15 R279). -/
def fireAlong (t e : Nat) (s : State) : Host.Outcome State Fault Refusal :=
  match execElementFire t e [] s with
  | .next u => .next u
  | o =>
    let more := (s.work.zeroReach 16 [(t, e)]).eraseDups
    ((List.range more.length).map (fun k => more.take (k + 1))).foldl (fun o xs =>
      match o with
      | .next u => .next u
      | _ => execElementFire t e xs s) o

/-- Firmware resolves a page fault at an address itself, in its own time (21 R396): the page is held elsewhere, or the address lies in a
range that it maps on first touch. -/
def firmwareHolds (w : Work) (asid va : Nat) : Bool :=
  let i := w.asidInfo asid
  match i.root with
  | none => false
  | some root =>
    match w.walk va 5 0 root with
    | .error 2 => true
    | .error 0 => i.ranges.any (fun r => r.1 ≤ va && va < r.1 + r.2)
    | _ => false

/-- The addresses that the next event of an engine command uses, as far as the policy looks: those of a copy, the pages of a digest. -/
def engineAddrs (c : EngCmd) : List Nat :=
  let n := nth c.words
  let hi (k : Nat) : Nat := bits (n 2) k 8 * 2 ^ 64
  match c.instr with
  | .cpy _ _ => [hi 48 + n 0 + c.done, hi 48 + n 0 + c.done + 7, hi 56 + n 1 + c.done]
  | .cpyfeOut _ => [hi 48 + n 0 + 512 * c.done, hi 56 + n 1 + 8 * c.done]
  | .cpyfeIn _ => [hi 48 + n 0 + 8 * c.done, hi 56 + n 1 + 8 * (c.done / 64)]
  | .dgst _ => (List.range (min 64 (n 1 / 0x10000 + 2))).map (fun k => c.seg * 2 ^ 64 + n 0 + k * 0x10000)
  | _ => []

/-- A paused engine command goes on if it does not pause at the same place again (17 R348). -/
def resumeEngine (k : Nat) (s : State) : Host.Outcome State Fault Refusal :=
  match execEnginePageResume k true s with
  | .next u =>
    let stuck (o : Host.Outcome State Fault Refusal) : Bool :=
      match o, s.work.engine k with
      | .next v, some c => (v.work.engine k).any (fun d => d.paused && d.done == c.done && d.words == c.words)
      | _, _ => false
    if stuck (execCopyComplete k 1 u) || stuck (execImposeComplete k u) || stuck (execDgstComplete k u) then .fault .notEnabled else .next u
  | o => o

/-- The acts of an element. A kill takes a clk or more to its producer. -/
def elemActs (w : Work) (t e : Nat) : List Try :=
  let slots := w.elemSlots t e
  let ports := slots.flatMap (fun S => if S.kind == 3 then
    [(execSpRepresent t e S.s), (execFeTimeout t e S.s), (execExtentFetch t e S.s)] else [])
  let come (p : Nat) : Bool := w.core.kills.any (fun k => k.tile == t && k.elem == e && k.port == p && k.sent < w.now)
  let kills := slots.flatMap (fun S => (S.ports.filter come).map (fun p => (execKillArrive t e S.s p)))
  let drops := slots.flatMap (fun S => S.sels.map (fun p => (execKillDiscard t e S.s p)))
  let arrive := (w.elem t e).cross.map (fun c => (execCrossingSlotArrival t e c.1))
  kills ++ drops ++ arrive ++ [(execLutfDigit t e), (execMeStepDone t e), (fireAlong t e)] ++ ports
    ++ [(execSpillRetry t e true)]
    ++ (if ((w.elem t e).spill.take 1).any (fun p => w.firmwareHolds (w.fabricWho t).asid p.va) then [] else [(execSpillRetry t e false)])

/-- The places of save areas in the firmware area that firmware tries in turn (05 R89; DESIGN CHOICE, log 16). -/
def areas : List Nat := (List.range 40).map (fun i => 0x7880000000 + i * 0xA010000)

/-- The acts of a region. -/
def regionActs (w : Work) (r : Nat) : List Try :=
  [(execRegionError r), (execCwDecide r), (execTaskRetire r)]
    ++ ((w.tasksToEnd.filter (·.1 == r)).map (fun k => (execContainment k.1 k.2)))
    ++ areas.map (fun a => (execPreemptSave r a))

/-- The acts of the engines, tokens and completion words. -/
def engineActs (w : Work) : List Try :=
  (List.range w.core.tokens.length).flatMap (fun k => [(execGapplyToken k), (execTokenReply k)])
    ++ (List.range w.core.engines.length).flatMap (fun k =>
      [(execCopyComplete k 64), (execImposeComplete k), (execDgstComplete k), (resumeEngine k)]
        ++ (if (w.engine k).any (fun c => (engineAddrs c).any (fun a => w.firmwareHolds c.who.asid (a % 2 ^ 72))) then []
            else [(execEnginePageResume k false)]))
    ++ (List.range w.core.comps.length).flatMap (fun k => [(execCompletionWrite k true), (execCompletionWrite k false)])

/-- The acts of the Sequencers. -/
def sequencerActs (w : Work) : List Try :=
  [0, 1, 2, 3].flatMap (fun d => [(execSubmissionTake d), (execReplayStart d), (execTaskPlace d), (execCqCombine d)])
    ++ w.core.nodes.flatMap (fun x =>
      [(execNodeFinish x.replay x.addr), (execIndirectCountRead x.replay x.addr), (execLaunchCount x.replay x.addr),
       (execCondPredicateRead x.replay x.addr), (execLoopIteration x.replay x.addr), (execNodeWaitTimeout x.replay x.addr)])
    ++ w.core.replays.map (fun r => (execReplayEnd r.1))

/-- The acts of the registers, the host port, self-tests and cluster power. -/
def registerActs (w : Work) : List Try :=
  let store := match w.core.posted with
    | [] => []
    | (o, v, _) :: _ =>
      let code := bits v.toNat 60 4
      let cmds : List Try := [execMCmdPreempt, execMCmdEndGraph, execMCmdAttest, execMCmdClearFence, (execMCmdRecover 0),
        execMCmdSetHwlim]
      match clusterReg o with
      | some (c, _) => [(execClQreqSet c), (execClQreqClear c), (execClQackWrite c), (execClSaveGo c), (execClClkgGate c),
          (execClRailOff c), (execClWakeGo c), (execRegisterWrite true o v)]
      | none => if o == 8 then (if 1 ≤ code && code ≤ 6 then (cmds.drop (code - 1)).take 1 else [(execMCmdRefused code)])
          else [(execRegisterWrite true o v)]
  store ++ [execMCmdComplete]
    ++ w.core.resv.map (fun r => (execReservationExpire r.word))
    ++ w.core.reports.map (fun k => (execSelfTestStart k.1 k.2))
    ++ w.core.tests.map (fun k => (execSelfTestEnd k.1 k.2 true true))
    ++ w.clusters.flatMap (fun c => [(execClusterQuiesceAck c.1), (execClusterSaveDone c.1 true), (execClusterSaveDone c.1 false),
         (execRailGoodFall c.1), (execClusterWakeDone c.1 [] true)])
    ++ (List.range w.core.hostOps.length).map (fun k => (execHostWaitExpire k))

/-- A fetch by a context in firmware's trap handler whose blocks firmware holds itself, not in memory: S_TVEC is 0. -/
def firmwareHeld (c : Ctx) : Bool := c.fw && c.handler && c.tvec == 0

/-- The acts that may happen now, in the order in which they are tried. -/
def acts (w : Work) : List Try :=
  w.core.tiles.flatMap (fun t => w.tileActs t.1) ++ w.engineActs ++ w.core.elems.flatMap (fun e => w.elemActs (e.1 / 256) (e.1 % 256))
    ++ w.registerActs ++ w.core.regions.flatMap (fun g => w.regionActs g.1) ++ w.sequencerActs

/-- The contexts that may fetch a block, from the `now`-th on in turn. -/
def fetches (w : Work) : List Try :=
  let all_ := w.core.tiles.flatMap (fun t => ([0, 1, 2, 3].filter (fun c => (w.ctx t.1 c).status == .ready && !firmwareHeld (w.ctx t.1 c))).map
    (fun c => (execBlockFetch t.1 c)))
  let k := if all_.isEmpty then 0 else w.now % all_.length
  all_.drop k ++ all_.take k

/-! ### What firmware and the host do (21 R396) -/

/-- A context stands in firmware's trap handler for a page fault of its task. -/
def faulted (c : Ctx) : Bool :=
  c.fw && c.handler && c.status == .ready && c.cause.toNat == Cause.pageFault && bit c.estat.toNat 0

/-- A page fault that firmware forwards to the task handler with subcode 3 (21 R396). -/
def forwardFault (c : Ctx) : Ctx :=
  let e := bits c.einfo.toNat 16 48 * 2 ^ 16 + 3 * 2 ^ 13 + bits c.einfo.toNat 0 13
  { c with fw := false, ucause := BitVec.ofNat 8 Cause.pageFault, uepc := c.epc, ueinfo := BitVec.ofNat 64 e,
           pc := vaddr (bits c.estat.toNat 8 8) c.utvec.toNat }

/-- A key record with its signature block (21 R412): the root pair verifies the firmware keys, and a firmware key the image keys. -/
def takeKeys (w : Work) (image : Bool) (k : SigKey) (block : List Nat) : Work :=
  let signers := if image then w.core.firmKeys else w.core.rootKey.toList
  if !signers.any (fun j => dualOk j ((Config.keyRecord k).map BitVec.toNat) block) then w
  else if image then { w with core := { w.core with imageKeys := w.core.imageKeys ++ [k] } }
  else { w with core := { w.core with firmKeys := w.core.firmKeys ++ [k] } }

/-- A credit comes back on a bound channel (23 R425). -/
def creditBack (w : Work) (l c : Nat) : Work :=
  let k := mapGet ({} : Link) l w.core.links
  { w with core := { w.core with links := mapSet l { k with tx := mapSet c (mapGet 0 c k.tx - 1) k.tx } w.core.links } }

/-- An act of firmware or of the host from outside the table's rows; one that cannot be changes nothing. -/
def outside (w : Work) : Outside → Work
  | .asid n info => { w with core := { w.core with asids := mapSet n info w.core.asids } }
  | .window base len => { w with core := { w.core with coherent := w.core.coherent ++ [(base, len)] } }
  | .fuses root v => { w with core := { w.core with rootKey := some root, fusedVersion := v } }
  | .firmware boot f => { w with core := if boot then { w.core with bootFirm := f } else { w.core with engineFirm := f } }
  | .keys image k block => w.takeKeys image k block
  | .msix on => { w with core := { w.core with mgmt := { w.core.mgmt with msixOn := on } } }
  | .credit l c => w.creditBack l c
  | .byte pa v =>
    match classify pa with
    | .hbm | .firmware | .host => w.putByte pa v
    | .stash _ _ | .control | .nowhere => w
  | .start t c pc =>
    let x := w.ctx t c
    if (x.status == .idle || x.status == .halted) && (w.tile t).region.isNone && t < 164 && c < 4 then
      let x := { x with status := .ready, pc := pc, fw := true, regs := [], budget := 0x101FF, fpflags := 0, handler := false, fence := 0 }
      w.setCtx t c { x with spawnedBy := none }
    else w
  | .forward t c =>
    let x := w.ctx t c
    if faulted x && x.utvec != 0 && x.utvec.toNat % 16 == 0 then w.setCtx t c (forwardFault x) else w
  | .resume t c =>
    let x := w.ctx t c
    if faulted x then w.setCtx t c { x.returnTrap with handler := false } else w
  | .read o => w.readRegister o
  | .drift t n => if t < 164 then w.setTile t { w.tile t with ahead := (w.tile t).ahead + n } else w
  | .move page frame => w.movePage page frame

end Work

end Sys2Proof.Machine
end

