-- ==== Sys2Proof/Machine/Step.lean ====
section
/-! DEFINITION. One step of the package: one row of the operation table at one agent (DESIGN CHOICE, log 1). -/

namespace Sys2Proof.Machine

open Sys2Proof

/-- The tile, context and index that an event works at are its own arguments; an instruction's are the focus. -/
def perform (a : Act) (s : State) : Host.Outcome State Fault Refusal :=
  match a with
  | .fire t c i => fireAt t c i s
  | .event e => if e.isEncoded then .fault .notEnabled else exec e s
  | .outside o => .next (s.lift (fun w => w.outside o))

/-- The first of some acts that happens and that no test of an HBM row holds back. -/
def firstNext : List Try → State → Option State
  | [], _ => none
  | f :: fs, s =>
    match f s with
    | .next t => if rowHeld s t then firstNext fs s else some t
    | .fault _ => firstNext fs s
    | .refused _ => firstNext fs s

/-- The step without a choice of the schedule: what may happen now happens; when nothing may, a clk passes and a block is fetched. -/
def idleStep (s : State) : State :=
  match firstNext s.work.acts s with
  | some t => t
  | none =>
    let u := { s with now := s.now + 1 }
    match firstNext u.work.fetches u with
    | some t => t
    | none => u

/-- One step: the next choice of the schedule, at its clk; a choice that cannot happen, or that a test of an HBM row holds back (21
R409), is dropped, its clk passed. -/
def step (s : State) : Host.Outcome State Fault Refusal :=
  match s.sched with
  | [] => .next (idleStep s)
  | c :: cs =>
    let u := { s with sched := cs, now := s.now + c.dclk }
    match perform c.act u with
    | .next t => .next (if rowHeld u t then u else t)
    | .fault _ => .next u
    | .refused r => .refused r

/-- The block of one instruction, every slot filled: operands 0, and a predicate that holds. -/
def probeBlock (w : IWord) : Block :=
  let p : Word := if fPr w == 3#2 then 1 else 0
  { addr := 0, words := [w], writes := [], held := [], nr := 0, ns := 0, fw := true,
    insts := [{ left := some (.val 0), right := some (.val 0), third := some (.val p) }] }

/-- The state with a one-instruction block in flight in context 0 of tile 0, in firmware mode, and the schedule about to fire it
(DESIGN CHOICE, log 20). -/
def State.withFetchWord (s : State) (nbits w : Nat) : State :=
  let x : IWord := BitVec.ofNat 32 (w % 2 ^ nbits)
  let c := { s.work.ctx 0 0 with status := .running, fw := true, block := some (probeBlock x) }
  let u := s.lift (fun v => v.setCtx 0 0 c)
  { u with sched := { act := .fire 0 0 0 } :: s.sched }

end Sys2Proof.Machine
end

