-- ==== Sys2Proof/Laws/Encoding.lean ====
section
/-! SUPPORT. Each format's fields are read back from a word packed in that format (07 R145), and sub-fields from the field that holds
them. -/

namespace Sys2Proof

@[simp] theorem fOp_packG (op : BitVec 7) (pr : BitVec 2) (x : BitVec 5) (t1 : BitVec 9) (t0 : BitVec 9) :
    fOp (packG op pr x t1 t0) = op := by
  apply BitVec.eq_of_toNat_eq
  simp only [fOp, packG, BitVec.toNat_ofNat]
  have h0 := op.isLt; have h1 := pr.isLt; have h2 := x.isLt; have h3 := t1.isLt; have h4 := t0.isLt
  omega

@[simp] theorem fPr_packG (op : BitVec 7) (pr : BitVec 2) (x : BitVec 5) (t1 : BitVec 9) (t0 : BitVec 9) :
    fPr (packG op pr x t1 t0) = pr := by
  apply BitVec.eq_of_toNat_eq
  simp only [fPr, packG, BitVec.toNat_ofNat]
  have h0 := op.isLt; have h1 := pr.isLt; have h2 := x.isLt; have h3 := t1.isLt; have h4 := t0.isLt
  omega

@[simp] theorem fX_packG (op : BitVec 7) (pr : BitVec 2) (x : BitVec 5) (t1 : BitVec 9) (t0 : BitVec 9) :
    fX (packG op pr x t1 t0) = x := by
  apply BitVec.eq_of_toNat_eq
  simp only [fX, packG, BitVec.toNat_ofNat]
  have h0 := op.isLt; have h1 := pr.isLt; have h2 := x.isLt; have h3 := t1.isLt; have h4 := t0.isLt
  omega

@[simp] theorem fT1_packG (op : BitVec 7) (pr : BitVec 2) (x : BitVec 5) (t1 : BitVec 9) (t0 : BitVec 9) :
    fT1 (packG op pr x t1 t0) = t1 := by
  apply BitVec.eq_of_toNat_eq
  simp only [fT1, packG, BitVec.toNat_ofNat]
  have h0 := op.isLt; have h1 := pr.isLt; have h2 := x.isLt; have h3 := t1.isLt; have h4 := t0.isLt
  omega

@[simp] theorem fT0_packG (op : BitVec 7) (pr : BitVec 2) (x : BitVec 5) (t1 : BitVec 9) (t0 : BitVec 9) :
    fT0 (packG op pr x t1 t0) = t0 := by
  apply BitVec.eq_of_toNat_eq
  simp only [fT0, packG, BitVec.toNat_ofNat]
  have h0 := op.isLt; have h1 := pr.isLt; have h2 := x.isLt; have h3 := t1.isLt; have h4 := t0.isLt
  omega

@[simp] theorem fOp_packI (op : BitVec 7) (pr : BitVec 2) (imm : BitVec 14) (t0 : BitVec 9) :
    fOp (packI op pr imm t0) = op := by
  apply BitVec.eq_of_toNat_eq
  simp only [fOp, packI, BitVec.toNat_ofNat]
  have h0 := op.isLt; have h1 := pr.isLt; have h2 := imm.isLt; have h3 := t0.isLt
  omega

@[simp] theorem fPr_packI (op : BitVec 7) (pr : BitVec 2) (imm : BitVec 14) (t0 : BitVec 9) :
    fPr (packI op pr imm t0) = pr := by
  apply BitVec.eq_of_toNat_eq
  simp only [fPr, packI, BitVec.toNat_ofNat]
  have h0 := op.isLt; have h1 := pr.isLt; have h2 := imm.isLt; have h3 := t0.isLt
  omega

@[simp] theorem fImm14_packI (op : BitVec 7) (pr : BitVec 2) (imm : BitVec 14) (t0 : BitVec 9) :
    fImm14 (packI op pr imm t0) = imm := by
  apply BitVec.eq_of_toNat_eq
  simp only [fImm14, packI, BitVec.toNat_ofNat]
  have h0 := op.isLt; have h1 := pr.isLt; have h2 := imm.isLt; have h3 := t0.isLt
  omega

@[simp] theorem fT0_packI (op : BitVec 7) (pr : BitVec 2) (imm : BitVec 14) (t0 : BitVec 9) :
    fT0 (packI op pr imm t0) = t0 := by
  apply BitVec.eq_of_toNat_eq
  simp only [fT0, packI, BitVec.toNat_ofNat]
  have h0 := op.isLt; have h1 := pr.isLt; have h2 := imm.isLt; have h3 := t0.isLt
  omega

@[simp] theorem fOp_packS (op : BitVec 7) (pr : BitVec 2) (lsid : BitVec 5) (imm : BitVec 18) :
    fOp (packS op pr lsid imm) = op := by
  apply BitVec.eq_of_toNat_eq
  simp only [fOp, packS, BitVec.toNat_ofNat]
  have h0 := op.isLt; have h1 := pr.isLt; have h2 := lsid.isLt; have h3 := imm.isLt
  omega

@[simp] theorem fPr_packS (op : BitVec 7) (pr : BitVec 2) (lsid : BitVec 5) (imm : BitVec 18) :
    fPr (packS op pr lsid imm) = pr := by
  apply BitVec.eq_of_toNat_eq
  simp only [fPr, packS, BitVec.toNat_ofNat]
  have h0 := op.isLt; have h1 := pr.isLt; have h2 := lsid.isLt; have h3 := imm.isLt
  omega

@[simp] theorem fX_packS (op : BitVec 7) (pr : BitVec 2) (lsid : BitVec 5) (imm : BitVec 18) :
    fX (packS op pr lsid imm) = lsid := by
  apply BitVec.eq_of_toNat_eq
  simp only [fX, packS, BitVec.toNat_ofNat]
  have h0 := op.isLt; have h1 := pr.isLt; have h2 := lsid.isLt; have h3 := imm.isLt
  omega

@[simp] theorem fImm18_packS (op : BitVec 7) (pr : BitVec 2) (lsid : BitVec 5) (imm : BitVec 18) :
    fImm18 (packS op pr lsid imm) = imm := by
  apply BitVec.eq_of_toNat_eq
  simp only [fImm18, packS, BitVec.toNat_ofNat]
  have h0 := op.isLt; have h1 := pr.isLt; have h2 := lsid.isLt; have h3 := imm.isLt
  omega

@[simp] theorem fOp_packB (op : BitVec 7) (pr : BitVec 2) (exit : BitVec 3) (off : BitVec 20) :
    fOp (packB op pr exit off) = op := by
  apply BitVec.eq_of_toNat_eq
  simp only [fOp, packB, BitVec.toNat_ofNat]
  have h0 := op.isLt; have h1 := pr.isLt; have h2 := exit.isLt; have h3 := off.isLt
  omega

@[simp] theorem fPr_packB (op : BitVec 7) (pr : BitVec 2) (exit : BitVec 3) (off : BitVec 20) :
    fPr (packB op pr exit off) = pr := by
  apply BitVec.eq_of_toNat_eq
  simp only [fPr, packB, BitVec.toNat_ofNat]
  have h0 := op.isLt; have h1 := pr.isLt; have h2 := exit.isLt; have h3 := off.isLt
  omega

@[simp] theorem fExit_packB (op : BitVec 7) (pr : BitVec 2) (exit : BitVec 3) (off : BitVec 20) :
    fExit (packB op pr exit off) = exit := by
  apply BitVec.eq_of_toNat_eq
  simp only [fExit, packB, BitVec.toNat_ofNat]
  have h0 := op.isLt; have h1 := pr.isLt; have h2 := exit.isLt; have h3 := off.isLt
  omega

@[simp] theorem fOff_packB (op : BitVec 7) (pr : BitVec 2) (exit : BitVec 3) (off : BitVec 20) :
    fOff (packB op pr exit off) = off := by
  apply BitVec.eq_of_toNat_eq
  simp only [fOff, packB, BitVec.toNat_ofNat]
  have h0 := op.isLt; have h1 := pr.isLt; have h2 := exit.isLt; have h3 := off.isLt
  omega

@[simp] theorem fOp_packC (op : BitVec 7) (imm : BitVec 16) (t0 : BitVec 9) :
    fOp (packC op imm t0) = op := by
  apply BitVec.eq_of_toNat_eq
  simp only [fOp, packC, BitVec.toNat_ofNat]
  have h0 := op.isLt; have h1 := imm.isLt; have h2 := t0.isLt
  omega

@[simp] theorem fImm16_packC (op : BitVec 7) (imm : BitVec 16) (t0 : BitVec 9) :
    fImm16 (packC op imm t0) = imm := by
  apply BitVec.eq_of_toNat_eq
  simp only [fImm16, packC, BitVec.toNat_ofNat]
  have h0 := op.isLt; have h1 := imm.isLt; have h2 := t0.isLt
  omega

@[simp] theorem fT0_packC (op : BitVec 7) (imm : BitVec 16) (t0 : BitVec 9) :
    fT0 (packC op imm t0) = t0 := by
  apply BitVec.eq_of_toNat_eq
  simp only [fT0, packC, BitVec.toNat_ofNat]
  have h0 := op.isLt; have h1 := imm.isLt; have h2 := t0.isLt
  omega

@[simp] theorem fOp_packEW (op : BitVec 7) (pr : BitVec 2) (x : BitVec 5) (wd : BitVec 5) (wa : BitVec 5) (wb : BitVec 5) (km : BitVec 3) :
    fOp (packEW op pr x wd wa wb km) = op := by
  apply BitVec.eq_of_toNat_eq
  simp only [fOp, packEW, BitVec.toNat_ofNat]
  have h0 := op.isLt; have h1 := pr.isLt; have h2 := x.isLt; have h3 := wd.isLt; have h4 := wa.isLt; have h5 := wb.isLt; have h6 := km.isLt
  omega

@[simp] theorem fPr_packEW (op : BitVec 7) (pr : BitVec 2) (x : BitVec 5) (wd : BitVec 5) (wa : BitVec 5) (wb : BitVec 5) (km : BitVec 3) :
    fPr (packEW op pr x wd wa wb km) = pr := by
  apply BitVec.eq_of_toNat_eq
  simp only [fPr, packEW, BitVec.toNat_ofNat]
  have h0 := op.isLt; have h1 := pr.isLt; have h2 := x.isLt; have h3 := wd.isLt; have h4 := wa.isLt; have h5 := wb.isLt; have h6 := km.isLt
  omega

@[simp] theorem fX_packEW (op : BitVec 7) (pr : BitVec 2) (x : BitVec 5) (wd : BitVec 5) (wa : BitVec 5) (wb : BitVec 5) (km : BitVec 3) :
    fX (packEW op pr x wd wa wb km) = x := by
  apply BitVec.eq_of_toNat_eq
  simp only [fX, packEW, BitVec.toNat_ofNat]
  have h0 := op.isLt; have h1 := pr.isLt; have h2 := x.isLt; have h3 := wd.isLt; have h4 := wa.isLt; have h5 := wb.isLt; have h6 := km.isLt
  omega

@[simp] theorem fWd_packEW (op : BitVec 7) (pr : BitVec 2) (x : BitVec 5) (wd : BitVec 5) (wa : BitVec 5) (wb : BitVec 5) (km : BitVec 3) :
    fWd (packEW op pr x wd wa wb km) = wd := by
  apply BitVec.eq_of_toNat_eq
  simp only [fWd, packEW, BitVec.toNat_ofNat]
  have h0 := op.isLt; have h1 := pr.isLt; have h2 := x.isLt; have h3 := wd.isLt; have h4 := wa.isLt; have h5 := wb.isLt; have h6 := km.isLt
  omega

@[simp] theorem fWa_packEW (op : BitVec 7) (pr : BitVec 2) (x : BitVec 5) (wd : BitVec 5) (wa : BitVec 5) (wb : BitVec 5) (km : BitVec 3) :
    fWa (packEW op pr x wd wa wb km) = wa := by
  apply BitVec.eq_of_toNat_eq
  simp only [fWa, packEW, BitVec.toNat_ofNat]
  have h0 := op.isLt; have h1 := pr.isLt; have h2 := x.isLt; have h3 := wd.isLt; have h4 := wa.isLt; have h5 := wb.isLt; have h6 := km.isLt
  omega

@[simp] theorem fWb_packEW (op : BitVec 7) (pr : BitVec 2) (x : BitVec 5) (wd : BitVec 5) (wa : BitVec 5) (wb : BitVec 5) (km : BitVec 3) :
    fWb (packEW op pr x wd wa wb km) = wb := by
  apply BitVec.eq_of_toNat_eq
  simp only [fWb, packEW, BitVec.toNat_ofNat]
  have h0 := op.isLt; have h1 := pr.isLt; have h2 := x.isLt; have h3 := wd.isLt; have h4 := wa.isLt; have h5 := wb.isLt; have h6 := km.isLt
  omega

@[simp] theorem fKm_packEW (op : BitVec 7) (pr : BitVec 2) (x : BitVec 5) (wd : BitVec 5) (wa : BitVec 5) (wb : BitVec 5) (km : BitVec 3) :
    fKm (packEW op pr x wd wa wb km) = km := by
  apply BitVec.eq_of_toNat_eq
  simp only [fKm, packEW, BitVec.toNat_ofNat]
  have h0 := op.isLt; have h1 := pr.isLt; have h2 := x.isLt; have h3 := wd.isLt; have h4 := wa.isLt; have h5 := wb.isLt; have h6 := km.isLt
  omega

@[simp] theorem fOp_packEX (op : BitVec 7) (pr : BitVec 2) (x : BitVec 5) (xd : BitVec 2) (xs : BitVec 2) (wa : BitVec 5) (wb : BitVec 5) (ksel : BitVec 3) :
    fOp (packEX op pr x xd xs wa wb ksel) = op := by
  apply BitVec.eq_of_toNat_eq
  simp only [fOp, packEX, BitVec.toNat_ofNat]
  have h0 := op.isLt; have h1 := pr.isLt; have h2 := x.isLt; have h3 := xd.isLt; have h4 := xs.isLt; have h5 := wa.isLt; have h6 := wb.isLt; have h7 := ksel.isLt
  omega

@[simp] theorem fPr_packEX (op : BitVec 7) (pr : BitVec 2) (x : BitVec 5) (xd : BitVec 2) (xs : BitVec 2) (wa : BitVec 5) (wb : BitVec 5) (ksel : BitVec 3) :
    fPr (packEX op pr x xd xs wa wb ksel) = pr := by
  apply BitVec.eq_of_toNat_eq
  simp only [fPr, packEX, BitVec.toNat_ofNat]
  have h0 := op.isLt; have h1 := pr.isLt; have h2 := x.isLt; have h3 := xd.isLt; have h4 := xs.isLt; have h5 := wa.isLt; have h6 := wb.isLt; have h7 := ksel.isLt
  omega

@[simp] theorem fX_packEX (op : BitVec 7) (pr : BitVec 2) (x : BitVec 5) (xd : BitVec 2) (xs : BitVec 2) (wa : BitVec 5) (wb : BitVec 5) (ksel : BitVec 3) :
    fX (packEX op pr x xd xs wa wb ksel) = x := by
  apply BitVec.eq_of_toNat_eq
  simp only [fX, packEX, BitVec.toNat_ofNat]
  have h0 := op.isLt; have h1 := pr.isLt; have h2 := x.isLt; have h3 := xd.isLt; have h4 := xs.isLt; have h5 := wa.isLt; have h6 := wb.isLt; have h7 := ksel.isLt
  omega

@[simp] theorem fXd_packEX (op : BitVec 7) (pr : BitVec 2) (x : BitVec 5) (xd : BitVec 2) (xs : BitVec 2) (wa : BitVec 5) (wb : BitVec 5) (ksel : BitVec 3) :
    fXd (packEX op pr x xd xs wa wb ksel) = xd := by
  apply BitVec.eq_of_toNat_eq
  simp only [fXd, packEX, BitVec.toNat_ofNat]
  have h0 := op.isLt; have h1 := pr.isLt; have h2 := x.isLt; have h3 := xd.isLt; have h4 := xs.isLt; have h5 := wa.isLt; have h6 := wb.isLt; have h7 := ksel.isLt
  omega

@[simp] theorem fXs_packEX (op : BitVec 7) (pr : BitVec 2) (x : BitVec 5) (xd : BitVec 2) (xs : BitVec 2) (wa : BitVec 5) (wb : BitVec 5) (ksel : BitVec 3) :
    fXs (packEX op pr x xd xs wa wb ksel) = xs := by
  apply BitVec.eq_of_toNat_eq
  simp only [fXs, packEX, BitVec.toNat_ofNat]
  have h0 := op.isLt; have h1 := pr.isLt; have h2 := x.isLt; have h3 := xd.isLt; have h4 := xs.isLt; have h5 := wa.isLt; have h6 := wb.isLt; have h7 := ksel.isLt
  omega

@[simp] theorem fXwa_packEX (op : BitVec 7) (pr : BitVec 2) (x : BitVec 5) (xd : BitVec 2) (xs : BitVec 2) (wa : BitVec 5) (wb : BitVec 5) (ksel : BitVec 3) :
    fXwa (packEX op pr x xd xs wa wb ksel) = wa := by
  apply BitVec.eq_of_toNat_eq
  simp only [fXwa, packEX, BitVec.toNat_ofNat]
  have h0 := op.isLt; have h1 := pr.isLt; have h2 := x.isLt; have h3 := xd.isLt; have h4 := xs.isLt; have h5 := wa.isLt; have h6 := wb.isLt; have h7 := ksel.isLt
  omega

@[simp] theorem fXwb_packEX (op : BitVec 7) (pr : BitVec 2) (x : BitVec 5) (xd : BitVec 2) (xs : BitVec 2) (wa : BitVec 5) (wb : BitVec 5) (ksel : BitVec 3) :
    fXwb (packEX op pr x xd xs wa wb ksel) = wb := by
  apply BitVec.eq_of_toNat_eq
  simp only [fXwb, packEX, BitVec.toNat_ofNat]
  have h0 := op.isLt; have h1 := pr.isLt; have h2 := x.isLt; have h3 := xd.isLt; have h4 := xs.isLt; have h5 := wa.isLt; have h6 := wb.isLt; have h7 := ksel.isLt
  omega

@[simp] theorem fKsel_packEX (op : BitVec 7) (pr : BitVec 2) (x : BitVec 5) (xd : BitVec 2) (xs : BitVec 2) (wa : BitVec 5) (wb : BitVec 5) (ksel : BitVec 3) :
    fKsel (packEX op pr x xd xs wa wb ksel) = ksel := by
  apply BitVec.eq_of_toNat_eq
  simp only [fKsel, packEX, BitVec.toNat_ofNat]
  have h0 := op.isLt; have h1 := pr.isLt; have h2 := x.isLt; have h3 := xd.isLt; have h4 := xs.isLt; have h5 := wa.isLt; have h6 := wb.isLt; have h7 := ksel.isLt
  omega

@[simp] theorem fB0_packEX (op : BitVec 7) (pr : BitVec 2) (x : BitVec 5) (xd : BitVec 2) (xs : BitVec 2) (wa : BitVec 5) (wb : BitVec 5) (ksel : BitVec 3) :
    fB0 (packEX op pr x xd xs wa wb ksel) = 0#1 := by
  apply BitVec.eq_of_toNat_eq
  simp only [fB0, packEX, BitVec.toNat_ofNat]
  have h0 := op.isLt; have h1 := pr.isLt; have h2 := x.isLt; have h3 := xd.isLt; have h4 := xs.isLt; have h5 := wa.isLt; have h6 := wb.isLt; have h7 := ksel.isLt
  omega

theorem fXLow3_eq (w : IWord) : fXLow3 w = BitVec.ofNat 3 ((fX w).toNat / 1) := by
  apply BitVec.eq_of_toNat_eq
  simp only [fXLow3, fX, BitVec.toNat_ofNat]
  omega

theorem fXLow2_eq (w : IWord) : fXLow2 w = BitVec.ofNat 2 ((fX w).toNat / 1) := by
  apply BitVec.eq_of_toNat_eq
  simp only [fXLow2, fX, BitVec.toNat_ofNat]
  omega

theorem fXTop_eq (w : IWord) : fXTop w = BitVec.ofNat 1 ((fX w).toNat / 16) := by
  apply BitVec.eq_of_toNat_eq
  simp only [fXTop, fX, BitVec.toNat_ofNat]
  omega

theorem fXHigh3_eq (w : IWord) : fXHigh3 w = BitVec.ofNat 3 ((fX w).toNat / 4) := by
  apply BitVec.eq_of_toNat_eq
  simp only [fXHigh3, fX, BitVec.toNat_ofNat]
  omega

theorem fXHigh2_eq (w : IWord) : fXHigh2 w = BitVec.ofNat 2 ((fX w).toNat / 8) := by
  apply BitVec.eq_of_toNat_eq
  simp only [fXHigh2, fX, BitVec.toNat_ofNat]
  omega

theorem fXMid4_eq (w : IWord) : fXMid4 w = BitVec.ofNat 4 ((fX w).toNat / 1) := by
  apply BitVec.eq_of_toNat_eq
  simp only [fXMid4, fX, BitVec.toNat_ofNat]
  omega

theorem fXrm_eq (w : IWord) : fXrm w = BitVec.ofNat 2 ((fX w).toNat / 4) := by
  apply BitVec.eq_of_toNat_eq
  simp only [fXrm, fX, BitVec.toNat_ofNat]
  omega

theorem fCnt_eq (w : IWord) : fCnt w = BitVec.ofNat 6 ((fImm14 w).toNat / 1) := by
  apply BitVec.eq_of_toNat_eq
  simp only [fCnt, fImm14, BitVec.toNat_ofNat]
  omega

theorem fCntHi_eq (w : IWord) : fCntHi w = BitVec.ofNat 8 ((fImm14 w).toNat / 64) := by
  apply BitVec.eq_of_toNat_eq
  simp only [fCntHi, fImm14, BitVec.toNat_ofNat]
  omega

theorem fLen_eq (w : IWord) : fLen w = BitVec.ofNat 6 ((fImm14 w).toNat / 64) := by
  apply BitVec.eq_of_toNat_eq
  simp only [fLen, fImm14, BitVec.toNat_ofNat]
  omega

theorem fId_eq (w : IWord) : fId w = BitVec.ofNat 12 ((fImm14 w).toNat / 1) := by
  apply BitVec.eq_of_toNat_eq
  simp only [fId, fImm14, BitVec.toNat_ofNat]
  omega

theorem fLimI_eq (w : IWord) : fLimI w = BitVec.ofNat 5 ((fImm14 w).toNat / 1) := by
  apply BitVec.eq_of_toNat_eq
  simp only [fLimI, fImm14, BitVec.toNat_ofNat]
  omega

theorem fB14_eq (w : IWord) : fB14 w = BitVec.ofNat 1 ((fImm14 w).toNat / 32) := by
  apply BitVec.eq_of_toNat_eq
  simp only [fB14, fImm14, BitVec.toNat_ofNat]
  omega

theorem fRed_eq (w : IWord) : fRed w = BitVec.ofNat 2 ((fWb w).toNat / 1) := by
  apply BitVec.eq_of_toNat_eq
  simp only [fRed, fWb, BitVec.toNat_ofNat]
  omega

theorem fRedHi_eq (w : IWord) : fRedHi w = BitVec.ofNat 3 ((fWb w).toNat / 4) := by
  apply BitVec.eq_of_toNat_eq
  simp only [fRedHi, fWb, BitVec.toNat_ofNat]
  omega

theorem fB3_eq (w : IWord) : fB3 w = BitVec.ofNat 1 ((fWb w).toNat / 1) := by
  apply BitVec.eq_of_toNat_eq
  simp only [fB3, fWb, BitVec.toNat_ofNat]
  omega

theorem fWbHi4_eq (w : IWord) : fWbHi4 w = BitVec.ofNat 4 ((fWb w).toNat / 2) := by
  apply BitVec.eq_of_toNat_eq
  simp only [fWbHi4, fWb, BitVec.toNat_ofNat]
  omega

theorem fHi2_of_x (w : IWord) : fHi2 w = BitVec.ofNat 2 ((fX w).toNat / 8) := by
  apply BitVec.eq_of_toNat_eq
  simp only [fHi2, fX, BitVec.toNat_ofNat]
  omega

theorem fHi2_of_imm (w : IWord) : fHi2 w = BitVec.ofNat 2 ((fImm14 w).toNat / 4096) := by
  apply BitVec.eq_of_toNat_eq
  simp only [fHi2, fImm14, BitVec.toNat_ofNat]
  omega

theorem fWd_of_t1 (w : IWord) : fWd w = BitVec.ofNat 5 ((fT1 w).toNat / 16) := by
  apply BitVec.eq_of_toNat_eq
  simp only [fWd, fT1, BitVec.toNat_ofNat]
  omega

theorem fW_of_t1 (w : IWord) : fW w = BitVec.ofNat 1 ((fT1 w).toNat / 8) := by
  apply BitVec.eq_of_toNat_eq
  simp only [fW, fT1, BitVec.toNat_ofNat]
  omega

theorem fAmoZ_of_t1 (w : IWord) : fAmoZ w = BitVec.ofNat 3 ((fT1 w).toNat / 1) := by
  apply BitVec.eq_of_toNat_eq
  simp only [fAmoZ, fT1, BitVec.toNat_ofNat]
  omega

theorem fWd_of_imm18 (w : IWord) : fWd w = BitVec.ofNat 5 ((fImm18 w).toNat / 8192) := by
  apply BitVec.eq_of_toNat_eq
  simp only [fWd, fImm18, BitVec.toNat_ofNat]
  omega

theorem fW_of_imm18 (w : IWord) : fW w = BitVec.ofNat 1 ((fImm18 w).toNat / 4096) := by
  apply BitVec.eq_of_toNat_eq
  simp only [fW, fImm18, BitVec.toNat_ofNat]
  omega

theorem fXd_of_wd (w : IWord) : fXd w = BitVec.ofNat 2 ((fWd w).toNat / 8) := by
  apply BitVec.eq_of_toNat_eq
  simp only [fXd, fWd, BitVec.toNat_ofNat]
  omega

theorem fKd_of_wd (w : IWord) : fKd w = BitVec.ofNat 3 ((fWd w).toNat / 1) := by
  apply BitVec.eq_of_toNat_eq
  simp only [fKd, fWd, BitVec.toNat_ofNat]
  omega

theorem fT0_of_imm18 (w : IWord) : fT0 w = BitVec.ofNat 9 ((fImm18 w).toNat / 1) := by
  apply BitVec.eq_of_toNat_eq
  simp only [fT0, fImm18, BitVec.toNat_ofNat]
  omega

theorem fAmoZ_of_imm18 (w : IWord) : fAmoZ w = BitVec.ofNat 3 ((fImm18 w).toNat / 512) := by
  apply BitVec.eq_of_toNat_eq
  simp only [fAmoZ, fImm18, BitVec.toNat_ofNat]
  omega

theorem fRedZ_of_imm18 (w : IWord) : fRedZ w = BitVec.ofNat 12 ((fImm18 w).toNat / 1) := by
  apply BitVec.eq_of_toNat_eq
  simp only [fRedZ, fImm18, BitVec.toNat_ofNat]
  omega

end Sys2Proof
end

