-- ==== Sys2Proof/Laws/PerInstr.lean ====
section
/-! SUPPORT. Decode and encode agree, one lemma for each constructor (07 R145, R148): the decoder reads back every field of a
well-formed instruction from the word that the encoder packs. -/

namespace Sys2Proof.Laws.RoundTrip

open Sys2Proof

/-- The decoder gives back an encoded instruction. -/
def Statement (i : Instr) : Prop := i.wellFormed = true → i.isEncoded = true → decode (encode i) = some i

theorem decode_op01 (w : IWord) (h : fOp w = 1#7) : decode w = decodeOp01 w := by unfold decode; rw [h]; rfl

theorem decode_op02 (w : IWord) (h : fOp w = 2#7) : decode w = decodeOp02 w := by unfold decode; rw [h]; rfl

theorem decode_op03 (w : IWord) (h : fOp w = 3#7) : decode w = decodeOp03 w := by unfold decode; rw [h]; rfl

theorem decode_op04 (w : IWord) (h : fOp w = 4#7) : decode w = decodeOp04 w := by unfold decode; rw [h]; rfl

theorem decode_op05 (w : IWord) (h : fOp w = 5#7) : decode w = decodeOp05 w := by unfold decode; rw [h]; rfl

theorem decode_op06 (w : IWord) (h : fOp w = 6#7) : decode w = decodeOp06 w := by unfold decode; rw [h]; rfl

theorem decode_op07 (w : IWord) (h : fOp w = 7#7) : decode w = decodeOp07 w := by unfold decode; rw [h]; rfl

theorem decode_op08 (w : IWord) (h : fOp w = 8#7) : decode w = decodeOp08 w := by unfold decode; rw [h]; rfl

theorem decode_op09 (w : IWord) (h : fOp w = 9#7) : decode w = decodeOp09 w := by unfold decode; rw [h]; rfl

theorem decode_op0A (w : IWord) (h : fOp w = 10#7) : decode w = decodeOp0A w := by unfold decode; rw [h]; rfl

theorem decode_op0B (w : IWord) (h : fOp w = 11#7) : decode w = decodeOp0B w := by unfold decode; rw [h]; rfl

theorem decode_op0C (w : IWord) (h : fOp w = 12#7) : decode w = decodeOp0C w := by unfold decode; rw [h]; rfl

theorem decode_op0D (w : IWord) (h : fOp w = 13#7) : decode w = decodeOp0D w := by unfold decode; rw [h]; rfl

theorem decode_op0E (w : IWord) (h : fOp w = 14#7) : decode w = decodeOp0E w := by unfold decode; rw [h]; rfl

theorem decode_op0F (w : IWord) (h : fOp w = 15#7) : decode w = decodeOp0F w := by unfold decode; rw [h]; rfl

theorem decode_op10 (w : IWord) (h : fOp w = 16#7) : decode w = decodeOp10 w := by unfold decode; rw [h]; rfl

theorem decode_op11 (w : IWord) (h : fOp w = 17#7) : decode w = decodeOp11 w := by unfold decode; rw [h]; rfl

theorem decode_op12 (w : IWord) (h : fOp w = 18#7) : decode w = decodeOp12 w := by unfold decode; rw [h]; rfl

theorem decode_op13 (w : IWord) (h : fOp w = 19#7) : decode w = decodeOp13 w := by unfold decode; rw [h]; rfl

theorem decode_op14 (w : IWord) (h : fOp w = 20#7) : decode w = decodeOp14 w := by unfold decode; rw [h]; rfl

theorem decode_op15 (w : IWord) (h : fOp w = 21#7) : decode w = decodeOp15 w := by unfold decode; rw [h]; rfl

theorem decode_op16 (w : IWord) (h : fOp w = 22#7) : decode w = decodeOp16 w := by unfold decode; rw [h]; rfl

theorem decode_op17 (w : IWord) (h : fOp w = 23#7) : decode w = decodeOp17 w := by unfold decode; rw [h]; rfl

theorem decode_op18 (w : IWord) (h : fOp w = 24#7) : decode w = decodeOp18 w := by unfold decode; rw [h]; rfl

theorem decode_op19 (w : IWord) (h : fOp w = 25#7) : decode w = decodeOp19 w := by unfold decode; rw [h]; rfl

theorem decode_op1A (w : IWord) (h : fOp w = 26#7) : decode w = decodeOp1A w := by unfold decode; rw [h]; rfl

theorem decode_op1B (w : IWord) (h : fOp w = 27#7) : decode w = decodeOp1B w := by unfold decode; rw [h]; rfl

theorem decode_op1C (w : IWord) (h : fOp w = 28#7) : decode w = decodeOp1C w := by unfold decode; rw [h]; rfl

theorem decode_op1D (w : IWord) (h : fOp w = 29#7) : decode w = decodeOp1D w := by unfold decode; rw [h]; rfl

theorem decode_op20 (w : IWord) (h : fOp w = 32#7) : decode w = decodeOp20 w := by unfold decode; rw [h]; rfl

theorem decode_op21 (w : IWord) (h : fOp w = 33#7) : decode w = decodeOp21 w := by unfold decode; rw [h]; rfl

theorem decode_op22 (w : IWord) (h : fOp w = 34#7) : decode w = decodeOp22 w := by unfold decode; rw [h]; rfl

theorem decode_op23 (w : IWord) (h : fOp w = 35#7) : decode w = decodeOp23 w := by unfold decode; rw [h]; rfl

theorem decode_op24 (w : IWord) (h : fOp w = 36#7) : decode w = decodeOp24 w := by unfold decode; rw [h]; rfl

theorem decode_op25 (w : IWord) (h : fOp w = 37#7) : decode w = decodeOp25 w := by unfold decode; rw [h]; rfl

theorem decode_op28 (w : IWord) (h : fOp w = 40#7) : decode w = decodeOp28 w := by unfold decode; rw [h]; rfl

theorem decode_op29 (w : IWord) (h : fOp w = 41#7) : decode w = decodeOp29 w := by unfold decode; rw [h]; rfl

theorem decode_op2A (w : IWord) (h : fOp w = 42#7) : decode w = decodeOp2A w := by unfold decode; rw [h]; rfl

theorem decode_op2B (w : IWord) (h : fOp w = 43#7) : decode w = decodeOp2B w := by unfold decode; rw [h]; rfl

theorem decode_op2C (w : IWord) (h : fOp w = 44#7) : decode w = decodeOp2C w := by unfold decode; rw [h]; rfl

theorem decode_op30 (w : IWord) (h : fOp w = 48#7) : decode w = decodeOp30 w := by unfold decode; rw [h]; rfl

theorem decode_op31 (w : IWord) (h : fOp w = 49#7) : decode w = decodeOp31 w := by unfold decode; rw [h]; rfl

theorem decode_op32 (w : IWord) (h : fOp w = 50#7) : decode w = decodeOp32 w := by unfold decode; rw [h]; rfl

theorem decode_op33 (w : IWord) (h : fOp w = 51#7) : decode w = decodeOp33 w := by unfold decode; rw [h]; rfl

theorem decode_op34 (w : IWord) (h : fOp w = 52#7) : decode w = decodeOp34 w := by unfold decode; rw [h]; rfl

theorem decode_op35 (w : IWord) (h : fOp w = 53#7) : decode w = decodeOp35 w := by unfold decode; rw [h]; rfl

theorem decode_op36 (w : IWord) (h : fOp w = 54#7) : decode w = decodeOp36 w := by unfold decode; rw [h]; rfl

theorem decode_op37 (w : IWord) (h : fOp w = 55#7) : decode w = decodeOp37 w := by unfold decode; rw [h]; rfl

theorem decode_op38 (w : IWord) (h : fOp w = 56#7) : decode w = decodeOp38 w := by unfold decode; rw [h]; rfl

theorem decode_op39 (w : IWord) (h : fOp w = 57#7) : decode w = decodeOp39 w := by unfold decode; rw [h]; rfl

theorem decode_op3A (w : IWord) (h : fOp w = 58#7) : decode w = decodeOp3A w := by unfold decode; rw [h]; rfl

theorem decode_op3B (w : IWord) (h : fOp w = 59#7) : decode w = decodeOp3B w := by unfold decode; rw [h]; rfl

theorem decode_op3C (w : IWord) (h : fOp w = 60#7) : decode w = decodeOp3C w := by unfold decode; rw [h]; rfl

theorem decode_op3D (w : IWord) (h : fOp w = 61#7) : decode w = decodeOp3D w := by unfold decode; rw [h]; rfl

theorem decode_op3E (w : IWord) (h : fOp w = 62#7) : decode w = decodeOp3E w := by unfold decode; rw [h]; rfl

theorem decode_op3F (w : IWord) (h : fOp w = 63#7) : decode w = decodeOp3F w := by unfold decode; rw [h]; rfl

theorem decode_op40 (w : IWord) (h : fOp w = 64#7) : decode w = decodeOp40 w := by unfold decode; rw [h]; rfl

theorem decode_op41 (w : IWord) (h : fOp w = 65#7) : decode w = decodeOp41 w := by unfold decode; rw [h]; rfl

theorem decode_op42 (w : IWord) (h : fOp w = 66#7) : decode w = decodeOp42 w := by unfold decode; rw [h]; rfl

theorem decode_op43 (w : IWord) (h : fOp w = 67#7) : decode w = decodeOp43 w := by unfold decode; rw [h]; rfl

theorem decode_op44 (w : IWord) (h : fOp w = 68#7) : decode w = decodeOp44 w := by unfold decode; rw [h]; rfl

theorem decode_op45 (w : IWord) (h : fOp w = 69#7) : decode w = decodeOp45 w := by unfold decode; rw [h]; rfl

theorem decode_op46 (w : IWord) (h : fOp w = 70#7) : decode w = decodeOp46 w := by unfold decode; rw [h]; rfl

theorem decode_op47 (w : IWord) (h : fOp w = 71#7) : decode w = decodeOp47 w := by unfold decode; rw [h]; rfl

theorem decode_op48 (w : IWord) (h : fOp w = 72#7) : decode w = decodeOp48 w := by unfold decode; rw [h]; rfl

theorem decode_op49 (w : IWord) (h : fOp w = 73#7) : decode w = decodeOp49 w := by unfold decode; rw [h]; rfl

theorem decode_op4A (w : IWord) (h : fOp w = 74#7) : decode w = decodeOp4A w := by unfold decode; rw [h]; rfl

theorem decode_op4B (w : IWord) (h : fOp w = 75#7) : decode w = decodeOp4B w := by unfold decode; rw [h]; rfl

theorem decode_op4C (w : IWord) (h : fOp w = 76#7) : decode w = decodeOp4C w := by unfold decode; rw [h]; rfl

theorem decode_op4D (w : IWord) (h : fOp w = 77#7) : decode w = decodeOp4D w := by unfold decode; rw [h]; rfl

theorem decode_op4E (w : IWord) (h : fOp w = 78#7) : decode w = decodeOp4E w := by unfold decode; rw [h]; rfl

theorem decode_op4F (w : IWord) (h : fOp w = 79#7) : decode w = decodeOp4F w := by unfold decode; rw [h]; rfl

theorem decode_op50 (w : IWord) (h : fOp w = 80#7) : decode w = decodeOp50 w := by unfold decode; rw [h]; rfl

theorem decode_op51 (w : IWord) (h : fOp w = 81#7) : decode w = decodeOp51 w := by unfold decode; rw [h]; rfl

theorem decode_op52 (w : IWord) (h : fOp w = 82#7) : decode w = decodeOp52 w := by unfold decode; rw [h]; rfl

theorem decode_op53 (w : IWord) (h : fOp w = 83#7) : decode w = decodeOp53 w := by unfold decode; rw [h]; rfl

theorem decode_op54 (w : IWord) (h : fOp w = 84#7) : decode w = decodeOp54 w := by unfold decode; rw [h]; rfl

theorem decode_op55 (w : IWord) (h : fOp w = 85#7) : decode w = decodeOp55 w := by unfold decode; rw [h]; rfl

theorem decode_op56 (w : IWord) (h : fOp w = 86#7) : decode w = decodeOp56 w := by unfold decode; rw [h]; rfl

theorem decode_op57 (w : IWord) (h : fOp w = 87#7) : decode w = decodeOp57 w := by unfold decode; rw [h]; rfl

theorem decode_op58 (w : IWord) (h : fOp w = 88#7) : decode w = decodeOp58 w := by unfold decode; rw [h]; rfl

theorem decode_op59 (w : IWord) (h : fOp w = 89#7) : decode w = decodeOp59 w := by unfold decode; rw [h]; rfl

theorem decode_op5A (w : IWord) (h : fOp w = 90#7) : decode w = decodeOp5A w := by unfold decode; rw [h]; rfl

theorem decode_op5B (w : IWord) (h : fOp w = 91#7) : decode w = decodeOp5B w := by unfold decode; rw [h]; rfl

theorem decode_op5C (w : IWord) (h : fOp w = 92#7) : decode w = decodeOp5C w := by unfold decode; rw [h]; rfl

theorem decode_op5D (w : IWord) (h : fOp w = 93#7) : decode w = decodeOp5D w := by unfold decode; rw [h]; rfl

theorem decode_op5E (w : IWord) (h : fOp w = 94#7) : decode w = decodeOp5E w := by unfold decode; rw [h]; rfl

theorem decode_op5F (w : IWord) (h : fOp w = 95#7) : decode w = decodeOp5F w := by unfold decode; rw [h]; rfl

theorem decode_op60 (w : IWord) (h : fOp w = 96#7) : decode w = decodeOp60 w := by unfold decode; rw [h]; rfl

theorem decode_op61 (w : IWord) (h : fOp w = 97#7) : decode w = decodeOp61 w := by unfold decode; rw [h]; rfl

theorem decode_op62 (w : IWord) (h : fOp w = 98#7) : decode w = decodeOp62 w := by unfold decode; rw [h]; rfl

theorem decode_op63 (w : IWord) (h : fOp w = 99#7) : decode w = decodeOp63 w := by unfold decode; rw [h]; rfl

theorem decode_op64 (w : IWord) (h : fOp w = 100#7) : decode w = decodeOp64 w := by unfold decode; rw [h]; rfl

theorem decode_op65 (w : IWord) (h : fOp w = 101#7) : decode w = decodeOp65 w := by unfold decode; rw [h]; rfl

theorem decode_op66 (w : IWord) (h : fOp w = 102#7) : decode w = decodeOp66 w := by unfold decode; rw [h]; rfl

theorem decode_op67 (w : IWord) (h : fOp w = 103#7) : decode w = decodeOp67 w := by unfold decode; rw [h]; rfl

theorem decode_op68 (w : IWord) (h : fOp w = 104#7) : decode w = decodeOp68 w := by unfold decode; rw [h]; rfl

theorem decode_op69 (w : IWord) (h : fOp w = 105#7) : decode w = decodeOp69 w := by unfold decode; rw [h]; rfl

theorem decode_op6A (w : IWord) (h : fOp w = 106#7) : decode w = decodeOp6A w := by unfold decode; rw [h]; rfl

theorem decode_op6B (w : IWord) (h : fOp w = 107#7) : decode w = decodeOp6B w := by unfold decode; rw [h]; rfl

theorem decode_op6C (w : IWord) (h : fOp w = 108#7) : decode w = decodeOp6C w := by unfold decode; rw [h]; rfl

theorem decode_op6D (w : IWord) (h : fOp w = 109#7) : decode w = decodeOp6D w := by unfold decode; rw [h]; rfl

theorem decode_op6E (w : IWord) (h : fOp w = 110#7) : decode w = decodeOp6E w := by unfold decode; rw [h]; rfl

theorem decode_op6F (w : IWord) (h : fOp w = 111#7) : decode w = decodeOp6F w := by unfold decode; rw [h]; rfl

theorem decode_op70 (w : IWord) (h : fOp w = 112#7) : decode w = decodeOp70 w := by unfold decode; rw [h]; rfl

theorem decode_op71 (w : IWord) (h : fOp w = 113#7) : decode w = decodeOp71 w := by unfold decode; rw [h]; rfl

theorem decode_op72 (w : IWord) (h : fOp w = 114#7) : decode w = decodeOp72 w := by unfold decode; rw [h]; rfl

theorem decode_op73 (w : IWord) (h : fOp w = 115#7) : decode w = decodeOp73 w := by unfold decode; rw [h]; rfl

theorem decode_op74 (w : IWord) (h : fOp w = 116#7) : decode w = decodeOp74 w := by unfold decode; rw [h]; rfl

theorem decode_op78 (w : IWord) (h : fOp w = 120#7) : decode w = decodeOp78 w := by unfold decode; rw [h]; rfl

theorem decode_op79 (w : IWord) (h : fOp w = 121#7) : decode w = decodeOp79 w := by unfold decode; rw [h]; rfl

theorem decode_op7A (w : IWord) (h : fOp w = 122#7) : decode w = decodeOp7A w := by unfold decode; rw [h]; rfl

theorem decode_op7B (w : IWord) (h : fOp w = 123#7) : decode w = decodeOp7B w := by unfold decode; rw [h]; rfl

theorem decode_op7C (w : IWord) (h : fOp w = 124#7) : decode w = decodeOp7C w := by unfold decode; rw [h]; rfl

theorem decode_op7D (w : IWord) (h : fOp w = 125#7) : decode w = decodeOp7D w := by unfold decode; rw [h]; rfl

theorem decode_op7E (w : IWord) (h : fOp w = 126#7) : decode w = decodeOp7E w := by unfold decode; rw [h]; rfl

theorem add (pr : BitVec 2) (t1 : BitVec 9) (t0 : BitVec 9) :
    Statement (.add pr t1 t0) := by
  intro _ _
  change decode (packG 1#7 pr 0#5 t1 t0) = _
  rw [decode_op01 _ (by simp)]
  simp [decodeOp01]

theorem sub (pr : BitVec 2) (t1 : BitVec 9) (t0 : BitVec 9) :
    Statement (.sub pr t1 t0) := by
  intro _ _
  change decode (packG 1#7 pr 1#5 t1 t0) = _
  rw [decode_op01 _ (by simp)]
  simp [decodeOp01]

theorem and (pr : BitVec 2) (t1 : BitVec 9) (t0 : BitVec 9) :
    Statement (.and pr t1 t0) := by
  intro _ _
  change decode (packG 1#7 pr 2#5 t1 t0) = _
  rw [decode_op01 _ (by simp)]
  simp [decodeOp01]

theorem or (pr : BitVec 2) (t1 : BitVec 9) (t0 : BitVec 9) :
    Statement (.or pr t1 t0) := by
  intro _ _
  change decode (packG 1#7 pr 3#5 t1 t0) = _
  rw [decode_op01 _ (by simp)]
  simp [decodeOp01]

theorem xor (pr : BitVec 2) (t1 : BitVec 9) (t0 : BitVec 9) :
    Statement (.xor pr t1 t0) := by
  intro _ _
  change decode (packG 1#7 pr 4#5 t1 t0) = _
  rw [decode_op01 _ (by simp)]
  simp [decodeOp01]

theorem andn (pr : BitVec 2) (t1 : BitVec 9) (t0 : BitVec 9) :
    Statement (.andn pr t1 t0) := by
  intro _ _
  change decode (packG 1#7 pr 5#5 t1 t0) = _
  rw [decode_op01 _ (by simp)]
  simp [decodeOp01]

theorem orn (pr : BitVec 2) (t1 : BitVec 9) (t0 : BitVec 9) :
    Statement (.orn pr t1 t0) := by
  intro _ _
  change decode (packG 1#7 pr 6#5 t1 t0) = _
  rw [decode_op01 _ (by simp)]
  simp [decodeOp01]

theorem xnor (pr : BitVec 2) (t1 : BitVec 9) (t0 : BitVec 9) :
    Statement (.xnor pr t1 t0) := by
  intro _ _
  change decode (packG 1#7 pr 7#5 t1 t0) = _
  rw [decode_op01 _ (by simp)]
  simp [decodeOp01]

theorem shl (pr : BitVec 2) (t1 : BitVec 9) (t0 : BitVec 9) :
    Statement (.shl pr t1 t0) := by
  intro _ _
  change decode (packG 1#7 pr 8#5 t1 t0) = _
  rw [decode_op01 _ (by simp)]
  simp [decodeOp01]

theorem shr (pr : BitVec 2) (t1 : BitVec 9) (t0 : BitVec 9) :
    Statement (.shr pr t1 t0) := by
  intro _ _
  change decode (packG 1#7 pr 9#5 t1 t0) = _
  rw [decode_op01 _ (by simp)]
  simp [decodeOp01]

theorem sar (pr : BitVec 2) (t1 : BitVec 9) (t0 : BitVec 9) :
    Statement (.sar pr t1 t0) := by
  intro _ _
  change decode (packG 1#7 pr 10#5 t1 t0) = _
  rw [decode_op01 _ (by simp)]
  simp [decodeOp01]

theorem rol (pr : BitVec 2) (t1 : BitVec 9) (t0 : BitVec 9) :
    Statement (.rol pr t1 t0) := by
  intro _ _
  change decode (packG 1#7 pr 11#5 t1 t0) = _
  rw [decode_op01 _ (by simp)]
  simp [decodeOp01]

theorem ror (pr : BitVec 2) (t1 : BitVec 9) (t0 : BitVec 9) :
    Statement (.ror pr t1 t0) := by
  intro _ _
  change decode (packG 1#7 pr 12#5 t1 t0) = _
  rw [decode_op01 _ (by simp)]
  simp [decodeOp01]

theorem min (pr : BitVec 2) (t1 : BitVec 9) (t0 : BitVec 9) :
    Statement (.min pr t1 t0) := by
  intro _ _
  change decode (packG 1#7 pr 13#5 t1 t0) = _
  rw [decode_op01 _ (by simp)]
  simp [decodeOp01]

theorem max (pr : BitVec 2) (t1 : BitVec 9) (t0 : BitVec 9) :
    Statement (.max pr t1 t0) := by
  intro _ _
  change decode (packG 1#7 pr 14#5 t1 t0) = _
  rw [decode_op01 _ (by simp)]
  simp [decodeOp01]

theorem minu (pr : BitVec 2) (t1 : BitVec 9) (t0 : BitVec 9) :
    Statement (.minu pr t1 t0) := by
  intro _ _
  change decode (packG 1#7 pr 15#5 t1 t0) = _
  rw [decode_op01 _ (by simp)]
  simp [decodeOp01]

theorem maxu (pr : BitVec 2) (t1 : BitVec 9) (t0 : BitVec 9) :
    Statement (.maxu pr t1 t0) := by
  intro _ _
  change decode (packG 1#7 pr 16#5 t1 t0) = _
  rw [decode_op01 _ (by simp)]
  simp [decodeOp01]

theorem addw (pr : BitVec 2) (t1 : BitVec 9) (t0 : BitVec 9) :
    Statement (.addw pr t1 t0) := by
  intro _ _
  change decode (packG 1#7 pr 17#5 t1 t0) = _
  rw [decode_op01 _ (by simp)]
  simp [decodeOp01]

theorem subw (pr : BitVec 2) (t1 : BitVec 9) (t0 : BitVec 9) :
    Statement (.subw pr t1 t0) := by
  intro _ _
  change decode (packG 1#7 pr 18#5 t1 t0) = _
  rw [decode_op01 _ (by simp)]
  simp [decodeOp01]

theorem mul (pr : BitVec 2) (t1 : BitVec 9) (t0 : BitVec 9) :
    Statement (.mul pr t1 t0) := by
  intro _ _
  change decode (packG 2#7 pr 0#5 t1 t0) = _
  rw [decode_op02 _ (by simp)]
  simp [decodeOp02]

theorem mulh (pr : BitVec 2) (t1 : BitVec 9) (t0 : BitVec 9) :
    Statement (.mulh pr t1 t0) := by
  intro _ _
  change decode (packG 2#7 pr 1#5 t1 t0) = _
  rw [decode_op02 _ (by simp)]
  simp [decodeOp02]

theorem mulhu (pr : BitVec 2) (t1 : BitVec 9) (t0 : BitVec 9) :
    Statement (.mulhu pr t1 t0) := by
  intro _ _
  change decode (packG 2#7 pr 2#5 t1 t0) = _
  rw [decode_op02 _ (by simp)]
  simp [decodeOp02]

theorem mulhsu (pr : BitVec 2) (t1 : BitVec 9) (t0 : BitVec 9) :
    Statement (.mulhsu pr t1 t0) := by
  intro _ _
  change decode (packG 2#7 pr 3#5 t1 t0) = _
  rw [decode_op02 _ (by simp)]
  simp [decodeOp02]

theorem div (pr : BitVec 2) (t1 : BitVec 9) (t0 : BitVec 9) :
    Statement (.div pr t1 t0) := by
  intro _ _
  change decode (packG 2#7 pr 4#5 t1 t0) = _
  rw [decode_op02 _ (by simp)]
  simp [decodeOp02]

theorem divu (pr : BitVec 2) (t1 : BitVec 9) (t0 : BitVec 9) :
    Statement (.divu pr t1 t0) := by
  intro _ _
  change decode (packG 2#7 pr 5#5 t1 t0) = _
  rw [decode_op02 _ (by simp)]
  simp [decodeOp02]

theorem rem (pr : BitVec 2) (t1 : BitVec 9) (t0 : BitVec 9) :
    Statement (.rem pr t1 t0) := by
  intro _ _
  change decode (packG 2#7 pr 6#5 t1 t0) = _
  rw [decode_op02 _ (by simp)]
  simp [decodeOp02]

theorem remu (pr : BitVec 2) (t1 : BitVec 9) (t0 : BitVec 9) :
    Statement (.remu pr t1 t0) := by
  intro _ _
  change decode (packG 2#7 pr 7#5 t1 t0) = _
  rw [decode_op02 _ (by simp)]
  simp [decodeOp02]

theorem mulw (pr : BitVec 2) (t1 : BitVec 9) (t0 : BitVec 9) :
    Statement (.mulw pr t1 t0) := by
  intro _ _
  change decode (packG 2#7 pr 8#5 t1 t0) = _
  rw [decode_op02 _ (by simp)]
  simp [decodeOp02]

theorem divw (pr : BitVec 2) (t1 : BitVec 9) (t0 : BitVec 9) :
    Statement (.divw pr t1 t0) := by
  intro _ _
  change decode (packG 2#7 pr 9#5 t1 t0) = _
  rw [decode_op02 _ (by simp)]
  simp [decodeOp02]

theorem divuw (pr : BitVec 2) (t1 : BitVec 9) (t0 : BitVec 9) :
    Statement (.divuw pr t1 t0) := by
  intro _ _
  change decode (packG 2#7 pr 10#5 t1 t0) = _
  rw [decode_op02 _ (by simp)]
  simp [decodeOp02]

theorem remw (pr : BitVec 2) (t1 : BitVec 9) (t0 : BitVec 9) :
    Statement (.remw pr t1 t0) := by
  intro _ _
  change decode (packG 2#7 pr 11#5 t1 t0) = _
  rw [decode_op02 _ (by simp)]
  simp [decodeOp02]

theorem remuw (pr : BitVec 2) (t1 : BitVec 9) (t0 : BitVec 9) :
    Statement (.remuw pr t1 t0) := by
  intro _ _
  change decode (packG 2#7 pr 12#5 t1 t0) = _
  rw [decode_op02 _ (by simp)]
  simp [decodeOp02]

theorem clz (pr : BitVec 2) (t1 : BitVec 9) (t0 : BitVec 9) :
    Statement (.clz pr t1 t0) := by
  intro _ _
  change decode (packG 3#7 pr 0#5 t1 t0) = _
  rw [decode_op03 _ (by simp)]
  simp [decodeOp03]

theorem ctz (pr : BitVec 2) (t1 : BitVec 9) (t0 : BitVec 9) :
    Statement (.ctz pr t1 t0) := by
  intro _ _
  change decode (packG 3#7 pr 1#5 t1 t0) = _
  rw [decode_op03 _ (by simp)]
  simp [decodeOp03]

theorem popc (pr : BitVec 2) (t1 : BitVec 9) (t0 : BitVec 9) :
    Statement (.popc pr t1 t0) := by
  intro _ _
  change decode (packG 3#7 pr 2#5 t1 t0) = _
  rw [decode_op03 _ (by simp)]
  simp [decodeOp03]

theorem brev (pr : BitVec 2) (t1 : BitVec 9) (t0 : BitVec 9) :
    Statement (.brev pr t1 t0) := by
  intro _ _
  change decode (packG 3#7 pr 3#5 t1 t0) = _
  rw [decode_op03 _ (by simp)]
  simp [decodeOp03]

theorem bswap (pr : BitVec 2) (t1 : BitVec 9) (t0 : BitVec 9) :
    Statement (.bswap pr t1 t0) := by
  intro _ _
  change decode (packG 3#7 pr 4#5 t1 t0) = _
  rw [decode_op03 _ (by simp)]
  simp [decodeOp03]

theorem sextb (pr : BitVec 2) (t1 : BitVec 9) (t0 : BitVec 9) :
    Statement (.sextb pr t1 t0) := by
  intro _ _
  change decode (packG 3#7 pr 5#5 t1 t0) = _
  rw [decode_op03 _ (by simp)]
  simp [decodeOp03]

theorem sexth (pr : BitVec 2) (t1 : BitVec 9) (t0 : BitVec 9) :
    Statement (.sexth pr t1 t0) := by
  intro _ _
  change decode (packG 3#7 pr 6#5 t1 t0) = _
  rw [decode_op03 _ (by simp)]
  simp [decodeOp03]

theorem sextw (pr : BitVec 2) (t1 : BitVec 9) (t0 : BitVec 9) :
    Statement (.sextw pr t1 t0) := by
  intro _ _
  change decode (packG 3#7 pr 7#5 t1 t0) = _
  rw [decode_op03 _ (by simp)]
  simp [decodeOp03]

theorem zextb (pr : BitVec 2) (t1 : BitVec 9) (t0 : BitVec 9) :
    Statement (.zextb pr t1 t0) := by
  intro _ _
  change decode (packG 3#7 pr 8#5 t1 t0) = _
  rw [decode_op03 _ (by simp)]
  simp [decodeOp03]

theorem zexth (pr : BitVec 2) (t1 : BitVec 9) (t0 : BitVec 9) :
    Statement (.zexth pr t1 t0) := by
  intro _ _
  change decode (packG 3#7 pr 9#5 t1 t0) = _
  rw [decode_op03 _ (by simp)]
  simp [decodeOp03]

theorem zextw (pr : BitVec 2) (t1 : BitVec 9) (t0 : BitVec 9) :
    Statement (.zextw pr t1 t0) := by
  intro _ _
  change decode (packG 3#7 pr 10#5 t1 t0) = _
  rw [decode_op03 _ (by simp)]
  simp [decodeOp03]

theorem addi (pr : BitVec 2) (imm : BitVec 14) (t0 : BitVec 9) :
    Statement (.addi pr imm t0) := by
  intro _ _
  change decode (packI 4#7 pr imm t0) = _
  rw [decode_op04 _ (by simp)]
  simp [decodeOp04]

theorem andi (pr : BitVec 2) (imm : BitVec 14) (t0 : BitVec 9) :
    Statement (.andi pr imm t0) := by
  intro _ _
  change decode (packI 5#7 pr imm t0) = _
  rw [decode_op05 _ (by simp)]
  simp [decodeOp05]

theorem ori (pr : BitVec 2) (imm : BitVec 14) (t0 : BitVec 9) :
    Statement (.ori pr imm t0) := by
  intro _ _
  change decode (packI 6#7 pr imm t0) = _
  rw [decode_op06 _ (by simp)]
  simp [decodeOp06]

theorem xori (pr : BitVec 2) (imm : BitVec 14) (t0 : BitVec 9) :
    Statement (.xori pr imm t0) := by
  intro _ _
  change decode (packI 7#7 pr imm t0) = _
  rw [decode_op07 _ (by simp)]
  simp [decodeOp07]

theorem shli (pr : BitVec 2) (cnt : BitVec 6) (t0 : BitVec 9) :
    Statement (.shli pr cnt t0) := by
  intro _ _
  change decode (packI 8#7 pr (BitVec.ofNat 14 (cnt.toNat)) t0) = _
  have h0 := pr.isLt; have h1 := cnt.isLt; have h2 := t0.isLt
  have e0 : fOp (packI 8#7 pr (BitVec.ofNat 14 (cnt.toNat)) t0) = 8#7 := by
    apply BitVec.eq_of_toNat_eq; simp only [fOp, packI, BitVec.toNat_ofNat]; omega
  have e1 : fCntHi (packI 8#7 pr (BitVec.ofNat 14 (cnt.toNat)) t0) = 0#8 := by
    apply BitVec.eq_of_toNat_eq; simp only [fCntHi, packI, BitVec.toNat_ofNat]; omega
  have e2 : fPr (packI 8#7 pr (BitVec.ofNat 14 (cnt.toNat)) t0) = pr := by
    apply BitVec.eq_of_toNat_eq; simp only [fPr, packI, BitVec.toNat_ofNat]; omega
  have e3 : fCnt (packI 8#7 pr (BitVec.ofNat 14 (cnt.toNat)) t0) = cnt := by
    apply BitVec.eq_of_toNat_eq; simp only [fCnt, packI, BitVec.toNat_ofNat]; omega
  have e4 : fT0 (packI 8#7 pr (BitVec.ofNat 14 (cnt.toNat)) t0) = t0 := by
    apply BitVec.eq_of_toNat_eq; simp only [fT0, packI, BitVec.toNat_ofNat]; omega
  generalize packI 8#7 pr (BitVec.ofNat 14 (cnt.toNat)) t0 = w at *
  rw [decode_op08 w e0]
  simp [decodeOp08, e1, e2, e3, e4]

theorem shri (pr : BitVec 2) (cnt : BitVec 6) (t0 : BitVec 9) :
    Statement (.shri pr cnt t0) := by
  intro _ _
  change decode (packI 9#7 pr (BitVec.ofNat 14 (cnt.toNat)) t0) = _
  have h0 := pr.isLt; have h1 := cnt.isLt; have h2 := t0.isLt
  have e0 : fOp (packI 9#7 pr (BitVec.ofNat 14 (cnt.toNat)) t0) = 9#7 := by
    apply BitVec.eq_of_toNat_eq; simp only [fOp, packI, BitVec.toNat_ofNat]; omega
  have e1 : fCntHi (packI 9#7 pr (BitVec.ofNat 14 (cnt.toNat)) t0) = 0#8 := by
    apply BitVec.eq_of_toNat_eq; simp only [fCntHi, packI, BitVec.toNat_ofNat]; omega
  have e2 : fPr (packI 9#7 pr (BitVec.ofNat 14 (cnt.toNat)) t0) = pr := by
    apply BitVec.eq_of_toNat_eq; simp only [fPr, packI, BitVec.toNat_ofNat]; omega
  have e3 : fCnt (packI 9#7 pr (BitVec.ofNat 14 (cnt.toNat)) t0) = cnt := by
    apply BitVec.eq_of_toNat_eq; simp only [fCnt, packI, BitVec.toNat_ofNat]; omega
  have e4 : fT0 (packI 9#7 pr (BitVec.ofNat 14 (cnt.toNat)) t0) = t0 := by
    apply BitVec.eq_of_toNat_eq; simp only [fT0, packI, BitVec.toNat_ofNat]; omega
  generalize packI 9#7 pr (BitVec.ofNat 14 (cnt.toNat)) t0 = w at *
  rw [decode_op09 w e0]
  simp [decodeOp09, e1, e2, e3, e4]

theorem sari (pr : BitVec 2) (cnt : BitVec 6) (t0 : BitVec 9) :
    Statement (.sari pr cnt t0) := by
  intro _ _
  change decode (packI 10#7 pr (BitVec.ofNat 14 (cnt.toNat)) t0) = _
  have h0 := pr.isLt; have h1 := cnt.isLt; have h2 := t0.isLt
  have e0 : fOp (packI 10#7 pr (BitVec.ofNat 14 (cnt.toNat)) t0) = 10#7 := by
    apply BitVec.eq_of_toNat_eq; simp only [fOp, packI, BitVec.toNat_ofNat]; omega
  have e1 : fCntHi (packI 10#7 pr (BitVec.ofNat 14 (cnt.toNat)) t0) = 0#8 := by
    apply BitVec.eq_of_toNat_eq; simp only [fCntHi, packI, BitVec.toNat_ofNat]; omega
  have e2 : fPr (packI 10#7 pr (BitVec.ofNat 14 (cnt.toNat)) t0) = pr := by
    apply BitVec.eq_of_toNat_eq; simp only [fPr, packI, BitVec.toNat_ofNat]; omega
  have e3 : fCnt (packI 10#7 pr (BitVec.ofNat 14 (cnt.toNat)) t0) = cnt := by
    apply BitVec.eq_of_toNat_eq; simp only [fCnt, packI, BitVec.toNat_ofNat]; omega
  have e4 : fT0 (packI 10#7 pr (BitVec.ofNat 14 (cnt.toNat)) t0) = t0 := by
    apply BitVec.eq_of_toNat_eq; simp only [fT0, packI, BitVec.toNat_ofNat]; omega
  generalize packI 10#7 pr (BitVec.ofNat 14 (cnt.toNat)) t0 = w at *
  rw [decode_op0A w e0]
  simp [decodeOp0A, e1, e2, e3, e4]

theorem muli (pr : BitVec 2) (imm : BitVec 14) (t0 : BitVec 9) :
    Statement (.muli pr imm t0) := by
  intro _ _
  change decode (packI 11#7 pr imm t0) = _
  rw [decode_op0B _ (by simp)]
  simp [decodeOp0B]

theorem ext (pr : BitVec 2) (len : BitVec 6) (pos : BitVec 6) (t0 : BitVec 9) :
    Statement (.ext pr len pos t0) := by
  intro _ _
  change decode (packI 12#7 pr (BitVec.ofNat 14 (len.toNat * 2 ^ 6 + pos.toNat)) t0) = _
  have h0 := pr.isLt; have h1 := len.isLt; have h2 := pos.isLt; have h3 := t0.isLt
  have e0 : fOp (packI 12#7 pr (BitVec.ofNat 14 (len.toNat * 2 ^ 6 + pos.toNat)) t0) = 12#7 := by
    apply BitVec.eq_of_toNat_eq; simp only [fOp, packI, BitVec.toNat_ofNat]; omega
  have e1 : fHi2 (packI 12#7 pr (BitVec.ofNat 14 (len.toNat * 2 ^ 6 + pos.toNat)) t0) = 0#2 := by
    apply BitVec.eq_of_toNat_eq; simp only [fHi2, packI, BitVec.toNat_ofNat]; omega
  have e2 : fPr (packI 12#7 pr (BitVec.ofNat 14 (len.toNat * 2 ^ 6 + pos.toNat)) t0) = pr := by
    apply BitVec.eq_of_toNat_eq; simp only [fPr, packI, BitVec.toNat_ofNat]; omega
  have e3 : fLen (packI 12#7 pr (BitVec.ofNat 14 (len.toNat * 2 ^ 6 + pos.toNat)) t0) = len := by
    apply BitVec.eq_of_toNat_eq; simp only [fLen, packI, BitVec.toNat_ofNat]; omega
  have e4 : fCnt (packI 12#7 pr (BitVec.ofNat 14 (len.toNat * 2 ^ 6 + pos.toNat)) t0) = pos := by
    apply BitVec.eq_of_toNat_eq; simp only [fCnt, packI, BitVec.toNat_ofNat]; omega
  have e5 : fT0 (packI 12#7 pr (BitVec.ofNat 14 (len.toNat * 2 ^ 6 + pos.toNat)) t0) = t0 := by
    apply BitVec.eq_of_toNat_eq; simp only [fT0, packI, BitVec.toNat_ofNat]; omega
  generalize packI 12#7 pr (BitVec.ofNat 14 (len.toNat * 2 ^ 6 + pos.toNat)) t0 = w at *
  rw [decode_op0C w e0]
  simp [decodeOp0C, e1, e2, e3, e4, e5]

theorem exts (pr : BitVec 2) (len : BitVec 6) (pos : BitVec 6) (t0 : BitVec 9) :
    Statement (.exts pr len pos t0) := by
  intro _ _
  change decode (packI 13#7 pr (BitVec.ofNat 14 (len.toNat * 2 ^ 6 + pos.toNat)) t0) = _
  have h0 := pr.isLt; have h1 := len.isLt; have h2 := pos.isLt; have h3 := t0.isLt
  have e0 : fOp (packI 13#7 pr (BitVec.ofNat 14 (len.toNat * 2 ^ 6 + pos.toNat)) t0) = 13#7 := by
    apply BitVec.eq_of_toNat_eq; simp only [fOp, packI, BitVec.toNat_ofNat]; omega
  have e1 : fHi2 (packI 13#7 pr (BitVec.ofNat 14 (len.toNat * 2 ^ 6 + pos.toNat)) t0) = 0#2 := by
    apply BitVec.eq_of_toNat_eq; simp only [fHi2, packI, BitVec.toNat_ofNat]; omega
  have e2 : fPr (packI 13#7 pr (BitVec.ofNat 14 (len.toNat * 2 ^ 6 + pos.toNat)) t0) = pr := by
    apply BitVec.eq_of_toNat_eq; simp only [fPr, packI, BitVec.toNat_ofNat]; omega
  have e3 : fLen (packI 13#7 pr (BitVec.ofNat 14 (len.toNat * 2 ^ 6 + pos.toNat)) t0) = len := by
    apply BitVec.eq_of_toNat_eq; simp only [fLen, packI, BitVec.toNat_ofNat]; omega
  have e4 : fCnt (packI 13#7 pr (BitVec.ofNat 14 (len.toNat * 2 ^ 6 + pos.toNat)) t0) = pos := by
    apply BitVec.eq_of_toNat_eq; simp only [fCnt, packI, BitVec.toNat_ofNat]; omega
  have e5 : fT0 (packI 13#7 pr (BitVec.ofNat 14 (len.toNat * 2 ^ 6 + pos.toNat)) t0) = t0 := by
    apply BitVec.eq_of_toNat_eq; simp only [fT0, packI, BitVec.toNat_ofNat]; omega
  generalize packI 13#7 pr (BitVec.ofNat 14 (len.toNat * 2 ^ 6 + pos.toNat)) t0 = w at *
  rw [decode_op0D w e0]
  simp [decodeOp0D, e1, e2, e3, e4, e5]

theorem ins (pr : BitVec 2) (len : BitVec 6) (pos : BitVec 6) (t0 : BitVec 9) :
    Statement (.ins pr len pos t0) := by
  intro _ _
  change decode (packI 14#7 pr (BitVec.ofNat 14 (len.toNat * 2 ^ 6 + pos.toNat)) t0) = _
  have h0 := pr.isLt; have h1 := len.isLt; have h2 := pos.isLt; have h3 := t0.isLt
  have e0 : fOp (packI 14#7 pr (BitVec.ofNat 14 (len.toNat * 2 ^ 6 + pos.toNat)) t0) = 14#7 := by
    apply BitVec.eq_of_toNat_eq; simp only [fOp, packI, BitVec.toNat_ofNat]; omega
  have e1 : fHi2 (packI 14#7 pr (BitVec.ofNat 14 (len.toNat * 2 ^ 6 + pos.toNat)) t0) = 0#2 := by
    apply BitVec.eq_of_toNat_eq; simp only [fHi2, packI, BitVec.toNat_ofNat]; omega
  have e2 : fPr (packI 14#7 pr (BitVec.ofNat 14 (len.toNat * 2 ^ 6 + pos.toNat)) t0) = pr := by
    apply BitVec.eq_of_toNat_eq; simp only [fPr, packI, BitVec.toNat_ofNat]; omega
  have e3 : fLen (packI 14#7 pr (BitVec.ofNat 14 (len.toNat * 2 ^ 6 + pos.toNat)) t0) = len := by
    apply BitVec.eq_of_toNat_eq; simp only [fLen, packI, BitVec.toNat_ofNat]; omega
  have e4 : fCnt (packI 14#7 pr (BitVec.ofNat 14 (len.toNat * 2 ^ 6 + pos.toNat)) t0) = pos := by
    apply BitVec.eq_of_toNat_eq; simp only [fCnt, packI, BitVec.toNat_ofNat]; omega
  have e5 : fT0 (packI 14#7 pr (BitVec.ofNat 14 (len.toNat * 2 ^ 6 + pos.toNat)) t0) = t0 := by
    apply BitVec.eq_of_toNat_eq; simp only [fT0, packI, BitVec.toNat_ofNat]; omega
  generalize packI 14#7 pr (BitVec.ofNat 14 (len.toNat * 2 ^ 6 + pos.toNat)) t0 = w at *
  rw [decode_op0E w e0]
  simp [decodeOp0E, e1, e2, e3, e4, e5]

theorem lea1 (pr : BitVec 2) (t1 : BitVec 9) (t0 : BitVec 9) :
    Statement (.lea1 pr t1 t0) := by
  intro _ _
  change decode (packG 15#7 pr 0#5 t1 t0) = _
  rw [decode_op0F _ (by simp)]
  simp [decodeOp0F]

theorem lea2 (pr : BitVec 2) (t1 : BitVec 9) (t0 : BitVec 9) :
    Statement (.lea2 pr t1 t0) := by
  intro _ _
  change decode (packG 15#7 pr 1#5 t1 t0) = _
  rw [decode_op0F _ (by simp)]
  simp [decodeOp0F]

theorem lea4 (pr : BitVec 2) (t1 : BitVec 9) (t0 : BitVec 9) :
    Statement (.lea4 pr t1 t0) := by
  intro _ _
  change decode (packG 15#7 pr 2#5 t1 t0) = _
  rw [decode_op0F _ (by simp)]
  simp [decodeOp0F]

theorem lea8 (pr : BitVec 2) (t1 : BitVec 9) (t0 : BitVec 9) :
    Statement (.lea8 pr t1 t0) := by
  intro _ _
  change decode (packG 15#7 pr 3#5 t1 t0) = _
  rw [decode_op0F _ (by simp)]
  simp [decodeOp0F]

theorem lea16 (pr : BitVec 2) (t1 : BitVec 9) (t0 : BitVec 9) :
    Statement (.lea16 pr t1 t0) := by
  intro _ _
  change decode (packG 15#7 pr 4#5 t1 t0) = _
  rw [decode_op0F _ (by simp)]
  simp [decodeOp0F]

theorem teq (pr : BitVec 2) (t1 : BitVec 9) (t0 : BitVec 9) :
    Statement (.teq pr t1 t0) := by
  intro _ _
  change decode (packG 16#7 pr 0#5 t1 t0) = _
  rw [decode_op10 _ (by simp)]
  simp [decodeOp10]

theorem tne (pr : BitVec 2) (t1 : BitVec 9) (t0 : BitVec 9) :
    Statement (.tne pr t1 t0) := by
  intro _ _
  change decode (packG 16#7 pr 1#5 t1 t0) = _
  rw [decode_op10 _ (by simp)]
  simp [decodeOp10]

theorem tlt (pr : BitVec 2) (t1 : BitVec 9) (t0 : BitVec 9) :
    Statement (.tlt pr t1 t0) := by
  intro _ _
  change decode (packG 16#7 pr 2#5 t1 t0) = _
  rw [decode_op10 _ (by simp)]
  simp [decodeOp10]

theorem tle (pr : BitVec 2) (t1 : BitVec 9) (t0 : BitVec 9) :
    Statement (.tle pr t1 t0) := by
  intro _ _
  change decode (packG 16#7 pr 3#5 t1 t0) = _
  rw [decode_op10 _ (by simp)]
  simp [decodeOp10]

theorem tgt (pr : BitVec 2) (t1 : BitVec 9) (t0 : BitVec 9) :
    Statement (.tgt pr t1 t0) := by
  intro _ _
  change decode (packG 16#7 pr 4#5 t1 t0) = _
  rw [decode_op10 _ (by simp)]
  simp [decodeOp10]

theorem tge (pr : BitVec 2) (t1 : BitVec 9) (t0 : BitVec 9) :
    Statement (.tge pr t1 t0) := by
  intro _ _
  change decode (packG 16#7 pr 5#5 t1 t0) = _
  rw [decode_op10 _ (by simp)]
  simp [decodeOp10]

theorem tltu (pr : BitVec 2) (t1 : BitVec 9) (t0 : BitVec 9) :
    Statement (.tltu pr t1 t0) := by
  intro _ _
  change decode (packG 16#7 pr 6#5 t1 t0) = _
  rw [decode_op10 _ (by simp)]
  simp [decodeOp10]

theorem tleu (pr : BitVec 2) (t1 : BitVec 9) (t0 : BitVec 9) :
    Statement (.tleu pr t1 t0) := by
  intro _ _
  change decode (packG 16#7 pr 7#5 t1 t0) = _
  rw [decode_op10 _ (by simp)]
  simp [decodeOp10]

theorem tgtu (pr : BitVec 2) (t1 : BitVec 9) (t0 : BitVec 9) :
    Statement (.tgtu pr t1 t0) := by
  intro _ _
  change decode (packG 16#7 pr 8#5 t1 t0) = _
  rw [decode_op10 _ (by simp)]
  simp [decodeOp10]

theorem tgeu (pr : BitVec 2) (t1 : BitVec 9) (t0 : BitVec 9) :
    Statement (.tgeu pr t1 t0) := by
  intro _ _
  change decode (packG 16#7 pr 9#5 t1 t0) = _
  rw [decode_op10 _ (by simp)]
  simp [decodeOp10]

theorem tbs (pr : BitVec 2) (t1 : BitVec 9) (t0 : BitVec 9) :
    Statement (.tbs pr t1 t0) := by
  intro _ _
  change decode (packG 16#7 pr 10#5 t1 t0) = _
  rw [decode_op10 _ (by simp)]
  simp [decodeOp10]

theorem tbc (pr : BitVec 2) (t1 : BitVec 9) (t0 : BitVec 9) :
    Statement (.tbc pr t1 t0) := by
  intro _ _
  change decode (packG 16#7 pr 11#5 t1 t0) = _
  rw [decode_op10 _ (by simp)]
  simp [decodeOp10]

theorem teqi (pr : BitVec 2) (imm : BitVec 14) (t0 : BitVec 9) :
    Statement (.teqi pr imm t0) := by
  intro _ _
  change decode (packI 17#7 pr imm t0) = _
  rw [decode_op11 _ (by simp)]
  simp [decodeOp11]

theorem tnei (pr : BitVec 2) (imm : BitVec 14) (t0 : BitVec 9) :
    Statement (.tnei pr imm t0) := by
  intro _ _
  change decode (packI 18#7 pr imm t0) = _
  rw [decode_op12 _ (by simp)]
  simp [decodeOp12]

theorem tlti (pr : BitVec 2) (imm : BitVec 14) (t0 : BitVec 9) :
    Statement (.tlti pr imm t0) := by
  intro _ _
  change decode (packI 19#7 pr imm t0) = _
  rw [decode_op13 _ (by simp)]
  simp [decodeOp13]

theorem tlei (pr : BitVec 2) (imm : BitVec 14) (t0 : BitVec 9) :
    Statement (.tlei pr imm t0) := by
  intro _ _
  change decode (packI 20#7 pr imm t0) = _
  rw [decode_op14 _ (by simp)]
  simp [decodeOp14]

theorem tgti (pr : BitVec 2) (imm : BitVec 14) (t0 : BitVec 9) :
    Statement (.tgti pr imm t0) := by
  intro _ _
  change decode (packI 21#7 pr imm t0) = _
  rw [decode_op15 _ (by simp)]
  simp [decodeOp15]

theorem tgei (pr : BitVec 2) (imm : BitVec 14) (t0 : BitVec 9) :
    Statement (.tgei pr imm t0) := by
  intro _ _
  change decode (packI 22#7 pr imm t0) = _
  rw [decode_op16 _ (by simp)]
  simp [decodeOp16]

theorem tltui (pr : BitVec 2) (imm : BitVec 14) (t0 : BitVec 9) :
    Statement (.tltui pr imm t0) := by
  intro _ _
  change decode (packI 23#7 pr imm t0) = _
  rw [decode_op17 _ (by simp)]
  simp [decodeOp17]

theorem tgeui (pr : BitVec 2) (imm : BitVec 14) (t0 : BitVec 9) :
    Statement (.tgeui pr imm t0) := by
  intro _ _
  change decode (packI 24#7 pr imm t0) = _
  rw [decode_op18 _ (by simp)]
  simp [decodeOp18]

theorem genc (imm : BitVec 16) (t0 : BitVec 9) :
    Statement (.genc imm t0) := by
  intro _ _
  change decode (packC 25#7 imm t0) = _
  rw [decode_op19 _ (by simp)]
  simp [decodeOp19]

theorem appc (imm : BitVec 16) (t0 : BitVec 9) :
    Statement (.appc imm t0) := by
  intro _ _
  change decode (packC 26#7 imm t0) = _
  rw [decode_op1A _ (by simp)]
  simp [decodeOp1A]

theorem mov (pr : BitVec 2) (t1 : BitVec 9) (t0 : BitVec 9) :
    Statement (.mov pr t1 t0) := by
  intro _ _
  change decode (packG 27#7 pr 0#5 t1 t0) = _
  rw [decode_op1B _ (by simp)]
  simp [decodeOp1B]

theorem movi (pr : BitVec 2) (imm : BitVec 14) (t0 : BitVec 9) :
    Statement (.movi pr imm t0) := by
  intro _ _
  change decode (packI 28#7 pr imm t0) = _
  rw [decode_op1C _ (by simp)]
  simp [decodeOp1C]

theorem null (pr : BitVec 2) (t1 : BitVec 9) (t0 : BitVec 9) :
    Statement (.null pr t1 t0) := by
  intro _ _
  change decode (packG 29#7 pr 0#5 t1 t0) = _
  rw [decode_op1D _ (by simp)]
  simp [decodeOp1D]

theorem br (pr : BitVec 2) (exit : BitVec 3) (off : BitVec 20) :
    Statement (.br pr exit off) := by
  intro _ _
  change decode (packB 32#7 pr exit off) = _
  have h0 := pr.isLt; have h1 := exit.isLt; have h2 := off.isLt
  have e0 : fOp (packB 32#7 pr exit off) = 32#7 := by
    apply BitVec.eq_of_toNat_eq; simp only [fOp, packB, BitVec.toNat_ofNat]; omega
  have e1 : fPr (packB 32#7 pr exit off) = pr := by
    apply BitVec.eq_of_toNat_eq; simp only [fPr, packB, BitVec.toNat_ofNat]; omega
  have e2 : fXHigh3 (packB 32#7 pr exit off) = exit := by
    apply BitVec.eq_of_toNat_eq; simp only [fXHigh3, packB, BitVec.toNat_ofNat]; omega
  have e3 : fOff (packB 32#7 pr exit off) = off := by
    apply BitVec.eq_of_toNat_eq; simp only [fOff, packB, BitVec.toNat_ofNat]; omega
  generalize packB 32#7 pr exit off = w at *
  rw [decode_op20 w e0]
  simp [decodeOp20, e1, e2, e3]

theorem call (pr : BitVec 2) (exit : BitVec 3) (off : BitVec 20) :
    Statement (.call pr exit off) := by
  intro _ _
  change decode (packB 33#7 pr exit off) = _
  have h0 := pr.isLt; have h1 := exit.isLt; have h2 := off.isLt
  have e0 : fOp (packB 33#7 pr exit off) = 33#7 := by
    apply BitVec.eq_of_toNat_eq; simp only [fOp, packB, BitVec.toNat_ofNat]; omega
  have e1 : fPr (packB 33#7 pr exit off) = pr := by
    apply BitVec.eq_of_toNat_eq; simp only [fPr, packB, BitVec.toNat_ofNat]; omega
  have e2 : fXHigh3 (packB 33#7 pr exit off) = exit := by
    apply BitVec.eq_of_toNat_eq; simp only [fXHigh3, packB, BitVec.toNat_ofNat]; omega
  have e3 : fOff (packB 33#7 pr exit off) = off := by
    apply BitVec.eq_of_toNat_eq; simp only [fOff, packB, BitVec.toNat_ofNat]; omega
  generalize packB 33#7 pr exit off = w at *
  rw [decode_op21 w e0]
  simp [decodeOp21, e1, e2, e3]

theorem badr (pr : BitVec 2) (imm : BitVec 14) (t0 : BitVec 9) :
    Statement (.badr pr imm t0) := by
  intro _ _
  change decode (packI 34#7 pr imm t0) = _
  rw [decode_op22 _ (by simp)]
  simp [decodeOp22]

theorem bri (pr : BitVec 2) (exit : BitVec 3) :
    Statement (.bri pr exit) := by
  intro _ _
  change decode (packG 35#7 pr (BitVec.ofNat 5 (exit.toNat)) 511#9 511#9) = _
  have h0 := pr.isLt; have h1 := exit.isLt
  have e0 : fOp (packG 35#7 pr (BitVec.ofNat 5 (exit.toNat)) 511#9 511#9) = 35#7 := by
    apply BitVec.eq_of_toNat_eq; simp only [fOp, packG, BitVec.toNat_ofNat]; omega
  have e1 : fT1 (packG 35#7 pr (BitVec.ofNat 5 (exit.toNat)) 511#9 511#9) = 511#9 := by
    apply BitVec.eq_of_toNat_eq; simp only [fT1, packG, BitVec.toNat_ofNat]; omega
  have e2 : fT0 (packG 35#7 pr (BitVec.ofNat 5 (exit.toNat)) 511#9 511#9) = 511#9 := by
    apply BitVec.eq_of_toNat_eq; simp only [fT0, packG, BitVec.toNat_ofNat]; omega
  have e3 : fHi2 (packG 35#7 pr (BitVec.ofNat 5 (exit.toNat)) 511#9 511#9) = 0#2 := by
    apply BitVec.eq_of_toNat_eq; simp only [fHi2, packG, BitVec.toNat_ofNat]; omega
  have e4 : fPr (packG 35#7 pr (BitVec.ofNat 5 (exit.toNat)) 511#9 511#9) = pr := by
    apply BitVec.eq_of_toNat_eq; simp only [fPr, packG, BitVec.toNat_ofNat]; omega
  have e5 : fXLow3 (packG 35#7 pr (BitVec.ofNat 5 (exit.toNat)) 511#9 511#9) = exit := by
    apply BitVec.eq_of_toNat_eq; simp only [fXLow3, packG, BitVec.toNat_ofNat]; omega
  generalize packG 35#7 pr (BitVec.ofNat 5 (exit.toNat)) 511#9 511#9 = w at *
  rw [decode_op23 w e0]
  simp [decodeOp23, e1, e2, e3, e4, e5]

theorem calli (pr : BitVec 2) (exit : BitVec 3) :
    Statement (.calli pr exit) := by
  intro _ _
  change decode (packG 36#7 pr (BitVec.ofNat 5 (exit.toNat)) 511#9 511#9) = _
  have h0 := pr.isLt; have h1 := exit.isLt
  have e0 : fOp (packG 36#7 pr (BitVec.ofNat 5 (exit.toNat)) 511#9 511#9) = 36#7 := by
    apply BitVec.eq_of_toNat_eq; simp only [fOp, packG, BitVec.toNat_ofNat]; omega
  have e1 : fT1 (packG 36#7 pr (BitVec.ofNat 5 (exit.toNat)) 511#9 511#9) = 511#9 := by
    apply BitVec.eq_of_toNat_eq; simp only [fT1, packG, BitVec.toNat_ofNat]; omega
  have e2 : fT0 (packG 36#7 pr (BitVec.ofNat 5 (exit.toNat)) 511#9 511#9) = 511#9 := by
    apply BitVec.eq_of_toNat_eq; simp only [fT0, packG, BitVec.toNat_ofNat]; omega
  have e3 : fHi2 (packG 36#7 pr (BitVec.ofNat 5 (exit.toNat)) 511#9 511#9) = 0#2 := by
    apply BitVec.eq_of_toNat_eq; simp only [fHi2, packG, BitVec.toNat_ofNat]; omega
  have e4 : fPr (packG 36#7 pr (BitVec.ofNat 5 (exit.toNat)) 511#9 511#9) = pr := by
    apply BitVec.eq_of_toNat_eq; simp only [fPr, packG, BitVec.toNat_ofNat]; omega
  have e5 : fXLow3 (packG 36#7 pr (BitVec.ofNat 5 (exit.toNat)) 511#9 511#9) = exit := by
    apply BitVec.eq_of_toNat_eq; simp only [fXLow3, packG, BitVec.toNat_ofNat]; omega
  generalize packG 36#7 pr (BitVec.ofNat 5 (exit.toNat)) 511#9 511#9 = w at *
  rw [decode_op24 w e0]
  simp [decodeOp24, e1, e2, e3, e4, e5]

theorem ret (pr : BitVec 2) (exit : BitVec 3) :
    Statement (.ret pr exit) := by
  intro _ _
  change decode (packG 37#7 pr (BitVec.ofNat 5 (exit.toNat)) 511#9 511#9) = _
  have h0 := pr.isLt; have h1 := exit.isLt
  have e0 : fOp (packG 37#7 pr (BitVec.ofNat 5 (exit.toNat)) 511#9 511#9) = 37#7 := by
    apply BitVec.eq_of_toNat_eq; simp only [fOp, packG, BitVec.toNat_ofNat]; omega
  have e1 : fT1 (packG 37#7 pr (BitVec.ofNat 5 (exit.toNat)) 511#9 511#9) = 511#9 := by
    apply BitVec.eq_of_toNat_eq; simp only [fT1, packG, BitVec.toNat_ofNat]; omega
  have e2 : fT0 (packG 37#7 pr (BitVec.ofNat 5 (exit.toNat)) 511#9 511#9) = 511#9 := by
    apply BitVec.eq_of_toNat_eq; simp only [fT0, packG, BitVec.toNat_ofNat]; omega
  have e3 : fHi2 (packG 37#7 pr (BitVec.ofNat 5 (exit.toNat)) 511#9 511#9) = 0#2 := by
    apply BitVec.eq_of_toNat_eq; simp only [fHi2, packG, BitVec.toNat_ofNat]; omega
  have e4 : fPr (packG 37#7 pr (BitVec.ofNat 5 (exit.toNat)) 511#9 511#9) = pr := by
    apply BitVec.eq_of_toNat_eq; simp only [fPr, packG, BitVec.toNat_ofNat]; omega
  have e5 : fXLow3 (packG 37#7 pr (BitVec.ofNat 5 (exit.toNat)) 511#9 511#9) = exit := by
    apply BitVec.eq_of_toNat_eq; simp only [fXLow3, packG, BitVec.toNat_ofNat]; omega
  generalize packG 37#7 pr (BitVec.ofNat 5 (exit.toNat)) 511#9 511#9 = w at *
  rw [decode_op25 w e0]
  simp [decodeOp25, e1, e2, e3, e4, e5]

theorem faddD (pr : BitVec 2) (rm : BitVec 2) (t1 : BitVec 9) (t0 : BitVec 9) :
    Statement (.faddD pr rm t1 t0) := by
  intro _ _
  change decode (packG 40#7 pr (BitVec.ofNat 5 (rm.toNat)) t1 t0) = _
  have h0 := pr.isLt; have h1 := rm.isLt; have h2 := t1.isLt; have h3 := t0.isLt
  have e0 : fOp (packG 40#7 pr (BitVec.ofNat 5 (rm.toNat)) t1 t0) = 40#7 := by
    apply BitVec.eq_of_toNat_eq; simp only [fOp, packG, BitVec.toNat_ofNat]; omega
  have e1 : fXHigh3 (packG 40#7 pr (BitVec.ofNat 5 (rm.toNat)) t1 t0) = 0#3 := by
    apply BitVec.eq_of_toNat_eq; simp only [fXHigh3, packG, BitVec.toNat_ofNat]; omega
  have e2 : fPr (packG 40#7 pr (BitVec.ofNat 5 (rm.toNat)) t1 t0) = pr := by
    apply BitVec.eq_of_toNat_eq; simp only [fPr, packG, BitVec.toNat_ofNat]; omega
  have e3 : fXLow2 (packG 40#7 pr (BitVec.ofNat 5 (rm.toNat)) t1 t0) = rm := by
    apply BitVec.eq_of_toNat_eq; simp only [fXLow2, packG, BitVec.toNat_ofNat]; omega
  have e4 : fT1 (packG 40#7 pr (BitVec.ofNat 5 (rm.toNat)) t1 t0) = t1 := by
    apply BitVec.eq_of_toNat_eq; simp only [fT1, packG, BitVec.toNat_ofNat]; omega
  have e5 : fT0 (packG 40#7 pr (BitVec.ofNat 5 (rm.toNat)) t1 t0) = t0 := by
    apply BitVec.eq_of_toNat_eq; simp only [fT0, packG, BitVec.toNat_ofNat]; omega
  generalize packG 40#7 pr (BitVec.ofNat 5 (rm.toNat)) t1 t0 = w at *
  rw [decode_op28 w e0]
  simp [decodeOp28, e1, e2, e3, e4, e5]

theorem fsubD (pr : BitVec 2) (rm : BitVec 2) (t1 : BitVec 9) (t0 : BitVec 9) :
    Statement (.fsubD pr rm t1 t0) := by
  intro _ _
  change decode (packG 40#7 pr (BitVec.ofNat 5 (4 + rm.toNat)) t1 t0) = _
  have h0 := pr.isLt; have h1 := rm.isLt; have h2 := t1.isLt; have h3 := t0.isLt
  have e0 : fOp (packG 40#7 pr (BitVec.ofNat 5 (4 + rm.toNat)) t1 t0) = 40#7 := by
    apply BitVec.eq_of_toNat_eq; simp only [fOp, packG, BitVec.toNat_ofNat]; omega
  have e1 : fXHigh3 (packG 40#7 pr (BitVec.ofNat 5 (4 + rm.toNat)) t1 t0) = 1#3 := by
    apply BitVec.eq_of_toNat_eq; simp only [fXHigh3, packG, BitVec.toNat_ofNat]; omega
  have e2 : fPr (packG 40#7 pr (BitVec.ofNat 5 (4 + rm.toNat)) t1 t0) = pr := by
    apply BitVec.eq_of_toNat_eq; simp only [fPr, packG, BitVec.toNat_ofNat]; omega
  have e3 : fXLow2 (packG 40#7 pr (BitVec.ofNat 5 (4 + rm.toNat)) t1 t0) = rm := by
    apply BitVec.eq_of_toNat_eq; simp only [fXLow2, packG, BitVec.toNat_ofNat]; omega
  have e4 : fT1 (packG 40#7 pr (BitVec.ofNat 5 (4 + rm.toNat)) t1 t0) = t1 := by
    apply BitVec.eq_of_toNat_eq; simp only [fT1, packG, BitVec.toNat_ofNat]; omega
  have e5 : fT0 (packG 40#7 pr (BitVec.ofNat 5 (4 + rm.toNat)) t1 t0) = t0 := by
    apply BitVec.eq_of_toNat_eq; simp only [fT0, packG, BitVec.toNat_ofNat]; omega
  generalize packG 40#7 pr (BitVec.ofNat 5 (4 + rm.toNat)) t1 t0 = w at *
  rw [decode_op28 w e0]
  simp [decodeOp28, e1, e2, e3, e4, e5]

theorem fmulD (pr : BitVec 2) (rm : BitVec 2) (t1 : BitVec 9) (t0 : BitVec 9) :
    Statement (.fmulD pr rm t1 t0) := by
  intro _ _
  change decode (packG 40#7 pr (BitVec.ofNat 5 (8 + rm.toNat)) t1 t0) = _
  have h0 := pr.isLt; have h1 := rm.isLt; have h2 := t1.isLt; have h3 := t0.isLt
  have e0 : fOp (packG 40#7 pr (BitVec.ofNat 5 (8 + rm.toNat)) t1 t0) = 40#7 := by
    apply BitVec.eq_of_toNat_eq; simp only [fOp, packG, BitVec.toNat_ofNat]; omega
  have e1 : fXHigh3 (packG 40#7 pr (BitVec.ofNat 5 (8 + rm.toNat)) t1 t0) = 2#3 := by
    apply BitVec.eq_of_toNat_eq; simp only [fXHigh3, packG, BitVec.toNat_ofNat]; omega
  have e2 : fPr (packG 40#7 pr (BitVec.ofNat 5 (8 + rm.toNat)) t1 t0) = pr := by
    apply BitVec.eq_of_toNat_eq; simp only [fPr, packG, BitVec.toNat_ofNat]; omega
  have e3 : fXLow2 (packG 40#7 pr (BitVec.ofNat 5 (8 + rm.toNat)) t1 t0) = rm := by
    apply BitVec.eq_of_toNat_eq; simp only [fXLow2, packG, BitVec.toNat_ofNat]; omega
  have e4 : fT1 (packG 40#7 pr (BitVec.ofNat 5 (8 + rm.toNat)) t1 t0) = t1 := by
    apply BitVec.eq_of_toNat_eq; simp only [fT1, packG, BitVec.toNat_ofNat]; omega
  have e5 : fT0 (packG 40#7 pr (BitVec.ofNat 5 (8 + rm.toNat)) t1 t0) = t0 := by
    apply BitVec.eq_of_toNat_eq; simp only [fT0, packG, BitVec.toNat_ofNat]; omega
  generalize packG 40#7 pr (BitVec.ofNat 5 (8 + rm.toNat)) t1 t0 = w at *
  rw [decode_op28 w e0]
  simp [decodeOp28, e1, e2, e3, e4, e5]

theorem fdivD (pr : BitVec 2) (rm : BitVec 2) (t1 : BitVec 9) (t0 : BitVec 9) :
    Statement (.fdivD pr rm t1 t0) := by
  intro _ _
  change decode (packG 40#7 pr (BitVec.ofNat 5 (12 + rm.toNat)) t1 t0) = _
  have h0 := pr.isLt; have h1 := rm.isLt; have h2 := t1.isLt; have h3 := t0.isLt
  have e0 : fOp (packG 40#7 pr (BitVec.ofNat 5 (12 + rm.toNat)) t1 t0) = 40#7 := by
    apply BitVec.eq_of_toNat_eq; simp only [fOp, packG, BitVec.toNat_ofNat]; omega
  have e1 : fXHigh3 (packG 40#7 pr (BitVec.ofNat 5 (12 + rm.toNat)) t1 t0) = 3#3 := by
    apply BitVec.eq_of_toNat_eq; simp only [fXHigh3, packG, BitVec.toNat_ofNat]; omega
  have e2 : fPr (packG 40#7 pr (BitVec.ofNat 5 (12 + rm.toNat)) t1 t0) = pr := by
    apply BitVec.eq_of_toNat_eq; simp only [fPr, packG, BitVec.toNat_ofNat]; omega
  have e3 : fXLow2 (packG 40#7 pr (BitVec.ofNat 5 (12 + rm.toNat)) t1 t0) = rm := by
    apply BitVec.eq_of_toNat_eq; simp only [fXLow2, packG, BitVec.toNat_ofNat]; omega
  have e4 : fT1 (packG 40#7 pr (BitVec.ofNat 5 (12 + rm.toNat)) t1 t0) = t1 := by
    apply BitVec.eq_of_toNat_eq; simp only [fT1, packG, BitVec.toNat_ofNat]; omega
  have e5 : fT0 (packG 40#7 pr (BitVec.ofNat 5 (12 + rm.toNat)) t1 t0) = t0 := by
    apply BitVec.eq_of_toNat_eq; simp only [fT0, packG, BitVec.toNat_ofNat]; omega
  generalize packG 40#7 pr (BitVec.ofNat 5 (12 + rm.toNat)) t1 t0 = w at *
  rw [decode_op28 w e0]
  simp [decodeOp28, e1, e2, e3, e4, e5]

theorem fsqrtD (pr : BitVec 2) (rm : BitVec 2) (t1 : BitVec 9) (t0 : BitVec 9) :
    Statement (.fsqrtD pr rm t1 t0) := by
  intro _ _
  change decode (packG 40#7 pr (BitVec.ofNat 5 (16 + rm.toNat)) t1 t0) = _
  have h0 := pr.isLt; have h1 := rm.isLt; have h2 := t1.isLt; have h3 := t0.isLt
  have e0 : fOp (packG 40#7 pr (BitVec.ofNat 5 (16 + rm.toNat)) t1 t0) = 40#7 := by
    apply BitVec.eq_of_toNat_eq; simp only [fOp, packG, BitVec.toNat_ofNat]; omega
  have e1 : fXHigh3 (packG 40#7 pr (BitVec.ofNat 5 (16 + rm.toNat)) t1 t0) = 4#3 := by
    apply BitVec.eq_of_toNat_eq; simp only [fXHigh3, packG, BitVec.toNat_ofNat]; omega
  have e2 : fPr (packG 40#7 pr (BitVec.ofNat 5 (16 + rm.toNat)) t1 t0) = pr := by
    apply BitVec.eq_of_toNat_eq; simp only [fPr, packG, BitVec.toNat_ofNat]; omega
  have e3 : fXLow2 (packG 40#7 pr (BitVec.ofNat 5 (16 + rm.toNat)) t1 t0) = rm := by
    apply BitVec.eq_of_toNat_eq; simp only [fXLow2, packG, BitVec.toNat_ofNat]; omega
  have e4 : fT1 (packG 40#7 pr (BitVec.ofNat 5 (16 + rm.toNat)) t1 t0) = t1 := by
    apply BitVec.eq_of_toNat_eq; simp only [fT1, packG, BitVec.toNat_ofNat]; omega
  have e5 : fT0 (packG 40#7 pr (BitVec.ofNat 5 (16 + rm.toNat)) t1 t0) = t0 := by
    apply BitVec.eq_of_toNat_eq; simp only [fT0, packG, BitVec.toNat_ofNat]; omega
  generalize packG 40#7 pr (BitVec.ofNat 5 (16 + rm.toNat)) t1 t0 = w at *
  rw [decode_op28 w e0]
  simp [decodeOp28, e1, e2, e3, e4, e5]

theorem fmaD (rm : BitVec 2) (t1 : BitVec 9) (t0 : BitVec 9) :
    Statement (.fmaD rm t1 t0) := by
  intro _ _
  change decode (packG 40#7 0#2 (BitVec.ofNat 5 (20 + rm.toNat)) t1 t0) = _
  have h0 := rm.isLt; have h1 := t1.isLt; have h2 := t0.isLt
  have e0 : fOp (packG 40#7 0#2 (BitVec.ofNat 5 (20 + rm.toNat)) t1 t0) = 40#7 := by
    apply BitVec.eq_of_toNat_eq; simp only [fOp, packG, BitVec.toNat_ofNat]; omega
  have e1 : fXHigh3 (packG 40#7 0#2 (BitVec.ofNat 5 (20 + rm.toNat)) t1 t0) = 5#3 := by
    apply BitVec.eq_of_toNat_eq; simp only [fXHigh3, packG, BitVec.toNat_ofNat]; omega
  have e2 : fPr (packG 40#7 0#2 (BitVec.ofNat 5 (20 + rm.toNat)) t1 t0) = 0#2 := by
    apply BitVec.eq_of_toNat_eq; simp only [fPr, packG, BitVec.toNat_ofNat]; omega
  have e3 : fXLow2 (packG 40#7 0#2 (BitVec.ofNat 5 (20 + rm.toNat)) t1 t0) = rm := by
    apply BitVec.eq_of_toNat_eq; simp only [fXLow2, packG, BitVec.toNat_ofNat]; omega
  have e4 : fT1 (packG 40#7 0#2 (BitVec.ofNat 5 (20 + rm.toNat)) t1 t0) = t1 := by
    apply BitVec.eq_of_toNat_eq; simp only [fT1, packG, BitVec.toNat_ofNat]; omega
  have e5 : fT0 (packG 40#7 0#2 (BitVec.ofNat 5 (20 + rm.toNat)) t1 t0) = t0 := by
    apply BitVec.eq_of_toNat_eq; simp only [fT0, packG, BitVec.toNat_ofNat]; omega
  generalize packG 40#7 0#2 (BitVec.ofNat 5 (20 + rm.toNat)) t1 t0 = w at *
  rw [decode_op28 w e0]
  simp [decodeOp28, e1, e2, e3, e4, e5]

theorem fmsD (rm : BitVec 2) (t1 : BitVec 9) (t0 : BitVec 9) :
    Statement (.fmsD rm t1 t0) := by
  intro _ _
  change decode (packG 40#7 0#2 (BitVec.ofNat 5 (24 + rm.toNat)) t1 t0) = _
  have h0 := rm.isLt; have h1 := t1.isLt; have h2 := t0.isLt
  have e0 : fOp (packG 40#7 0#2 (BitVec.ofNat 5 (24 + rm.toNat)) t1 t0) = 40#7 := by
    apply BitVec.eq_of_toNat_eq; simp only [fOp, packG, BitVec.toNat_ofNat]; omega
  have e1 : fXHigh3 (packG 40#7 0#2 (BitVec.ofNat 5 (24 + rm.toNat)) t1 t0) = 6#3 := by
    apply BitVec.eq_of_toNat_eq; simp only [fXHigh3, packG, BitVec.toNat_ofNat]; omega
  have e2 : fPr (packG 40#7 0#2 (BitVec.ofNat 5 (24 + rm.toNat)) t1 t0) = 0#2 := by
    apply BitVec.eq_of_toNat_eq; simp only [fPr, packG, BitVec.toNat_ofNat]; omega
  have e3 : fXLow2 (packG 40#7 0#2 (BitVec.ofNat 5 (24 + rm.toNat)) t1 t0) = rm := by
    apply BitVec.eq_of_toNat_eq; simp only [fXLow2, packG, BitVec.toNat_ofNat]; omega
  have e4 : fT1 (packG 40#7 0#2 (BitVec.ofNat 5 (24 + rm.toNat)) t1 t0) = t1 := by
    apply BitVec.eq_of_toNat_eq; simp only [fT1, packG, BitVec.toNat_ofNat]; omega
  have e5 : fT0 (packG 40#7 0#2 (BitVec.ofNat 5 (24 + rm.toNat)) t1 t0) = t0 := by
    apply BitVec.eq_of_toNat_eq; simp only [fT0, packG, BitVec.toNat_ofNat]; omega
  generalize packG 40#7 0#2 (BitVec.ofNat 5 (24 + rm.toNat)) t1 t0 = w at *
  rw [decode_op28 w e0]
  simp [decodeOp28, e1, e2, e3, e4, e5]

theorem fnmaD (rm : BitVec 2) (t1 : BitVec 9) (t0 : BitVec 9) :
    Statement (.fnmaD rm t1 t0) := by
  intro _ _
  change decode (packG 40#7 0#2 (BitVec.ofNat 5 (28 + rm.toNat)) t1 t0) = _
  have h0 := rm.isLt; have h1 := t1.isLt; have h2 := t0.isLt
  have e0 : fOp (packG 40#7 0#2 (BitVec.ofNat 5 (28 + rm.toNat)) t1 t0) = 40#7 := by
    apply BitVec.eq_of_toNat_eq; simp only [fOp, packG, BitVec.toNat_ofNat]; omega
  have e1 : fXHigh3 (packG 40#7 0#2 (BitVec.ofNat 5 (28 + rm.toNat)) t1 t0) = 7#3 := by
    apply BitVec.eq_of_toNat_eq; simp only [fXHigh3, packG, BitVec.toNat_ofNat]; omega
  have e2 : fPr (packG 40#7 0#2 (BitVec.ofNat 5 (28 + rm.toNat)) t1 t0) = 0#2 := by
    apply BitVec.eq_of_toNat_eq; simp only [fPr, packG, BitVec.toNat_ofNat]; omega
  have e3 : fXLow2 (packG 40#7 0#2 (BitVec.ofNat 5 (28 + rm.toNat)) t1 t0) = rm := by
    apply BitVec.eq_of_toNat_eq; simp only [fXLow2, packG, BitVec.toNat_ofNat]; omega
  have e4 : fT1 (packG 40#7 0#2 (BitVec.ofNat 5 (28 + rm.toNat)) t1 t0) = t1 := by
    apply BitVec.eq_of_toNat_eq; simp only [fT1, packG, BitVec.toNat_ofNat]; omega
  have e5 : fT0 (packG 40#7 0#2 (BitVec.ofNat 5 (28 + rm.toNat)) t1 t0) = t0 := by
    apply BitVec.eq_of_toNat_eq; simp only [fT0, packG, BitVec.toNat_ofNat]; omega
  generalize packG 40#7 0#2 (BitVec.ofNat 5 (28 + rm.toNat)) t1 t0 = w at *
  rw [decode_op28 w e0]
  simp [decodeOp28, e1, e2, e3, e4, e5]

theorem faddS (pr : BitVec 2) (rm : BitVec 2) (t1 : BitVec 9) (t0 : BitVec 9) :
    Statement (.faddS pr rm t1 t0) := by
  intro _ _
  change decode (packG 41#7 pr (BitVec.ofNat 5 (rm.toNat)) t1 t0) = _
  have h0 := pr.isLt; have h1 := rm.isLt; have h2 := t1.isLt; have h3 := t0.isLt
  have e0 : fOp (packG 41#7 pr (BitVec.ofNat 5 (rm.toNat)) t1 t0) = 41#7 := by
    apply BitVec.eq_of_toNat_eq; simp only [fOp, packG, BitVec.toNat_ofNat]; omega
  have e1 : fXHigh3 (packG 41#7 pr (BitVec.ofNat 5 (rm.toNat)) t1 t0) = 0#3 := by
    apply BitVec.eq_of_toNat_eq; simp only [fXHigh3, packG, BitVec.toNat_ofNat]; omega
  have e2 : fPr (packG 41#7 pr (BitVec.ofNat 5 (rm.toNat)) t1 t0) = pr := by
    apply BitVec.eq_of_toNat_eq; simp only [fPr, packG, BitVec.toNat_ofNat]; omega
  have e3 : fXLow2 (packG 41#7 pr (BitVec.ofNat 5 (rm.toNat)) t1 t0) = rm := by
    apply BitVec.eq_of_toNat_eq; simp only [fXLow2, packG, BitVec.toNat_ofNat]; omega
  have e4 : fT1 (packG 41#7 pr (BitVec.ofNat 5 (rm.toNat)) t1 t0) = t1 := by
    apply BitVec.eq_of_toNat_eq; simp only [fT1, packG, BitVec.toNat_ofNat]; omega
  have e5 : fT0 (packG 41#7 pr (BitVec.ofNat 5 (rm.toNat)) t1 t0) = t0 := by
    apply BitVec.eq_of_toNat_eq; simp only [fT0, packG, BitVec.toNat_ofNat]; omega
  generalize packG 41#7 pr (BitVec.ofNat 5 (rm.toNat)) t1 t0 = w at *
  rw [decode_op29 w e0]
  simp [decodeOp29, e1, e2, e3, e4, e5]

theorem fsubS (pr : BitVec 2) (rm : BitVec 2) (t1 : BitVec 9) (t0 : BitVec 9) :
    Statement (.fsubS pr rm t1 t0) := by
  intro _ _
  change decode (packG 41#7 pr (BitVec.ofNat 5 (4 + rm.toNat)) t1 t0) = _
  have h0 := pr.isLt; have h1 := rm.isLt; have h2 := t1.isLt; have h3 := t0.isLt
  have e0 : fOp (packG 41#7 pr (BitVec.ofNat 5 (4 + rm.toNat)) t1 t0) = 41#7 := by
    apply BitVec.eq_of_toNat_eq; simp only [fOp, packG, BitVec.toNat_ofNat]; omega
  have e1 : fXHigh3 (packG 41#7 pr (BitVec.ofNat 5 (4 + rm.toNat)) t1 t0) = 1#3 := by
    apply BitVec.eq_of_toNat_eq; simp only [fXHigh3, packG, BitVec.toNat_ofNat]; omega
  have e2 : fPr (packG 41#7 pr (BitVec.ofNat 5 (4 + rm.toNat)) t1 t0) = pr := by
    apply BitVec.eq_of_toNat_eq; simp only [fPr, packG, BitVec.toNat_ofNat]; omega
  have e3 : fXLow2 (packG 41#7 pr (BitVec.ofNat 5 (4 + rm.toNat)) t1 t0) = rm := by
    apply BitVec.eq_of_toNat_eq; simp only [fXLow2, packG, BitVec.toNat_ofNat]; omega
  have e4 : fT1 (packG 41#7 pr (BitVec.ofNat 5 (4 + rm.toNat)) t1 t0) = t1 := by
    apply BitVec.eq_of_toNat_eq; simp only [fT1, packG, BitVec.toNat_ofNat]; omega
  have e5 : fT0 (packG 41#7 pr (BitVec.ofNat 5 (4 + rm.toNat)) t1 t0) = t0 := by
    apply BitVec.eq_of_toNat_eq; simp only [fT0, packG, BitVec.toNat_ofNat]; omega
  generalize packG 41#7 pr (BitVec.ofNat 5 (4 + rm.toNat)) t1 t0 = w at *
  rw [decode_op29 w e0]
  simp [decodeOp29, e1, e2, e3, e4, e5]

theorem fmulS (pr : BitVec 2) (rm : BitVec 2) (t1 : BitVec 9) (t0 : BitVec 9) :
    Statement (.fmulS pr rm t1 t0) := by
  intro _ _
  change decode (packG 41#7 pr (BitVec.ofNat 5 (8 + rm.toNat)) t1 t0) = _
  have h0 := pr.isLt; have h1 := rm.isLt; have h2 := t1.isLt; have h3 := t0.isLt
  have e0 : fOp (packG 41#7 pr (BitVec.ofNat 5 (8 + rm.toNat)) t1 t0) = 41#7 := by
    apply BitVec.eq_of_toNat_eq; simp only [fOp, packG, BitVec.toNat_ofNat]; omega
  have e1 : fXHigh3 (packG 41#7 pr (BitVec.ofNat 5 (8 + rm.toNat)) t1 t0) = 2#3 := by
    apply BitVec.eq_of_toNat_eq; simp only [fXHigh3, packG, BitVec.toNat_ofNat]; omega
  have e2 : fPr (packG 41#7 pr (BitVec.ofNat 5 (8 + rm.toNat)) t1 t0) = pr := by
    apply BitVec.eq_of_toNat_eq; simp only [fPr, packG, BitVec.toNat_ofNat]; omega
  have e3 : fXLow2 (packG 41#7 pr (BitVec.ofNat 5 (8 + rm.toNat)) t1 t0) = rm := by
    apply BitVec.eq_of_toNat_eq; simp only [fXLow2, packG, BitVec.toNat_ofNat]; omega
  have e4 : fT1 (packG 41#7 pr (BitVec.ofNat 5 (8 + rm.toNat)) t1 t0) = t1 := by
    apply BitVec.eq_of_toNat_eq; simp only [fT1, packG, BitVec.toNat_ofNat]; omega
  have e5 : fT0 (packG 41#7 pr (BitVec.ofNat 5 (8 + rm.toNat)) t1 t0) = t0 := by
    apply BitVec.eq_of_toNat_eq; simp only [fT0, packG, BitVec.toNat_ofNat]; omega
  generalize packG 41#7 pr (BitVec.ofNat 5 (8 + rm.toNat)) t1 t0 = w at *
  rw [decode_op29 w e0]
  simp [decodeOp29, e1, e2, e3, e4, e5]

theorem fdivS (pr : BitVec 2) (rm : BitVec 2) (t1 : BitVec 9) (t0 : BitVec 9) :
    Statement (.fdivS pr rm t1 t0) := by
  intro _ _
  change decode (packG 41#7 pr (BitVec.ofNat 5 (12 + rm.toNat)) t1 t0) = _
  have h0 := pr.isLt; have h1 := rm.isLt; have h2 := t1.isLt; have h3 := t0.isLt
  have e0 : fOp (packG 41#7 pr (BitVec.ofNat 5 (12 + rm.toNat)) t1 t0) = 41#7 := by
    apply BitVec.eq_of_toNat_eq; simp only [fOp, packG, BitVec.toNat_ofNat]; omega
  have e1 : fXHigh3 (packG 41#7 pr (BitVec.ofNat 5 (12 + rm.toNat)) t1 t0) = 3#3 := by
    apply BitVec.eq_of_toNat_eq; simp only [fXHigh3, packG, BitVec.toNat_ofNat]; omega
  have e2 : fPr (packG 41#7 pr (BitVec.ofNat 5 (12 + rm.toNat)) t1 t0) = pr := by
    apply BitVec.eq_of_toNat_eq; simp only [fPr, packG, BitVec.toNat_ofNat]; omega
  have e3 : fXLow2 (packG 41#7 pr (BitVec.ofNat 5 (12 + rm.toNat)) t1 t0) = rm := by
    apply BitVec.eq_of_toNat_eq; simp only [fXLow2, packG, BitVec.toNat_ofNat]; omega
  have e4 : fT1 (packG 41#7 pr (BitVec.ofNat 5 (12 + rm.toNat)) t1 t0) = t1 := by
    apply BitVec.eq_of_toNat_eq; simp only [fT1, packG, BitVec.toNat_ofNat]; omega
  have e5 : fT0 (packG 41#7 pr (BitVec.ofNat 5 (12 + rm.toNat)) t1 t0) = t0 := by
    apply BitVec.eq_of_toNat_eq; simp only [fT0, packG, BitVec.toNat_ofNat]; omega
  generalize packG 41#7 pr (BitVec.ofNat 5 (12 + rm.toNat)) t1 t0 = w at *
  rw [decode_op29 w e0]
  simp [decodeOp29, e1, e2, e3, e4, e5]

theorem fsqrtS (pr : BitVec 2) (rm : BitVec 2) (t1 : BitVec 9) (t0 : BitVec 9) :
    Statement (.fsqrtS pr rm t1 t0) := by
  intro _ _
  change decode (packG 41#7 pr (BitVec.ofNat 5 (16 + rm.toNat)) t1 t0) = _
  have h0 := pr.isLt; have h1 := rm.isLt; have h2 := t1.isLt; have h3 := t0.isLt
  have e0 : fOp (packG 41#7 pr (BitVec.ofNat 5 (16 + rm.toNat)) t1 t0) = 41#7 := by
    apply BitVec.eq_of_toNat_eq; simp only [fOp, packG, BitVec.toNat_ofNat]; omega
  have e1 : fXHigh3 (packG 41#7 pr (BitVec.ofNat 5 (16 + rm.toNat)) t1 t0) = 4#3 := by
    apply BitVec.eq_of_toNat_eq; simp only [fXHigh3, packG, BitVec.toNat_ofNat]; omega
  have e2 : fPr (packG 41#7 pr (BitVec.ofNat 5 (16 + rm.toNat)) t1 t0) = pr := by
    apply BitVec.eq_of_toNat_eq; simp only [fPr, packG, BitVec.toNat_ofNat]; omega
  have e3 : fXLow2 (packG 41#7 pr (BitVec.ofNat 5 (16 + rm.toNat)) t1 t0) = rm := by
    apply BitVec.eq_of_toNat_eq; simp only [fXLow2, packG, BitVec.toNat_ofNat]; omega
  have e4 : fT1 (packG 41#7 pr (BitVec.ofNat 5 (16 + rm.toNat)) t1 t0) = t1 := by
    apply BitVec.eq_of_toNat_eq; simp only [fT1, packG, BitVec.toNat_ofNat]; omega
  have e5 : fT0 (packG 41#7 pr (BitVec.ofNat 5 (16 + rm.toNat)) t1 t0) = t0 := by
    apply BitVec.eq_of_toNat_eq; simp only [fT0, packG, BitVec.toNat_ofNat]; omega
  generalize packG 41#7 pr (BitVec.ofNat 5 (16 + rm.toNat)) t1 t0 = w at *
  rw [decode_op29 w e0]
  simp [decodeOp29, e1, e2, e3, e4, e5]

theorem fmaS (rm : BitVec 2) (t1 : BitVec 9) (t0 : BitVec 9) :
    Statement (.fmaS rm t1 t0) := by
  intro _ _
  change decode (packG 41#7 0#2 (BitVec.ofNat 5 (20 + rm.toNat)) t1 t0) = _
  have h0 := rm.isLt; have h1 := t1.isLt; have h2 := t0.isLt
  have e0 : fOp (packG 41#7 0#2 (BitVec.ofNat 5 (20 + rm.toNat)) t1 t0) = 41#7 := by
    apply BitVec.eq_of_toNat_eq; simp only [fOp, packG, BitVec.toNat_ofNat]; omega
  have e1 : fXHigh3 (packG 41#7 0#2 (BitVec.ofNat 5 (20 + rm.toNat)) t1 t0) = 5#3 := by
    apply BitVec.eq_of_toNat_eq; simp only [fXHigh3, packG, BitVec.toNat_ofNat]; omega
  have e2 : fPr (packG 41#7 0#2 (BitVec.ofNat 5 (20 + rm.toNat)) t1 t0) = 0#2 := by
    apply BitVec.eq_of_toNat_eq; simp only [fPr, packG, BitVec.toNat_ofNat]; omega
  have e3 : fXLow2 (packG 41#7 0#2 (BitVec.ofNat 5 (20 + rm.toNat)) t1 t0) = rm := by
    apply BitVec.eq_of_toNat_eq; simp only [fXLow2, packG, BitVec.toNat_ofNat]; omega
  have e4 : fT1 (packG 41#7 0#2 (BitVec.ofNat 5 (20 + rm.toNat)) t1 t0) = t1 := by
    apply BitVec.eq_of_toNat_eq; simp only [fT1, packG, BitVec.toNat_ofNat]; omega
  have e5 : fT0 (packG 41#7 0#2 (BitVec.ofNat 5 (20 + rm.toNat)) t1 t0) = t0 := by
    apply BitVec.eq_of_toNat_eq; simp only [fT0, packG, BitVec.toNat_ofNat]; omega
  generalize packG 41#7 0#2 (BitVec.ofNat 5 (20 + rm.toNat)) t1 t0 = w at *
  rw [decode_op29 w e0]
  simp [decodeOp29, e1, e2, e3, e4, e5]

theorem fmsS (rm : BitVec 2) (t1 : BitVec 9) (t0 : BitVec 9) :
    Statement (.fmsS rm t1 t0) := by
  intro _ _
  change decode (packG 41#7 0#2 (BitVec.ofNat 5 (24 + rm.toNat)) t1 t0) = _
  have h0 := rm.isLt; have h1 := t1.isLt; have h2 := t0.isLt
  have e0 : fOp (packG 41#7 0#2 (BitVec.ofNat 5 (24 + rm.toNat)) t1 t0) = 41#7 := by
    apply BitVec.eq_of_toNat_eq; simp only [fOp, packG, BitVec.toNat_ofNat]; omega
  have e1 : fXHigh3 (packG 41#7 0#2 (BitVec.ofNat 5 (24 + rm.toNat)) t1 t0) = 6#3 := by
    apply BitVec.eq_of_toNat_eq; simp only [fXHigh3, packG, BitVec.toNat_ofNat]; omega
  have e2 : fPr (packG 41#7 0#2 (BitVec.ofNat 5 (24 + rm.toNat)) t1 t0) = 0#2 := by
    apply BitVec.eq_of_toNat_eq; simp only [fPr, packG, BitVec.toNat_ofNat]; omega
  have e3 : fXLow2 (packG 41#7 0#2 (BitVec.ofNat 5 (24 + rm.toNat)) t1 t0) = rm := by
    apply BitVec.eq_of_toNat_eq; simp only [fXLow2, packG, BitVec.toNat_ofNat]; omega
  have e4 : fT1 (packG 41#7 0#2 (BitVec.ofNat 5 (24 + rm.toNat)) t1 t0) = t1 := by
    apply BitVec.eq_of_toNat_eq; simp only [fT1, packG, BitVec.toNat_ofNat]; omega
  have e5 : fT0 (packG 41#7 0#2 (BitVec.ofNat 5 (24 + rm.toNat)) t1 t0) = t0 := by
    apply BitVec.eq_of_toNat_eq; simp only [fT0, packG, BitVec.toNat_ofNat]; omega
  generalize packG 41#7 0#2 (BitVec.ofNat 5 (24 + rm.toNat)) t1 t0 = w at *
  rw [decode_op29 w e0]
  simp [decodeOp29, e1, e2, e3, e4, e5]

theorem fnmaS (rm : BitVec 2) (t1 : BitVec 9) (t0 : BitVec 9) :
    Statement (.fnmaS rm t1 t0) := by
  intro _ _
  change decode (packG 41#7 0#2 (BitVec.ofNat 5 (28 + rm.toNat)) t1 t0) = _
  have h0 := rm.isLt; have h1 := t1.isLt; have h2 := t0.isLt
  have e0 : fOp (packG 41#7 0#2 (BitVec.ofNat 5 (28 + rm.toNat)) t1 t0) = 41#7 := by
    apply BitVec.eq_of_toNat_eq; simp only [fOp, packG, BitVec.toNat_ofNat]; omega
  have e1 : fXHigh3 (packG 41#7 0#2 (BitVec.ofNat 5 (28 + rm.toNat)) t1 t0) = 7#3 := by
    apply BitVec.eq_of_toNat_eq; simp only [fXHigh3, packG, BitVec.toNat_ofNat]; omega
  have e2 : fPr (packG 41#7 0#2 (BitVec.ofNat 5 (28 + rm.toNat)) t1 t0) = 0#2 := by
    apply BitVec.eq_of_toNat_eq; simp only [fPr, packG, BitVec.toNat_ofNat]; omega
  have e3 : fXLow2 (packG 41#7 0#2 (BitVec.ofNat 5 (28 + rm.toNat)) t1 t0) = rm := by
    apply BitVec.eq_of_toNat_eq; simp only [fXLow2, packG, BitVec.toNat_ofNat]; omega
  have e4 : fT1 (packG 41#7 0#2 (BitVec.ofNat 5 (28 + rm.toNat)) t1 t0) = t1 := by
    apply BitVec.eq_of_toNat_eq; simp only [fT1, packG, BitVec.toNat_ofNat]; omega
  have e5 : fT0 (packG 41#7 0#2 (BitVec.ofNat 5 (28 + rm.toNat)) t1 t0) = t0 := by
    apply BitVec.eq_of_toNat_eq; simp only [fT0, packG, BitVec.toNat_ofNat]; omega
  generalize packG 41#7 0#2 (BitVec.ofNat 5 (28 + rm.toNat)) t1 t0 = w at *
  rw [decode_op29 w e0]
  simp [decodeOp29, e1, e2, e3, e4, e5]

theorem fmin (pr : BitVec 2) (wid : BitVec 1) (t1 : BitVec 9) (t0 : BitVec 9) :
    Statement (.fmin pr wid t1 t0) := by
  intro _ _
  change decode (packG 42#7 pr (BitVec.ofNat 5 (wid.toNat * 2 ^ 4)) t1 t0) = _
  have h0 := pr.isLt; have h1 := wid.isLt; have h2 := t1.isLt; have h3 := t0.isLt
  have e0 : fOp (packG 42#7 pr (BitVec.ofNat 5 (wid.toNat * 2 ^ 4)) t1 t0) = 42#7 := by
    apply BitVec.eq_of_toNat_eq; simp only [fOp, packG, BitVec.toNat_ofNat]; omega
  have e1 : fXMid4 (packG 42#7 pr (BitVec.ofNat 5 (wid.toNat * 2 ^ 4)) t1 t0) = 0#4 := by
    apply BitVec.eq_of_toNat_eq; simp only [fXMid4, packG, BitVec.toNat_ofNat]; omega
  have e2 : fPr (packG 42#7 pr (BitVec.ofNat 5 (wid.toNat * 2 ^ 4)) t1 t0) = pr := by
    apply BitVec.eq_of_toNat_eq; simp only [fPr, packG, BitVec.toNat_ofNat]; omega
  have e3 : fXTop (packG 42#7 pr (BitVec.ofNat 5 (wid.toNat * 2 ^ 4)) t1 t0) = wid := by
    apply BitVec.eq_of_toNat_eq; simp only [fXTop, packG, BitVec.toNat_ofNat]; omega
  have e4 : fT1 (packG 42#7 pr (BitVec.ofNat 5 (wid.toNat * 2 ^ 4)) t1 t0) = t1 := by
    apply BitVec.eq_of_toNat_eq; simp only [fT1, packG, BitVec.toNat_ofNat]; omega
  have e5 : fT0 (packG 42#7 pr (BitVec.ofNat 5 (wid.toNat * 2 ^ 4)) t1 t0) = t0 := by
    apply BitVec.eq_of_toNat_eq; simp only [fT0, packG, BitVec.toNat_ofNat]; omega
  generalize packG 42#7 pr (BitVec.ofNat 5 (wid.toNat * 2 ^ 4)) t1 t0 = w at *
  rw [decode_op2A w e0]
  simp [decodeOp2A, e1, e2, e3, e4, e5]

theorem fmax (pr : BitVec 2) (wid : BitVec 1) (t1 : BitVec 9) (t0 : BitVec 9) :
    Statement (.fmax pr wid t1 t0) := by
  intro _ _
  change decode (packG 42#7 pr (BitVec.ofNat 5 (wid.toNat * 2 ^ 4 + 1)) t1 t0) = _
  have h0 := pr.isLt; have h1 := wid.isLt; have h2 := t1.isLt; have h3 := t0.isLt
  have e0 : fOp (packG 42#7 pr (BitVec.ofNat 5 (wid.toNat * 2 ^ 4 + 1)) t1 t0) = 42#7 := by
    apply BitVec.eq_of_toNat_eq; simp only [fOp, packG, BitVec.toNat_ofNat]; omega
  have e1 : fXMid4 (packG 42#7 pr (BitVec.ofNat 5 (wid.toNat * 2 ^ 4 + 1)) t1 t0) = 1#4 := by
    apply BitVec.eq_of_toNat_eq; simp only [fXMid4, packG, BitVec.toNat_ofNat]; omega
  have e2 : fPr (packG 42#7 pr (BitVec.ofNat 5 (wid.toNat * 2 ^ 4 + 1)) t1 t0) = pr := by
    apply BitVec.eq_of_toNat_eq; simp only [fPr, packG, BitVec.toNat_ofNat]; omega
  have e3 : fXTop (packG 42#7 pr (BitVec.ofNat 5 (wid.toNat * 2 ^ 4 + 1)) t1 t0) = wid := by
    apply BitVec.eq_of_toNat_eq; simp only [fXTop, packG, BitVec.toNat_ofNat]; omega
  have e4 : fT1 (packG 42#7 pr (BitVec.ofNat 5 (wid.toNat * 2 ^ 4 + 1)) t1 t0) = t1 := by
    apply BitVec.eq_of_toNat_eq; simp only [fT1, packG, BitVec.toNat_ofNat]; omega
  have e5 : fT0 (packG 42#7 pr (BitVec.ofNat 5 (wid.toNat * 2 ^ 4 + 1)) t1 t0) = t0 := by
    apply BitVec.eq_of_toNat_eq; simp only [fT0, packG, BitVec.toNat_ofNat]; omega
  generalize packG 42#7 pr (BitVec.ofNat 5 (wid.toNat * 2 ^ 4 + 1)) t1 t0 = w at *
  rw [decode_op2A w e0]
  simp [decodeOp2A, e1, e2, e3, e4, e5]

theorem fneg (pr : BitVec 2) (wid : BitVec 1) (t1 : BitVec 9) (t0 : BitVec 9) :
    Statement (.fneg pr wid t1 t0) := by
  intro _ _
  change decode (packG 42#7 pr (BitVec.ofNat 5 (wid.toNat * 2 ^ 4 + 2)) t1 t0) = _
  have h0 := pr.isLt; have h1 := wid.isLt; have h2 := t1.isLt; have h3 := t0.isLt
  have e0 : fOp (packG 42#7 pr (BitVec.ofNat 5 (wid.toNat * 2 ^ 4 + 2)) t1 t0) = 42#7 := by
    apply BitVec.eq_of_toNat_eq; simp only [fOp, packG, BitVec.toNat_ofNat]; omega
  have e1 : fXMid4 (packG 42#7 pr (BitVec.ofNat 5 (wid.toNat * 2 ^ 4 + 2)) t1 t0) = 2#4 := by
    apply BitVec.eq_of_toNat_eq; simp only [fXMid4, packG, BitVec.toNat_ofNat]; omega
  have e2 : fPr (packG 42#7 pr (BitVec.ofNat 5 (wid.toNat * 2 ^ 4 + 2)) t1 t0) = pr := by
    apply BitVec.eq_of_toNat_eq; simp only [fPr, packG, BitVec.toNat_ofNat]; omega
  have e3 : fXTop (packG 42#7 pr (BitVec.ofNat 5 (wid.toNat * 2 ^ 4 + 2)) t1 t0) = wid := by
    apply BitVec.eq_of_toNat_eq; simp only [fXTop, packG, BitVec.toNat_ofNat]; omega
  have e4 : fT1 (packG 42#7 pr (BitVec.ofNat 5 (wid.toNat * 2 ^ 4 + 2)) t1 t0) = t1 := by
    apply BitVec.eq_of_toNat_eq; simp only [fT1, packG, BitVec.toNat_ofNat]; omega
  have e5 : fT0 (packG 42#7 pr (BitVec.ofNat 5 (wid.toNat * 2 ^ 4 + 2)) t1 t0) = t0 := by
    apply BitVec.eq_of_toNat_eq; simp only [fT0, packG, BitVec.toNat_ofNat]; omega
  generalize packG 42#7 pr (BitVec.ofNat 5 (wid.toNat * 2 ^ 4 + 2)) t1 t0 = w at *
  rw [decode_op2A w e0]
  simp [decodeOp2A, e1, e2, e3, e4, e5]

theorem fabs (pr : BitVec 2) (wid : BitVec 1) (t1 : BitVec 9) (t0 : BitVec 9) :
    Statement (.fabs pr wid t1 t0) := by
  intro _ _
  change decode (packG 42#7 pr (BitVec.ofNat 5 (wid.toNat * 2 ^ 4 + 3)) t1 t0) = _
  have h0 := pr.isLt; have h1 := wid.isLt; have h2 := t1.isLt; have h3 := t0.isLt
  have e0 : fOp (packG 42#7 pr (BitVec.ofNat 5 (wid.toNat * 2 ^ 4 + 3)) t1 t0) = 42#7 := by
    apply BitVec.eq_of_toNat_eq; simp only [fOp, packG, BitVec.toNat_ofNat]; omega
  have e1 : fXMid4 (packG 42#7 pr (BitVec.ofNat 5 (wid.toNat * 2 ^ 4 + 3)) t1 t0) = 3#4 := by
    apply BitVec.eq_of_toNat_eq; simp only [fXMid4, packG, BitVec.toNat_ofNat]; omega
  have e2 : fPr (packG 42#7 pr (BitVec.ofNat 5 (wid.toNat * 2 ^ 4 + 3)) t1 t0) = pr := by
    apply BitVec.eq_of_toNat_eq; simp only [fPr, packG, BitVec.toNat_ofNat]; omega
  have e3 : fXTop (packG 42#7 pr (BitVec.ofNat 5 (wid.toNat * 2 ^ 4 + 3)) t1 t0) = wid := by
    apply BitVec.eq_of_toNat_eq; simp only [fXTop, packG, BitVec.toNat_ofNat]; omega
  have e4 : fT1 (packG 42#7 pr (BitVec.ofNat 5 (wid.toNat * 2 ^ 4 + 3)) t1 t0) = t1 := by
    apply BitVec.eq_of_toNat_eq; simp only [fT1, packG, BitVec.toNat_ofNat]; omega
  have e5 : fT0 (packG 42#7 pr (BitVec.ofNat 5 (wid.toNat * 2 ^ 4 + 3)) t1 t0) = t0 := by
    apply BitVec.eq_of_toNat_eq; simp only [fT0, packG, BitVec.toNat_ofNat]; omega
  generalize packG 42#7 pr (BitVec.ofNat 5 (wid.toNat * 2 ^ 4 + 3)) t1 t0 = w at *
  rw [decode_op2A w e0]
  simp [decodeOp2A, e1, e2, e3, e4, e5]

theorem fcpys (pr : BitVec 2) (wid : BitVec 1) (t1 : BitVec 9) (t0 : BitVec 9) :
    Statement (.fcpys pr wid t1 t0) := by
  intro _ _
  change decode (packG 42#7 pr (BitVec.ofNat 5 (wid.toNat * 2 ^ 4 + 4)) t1 t0) = _
  have h0 := pr.isLt; have h1 := wid.isLt; have h2 := t1.isLt; have h3 := t0.isLt
  have e0 : fOp (packG 42#7 pr (BitVec.ofNat 5 (wid.toNat * 2 ^ 4 + 4)) t1 t0) = 42#7 := by
    apply BitVec.eq_of_toNat_eq; simp only [fOp, packG, BitVec.toNat_ofNat]; omega
  have e1 : fXMid4 (packG 42#7 pr (BitVec.ofNat 5 (wid.toNat * 2 ^ 4 + 4)) t1 t0) = 4#4 := by
    apply BitVec.eq_of_toNat_eq; simp only [fXMid4, packG, BitVec.toNat_ofNat]; omega
  have e2 : fPr (packG 42#7 pr (BitVec.ofNat 5 (wid.toNat * 2 ^ 4 + 4)) t1 t0) = pr := by
    apply BitVec.eq_of_toNat_eq; simp only [fPr, packG, BitVec.toNat_ofNat]; omega
  have e3 : fXTop (packG 42#7 pr (BitVec.ofNat 5 (wid.toNat * 2 ^ 4 + 4)) t1 t0) = wid := by
    apply BitVec.eq_of_toNat_eq; simp only [fXTop, packG, BitVec.toNat_ofNat]; omega
  have e4 : fT1 (packG 42#7 pr (BitVec.ofNat 5 (wid.toNat * 2 ^ 4 + 4)) t1 t0) = t1 := by
    apply BitVec.eq_of_toNat_eq; simp only [fT1, packG, BitVec.toNat_ofNat]; omega
  have e5 : fT0 (packG 42#7 pr (BitVec.ofNat 5 (wid.toNat * 2 ^ 4 + 4)) t1 t0) = t0 := by
    apply BitVec.eq_of_toNat_eq; simp only [fT0, packG, BitVec.toNat_ofNat]; omega
  generalize packG 42#7 pr (BitVec.ofNat 5 (wid.toNat * 2 ^ 4 + 4)) t1 t0 = w at *
  rw [decode_op2A w e0]
  simp [decodeOp2A, e1, e2, e3, e4, e5]

theorem fclass (pr : BitVec 2) (wid : BitVec 1) (t1 : BitVec 9) (t0 : BitVec 9) :
    Statement (.fclass pr wid t1 t0) := by
  intro _ _
  change decode (packG 42#7 pr (BitVec.ofNat 5 (wid.toNat * 2 ^ 4 + 5)) t1 t0) = _
  have h0 := pr.isLt; have h1 := wid.isLt; have h2 := t1.isLt; have h3 := t0.isLt
  have e0 : fOp (packG 42#7 pr (BitVec.ofNat 5 (wid.toNat * 2 ^ 4 + 5)) t1 t0) = 42#7 := by
    apply BitVec.eq_of_toNat_eq; simp only [fOp, packG, BitVec.toNat_ofNat]; omega
  have e1 : fXMid4 (packG 42#7 pr (BitVec.ofNat 5 (wid.toNat * 2 ^ 4 + 5)) t1 t0) = 5#4 := by
    apply BitVec.eq_of_toNat_eq; simp only [fXMid4, packG, BitVec.toNat_ofNat]; omega
  have e2 : fPr (packG 42#7 pr (BitVec.ofNat 5 (wid.toNat * 2 ^ 4 + 5)) t1 t0) = pr := by
    apply BitVec.eq_of_toNat_eq; simp only [fPr, packG, BitVec.toNat_ofNat]; omega
  have e3 : fXTop (packG 42#7 pr (BitVec.ofNat 5 (wid.toNat * 2 ^ 4 + 5)) t1 t0) = wid := by
    apply BitVec.eq_of_toNat_eq; simp only [fXTop, packG, BitVec.toNat_ofNat]; omega
  have e4 : fT1 (packG 42#7 pr (BitVec.ofNat 5 (wid.toNat * 2 ^ 4 + 5)) t1 t0) = t1 := by
    apply BitVec.eq_of_toNat_eq; simp only [fT1, packG, BitVec.toNat_ofNat]; omega
  have e5 : fT0 (packG 42#7 pr (BitVec.ofNat 5 (wid.toNat * 2 ^ 4 + 5)) t1 t0) = t0 := by
    apply BitVec.eq_of_toNat_eq; simp only [fT0, packG, BitVec.toNat_ofNat]; omega
  generalize packG 42#7 pr (BitVec.ofNat 5 (wid.toNat * 2 ^ 4 + 5)) t1 t0 = w at *
  rw [decode_op2A w e0]
  simp [decodeOp2A, e1, e2, e3, e4, e5]

theorem fteq (pr : BitVec 2) (wid : BitVec 1) (t1 : BitVec 9) (t0 : BitVec 9) :
    Statement (.fteq pr wid t1 t0) := by
  intro _ _
  change decode (packG 43#7 pr (BitVec.ofNat 5 (wid.toNat * 2 ^ 4)) t1 t0) = _
  have h0 := pr.isLt; have h1 := wid.isLt; have h2 := t1.isLt; have h3 := t0.isLt
  have e0 : fOp (packG 43#7 pr (BitVec.ofNat 5 (wid.toNat * 2 ^ 4)) t1 t0) = 43#7 := by
    apply BitVec.eq_of_toNat_eq; simp only [fOp, packG, BitVec.toNat_ofNat]; omega
  have e1 : fXMid4 (packG 43#7 pr (BitVec.ofNat 5 (wid.toNat * 2 ^ 4)) t1 t0) = 0#4 := by
    apply BitVec.eq_of_toNat_eq; simp only [fXMid4, packG, BitVec.toNat_ofNat]; omega
  have e2 : fPr (packG 43#7 pr (BitVec.ofNat 5 (wid.toNat * 2 ^ 4)) t1 t0) = pr := by
    apply BitVec.eq_of_toNat_eq; simp only [fPr, packG, BitVec.toNat_ofNat]; omega
  have e3 : fXTop (packG 43#7 pr (BitVec.ofNat 5 (wid.toNat * 2 ^ 4)) t1 t0) = wid := by
    apply BitVec.eq_of_toNat_eq; simp only [fXTop, packG, BitVec.toNat_ofNat]; omega
  have e4 : fT1 (packG 43#7 pr (BitVec.ofNat 5 (wid.toNat * 2 ^ 4)) t1 t0) = t1 := by
    apply BitVec.eq_of_toNat_eq; simp only [fT1, packG, BitVec.toNat_ofNat]; omega
  have e5 : fT0 (packG 43#7 pr (BitVec.ofNat 5 (wid.toNat * 2 ^ 4)) t1 t0) = t0 := by
    apply BitVec.eq_of_toNat_eq; simp only [fT0, packG, BitVec.toNat_ofNat]; omega
  generalize packG 43#7 pr (BitVec.ofNat 5 (wid.toNat * 2 ^ 4)) t1 t0 = w at *
  rw [decode_op2B w e0]
  simp [decodeOp2B, e1, e2, e3, e4, e5]

theorem ftlt (pr : BitVec 2) (wid : BitVec 1) (t1 : BitVec 9) (t0 : BitVec 9) :
    Statement (.ftlt pr wid t1 t0) := by
  intro _ _
  change decode (packG 43#7 pr (BitVec.ofNat 5 (wid.toNat * 2 ^ 4 + 1)) t1 t0) = _
  have h0 := pr.isLt; have h1 := wid.isLt; have h2 := t1.isLt; have h3 := t0.isLt
  have e0 : fOp (packG 43#7 pr (BitVec.ofNat 5 (wid.toNat * 2 ^ 4 + 1)) t1 t0) = 43#7 := by
    apply BitVec.eq_of_toNat_eq; simp only [fOp, packG, BitVec.toNat_ofNat]; omega
  have e1 : fXMid4 (packG 43#7 pr (BitVec.ofNat 5 (wid.toNat * 2 ^ 4 + 1)) t1 t0) = 1#4 := by
    apply BitVec.eq_of_toNat_eq; simp only [fXMid4, packG, BitVec.toNat_ofNat]; omega
  have e2 : fPr (packG 43#7 pr (BitVec.ofNat 5 (wid.toNat * 2 ^ 4 + 1)) t1 t0) = pr := by
    apply BitVec.eq_of_toNat_eq; simp only [fPr, packG, BitVec.toNat_ofNat]; omega
  have e3 : fXTop (packG 43#7 pr (BitVec.ofNat 5 (wid.toNat * 2 ^ 4 + 1)) t1 t0) = wid := by
    apply BitVec.eq_of_toNat_eq; simp only [fXTop, packG, BitVec.toNat_ofNat]; omega
  have e4 : fT1 (packG 43#7 pr (BitVec.ofNat 5 (wid.toNat * 2 ^ 4 + 1)) t1 t0) = t1 := by
    apply BitVec.eq_of_toNat_eq; simp only [fT1, packG, BitVec.toNat_ofNat]; omega
  have e5 : fT0 (packG 43#7 pr (BitVec.ofNat 5 (wid.toNat * 2 ^ 4 + 1)) t1 t0) = t0 := by
    apply BitVec.eq_of_toNat_eq; simp only [fT0, packG, BitVec.toNat_ofNat]; omega
  generalize packG 43#7 pr (BitVec.ofNat 5 (wid.toNat * 2 ^ 4 + 1)) t1 t0 = w at *
  rw [decode_op2B w e0]
  simp [decodeOp2B, e1, e2, e3, e4, e5]

theorem ftle (pr : BitVec 2) (wid : BitVec 1) (t1 : BitVec 9) (t0 : BitVec 9) :
    Statement (.ftle pr wid t1 t0) := by
  intro _ _
  change decode (packG 43#7 pr (BitVec.ofNat 5 (wid.toNat * 2 ^ 4 + 2)) t1 t0) = _
  have h0 := pr.isLt; have h1 := wid.isLt; have h2 := t1.isLt; have h3 := t0.isLt
  have e0 : fOp (packG 43#7 pr (BitVec.ofNat 5 (wid.toNat * 2 ^ 4 + 2)) t1 t0) = 43#7 := by
    apply BitVec.eq_of_toNat_eq; simp only [fOp, packG, BitVec.toNat_ofNat]; omega
  have e1 : fXMid4 (packG 43#7 pr (BitVec.ofNat 5 (wid.toNat * 2 ^ 4 + 2)) t1 t0) = 2#4 := by
    apply BitVec.eq_of_toNat_eq; simp only [fXMid4, packG, BitVec.toNat_ofNat]; omega
  have e2 : fPr (packG 43#7 pr (BitVec.ofNat 5 (wid.toNat * 2 ^ 4 + 2)) t1 t0) = pr := by
    apply BitVec.eq_of_toNat_eq; simp only [fPr, packG, BitVec.toNat_ofNat]; omega
  have e3 : fXTop (packG 43#7 pr (BitVec.ofNat 5 (wid.toNat * 2 ^ 4 + 2)) t1 t0) = wid := by
    apply BitVec.eq_of_toNat_eq; simp only [fXTop, packG, BitVec.toNat_ofNat]; omega
  have e4 : fT1 (packG 43#7 pr (BitVec.ofNat 5 (wid.toNat * 2 ^ 4 + 2)) t1 t0) = t1 := by
    apply BitVec.eq_of_toNat_eq; simp only [fT1, packG, BitVec.toNat_ofNat]; omega
  have e5 : fT0 (packG 43#7 pr (BitVec.ofNat 5 (wid.toNat * 2 ^ 4 + 2)) t1 t0) = t0 := by
    apply BitVec.eq_of_toNat_eq; simp only [fT0, packG, BitVec.toNat_ofNat]; omega
  generalize packG 43#7 pr (BitVec.ofNat 5 (wid.toNat * 2 ^ 4 + 2)) t1 t0 = w at *
  rw [decode_op2B w e0]
  simp [decodeOp2B, e1, e2, e3, e4, e5]

theorem ftun (pr : BitVec 2) (wid : BitVec 1) (t1 : BitVec 9) (t0 : BitVec 9) :
    Statement (.ftun pr wid t1 t0) := by
  intro _ _
  change decode (packG 43#7 pr (BitVec.ofNat 5 (wid.toNat * 2 ^ 4 + 3)) t1 t0) = _
  have h0 := pr.isLt; have h1 := wid.isLt; have h2 := t1.isLt; have h3 := t0.isLt
  have e0 : fOp (packG 43#7 pr (BitVec.ofNat 5 (wid.toNat * 2 ^ 4 + 3)) t1 t0) = 43#7 := by
    apply BitVec.eq_of_toNat_eq; simp only [fOp, packG, BitVec.toNat_ofNat]; omega
  have e1 : fXMid4 (packG 43#7 pr (BitVec.ofNat 5 (wid.toNat * 2 ^ 4 + 3)) t1 t0) = 3#4 := by
    apply BitVec.eq_of_toNat_eq; simp only [fXMid4, packG, BitVec.toNat_ofNat]; omega
  have e2 : fPr (packG 43#7 pr (BitVec.ofNat 5 (wid.toNat * 2 ^ 4 + 3)) t1 t0) = pr := by
    apply BitVec.eq_of_toNat_eq; simp only [fPr, packG, BitVec.toNat_ofNat]; omega
  have e3 : fXTop (packG 43#7 pr (BitVec.ofNat 5 (wid.toNat * 2 ^ 4 + 3)) t1 t0) = wid := by
    apply BitVec.eq_of_toNat_eq; simp only [fXTop, packG, BitVec.toNat_ofNat]; omega
  have e4 : fT1 (packG 43#7 pr (BitVec.ofNat 5 (wid.toNat * 2 ^ 4 + 3)) t1 t0) = t1 := by
    apply BitVec.eq_of_toNat_eq; simp only [fT1, packG, BitVec.toNat_ofNat]; omega
  have e5 : fT0 (packG 43#7 pr (BitVec.ofNat 5 (wid.toNat * 2 ^ 4 + 3)) t1 t0) = t0 := by
    apply BitVec.eq_of_toNat_eq; simp only [fT0, packG, BitVec.toNat_ofNat]; omega
  generalize packG 43#7 pr (BitVec.ofNat 5 (wid.toNat * 2 ^ 4 + 3)) t1 t0 = w at *
  rw [decode_op2B w e0]
  simp [decodeOp2B, e1, e2, e3, e4, e5]

theorem fcvtDS (pr : BitVec 2) (t1 : BitVec 9) (t0 : BitVec 9) :
    Statement (.fcvtDS pr t1 t0) := by
  intro _ _
  change decode (packG 44#7 pr 0#5 t1 t0) = _
  have h0 := pr.isLt; have h1 := t1.isLt; have h2 := t0.isLt
  have e0 : fOp (packG 44#7 pr 0#5 t1 t0) = 44#7 := by
    apply BitVec.eq_of_toNat_eq; simp only [fOp, packG, BitVec.toNat_ofNat]; omega
  have e1 : fX (packG 44#7 pr 0#5 t1 t0) = 0#5 := by
    apply BitVec.eq_of_toNat_eq; simp only [fX, packG, BitVec.toNat_ofNat]; omega
  have e2 : fPr (packG 44#7 pr 0#5 t1 t0) = pr := by
    apply BitVec.eq_of_toNat_eq; simp only [fPr, packG, BitVec.toNat_ofNat]; omega
  have e3 : fT1 (packG 44#7 pr 0#5 t1 t0) = t1 := by
    apply BitVec.eq_of_toNat_eq; simp only [fT1, packG, BitVec.toNat_ofNat]; omega
  have e4 : fT0 (packG 44#7 pr 0#5 t1 t0) = t0 := by
    apply BitVec.eq_of_toNat_eq; simp only [fT0, packG, BitVec.toNat_ofNat]; omega
  have e5 : fXHigh3 (packG 44#7 pr 0#5 t1 t0) = 0#3 := by
    apply BitVec.eq_of_toNat_eq; simp only [fXHigh3, packG, BitVec.toNat_ofNat]; omega
  have e6 : fXLow2 (packG 44#7 pr 0#5 t1 t0) = 0#2 := by
    apply BitVec.eq_of_toNat_eq; simp only [fXLow2, packG, BitVec.toNat_ofNat]; omega
  generalize packG 44#7 pr 0#5 t1 t0 = w at *
  rw [decode_op2C w e0]
  simp [decodeOp2C, e1, e2, e3, e4, e5, e6]

theorem fcvtSD (pr : BitVec 2) (rm : BitVec 2) (t1 : BitVec 9) (t0 : BitVec 9) :
    Statement (.fcvtSD pr rm t1 t0) := by
  intro _ _
  change decode (packG 44#7 pr (BitVec.ofNat 5 (4 + rm.toNat)) t1 t0) = _
  have h0 := pr.isLt; have h1 := rm.isLt; have h2 := t1.isLt; have h3 := t0.isLt
  have e0 : fOp (packG 44#7 pr (BitVec.ofNat 5 (4 + rm.toNat)) t1 t0) = 44#7 := by
    apply BitVec.eq_of_toNat_eq; simp only [fOp, packG, BitVec.toNat_ofNat]; omega
  have e1 : fPr (packG 44#7 pr (BitVec.ofNat 5 (4 + rm.toNat)) t1 t0) = pr := by
    apply BitVec.eq_of_toNat_eq; simp only [fPr, packG, BitVec.toNat_ofNat]; omega
  have e2 : fT1 (packG 44#7 pr (BitVec.ofNat 5 (4 + rm.toNat)) t1 t0) = t1 := by
    apply BitVec.eq_of_toNat_eq; simp only [fT1, packG, BitVec.toNat_ofNat]; omega
  have e3 : fT0 (packG 44#7 pr (BitVec.ofNat 5 (4 + rm.toNat)) t1 t0) = t0 := by
    apply BitVec.eq_of_toNat_eq; simp only [fT0, packG, BitVec.toNat_ofNat]; omega
  have e4 : fXHigh3 (packG 44#7 pr (BitVec.ofNat 5 (4 + rm.toNat)) t1 t0) = 1#3 := by
    apply BitVec.eq_of_toNat_eq; simp only [fXHigh3, packG, BitVec.toNat_ofNat]; omega
  have e5 : fXLow2 (packG 44#7 pr (BitVec.ofNat 5 (4 + rm.toNat)) t1 t0) = rm := by
    apply BitVec.eq_of_toNat_eq; simp only [fXLow2, packG, BitVec.toNat_ofNat]; omega
  have ex : fX (packG 44#7 pr (BitVec.ofNat 5 (4 + rm.toNat)) t1 t0) ≠ 0#5 := by
    intro h; have h := congrArg BitVec.toNat h; simp only [fX, packG, BitVec.toNat_ofNat] at h; omega
  generalize packG 44#7 pr (BitVec.ofNat 5 (4 + rm.toNat)) t1 t0 = w at *
  rw [decode_op2C w e0]
  simp [decodeOp2C, e1, e2, e3, e4, e5, ex]

theorem fcvtDI (pr : BitVec 2) (rm : BitVec 2) (t1 : BitVec 9) (t0 : BitVec 9) :
    Statement (.fcvtDI pr rm t1 t0) := by
  intro _ _
  change decode (packG 44#7 pr (BitVec.ofNat 5 (8 + rm.toNat)) t1 t0) = _
  have h0 := pr.isLt; have h1 := rm.isLt; have h2 := t1.isLt; have h3 := t0.isLt
  have e0 : fOp (packG 44#7 pr (BitVec.ofNat 5 (8 + rm.toNat)) t1 t0) = 44#7 := by
    apply BitVec.eq_of_toNat_eq; simp only [fOp, packG, BitVec.toNat_ofNat]; omega
  have e1 : fPr (packG 44#7 pr (BitVec.ofNat 5 (8 + rm.toNat)) t1 t0) = pr := by
    apply BitVec.eq_of_toNat_eq; simp only [fPr, packG, BitVec.toNat_ofNat]; omega
  have e2 : fT1 (packG 44#7 pr (BitVec.ofNat 5 (8 + rm.toNat)) t1 t0) = t1 := by
    apply BitVec.eq_of_toNat_eq; simp only [fT1, packG, BitVec.toNat_ofNat]; omega
  have e3 : fT0 (packG 44#7 pr (BitVec.ofNat 5 (8 + rm.toNat)) t1 t0) = t0 := by
    apply BitVec.eq_of_toNat_eq; simp only [fT0, packG, BitVec.toNat_ofNat]; omega
  have e4 : fXHigh3 (packG 44#7 pr (BitVec.ofNat 5 (8 + rm.toNat)) t1 t0) = 2#3 := by
    apply BitVec.eq_of_toNat_eq; simp only [fXHigh3, packG, BitVec.toNat_ofNat]; omega
  have e5 : fXLow2 (packG 44#7 pr (BitVec.ofNat 5 (8 + rm.toNat)) t1 t0) = rm := by
    apply BitVec.eq_of_toNat_eq; simp only [fXLow2, packG, BitVec.toNat_ofNat]; omega
  have ex : fX (packG 44#7 pr (BitVec.ofNat 5 (8 + rm.toNat)) t1 t0) ≠ 0#5 := by
    intro h; have h := congrArg BitVec.toNat h; simp only [fX, packG, BitVec.toNat_ofNat] at h; omega
  generalize packG 44#7 pr (BitVec.ofNat 5 (8 + rm.toNat)) t1 t0 = w at *
  rw [decode_op2C w e0]
  simp [decodeOp2C, e1, e2, e3, e4, e5, ex]

theorem fcvtDN (pr : BitVec 2) (rm : BitVec 2) (t1 : BitVec 9) (t0 : BitVec 9) :
    Statement (.fcvtDN pr rm t1 t0) := by
  intro _ _
  change decode (packG 44#7 pr (BitVec.ofNat 5 (12 + rm.toNat)) t1 t0) = _
  have h0 := pr.isLt; have h1 := rm.isLt; have h2 := t1.isLt; have h3 := t0.isLt
  have e0 : fOp (packG 44#7 pr (BitVec.ofNat 5 (12 + rm.toNat)) t1 t0) = 44#7 := by
    apply BitVec.eq_of_toNat_eq; simp only [fOp, packG, BitVec.toNat_ofNat]; omega
  have e1 : fPr (packG 44#7 pr (BitVec.ofNat 5 (12 + rm.toNat)) t1 t0) = pr := by
    apply BitVec.eq_of_toNat_eq; simp only [fPr, packG, BitVec.toNat_ofNat]; omega
  have e2 : fT1 (packG 44#7 pr (BitVec.ofNat 5 (12 + rm.toNat)) t1 t0) = t1 := by
    apply BitVec.eq_of_toNat_eq; simp only [fT1, packG, BitVec.toNat_ofNat]; omega
  have e3 : fT0 (packG 44#7 pr (BitVec.ofNat 5 (12 + rm.toNat)) t1 t0) = t0 := by
    apply BitVec.eq_of_toNat_eq; simp only [fT0, packG, BitVec.toNat_ofNat]; omega
  have e4 : fXHigh3 (packG 44#7 pr (BitVec.ofNat 5 (12 + rm.toNat)) t1 t0) = 3#3 := by
    apply BitVec.eq_of_toNat_eq; simp only [fXHigh3, packG, BitVec.toNat_ofNat]; omega
  have e5 : fXLow2 (packG 44#7 pr (BitVec.ofNat 5 (12 + rm.toNat)) t1 t0) = rm := by
    apply BitVec.eq_of_toNat_eq; simp only [fXLow2, packG, BitVec.toNat_ofNat]; omega
  have ex : fX (packG 44#7 pr (BitVec.ofNat 5 (12 + rm.toNat)) t1 t0) ≠ 0#5 := by
    intro h; have h := congrArg BitVec.toNat h; simp only [fX, packG, BitVec.toNat_ofNat] at h; omega
  generalize packG 44#7 pr (BitVec.ofNat 5 (12 + rm.toNat)) t1 t0 = w at *
  rw [decode_op2C w e0]
  simp [decodeOp2C, e1, e2, e3, e4, e5, ex]

theorem fcvtID (pr : BitVec 2) (rm : BitVec 2) (t1 : BitVec 9) (t0 : BitVec 9) :
    Statement (.fcvtID pr rm t1 t0) := by
  intro _ _
  change decode (packG 44#7 pr (BitVec.ofNat 5 (16 + rm.toNat)) t1 t0) = _
  have h0 := pr.isLt; have h1 := rm.isLt; have h2 := t1.isLt; have h3 := t0.isLt
  have e0 : fOp (packG 44#7 pr (BitVec.ofNat 5 (16 + rm.toNat)) t1 t0) = 44#7 := by
    apply BitVec.eq_of_toNat_eq; simp only [fOp, packG, BitVec.toNat_ofNat]; omega
  have e1 : fPr (packG 44#7 pr (BitVec.ofNat 5 (16 + rm.toNat)) t1 t0) = pr := by
    apply BitVec.eq_of_toNat_eq; simp only [fPr, packG, BitVec.toNat_ofNat]; omega
  have e2 : fT1 (packG 44#7 pr (BitVec.ofNat 5 (16 + rm.toNat)) t1 t0) = t1 := by
    apply BitVec.eq_of_toNat_eq; simp only [fT1, packG, BitVec.toNat_ofNat]; omega
  have e3 : fT0 (packG 44#7 pr (BitVec.ofNat 5 (16 + rm.toNat)) t1 t0) = t0 := by
    apply BitVec.eq_of_toNat_eq; simp only [fT0, packG, BitVec.toNat_ofNat]; omega
  have e4 : fXHigh3 (packG 44#7 pr (BitVec.ofNat 5 (16 + rm.toNat)) t1 t0) = 4#3 := by
    apply BitVec.eq_of_toNat_eq; simp only [fXHigh3, packG, BitVec.toNat_ofNat]; omega
  have e5 : fXLow2 (packG 44#7 pr (BitVec.ofNat 5 (16 + rm.toNat)) t1 t0) = rm := by
    apply BitVec.eq_of_toNat_eq; simp only [fXLow2, packG, BitVec.toNat_ofNat]; omega
  have ex : fX (packG 44#7 pr (BitVec.ofNat 5 (16 + rm.toNat)) t1 t0) ≠ 0#5 := by
    intro h; have h := congrArg BitVec.toNat h; simp only [fX, packG, BitVec.toNat_ofNat] at h; omega
  generalize packG 44#7 pr (BitVec.ofNat 5 (16 + rm.toNat)) t1 t0 = w at *
  rw [decode_op2C w e0]
  simp [decodeOp2C, e1, e2, e3, e4, e5, ex]

theorem fcvtND (pr : BitVec 2) (rm : BitVec 2) (t1 : BitVec 9) (t0 : BitVec 9) :
    Statement (.fcvtND pr rm t1 t0) := by
  intro _ _
  change decode (packG 44#7 pr (BitVec.ofNat 5 (20 + rm.toNat)) t1 t0) = _
  have h0 := pr.isLt; have h1 := rm.isLt; have h2 := t1.isLt; have h3 := t0.isLt
  have e0 : fOp (packG 44#7 pr (BitVec.ofNat 5 (20 + rm.toNat)) t1 t0) = 44#7 := by
    apply BitVec.eq_of_toNat_eq; simp only [fOp, packG, BitVec.toNat_ofNat]; omega
  have e1 : fPr (packG 44#7 pr (BitVec.ofNat 5 (20 + rm.toNat)) t1 t0) = pr := by
    apply BitVec.eq_of_toNat_eq; simp only [fPr, packG, BitVec.toNat_ofNat]; omega
  have e2 : fT1 (packG 44#7 pr (BitVec.ofNat 5 (20 + rm.toNat)) t1 t0) = t1 := by
    apply BitVec.eq_of_toNat_eq; simp only [fT1, packG, BitVec.toNat_ofNat]; omega
  have e3 : fT0 (packG 44#7 pr (BitVec.ofNat 5 (20 + rm.toNat)) t1 t0) = t0 := by
    apply BitVec.eq_of_toNat_eq; simp only [fT0, packG, BitVec.toNat_ofNat]; omega
  have e4 : fXHigh3 (packG 44#7 pr (BitVec.ofNat 5 (20 + rm.toNat)) t1 t0) = 5#3 := by
    apply BitVec.eq_of_toNat_eq; simp only [fXHigh3, packG, BitVec.toNat_ofNat]; omega
  have e5 : fXLow2 (packG 44#7 pr (BitVec.ofNat 5 (20 + rm.toNat)) t1 t0) = rm := by
    apply BitVec.eq_of_toNat_eq; simp only [fXLow2, packG, BitVec.toNat_ofNat]; omega
  have ex : fX (packG 44#7 pr (BitVec.ofNat 5 (20 + rm.toNat)) t1 t0) ≠ 0#5 := by
    intro h; have h := congrArg BitVec.toNat h; simp only [fX, packG, BitVec.toNat_ofNat] at h; omega
  generalize packG 44#7 pr (BitVec.ofNat 5 (20 + rm.toNat)) t1 t0 = w at *
  rw [decode_op2C w e0]
  simp [decodeOp2C, e1, e2, e3, e4, e5, ex]

theorem fcvtSI (pr : BitVec 2) (rm : BitVec 2) (t1 : BitVec 9) (t0 : BitVec 9) :
    Statement (.fcvtSI pr rm t1 t0) := by
  intro _ _
  change decode (packG 44#7 pr (BitVec.ofNat 5 (24 + rm.toNat)) t1 t0) = _
  have h0 := pr.isLt; have h1 := rm.isLt; have h2 := t1.isLt; have h3 := t0.isLt
  have e0 : fOp (packG 44#7 pr (BitVec.ofNat 5 (24 + rm.toNat)) t1 t0) = 44#7 := by
    apply BitVec.eq_of_toNat_eq; simp only [fOp, packG, BitVec.toNat_ofNat]; omega
  have e1 : fPr (packG 44#7 pr (BitVec.ofNat 5 (24 + rm.toNat)) t1 t0) = pr := by
    apply BitVec.eq_of_toNat_eq; simp only [fPr, packG, BitVec.toNat_ofNat]; omega
  have e2 : fT1 (packG 44#7 pr (BitVec.ofNat 5 (24 + rm.toNat)) t1 t0) = t1 := by
    apply BitVec.eq_of_toNat_eq; simp only [fT1, packG, BitVec.toNat_ofNat]; omega
  have e3 : fT0 (packG 44#7 pr (BitVec.ofNat 5 (24 + rm.toNat)) t1 t0) = t0 := by
    apply BitVec.eq_of_toNat_eq; simp only [fT0, packG, BitVec.toNat_ofNat]; omega
  have e4 : fXHigh3 (packG 44#7 pr (BitVec.ofNat 5 (24 + rm.toNat)) t1 t0) = 6#3 := by
    apply BitVec.eq_of_toNat_eq; simp only [fXHigh3, packG, BitVec.toNat_ofNat]; omega
  have e5 : fXLow2 (packG 44#7 pr (BitVec.ofNat 5 (24 + rm.toNat)) t1 t0) = rm := by
    apply BitVec.eq_of_toNat_eq; simp only [fXLow2, packG, BitVec.toNat_ofNat]; omega
  have ex : fX (packG 44#7 pr (BitVec.ofNat 5 (24 + rm.toNat)) t1 t0) ≠ 0#5 := by
    intro h; have h := congrArg BitVec.toNat h; simp only [fX, packG, BitVec.toNat_ofNat] at h; omega
  generalize packG 44#7 pr (BitVec.ofNat 5 (24 + rm.toNat)) t1 t0 = w at *
  rw [decode_op2C w e0]
  simp [decodeOp2C, e1, e2, e3, e4, e5, ex]

theorem fcvtIS (pr : BitVec 2) (rm : BitVec 2) (t1 : BitVec 9) (t0 : BitVec 9) :
    Statement (.fcvtIS pr rm t1 t0) := by
  intro _ _
  change decode (packG 44#7 pr (BitVec.ofNat 5 (28 + rm.toNat)) t1 t0) = _
  have h0 := pr.isLt; have h1 := rm.isLt; have h2 := t1.isLt; have h3 := t0.isLt
  have e0 : fOp (packG 44#7 pr (BitVec.ofNat 5 (28 + rm.toNat)) t1 t0) = 44#7 := by
    apply BitVec.eq_of_toNat_eq; simp only [fOp, packG, BitVec.toNat_ofNat]; omega
  have e1 : fPr (packG 44#7 pr (BitVec.ofNat 5 (28 + rm.toNat)) t1 t0) = pr := by
    apply BitVec.eq_of_toNat_eq; simp only [fPr, packG, BitVec.toNat_ofNat]; omega
  have e2 : fT1 (packG 44#7 pr (BitVec.ofNat 5 (28 + rm.toNat)) t1 t0) = t1 := by
    apply BitVec.eq_of_toNat_eq; simp only [fT1, packG, BitVec.toNat_ofNat]; omega
  have e3 : fT0 (packG 44#7 pr (BitVec.ofNat 5 (28 + rm.toNat)) t1 t0) = t0 := by
    apply BitVec.eq_of_toNat_eq; simp only [fT0, packG, BitVec.toNat_ofNat]; omega
  have e4 : fXHigh3 (packG 44#7 pr (BitVec.ofNat 5 (28 + rm.toNat)) t1 t0) = 7#3 := by
    apply BitVec.eq_of_toNat_eq; simp only [fXHigh3, packG, BitVec.toNat_ofNat]; omega
  have e5 : fXLow2 (packG 44#7 pr (BitVec.ofNat 5 (28 + rm.toNat)) t1 t0) = rm := by
    apply BitVec.eq_of_toNat_eq; simp only [fXLow2, packG, BitVec.toNat_ofNat]; omega
  have ex : fX (packG 44#7 pr (BitVec.ofNat 5 (28 + rm.toNat)) t1 t0) ≠ 0#5 := by
    intro h; have h := congrArg BitVec.toNat h; simp only [fX, packG, BitVec.toNat_ofNat] at h; omega
  generalize packG 44#7 pr (BitVec.ofNat 5 (28 + rm.toNat)) t1 t0 = w at *
  rw [decode_op2C w e0]
  simp [decodeOp2C, e1, e2, e3, e4, e5, ex]

theorem ld1 (pr : BitVec 2) (lsid : BitVec 5) (imm : BitVec 9) (t0 : BitVec 9) :
    Statement (.ld1 pr lsid imm t0) := by
  intro _ _
  change decode (packG 48#7 pr lsid imm t0) = _
  rw [decode_op30 _ (by simp)]
  simp [decodeOp30]

theorem ld1s (pr : BitVec 2) (lsid : BitVec 5) (imm : BitVec 9) (t0 : BitVec 9) :
    Statement (.ld1s pr lsid imm t0) := by
  intro _ _
  change decode (packG 49#7 pr lsid imm t0) = _
  rw [decode_op31 _ (by simp)]
  simp [decodeOp31]

theorem ld2 (pr : BitVec 2) (lsid : BitVec 5) (imm : BitVec 9) (t0 : BitVec 9) :
    Statement (.ld2 pr lsid imm t0) := by
  intro _ _
  change decode (packG 50#7 pr lsid imm t0) = _
  rw [decode_op32 _ (by simp)]
  simp [decodeOp32]

theorem ld2s (pr : BitVec 2) (lsid : BitVec 5) (imm : BitVec 9) (t0 : BitVec 9) :
    Statement (.ld2s pr lsid imm t0) := by
  intro _ _
  change decode (packG 51#7 pr lsid imm t0) = _
  rw [decode_op33 _ (by simp)]
  simp [decodeOp33]

theorem ld4 (pr : BitVec 2) (lsid : BitVec 5) (imm : BitVec 9) (t0 : BitVec 9) :
    Statement (.ld4 pr lsid imm t0) := by
  intro _ _
  change decode (packG 52#7 pr lsid imm t0) = _
  rw [decode_op34 _ (by simp)]
  simp [decodeOp34]

theorem ld4s (pr : BitVec 2) (lsid : BitVec 5) (imm : BitVec 9) (t0 : BitVec 9) :
    Statement (.ld4s pr lsid imm t0) := by
  intro _ _
  change decode (packG 53#7 pr lsid imm t0) = _
  rw [decode_op35 _ (by simp)]
  simp [decodeOp35]

theorem ld8 (pr : BitVec 2) (lsid : BitVec 5) (imm : BitVec 9) (t0 : BitVec 9) :
    Statement (.ld8 pr lsid imm t0) := by
  intro _ _
  change decode (packG 54#7 pr lsid imm t0) = _
  rw [decode_op36 _ (by simp)]
  simp [decodeOp36]

theorem tstfe (pr : BitVec 2) (lsid : BitVec 5) (imm : BitVec 9) (t0 : BitVec 9) :
    Statement (.tstfe pr lsid imm t0) := by
  intro _ _
  change decode (packG 55#7 pr lsid imm t0) = _
  rw [decode_op37 _ (by simp)]
  simp [decodeOp37]

theorem ldw1 (pr : BitVec 2) (lsid : BitVec 5) (imm : BitVec 9) (t0 : BitVec 9) :
    Statement (.ldw1 pr lsid imm t0) := by
  intro _ _
  change decode (packG 56#7 pr lsid imm t0) = _
  rw [decode_op38 _ (by simp)]
  simp [decodeOp38]

theorem ldw2 (pr : BitVec 2) (lsid : BitVec 5) (imm : BitVec 9) (t0 : BitVec 9) :
    Statement (.ldw2 pr lsid imm t0) := by
  intro _ _
  change decode (packG 57#7 pr lsid imm t0) = _
  rw [decode_op39 _ (by simp)]
  simp [decodeOp39]

theorem ldw4 (pr : BitVec 2) (lsid : BitVec 5) (imm : BitVec 9) (t0 : BitVec 9) :
    Statement (.ldw4 pr lsid imm t0) := by
  intro _ _
  change decode (packG 58#7 pr lsid imm t0) = _
  rw [decode_op3A _ (by simp)]
  simp [decodeOp3A]

theorem ldw8 (pr : BitVec 2) (lsid : BitVec 5) (imm : BitVec 9) (t0 : BitVec 9) :
    Statement (.ldw8 pr lsid imm t0) := by
  intro _ _
  change decode (packG 59#7 pr lsid imm t0) = _
  rw [decode_op3B _ (by simp)]
  simp [decodeOp3B]

theorem ldc1 (pr : BitVec 2) (lsid : BitVec 5) (imm : BitVec 9) (t0 : BitVec 9) :
    Statement (.ldc1 pr lsid imm t0) := by
  intro _ _
  change decode (packG 60#7 pr lsid imm t0) = _
  rw [decode_op3C _ (by simp)]
  simp [decodeOp3C]

theorem ldc2 (pr : BitVec 2) (lsid : BitVec 5) (imm : BitVec 9) (t0 : BitVec 9) :
    Statement (.ldc2 pr lsid imm t0) := by
  intro _ _
  change decode (packG 61#7 pr lsid imm t0) = _
  rw [decode_op3D _ (by simp)]
  simp [decodeOp3D]

theorem ldc4 (pr : BitVec 2) (lsid : BitVec 5) (imm : BitVec 9) (t0 : BitVec 9) :
    Statement (.ldc4 pr lsid imm t0) := by
  intro _ _
  change decode (packG 62#7 pr lsid imm t0) = _
  rw [decode_op3E _ (by simp)]
  simp [decodeOp3E]

theorem ldc8 (pr : BitVec 2) (lsid : BitVec 5) (imm : BitVec 9) (t0 : BitVec 9) :
    Statement (.ldc8 pr lsid imm t0) := by
  intro _ _
  change decode (packG 63#7 pr lsid imm t0) = _
  rw [decode_op3F _ (by simp)]
  simp [decodeOp3F]

theorem st1 (pr : BitVec 2) (lsid : BitVec 5) (imm : BitVec 18) :
    Statement (.st1 pr lsid imm) := by
  intro _ _
  change decode (packS 64#7 pr lsid imm) = _
  rw [decode_op40 _ (by simp)]
  simp [decodeOp40]

theorem st2 (pr : BitVec 2) (lsid : BitVec 5) (imm : BitVec 18) :
    Statement (.st2 pr lsid imm) := by
  intro _ _
  change decode (packS 65#7 pr lsid imm) = _
  rw [decode_op41 _ (by simp)]
  simp [decodeOp41]

theorem st4 (pr : BitVec 2) (lsid : BitVec 5) (imm : BitVec 18) :
    Statement (.st4 pr lsid imm) := by
  intro _ _
  change decode (packS 66#7 pr lsid imm) = _
  rw [decode_op42 _ (by simp)]
  simp [decodeOp42]

theorem st8 (pr : BitVec 2) (lsid : BitVec 5) (imm : BitVec 18) :
    Statement (.st8 pr lsid imm) := by
  intro _ _
  change decode (packS 67#7 pr lsid imm) = _
  rw [decode_op43 _ (by simp)]
  simp [decodeOp43]

theorem stf1 (pr : BitVec 2) (lsid : BitVec 5) (imm : BitVec 18) :
    Statement (.stf1 pr lsid imm) := by
  intro _ _
  change decode (packS 68#7 pr lsid imm) = _
  rw [decode_op44 _ (by simp)]
  simp [decodeOp44]

theorem stf2 (pr : BitVec 2) (lsid : BitVec 5) (imm : BitVec 18) :
    Statement (.stf2 pr lsid imm) := by
  intro _ _
  change decode (packS 69#7 pr lsid imm) = _
  rw [decode_op45 _ (by simp)]
  simp [decodeOp45]

theorem stf4 (pr : BitVec 2) (lsid : BitVec 5) (imm : BitVec 18) :
    Statement (.stf4 pr lsid imm) := by
  intro _ _
  change decode (packS 70#7 pr lsid imm) = _
  rw [decode_op46 _ (by simp)]
  simp [decodeOp46]

theorem stf8 (pr : BitVec 2) (lsid : BitVec 5) (imm : BitVec 18) :
    Statement (.stf8 pr lsid imm) := by
  intro _ _
  change decode (packS 71#7 pr lsid imm) = _
  rw [decode_op47 _ (by simp)]
  simp [decodeOp47]

theorem ste1 (pr : BitVec 2) (lsid : BitVec 5) (imm : BitVec 18) :
    Statement (.ste1 pr lsid imm) := by
  intro _ _
  change decode (packS 72#7 pr lsid imm) = _
  rw [decode_op48 _ (by simp)]
  simp [decodeOp48]

theorem ste2 (pr : BitVec 2) (lsid : BitVec 5) (imm : BitVec 18) :
    Statement (.ste2 pr lsid imm) := by
  intro _ _
  change decode (packS 73#7 pr lsid imm) = _
  rw [decode_op49 _ (by simp)]
  simp [decodeOp49]

theorem ste4 (pr : BitVec 2) (lsid : BitVec 5) (imm : BitVec 18) :
    Statement (.ste4 pr lsid imm) := by
  intro _ _
  change decode (packS 74#7 pr lsid imm) = _
  rw [decode_op4A _ (by simp)]
  simp [decodeOp4A]

theorem ste8 (pr : BitVec 2) (lsid : BitVec 5) (imm : BitVec 18) :
    Statement (.ste8 pr lsid imm) := by
  intro _ _
  change decode (packS 75#7 pr lsid imm) = _
  rw [decode_op4B _ (by simp)]
  simp [decodeOp4B]

theorem amo (pr : BitVec 2) (lsid : BitVec 5) (aop : BitVec 5) (wid : BitVec 1) (t0 : BitVec 9) :
    Statement (.amo pr lsid aop wid t0) := by
  intro _ _
  change decode (packG 76#7 pr lsid (BitVec.ofNat 9 (aop.toNat * 2 ^ 4 + wid.toNat * 2 ^ 3)) t0) = _
  have h0 := pr.isLt; have h1 := lsid.isLt; have h2 := aop.isLt; have h3 := wid.isLt; have h4 := t0.isLt
  have e0 : fOp (packG 76#7 pr lsid (BitVec.ofNat 9 (aop.toNat * 2 ^ 4 + wid.toNat * 2 ^ 3)) t0) = 76#7 := by
    apply BitVec.eq_of_toNat_eq; simp only [fOp, packG, BitVec.toNat_ofNat]; omega
  have e1 : fAmoZ (packG 76#7 pr lsid (BitVec.ofNat 9 (aop.toNat * 2 ^ 4 + wid.toNat * 2 ^ 3)) t0) = 0#3 := by
    apply BitVec.eq_of_toNat_eq; simp only [fAmoZ, packG, BitVec.toNat_ofNat]; omega
  have e2 : fPr (packG 76#7 pr lsid (BitVec.ofNat 9 (aop.toNat * 2 ^ 4 + wid.toNat * 2 ^ 3)) t0) = pr := by
    apply BitVec.eq_of_toNat_eq; simp only [fPr, packG, BitVec.toNat_ofNat]; omega
  have e3 : fX (packG 76#7 pr lsid (BitVec.ofNat 9 (aop.toNat * 2 ^ 4 + wid.toNat * 2 ^ 3)) t0) = lsid := by
    apply BitVec.eq_of_toNat_eq; simp only [fX, packG, BitVec.toNat_ofNat]; omega
  have e4 : fWd (packG 76#7 pr lsid (BitVec.ofNat 9 (aop.toNat * 2 ^ 4 + wid.toNat * 2 ^ 3)) t0) = aop := by
    apply BitVec.eq_of_toNat_eq; simp only [fWd, packG, BitVec.toNat_ofNat]; omega
  have e5 : fW (packG 76#7 pr lsid (BitVec.ofNat 9 (aop.toNat * 2 ^ 4 + wid.toNat * 2 ^ 3)) t0) = wid := by
    apply BitVec.eq_of_toNat_eq; simp only [fW, packG, BitVec.toNat_ofNat]; omega
  have e6 : fT0 (packG 76#7 pr lsid (BitVec.ofNat 9 (aop.toNat * 2 ^ 4 + wid.toNat * 2 ^ 3)) t0) = t0 := by
    apply BitVec.eq_of_toNat_eq; simp only [fT0, packG, BitVec.toNat_ofNat]; omega
  generalize packG 76#7 pr lsid (BitVec.ofNat 9 (aop.toNat * 2 ^ 4 + wid.toNat * 2 ^ 3)) t0 = w at *
  rw [decode_op4C w e0]
  simp [decodeOp4C, e1, e2, e3, e4, e5, e6]

theorem cas (lsid : BitVec 5) (wid : BitVec 1) (t0 : BitVec 9) :
    Statement (.cas lsid wid t0) := by
  intro _ _
  change decode (packG 77#7 0#2 lsid (BitVec.ofNat 9 (wid.toNat * 2 ^ 3)) t0) = _
  have h0 := lsid.isLt; have h1 := wid.isLt; have h2 := t0.isLt
  have e0 : fOp (packG 77#7 0#2 lsid (BitVec.ofNat 9 (wid.toNat * 2 ^ 3)) t0) = 77#7 := by
    apply BitVec.eq_of_toNat_eq; simp only [fOp, packG, BitVec.toNat_ofNat]; omega
  have e1 : fPr (packG 77#7 0#2 lsid (BitVec.ofNat 9 (wid.toNat * 2 ^ 3)) t0) = 0#2 := by
    apply BitVec.eq_of_toNat_eq; simp only [fPr, packG, BitVec.toNat_ofNat]; omega
  have e2 : fWd (packG 77#7 0#2 lsid (BitVec.ofNat 9 (wid.toNat * 2 ^ 3)) t0) = 0#5 := by
    apply BitVec.eq_of_toNat_eq; simp only [fWd, packG, BitVec.toNat_ofNat]; omega
  have e3 : fAmoZ (packG 77#7 0#2 lsid (BitVec.ofNat 9 (wid.toNat * 2 ^ 3)) t0) = 0#3 := by
    apply BitVec.eq_of_toNat_eq; simp only [fAmoZ, packG, BitVec.toNat_ofNat]; omega
  have e4 : fX (packG 77#7 0#2 lsid (BitVec.ofNat 9 (wid.toNat * 2 ^ 3)) t0) = lsid := by
    apply BitVec.eq_of_toNat_eq; simp only [fX, packG, BitVec.toNat_ofNat]; omega
  have e5 : fW (packG 77#7 0#2 lsid (BitVec.ofNat 9 (wid.toNat * 2 ^ 3)) t0) = wid := by
    apply BitVec.eq_of_toNat_eq; simp only [fW, packG, BitVec.toNat_ofNat]; omega
  have e6 : fT0 (packG 77#7 0#2 lsid (BitVec.ofNat 9 (wid.toNat * 2 ^ 3)) t0) = t0 := by
    apply BitVec.eq_of_toNat_eq; simp only [fT0, packG, BitVec.toNat_ofNat]; omega
  generalize packG 77#7 0#2 lsid (BitVec.ofNat 9 (wid.toNat * 2 ^ 3)) t0 = w at *
  rw [decode_op4D w e0]
  simp [decodeOp4D, e1, e2, e3, e4, e5, e6]

theorem red (pr : BitVec 2) (lsid : BitVec 5) (aop : BitVec 5) (wid : BitVec 1) :
    Statement (.red pr lsid aop wid) := by
  intro _ _
  change decode (packS 78#7 pr lsid (BitVec.ofNat 18 (aop.toNat * 2 ^ 13 + wid.toNat * 2 ^ 12))) = _
  have h0 := pr.isLt; have h1 := lsid.isLt; have h2 := aop.isLt; have h3 := wid.isLt
  have e0 : fOp (packS 78#7 pr lsid (BitVec.ofNat 18 (aop.toNat * 2 ^ 13 + wid.toNat * 2 ^ 12))) = 78#7 := by
    apply BitVec.eq_of_toNat_eq; simp only [fOp, packS, BitVec.toNat_ofNat]; omega
  have e1 : fT0 (packS 78#7 pr lsid (BitVec.ofNat 18 (aop.toNat * 2 ^ 13 + wid.toNat * 2 ^ 12))) = 0#9 := by
    apply BitVec.eq_of_toNat_eq; simp only [fT0, packS, BitVec.toNat_ofNat]; omega
  have e2 : fAmoZ (packS 78#7 pr lsid (BitVec.ofNat 18 (aop.toNat * 2 ^ 13 + wid.toNat * 2 ^ 12))) = 0#3 := by
    apply BitVec.eq_of_toNat_eq; simp only [fAmoZ, packS, BitVec.toNat_ofNat]; omega
  have e3 : fPr (packS 78#7 pr lsid (BitVec.ofNat 18 (aop.toNat * 2 ^ 13 + wid.toNat * 2 ^ 12))) = pr := by
    apply BitVec.eq_of_toNat_eq; simp only [fPr, packS, BitVec.toNat_ofNat]; omega
  have e4 : fX (packS 78#7 pr lsid (BitVec.ofNat 18 (aop.toNat * 2 ^ 13 + wid.toNat * 2 ^ 12))) = lsid := by
    apply BitVec.eq_of_toNat_eq; simp only [fX, packS, BitVec.toNat_ofNat]; omega
  have e5 : fWd (packS 78#7 pr lsid (BitVec.ofNat 18 (aop.toNat * 2 ^ 13 + wid.toNat * 2 ^ 12))) = aop := by
    apply BitVec.eq_of_toNat_eq; simp only [fWd, packS, BitVec.toNat_ofNat]; omega
  have e6 : fW (packS 78#7 pr lsid (BitVec.ofNat 18 (aop.toNat * 2 ^ 13 + wid.toNat * 2 ^ 12))) = wid := by
    apply BitVec.eq_of_toNat_eq; simp only [fW, packS, BitVec.toNat_ofNat]; omega
  generalize packS 78#7 pr lsid (BitVec.ofNat 18 (aop.toNat * 2 ^ 13 + wid.toNat * 2 ^ 12)) = w at *
  rw [decode_op4E w e0]
  simp [decodeOp4E, e1, e2, e3, e4, e5, e6]

theorem fence (pr : BitVec 2) (scope : BitVec 3) :
    Statement (.fence pr scope) := by
  intro _ _
  change decode (packG 79#7 pr (BitVec.ofNat 5 (scope.toNat)) 511#9 511#9) = _
  have h0 := pr.isLt; have h1 := scope.isLt
  have e0 : fOp (packG 79#7 pr (BitVec.ofNat 5 (scope.toNat)) 511#9 511#9) = 79#7 := by
    apply BitVec.eq_of_toNat_eq; simp only [fOp, packG, BitVec.toNat_ofNat]; omega
  have e1 : fT1 (packG 79#7 pr (BitVec.ofNat 5 (scope.toNat)) 511#9 511#9) = 511#9 := by
    apply BitVec.eq_of_toNat_eq; simp only [fT1, packG, BitVec.toNat_ofNat]; omega
  have e2 : fT0 (packG 79#7 pr (BitVec.ofNat 5 (scope.toNat)) 511#9 511#9) = 511#9 := by
    apply BitVec.eq_of_toNat_eq; simp only [fT0, packG, BitVec.toNat_ofNat]; omega
  have e3 : fHi2 (packG 79#7 pr (BitVec.ofNat 5 (scope.toNat)) 511#9 511#9) = 0#2 := by
    apply BitVec.eq_of_toNat_eq; simp only [fHi2, packG, BitVec.toNat_ofNat]; omega
  have e4 : fPr (packG 79#7 pr (BitVec.ofNat 5 (scope.toNat)) 511#9 511#9) = pr := by
    apply BitVec.eq_of_toNat_eq; simp only [fPr, packG, BitVec.toNat_ofNat]; omega
  have e5 : fXLow3 (packG 79#7 pr (BitVec.ofNat 5 (scope.toNat)) 511#9 511#9) = scope := by
    apply BitVec.eq_of_toNat_eq; simp only [fXLow3, packG, BitVec.toNat_ofNat]; omega
  generalize packG 79#7 pr (BitVec.ofNat 5 (scope.toNat)) 511#9 511#9 = w at *
  rw [decode_op4F w e0]
  simp [decodeOp4F, e1, e2, e3, e4, e5]

theorem qpush (pr : BitVec 2) (lim : BitVec 5) :
    Statement (.qpush pr lim) := by
  intro _ _
  change decode (packG 80#7 pr lim 511#9 511#9) = _
  rw [decode_op50 _ (by simp)]
  simp [decodeOp50]

theorem qpop (pr : BitVec 2) (lim : BitVec 5) (t1 : BitVec 9) (t0 : BitVec 9) :
    Statement (.qpop pr lim t1 t0) := by
  intro _ _
  change decode (packG 81#7 pr lim t1 t0) = _
  rw [decode_op51 _ (by simp)]
  simp [decodeOp51]

theorem qpeek (pr : BitVec 2) (t1 : BitVec 9) (t0 : BitVec 9) :
    Statement (.qpeek pr t1 t0) := by
  intro _ _
  change decode (packG 82#7 pr 0#5 t1 t0) = _
  rw [decode_op52 _ (by simp)]
  simp [decodeOp52]

theorem qstat (pr : BitVec 2) (t1 : BitVec 9) (t0 : BitVec 9) :
    Statement (.qstat pr t1 t0) := by
  intro _ _
  change decode (packG 83#7 pr 0#5 t1 t0) = _
  rw [decode_op53 _ (by simp)]
  simp [decodeOp53]

theorem qcfg (pr : BitVec 2) (t1 : BitVec 9) (t0 : BitVec 9) :
    Statement (.qcfg pr t1 t0) := by
  intro _ _
  change decode (packG 84#7 pr 0#5 t1 t0) = _
  rw [decode_op54 _ (by simp)]
  simp [decodeOp54]

theorem cqpop (pr : BitVec 2) (lim : BitVec 5) (t1 : BitVec 9) (t0 : BitVec 9) :
    Statement (.cqpop pr lim t1 t0) := by
  intro _ _
  change decode (packG 85#7 pr lim t1 t0) = _
  rw [decode_op55 _ (by simp)]
  simp [decodeOp55]

theorem cqpush (pr : BitVec 2) (lim : BitVec 5) :
    Statement (.cqpush pr lim) := by
  intro _ _
  change decode (packG 86#7 pr lim 511#9 511#9) = _
  rw [decode_op56 _ (by simp)]
  simp [decodeOp56]

theorem wait (pr : BitVec 2) (full : BitVec 1) (lim : BitVec 5) (t0 : BitVec 9) :
    Statement (.wait pr full lim t0) := by
  intro _ _
  change decode (packI 87#7 pr (BitVec.ofNat 14 (full.toNat * 2 ^ 5 + lim.toNat)) t0) = _
  have h0 := pr.isLt; have h1 := full.isLt; have h2 := lim.isLt; have h3 := t0.isLt
  have e0 : fOp (packI 87#7 pr (BitVec.ofNat 14 (full.toNat * 2 ^ 5 + lim.toNat)) t0) = 87#7 := by
    apply BitVec.eq_of_toNat_eq; simp only [fOp, packI, BitVec.toNat_ofNat]; omega
  have e1 : fCntHi (packI 87#7 pr (BitVec.ofNat 14 (full.toNat * 2 ^ 5 + lim.toNat)) t0) = 0#8 := by
    apply BitVec.eq_of_toNat_eq; simp only [fCntHi, packI, BitVec.toNat_ofNat]; omega
  have e2 : fPr (packI 87#7 pr (BitVec.ofNat 14 (full.toNat * 2 ^ 5 + lim.toNat)) t0) = pr := by
    apply BitVec.eq_of_toNat_eq; simp only [fPr, packI, BitVec.toNat_ofNat]; omega
  have e3 : fB14 (packI 87#7 pr (BitVec.ofNat 14 (full.toNat * 2 ^ 5 + lim.toNat)) t0) = full := by
    apply BitVec.eq_of_toNat_eq; simp only [fB14, packI, BitVec.toNat_ofNat]; omega
  have e4 : fLimI (packI 87#7 pr (BitVec.ofNat 14 (full.toNat * 2 ^ 5 + lim.toNat)) t0) = lim := by
    apply BitVec.eq_of_toNat_eq; simp only [fLimI, packI, BitVec.toNat_ofNat]; omega
  have e5 : fT0 (packI 87#7 pr (BitVec.ofNat 14 (full.toNat * 2 ^ 5 + lim.toNat)) t0) = t0 := by
    apply BitVec.eq_of_toNat_eq; simp only [fT0, packI, BitVec.toNat_ofNat]; omega
  generalize packI 87#7 pr (BitVec.ofNat 14 (full.toNat * 2 ^ 5 + lim.toNat)) t0 = w at *
  rw [decode_op57 w e0]
  simp [decodeOp57, e1, e2, e3, e4, e5]

theorem mfs (pr : BitVec 2) (id : BitVec 12) (t0 : BitVec 9) :
    Statement (.mfs pr id t0) := by
  intro _ _
  change decode (packI 88#7 pr (BitVec.ofNat 14 (id.toNat)) t0) = _
  have h0 := pr.isLt; have h1 := id.isLt; have h2 := t0.isLt
  have e0 : fOp (packI 88#7 pr (BitVec.ofNat 14 (id.toNat)) t0) = 88#7 := by
    apply BitVec.eq_of_toNat_eq; simp only [fOp, packI, BitVec.toNat_ofNat]; omega
  have e1 : fHi2 (packI 88#7 pr (BitVec.ofNat 14 (id.toNat)) t0) = 0#2 := by
    apply BitVec.eq_of_toNat_eq; simp only [fHi2, packI, BitVec.toNat_ofNat]; omega
  have e2 : fPr (packI 88#7 pr (BitVec.ofNat 14 (id.toNat)) t0) = pr := by
    apply BitVec.eq_of_toNat_eq; simp only [fPr, packI, BitVec.toNat_ofNat]; omega
  have e3 : fId (packI 88#7 pr (BitVec.ofNat 14 (id.toNat)) t0) = id := by
    apply BitVec.eq_of_toNat_eq; simp only [fId, packI, BitVec.toNat_ofNat]; omega
  have e4 : fT0 (packI 88#7 pr (BitVec.ofNat 14 (id.toNat)) t0) = t0 := by
    apply BitVec.eq_of_toNat_eq; simp only [fT0, packI, BitVec.toNat_ofNat]; omega
  generalize packI 88#7 pr (BitVec.ofNat 14 (id.toNat)) t0 = w at *
  rw [decode_op58 w e0]
  simp [decodeOp58, e1, e2, e3, e4]

theorem mts (pr : BitVec 2) (id : BitVec 12) :
    Statement (.mts pr id) := by
  intro _ _
  change decode (packI 89#7 pr (BitVec.ofNat 14 (id.toNat)) 511#9) = _
  have h0 := pr.isLt; have h1 := id.isLt
  have e0 : fOp (packI 89#7 pr (BitVec.ofNat 14 (id.toNat)) 511#9) = 89#7 := by
    apply BitVec.eq_of_toNat_eq; simp only [fOp, packI, BitVec.toNat_ofNat]; omega
  have e1 : fHi2 (packI 89#7 pr (BitVec.ofNat 14 (id.toNat)) 511#9) = 0#2 := by
    apply BitVec.eq_of_toNat_eq; simp only [fHi2, packI, BitVec.toNat_ofNat]; omega
  have e2 : fT0 (packI 89#7 pr (BitVec.ofNat 14 (id.toNat)) 511#9) = 511#9 := by
    apply BitVec.eq_of_toNat_eq; simp only [fT0, packI, BitVec.toNat_ofNat]; omega
  have e3 : fPr (packI 89#7 pr (BitVec.ofNat 14 (id.toNat)) 511#9) = pr := by
    apply BitVec.eq_of_toNat_eq; simp only [fPr, packI, BitVec.toNat_ofNat]; omega
  have e4 : fId (packI 89#7 pr (BitVec.ofNat 14 (id.toNat)) 511#9) = id := by
    apply BitVec.eq_of_toNat_eq; simp only [fId, packI, BitVec.toNat_ofNat]; omega
  generalize packI 89#7 pr (BitVec.ofNat 14 (id.toNat)) 511#9 = w at *
  rw [decode_op59 w e0]
  simp [decodeOp59, e1, e2, e3, e4]

theorem trap (pr : BitVec 2) (code : BitVec 14) :
    Statement (.trap pr code) := by
  intro _ _
  change decode (packI 90#7 pr code 511#9) = _
  rw [decode_op5A _ (by simp)]
  simp [decodeOp5A]

theorem eret (pr : BitVec 2) :
    Statement (.eret pr) := by
  intro _ _
  change decode (packG 91#7 pr 0#5 511#9 511#9) = _
  rw [decode_op5B _ (by simp)]
  simp [decodeOp5B]

theorem halt (pr : BitVec 2) :
    Statement (.halt pr) := by
  intro _ _
  change decode (packG 92#7 pr 0#5 511#9 511#9) = _
  rw [decode_op5C _ (by simp)]
  simp [decodeOp5C]

theorem pause (pr : BitVec 2) (units : BitVec 14) (t0 : BitVec 9) :
    Statement (.pause pr units t0) := by
  intro _ _
  change decode (packI 93#7 pr units t0) = _
  rw [decode_op5D _ (by simp)]
  simp [decodeOp5D]

theorem rseed (pr : BitVec 2) (t1 : BitVec 9) (t0 : BitVec 9) :
    Statement (.rseed pr t1 t0) := by
  intro _ _
  change decode (packG 94#7 pr 0#5 t1 t0) = _
  rw [decode_op5E _ (by simp)]
  simp [decodeOp5E]

theorem rnext (pr : BitVec 2) (t1 : BitVec 9) (t0 : BitVec 9) :
    Statement (.rnext pr t1 t0) := by
  intro _ _
  change decode (packG 95#7 pr 0#5 t1 t0) = _
  rw [decode_op5F _ (by simp)]
  simp [decodeOp5F]

theorem spawnc (pr : BitVec 2) (t1 : BitVec 9) (t0 : BitVec 9) :
    Statement (.spawnc pr t1 t0) := by
  intro _ _
  change decode (packG 96#7 pr 0#5 t1 t0) = _
  rw [decode_op60 _ (by simp)]
  simp [decodeOp60]

theorem cfgld (pr : BitVec 2) (t1 : BitVec 9) (t0 : BitVec 9) :
    Statement (.cfgld pr t1 t0) := by
  intro _ _
  change decode (packG 97#7 pr 0#5 t1 t0) = _
  rw [decode_op61 _ (by simp)]
  simp [decodeOp61]

theorem cfgstrm (pr : BitVec 2) (t1 : BitVec 9) (t0 : BitVec 9) :
    Statement (.cfgstrm pr t1 t0) := by
  intro _ _
  change decode (packG 98#7 pr 0#5 t1 t0) = _
  rw [decode_op62 _ (by simp)]
  simp [decodeOp62]

theorem cfgsw (pr : BitVec 2) (t1 : BitVec 9) (t0 : BitVec 9) :
    Statement (.cfgsw pr t1 t0) := by
  intro _ _
  change decode (packG 99#7 pr 0#5 t1 t0) = _
  rw [decode_op63 _ (by simp)]
  simp [decodeOp63]

theorem cfgabort (pr : BitVec 2) (t1 : BitVec 9) (t0 : BitVec 9) :
    Statement (.cfgabort pr t1 t0) := by
  intro _ _
  change decode (packG 100#7 pr 0#5 t1 t0) = _
  rw [decode_op64 _ (by simp)]
  simp [decodeOp64]

theorem arm (pr : BitVec 2) (t1 : BitVec 9) (t0 : BitVec 9) :
    Statement (.arm pr t1 t0) := by
  intro _ _
  change decode (packG 101#7 pr 0#5 t1 t0) = _
  rw [decode_op65 _ (by simp)]
  simp [decodeOp65]

theorem drain (pr : BitVec 2) (t1 : BitVec 9) (t0 : BitVec 9) :
    Statement (.drain pr t1 t0) := by
  intro _ _
  change decode (packG 102#7 pr 0#5 t1 t0) = _
  rw [decode_op66 _ (by simp)]
  simp [decodeOp66]

theorem inject (pr : BitVec 2) :
    Statement (.inject pr) := by
  intro _ _
  change decode (packG 103#7 pr 0#5 511#9 511#9) = _
  rw [decode_op67 _ (by simp)]
  simp [decodeOp67]

theorem sinkrd (pr : BitVec 2) (t1 : BitVec 9) (t0 : BitVec 9) :
    Statement (.sinkrd pr t1 t0) := by
  intro _ _
  change decode (packG 104#7 pr 0#5 t1 t0) = _
  rw [decode_op68 _ (by simp)]
  simp [decodeOp68]

theorem kwait (pr : BitVec 2) (lim : BitVec 5) (t1 : BitVec 9) (t0 : BitVec 9) :
    Statement (.kwait pr lim t1 t0) := by
  intro _ _
  change decode (packG 105#7 pr lim t1 t0) = _
  rw [decode_op69 _ (by simp)]
  simp [decodeOp69]

theorem cpy (pr : BitVec 2) (mode : BitVec 2) :
    Statement (.cpy pr mode) := by
  intro _ _
  change decode (packG 106#7 pr (BitVec.ofNat 5 (mode.toNat)) 511#9 511#9) = _
  have h0 := pr.isLt; have h1 := mode.isLt
  have e0 : fOp (packG 106#7 pr (BitVec.ofNat 5 (mode.toNat)) 511#9 511#9) = 106#7 := by
    apply BitVec.eq_of_toNat_eq; simp only [fOp, packG, BitVec.toNat_ofNat]; omega
  have e1 : fT1 (packG 106#7 pr (BitVec.ofNat 5 (mode.toNat)) 511#9 511#9) = 511#9 := by
    apply BitVec.eq_of_toNat_eq; simp only [fT1, packG, BitVec.toNat_ofNat]; omega
  have e2 : fT0 (packG 106#7 pr (BitVec.ofNat 5 (mode.toNat)) 511#9 511#9) = 511#9 := by
    apply BitVec.eq_of_toNat_eq; simp only [fT0, packG, BitVec.toNat_ofNat]; omega
  have e3 : fXHigh3 (packG 106#7 pr (BitVec.ofNat 5 (mode.toNat)) 511#9 511#9) = 0#3 := by
    apply BitVec.eq_of_toNat_eq; simp only [fXHigh3, packG, BitVec.toNat_ofNat]; omega
  have e4 : fPr (packG 106#7 pr (BitVec.ofNat 5 (mode.toNat)) 511#9 511#9) = pr := by
    apply BitVec.eq_of_toNat_eq; simp only [fPr, packG, BitVec.toNat_ofNat]; omega
  have e5 : fXLow2 (packG 106#7 pr (BitVec.ofNat 5 (mode.toNat)) 511#9 511#9) = mode := by
    apply BitVec.eq_of_toNat_eq; simp only [fXLow2, packG, BitVec.toNat_ofNat]; omega
  generalize packG 106#7 pr (BitVec.ofNat 5 (mode.toNat)) 511#9 511#9 = w at *
  rw [decode_op6A w e0]
  simp [decodeOp6A, e1, e2, e3, e4, e5]

theorem cpyfeOut (pr : BitVec 2) :
    Statement (.cpyfeOut pr) := by
  intro _ _
  change decode (packG 107#7 pr 0#5 511#9 511#9) = _
  rw [decode_op6B _ (by simp)]
  simp [decodeOp6B]

theorem cpyfeIn (pr : BitVec 2) :
    Statement (.cpyfeIn pr) := by
  intro _ _
  change decode (packG 107#7 pr 1#5 511#9 511#9) = _
  rw [decode_op6B _ (by simp)]
  simp [decodeOp6B]

theorem impose (pr : BitVec 2) :
    Statement (.impose pr) := by
  intro _ _
  change decode (packG 108#7 pr 0#5 511#9 511#9) = _
  rw [decode_op6C _ (by simp)]
  simp [decodeOp6C]

theorem imprel (pr : BitVec 2) :
    Statement (.imprel pr) := by
  intro _ _
  change decode (packG 109#7 pr 0#5 511#9 511#9) = _
  rw [decode_op6D _ (by simp)]
  simp [decodeOp6D]

theorem allocT (pr : BitVec 2) (t1 : BitVec 9) (t0 : BitVec 9) :
    Statement (.allocT pr t1 t0) := by
  intro _ _
  change decode (packG 110#7 pr 0#5 t1 t0) = _
  rw [decode_op6E _ (by simp)]
  simp [decodeOp6E]

theorem allocN (pr : BitVec 2) (t1 : BitVec 9) (t0 : BitVec 9) :
    Statement (.allocN pr t1 t0) := by
  intro _ _
  change decode (packG 110#7 pr 1#5 t1 t0) = _
  rw [decode_op6E _ (by simp)]
  simp [decodeOp6E]

theorem free (pr : BitVec 2) :
    Statement (.free pr) := by
  intro _ _
  change decode (packG 111#7 pr 0#5 511#9 511#9) = _
  rw [decode_op6F _ (by simp)]
  simp [decodeOp6F]

theorem poolgrow (pr : BitVec 2) :
    Statement (.poolgrow pr) := by
  intro _ _
  change decode (packG 112#7 pr 0#5 511#9 511#9) = _
  rw [decode_op70 _ (by simp)]
  simp [decodeOp70]

theorem cwprobe (pr : BitVec 2) (t1 : BitVec 9) (t0 : BitVec 9) :
    Statement (.cwprobe pr t1 t0) := by
  intro _ _
  change decode (packG 113#7 pr 0#5 t1 t0) = _
  rw [decode_op71 _ (by simp)]
  simp [decodeOp71]

theorem cwstore (pr : BitVec 2) :
    Statement (.cwstore pr) := by
  intro _ _
  change decode (packG 114#7 pr 0#5 511#9 511#9) = _
  rw [decode_op72 _ (by simp)]
  simp [decodeOp72]

theorem cwinv (pr : BitVec 2) :
    Statement (.cwinv pr) := by
  intro _ _
  change decode (packG 115#7 pr 0#5 511#9 511#9) = _
  rw [decode_op73 _ (by simp)]
  simp [decodeOp73]

theorem dgst (pr : BitVec 2) :
    Statement (.dgst pr) := by
  intro _ _
  change decode (packG 116#7 pr 0#5 511#9 511#9) = _
  rw [decode_op74 _ (by simp)]
  simp [decodeOp74]

theorem wcfg (pr : BitVec 2) :
    Statement (.wcfg pr) := by
  intro _ _
  change decode (packG 120#7 pr 0#5 511#9 511#9) = _
  rw [decode_op78 _ (by simp)]
  simp [decodeOp78]

theorem wrun (pr : BitVec 2) :
    Statement (.wrun pr) := by
  intro _ _
  change decode (packG 121#7 pr 0#5 511#9 511#9) = _
  rw [decode_op79 _ (by simp)]
  simp [decodeOp79]

theorem wld (pr : BitVec 2) (wd : BitVec 5) (km : BitVec 3) :
    Statement (.wld pr wd km) := by
  intro _ _
  change decode (packEW 122#7 pr 0#5 wd 0#5 0#5 km) = _
  rw [decode_op7A _ (by simp)]
  simp [decodeOp7A]

theorem wst (pr : BitVec 2) (wd : BitVec 5) (km : BitVec 3) :
    Statement (.wst pr wd km) := by
  intro _ _
  change decode (packEW 122#7 pr 1#5 wd 0#5 0#5 km) = _
  rw [decode_op7A _ (by simp)]
  simp [decodeOp7A]

theorem wmovD (pr : BitVec 2) (wd : BitVec 5) (wa : BitVec 5) (km : BitVec 3) :
    Statement (.wmovD pr wd wa km) := by
  intro _ _
  change decode (packEW 123#7 pr 0#5 wd wa 0#5 km) = _
  have h0 := pr.isLt; have h1 := wd.isLt; have h2 := wa.isLt; have h3 := km.isLt
  have e0 : fOp (packEW 123#7 pr 0#5 wd wa 0#5 km) = 123#7 := by
    apply BitVec.eq_of_toNat_eq; simp only [fOp, packEW, BitVec.toNat_ofNat]; omega
  have e1 : fX (packEW 123#7 pr 0#5 wd wa 0#5 km) = 0#5 := by
    apply BitVec.eq_of_toNat_eq; simp only [fX, packEW, BitVec.toNat_ofNat]; omega
  have e2 : fWb (packEW 123#7 pr 0#5 wd wa 0#5 km) = 0#5 := by
    apply BitVec.eq_of_toNat_eq; simp only [fWb, packEW, BitVec.toNat_ofNat]; omega
  have e3 : fPr (packEW 123#7 pr 0#5 wd wa 0#5 km) = pr := by
    apply BitVec.eq_of_toNat_eq; simp only [fPr, packEW, BitVec.toNat_ofNat]; omega
  have e4 : fWd (packEW 123#7 pr 0#5 wd wa 0#5 km) = wd := by
    apply BitVec.eq_of_toNat_eq; simp only [fWd, packEW, BitVec.toNat_ofNat]; omega
  have e5 : fWa (packEW 123#7 pr 0#5 wd wa 0#5 km) = wa := by
    apply BitVec.eq_of_toNat_eq; simp only [fWa, packEW, BitVec.toNat_ofNat]; omega
  have e6 : fKm (packEW 123#7 pr 0#5 wd wa 0#5 km) = km := by
    apply BitVec.eq_of_toNat_eq; simp only [fKm, packEW, BitVec.toNat_ofNat]; omega
  have e7 : fRedHi (packEW 123#7 pr 0#5 wd wa 0#5 km) = 0#3 := by
    apply BitVec.eq_of_toNat_eq; simp only [fRedHi, packEW, BitVec.toNat_ofNat]; omega
  have e8 : fRed (packEW 123#7 pr 0#5 wd wa 0#5 km) = 0#2 := by
    apply BitVec.eq_of_toNat_eq; simp only [fRed, packEW, BitVec.toNat_ofNat]; omega
  have e9 : fWbHi4 (packEW 123#7 pr 0#5 wd wa 0#5 km) = 0#4 := by
    apply BitVec.eq_of_toNat_eq; simp only [fWbHi4, packEW, BitVec.toNat_ofNat]; omega
  have e10 : fB3 (packEW 123#7 pr 0#5 wd wa 0#5 km) = 0#1 := by
    apply BitVec.eq_of_toNat_eq; simp only [fB3, packEW, BitVec.toNat_ofNat]; omega
  generalize packEW 123#7 pr 0#5 wd wa 0#5 km = w at *
  rw [decode_op7B w e0]
  simp [decodeOp7B, e1, e2, e3, e4, e5, e6, e7, e8, e9, e10]

theorem waddD (pr : BitVec 2) (wd : BitVec 5) (wa : BitVec 5) (wb : BitVec 5) (km : BitVec 3) :
    Statement (.waddD pr wd wa wb km) := by
  intro _ _
  change decode (packEW 123#7 pr 1#5 wd wa wb km) = _
  have h0 := pr.isLt; have h1 := wd.isLt; have h2 := wa.isLt; have h3 := wb.isLt; have h4 := km.isLt
  have e0 : fOp (packEW 123#7 pr 1#5 wd wa wb km) = 123#7 := by
    apply BitVec.eq_of_toNat_eq; simp only [fOp, packEW, BitVec.toNat_ofNat]; omega
  have e1 : fX (packEW 123#7 pr 1#5 wd wa wb km) = 1#5 := by
    apply BitVec.eq_of_toNat_eq; simp only [fX, packEW, BitVec.toNat_ofNat]; omega
  have e2 : fWb (packEW 123#7 pr 1#5 wd wa wb km) = wb := by
    apply BitVec.eq_of_toNat_eq; simp only [fWb, packEW, BitVec.toNat_ofNat]; omega
  have e3 : fPr (packEW 123#7 pr 1#5 wd wa wb km) = pr := by
    apply BitVec.eq_of_toNat_eq; simp only [fPr, packEW, BitVec.toNat_ofNat]; omega
  have e4 : fWd (packEW 123#7 pr 1#5 wd wa wb km) = wd := by
    apply BitVec.eq_of_toNat_eq; simp only [fWd, packEW, BitVec.toNat_ofNat]; omega
  have e5 : fWa (packEW 123#7 pr 1#5 wd wa wb km) = wa := by
    apply BitVec.eq_of_toNat_eq; simp only [fWa, packEW, BitVec.toNat_ofNat]; omega
  have e6 : fKm (packEW 123#7 pr 1#5 wd wa wb km) = km := by
    apply BitVec.eq_of_toNat_eq; simp only [fKm, packEW, BitVec.toNat_ofNat]; omega
  generalize packEW 123#7 pr 1#5 wd wa wb km = w at *
  rw [decode_op7B w e0]
  simp [decodeOp7B, e1, e2, e3, e4, e5, e6]

theorem wmulD (pr : BitVec 2) (wd : BitVec 5) (wa : BitVec 5) (wb : BitVec 5) (km : BitVec 3) :
    Statement (.wmulD pr wd wa wb km) := by
  intro _ _
  change decode (packEW 123#7 pr 2#5 wd wa wb km) = _
  have h0 := pr.isLt; have h1 := wd.isLt; have h2 := wa.isLt; have h3 := wb.isLt; have h4 := km.isLt
  have e0 : fOp (packEW 123#7 pr 2#5 wd wa wb km) = 123#7 := by
    apply BitVec.eq_of_toNat_eq; simp only [fOp, packEW, BitVec.toNat_ofNat]; omega
  have e1 : fX (packEW 123#7 pr 2#5 wd wa wb km) = 2#5 := by
    apply BitVec.eq_of_toNat_eq; simp only [fX, packEW, BitVec.toNat_ofNat]; omega
  have e2 : fWb (packEW 123#7 pr 2#5 wd wa wb km) = wb := by
    apply BitVec.eq_of_toNat_eq; simp only [fWb, packEW, BitVec.toNat_ofNat]; omega
  have e3 : fPr (packEW 123#7 pr 2#5 wd wa wb km) = pr := by
    apply BitVec.eq_of_toNat_eq; simp only [fPr, packEW, BitVec.toNat_ofNat]; omega
  have e4 : fWd (packEW 123#7 pr 2#5 wd wa wb km) = wd := by
    apply BitVec.eq_of_toNat_eq; simp only [fWd, packEW, BitVec.toNat_ofNat]; omega
  have e5 : fWa (packEW 123#7 pr 2#5 wd wa wb km) = wa := by
    apply BitVec.eq_of_toNat_eq; simp only [fWa, packEW, BitVec.toNat_ofNat]; omega
  have e6 : fKm (packEW 123#7 pr 2#5 wd wa wb km) = km := by
    apply BitVec.eq_of_toNat_eq; simp only [fKm, packEW, BitVec.toNat_ofNat]; omega
  generalize packEW 123#7 pr 2#5 wd wa wb km = w at *
  rw [decode_op7B w e0]
  simp [decodeOp7B, e1, e2, e3, e4, e5, e6]

theorem wfmaD (pr : BitVec 2) (wd : BitVec 5) (wa : BitVec 5) (wb : BitVec 5) (km : BitVec 3) :
    Statement (.wfmaD pr wd wa wb km) := by
  intro _ _
  change decode (packEW 123#7 pr 3#5 wd wa wb km) = _
  have h0 := pr.isLt; have h1 := wd.isLt; have h2 := wa.isLt; have h3 := wb.isLt; have h4 := km.isLt
  have e0 : fOp (packEW 123#7 pr 3#5 wd wa wb km) = 123#7 := by
    apply BitVec.eq_of_toNat_eq; simp only [fOp, packEW, BitVec.toNat_ofNat]; omega
  have e1 : fX (packEW 123#7 pr 3#5 wd wa wb km) = 3#5 := by
    apply BitVec.eq_of_toNat_eq; simp only [fX, packEW, BitVec.toNat_ofNat]; omega
  have e2 : fWb (packEW 123#7 pr 3#5 wd wa wb km) = wb := by
    apply BitVec.eq_of_toNat_eq; simp only [fWb, packEW, BitVec.toNat_ofNat]; omega
  have e3 : fPr (packEW 123#7 pr 3#5 wd wa wb km) = pr := by
    apply BitVec.eq_of_toNat_eq; simp only [fPr, packEW, BitVec.toNat_ofNat]; omega
  have e4 : fWd (packEW 123#7 pr 3#5 wd wa wb km) = wd := by
    apply BitVec.eq_of_toNat_eq; simp only [fWd, packEW, BitVec.toNat_ofNat]; omega
  have e5 : fWa (packEW 123#7 pr 3#5 wd wa wb km) = wa := by
    apply BitVec.eq_of_toNat_eq; simp only [fWa, packEW, BitVec.toNat_ofNat]; omega
  have e6 : fKm (packEW 123#7 pr 3#5 wd wa wb km) = km := by
    apply BitVec.eq_of_toNat_eq; simp only [fKm, packEW, BitVec.toNat_ofNat]; omega
  generalize packEW 123#7 pr 3#5 wd wa wb km = w at *
  rw [decode_op7B w e0]
  simp [decodeOp7B, e1, e2, e3, e4, e5, e6]

theorem wminD (pr : BitVec 2) (wd : BitVec 5) (wa : BitVec 5) (wb : BitVec 5) (km : BitVec 3) :
    Statement (.wminD pr wd wa wb km) := by
  intro _ _
  change decode (packEW 123#7 pr 4#5 wd wa wb km) = _
  have h0 := pr.isLt; have h1 := wd.isLt; have h2 := wa.isLt; have h3 := wb.isLt; have h4 := km.isLt
  have e0 : fOp (packEW 123#7 pr 4#5 wd wa wb km) = 123#7 := by
    apply BitVec.eq_of_toNat_eq; simp only [fOp, packEW, BitVec.toNat_ofNat]; omega
  have e1 : fX (packEW 123#7 pr 4#5 wd wa wb km) = 4#5 := by
    apply BitVec.eq_of_toNat_eq; simp only [fX, packEW, BitVec.toNat_ofNat]; omega
  have e2 : fWb (packEW 123#7 pr 4#5 wd wa wb km) = wb := by
    apply BitVec.eq_of_toNat_eq; simp only [fWb, packEW, BitVec.toNat_ofNat]; omega
  have e3 : fPr (packEW 123#7 pr 4#5 wd wa wb km) = pr := by
    apply BitVec.eq_of_toNat_eq; simp only [fPr, packEW, BitVec.toNat_ofNat]; omega
  have e4 : fWd (packEW 123#7 pr 4#5 wd wa wb km) = wd := by
    apply BitVec.eq_of_toNat_eq; simp only [fWd, packEW, BitVec.toNat_ofNat]; omega
  have e5 : fWa (packEW 123#7 pr 4#5 wd wa wb km) = wa := by
    apply BitVec.eq_of_toNat_eq; simp only [fWa, packEW, BitVec.toNat_ofNat]; omega
  have e6 : fKm (packEW 123#7 pr 4#5 wd wa wb km) = km := by
    apply BitVec.eq_of_toNat_eq; simp only [fKm, packEW, BitVec.toNat_ofNat]; omega
  generalize packEW 123#7 pr 4#5 wd wa wb km = w at *
  rw [decode_op7B w e0]
  simp [decodeOp7B, e1, e2, e3, e4, e5, e6]

theorem wmaxD (pr : BitVec 2) (wd : BitVec 5) (wa : BitVec 5) (wb : BitVec 5) (km : BitVec 3) :
    Statement (.wmaxD pr wd wa wb km) := by
  intro _ _
  change decode (packEW 123#7 pr 5#5 wd wa wb km) = _
  have h0 := pr.isLt; have h1 := wd.isLt; have h2 := wa.isLt; have h3 := wb.isLt; have h4 := km.isLt
  have e0 : fOp (packEW 123#7 pr 5#5 wd wa wb km) = 123#7 := by
    apply BitVec.eq_of_toNat_eq; simp only [fOp, packEW, BitVec.toNat_ofNat]; omega
  have e1 : fX (packEW 123#7 pr 5#5 wd wa wb km) = 5#5 := by
    apply BitVec.eq_of_toNat_eq; simp only [fX, packEW, BitVec.toNat_ofNat]; omega
  have e2 : fWb (packEW 123#7 pr 5#5 wd wa wb km) = wb := by
    apply BitVec.eq_of_toNat_eq; simp only [fWb, packEW, BitVec.toNat_ofNat]; omega
  have e3 : fPr (packEW 123#7 pr 5#5 wd wa wb km) = pr := by
    apply BitVec.eq_of_toNat_eq; simp only [fPr, packEW, BitVec.toNat_ofNat]; omega
  have e4 : fWd (packEW 123#7 pr 5#5 wd wa wb km) = wd := by
    apply BitVec.eq_of_toNat_eq; simp only [fWd, packEW, BitVec.toNat_ofNat]; omega
  have e5 : fWa (packEW 123#7 pr 5#5 wd wa wb km) = wa := by
    apply BitVec.eq_of_toNat_eq; simp only [fWa, packEW, BitVec.toNat_ofNat]; omega
  have e6 : fKm (packEW 123#7 pr 5#5 wd wa wb km) = km := by
    apply BitVec.eq_of_toNat_eq; simp only [fKm, packEW, BitVec.toNat_ofNat]; omega
  generalize packEW 123#7 pr 5#5 wd wa wb km = w at *
  rw [decode_op7B w e0]
  simp [decodeOp7B, e1, e2, e3, e4, e5, e6]

theorem wcmpD (pr : BitVec 2) (cond : BitVec 2) (kd : BitVec 3) (wa : BitVec 5) (wb : BitVec 5) (km : BitVec 3) :
    Statement (.wcmpD pr cond kd wa wb km) := by
  intro _ _
  change decode (packEW 123#7 pr 6#5 (BitVec.ofNat 5 (cond.toNat * 2 ^ 3 + kd.toNat)) wa wb km) = _
  have h0 := pr.isLt; have h1 := cond.isLt; have h2 := kd.isLt; have h3 := wa.isLt; have h4 := wb.isLt; have h5 := km.isLt
  have e0 : fOp (packEW 123#7 pr 6#5 (BitVec.ofNat 5 (cond.toNat * 2 ^ 3 + kd.toNat)) wa wb km) = 123#7 := by
    apply BitVec.eq_of_toNat_eq; simp only [fOp, packEW, BitVec.toNat_ofNat]; omega
  have e1 : fX (packEW 123#7 pr 6#5 (BitVec.ofNat 5 (cond.toNat * 2 ^ 3 + kd.toNat)) wa wb km) = 6#5 := by
    apply BitVec.eq_of_toNat_eq; simp only [fX, packEW, BitVec.toNat_ofNat]; omega
  have e2 : fWb (packEW 123#7 pr 6#5 (BitVec.ofNat 5 (cond.toNat * 2 ^ 3 + kd.toNat)) wa wb km) = wb := by
    apply BitVec.eq_of_toNat_eq; simp only [fWb, packEW, BitVec.toNat_ofNat]; omega
  have e3 : fPr (packEW 123#7 pr 6#5 (BitVec.ofNat 5 (cond.toNat * 2 ^ 3 + kd.toNat)) wa wb km) = pr := by
    apply BitVec.eq_of_toNat_eq; simp only [fPr, packEW, BitVec.toNat_ofNat]; omega
  have e4 : fWa (packEW 123#7 pr 6#5 (BitVec.ofNat 5 (cond.toNat * 2 ^ 3 + kd.toNat)) wa wb km) = wa := by
    apply BitVec.eq_of_toNat_eq; simp only [fWa, packEW, BitVec.toNat_ofNat]; omega
  have e5 : fKm (packEW 123#7 pr 6#5 (BitVec.ofNat 5 (cond.toNat * 2 ^ 3 + kd.toNat)) wa wb km) = km := by
    apply BitVec.eq_of_toNat_eq; simp only [fKm, packEW, BitVec.toNat_ofNat]; omega
  have e6 : fXd (packEW 123#7 pr 6#5 (BitVec.ofNat 5 (cond.toNat * 2 ^ 3 + kd.toNat)) wa wb km) = cond := by
    apply BitVec.eq_of_toNat_eq; simp only [fXd, packEW, BitVec.toNat_ofNat]; omega
  have e7 : fKd (packEW 123#7 pr 6#5 (BitVec.ofNat 5 (cond.toNat * 2 ^ 3 + kd.toNat)) wa wb km) = kd := by
    apply BitVec.eq_of_toNat_eq; simp only [fKd, packEW, BitVec.toNat_ofNat]; omega
  generalize packEW 123#7 pr 6#5 (BitVec.ofNat 5 (cond.toNat * 2 ^ 3 + kd.toNat)) wa wb km = w at *
  rw [decode_op7B w e0]
  simp [decodeOp7B, e1, e2, e3, e4, e5, e6, e7]

theorem wselD (pr : BitVec 2) (wd : BitVec 5) (wa : BitVec 5) (wb : BitVec 5) (km : BitVec 3) :
    Statement (.wselD pr wd wa wb km) := by
  intro _ _
  change decode (packEW 123#7 pr 7#5 wd wa wb km) = _
  have h0 := pr.isLt; have h1 := wd.isLt; have h2 := wa.isLt; have h3 := wb.isLt; have h4 := km.isLt
  have e0 : fOp (packEW 123#7 pr 7#5 wd wa wb km) = 123#7 := by
    apply BitVec.eq_of_toNat_eq; simp only [fOp, packEW, BitVec.toNat_ofNat]; omega
  have e1 : fX (packEW 123#7 pr 7#5 wd wa wb km) = 7#5 := by
    apply BitVec.eq_of_toNat_eq; simp only [fX, packEW, BitVec.toNat_ofNat]; omega
  have e2 : fWb (packEW 123#7 pr 7#5 wd wa wb km) = wb := by
    apply BitVec.eq_of_toNat_eq; simp only [fWb, packEW, BitVec.toNat_ofNat]; omega
  have e3 : fPr (packEW 123#7 pr 7#5 wd wa wb km) = pr := by
    apply BitVec.eq_of_toNat_eq; simp only [fPr, packEW, BitVec.toNat_ofNat]; omega
  have e4 : fWd (packEW 123#7 pr 7#5 wd wa wb km) = wd := by
    apply BitVec.eq_of_toNat_eq; simp only [fWd, packEW, BitVec.toNat_ofNat]; omega
  have e5 : fWa (packEW 123#7 pr 7#5 wd wa wb km) = wa := by
    apply BitVec.eq_of_toNat_eq; simp only [fWa, packEW, BitVec.toNat_ofNat]; omega
  have e6 : fKm (packEW 123#7 pr 7#5 wd wa wb km) = km := by
    apply BitVec.eq_of_toNat_eq; simp only [fKm, packEW, BitVec.toNat_ofNat]; omega
  generalize packEW 123#7 pr 7#5 wd wa wb km = w at *
  rw [decode_op7B w e0]
  simp [decodeOp7B, e1, e2, e3, e4, e5, e6]

theorem wcvtD (pr : BitVec 2) (wd : BitVec 5) (wa : BitVec 5) (kind : BitVec 5) (km : BitVec 3) :
    Statement (.wcvtD pr wd wa kind km) := by
  intro _ _
  change decode (packEW 123#7 pr 8#5 wd wa kind km) = _
  have h0 := pr.isLt; have h1 := wd.isLt; have h2 := wa.isLt; have h3 := kind.isLt; have h4 := km.isLt
  have e0 : fOp (packEW 123#7 pr 8#5 wd wa kind km) = 123#7 := by
    apply BitVec.eq_of_toNat_eq; simp only [fOp, packEW, BitVec.toNat_ofNat]; omega
  have e1 : fX (packEW 123#7 pr 8#5 wd wa kind km) = 8#5 := by
    apply BitVec.eq_of_toNat_eq; simp only [fX, packEW, BitVec.toNat_ofNat]; omega
  have e2 : fWb (packEW 123#7 pr 8#5 wd wa kind km) = kind := by
    apply BitVec.eq_of_toNat_eq; simp only [fWb, packEW, BitVec.toNat_ofNat]; omega
  have e3 : fPr (packEW 123#7 pr 8#5 wd wa kind km) = pr := by
    apply BitVec.eq_of_toNat_eq; simp only [fPr, packEW, BitVec.toNat_ofNat]; omega
  have e4 : fWd (packEW 123#7 pr 8#5 wd wa kind km) = wd := by
    apply BitVec.eq_of_toNat_eq; simp only [fWd, packEW, BitVec.toNat_ofNat]; omega
  have e5 : fWa (packEW 123#7 pr 8#5 wd wa kind km) = wa := by
    apply BitVec.eq_of_toNat_eq; simp only [fWa, packEW, BitVec.toNat_ofNat]; omega
  have e6 : fKm (packEW 123#7 pr 8#5 wd wa kind km) = km := by
    apply BitVec.eq_of_toNat_eq; simp only [fKm, packEW, BitVec.toNat_ofNat]; omega
  generalize packEW 123#7 pr 8#5 wd wa kind km = w at *
  rw [decode_op7B w e0]
  simp [decodeOp7B, e1, e2, e3, e4, e5, e6]

theorem wredD (pr : BitVec 2) (wd : BitVec 5) (wa : BitVec 5) (rop : BitVec 2) (km : BitVec 3) :
    Statement (.wredD pr wd wa rop km) := by
  intro _ _
  change decode (packEW 123#7 pr 9#5 wd wa (BitVec.ofNat 5 (rop.toNat)) km) = _
  have h0 := pr.isLt; have h1 := wd.isLt; have h2 := wa.isLt; have h3 := rop.isLt; have h4 := km.isLt
  have e0 : fOp (packEW 123#7 pr 9#5 wd wa (BitVec.ofNat 5 (rop.toNat)) km) = 123#7 := by
    apply BitVec.eq_of_toNat_eq; simp only [fOp, packEW, BitVec.toNat_ofNat]; omega
  have e1 : fX (packEW 123#7 pr 9#5 wd wa (BitVec.ofNat 5 (rop.toNat)) km) = 9#5 := by
    apply BitVec.eq_of_toNat_eq; simp only [fX, packEW, BitVec.toNat_ofNat]; omega
  have e2 : fPr (packEW 123#7 pr 9#5 wd wa (BitVec.ofNat 5 (rop.toNat)) km) = pr := by
    apply BitVec.eq_of_toNat_eq; simp only [fPr, packEW, BitVec.toNat_ofNat]; omega
  have e3 : fWd (packEW 123#7 pr 9#5 wd wa (BitVec.ofNat 5 (rop.toNat)) km) = wd := by
    apply BitVec.eq_of_toNat_eq; simp only [fWd, packEW, BitVec.toNat_ofNat]; omega
  have e4 : fWa (packEW 123#7 pr 9#5 wd wa (BitVec.ofNat 5 (rop.toNat)) km) = wa := by
    apply BitVec.eq_of_toNat_eq; simp only [fWa, packEW, BitVec.toNat_ofNat]; omega
  have e5 : fKm (packEW 123#7 pr 9#5 wd wa (BitVec.ofNat 5 (rop.toNat)) km) = km := by
    apply BitVec.eq_of_toNat_eq; simp only [fKm, packEW, BitVec.toNat_ofNat]; omega
  have e6 : fRedHi (packEW 123#7 pr 9#5 wd wa (BitVec.ofNat 5 (rop.toNat)) km) = 0#3 := by
    apply BitVec.eq_of_toNat_eq; simp only [fRedHi, packEW, BitVec.toNat_ofNat]; omega
  have e7 : fRed (packEW 123#7 pr 9#5 wd wa (BitVec.ofNat 5 (rop.toNat)) km) = rop := by
    apply BitVec.eq_of_toNat_eq; simp only [fRed, packEW, BitVec.toNat_ofNat]; omega
  generalize packEW 123#7 pr 9#5 wd wa (BitVec.ofNat 5 (rop.toNat)) km = w at *
  rw [decode_op7B w e0]
  simp [decodeOp7B, e1, e2, e3, e4, e5, e6, e7]

theorem wvarD (pr : BitVec 2) (wd : BitVec 5) (wa : BitVec 5) (opt : BitVec 1) (km : BitVec 3) :
    Statement (.wvarD pr wd wa opt km) := by
  intro _ _
  change decode (packEW 123#7 pr 10#5 wd wa (BitVec.ofNat 5 (opt.toNat)) km) = _
  have h0 := pr.isLt; have h1 := wd.isLt; have h2 := wa.isLt; have h3 := opt.isLt; have h4 := km.isLt
  have e0 : fOp (packEW 123#7 pr 10#5 wd wa (BitVec.ofNat 5 (opt.toNat)) km) = 123#7 := by
    apply BitVec.eq_of_toNat_eq; simp only [fOp, packEW, BitVec.toNat_ofNat]; omega
  have e1 : fX (packEW 123#7 pr 10#5 wd wa (BitVec.ofNat 5 (opt.toNat)) km) = 10#5 := by
    apply BitVec.eq_of_toNat_eq; simp only [fX, packEW, BitVec.toNat_ofNat]; omega
  have e2 : fPr (packEW 123#7 pr 10#5 wd wa (BitVec.ofNat 5 (opt.toNat)) km) = pr := by
    apply BitVec.eq_of_toNat_eq; simp only [fPr, packEW, BitVec.toNat_ofNat]; omega
  have e3 : fWd (packEW 123#7 pr 10#5 wd wa (BitVec.ofNat 5 (opt.toNat)) km) = wd := by
    apply BitVec.eq_of_toNat_eq; simp only [fWd, packEW, BitVec.toNat_ofNat]; omega
  have e4 : fWa (packEW 123#7 pr 10#5 wd wa (BitVec.ofNat 5 (opt.toNat)) km) = wa := by
    apply BitVec.eq_of_toNat_eq; simp only [fWa, packEW, BitVec.toNat_ofNat]; omega
  have e5 : fKm (packEW 123#7 pr 10#5 wd wa (BitVec.ofNat 5 (opt.toNat)) km) = km := by
    apply BitVec.eq_of_toNat_eq; simp only [fKm, packEW, BitVec.toNat_ofNat]; omega
  have e6 : fRedHi (packEW 123#7 pr 10#5 wd wa (BitVec.ofNat 5 (opt.toNat)) km) = 0#3 := by
    apply BitVec.eq_of_toNat_eq; simp only [fRedHi, packEW, BitVec.toNat_ofNat]; omega
  have e7 : fWbHi4 (packEW 123#7 pr 10#5 wd wa (BitVec.ofNat 5 (opt.toNat)) km) = 0#4 := by
    apply BitVec.eq_of_toNat_eq; simp only [fWbHi4, packEW, BitVec.toNat_ofNat]; omega
  have e8 : fB3 (packEW 123#7 pr 10#5 wd wa (BitVec.ofNat 5 (opt.toNat)) km) = opt := by
    apply BitVec.eq_of_toNat_eq; simp only [fB3, packEW, BitVec.toNat_ofNat]; omega
  generalize packEW 123#7 pr 10#5 wd wa (BitVec.ofNat 5 (opt.toNat)) km = w at *
  rw [decode_op7B w e0]
  simp [decodeOp7B, e1, e2, e3, e4, e5, e6, e7, e8]

theorem wshufD (pr : BitVec 2) (wd : BitVec 5) (wa : BitVec 5) (wb : BitVec 5) (km : BitVec 3) :
    Statement (.wshufD pr wd wa wb km) := by
  intro _ _
  change decode (packEW 123#7 pr 11#5 wd wa wb km) = _
  have h0 := pr.isLt; have h1 := wd.isLt; have h2 := wa.isLt; have h3 := wb.isLt; have h4 := km.isLt
  have e0 : fOp (packEW 123#7 pr 11#5 wd wa wb km) = 123#7 := by
    apply BitVec.eq_of_toNat_eq; simp only [fOp, packEW, BitVec.toNat_ofNat]; omega
  have e1 : fX (packEW 123#7 pr 11#5 wd wa wb km) = 11#5 := by
    apply BitVec.eq_of_toNat_eq; simp only [fX, packEW, BitVec.toNat_ofNat]; omega
  have e2 : fWb (packEW 123#7 pr 11#5 wd wa wb km) = wb := by
    apply BitVec.eq_of_toNat_eq; simp only [fWb, packEW, BitVec.toNat_ofNat]; omega
  have e3 : fPr (packEW 123#7 pr 11#5 wd wa wb km) = pr := by
    apply BitVec.eq_of_toNat_eq; simp only [fPr, packEW, BitVec.toNat_ofNat]; omega
  have e4 : fWd (packEW 123#7 pr 11#5 wd wa wb km) = wd := by
    apply BitVec.eq_of_toNat_eq; simp only [fWd, packEW, BitVec.toNat_ofNat]; omega
  have e5 : fWa (packEW 123#7 pr 11#5 wd wa wb km) = wa := by
    apply BitVec.eq_of_toNat_eq; simp only [fWa, packEW, BitVec.toNat_ofNat]; omega
  have e6 : fKm (packEW 123#7 pr 11#5 wd wa wb km) = km := by
    apply BitVec.eq_of_toNat_eq; simp only [fKm, packEW, BitVec.toNat_ofNat]; omega
  generalize packEW 123#7 pr 11#5 wd wa wb km = w at *
  rw [decode_op7B w e0]
  simp [decodeOp7B, e1, e2, e3, e4, e5, e6]

theorem wmovS (pr : BitVec 2) (wd : BitVec 5) (wa : BitVec 5) (km : BitVec 3) :
    Statement (.wmovS pr wd wa km) := by
  intro _ _
  change decode (packEW 124#7 pr 0#5 wd wa 0#5 km) = _
  have h0 := pr.isLt; have h1 := wd.isLt; have h2 := wa.isLt; have h3 := km.isLt
  have e0 : fOp (packEW 124#7 pr 0#5 wd wa 0#5 km) = 124#7 := by
    apply BitVec.eq_of_toNat_eq; simp only [fOp, packEW, BitVec.toNat_ofNat]; omega
  have e1 : fX (packEW 124#7 pr 0#5 wd wa 0#5 km) = 0#5 := by
    apply BitVec.eq_of_toNat_eq; simp only [fX, packEW, BitVec.toNat_ofNat]; omega
  have e2 : fWb (packEW 124#7 pr 0#5 wd wa 0#5 km) = 0#5 := by
    apply BitVec.eq_of_toNat_eq; simp only [fWb, packEW, BitVec.toNat_ofNat]; omega
  have e3 : fPr (packEW 124#7 pr 0#5 wd wa 0#5 km) = pr := by
    apply BitVec.eq_of_toNat_eq; simp only [fPr, packEW, BitVec.toNat_ofNat]; omega
  have e4 : fWd (packEW 124#7 pr 0#5 wd wa 0#5 km) = wd := by
    apply BitVec.eq_of_toNat_eq; simp only [fWd, packEW, BitVec.toNat_ofNat]; omega
  have e5 : fWa (packEW 124#7 pr 0#5 wd wa 0#5 km) = wa := by
    apply BitVec.eq_of_toNat_eq; simp only [fWa, packEW, BitVec.toNat_ofNat]; omega
  have e6 : fKm (packEW 124#7 pr 0#5 wd wa 0#5 km) = km := by
    apply BitVec.eq_of_toNat_eq; simp only [fKm, packEW, BitVec.toNat_ofNat]; omega
  have e7 : fRedHi (packEW 124#7 pr 0#5 wd wa 0#5 km) = 0#3 := by
    apply BitVec.eq_of_toNat_eq; simp only [fRedHi, packEW, BitVec.toNat_ofNat]; omega
  have e8 : fRed (packEW 124#7 pr 0#5 wd wa 0#5 km) = 0#2 := by
    apply BitVec.eq_of_toNat_eq; simp only [fRed, packEW, BitVec.toNat_ofNat]; omega
  have e9 : fWbHi4 (packEW 124#7 pr 0#5 wd wa 0#5 km) = 0#4 := by
    apply BitVec.eq_of_toNat_eq; simp only [fWbHi4, packEW, BitVec.toNat_ofNat]; omega
  have e10 : fB3 (packEW 124#7 pr 0#5 wd wa 0#5 km) = 0#1 := by
    apply BitVec.eq_of_toNat_eq; simp only [fB3, packEW, BitVec.toNat_ofNat]; omega
  generalize packEW 124#7 pr 0#5 wd wa 0#5 km = w at *
  rw [decode_op7C w e0]
  simp [decodeOp7C, e1, e2, e3, e4, e5, e6, e7, e8, e9, e10]

theorem waddS (pr : BitVec 2) (wd : BitVec 5) (wa : BitVec 5) (wb : BitVec 5) (km : BitVec 3) :
    Statement (.waddS pr wd wa wb km) := by
  intro _ _
  change decode (packEW 124#7 pr 1#5 wd wa wb km) = _
  have h0 := pr.isLt; have h1 := wd.isLt; have h2 := wa.isLt; have h3 := wb.isLt; have h4 := km.isLt
  have e0 : fOp (packEW 124#7 pr 1#5 wd wa wb km) = 124#7 := by
    apply BitVec.eq_of_toNat_eq; simp only [fOp, packEW, BitVec.toNat_ofNat]; omega
  have e1 : fX (packEW 124#7 pr 1#5 wd wa wb km) = 1#5 := by
    apply BitVec.eq_of_toNat_eq; simp only [fX, packEW, BitVec.toNat_ofNat]; omega
  have e2 : fWb (packEW 124#7 pr 1#5 wd wa wb km) = wb := by
    apply BitVec.eq_of_toNat_eq; simp only [fWb, packEW, BitVec.toNat_ofNat]; omega
  have e3 : fPr (packEW 124#7 pr 1#5 wd wa wb km) = pr := by
    apply BitVec.eq_of_toNat_eq; simp only [fPr, packEW, BitVec.toNat_ofNat]; omega
  have e4 : fWd (packEW 124#7 pr 1#5 wd wa wb km) = wd := by
    apply BitVec.eq_of_toNat_eq; simp only [fWd, packEW, BitVec.toNat_ofNat]; omega
  have e5 : fWa (packEW 124#7 pr 1#5 wd wa wb km) = wa := by
    apply BitVec.eq_of_toNat_eq; simp only [fWa, packEW, BitVec.toNat_ofNat]; omega
  have e6 : fKm (packEW 124#7 pr 1#5 wd wa wb km) = km := by
    apply BitVec.eq_of_toNat_eq; simp only [fKm, packEW, BitVec.toNat_ofNat]; omega
  generalize packEW 124#7 pr 1#5 wd wa wb km = w at *
  rw [decode_op7C w e0]
  simp [decodeOp7C, e1, e2, e3, e4, e5, e6]

theorem wmulS (pr : BitVec 2) (wd : BitVec 5) (wa : BitVec 5) (wb : BitVec 5) (km : BitVec 3) :
    Statement (.wmulS pr wd wa wb km) := by
  intro _ _
  change decode (packEW 124#7 pr 2#5 wd wa wb km) = _
  have h0 := pr.isLt; have h1 := wd.isLt; have h2 := wa.isLt; have h3 := wb.isLt; have h4 := km.isLt
  have e0 : fOp (packEW 124#7 pr 2#5 wd wa wb km) = 124#7 := by
    apply BitVec.eq_of_toNat_eq; simp only [fOp, packEW, BitVec.toNat_ofNat]; omega
  have e1 : fX (packEW 124#7 pr 2#5 wd wa wb km) = 2#5 := by
    apply BitVec.eq_of_toNat_eq; simp only [fX, packEW, BitVec.toNat_ofNat]; omega
  have e2 : fWb (packEW 124#7 pr 2#5 wd wa wb km) = wb := by
    apply BitVec.eq_of_toNat_eq; simp only [fWb, packEW, BitVec.toNat_ofNat]; omega
  have e3 : fPr (packEW 124#7 pr 2#5 wd wa wb km) = pr := by
    apply BitVec.eq_of_toNat_eq; simp only [fPr, packEW, BitVec.toNat_ofNat]; omega
  have e4 : fWd (packEW 124#7 pr 2#5 wd wa wb km) = wd := by
    apply BitVec.eq_of_toNat_eq; simp only [fWd, packEW, BitVec.toNat_ofNat]; omega
  have e5 : fWa (packEW 124#7 pr 2#5 wd wa wb km) = wa := by
    apply BitVec.eq_of_toNat_eq; simp only [fWa, packEW, BitVec.toNat_ofNat]; omega
  have e6 : fKm (packEW 124#7 pr 2#5 wd wa wb km) = km := by
    apply BitVec.eq_of_toNat_eq; simp only [fKm, packEW, BitVec.toNat_ofNat]; omega
  generalize packEW 124#7 pr 2#5 wd wa wb km = w at *
  rw [decode_op7C w e0]
  simp [decodeOp7C, e1, e2, e3, e4, e5, e6]

theorem wfmaS (pr : BitVec 2) (wd : BitVec 5) (wa : BitVec 5) (wb : BitVec 5) (km : BitVec 3) :
    Statement (.wfmaS pr wd wa wb km) := by
  intro _ _
  change decode (packEW 124#7 pr 3#5 wd wa wb km) = _
  have h0 := pr.isLt; have h1 := wd.isLt; have h2 := wa.isLt; have h3 := wb.isLt; have h4 := km.isLt
  have e0 : fOp (packEW 124#7 pr 3#5 wd wa wb km) = 124#7 := by
    apply BitVec.eq_of_toNat_eq; simp only [fOp, packEW, BitVec.toNat_ofNat]; omega
  have e1 : fX (packEW 124#7 pr 3#5 wd wa wb km) = 3#5 := by
    apply BitVec.eq_of_toNat_eq; simp only [fX, packEW, BitVec.toNat_ofNat]; omega
  have e2 : fWb (packEW 124#7 pr 3#5 wd wa wb km) = wb := by
    apply BitVec.eq_of_toNat_eq; simp only [fWb, packEW, BitVec.toNat_ofNat]; omega
  have e3 : fPr (packEW 124#7 pr 3#5 wd wa wb km) = pr := by
    apply BitVec.eq_of_toNat_eq; simp only [fPr, packEW, BitVec.toNat_ofNat]; omega
  have e4 : fWd (packEW 124#7 pr 3#5 wd wa wb km) = wd := by
    apply BitVec.eq_of_toNat_eq; simp only [fWd, packEW, BitVec.toNat_ofNat]; omega
  have e5 : fWa (packEW 124#7 pr 3#5 wd wa wb km) = wa := by
    apply BitVec.eq_of_toNat_eq; simp only [fWa, packEW, BitVec.toNat_ofNat]; omega
  have e6 : fKm (packEW 124#7 pr 3#5 wd wa wb km) = km := by
    apply BitVec.eq_of_toNat_eq; simp only [fKm, packEW, BitVec.toNat_ofNat]; omega
  generalize packEW 124#7 pr 3#5 wd wa wb km = w at *
  rw [decode_op7C w e0]
  simp [decodeOp7C, e1, e2, e3, e4, e5, e6]

theorem wminS (pr : BitVec 2) (wd : BitVec 5) (wa : BitVec 5) (wb : BitVec 5) (km : BitVec 3) :
    Statement (.wminS pr wd wa wb km) := by
  intro _ _
  change decode (packEW 124#7 pr 4#5 wd wa wb km) = _
  have h0 := pr.isLt; have h1 := wd.isLt; have h2 := wa.isLt; have h3 := wb.isLt; have h4 := km.isLt
  have e0 : fOp (packEW 124#7 pr 4#5 wd wa wb km) = 124#7 := by
    apply BitVec.eq_of_toNat_eq; simp only [fOp, packEW, BitVec.toNat_ofNat]; omega
  have e1 : fX (packEW 124#7 pr 4#5 wd wa wb km) = 4#5 := by
    apply BitVec.eq_of_toNat_eq; simp only [fX, packEW, BitVec.toNat_ofNat]; omega
  have e2 : fWb (packEW 124#7 pr 4#5 wd wa wb km) = wb := by
    apply BitVec.eq_of_toNat_eq; simp only [fWb, packEW, BitVec.toNat_ofNat]; omega
  have e3 : fPr (packEW 124#7 pr 4#5 wd wa wb km) = pr := by
    apply BitVec.eq_of_toNat_eq; simp only [fPr, packEW, BitVec.toNat_ofNat]; omega
  have e4 : fWd (packEW 124#7 pr 4#5 wd wa wb km) = wd := by
    apply BitVec.eq_of_toNat_eq; simp only [fWd, packEW, BitVec.toNat_ofNat]; omega
  have e5 : fWa (packEW 124#7 pr 4#5 wd wa wb km) = wa := by
    apply BitVec.eq_of_toNat_eq; simp only [fWa, packEW, BitVec.toNat_ofNat]; omega
  have e6 : fKm (packEW 124#7 pr 4#5 wd wa wb km) = km := by
    apply BitVec.eq_of_toNat_eq; simp only [fKm, packEW, BitVec.toNat_ofNat]; omega
  generalize packEW 124#7 pr 4#5 wd wa wb km = w at *
  rw [decode_op7C w e0]
  simp [decodeOp7C, e1, e2, e3, e4, e5, e6]

theorem wmaxS (pr : BitVec 2) (wd : BitVec 5) (wa : BitVec 5) (wb : BitVec 5) (km : BitVec 3) :
    Statement (.wmaxS pr wd wa wb km) := by
  intro _ _
  change decode (packEW 124#7 pr 5#5 wd wa wb km) = _
  have h0 := pr.isLt; have h1 := wd.isLt; have h2 := wa.isLt; have h3 := wb.isLt; have h4 := km.isLt
  have e0 : fOp (packEW 124#7 pr 5#5 wd wa wb km) = 124#7 := by
    apply BitVec.eq_of_toNat_eq; simp only [fOp, packEW, BitVec.toNat_ofNat]; omega
  have e1 : fX (packEW 124#7 pr 5#5 wd wa wb km) = 5#5 := by
    apply BitVec.eq_of_toNat_eq; simp only [fX, packEW, BitVec.toNat_ofNat]; omega
  have e2 : fWb (packEW 124#7 pr 5#5 wd wa wb km) = wb := by
    apply BitVec.eq_of_toNat_eq; simp only [fWb, packEW, BitVec.toNat_ofNat]; omega
  have e3 : fPr (packEW 124#7 pr 5#5 wd wa wb km) = pr := by
    apply BitVec.eq_of_toNat_eq; simp only [fPr, packEW, BitVec.toNat_ofNat]; omega
  have e4 : fWd (packEW 124#7 pr 5#5 wd wa wb km) = wd := by
    apply BitVec.eq_of_toNat_eq; simp only [fWd, packEW, BitVec.toNat_ofNat]; omega
  have e5 : fWa (packEW 124#7 pr 5#5 wd wa wb km) = wa := by
    apply BitVec.eq_of_toNat_eq; simp only [fWa, packEW, BitVec.toNat_ofNat]; omega
  have e6 : fKm (packEW 124#7 pr 5#5 wd wa wb km) = km := by
    apply BitVec.eq_of_toNat_eq; simp only [fKm, packEW, BitVec.toNat_ofNat]; omega
  generalize packEW 124#7 pr 5#5 wd wa wb km = w at *
  rw [decode_op7C w e0]
  simp [decodeOp7C, e1, e2, e3, e4, e5, e6]

theorem wcmpS (pr : BitVec 2) (cond : BitVec 2) (kd : BitVec 3) (wa : BitVec 5) (wb : BitVec 5) (km : BitVec 3) :
    Statement (.wcmpS pr cond kd wa wb km) := by
  intro _ _
  change decode (packEW 124#7 pr 6#5 (BitVec.ofNat 5 (cond.toNat * 2 ^ 3 + kd.toNat)) wa wb km) = _
  have h0 := pr.isLt; have h1 := cond.isLt; have h2 := kd.isLt; have h3 := wa.isLt; have h4 := wb.isLt; have h5 := km.isLt
  have e0 : fOp (packEW 124#7 pr 6#5 (BitVec.ofNat 5 (cond.toNat * 2 ^ 3 + kd.toNat)) wa wb km) = 124#7 := by
    apply BitVec.eq_of_toNat_eq; simp only [fOp, packEW, BitVec.toNat_ofNat]; omega
  have e1 : fX (packEW 124#7 pr 6#5 (BitVec.ofNat 5 (cond.toNat * 2 ^ 3 + kd.toNat)) wa wb km) = 6#5 := by
    apply BitVec.eq_of_toNat_eq; simp only [fX, packEW, BitVec.toNat_ofNat]; omega
  have e2 : fWb (packEW 124#7 pr 6#5 (BitVec.ofNat 5 (cond.toNat * 2 ^ 3 + kd.toNat)) wa wb km) = wb := by
    apply BitVec.eq_of_toNat_eq; simp only [fWb, packEW, BitVec.toNat_ofNat]; omega
  have e3 : fPr (packEW 124#7 pr 6#5 (BitVec.ofNat 5 (cond.toNat * 2 ^ 3 + kd.toNat)) wa wb km) = pr := by
    apply BitVec.eq_of_toNat_eq; simp only [fPr, packEW, BitVec.toNat_ofNat]; omega
  have e4 : fWa (packEW 124#7 pr 6#5 (BitVec.ofNat 5 (cond.toNat * 2 ^ 3 + kd.toNat)) wa wb km) = wa := by
    apply BitVec.eq_of_toNat_eq; simp only [fWa, packEW, BitVec.toNat_ofNat]; omega
  have e5 : fKm (packEW 124#7 pr 6#5 (BitVec.ofNat 5 (cond.toNat * 2 ^ 3 + kd.toNat)) wa wb km) = km := by
    apply BitVec.eq_of_toNat_eq; simp only [fKm, packEW, BitVec.toNat_ofNat]; omega
  have e6 : fXd (packEW 124#7 pr 6#5 (BitVec.ofNat 5 (cond.toNat * 2 ^ 3 + kd.toNat)) wa wb km) = cond := by
    apply BitVec.eq_of_toNat_eq; simp only [fXd, packEW, BitVec.toNat_ofNat]; omega
  have e7 : fKd (packEW 124#7 pr 6#5 (BitVec.ofNat 5 (cond.toNat * 2 ^ 3 + kd.toNat)) wa wb km) = kd := by
    apply BitVec.eq_of_toNat_eq; simp only [fKd, packEW, BitVec.toNat_ofNat]; omega
  generalize packEW 124#7 pr 6#5 (BitVec.ofNat 5 (cond.toNat * 2 ^ 3 + kd.toNat)) wa wb km = w at *
  rw [decode_op7C w e0]
  simp [decodeOp7C, e1, e2, e3, e4, e5, e6, e7]

theorem wselS (pr : BitVec 2) (wd : BitVec 5) (wa : BitVec 5) (wb : BitVec 5) (km : BitVec 3) :
    Statement (.wselS pr wd wa wb km) := by
  intro _ _
  change decode (packEW 124#7 pr 7#5 wd wa wb km) = _
  have h0 := pr.isLt; have h1 := wd.isLt; have h2 := wa.isLt; have h3 := wb.isLt; have h4 := km.isLt
  have e0 : fOp (packEW 124#7 pr 7#5 wd wa wb km) = 124#7 := by
    apply BitVec.eq_of_toNat_eq; simp only [fOp, packEW, BitVec.toNat_ofNat]; omega
  have e1 : fX (packEW 124#7 pr 7#5 wd wa wb km) = 7#5 := by
    apply BitVec.eq_of_toNat_eq; simp only [fX, packEW, BitVec.toNat_ofNat]; omega
  have e2 : fWb (packEW 124#7 pr 7#5 wd wa wb km) = wb := by
    apply BitVec.eq_of_toNat_eq; simp only [fWb, packEW, BitVec.toNat_ofNat]; omega
  have e3 : fPr (packEW 124#7 pr 7#5 wd wa wb km) = pr := by
    apply BitVec.eq_of_toNat_eq; simp only [fPr, packEW, BitVec.toNat_ofNat]; omega
  have e4 : fWd (packEW 124#7 pr 7#5 wd wa wb km) = wd := by
    apply BitVec.eq_of_toNat_eq; simp only [fWd, packEW, BitVec.toNat_ofNat]; omega
  have e5 : fWa (packEW 124#7 pr 7#5 wd wa wb km) = wa := by
    apply BitVec.eq_of_toNat_eq; simp only [fWa, packEW, BitVec.toNat_ofNat]; omega
  have e6 : fKm (packEW 124#7 pr 7#5 wd wa wb km) = km := by
    apply BitVec.eq_of_toNat_eq; simp only [fKm, packEW, BitVec.toNat_ofNat]; omega
  generalize packEW 124#7 pr 7#5 wd wa wb km = w at *
  rw [decode_op7C w e0]
  simp [decodeOp7C, e1, e2, e3, e4, e5, e6]

theorem wcvtS (pr : BitVec 2) (wd : BitVec 5) (wa : BitVec 5) (kind : BitVec 5) (km : BitVec 3) :
    Statement (.wcvtS pr wd wa kind km) := by
  intro _ _
  change decode (packEW 124#7 pr 8#5 wd wa kind km) = _
  have h0 := pr.isLt; have h1 := wd.isLt; have h2 := wa.isLt; have h3 := kind.isLt; have h4 := km.isLt
  have e0 : fOp (packEW 124#7 pr 8#5 wd wa kind km) = 124#7 := by
    apply BitVec.eq_of_toNat_eq; simp only [fOp, packEW, BitVec.toNat_ofNat]; omega
  have e1 : fX (packEW 124#7 pr 8#5 wd wa kind km) = 8#5 := by
    apply BitVec.eq_of_toNat_eq; simp only [fX, packEW, BitVec.toNat_ofNat]; omega
  have e2 : fWb (packEW 124#7 pr 8#5 wd wa kind km) = kind := by
    apply BitVec.eq_of_toNat_eq; simp only [fWb, packEW, BitVec.toNat_ofNat]; omega
  have e3 : fPr (packEW 124#7 pr 8#5 wd wa kind km) = pr := by
    apply BitVec.eq_of_toNat_eq; simp only [fPr, packEW, BitVec.toNat_ofNat]; omega
  have e4 : fWd (packEW 124#7 pr 8#5 wd wa kind km) = wd := by
    apply BitVec.eq_of_toNat_eq; simp only [fWd, packEW, BitVec.toNat_ofNat]; omega
  have e5 : fWa (packEW 124#7 pr 8#5 wd wa kind km) = wa := by
    apply BitVec.eq_of_toNat_eq; simp only [fWa, packEW, BitVec.toNat_ofNat]; omega
  have e6 : fKm (packEW 124#7 pr 8#5 wd wa kind km) = km := by
    apply BitVec.eq_of_toNat_eq; simp only [fKm, packEW, BitVec.toNat_ofNat]; omega
  generalize packEW 124#7 pr 8#5 wd wa kind km = w at *
  rw [decode_op7C w e0]
  simp [decodeOp7C, e1, e2, e3, e4, e5, e6]

theorem wredS (pr : BitVec 2) (wd : BitVec 5) (wa : BitVec 5) (rop : BitVec 2) (km : BitVec 3) :
    Statement (.wredS pr wd wa rop km) := by
  intro _ _
  change decode (packEW 124#7 pr 9#5 wd wa (BitVec.ofNat 5 (rop.toNat)) km) = _
  have h0 := pr.isLt; have h1 := wd.isLt; have h2 := wa.isLt; have h3 := rop.isLt; have h4 := km.isLt
  have e0 : fOp (packEW 124#7 pr 9#5 wd wa (BitVec.ofNat 5 (rop.toNat)) km) = 124#7 := by
    apply BitVec.eq_of_toNat_eq; simp only [fOp, packEW, BitVec.toNat_ofNat]; omega
  have e1 : fX (packEW 124#7 pr 9#5 wd wa (BitVec.ofNat 5 (rop.toNat)) km) = 9#5 := by
    apply BitVec.eq_of_toNat_eq; simp only [fX, packEW, BitVec.toNat_ofNat]; omega
  have e2 : fPr (packEW 124#7 pr 9#5 wd wa (BitVec.ofNat 5 (rop.toNat)) km) = pr := by
    apply BitVec.eq_of_toNat_eq; simp only [fPr, packEW, BitVec.toNat_ofNat]; omega
  have e3 : fWd (packEW 124#7 pr 9#5 wd wa (BitVec.ofNat 5 (rop.toNat)) km) = wd := by
    apply BitVec.eq_of_toNat_eq; simp only [fWd, packEW, BitVec.toNat_ofNat]; omega
  have e4 : fWa (packEW 124#7 pr 9#5 wd wa (BitVec.ofNat 5 (rop.toNat)) km) = wa := by
    apply BitVec.eq_of_toNat_eq; simp only [fWa, packEW, BitVec.toNat_ofNat]; omega
  have e5 : fKm (packEW 124#7 pr 9#5 wd wa (BitVec.ofNat 5 (rop.toNat)) km) = km := by
    apply BitVec.eq_of_toNat_eq; simp only [fKm, packEW, BitVec.toNat_ofNat]; omega
  have e6 : fRedHi (packEW 124#7 pr 9#5 wd wa (BitVec.ofNat 5 (rop.toNat)) km) = 0#3 := by
    apply BitVec.eq_of_toNat_eq; simp only [fRedHi, packEW, BitVec.toNat_ofNat]; omega
  have e7 : fRed (packEW 124#7 pr 9#5 wd wa (BitVec.ofNat 5 (rop.toNat)) km) = rop := by
    apply BitVec.eq_of_toNat_eq; simp only [fRed, packEW, BitVec.toNat_ofNat]; omega
  generalize packEW 124#7 pr 9#5 wd wa (BitVec.ofNat 5 (rop.toNat)) km = w at *
  rw [decode_op7C w e0]
  simp [decodeOp7C, e1, e2, e3, e4, e5, e6, e7]

theorem wvarS (pr : BitVec 2) (wd : BitVec 5) (wa : BitVec 5) (opt : BitVec 1) (km : BitVec 3) :
    Statement (.wvarS pr wd wa opt km) := by
  intro _ _
  change decode (packEW 124#7 pr 10#5 wd wa (BitVec.ofNat 5 (opt.toNat)) km) = _
  have h0 := pr.isLt; have h1 := wd.isLt; have h2 := wa.isLt; have h3 := opt.isLt; have h4 := km.isLt
  have e0 : fOp (packEW 124#7 pr 10#5 wd wa (BitVec.ofNat 5 (opt.toNat)) km) = 124#7 := by
    apply BitVec.eq_of_toNat_eq; simp only [fOp, packEW, BitVec.toNat_ofNat]; omega
  have e1 : fX (packEW 124#7 pr 10#5 wd wa (BitVec.ofNat 5 (opt.toNat)) km) = 10#5 := by
    apply BitVec.eq_of_toNat_eq; simp only [fX, packEW, BitVec.toNat_ofNat]; omega
  have e2 : fPr (packEW 124#7 pr 10#5 wd wa (BitVec.ofNat 5 (opt.toNat)) km) = pr := by
    apply BitVec.eq_of_toNat_eq; simp only [fPr, packEW, BitVec.toNat_ofNat]; omega
  have e3 : fWd (packEW 124#7 pr 10#5 wd wa (BitVec.ofNat 5 (opt.toNat)) km) = wd := by
    apply BitVec.eq_of_toNat_eq; simp only [fWd, packEW, BitVec.toNat_ofNat]; omega
  have e4 : fWa (packEW 124#7 pr 10#5 wd wa (BitVec.ofNat 5 (opt.toNat)) km) = wa := by
    apply BitVec.eq_of_toNat_eq; simp only [fWa, packEW, BitVec.toNat_ofNat]; omega
  have e5 : fKm (packEW 124#7 pr 10#5 wd wa (BitVec.ofNat 5 (opt.toNat)) km) = km := by
    apply BitVec.eq_of_toNat_eq; simp only [fKm, packEW, BitVec.toNat_ofNat]; omega
  have e6 : fRedHi (packEW 124#7 pr 10#5 wd wa (BitVec.ofNat 5 (opt.toNat)) km) = 0#3 := by
    apply BitVec.eq_of_toNat_eq; simp only [fRedHi, packEW, BitVec.toNat_ofNat]; omega
  have e7 : fWbHi4 (packEW 124#7 pr 10#5 wd wa (BitVec.ofNat 5 (opt.toNat)) km) = 0#4 := by
    apply BitVec.eq_of_toNat_eq; simp only [fWbHi4, packEW, BitVec.toNat_ofNat]; omega
  have e8 : fB3 (packEW 124#7 pr 10#5 wd wa (BitVec.ofNat 5 (opt.toNat)) km) = opt := by
    apply BitVec.eq_of_toNat_eq; simp only [fB3, packEW, BitVec.toNat_ofNat]; omega
  generalize packEW 124#7 pr 10#5 wd wa (BitVec.ofNat 5 (opt.toNat)) km = w at *
  rw [decode_op7C w e0]
  simp [decodeOp7C, e1, e2, e3, e4, e5, e6, e7, e8]

theorem wshufS (pr : BitVec 2) (wd : BitVec 5) (wa : BitVec 5) (wb : BitVec 5) (km : BitVec 3) :
    Statement (.wshufS pr wd wa wb km) := by
  intro _ _
  change decode (packEW 124#7 pr 11#5 wd wa wb km) = _
  have h0 := pr.isLt; have h1 := wd.isLt; have h2 := wa.isLt; have h3 := wb.isLt; have h4 := km.isLt
  have e0 : fOp (packEW 124#7 pr 11#5 wd wa wb km) = 124#7 := by
    apply BitVec.eq_of_toNat_eq; simp only [fOp, packEW, BitVec.toNat_ofNat]; omega
  have e1 : fX (packEW 124#7 pr 11#5 wd wa wb km) = 11#5 := by
    apply BitVec.eq_of_toNat_eq; simp only [fX, packEW, BitVec.toNat_ofNat]; omega
  have e2 : fWb (packEW 124#7 pr 11#5 wd wa wb km) = wb := by
    apply BitVec.eq_of_toNat_eq; simp only [fWb, packEW, BitVec.toNat_ofNat]; omega
  have e3 : fPr (packEW 124#7 pr 11#5 wd wa wb km) = pr := by
    apply BitVec.eq_of_toNat_eq; simp only [fPr, packEW, BitVec.toNat_ofNat]; omega
  have e4 : fWd (packEW 124#7 pr 11#5 wd wa wb km) = wd := by
    apply BitVec.eq_of_toNat_eq; simp only [fWd, packEW, BitVec.toNat_ofNat]; omega
  have e5 : fWa (packEW 124#7 pr 11#5 wd wa wb km) = wa := by
    apply BitVec.eq_of_toNat_eq; simp only [fWa, packEW, BitVec.toNat_ofNat]; omega
  have e6 : fKm (packEW 124#7 pr 11#5 wd wa wb km) = km := by
    apply BitVec.eq_of_toNat_eq; simp only [fKm, packEW, BitVec.toNat_ofNat]; omega
  generalize packEW 124#7 pr 11#5 wd wa wb km = w at *
  rw [decode_op7C w e0]
  simp [decodeOp7C, e1, e2, e3, e4, e5, e6]

theorem xacc (pr : BitVec 2) (xd : BitVec 2) (wa : BitVec 5) (wb : BitVec 5) (ksel : BitVec 3) :
    Statement (.xacc pr xd wa wb ksel) := by
  intro _ _
  change decode (packEX 125#7 pr 0#5 xd 0#2 wa wb ksel) = _
  rw [decode_op7D _ (by simp)]
  simp [decodeOp7D]

theorem xadd (pr : BitVec 2) (xd : BitVec 2) (xs : BitVec 2) :
    Statement (.xadd pr xd xs) := by
  intro _ _
  change decode (packEX 125#7 pr 1#5 xd xs 0#5 0#5 0#3) = _
  rw [decode_op7D _ (by simp)]
  simp [decodeOp7D]

theorem xclr (pr : BitVec 2) (xd : BitVec 2) :
    Statement (.xclr pr xd) := by
  intro _ _
  change decode (packEX 125#7 pr 2#5 xd 0#2 0#5 0#5 0#3) = _
  rw [decode_op7D _ (by simp)]
  simp [decodeOp7D]

theorem xmov (pr : BitVec 2) (xd : BitVec 2) (xs : BitVec 2) :
    Statement (.xmov pr xd xs) := by
  intro _ _
  change decode (packEX 125#7 pr 3#5 xd xs 0#5 0#5 0#3) = _
  rw [decode_op7D _ (by simp)]
  simp [decodeOp7D]

theorem xst (pr : BitVec 2) (xs : BitVec 2) :
    Statement (.xst pr xs) := by
  intro _ _
  change decode (packEX 125#7 pr 3#5 0#2 xs 0#5 0#5 1#3) = _
  rw [decode_op7D _ (by simp)]
  simp [decodeOp7D]

theorem xld (pr : BitVec 2) (xd : BitVec 2) :
    Statement (.xld pr xd) := by
  intro _ _
  change decode (packEX 125#7 pr 3#5 xd 0#2 0#5 0#5 2#3) = _
  rw [decode_op7D _ (by simp)]
  simp [decodeOp7D]

theorem xsgn (pr : BitVec 2) (acc : BitVec 2) (t1 : BitVec 9) (t0 : BitVec 9) :
    Statement (.xsgn pr acc t1 t0) := by
  intro _ _
  change decode (packG 126#7 pr (BitVec.ofNat 5 (acc.toNat)) t1 t0) = _
  have h0 := pr.isLt; have h1 := acc.isLt; have h2 := t1.isLt; have h3 := t0.isLt
  have e0 : fOp (packG 126#7 pr (BitVec.ofNat 5 (acc.toNat)) t1 t0) = 126#7 := by
    apply BitVec.eq_of_toNat_eq; simp only [fOp, packG, BitVec.toNat_ofNat]; omega
  have e1 : fXHigh3 (packG 126#7 pr (BitVec.ofNat 5 (acc.toNat)) t1 t0) = 0#3 := by
    apply BitVec.eq_of_toNat_eq; simp only [fXHigh3, packG, BitVec.toNat_ofNat]; omega
  have e2 : fPr (packG 126#7 pr (BitVec.ofNat 5 (acc.toNat)) t1 t0) = pr := by
    apply BitVec.eq_of_toNat_eq; simp only [fPr, packG, BitVec.toNat_ofNat]; omega
  have e3 : fXLow2 (packG 126#7 pr (BitVec.ofNat 5 (acc.toNat)) t1 t0) = acc := by
    apply BitVec.eq_of_toNat_eq; simp only [fXLow2, packG, BitVec.toNat_ofNat]; omega
  have e4 : fT1 (packG 126#7 pr (BitVec.ofNat 5 (acc.toNat)) t1 t0) = t1 := by
    apply BitVec.eq_of_toNat_eq; simp only [fT1, packG, BitVec.toNat_ofNat]; omega
  have e5 : fT0 (packG 126#7 pr (BitVec.ofNat 5 (acc.toNat)) t1 t0) = t0 := by
    apply BitVec.eq_of_toNat_eq; simp only [fT0, packG, BitVec.toNat_ofNat]; omega
  have e6 : fXTop (packG 126#7 pr (BitVec.ofNat 5 (acc.toNat)) t1 t0) = 0#1 := by
    apply BitVec.eq_of_toNat_eq; simp only [fXTop, packG, BitVec.toNat_ofNat]; omega
  have e7 : fXrm (packG 126#7 pr (BitVec.ofNat 5 (acc.toNat)) t1 t0) = 0#2 := by
    apply BitVec.eq_of_toNat_eq; simp only [fXrm, packG, BitVec.toNat_ofNat]; omega
  generalize packG 126#7 pr (BitVec.ofNat 5 (acc.toNat)) t1 t0 = w at *
  rw [decode_op7E w e0]
  simp [decodeOp7E, e1, e2, e3, e4, e5, e6, e7]

theorem xrnd (pr : BitVec 2) (rm : BitVec 2) (acc : BitVec 2) (t1 : BitVec 9) (t0 : BitVec 9) :
    Statement (.xrnd pr rm acc t1 t0) := by
  intro _ _
  change decode (packG 126#7 pr (BitVec.ofNat 5 (16 + rm.toNat * 2 ^ 2 + acc.toNat)) t1 t0) = _
  have h0 := pr.isLt; have h1 := rm.isLt; have h2 := acc.isLt; have h3 := t1.isLt; have h4 := t0.isLt
  have e0 : fOp (packG 126#7 pr (BitVec.ofNat 5 (16 + rm.toNat * 2 ^ 2 + acc.toNat)) t1 t0) = 126#7 := by
    apply BitVec.eq_of_toNat_eq; simp only [fOp, packG, BitVec.toNat_ofNat]; omega
  have e1 : fPr (packG 126#7 pr (BitVec.ofNat 5 (16 + rm.toNat * 2 ^ 2 + acc.toNat)) t1 t0) = pr := by
    apply BitVec.eq_of_toNat_eq; simp only [fPr, packG, BitVec.toNat_ofNat]; omega
  have e2 : fXLow2 (packG 126#7 pr (BitVec.ofNat 5 (16 + rm.toNat * 2 ^ 2 + acc.toNat)) t1 t0) = acc := by
    apply BitVec.eq_of_toNat_eq; simp only [fXLow2, packG, BitVec.toNat_ofNat]; omega
  have e3 : fT1 (packG 126#7 pr (BitVec.ofNat 5 (16 + rm.toNat * 2 ^ 2 + acc.toNat)) t1 t0) = t1 := by
    apply BitVec.eq_of_toNat_eq; simp only [fT1, packG, BitVec.toNat_ofNat]; omega
  have e4 : fT0 (packG 126#7 pr (BitVec.ofNat 5 (16 + rm.toNat * 2 ^ 2 + acc.toNat)) t1 t0) = t0 := by
    apply BitVec.eq_of_toNat_eq; simp only [fT0, packG, BitVec.toNat_ofNat]; omega
  have e5 : fXTop (packG 126#7 pr (BitVec.ofNat 5 (16 + rm.toNat * 2 ^ 2 + acc.toNat)) t1 t0) = 1#1 := by
    apply BitVec.eq_of_toNat_eq; simp only [fXTop, packG, BitVec.toNat_ofNat]; omega
  have e6 : fXrm (packG 126#7 pr (BitVec.ofNat 5 (16 + rm.toNat * 2 ^ 2 + acc.toNat)) t1 t0) = rm := by
    apply BitVec.eq_of_toNat_eq; simp only [fXrm, packG, BitVec.toNat_ofNat]; omega
  have ex : fXHigh3 (packG 126#7 pr (BitVec.ofNat 5 (16 + rm.toNat * 2 ^ 2 + acc.toNat)) t1 t0) ≠ 0#3 := by
    intro h; have h := congrArg BitVec.toNat h; simp only [fXHigh3, packG, BitVec.toNat_ofNat] at h; omega
  generalize packG 126#7 pr (BitVec.ofNat 5 (16 + rm.toNat * 2 ^ 2 + acc.toNat)) t1 t0 = w at *
  rw [decode_op7E w e0]
  simp [decodeOp7E, e1, e2, e3, e4, e5, e6, ex]

theorem blockFetch (tile : Nat) (ctx : Nat) : Statement (.blockFetch tile ctx) := by
  intro _ h; exact absurd h Bool.false_ne_true

theorem resultDelivery (tile : Nat) (ctx : Nat) (k : Nat) : Statement (.resultDelivery tile ctx k) := by
  intro _ h; exact absurd h Bool.false_ne_true

theorem blockEnd (tile : Nat) (ctx : Nat) : Statement (.blockEnd tile ctx) := by
  intro _ h; exact absurd h Bool.false_ne_true

theorem waitRetry (tile : Nat) (ctx : Nat) (idx : Nat) : Statement (.waitRetry tile ctx idx) := by
  intro _ h; exact absurd h Bool.false_ne_true

theorem reservationExpire (word : Nat) : Statement (.reservationExpire word) := by
  intro _ h; exact absurd h Bool.false_ne_true

theorem claimWaitEnd (tile : Nat) (ctx : Nat) (idx : Nat) : Statement (.claimWaitEnd tile ctx idx) := by
  intro _ h; exact absurd h Bool.false_ne_true

theorem queueWaitRetry (tile : Nat) (ctx : Nat) (idx : Nat) : Statement (.queueWaitRetry tile ctx idx) := by
  intro _ h; exact absurd h Bool.false_ne_true

theorem qtimeout (tile : Nat) (ctx : Nat) (idx : Nat) : Statement (.qtimeout tile ctx idx) := by
  intro _ h; exact absurd h Bool.false_ne_true

theorem cqCombine (die : Nat) : Statement (.cqCombine die) := by
  intro _ h; exact absurd h Bool.false_ne_true

theorem waitPoll (tile : Nat) (ctx : Nat) (idx : Nat) : Statement (.waitPoll tile ctx idx) := by
  intro _ h; exact absurd h Bool.false_ne_true

theorem waitTimeout (tile : Nat) (ctx : Nat) (idx : Nat) : Statement (.waitTimeout tile ctx idx) := by
  intro _ h; exact absurd h Bool.false_ne_true

theorem pauseDone (tile : Nat) (ctx : Nat) (idx : Nat) : Statement (.pauseDone tile ctx idx) := by
  intro _ h; exact absurd h Bool.false_ne_true

theorem kwaitDone (tile : Nat) (ctx : Nat) (idx : Nat) : Statement (.kwaitDone tile ctx idx) := by
  intro _ h; exact absurd h Bool.false_ne_true

theorem kwaitLimitExpire (tile : Nat) (ctx : Nat) (idx : Nat) : Statement (.kwaitLimitExpire tile ctx idx) := by
  intro _ h; exact absurd h Bool.false_ne_true

theorem cfgswDrainDone (tile : Nat) (ctx : Nat) (idx : Nat) : Statement (.cfgswDrainDone tile ctx idx) := by
  intro _ h; exact absurd h Bool.false_ne_true

theorem stagingClaimWaitEnd (tile : Nat) (ctx : Nat) (idx : Nat) : Statement (.stagingClaimWaitEnd tile ctx idx) := by
  intro _ h; exact absurd h Bool.false_ne_true

theorem injectSlotRetry (tile : Nat) (ctx : Nat) (idx : Nat) : Statement (.injectSlotRetry tile ctx idx) := by
  intro _ h; exact absurd h Bool.false_ne_true

theorem wideApply (tile : Nat) : Statement (.wideApply tile) := by
  intro _ h; exact absurd h Bool.false_ne_true

theorem wrunIteration (tile : Nat) : Statement (.wrunIteration tile) := by
  intro _ h; exact absurd h Bool.false_ne_true

theorem elementFire (tile : Nat) (elem : Nat) (more : List (Nat × Nat)) : Statement (.elementFire tile elem more) := by
  intro _ h; exact absurd h Bool.false_ne_true

theorem killArrive (tile : Nat) (elem : Nat) (slot : Nat) (port : Nat) : Statement (.killArrive tile elem slot port) := by
  intro _ h; exact absurd h Bool.false_ne_true

theorem killDiscard (tile : Nat) (elem : Nat) (slot : Nat) (port : Nat) : Statement (.killDiscard tile elem slot port) := by
  intro _ h; exact absurd h Bool.false_ne_true

theorem lutfDigit (tile : Nat) (elem : Nat) : Statement (.lutfDigit tile elem) := by
  intro _ h; exact absurd h Bool.false_ne_true

theorem meStepDone (tile : Nat) (elem : Nat) : Statement (.meStepDone tile elem) := by
  intro _ h; exact absurd h Bool.false_ne_true

theorem spRepresent (tile : Nat) (elem : Nat) (slot : Nat) : Statement (.spRepresent tile elem slot) := by
  intro _ h; exact absurd h Bool.false_ne_true

theorem feTimeout (tile : Nat) (elem : Nat) (slot : Nat) : Statement (.feTimeout tile elem slot) := by
  intro _ h; exact absurd h Bool.false_ne_true

theorem extentFetch (tile : Nat) (elem : Nat) (slot : Nat) : Statement (.extentFetch tile elem slot) := by
  intro _ h; exact absurd h Bool.false_ne_true

theorem spillRetry (tile : Nat) (elem : Nat) (ok : Bool) : Statement (.spillRetry tile elem ok) := by
  intro _ h; exact absurd h Bool.false_ne_true

theorem gapplyToken (k : Nat) : Statement (.gapplyToken k) := by
  intro _ h; exact absurd h Bool.false_ne_true

theorem tokenReply (k : Nat) : Statement (.tokenReply k) := by
  intro _ h; exact absurd h Bool.false_ne_true

theorem regionError (region : Nat) : Statement (.regionError region) := by
  intro _ h; exact absurd h Bool.false_ne_true

theorem invalidation (asid : Nat) (all : Bool) (va : Nat) (len : Nat) : Statement (.invalidation asid all va len) := by
  intro _ h; exact absurd h Bool.false_ne_true

theorem qTailWrite (queue : Nat) (value : BitVec 64) : Statement (.qTailWrite queue value) := by
  intro _ h; exact absurd h Bool.false_ne_true

theorem qCtlWrite (queue : Nat) (value : BitVec 64) : Statement (.qCtlWrite queue value) := by
  intro _ h; exact absurd h Bool.false_ne_true

theorem registerWrite (ctl : Bool) (addr : Nat) (value : BitVec 64) : Statement (.registerWrite ctl addr value) := by
  intro _ h; exact absurd h Bool.false_ne_true

theorem submissionTake (die : Nat) : Statement (.submissionTake die) := by
  intro _ h; exact absurd h Bool.false_ne_true

theorem replayStart (die : Nat) : Statement (.replayStart die) := by
  intro _ h; exact absurd h Bool.false_ne_true

theorem replayEnd (replay : Nat) : Statement (.replayEnd replay) := by
  intro _ h; exact absurd h Bool.false_ne_true

theorem nodeFinish (replay : Nat) (node : Nat) : Statement (.nodeFinish replay node) := by
  intro _ h; exact absurd h Bool.false_ne_true

theorem taskPlace (die : Nat) : Statement (.taskPlace die) := by
  intro _ h; exact absurd h Bool.false_ne_true

theorem taskRetire (region : Nat) : Statement (.taskRetire region) := by
  intro _ h; exact absurd h Bool.false_ne_true

theorem indirectCountRead (replay : Nat) (node : Nat) : Statement (.indirectCountRead replay node) := by
  intro _ h; exact absurd h Bool.false_ne_true

theorem launchCount (replay : Nat) (node : Nat) : Statement (.launchCount replay node) := by
  intro _ h; exact absurd h Bool.false_ne_true

theorem condPredicateRead (replay : Nat) (node : Nat) : Statement (.condPredicateRead replay node) := by
  intro _ h; exact absurd h Bool.false_ne_true

theorem loopIteration (replay : Nat) (node : Nat) : Statement (.loopIteration replay node) := by
  intro _ h; exact absurd h Bool.false_ne_true

theorem nodeWaitTimeout (replay : Nat) (node : Nat) : Statement (.nodeWaitTimeout replay node) := by
  intro _ h; exact absurd h Bool.false_ne_true

theorem stepsyncMessage (link : Nat) (graphid : Nat) (step : Nat) (digest : Nat) : Statement (.stepsyncMessage link graphid step digest) := by
  intro _ h; exact absurd h Bool.false_ne_true

theorem cwDecide (region : Nat) : Statement (.cwDecide region) := by
  intro _ h; exact absurd h Bool.false_ne_true

theorem copyComplete (k : Nat) (n : Nat) : Statement (.copyComplete k n) := by
  intro _ h; exact absurd h Bool.false_ne_true

theorem completionWrite (k : Nat) (ok : Bool) : Statement (.completionWrite k ok) := by
  intro _ h; exact absurd h Bool.false_ne_true

theorem enginePageResume (k : Nat) (ok : Bool) : Statement (.enginePageResume k ok) := by
  intro _ h; exact absurd h Bool.false_ne_true

theorem imposeComplete (k : Nat) : Statement (.imposeComplete k) := by
  intro _ h; exact absurd h Bool.false_ne_true

theorem dgstComplete (k : Nat) : Statement (.dgstComplete k) := by
  intro _ h; exact absurd h Bool.false_ne_true

theorem preemptRequest (region : Nat) : Statement (.preemptRequest region) := by
  intro _ h; exact absurd h Bool.false_ne_true

theorem preemptSave (region : Nat) (area : Nat) : Statement (.preemptSave region area) := by
  intro _ h; exact absurd h Bool.false_ne_true

theorem containment (region : Nat) (cause : Nat) : Statement (.containment region cause) := by
  intro _ h; exact absurd h Bool.false_ne_true

theorem faultDetect (source : Nat) (fatal : Bool) (kind : Nat) (unit : Nat) (addr : Nat) : Statement (.faultDetect source fatal kind unit addr) := by
  intro _ h; exact absurd h Bool.false_ne_true

theorem selfTestStart (kind : Nat) (unit : Nat) : Statement (.selfTestStart kind unit) := by
  intro _ h; exact absurd h Bool.false_ne_true

theorem selfTestEnd (kind : Nat) (unit : Nat) (pass : Bool) (router : Bool) : Statement (.selfTestEnd kind unit pass router) := by
  intro _ h; exact absurd h Bool.false_ne_true

theorem patrolBist (tile : Nat) (elem : Nat) (pass : Bool) : Statement (.patrolBist tile elem pass) := by
  intro _ h; exact absurd h Bool.false_ne_true

theorem mCmdPreempt : Statement (.mCmdPreempt) := by
  intro _ h; exact absurd h Bool.false_ne_true

theorem mCmdEndGraph : Statement (.mCmdEndGraph) := by
  intro _ h; exact absurd h Bool.false_ne_true

theorem mCmdAttest : Statement (.mCmdAttest) := by
  intro _ h; exact absurd h Bool.false_ne_true

theorem mCmdClearFence : Statement (.mCmdClearFence) := by
  intro _ h; exact absurd h Bool.false_ne_true

theorem mCmdRecover (len : Nat) : Statement (.mCmdRecover len) := by
  intro _ h; exact absurd h Bool.false_ne_true

theorem mCmdSetHwlim : Statement (.mCmdSetHwlim) := by
  intro _ h; exact absurd h Bool.false_ne_true

theorem mCmdRefused (code : Nat) : Statement (.mCmdRefused code) := by
  intro _ h; exact absurd h Bool.false_ne_true

theorem mCmdComplete : Statement (.mCmdComplete) := by
  intro _ h; exact absurd h Bool.false_ne_true

theorem mStatusRead : Statement (.mStatusRead) := by
  intro _ h; exact absurd h Bool.false_ne_true

theorem bar2Access (addr : Nat) (write : Bool) (size : Nat) (value : BitVec 64) : Statement (.bar2Access addr write size value) := by
  intro _ h; exact absurd h Bool.false_ne_true

theorem aperturePlain (addr : Nat) (write : Bool) (size : Nat) (value : BitVec 64) : Statement (.aperturePlain addr write size value) := by
  intro _ h; exact absurd h Bool.false_ne_true

theorem apertureWaitingLoad (addr : Reach) : Statement (.apertureWaitingLoad addr) := by
  intro _ h; exact absurd h Bool.false_ne_true

theorem apertureFillingStore (addr : Reach) (value : BitVec 64) : Statement (.apertureFillingStore addr value) := by
  intro _ h; exact absurd h Bool.false_ne_true

theorem apertureConsumingLoad (addr : Reach) : Statement (.apertureConsumingLoad addr) := by
  intro _ h; exact absurd h Bool.false_ne_true

theorem apertureClearingStore (addr : Reach) (value : BitVec 64) : Statement (.apertureClearingStore addr value) := by
  intro _ h; exact absurd h Bool.false_ne_true

theorem apertureTest (addr : Reach) : Statement (.apertureTest addr) := by
  intro _ h; exact absurd h Bool.false_ne_true

theorem hostWaitExpire (k : Nat) : Statement (.hostWaitExpire k) := by
  intro _ h; exact absurd h Bool.false_ne_true

theorem msixUnmask (vector : Nat) : Statement (.msixUnmask vector) := by
  intro _ h; exact absurd h Bool.false_ne_true

theorem functionLevelReset : Statement (.functionLevelReset) := by
  intro _ h; exact absurd h Bool.false_ne_true

theorem deviceReset : Statement (.deviceReset) := by
  intro _ h; exact absurd h Bool.false_ne_true

theorem bootStage (fail : Nat) : Statement (.bootStage fail) := by
  intro _ h; exact absurd h Bool.false_ne_true

theorem linkFrameReceive (link : Nat) (channel : Nat) (kind : Nat) (tag : Nat) (mask : Nat) (payload : Nat) : Statement (.linkFrameReceive link channel kind tag mask payload) := by
  intro _ h; exact absurd h Bool.false_ne_true

theorem linkDown (link : Nat) : Statement (.linkDown link) := by
  intro _ h; exact absurd h Bool.false_ne_true

theorem channelBind (link : Nat) (channel : Nat) (asid : Nat) (peer : Nat) : Statement (.channelBind link channel asid peer) := by
  intro _ h; exact absurd h Bool.false_ne_true

theorem clockThrottle (level : Nat) : Statement (.clockThrottle level) := by
  intro _ h; exact absurd h Bool.false_ne_true

theorem clQreqSet (cluster : Nat) : Statement (.clQreqSet cluster) := by
  intro _ h; exact absurd h Bool.false_ne_true

theorem clQreqClear (cluster : Nat) : Statement (.clQreqClear cluster) := by
  intro _ h; exact absurd h Bool.false_ne_true

theorem clusterQuiesceAck (cluster : Nat) : Statement (.clusterQuiesceAck cluster) := by
  intro _ h; exact absurd h Bool.false_ne_true

theorem clSaveGo (cluster : Nat) : Statement (.clSaveGo cluster) := by
  intro _ h; exact absurd h Bool.false_ne_true

theorem clusterSaveDone (cluster : Nat) (ok : Bool) : Statement (.clusterSaveDone cluster ok) := by
  intro _ h; exact absurd h Bool.false_ne_true

theorem clClkgGate (cluster : Nat) : Statement (.clClkgGate cluster) := by
  intro _ h; exact absurd h Bool.false_ne_true

theorem clRailOff (cluster : Nat) : Statement (.clRailOff cluster) := by
  intro _ h; exact absurd h Bool.false_ne_true

theorem railGoodFall (cluster : Nat) : Statement (.railGoodFall cluster) := by
  intro _ h; exact absurd h Bool.false_ne_true

theorem clWakeGo (cluster : Nat) : Statement (.clWakeGo cluster) := by
  intro _ h; exact absurd h Bool.false_ne_true

theorem clusterWakeDone (cluster : Nat) (failed : List (Nat × Bool)) (ok : Bool) : Statement (.clusterWakeDone cluster failed ok) := by
  intro _ h; exact absurd h Bool.false_ne_true

theorem clQackWrite (cluster : Nat) : Statement (.clQackWrite cluster) := by
  intro _ h; exact absurd h Bool.false_ne_true

theorem asidTeardown (asid : Nat) : Statement (.asidTeardown asid) := by
  intro _ h; exact absurd h Bool.false_ne_true

theorem tileReset (tile : Nat) : Statement (.tileReset tile) := by
  intro _ h; exact absurd h Bool.false_ne_true

theorem forcedPowerLoss (cluster : Nat) : Statement (.forcedPowerLoss cluster) := by
  intro _ h; exact absurd h Bool.false_ne_true

theorem crossingSlotArrival (tile : Nat) (elem : Nat) (port : Nat) : Statement (.crossingSlotArrival tile elem port) := by
  intro _ h; exact absurd h Bool.false_ne_true

theorem configurationRequest : Statement (.configurationRequest) := by
  intro _ h; exact absurd h Bool.false_ne_true

end Sys2Proof.Laws.RoundTrip
end

