-- ==== Sys2Proof/Safety.lean ====
section
/-! DEFINITION. What counts as a safe state and a safe step, in the terms that statements use. -/

namespace Sys2Proof

open Sys2Proof.Machine

/-- Memory and the presence bits are in their canonical form: equal contents are equal data. -/
def Machine.State.canonical (s : State) : Prop := Memory.wf s.mem = true ∧ fullWf s.full = true

/-- A step that neither faults nor refuses. -/
def Machine.stepRuns (s : State) : Prop := ∃ t, step s = .next t

/-- What a byte of physical memory reads as. -/
def Machine.State.readByte (s : State) (a : Nat) : Byte := memGet s.mem a

/-- Whether a word of physical memory is FULL; host words always are (23 R418). -/
def Machine.State.readFull (s : State) (k : Nat) : Bool := isHost (k * 8) || fullGet s.full k

end Sys2Proof
end

