-- ==== Sys2Proof/Certificates/Slice0/Obligations.lean ====
section
/-! DEFINITION. The statements about the model, each of them a proposition that the provers settle, and the terms they are stated in.
Each says in its docstring which rules of spec/ it formalises. -/

namespace Sys2Proof.Claims

open Sys2Proof Sys2Proof.Machine

/-! ### Terms -/

/-- Block `b` is in flight in the context in focus, and the instruction in focus has not fired. -/
def standing (s : State) (b : Block) : Prop :=
  s.work.block = some b ∧ s.work.me.status = .running ∧ s.focus.idx < b.insts.length ∧ (b.inst s.focus.idx).phase = .idle

/-- Instruction `i` in focus may fire, and acts when it does (09 R176): the slots it takes hold the values `l`, `r` and, in the
third slot, `p`; its predicate, if it has one, holds. -/
def ready (s : State) (i : Instr) (b : Block) (l r p : Word) : Prop :=
  standing s b
    ∧ ((shape i).left = true → (b.inst s.focus.idx).left = some (.val l))
    ∧ ((shape i).right = true → (b.inst s.focus.idx).right = some (.val r))
    ∧ ((shape i).takesThird = true → (b.inst s.focus.idx).third = some (.val p))
    ∧ ((shape i).pr = 2#2 → p.getLsbD 0 = false) ∧ ((shape i).pr = 3#2 → p.getLsbD 0 = true)

/-- The values on their way to the targets of `i` (09 R177): T0 and T1, where they name a target. -/
def sends (i : Instr) (idx : Nat) (v : Operand) (due : Nat) : List InFlight :=
  (if (shape i).t0 = noTarget then [] else [⟨idx, (shape i).t0, v, due⟩])
    ++ (if (shape i).t1 = noTarget then [] else [⟨idx, (shape i).t1, v, due⟩])

/-- The state with another block in the context in focus, and nothing else changed. -/
def withBlock (s : State) (b : Block) : State := s.lift (fun w => w.setBlock b)

/-- `b` with the phase of the instruction in focus changed. -/
def phased (s : State) (b : Block) (ph : Phase) : Block :=
  { b with insts := listModify (fun x => { x with phase := ph }) s.focus.idx b.insts }

/-- The instruction in focus has performed and its result, due after `lat` clk, is on its way: the whole next state. -/
def delivered (s : State) (i : Instr) (b : Block) (v : Word) (lat : Nat) : State :=
  withBlock s { phased s b .performed with inflight := b.inflight ++ sends i s.focus.idx (.val v) (s.now + lat) }

/-- The instruction in focus has trapped (09 R180): the whole next state. -/
def trapped (s : State) (b : Block) (cause : Nat) (einfo : Word) : State :=
  withBlock s { phased s b .trapped with
    traps := b.traps ++ [⟨s.focus.idx, cause, einfo⟩], waits := b.waits.filter (fun x => x.idx != s.focus.idx) }

/-- The instruction in focus has performed, and an effect stands for commit: the whole next state. -/
def promised (s : State) (b : Block) (e : Effect) : State :=
  withBlock s { phased s b .performed with effs := b.effs ++ [(s.focus.idx, e)] }

/-! ### Results of the integer instructions (09 R185 to R195) -/

/-- R185: each result as a number mod 2^64, or bit by bit. -/
def arithResult (i : Instr) (a b : Word) : Option Word :=
  let n := b.toNat % 64
  match i with
  | .add _ _ _ => some (BitVec.ofNat 64 (a.toNat + b.toNat))
  | .sub _ _ _ => some (BitVec.ofInt 64 (a.toInt - b.toInt))
  | .and _ _ _ => some (a &&& b)
  | .or _ _ _ => some (a ||| b)
  | .xor _ _ _ => some (a ^^^ b)
  | .andn _ _ _ => some (a &&& ~~~b)
  | .orn _ _ _ => some (a ||| ~~~b)
  | .xnor _ _ _ => some (~~~(a ^^^ b))
  | .shl _ _ _ => some (BitVec.ofNat 64 (a.toNat * 2 ^ n))
  | .shr _ _ _ => some (BitVec.ofNat 64 (a.toNat / 2 ^ n))
  | .sar _ _ _ => some (BitVec.ofInt 64 (a.toInt / 2 ^ n))
  | .rol _ _ _ => some (BitVec.ofNat 64 (a.toNat * 2 ^ n + a.toNat / 2 ^ (64 - n)))
  | .ror _ _ _ => some (BitVec.ofNat 64 (a.toNat / 2 ^ n + a.toNat * 2 ^ (64 - n)))
  | .min _ _ _ => some (BitVec.ofInt 64 (min a.toInt b.toInt))
  | .max _ _ _ => some (BitVec.ofInt 64 (max a.toInt b.toInt))
  | .minu _ _ _ => some (BitVec.ofNat 64 (min a.toNat b.toNat))
  | .maxu _ _ _ => some (BitVec.ofNat 64 (max a.toNat b.toNat))
  | .addw _ _ _ => some (BitVec.ofInt 64 (BitVec.ofNat 32 (a.toNat + b.toNat)).toInt)
  | .subw _ _ _ => some (BitVec.ofInt 64 (BitVec.ofInt 32 (a.toInt - b.toInt)).toInt)
  | _ => none

/-- Quotient and rest of R186 on numbers: signed with `w` bits. -/
def quotS (w : Nat) (x y : Int) : Int :=
  if y = 0 then 2 ^ w - 1 else if x = -2 ^ (w - 1) ∧ y = -1 then x else x.tdiv y
def restS (w : Nat) (x y : Int) : Int :=
  if y = 0 then x else if x = -2 ^ (w - 1) ∧ y = -1 then 0 else x.tmod y
/-- Quotient and rest of R186 on numbers: unsigned with `w` bits. -/
def quotU (w x y : Nat) : Nat := if y = 0 then 2 ^ w - 1 else x / y
def restU (x y : Nat) : Nat := if y = 0 then x else x % y

/-- A W form of R186: the value's low 32 bits, sign-extended. -/
def narrow (v : Int) : Word := BitVec.ofInt 64 (BitVec.ofInt 32 v).toInt

/-- R186: result and latency. -/
def mulDivResult (i : Instr) (a b : Word) : Option (Word × Nat) :=
  let x := a.toInt
  let y := b.toInt
  let u := a.setWidth 32
  let v := b.setWidth 32
  match i with
  | .mul _ _ _ => some (BitVec.ofInt 64 (x * y), 3)
  | .mulh _ _ _ => some (BitVec.ofInt 64 (x * y / 2 ^ 64), 3)
  | .mulhu _ _ _ => some (BitVec.ofNat 64 (a.toNat * b.toNat / 2 ^ 64), 3)
  | .mulhsu _ _ _ => some (BitVec.ofInt 64 (x * b.toNat / 2 ^ 64), 3)
  | .div _ _ _ => some (BitVec.ofInt 64 (quotS 64 x y), 36)
  | .divu _ _ _ => some (BitVec.ofNat 64 (quotU 64 a.toNat b.toNat), 36)
  | .rem _ _ _ => some (BitVec.ofInt 64 (restS 64 x y), 36)
  | .remu _ _ _ => some (BitVec.ofNat 64 (restU a.toNat b.toNat), 36)
  | .mulw _ _ _ => some (narrow (u.toInt * v.toInt), 3)
  | .divw _ _ _ => some (narrow (quotS 32 u.toInt v.toInt), 36)
  | .divuw _ _ _ => some (narrow (quotU 32 u.toNat v.toNat), 36)
  | .remw _ _ _ => some (narrow (restS 32 u.toInt v.toInt), 36)
  | .remuw _ _ _ => some (narrow (restU u.toNat v.toNat), 36)
  | _ => none

/-- R187: what the result `v` of a one-operand instruction is. -/
def unaryIs (i : Instr) (a v : Word) : Option Prop :=
  match i with
  | .clz _ _ _ => some (v.toNat ≤ 64 ∧ (∀ k, k < v.toNat → a.getLsbD (63 - k) = false) ∧ (v.toNat < 64 → a.getLsbD (63 - v.toNat) = true))
  | .ctz _ _ _ => some (v.toNat ≤ 64 ∧ (∀ k, k < v.toNat → a.getLsbD k = false) ∧ (v.toNat < 64 → a.getLsbD v.toNat = true))
  | .popc _ _ _ => some (v.toNat = ((List.range 64).filter (fun k => a.getLsbD k)).length)
  | .brev _ _ _ => some (∀ k, k < 64 → v.getLsbD k = a.getLsbD (63 - k))
  | .bswap _ _ _ => some (∀ k, k < 8 → bits v.toNat (8 * k) 8 = bits a.toNat (8 * (7 - k)) 8)
  | .sextb _ _ _ => some (v.toInt = (a.setWidth 8).toInt)
  | .sexth _ _ _ => some (v.toInt = (a.setWidth 16).toInt)
  | .sextw _ _ _ => some (v.toInt = (a.setWidth 32).toInt)
  | .zextb _ _ _ => some (v.toNat = a.toNat % 2 ^ 8)
  | .zexth _ _ _ => some (v.toNat = a.toNat % 2 ^ 16)
  | .zextw _ _ _ => some (v.toNat = a.toNat % 2 ^ 32)
  | _ => none

/-- R188 to R190, R193 and R194: result and latency (09 R208). -/
def immediateResult (i : Instr) (a b : Word) : Option (Word × Nat) :=
  match i with
  | .addi _ k _ => some (BitVec.ofInt 64 (a.toInt + k.toInt), 1)
  | .andi _ k _ => some (a &&& BitVec.ofInt 64 k.toInt, 1)
  | .ori _ k _ => some (a ||| BitVec.ofInt 64 k.toInt, 1)
  | .xori _ k _ => some (a ^^^ BitVec.ofInt 64 k.toInt, 1)
  | .muli _ k _ => some (BitVec.ofInt 64 (a.toInt * k.toInt), 3)
  | .shli _ n _ => some (BitVec.ofNat 64 (a.toNat * 2 ^ n.toNat), 1)
  | .shri _ n _ => some (BitVec.ofNat 64 (a.toNat / 2 ^ n.toNat), 1)
  | .sari _ n _ => some (BitVec.ofInt 64 (a.toInt / 2 ^ n.toNat), 1)
  | .lea1 _ _ _ => some (BitVec.ofNat 64 (a.toNat + b.toNat), 1)
  | .lea2 _ _ _ => some (BitVec.ofNat 64 (a.toNat + 2 * b.toNat), 1)
  | .lea4 _ _ _ => some (BitVec.ofNat 64 (a.toNat + 4 * b.toNat), 1)
  | .lea8 _ _ _ => some (BitVec.ofNat 64 (a.toNat + 8 * b.toNat), 1)
  | .lea16 _ _ _ => some (BitVec.ofNat 64 (a.toNat + 16 * b.toNat), 1)
  | .genc k _ => some (BitVec.ofInt 64 k.toInt, 1)
  | .appc v _ => some (BitVec.ofNat 64 (a.toNat * 2 ^ 16 + v.toNat), 1)
  | .mov _ _ _ => some (a, 1)
  | .movi _ k _ => some (BitVec.ofInt 64 k.toInt, 1)
  | _ => none

/-- R191, R192: the condition of a compare. -/
def compareHolds (i : Instr) (a b : Word) : Option Bool :=
  match i with
  | .teq _ _ _ => some (a.toNat = b.toNat)
  | .tne _ _ _ => some (a.toNat ≠ b.toNat)
  | .tlt _ _ _ => some (a.toInt < b.toInt)
  | .tle _ _ _ => some (a.toInt ≤ b.toInt)
  | .tgt _ _ _ => some (b.toInt < a.toInt)
  | .tge _ _ _ => some (b.toInt ≤ a.toInt)
  | .tltu _ _ _ => some (a.toNat < b.toNat)
  | .tleu _ _ _ => some (a.toNat ≤ b.toNat)
  | .tgtu _ _ _ => some (b.toNat < a.toNat)
  | .tgeu _ _ _ => some (b.toNat ≤ a.toNat)
  | .tbs _ _ _ => some (a.getLsbD (b.toNat % 64))
  | .tbc _ _ _ => some (!a.getLsbD (b.toNat % 64))
  | .teqi _ k _ => some (a.toInt = k.toInt)
  | .tnei _ k _ => some (a.toInt ≠ k.toInt)
  | .tlti _ k _ => some (a.toInt < k.toInt)
  | .tlei _ k _ => some (a.toInt ≤ k.toInt)
  | .tgti _ k _ => some (k.toInt < a.toInt)
  | .tgei _ k _ => some (k.toInt ≤ a.toInt)
  | .tltui _ k _ => some (a.toNat < (k.toInt % 2 ^ 64).toNat)
  | .tgeui _ k _ => some ((k.toInt % 2 ^ 64).toNat ≤ a.toNat)
  | _ => none

/-- R185, R186, R191: op and xop of the two-operand instructions. -/
def opXop (i : Instr) : Option (Nat × Nat) :=
  match i with
  | .add _ _ _ => some (1, 0)
  | .sub _ _ _ => some (1, 1)
  | .and _ _ _ => some (1, 2)
  | .or _ _ _ => some (1, 3)
  | .xor _ _ _ => some (1, 4)
  | .andn _ _ _ => some (1, 5)
  | .orn _ _ _ => some (1, 6)
  | .xnor _ _ _ => some (1, 7)
  | .shl _ _ _ => some (1, 8)
  | .shr _ _ _ => some (1, 9)
  | .sar _ _ _ => some (1, 10)
  | .rol _ _ _ => some (1, 11)
  | .ror _ _ _ => some (1, 12)
  | .min _ _ _ => some (1, 13)
  | .max _ _ _ => some (1, 14)
  | .minu _ _ _ => some (1, 15)
  | .maxu _ _ _ => some (1, 16)
  | .addw _ _ _ => some (1, 17)
  | .subw _ _ _ => some (1, 18)
  | .mul _ _ _ => some (2, 0)
  | .mulh _ _ _ => some (2, 1)
  | .mulhu _ _ _ => some (2, 2)
  | .mulhsu _ _ _ => some (2, 3)
  | .div _ _ _ => some (2, 4)
  | .divu _ _ _ => some (2, 5)
  | .rem _ _ _ => some (2, 6)
  | .remu _ _ _ => some (2, 7)
  | .mulw _ _ _ => some (2, 8)
  | .divw _ _ _ => some (2, 9)
  | .divuw _ _ _ => some (2, 10)
  | .remw _ _ _ => some (2, 11)
  | .remuw _ _ _ => some (2, 12)
  | .teq _ _ _ => some (16, 0)
  | .tne _ _ _ => some (16, 1)
  | .tlt _ _ _ => some (16, 2)
  | .tle _ _ _ => some (16, 3)
  | .tgt _ _ _ => some (16, 4)
  | .tge _ _ _ => some (16, 5)
  | .tltu _ _ _ => some (16, 6)
  | .tleu _ _ _ => some (16, 7)
  | .tgtu _ _ _ => some (16, 8)
  | .tgeu _ _ _ => some (16, 9)
  | .tbs _ _ _ => some (16, 10)
  | .tbc _ _ _ => some (16, 11)
  | _ => none

/-- R192: op of the immediate compares. -/
def compareOp (i : Instr) : Option Nat :=
  match i with
  | .teqi _ _ _ => some 17
  | .tnei _ _ _ => some 18
  | .tlti _ _ _ => some 19
  | .tlei _ _ _ => some 20
  | .tgti _ _ _ => some 21
  | .tgei _ _ _ => some 22
  | .tltui _ _ _ => some 23
  | .tgeui _ _ _ => some 24
  | _ => none

/-- The op and xop fields of a word (R145). -/
def opOf (w : IWord) : Nat := w.toNat / 2 ^ 25
def xopOf (w : IWord) : Nat := w.toNat / 2 ^ 18 % 2 ^ 5

end Sys2Proof.Claims

open Sys2Proof Sys2Proof.Machine Sys2Proof.Claims

/-- R185, R208: an instruction of the two-operand integer table that may fire completes with the table's result one clk later, and
with no other change: no flag, no trap, no register, no memory. Its word has op 0x01 and the table's xop; values 19 to 31 are unassigned. -/
def Sys2Proof.Claims.IntegerArithmeticCompletes : Prop :=
  (∀ (s : State) (i : Instr) (b : Block) (l r p v : Word), arithResult i l r = some v → ready s i b l r p →
    exec i s = .next (delivered s i b v 1))
  ∧ (∀ (i : Instr) (o x : Nat), opXop i = some (o, x) → opOf (encode i) = o ∧ xopOf (encode i) = x)
  ∧ ∀ w : IWord, opOf w = 0x01 → 19 ≤ xopOf w → decode w = none

/-- R186, R208: the multiply and divide instructions complete with the rule's value, the corner cases of division among them, and with no
other change: no flag, no trap. Their words have op 0x02 and the rule's xop; values 13 to 31 are unassigned. -/
def Sys2Proof.Claims.MultiplyDivideCompletes : Prop :=
  (∀ (s : State) (i : Instr) (b : Block) (l r p v : Word) (lat : Nat), mulDivResult i l r = some (v, lat) → ready s i b l r p →
    exec i s = .next (delivered s i b v lat))
  ∧ ∀ w : IWord, opOf w = 0x02 → 13 ≤ xopOf w → decode w = none

/-- R187: each one-operand instruction completes with the one value that the rule describes. -/
def Sys2Proof.Claims.OneOperandCompletes : Prop :=
  ∀ (s : State) (i : Instr) (b : Block) (l r p v : Word) (P : Prop), unaryIs i l v = some P → P → ready s i b l r p →
    exec i s = .next (delivered s i b v 1)

/-- R188, R190, R193, R194: immediates, address arithmetic, constants and moves. -/
def Sys2Proof.Claims.ImmediateAndMoveCompletes : Prop :=
  ∀ (s : State) (i : Instr) (b : Block) (l r p v : Word) (lat : Nat), immediateResult i l r = some (v, lat) → ready s i b l r p →
    exec i s = .next (delivered s i b v lat)

/-- R191, R192: a compare delivers 1 when its condition holds, else 0, and changes nothing else. Its word has the rules' op and xop, and
the values 12 to 31 of xop are unassigned. -/
def Obligations.CompareCompletes : Prop :=
  (∀ (s : State) (i : Instr) (b : Block) (l r p : Word) (c : Bool), compareHolds i l r = some c → ready s i b l r p →
    exec i s = .next (delivered s i b (if c then 1 else 0) 1))
  ∧ (∀ (i : Instr) (x : Nat), opXop i = some (0x10, x) → opOf (encode i) = 0x10 ∧ xopOf (encode i) = x)
  ∧ (∀ (i : Instr) (o : Nat), compareOp i = some o → opOf (encode i) = o)
  ∧ ∀ w : IWord, opOf w = 0x10 → 12 ≤ xopOf w → decode w = none

/-- R189: EXT, EXTS and INS complete with the field of `len` bits at `pos`, for every field inside 64 bits: EXT reads it, EXTS extends
its top bit, INS replaces it and keeps every other bit. -/
def Sys2Proof.Claims.BitFieldCompletes : Prop :=
  ∀ (s : State) (pr : BitVec 2) (len pos : BitVec 6) (t0 : BitVec 9) (b : Block) (l r p v : Word), pos.toNat + len.toNat < 64 →
    (ready s (.ext pr len pos t0) b l r p →
      (∀ k, k < 64 → v.getLsbD k = (decide (k ≤ len.toNat) && l.getLsbD (pos.toNat + k))) →
      exec (.ext pr len pos t0) s = .next (delivered s (.ext pr len pos t0) b v 1))
    ∧ (ready s (.exts pr len pos t0) b l r p →
      (∀ k, k < 64 → v.getLsbD k = l.getLsbD (pos.toNat + min k len.toNat)) →
      exec (.exts pr len pos t0) s = .next (delivered s (.exts pr len pos t0) b v 1))
    ∧ (ready s (.ins pr len pos t0) b l r p →
      (∀ k, k < 64 → v.getLsbD k =
        if pos.toNat ≤ k ∧ k ≤ pos.toNat + len.toNat then r.getLsbD (k - pos.toNat) else l.getLsbD k) →
      exec (.ins pr len pos t0) s = .next (delivered s (.ins pr len pos t0) b v 1))

/-- R195: NULL delivers a null to its targets. R176: an instruction that takes a null in some slot is nullified and delivers a null to its
targets, and a store-class one serves its lsid; one that takes no null and whose predicate does not match has no effect. -/
def Obligations.NullsAndPredicates : Prop :=
  (∀ (s : State) (pr : BitVec 2) (t1 t0 : BitVec 9) (b : Block) (l r p : Word), ready s (.null pr t1 t0) b l r p →
    exec (.null pr t1 t0) s = .next (withBlock s
      { phased s b .performed with inflight := b.inflight ++ sends (.null pr t1 t0) s.focus.idx .null (s.now + 1) }))
  ∧ (∀ (s : State) (i : Instr) (b : Block), i.isEncoded = true → s.work.wideIdle = true → standing s b →
    (shape i).filled (b.inst s.focus.idx) = true → (shape i).hasNull (b.inst s.focus.idx) = true →
    exec i s = .next (withBlock s (match lsidOf i with
      | some (_, true) => Block.serve { b with inflight := b.inflight ++ sends i s.focus.idx .null (s.now + 1) } s.focus.idx .nullified
      | _ => { phased s b .nullified with inflight := b.inflight ++ sends i s.focus.idx .null (s.now + 1) })))
  ∧ (∀ (s : State) (i : Instr) (b : Block) (p : Word), i.isEncoded = true → s.work.wideIdle = true → standing s b →
    (shape i).filled (b.inst s.focus.idx) = true → (shape i).hasNull (b.inst s.focus.idx) = false →
    (b.inst s.focus.idx).third = some (.val p) →
    ((shape i).pr = 2#2 ∧ p.getLsbD 0 = true) ∨ ((shape i).pr = 3#2 ∧ p.getLsbD 0 = false) →
    exec i s = .next (withBlock s (phased s b .mismatched)))

namespace Sys2Proof.Claims

/-! ### Floating point (03 R52 to R60; 09 R201 to R207) -/

/-- The magnitude of the encoding `k`, sign left out (R52), as an exact number; the encodings ascend with it, and the one above the
largest finite value counts as the next power of two. -/
def magnitude (f : Fmt) (k : Nat) : ℚ :=
  let u : ℚ := 2 ^ (1 - (f.bias : Int) - (f.fb : Int))
  if k / 2 ^ f.fb = 0 then k * u else (2 ^ f.fb + k % 2 ^ f.fb : Nat) * u * 2 ^ (k / 2 ^ f.fb - 1)

/-- Sign, magnitude bits and exact value of the low bits of a word in a format. -/
def fpSign (f : Fmt) (a : Word) : Bool := a.getLsbD (f.eb + f.fb)
def fpMag (f : Fmt) (a : Word) : Nat := a.toNat % 2 ^ (f.eb + f.fb)
def fpValue (f : Fmt) (a : Word) : ℚ := if fpSign f a then -magnitude f (fpMag f a) else magnitude f (fpMag f a)

/-- Infinity's magnitude bits; a larger magnitude is a NaN, quiet when its most significant fraction bit is 1 (R52, R201). -/
def fpTop (f : Fmt) : Nat := (2 ^ f.eb - 1) * 2 ^ f.fb
def fpFinite (f : Fmt) (a : Word) : Bool := fpMag f a < fpTop f
def fpIsInf (f : Fmt) (a : Word) : Bool := fpMag f a == fpTop f
def fpIsNan (f : Fmt) (a : Word) : Bool := fpTop f < fpMag f a
def fpIsSnan (f : Fmt) (a : Word) : Bool := fpIsNan f a && !a.getLsbD (f.fb - 1)

/-- A magnitude with a sign as a result word, whose bits above the format are 0 (R201). -/
def fpWord (f : Fmt) (neg : Bool) (k : Nat) : Word := BitVec.ofNat 64 ((if neg then 2 ^ (f.eb + f.fb) else 0) + k)

/-- The canonical NaN of FP64 and FP32 (R56). -/
def fpNan (f : Fmt) : Word := if f = fp64 then 0x7FF8000000000000 else 0x7FC00000

/-- The number with sign `neg` and a magnitude y > 0, of which `c t` is the sign of y − t, rounds in mode `rm` to the word `v` with the
flags `fl` (R57 to R59): NX 1, UF 2, OF 4; tininess is detected after rounding. -/
def roundsTo (f : Fmt) (rm : Nat) (neg : Bool) (c : ℚ → Int) (v : Word) (fl : BitVec 5) : Prop :=
  let top := fpTop f - 1
  let away := (rm = 2 ∧ neg = false) ∨ (rm = 3 ∧ neg = true)
  let least := magnitude f (2 ^ f.fb)
  let u : ℚ := magnitude f 1
  let past := if rm = 0 then 0 ≤ c ((magnitude f top + magnitude f (top + 1)) / 2)
    else if away then 0 < c (magnitude f top) else 0 ≤ c (magnitude f (top + 1))
  let tiny := if rm = 0 then c (least - u / 4) < 0 else if away then c (least - u / 2) ≤ 0 else c least < 0
  ∃ k, v = fpWord f neg k ∧
    ((past ∧ k = (if rm = 0 ∨ away then fpTop f else top) ∧ fl = 5#5)
      ∨ (¬past ∧ k ≤ top
        ∧ (if rm = 0 then
            (c ((magnitude f k + magnitude f (k + 1)) / 2) < 0 ∨ (c ((magnitude f k + magnitude f (k + 1)) / 2) = 0 ∧ k % 2 = 0))
            ∧ (k = 0 ∨ 0 < c ((magnitude f (k - 1) + magnitude f k) / 2) ∨ (c ((magnitude f (k - 1) + magnitude f k) / 2) = 0 ∧ k % 2 = 0))
          else if away then c (magnitude f k) ≤ 0 ∧ (k = 0 ∨ 0 < c (magnitude f (k - 1)))
          else 0 ≤ c (magnitude f k) ∧ c (magnitude f (k + 1)) < 0)
        ∧ (c (magnitude f k) = 0 → fl = 0#5)
        ∧ (c (magnitude f k) ≠ 0 → tiny → fl = 3#5) ∧ (c (magnitude f k) ≠ 0 → ¬tiny → fl = 1#5)))

/-- What an FP arithmetic instruction or a conversion to FP computes from finite operands (R203, R207): its format, rounding mode, exact
value and latency (R208). FSQRT stands apart. -/
def floatExact (i : Instr) (a b c : Word) : Option (Fmt × Nat × ℚ × Nat) :=
  let fin (f : Fmt) (ws : List Word) (rm : BitVec 2) (x : ℚ) (lat : Nat) : Option (Fmt × Nat × ℚ × Nat) :=
    if ws.all (fpFinite f) then some (f, rm.toNat, x, lat) else none
  let d := fpValue fp64
  let s := fpValue fp32
  match i with
  | .faddD _ rm _ _ => fin fp64 [a, b] rm (d a + d b) 4
  | .fsubD _ rm _ _ => fin fp64 [a, b] rm (d a - d b) 4
  | .fmulD _ rm _ _ => fin fp64 [a, b] rm (d a * d b) 4
  | .fdivD _ rm _ _ => fin fp64 [a, b] rm (d a / d b) 20
  | .fmaD rm _ _ => fin fp64 [a, b, c] rm (d a * d b + d c) 4
  | .fmsD rm _ _ => fin fp64 [a, b, c] rm (d a * d b - d c) 4
  | .fnmaD rm _ _ => fin fp64 [a, b, c] rm (-(d a * d b) + d c) 4
  | .faddS _ rm _ _ => fin fp32 [a, b] rm (s a + s b) 4
  | .fsubS _ rm _ _ => fin fp32 [a, b] rm (s a - s b) 4
  | .fmulS _ rm _ _ => fin fp32 [a, b] rm (s a * s b) 4
  | .fdivS _ rm _ _ => fin fp32 [a, b] rm (s a / s b) 12
  | .fmaS rm _ _ => fin fp32 [a, b, c] rm (s a * s b + s c) 4
  | .fmsS rm _ _ => fin fp32 [a, b, c] rm (s a * s b - s c) 4
  | .fnmaS rm _ _ => fin fp32 [a, b, c] rm (-(s a * s b) + s c) 4
  | .fcvtDS _ _ _ => if fpFinite fp32 a then some (fp64, 0, s a, 2) else none
  | .fcvtSD _ rm _ _ => if fpFinite fp64 a then some (fp32, rm.toNat, d a, 2) else none
  | .fcvtDI _ rm _ _ => some (fp64, rm.toNat, a.toInt, 2)
  | .fcvtDN _ rm _ _ => some (fp64, rm.toNat, a.toNat, 2)
  | .fcvtSI _ rm _ _ => some (fp32, rm.toNat, a.toInt, 2)
  | _ => none

/-- FSQRT: its format, mode and latency. -/
def floatRoot (i : Instr) : Option (Fmt × Nat × Nat) :=
  match i with
  | .fsqrtD _ rm _ _ => some (fp64, rm.toNat, 20)
  | .fsqrtS _ rm _ _ => some (fp32, rm.toNat, 12)
  | _ => none

/-- R204 for a sum of `a` and `b` whose signs are `na` and `nb`, and R207 for conversions: what a case outside `roundsTo` gives. -/
def sumCase (f : Fmt) (rm : BitVec 2) (na nb infA infB bothZero cancels : Bool) : Option (Word × BitVec 5) :=
  if infA && infB then some (if na = nb then (fpWord f na (fpTop f), 0) else (fpNan f, 16))
  else if infA then some (fpWord f na (fpTop f), 0)
  else if infB then some (fpWord f nb (fpTop f), 0)
  else if bothZero && (na == nb) then some (fpWord f na 0, 0)
  else if cancels then some (fpWord f (decide (rm = 3#2)) 0, 0)
  else none

/-- R204: a NaN among the inputs gives the canonical NaN, with NV for a signalling one. -/
def nanCase (f : Fmt) (ws : List Word) (k : Option (Word × BitVec 5)) : Option (Word × BitVec 5) :=
  if ws.any (fpIsNan f) then some (fpNan f, if ws.any (fpIsSnan f) then 16 else 0) else k

/-- R204: a sum. -/
def sumSpecial (f : Fmt) (rm : BitVec 2) (minus : Bool) (a b : Word) : Option (Word × BitVec 5) :=
  nanCase f [a, b] (sumCase f rm (fpSign f a) (fpSign f b != minus) (fpIsInf f a) (fpIsInf f b) (fpMag f a == 0 && fpMag f b == 0)
    (decide (fpValue f a + (if minus then -fpValue f b else fpValue f b) = 0)))

/-- R204: a product. -/
def mulSpecial (f : Fmt) (a b : Word) : Option (Word × BitVec 5) :=
  let neg := fpSign f a != fpSign f b
  nanCase f [a, b] (
    if (fpIsInf f a && fpMag f b == 0) || (fpMag f a == 0 && fpIsInf f b) then some (fpNan f, 16)
    else if fpIsInf f a || fpIsInf f b then some (fpWord f neg (fpTop f), 0)
    else if fpMag f a == 0 || fpMag f b == 0 then some (fpWord f neg 0, 0) else none)

/-- R204: a quotient. DZ is 8. -/
def divSpecial (f : Fmt) (a b : Word) : Option (Word × BitVec 5) :=
  let neg := fpSign f a != fpSign f b
  nanCase f [a, b] (
    if (fpMag f a == 0 && fpMag f b == 0) || (fpIsInf f a && fpIsInf f b) then some (fpNan f, 16)
    else if fpIsInf f a then some (fpWord f neg (fpTop f), 0)
    else if fpMag f b == 0 then some (fpWord f neg (fpTop f), 8)
    else if fpMag f a == 0 || fpIsInf f b then some (fpWord f neg 0, 0) else none)

/-- R204: a square root. -/
def rootSpecial (f : Fmt) (a : Word) : Option (Word × BitVec 5) :=
  nanCase f [a] (
    if fpMag f a == 0 then some (fpWord f (fpSign f a) 0, 0)
    else if fpSign f a then some (fpNan f, 16)
    else if fpIsInf f a then some (fpWord f false (fpTop f), 0) else none)

/-- R204: a fused form; `minusP` and `minusC` say which of the product and c is subtracted. 0 × ∞ raises NV beside any NaN. -/
def fusedSpecial (f : Fmt) (rm : BitVec 2) (minusP minusC : Bool) (a b c : Word) : Option (Word × BitVec 5) :=
  let bad := (fpIsInf f a && fpMag f b == 0) || (fpMag f a == 0 && fpIsInf f b)
  let np := (fpSign f a != fpSign f b) != minusP
  let p := if minusP then -(fpValue f a * fpValue f b) else fpValue f a * fpValue f b
  if bad then some (fpNan f, 16)
  else nanCase f [a, b, c] (sumCase f rm np (fpSign f c != minusC) (fpIsInf f a || fpIsInf f b) (fpIsInf f c)
    ((fpMag f a == 0 || fpMag f b == 0) && fpMag f c == 0)
    (decide (p + (if minusC then -fpValue f c else fpValue f c) = 0)))

/-- R204, R207: the special cases, with latency; flags NX 1, UF 2, OF 4, DZ 8, NV 16. -/
def floatSpecial (i : Instr) (a b c : Word) : Option (Option (Word × BitVec 5) × Nat) :=
  match i with
  | .faddD _ rm _ _ => some (sumSpecial fp64 rm false a b, 4)
  | .fsubD _ rm _ _ => some (sumSpecial fp64 rm true a b, 4)
  | .fmulD _ _ _ _ => some (mulSpecial fp64 a b, 4)
  | .fdivD _ _ _ _ => some (divSpecial fp64 a b, 20)
  | .fsqrtD _ _ _ _ => some (rootSpecial fp64 a, 20)
  | .fmaD rm _ _ => some (fusedSpecial fp64 rm false false a b c, 4)
  | .fmsD rm _ _ => some (fusedSpecial fp64 rm false true a b c, 4)
  | .fnmaD rm _ _ => some (fusedSpecial fp64 rm true false a b c, 4)
  | .faddS _ rm _ _ => some (sumSpecial fp32 rm false a b, 4)
  | .fsubS _ rm _ _ => some (sumSpecial fp32 rm true a b, 4)
  | .fmulS _ _ _ _ => some (mulSpecial fp32 a b, 4)
  | .fdivS _ _ _ _ => some (divSpecial fp32 a b, 12)
  | .fsqrtS _ _ _ _ => some (rootSpecial fp32 a, 12)
  | .fmaS rm _ _ => some (fusedSpecial fp32 rm false false a b c, 4)
  | .fmsS rm _ _ => some (fusedSpecial fp32 rm false true a b c, 4)
  | .fnmaS rm _ _ => some (fusedSpecial fp32 rm true false a b c, 4)
  | .fcvtDS _ _ _ => some (
      if fpIsNan fp32 a then some (fpNan fp64, if fpIsSnan fp32 a then 16 else 0)
      else if fpIsInf fp32 a then some (fpWord fp64 (fpSign fp32 a) (fpTop fp64), 0)
      else if fpMag fp32 a == 0 then some (fpWord fp64 (fpSign fp32 a) 0, 0) else none, 2)
  | .fcvtSD _ _ _ _ => some (
      if fpIsNan fp64 a then some (fpNan fp32, if fpIsSnan fp64 a then 16 else 0)
      else if fpIsInf fp64 a then some (fpWord fp32 (fpSign fp64 a) (fpTop fp32), 0)
      else if fpMag fp64 a == 0 then some (fpWord fp32 (fpSign fp64 a) 0, 0) else none, 2)
  | .fcvtDI _ _ _ _ => some (if a = 0 then some (0, 0) else none, 2)
  | .fcvtDN _ _ _ _ => some (if a = 0 then some (0, 0) else none, 2)
  | .fcvtSI _ _ _ _ => some (if a = 0 then some (0, 0) else none, 2)
  | _ => none

/-- The place of a number in the order of its format, infinities included; −0 and +0 share one. -/
def fpKey (f : Fmt) (a : Word) : Int := if fpSign f a then -(fpMag f a : Int) else fpMag f a

/-- The format that the width bit of R205 and R206 selects. -/
def fpWidth (wid : BitVec 1) : Fmt := if wid = 0#1 then fp64 else fp32

/-- The low bits of a word that belong to a format. -/
def fpLow (f : Fmt) (a : Word) : Word := BitVec.ofNat 64 (a.toNat % 2 ^ (f.eb + f.fb + 1))

/-- NV for a signalling NaN among the inputs. -/
def snanNV (f : Fmt) (ws : List Word) : BitVec 5 := if ws.any (fpIsSnan f) then 16 else 0

/-- R205: FMIN or FMAX of two words. -/
def fpPick (f : Fmt) (max : Bool) (a b : Word) : Word :=
  if fpIsNan f a && fpIsNan f b then fpNan f
  else if fpIsNan f a then fpLow f b
  else if fpIsNan f b then fpLow f a
  else
    let aLess := decide (fpKey f a < fpKey f b) || (decide (fpKey f a = fpKey f b) && fpSign f a)
    if aLess = max then fpLow f b else fpLow f a

/-- R205: the bit that FCLASS sets. -/
def fpClassBit (f : Fmt) (a : Word) : Nat :=
  let n := fpSign f a
  if fpIsNan f a then (if fpIsSnan f a then 8 else 9)
  else if fpIsInf f a then (if n then 0 else 7)
  else if fpMag f a = 0 then (if n then 3 else 4)
  else if fpMag f a < 2 ^ f.fb then (if n then 2 else 5)
  else (if n then 1 else 6)

/-- R205, R206: result, flags and latency. -/
def floatSelect (i : Instr) (a b : Word) : Option (Word × BitVec 5 × Nat) :=
  let un (f : Fmt) : Bool := fpIsNan f a || fpIsNan f b
  let one (c : Bool) : Word := if c then 1 else 0
  match i with
  | .fmin _ wid _ _ => some (fpPick (fpWidth wid) false a b, snanNV (fpWidth wid) [a, b], 2)
  | .fmax _ wid _ _ => some (fpPick (fpWidth wid) true a b, snanNV (fpWidth wid) [a, b], 2)
  | .fneg _ wid _ _ => some (fpWord (fpWidth wid) (!fpSign (fpWidth wid) a) (fpMag (fpWidth wid) a), 0, 1)
  | .fabs _ wid _ _ => some (fpWord (fpWidth wid) false (fpMag (fpWidth wid) a), 0, 1)
  | .fcpys _ wid _ _ => some (fpWord (fpWidth wid) (fpSign (fpWidth wid) b) (fpMag (fpWidth wid) a), 0, 1)
  | .fclass _ wid _ _ => some (BitVec.ofNat 64 (2 ^ fpClassBit (fpWidth wid) a), 0, 1)
  | .fteq _ wid _ _ => some (one (!un (fpWidth wid) && decide (fpKey (fpWidth wid) a = fpKey (fpWidth wid) b)), snanNV (fpWidth wid) [a, b], 2)
  | .ftlt _ wid _ _ => some (one (!un (fpWidth wid) && decide (fpKey (fpWidth wid) a < fpKey (fpWidth wid) b)), if un (fpWidth wid) then 16 else 0, 2)
  | .ftle _ wid _ _ => some (one (!un (fpWidth wid) && decide (fpKey (fpWidth wid) a ≤ fpKey (fpWidth wid) b)), if un (fpWidth wid) then 16 else 0, 2)
  | .ftun _ wid _ _ => some (one (un (fpWidth wid)), snanNV (fpWidth wid) [a, b], 2)
  | _ => none

/-- An exact number rounded to an integer (R57): nearest with ties to even, toward zero, up, down. -/
def roundInteger (rm : BitVec 2) (x : ℚ) : Int :=
  if rm = 0#2 then
    (if x - x.floor < 1 / 2 then x.floor else if 1 / 2 < x - x.floor then x.floor + 1
     else if x.floor % 2 = 0 then x.floor else x.floor + 1)
  else if rm = 1#2 then (if x < 0 then x.ceil else x.floor)
  else if rm = 2#2 then x.ceil else x.floor

/-- R207, R60: conversion to I64 (bounds −2^63 and 2^63 − 1) or N64 (0 and 2^64 − 1). -/
def floatInteger (f : Fmt) (lo hi : Int) (rm : BitVec 2) (a : Word) : Word × BitVec 5 :=
  if fpIsNan f a then (0, 16)
  else if fpIsInf f a then (BitVec.ofInt 64 (if fpSign f a then lo else hi), 16)
  else
    let n := roundInteger rm (fpValue f a)
    if n < lo then (BitVec.ofInt 64 lo, 16)
    else if hi < n then (BitVec.ofInt 64 hi, 16)
    else (BitVec.ofInt 64 n, if (n : ℚ) = fpValue f a then 0 else 1)

/-- R207: the conversions to integers. -/
def floatToInteger (i : Instr) (a : Word) : Option (Word × BitVec 5) :=
  match i with
  | .fcvtID _ rm _ _ => some (floatInteger fp64 (-2 ^ 63) (2 ^ 63 - 1) rm a)
  | .fcvtND _ rm _ _ => some (floatInteger fp64 0 (2 ^ 64 - 1) rm a)
  | .fcvtIS _ rm _ _ => some (floatInteger fp32 (-2 ^ 63) (2 ^ 63 - 1) rm a)
  | _ => none

/-- The instruction in focus has performed, its result is on its way, and the block holds its flags for commit: the whole next state. -/
def floated (s : State) (i : Instr) (b : Block) (v : Word) (fl : BitVec 5) (lat : Nat) : State :=
  withBlock s { phased s b .performed with
    inflight := b.inflight ++ sends i s.focus.idx (.val v) (s.now + lat), flags := b.flags ||| fl }

end Sys2Proof.Claims

/-- R203, R207, R57 to R59: with finite operands and an exact value that is not zero, an FP arithmetic instruction or a conversion to
FP delivers that value rounded once in its mode, and raises NX, UF and OF as R58 and R59 say; FSQRT of a positive finite operand
delivers the rounded root. -/
def Obligations.FloatRoundsOnce : Prop :=
  (∀ (s : State) (i : Instr) (b : Block) (l r p v : Word) (f : Fmt) (rm lat : Nat) (x : ℚ) (fl : BitVec 5),
    floatExact i l r p = some (f, rm, x, lat) → x ≠ 0 → roundsTo f rm (decide (x < 0)) (fun t => SignType.sign (|x| - t)) v fl →
    ready s i b l r p → exec i s = .next (floated s i b v fl lat))
  ∧ (∀ (s : State) (i : Instr) (b : Block) (l r p v : Word) (f : Fmt) (rm lat : Nat) (fl : BitVec 5),
    floatRoot i = some (f, rm, lat) → fpFinite f l = true → 0 < fpValue f l →
    roundsTo f rm false (fun t => SignType.sign (fpValue f l - t ^ 2)) v fl →
    ready s i b l r p → exec i s = .next (floated s i b v fl lat))

/-- R204 (and R207 for the conversions between formats): NaN inputs, infinities, zeros, their signs, and the flags DZ and NV. -/
def Obligations.FloatSpecialCases : Prop :=
  ∀ (s : State) (i : Instr) (b : Block) (l r p v : Word) (fl : BitVec 5) (lat : Nat),
    floatSpecial i l r p = some (some (v, fl), lat) → ready s i b l r p → exec i s = .next (floated s i b v fl lat)

/-- R205, R206: minimum and maximum, sign operations, classification and comparison, for both widths and every operand. -/
def Sys2Proof.Claims.FloatSelectAndCompare : Prop :=
  ∀ (s : State) (i : Instr) (b : Block) (l r p v : Word) (fl : BitVec 5) (lat : Nat),
    floatSelect i l r = some (v, fl, lat) → ready s i b l r p → exec i s = .next (floated s i b v fl lat)

/-- R207, R60: the conversions to integers round in their mode and saturate, for every operand. -/
def Sys2Proof.Claims.FloatToIntegerCompletes : Prop :=
  ∀ (s : State) (i : Instr) (b : Block) (l r p v : Word) (fl : BitVec 5),
    floatToInteger i l = some (v, fl) → ready s i b l r p → exec i s = .next (floated s i b v fl 2)

namespace Sys2Proof.Claims

/-! ### Branches and system instructions (09 R196 to R200; 11 R222, R233 to R240) -/

/-- The block whose exit in focus has fired beside those that fired before. -/
def exitBlock (s : State) (b : Block) (kind : ExitKind) (dest : VAddr) : Block :=
  { phased s b .performed with exits := b.exits ++ [⟨s.focus.idx, kind, dest⟩] }

/-- The instruction in focus is an exit that has fired: the whole next state. -/
def exited (s : State) (b : Block) (kind : ExitKind) (dest : VAddr) : State := withBlock s (exitBlock s b kind dest)

/-- R197, R237: the exits without an operand, their kind and where they go from a block at `a`. -/
def directExit (i : Instr) (a : VAddr) : Option (ExitKind × VAddr) :=
  match i with
  | .br _ _ off => some (.branch, BitVec.ofInt 72 (a.toNat + off.toInt * 16))
  | .call _ _ off => some (.call, BitVec.ofInt 72 (a.toNat + off.toInt * 16))
  | .halt _ => some (.halt, 0)
  | .eret _ => some (.eret, 0)
  | _ => none

/-- R198: the exits whose operand is their target. RET's effect is BRI's. -/
def indirectExit (i : Instr) : Option ExitKind :=
  match i with
  | .bri _ _ => some .branch
  | .calli _ _ => some .call
  | .ret _ _ => some .branch
  | _ => none

/-- R241: what MFS delivers for a register that the context holds. -/
def specialRegister (c : Ctx) (id : Nat) : Option Word :=
  match id with
  | 0x002 => some (c.asid.setWidth 64)
  | 0x003 => some (c.mode.setWidth 64)
  | 0x005 => some (c.budget.setWidth 64)
  | 0x006 => some (c.fpflags.setWidth 64)
  | 0x007 => some (c.dseg.setWidth 64)
  | 0x008 => some c.seedlog
  | 0x009 => some c.rkey
  | 0x00A => some c.rstream
  | 0x00B => some c.utvec
  | 0x00C => some (c.ucause.setWidth 64)
  | 0x00D => some c.uepc
  | 0x00E => some c.ueinfo
  | 0x800 => some (c.cause.setWidth 64)
  | 0x801 => some c.epc
  | 0x802 => some c.einfo
  | 0x803 => some c.estat
  | 0x804 => some c.tvec
  | 0x805 => some c.scratch
  | _ => none

/-- R239: one round of Philox4x32 on 32-bit words, and the whole function of key, stream and counter. -/
def philoxStep (k : BitVec 32 × BitVec 32) (c : List (BitVec 32)) : List (BitVec 32) :=
  let x (n : Nat) : BitVec 32 := listGet 0 n c
  let m0 : BitVec 64 := 0xD2511F53 * (x 0).setWidth 64
  let m1 : BitVec 64 := 0xCD9E8D57 * (x 2).setWidth 64
  [(m1 >>> 32).setWidth 32 ^^^ x 1 ^^^ k.1, m1.setWidth 32, (m0 >>> 32).setWidth 32 ^^^ x 3 ^^^ k.2, m0.setWidth 32]

def philoxValue (key stream a : Word) : Word :=
  let h := a >>> 1
  let c0 : List (BitVec 32) := [h.setWidth 32, (h >>> 32).setWidth 32, stream.setWidth 32, (stream >>> 32).setWidth 32]
  let k (r : Nat) : BitVec 32 × BitVec 32 :=
    (key.setWidth 32 + BitVec.ofNat 32 (r * 0x9E3779B9), (key >>> 32).setWidth 32 + BitVec.ofNat 32 (r * 0xBB67AE85))
  let c := (List.range 10).foldl (fun c r => philoxStep (k r) c) c0
  let pair (lo hi : Nat) : Word := (listGet 0 hi c).setWidth 64 <<< 32 ||| (listGet 0 lo c).setWidth 64
  if a.getLsbD 0 then pair 2 3 else pair 0 1

/-- An access of the instruction in focus to the 64-bit effective address `ea` is aligned, translated and permitted, and finds no poison
(R209, R210; 05 R121): after the translation, which may fill the TLB and set the entry's A and D, the machine is `w`, and `pa` is the
physical address; `u` is the presence bit of an ALL_EMPTY or ALL_FULL page. -/
def reaches (s : State) (form : AccForm) (size ea : Nat) (w : Work) (pa : Nat) (u : Option Bool) : Prop :=
  ea % size = 0 ∧ s.work.translate s.work.who form size (s.work.me.dseg.toNat * 2 ^ 64 + ea) = (w, .ok pa u) ∧ w.poisonOf pa = none

/-- An access outside the lsid order may act: no wide access of the context's earlier blocks is left (R326). -/
def accessTurn (s : State) : Prop := s.work.widePending = false

/-- After a translation that left `w`: the block in focus is `b'`, and nothing else has changed. -/
def through (s : State) (w : Work) (b' : Block) : State := s.put (w.setBlock b')

/-- `b` with the instruction in focus performed, its value on its way, and its wait, if it waited, over. -/
def answered (s : State) (i : Instr) (b : Block) (v : Word) : Block :=
  { phased s b .performed with inflight := b.inflight ++ sends i s.focus.idx (.val v) (s.now + 1) }

/-- The record of the wait of the instruction in focus: since now, next trial at clk `due`. -/
def waitsUntil (s : State) (b : Block) (due : Nat) : State :=
  withBlock s { phased s b .waiting with
    waits := b.waits.filter (fun x => x.idx != s.focus.idx) ++
      [⟨s.focus.idx, (match b.waits.find? (fun x => x.idx == s.focus.idx) with | some x => x.since | none => s.now), 0, due, none, []⟩] }

end Sys2Proof.Claims

/-- R197, R198, R237: an exit that fires names the next block: for BR and CALL the block's address plus sixteen times
the offset, mod 2^72; for BRI, CALLI and RET the operand, with bits [71:64] of the block's address. HALT and ERET are exits too. -/
def Sys2Proof.Claims.ExitsComplete : Prop :=
  (∀ (s : State) (i : Instr) (b : Block) (l r p : Word) (k : ExitKind) (a : VAddr), directExit i b.addr = some (k, a) →
    ready s i b l r p → exec i s = .next (exited s b k a))
  ∧ (∀ (s : State) (i : Instr) (b : Block) (l r p : Word) (k : ExitKind), indirectExit i = some k →
    l.toNat % 16 = 0 → ready s i b l r p →
    exec i s = .next (exited s b k (BitVec.ofNat 72 (b.addr.toNat / 2 ^ 64 * 2 ^ 64 + l.toNat))))

/-- R198: a misaligned indirect exit traps ALIGN at its own index, and has fired all the same. R182: a second exit that has fired breaks a
rule, BLOCK_FORMAT with REASON 3, which the block then holds; of the two the second is the one of the higher index, so that the order in
which they fire has no effect (R179; the model's reading, log 48). -/
def Sys2Proof.Claims.ExitsThatTrap : Prop :=
  (∀ (s : State) (i : Instr) (b : Block) (l r p : Word) (k : ExitKind), indirectExit i = some k → l.toNat % 16 ≠ 0 → ready s i b l r p →
    exec i s = .next (withBlock s { exitBlock s { b with
        traps := b.traps ++ [⟨s.focus.idx, 0x04, BitVec.ofNat 64 (l.toNat % 2 ^ 56 * 2 ^ 8 + s.focus.idx)⟩],
        waits := b.waits.filter (fun x => x.idx != s.focus.idx) } k 0 with insts := (phased s b .trapped).insts }))
  ∧ (∀ (s : State) (i : Instr) (b : Block) (l r p : Word) (k : ExitKind) (a : VAddr) (x : ExitFired), directExit i b.addr = some (k, a) →
    b.exits = [x] → x.idx ≠ s.focus.idx → x.idx < b.insts.length → ready s i b l r p →
    exec i s = .next (exited s b k a)
      ∧ (⟨max x.idx s.focus.idx, 0x03, BitVec.ofNat 64 (3 * 2 ^ 7 + max x.idx s.focus.idx)⟩ : Trap) ∈ (exitBlock s b k a).seconds
      ∧ (exitBlock s b k a).broken = true)

/-- R235, R241, R242: MFS delivers the register as it stands at the firing (S_FPFLAGS: once the context's wide instructions have been applied,
R327): those that the context holds, S_TILE with its die, tile slot and number, S_CTX with its mode, whether it is the main context, and its
number, S_CYCLE, and S_PARKBASE, which is the package's.
R199: BADR delivers the address of a block. R239: RNEXT delivers Philox4x32-10 of S_RKEY, S_RSTREAM and its operand. -/
def Sys2Proof.Claims.SpecialReadsComplete : Prop :=
  (∀ (s : State) (pr : BitVec 2) (id : BitVec 12) (t0 : BitVec 9) (b : Block) (l r p v : Word), specialRegister s.work.me id.toNat = some v →
    (id = 6#12 → (∀ o ∈ (s.work.tile s.focus.tile).wq, o.party ≠ s.work.party)
      ∧ ∀ r, (s.work.tile s.focus.tile).wide.run = some r → r.op.party ≠ s.work.party) → ready s (.mfs pr id t0) b l r p →
    exec (.mfs pr id t0) s = .next (delivered s (.mfs pr id t0) b v 1))
  ∧ (∀ (s : State) (pr : BitVec 2) (t0 : BitVec 9) (b : Block) (l r p : Word), ready s (.mfs pr 4 t0) b l r p →
    (s.work.tile s.focus.tile).stopped = none →
    exec (.mfs pr 4 t0) s = .next (delivered s (.mfs pr 4 t0) b
      (BitVec.ofNat 64 (s.now + (s.work.tile s.focus.tile).ahead - (s.work.tile s.focus.tile).cycle0)) 1))
  ∧ (∀ (s : State) (pr : BitVec 2) (t0 : BitVec 9) (b : Block) (l r p : Word),
    (ready s (.mfs pr 0 t0) b l r p → s.focus.tile < 160 →
      exec (.mfs pr 0 t0) s = .next (delivered s (.mfs pr 0 t0) b
        (BitVec.ofNat 64 (dieOf s.focus.tile * 2 ^ 12 + s.work.slotOf s.focus.tile * 2 ^ 8 + s.focus.tile)) 1))
    ∧ (ready s (.mfs pr 1 t0) b l r p → s.focus.ctx < 4 →
      exec (.mfs pr 1 t0) s = .next (delivered s (.mfs pr 1 t0) b
        (BitVec.ofNat 64 ((if s.work.me.fw then 8 else 0) + (if s.work.isMain s.focus.tile s.focus.ctx then 4 else 0) + s.focus.ctx)) 1))
    ∧ (ready s (.mfs pr 0x806 t0) b l r p →
      exec (.mfs pr 0x806 t0) s = .next (delivered s (.mfs pr 0x806 t0) b s.core.parkBase 1)))
  ∧ (∀ (s : State) (pr : BitVec 2) (imm : BitVec 14) (t0 : BitVec 9) (b : Block) (l r p : Word), ready s (.badr pr imm t0) b l r p →
    exec (.badr pr imm t0) s = .next (delivered s (.badr pr imm t0) b (BitVec.ofInt 64 (b.addr.toNat + imm.toInt * 16)) 1))
  ∧ (∀ (s : State) (pr : BitVec 2) (t1 t0 : BitVec 9) (b : Block) (l r p : Word), ready s (.rnext pr t1 t0) b l r p →
    exec (.rnext pr t1 t0) s = .next (delivered s (.rnext pr t1 t0) b (philoxValue s.work.me.rkey s.work.me.rstream l) 1))

/-- R235, R222: MTS and FENCE act at commit: at their firing the block takes up the write, or the fence. R236: TRAP traps TRAP (0x11) at its
index, with its code in S_EINFO. R234: PAUSE waits `units` × 16 clk. -/
def Sys2Proof.Claims.SystemInstructionsComplete : Prop :=
  (∀ (s : State) (pr : BitVec 2) (id : BitVec 12) (b : Block) (l r p : Word), ready s (.mts pr id) b l r p →
    exec (.mts pr id) s = .next (promised s b (.mts id.toNat l)))
  ∧ (∀ (s : State) (pr : BitVec 2) (scope : BitVec 3) (b : Block) (l r p : Word), ready s (.fence pr scope) b l r p →
    exec (.fence pr scope) s = .next (promised s b (.fence scope.toNat)))
  ∧ (∀ (s : State) (pr : BitVec 2) (code : BitVec 14) (b : Block) (l r p : Word), ready s (.trap pr code) b l r p →
    exec (.trap pr code) s = .next (trapped s b 0x11 (BitVec.ofNat 64 (code.toNat * 2 ^ 7 + s.focus.idx))))
  ∧ (∀ (s : State) (pr : BitVec 2) (units : BitVec 14) (t0 : BitVec 9) (b : Block) (l r p : Word), ready s (.pause pr units t0) b l r p →
    exec (.pause pr units t0) s = .next (waitsUntil s b (s.now + units.toNat * 16)))

/-- R233: WAIT whose word has the presence bit it waits for delivers the word; R238: RSEED outside a deterministic task delivers a fresh
value, which it logs at commit, and in a deterministic task reads it back from the log; R240: SPAWNC claims an idle or halted context of
its task that nobody has claimed, delivers 1 and starts it at commit, and delivers 0 where it finds no such context. A result is due a clk
later (log 12). -/
def Obligations.WaitSeedSpawnComplete : Prop :=
  (∀ (s : State) (pr : BitVec 2) (full : BitVec 1) (lim : BitVec 5) (t0 : BitVec 9) (b : Block) (l r p : Word) (w : Work) (pa : Nat)
      (u : Option Bool), ready s (.wait pr full lim t0) b l r p → accessTurn s → (∀ x ∈ b.waits, x.idx ≠ s.focus.idx) →
    s.work.translate s.work.who .test 8 (s.work.me.dseg.toNat * 2 ^ 64 + l.toNat) = (w, .ok pa u) → l.toNat % 8 = 0 → w.poisonOf pa = none →
    w.bitAt pa u = decide (full = 1#1) →
    exec (.wait pr full lim t0) s = .next (through s w (answered s (.wait pr full lim t0) b (BitVec.ofNat 64 (w.dataAt pa 8 u)))))
  ∧ (∀ (s : State) (pr : BitVec 2) (t1 t0 : BitVec 9) (b : Block) (l r p : Word) (w : Work) (pa : Nat) (u : Option Bool),
    ready s (.rseed pr t1 t0) b l r p → accessTurn s → (∀ x ∈ b.waits, x.idx ≠ s.focus.idx) →
    l.toNat ≤ s.work.me.seedlog.toNat % 2 ^ 12 → s.work.det = false →
    s.work.translate s.work.who .plainStore 8 ((s.work.me.seedlog.toNat / 2 ^ 16 * 2 ^ 16 + 8 * l.toNat) % 2 ^ 64) = (w, .ok pa u) →
    w.poisonOf pa = none →
    exec (.rseed pr t1 t0) s = .next (through s { w with core := { w.core with free := w.core.free + 1 } }
      { answered s (.rseed pr t1 t0) b (Config.entropy w.core.free) with
        effs := b.effs ++ [(s.focus.idx, .seed pa (Config.entropy w.core.free))] }))
  ∧ (∀ (s : State) (pr : BitVec 2) (t1 t0 : BitVec 9) (b : Block) (l r p : Word) (w : Work) (pa : Nat) (u : Option Bool),
    ready s (.rseed pr t1 t0) b l r p → accessTurn s → (∀ x ∈ b.waits, x.idx ≠ s.focus.idx) →
    l.toNat ≤ s.work.me.seedlog.toNat % 2 ^ 12 → s.work.det = true →
    s.work.translate s.work.who .waitLoad 8 ((s.work.me.seedlog.toNat / 2 ^ 16 * 2 ^ 16 + 8 * l.toNat) % 2 ^ 64) = (w, .ok pa u) →
    w.poisonOf pa = none → w.bitAt pa u = true →
    exec (.rseed pr t1 t0) s = .next (through s w (answered s (.rseed pr t1 t0) b (BitVec.ofNat 64 (w.dataAt pa 8 u)))))
  ∧ (∀ (s : State) (pr : BitVec 2) (t1 t0 : BitVec 9) (b : Block) (l r p : Word) (g : Region) (slot c t : Nat),
    ready s (.spawnc pr t1 t0) b l r p → s.work.regionOf s.focus.tile = some g → l.toNat = slot * 4 + c → c < 4 → slot < 16 →
    g.live[slot]? = some t → r.toNat % 16 = 0 → (t, c) ≠ (s.focus.tile, s.focus.ctx) →
    (((s.work.ctx t c).status = .idle ∨ (s.work.ctx t c).status = .halted) ∧ (s.work.ctx t c).spawnedBy = none →
      exec (.spawnc pr t1 t0) s = .next (through s (s.work.setCtx t c { s.work.ctx t c with spawnedBy := some s.work.party })
        { answered s (.spawnc pr t1 t0) b 1 with
          effs := b.effs ++ [(s.focus.idx, .spawn (t * 4 + c) (BitVec.ofNat 72 (b.addr.toNat / 2 ^ 64 * 2 ^ 64 + r.toNat))
            (s.work.slotOf s.focus.tile * 4 + s.focus.ctx))] }))
    ∧ ((s.work.ctx t c).status ≠ .idle ∧ (s.work.ctx t c).status ≠ .halted ∨ (s.work.ctx t c).spawnedBy ≠ none →
      exec (.spawnc pr t1 t0) s = .next (delivered s (.spawnc pr t1 t0) b 0 1)))

namespace Sys2Proof.Claims

/-! ### Loads, stores, atomics (11 R209 to R221) -/

/-- The access of lsid `n` may act (R211): every store-class lsid below its own is served, and no wide access of the context is left. -/
def inTurn (s : State) (b : Block) (n : Nat) : Prop := b.lsidReady n = true ∧ s.work.widePending = false

/-- The load of lsid `n` may act: besides, no earlier pending load of its block holds it back (R129, R136; the model's reading, log 18). -/
def loadTurn (s : State) (b : Block) (n : Nat) : Prop := inTurn s b n ∧ b.loadHeld s.focus.idx n = false

/-- R216: form, size, whether sign-extended, lsid and offset of a load. -/
def loadForm (i : Instr) : Option (AccForm × Nat × Bool × BitVec 5 × BitVec 9) :=
  match i with
  | .ld1 _ n o _ => some (.plainLoad, 1, false, n, o)
  | .ld1s _ n o _ => some (.plainLoad, 1, true, n, o)
  | .ld2 _ n o _ => some (.plainLoad, 2, false, n, o)
  | .ld2s _ n o _ => some (.plainLoad, 2, true, n, o)
  | .ld4 _ n o _ => some (.plainLoad, 4, false, n, o)
  | .ld4s _ n o _ => some (.plainLoad, 4, true, n, o)
  | .ld8 _ n o _ => some (.plainLoad, 8, false, n, o)
  | .tstfe _ n o _ => some (.test, 8, false, n, o)
  | .ldw1 _ n o _ => some (.waitLoad, 1, false, n, o)
  | .ldw2 _ n o _ => some (.waitLoad, 2, false, n, o)
  | .ldw4 _ n o _ => some (.waitLoad, 4, false, n, o)
  | .ldw8 _ n o _ => some (.waitLoad, 8, false, n, o)
  | .ldc1 _ n o _ => some (.consume, 1, false, n, o)
  | .ldc2 _ n o _ => some (.consume, 2, false, n, o)
  | .ldc4 _ n o _ => some (.consume, 4, false, n, o)
  | .ldc8 _ n o _ => some (.consume, 8, false, n, o)
  | _ => none

/-- R217: form, what it does at commit, size, lsid and offset of a store. -/
def storeOf (i : Instr) : Option (AccForm × MemKind × Nat × BitVec 5 × BitVec 18) :=
  match i with
  | .st1 _ n o => some (.plainStore, .plain, 1, n, o)
  | .st2 _ n o => some (.plainStore, .plain, 2, n, o)
  | .st4 _ n o => some (.plainStore, .plain, 4, n, o)
  | .st8 _ n o => some (.plainStore, .plain, 8, n, o)
  | .stf1 _ n o => some (.fill, .fill, 1, n, o)
  | .stf2 _ n o => some (.fill, .fill, 2, n, o)
  | .stf4 _ n o => some (.fill, .fill, 4, n, o)
  | .stf8 _ n o => some (.fill, .fill, 8, n, o)
  | .ste1 _ n o => some (.clear, .clear, 1, n, o)
  | .ste2 _ n o => some (.clear, .clear, 2, n, o)
  | .ste4 _ n o => some (.clear, .clear, 4, n, o)
  | .ste8 _ n o => some (.clear, .clear, 8, n, o)
  | _ => none

/-- R216, R217: the effective address of a base and an offset counted in accesses. -/
def loadAddr (a : Word) (o : BitVec 9) (size : Nat) : Nat := ((a.toNat + o.toInt * size) % 2 ^ 64).toNat
def storeAddr (a : Word) (o : BitVec 18) (size : Nat) : Nat := ((a.toNat + o.toInt * size) % 2 ^ 64).toNat

/-- `size` bytes as a number, extended to 64 bits. -/
def extend (signed : Bool) (size v : Nat) : Word :=
  if signed && decide (2 ^ (8 * size - 1) ≤ v) then BitVec.ofInt 64 (v - 2 ^ (8 * size)) else BitVec.ofNat 64 v

/-- R218: what AMO and RED write, on `size`-byte values; the FP forms by the arithmetic of FADD in RNE, FMIN and FMAX. -/
def amoNew (aop size old v : Nat) : Option Nat :=
  let n := 8 * size
  let v := v % 2 ^ n
  let s (x : Nat) : Int := if x < 2 ^ (n - 1) then x else x - 2 ^ n
  match aop with
  | 0 => some ((old + v) % 2 ^ n)
  | 1 => some (old &&& v)
  | 2 => some (old ||| v)
  | 3 => some (old ^^^ v)
  | 4 => some (if s old ≤ s v then old else v)
  | 5 => some (if s old ≤ s v then v else old)
  | 6 => some (min old v)
  | 7 => some (max old v)
  | 8 => some v
  | 9 => some (fpAdd (if size = 4 then fp32 else fp64) 0 (Fp.of (if size = 4 then fp32 else fp64) old)
      (Fp.of (if size = 4 then fp32 else fp64) v)).1
  | 10 => some (fpMinMax (if size = 4 then fp32 else fp64) false old v).1
  | 11 => some (fpMinMax (if size = 4 then fp32 else fp64) true old v).1
  | _ => none

/-- The claim that a consuming load, a filling store, AMO or CAS takes on its word (11 R213). -/
def claiming (w : Work) (s : State) (pa : Nat) : Work := w.claim (pa / 8) s.work.party s.focus.idx

/-- The effect of a memory access, in the place that its lsid and index give it (11 R211). -/
def effectOf (s : State) (n : BitVec 5) (k : MemKind) (pa size : Nat) (v : Word) : MemEff := ⟨n.toNat, s.focus.idx, k, pa, size, v⟩

end Sys2Proof.Claims

/-- R216, R209, R210, R95: a plain load, a test, or a waiting or consuming load of a FULL word, in a block without earlier accesses and
outside the control window, delivers the bytes at its address, extended; a consuming load claims its word and empties it at commit. The
result is due a clk later (log 12). -/
def Sys2Proof.Claims.LoadsComplete : Prop :=
  ∀ (s : State) (i : Instr) (b : Block) (l r p : Word) (form : AccForm) (size : Nat) (sx : Bool) (n : BitVec 5) (o : BitVec 9) (w : Work)
    (pa : Nat) (u : Option Bool),
    loadForm i = some (form, size, sx, n, o) → ready s i b l r p → loadTurn s b n.toNat → b.mems = [] → b.waits = [] →
    reaches s form size (loadAddr l o size) w pa u → classify pa ≠ .control →
    (form = .plainLoad → exec i s = .next (through s w (answered s i b (extend sx size (w.dataAt pa size u)))))
    ∧ (form = .test → exec i s = .next (through s w (answered s i b (if w.bitAt pa u then 1 else 0))))
    ∧ (form = .waitLoad → w.bitAt pa u = true →
        exec i s = .next (through s w (answered s i b (BitVec.ofNat 64 (w.dataAt pa size u)))))
    ∧ (form = .consume → w.bitAt pa u = true → w.claimedOther (pa / 8) s.work.party = false →
        w.reservedOther (pa / 8) s.work.party = false →
        exec i s = .next (through s (claiming w s pa)
          { answered s i b (BitVec.ofNat 64 (w.dataAt pa size u)) with mems := [effectOf s n .consume pa size 0] }))

/-- R212: a load takes its bytes from an earlier store of its own block that wrote them, although memory does not hold them yet. The result
is due a clk later (log 12). -/
def Sys2Proof.Claims.LoadSeesOwnStore : Prop :=
  ∀ (s : State) (i : Instr) (b : Block) (l r p v : Word) (size : Nat) (sx : Bool) (n : BitVec 5) (o : BitVec 9) (w : Work) (pa m j : Nat),
    loadForm i = some (.plainLoad, size, sx, n, o) → ready s i b l r p → loadTurn s b n.toNat → b.waits = [] →
    b.mems = [⟨m, j, .plain, pa, size, v⟩] → m < n.toNat →
    reaches s .plainLoad size (loadAddr l o size) w pa none → classify pa ≠ .control →
    exec i s = .next (through s w (answered s i b (extend sx size (v.toNat % 2 ^ (8 * size)))))

/-- R210, R209: an access that is not aligned traps ALIGN, and one whose translation fails traps with the translation's cause, at the
instruction's index; a load or store then has no effect. -/
def Obligations.AccessesThatTrap : Prop :=
  (∀ (s : State) (i : Instr) (b : Block) (l r p : Word) (form : AccForm) (size : Nat) (sx : Bool) (n : BitVec 5) (o : BitVec 9),
    loadForm i = some (form, size, sx, n, o) → ready s i b l r p → loadTurn s b n.toNat →
    (loadAddr l o size % size ≠ 0 →
      exec i s = .next (trapped s b 0x04 (BitVec.ofNat 64 (loadAddr l o size % 2 ^ 56 * 2 ^ 8 + s.focus.idx))))
    ∧ (loadAddr l o size % size = 0 → ∀ (w : Work) (c sub : Nat),
      s.work.translate s.work.who form size (s.work.me.dseg.toNat * 2 ^ 64 + loadAddr l o size) = (w, .fault c sub) →
      exec i s = .next (through s w { phased s b .trapped with
        traps := b.traps ++ [⟨s.focus.idx, c, einfoMem (s.work.me.dseg.toNat * 2 ^ 64 + loadAddr l o size) sub form.acc 0 s.focus.idx⟩],
        waits := b.waits.filter (fun x => x.idx != s.focus.idx) })))
  ∧ (∀ (s : State) (i : Instr) (b : Block) (l r p : Word) (form : AccForm) (k : MemKind) (size : Nat) (n : BitVec 5) (o : BitVec 18),
    storeOf i = some (form, k, size, n, o) → ready s i b l r p → inTurn s b n.toNat → storeAddr l o size % size ≠ 0 →
    exec i s = .next (trapped s b 0x04 (BitVec.ofNat 64 (storeAddr l o size % 2 ^ 56 * 2 ^ 8 + s.focus.idx))))

/-- R217, R211: a plain or clearing store, or a filling store of an EMPTY word that no other party claims or has reserved, performs: its
effect stands for commit at the physical address of its own bytes, with its data, and memory does not change before. A filling store
claims its word. -/
def Sys2Proof.Claims.StoresComplete : Prop :=
  ∀ (s : State) (i : Instr) (b : Block) (l r p : Word) (form : AccForm) (k : MemKind) (size : Nat) (n : BitVec 5) (o : BitVec 18) (w : Work)
    (pa : Nat) (u : Option Bool),
    storeOf i = some (form, k, size, n, o) → ready s i b l r p → inTurn s b n.toNat → b.mems = [] → b.waits = [] →
    reaches s form size (storeAddr l o size) w pa u →
    (form ≠ .fill →
      exec i s = .next (through s w { phased s b .performed with mems := [effectOf s n k pa size r] }))
    ∧ (form = .fill → w.bitAt pa u = false → w.claimedOther (pa / 8) s.work.party = false → w.reservedOther (pa / 8) s.work.party = false →
      exec i s = .next (through s (claiming w s pa)
        { phased s b .performed with mems := [effectOf s n k pa size r] }))

/-- R218 to R220: AMO and CAS deliver the old value, claim their word and leave their write for commit; RED leaves its operand, to be
applied at commit. In a deterministic task AMO and CAS trap (R221: DETERMINISM_ATOMIC; an AMO whose operation is FADD, FMIN or FMAX
DETERMINISM_FPRED), and so does a RED whose operation is one of those three, with DETERMINISM_FPRED. A result is due a clk later (log 12). -/
def Sys2Proof.Claims.AtomicsComplete : Prop :=
  (∀ (s : State) (pr : BitVec 2) (n aop : BitVec 5) (wid : BitVec 1) (t0 : BitVec 9) (b : Block) (l r p : Word) (w : Work) (pa new : Nat),
    ready s (.amo pr n aop wid t0) b l r p → inTurn s b n.toNat → b.mems = [] → b.waits = [] → s.work.det = false →
    reaches s .atomic (if wid = 1#1 then 4 else 8) l.toNat w pa none → classify pa ≠ .control →
    w.claimedOther (pa / 8) s.work.party = false →
    amoNew aop.toNat (if wid = 1#1 then 4 else 8) (w.load pa (if wid = 1#1 then 4 else 8)) r.toNat = some new →
    exec (.amo pr n aop wid t0) s = .next (through s (claiming w s pa)
      { answered s (.amo pr n aop wid t0) b (BitVec.ofNat 64 (w.load pa (if wid = 1#1 then 4 else 8))) with
        mems := [effectOf s n .amo pa (if wid = 1#1 then 4 else 8) (BitVec.ofNat 64 new)] }))
  ∧ (∀ (s : State) (n : BitVec 5) (wid : BitVec 1) (t0 : BitVec 9) (b : Block) (l r p : Word) (w : Work) (pa : Nat),
    ready s (.cas n wid t0) b l r p → inTurn s b n.toNat → b.mems = [] → b.waits = [] → s.work.det = false →
    reaches s .atomic (if wid = 1#1 then 4 else 8) l.toNat w pa none → classify pa ≠ .control →
    w.claimedOther (pa / 8) s.work.party = false →
    exec (.cas n wid t0) s = .next (through s (claiming w s pa)
      { answered s (.cas n wid t0) b (BitVec.ofNat 64 (w.load pa (if wid = 1#1 then 4 else 8))) with
        mems := [effectOf s n (.cas (decide (w.load pa (if wid = 1#1 then 4 else 8) = p.toNat % 2 ^ (8 * (if wid = 1#1 then 4 else 8)))))
          pa (if wid = 1#1 then 4 else 8) r] }))
  ∧ (∀ (s : State) (pr : BitVec 2) (n aop : BitVec 5) (wid : BitVec 1) (b : Block) (l r p : Word) (w : Work) (pa : Nat) (u : Option Bool),
    ready s (.red pr n aop wid) b l r p → inTurn s b n.toNat → b.mems = [] →
    (s.work.det = false ∨ aop.toNat < 9) → reaches s .red (if wid = 1#1 then 4 else 8) l.toNat w pa u →
    exec (.red pr n aop wid) s = .next (through s w
      { phased s b .performed with mems := [effectOf s n (.red aop.toNat) pa (if wid = 1#1 then 4 else 8) r] }))
  ∧ (∀ (s : State) (pr : BitVec 2) (n aop : BitVec 5) (wid : BitVec 1) (t0 : BitVec 9) (b : Block) (l r p : Word),
    ready s (.amo pr n aop wid t0) b l r p → inTurn s b n.toNat → s.work.det = true →
    exec (.amo pr n aop wid t0) s = .next (trapped s b (if 9 ≤ aop.toNat then 0x0C else 0x0B) (BitVec.ofNat 64 s.focus.idx)))
  ∧ (∀ (s : State) (n : BitVec 5) (wid : BitVec 1) (t0 : BitVec 9) (b : Block) (l r p : Word),
    ready s (.cas n wid t0) b l r p → inTurn s b n.toNat → s.work.det = true →
    exec (.cas n wid t0) s = .next (trapped s b 0x0B (BitVec.ofNat 64 s.focus.idx)))
  ∧ (∀ (s : State) (pr : BitVec 2) (n aop : BitVec 5) (wid : BitVec 1) (b : Block) (l r p : Word),
    ready s (.red pr n aop wid) b l r p → inTurn s b n.toNat → s.work.det = true → 9 ≤ aop.toNat →
    exec (.red pr n aop wid) s = .next (trapped s b 0x0C (BitVec.ofNat 64 s.focus.idx)))

namespace Sys2Proof.Claims

/-! ### Queues (11 R223 to R232; 19 R384, R385) -/

/-- The handle `h` names an enabled queue that the context's address space owns (R223). -/
def ownsQueue (s : State) (h : Word) (q : HQueue) : Prop :=
  h.toNat < 256 ∧ s.work.hq h.toNat = q ∧ q.enabled = true ∧ q.owner = s.work.me.asid.toNat

/-- In a deterministic task the first pusher, or popper, of a queue is its only one (R231). -/
def allowed (s : State) (first : Option Nat) : Prop := s.work.det = true → first = none ∨ first = some s.work.party

/-- Records in hardware entries and in the ring (R224). -/
def recordsIn (q : HQueue) : Nat := (q.hin - q.hout).toNat + (q.rin - q.rout).toNat

/-- The virtual address of an operand (R209). -/
def operandVa (s : State) (a : Word) : Nat := s.work.me.dseg.toNat * 2 ^ 64 + a.toNat

/-- The oldest record that no context claims, after some that are claimed. -/
def oldest (q : HQueue) (r : QRecord) : Prop :=
  ∃ before after, q.entries = before ++ r :: after ∧ (∀ x ∈ before, x.claim ≠ none) ∧ r.claim = none

/-- R230: what QSTAT delivers. -/
def queueStatus (q : HQueue) : Word :=
  if q.enabled = false then 0
  else BitVec.ofNat 64 (2 ^ 63 + (q.rin - q.rout).toNat * 2 ^ 19 + (q.hin - q.hout).toNat * 2 ^ 13 + q.hd * 2 ^ 7 + (q.rw - 1) * 2 ^ 4)

/-- R227: the descriptor of QCFG is well formed: its reserved bits are 0, its ring size is one of those the rule lists, and only firmware
forces. -/
def configSound (s : State) (d1 : Word) : Prop :=
  d1.toNat / 2 ^ 34 = 0 ∧ d1.toNat / 2 ^ 22 % 2 ^ 10 = 0 ∧ d1.toNat / 2 ^ 11 % 2 ^ 5 = 0 ∧ d1.toNat / 2 ^ 5 % 2 ^ 3 = 0
    ∧ d1.toNat % 2 ^ 5 ≤ 21 ∧ (d1.getLsbD 33 = true → s.work.me.fw = true)

end Sys2Proof.Claims

/-- R228: QPUSH with room in its queue reads its record and claims one unit of capacity; the push itself is made at commit. QPOP claims the
oldest unclaimed hardware record, delivers its sequence number, and leaves the record's words and the pop for commit.
A result is due a clk later (log 12). -/
def Sys2Proof.Claims.QueuePushPopComplete : Prop :=
  (∀ (s : State) (pr : BitVec 2) (lim : BitVec 5) (b : Block) (l r p : Word) (q : HQueue) (w : Work) (rec : List Word),
    ready s (.qpush pr lim) b l r p → accessTurn s → (∀ x ∈ b.waits, x.idx ≠ s.focus.idx) → ownsQueue s l q → allowed s q.pusher → r.toNat % 8 = 0 →
    s.work.readWords s.work.who q.rw (operandVa s r) = (w, .ok rec) → recordsIn q + q.pending.length < q.hd + q.rs →
    exec (.qpush pr lim) s = .next (through s
      (w.setHq l.toNat { q with pending := s.work.party :: q.pending, pusher := if s.work.det then some s.work.party else q.pusher })
      { phased s b .performed with effs := b.effs ++ [(s.focus.idx, .qpush l.toNat rec)] }))
  ∧ (∀ (s : State) (pr : BitVec 2) (lim : BitVec 5) (t1 t0 : BitVec 9) (b : Block) (l r p : Word) (q : HQueue) (w : Work) (ps : List Nat)
      (x : QRecord),
    ready s (.qpop pr lim t1 t0) b l r p → accessTurn s → (∀ y ∈ b.waits, y.idx ≠ s.focus.idx) → ownsQueue s l q → allowed s q.popper → r.toNat % 8 = 0 →
    s.work.placeWords s.work.who q.rw (operandVa s r) = (w, .ok ps) → oldest q x →
    exec (.qpop pr lim t1 t0) s = .next (through s
      (w.setHq l.toNat { q with
        entries := q.entries.map (fun y => if y.seq == x.seq then { y with claim := some s.work.party } else y),
        popper := if s.work.det then some s.work.party else q.popper })
      { answered s (.qpop pr lim t1 t0) b (BitVec.ofNat 64 x.seq) with
        effs := b.effs ++ [(s.focus.idx, .stores (ps.zip x.words)), (s.focus.idx, .qpop l.toNat x.seq)] }))

/-- R229: QPEEK delivers the number of the oldest unclaimed record and stores its words at commit without claiming it, or delivers all ones
when there is none. R230: QSTAT delivers the queue's counts, and 0 for a disabled queue. A result is due a clk later (log 12). -/
def Sys2Proof.Claims.QueuePeekStatComplete : Prop :=
  (∀ (s : State) (pr : BitVec 2) (t1 t0 : BitVec 9) (b : Block) (l r p : Word) (q : HQueue) (w : Work) (ps : List Nat),
    ready s (.qpeek pr t1 t0) b l r p → accessTurn s → ownsQueue s l q → allowed s q.popper → r.toNat % 8 = 0 →
    s.work.placeWords s.work.who q.rw (operandVa s r) = (w, .ok ps) →
    ((∀ x ∈ q.entries, x.claim ≠ none) →
      exec (.qpeek pr t1 t0) s = .next (through s
        (w.setHq l.toNat { q with popper := if s.work.det then some s.work.party else q.popper })
        (answered s (.qpeek pr t1 t0) b (BitVec.allOnes 64))))
    ∧ (∀ x, oldest q x →
      exec (.qpeek pr t1 t0) s = .next (through s
        (w.setHq l.toNat { q with popper := if s.work.det then some s.work.party else q.popper })
        { answered s (.qpeek pr t1 t0) b (BitVec.ofNat 64 x.seq) with effs := b.effs ++ [(s.focus.idx, .stores (ps.zip x.words))] })))
  ∧ (∀ (s : State) (pr : BitVec 2) (t1 t0 : BitVec 9) (b : Block) (l r p : Word), ready s (.qstat pr t1 t0) b l r p → l.toNat < 256 →
    ((s.work.hq l.toNat).enabled = true → (s.work.hq l.toNat).owner = s.work.me.asid.toNat) →
    exec (.qstat pr t1 t0) s = .next (delivered s (.qstat pr t1 t0) b (queueStatus (s.work.hq l.toNat)) 1))

/-- R227: QCFG enables a disabled queue with the depth, record size, ring and owner of its descriptor, or disables an empty queue, at
commit, and delivers 0; it delivers 1 for a queue that is already enabled, and 3 for one that another address space owns; it delivers 2
for a descriptor whose ring size is 22 to 31, be it to enable or to disable: that 2 precedes 3 and 1 is the model's choice (log 57). A
result is due a clk later (log 12). -/
def Sys2Proof.Claims.QueueConfigComplete : Prop :=
  ∀ (s : State) (pr : BitVec 2) (t1 t0 : BitVec 9) (b : Block) (l r p d0 d1 : Word) (w : Work),
    ready s (.qcfg pr t1 t0) b l r p → accessTurn s → l.toNat < 256 → r.toNat % 16 = 0 →
    s.work.readWords s.work.who 2 (operandVa s r) = (w, .ok [d0, d1]) →
    (22 ≤ d1.toNat % 2 ^ 5 → exec (.qcfg pr t1 t0) s = .next (through s w (answered s (.qcfg pr t1 t0) b 2)))
    ∧ (configSound s d1 → (d1.getLsbD 32 = true → d0.toNat % 64 = 0 → 1 ≤ d1.toNat / 2 ^ 16 % 2 ^ 6 → d1.toNat / 2 ^ 16 % 2 ^ 6 ≤ 32 →
      ((s.work.hq l.toNat).enabled = false → d1.toNat % 2 ^ 5 = 0 →
        exec (.qcfg pr t1 t0) s = .next (through s w { answered s (.qcfg pr t1 t0) b 0 with
          effs := b.effs ++ [(s.focus.idx, .qenable l.toNat (d0.toNat % 2 ^ 16) [] (d1.toNat / 2 ^ 16 % 2 ^ 6)
            (d1.toNat / 2 ^ 8 % 2 ^ 3 + 1) 0 s.work.me.asid.toNat)] }))
      ∧ ((s.work.hq l.toNat).enabled = false → d1.toNat % 2 ^ 5 ≠ 0 → ∀ (w' : Work) (ps : List Nat),
        w.ringPages ((d0.toNat % 2 ^ 16 + 64 * 2 ^ (d1.toNat % 2 ^ 5 - 1) + 0xFFFF) / 2 ^ 16) (operandVa s d0 / 2 ^ 16 * 2 ^ 16) = (w', .ok ps) →
        exec (.qcfg pr t1 t0) s = .next (through s w' { answered s (.qcfg pr t1 t0) b 0 with
          effs := b.effs ++ [(s.focus.idx, .qenable l.toNat (d0.toNat % 2 ^ 16) ps (d1.toNat / 2 ^ 16 % 2 ^ 6)
            (d1.toNat / 2 ^ 8 % 2 ^ 3 + 1) (2 ^ (d1.toNat % 2 ^ 5 - 1)) s.work.me.asid.toNat)] }))
      ∧ ((s.work.hq l.toNat).enabled = true → (s.work.hq l.toNat).owner = s.work.me.asid.toNat →
        exec (.qcfg pr t1 t0) s = .next (through s w (answered s (.qcfg pr t1 t0) b 1)))
      ∧ ((s.work.hq l.toNat).enabled = true → (s.work.hq l.toNat).owner ≠ s.work.me.asid.toNat → d1.getLsbD 33 = false →
        exec (.qcfg pr t1 t0) s = .next (through s w (answered s (.qcfg pr t1 t0) b 3))))
    ∧ (d1.getLsbD 32 = false → (s.work.hq l.toNat).enabled = true → (s.work.hq l.toNat).owner = s.work.me.asid.toNat →
      recordsIn (s.work.hq l.toNat) = 0 → (s.work.hq l.toNat).pending = [] → (∀ x ∈ (s.work.hq l.toNat).entries, x.claim = none) →
      exec (.qcfg pr t1 t0) s = .next (through s w { answered s (.qcfg pr t1 t0) b 0 with
        effs := b.effs ++ [(s.focus.idx, .qdisable l.toNat (d1.getLsbD 33))] })))

/-- R232, R384: CQPUSH with a place free reads its 8 words and holds a place of its die's combining queue until commit. CQPOP, its buffer
translated, waits for the next combining, at once due; R385: the combining serves it with the oldest unclaimed record of its address
space: it delivers the record's number and leaves its words and the pop for commit. That a CQPOP is served by the combining alone, and that a
place held for a push not yet committed counts as taken, is log 22; one combining takes place in a clk, and serves records pushed before
that clk. A result is due a clk later (log 12). -/
def Sys2Proof.Claims.CombiningQueueCompletes : Prop :=
  (∀ (s : State) (pr : BitVec 2) (lim : BitVec 5) (b : Block) (l r p : Word) (w : Work) (rec : List Word),
    ready s (.cqpush pr lim) b l r p → accessTurn s → (∀ x ∈ b.waits, x.idx ≠ s.focus.idx) → s.work.det = false → l.toNat % 64 = 0 →
    s.work.readWords s.work.who 8 (operandVa s l) = (w, .ok rec) →
    s.work.cqFull (s.work.cqueue s.work.myDie) s.work.me.asid.toNat = false →
    exec (.cqpush pr lim) s = .next (through s
      (w.setCq s.work.myDie { s.work.cqueue s.work.myDie with pending := s.work.party :: (s.work.cqueue s.work.myDie).pending })
      { phased s b .performed with effs := b.effs ++ [(s.focus.idx, .cqpush s.work.myDie rec)] }))
  ∧ (∀ (s : State) (pr : BitVec 2) (lim : BitVec 5) (t1 t0 : BitVec 9) (b : Block) (l r p : Word) (w : Work) (ps : List Nat),
    ready s (.cqpop pr lim t1 t0) b l r p → accessTurn s → b.waits = [] → s.work.det = false → l.toNat % 64 = 0 →
    s.work.placeWords s.work.who 8 (operandVa s l) = (w, .ok ps) →
    exec (.cqpop pr lim t1 t0) s = .next (through s w { phased s b .waiting with waits := [⟨s.focus.idx, s.now, 0, s.now, none, []⟩] }))
  ∧ (∀ (s : State) (die : Nat) (f : Focus) (pr : BitVec 2) (lim : BitVec 5) (t1 t0 : BitVec 9) (b : Block) (l r : Word) (y : Waiting)
      (w : Work) (ps : List Nat) (x : QRecord) (before after : List QRecord),
    s.work.cqWaiters die = [f] → dieOf f.tile = die → (s.work.at_ f.tile f.ctx f.idx).limitPassed = false → (s.work.at_ f.tile f.ctx f.idx).waiting = some (.cqpop pr lim t1 t0, l, r, y) →
    (s.work.at_ f.tile f.ctx f.idx).block = some b → b.waits = [y] →
    (s.work.cqueue die).records = before ++ x :: after → x.claim = none → x.asid = (s.work.ctx f.tile f.ctx).asid.toNat →
    x.clk < s.now → (s.work.cqueue die).combined ≠ some s.now →
    (∀ z ∈ before, z.claim ≠ none ∨ z.asid ≠ x.asid) → l.toNat % 64 = 0 →
    (s.work.at_ f.tile f.ctx f.idx).placeWords (s.work.at_ f.tile f.ctx f.idx).who 8
      ((s.work.ctx f.tile f.ctx).dseg.toNat * 2 ^ 64 + l.toNat) = (w, .ok ps) →
    exec (.cqCombine die) s = .next (s.put ((w.setCq die { s.work.cqueue die with
        combined := some s.now,
        records := (s.work.cqueue die).records.map (fun z => if z.seq == x.seq then { z with claim := some (f.tile * 4 + f.ctx) } else z) }).setBlock
      { b with insts := listModify (fun z => { z with phase := .performed }) f.idx b.insts, waits := [],
               inflight := b.inflight ++ sends (.cqpop pr lim t1 t0) f.idx (.val (BitVec.ofNat 64 x.seq)) (s.now + 1),
               effs := b.effs ++ [(f.idx, .stores (ps.zip x.words)), (f.idx, .cqpop die x.seq)] })))

namespace Sys2Proof.Claims

/-! ### Blocks: fetch, delivery, end, commit, traps, waits (09 R175 to R183; 11 R213, R214, R228, R233 to R237; 21 R395) -/

/-- Block `b` is in flight in context `c` of tile `t`. -/
def flying (s : State) (t c : Nat) (b : Block) : Prop := (s.work.ctx t c).block = some b ∧ (s.work.ctx t c).status = .running

/-- Nothing of the block is on its way, nothing waits, and no instruction that has not fired can fire (R180). -/
def atEnd (b : Block) : Prop := b.inflight = [] ∧ b.waits = [] ∧ b.canStillFire = false

/-- Every condition of R180 for a commit: write entries hold something, store-class lsids are served, one exit has fired, nothing has
trapped and no rule is broken. -/
def mayCommit (b : Block) (x : ExitFired) : Prop :=
  atEnd b ∧ b.late = none ∧ b.traps = [] ∧ b.seconds = [] ∧ b.exits = [x] ∧ b.held.length = b.writes.length ∧ (∀ o ∈ b.held, o ≠ none)
    ∧ (∀ u ∈ b.stores, ∃ v ∈ b.stores, v.1 = u.1 ∧ v.2.served = true)

/-- The special registers of two contexts agree, S_FPFLAGS and the trap registers apart. -/
def sameTask (x y : Ctx) : Prop :=
  x.asid = y.asid ∧ x.mode = y.mode ∧ x.budget = y.budget ∧ x.dseg = y.dseg ∧ x.seedlog = y.seedlog ∧ x.rkey = y.rkey
    ∧ x.rstream = y.rstream ∧ x.utvec = y.utvec ∧ x.tvec = y.tvec ∧ x.scratch = y.scratch

/-- The trap registers of two contexts agree. -/
def sameTraps (x y : Ctx) : Prop :=
  x.ucause = y.ucause ∧ x.uepc = y.uepc ∧ x.ueinfo = y.ueinfo ∧ x.cause = y.cause ∧ x.epc = y.epc ∧ x.einfo = y.einfo ∧ x.estat = y.estat

/-- The global registers of two contexts agree. -/
def sameRegs (x y : Ctx) : Prop := ∀ n, x.reg n = y.reg n

/-- Contexts other than `c` of tile `t` are unchanged, but that claims which `c` had on them by SPAWNC are over (R240). -/
def otherContexts (s u : State) (t c : Nat) : Prop :=
  ∀ t' c', (t', c') ≠ (t, c) → (u.work.ctx t' c').pc = (s.work.ctx t' c').pc ∧ (u.work.ctx t' c').status = (s.work.ctx t' c').status
    ∧ (u.work.ctx t' c').block = (s.work.ctx t' c').block ∧ (u.work.ctx t' c').fw = (s.work.ctx t' c').fw
    ∧ sameRegs (u.work.ctx t' c') (s.work.ctx t' c') ∧ sameTask (u.work.ctx t' c') (s.work.ctx t' c')
    ∧ sameTraps (u.work.ctx t' c') (s.work.ctx t' c') ∧ (u.work.ctx t' c').fpflags = (s.work.ctx t' c').fpflags

/-- R196: the return block address. -/
def returnBlock (b : Block) : Nat :=
  (b.addr.toNat + (8 + 2 * b.nr + b.writes.length + 3) / 4 * 4 + 4 * b.words.length + 15) / 16 * 16 % 2 ^ 64

/-- The causes that the task handler takes (R394). -/
def handlerCauses : List Nat := [0x01, 0x02, 0x03, 0x04, 0x06, 0x07, 0x08, 0x09, 0x0A, 0x0B, 0x0C, 0x0D, 0x0E, 0x0F, 0x10, 0x11]

/-- R395: the context `y` is `x` after a trap at block address `a`. -/
def trapTaken (x y : Ctx) (a : VAddr) (cause : Nat) (einfo : Word) : Prop :=
  sameRegs x y ∧ sameTask x y ∧ y.fpflags = x.fpflags ∧ y.block = none ∧ y.status = .ready
    ∧ (if x.fw = false ∧ x.utvec.toNat % 16 = 0 ∧ x.utvec ≠ 0 ∧ cause ∈ handlerCauses then
        y.ucause = BitVec.ofNat 8 cause ∧ y.uepc = a.setWidth 64 ∧ y.ueinfo = einfo ∧ y.fw = false
          ∧ y.pc.toNat = a.toNat / 2 ^ 64 * 2 ^ 64 + x.utvec.toNat
          ∧ y.cause = x.cause ∧ y.epc = x.epc ∧ y.einfo = x.einfo ∧ y.estat = x.estat
      else
        y.cause = BitVec.ofNat 8 cause ∧ y.epc = a.setWidth 64 ∧ y.einfo = einfo
          ∧ y.estat.toNat = a.toNat / 2 ^ 64 * 2 ^ 8 + (if x.fw then 0 else 1) ∧ y.fw = true ∧ y.pc.toNat = x.tvec.toNat
          ∧ y.ucause = x.ucause ∧ y.uepc = x.uepc ∧ y.ueinfo = x.ueinfo)

/-- The instruction at an index of a context's block in flight waits, with its operands and its wait; the machine as it sees it is `w`. -/
def waitingAt (s : State) (t c i : Nat) (b : Block) (ins : Instr) (l r : Word) (x : Waiting) : Prop :=
  flying s t c b ∧ b.instr i = some ins ∧ (b.inst i).phase = .waiting ∧ b.waits = [x] ∧ x.idx = i
    ∧ ((shape ins).left = true → (b.inst i).left = some (.val l)) ∧ ((shape ins).right = true → (b.inst i).right = some (.val r))

/-- A waiting instruction has trapped: its block's next form. -/
def waitTrapped (b : Block) (i cause : Nat) (einfo : Word) : Block :=
  { b with insts := listModify (fun z => { z with phase := .trapped }) i b.insts, traps := b.traps ++ [⟨i, cause, einfo⟩], waits := [] }

/-- A waiting instruction has performed and delivers after `lat` clk: its block's next form. -/
def waitAnswered (s : State) (b : Block) (ins : Instr) (i : Nat) (v : Word) (lat : Nat) : Block :=
  { b with insts := listModify (fun z => { z with phase := .performed }) i b.insts, waits := [],
           inflight := b.inflight ++ sends ins i (.val v) (s.now + lat) }

/-- The state with another block in context `c` of tile `t`, after a translation that left `w`. -/
def blockSet (s : State) (w : Work) (t c : Nat) (b : Block) : State := s.put (w.setCtx t c { w.ctx t c with block := some b })

end Sys2Proof.Claims

/-- R137, R153, R175 (with R28): the context whose turn it is fetches its next block. A sound block starts: its read entries have delivered,
the values its registers hold; nothing else changes but what translation does. A refused
block, or one that cannot be read, traps at its address. (Whose turn it is: the model's reading of R28, log 21.) -/
def Obligations.FetchStartsOrTraps : Prop :=
  ∀ (s : State) (t c : Nat) (w : Work), s.work.spineRuns t = true → s.work.nextIssuer t = some c → s.work.errorDue t c = false →
    (∀ d, d < 4 → s.work.executing t d = false) → (s.work.ctx t c).pc.toNat % 16 = 0 →
    (∀ parts, (s.work.at_ t c 0).readParts (s.work.at_ t c 0).who (s.work.ctx t c).pc.toNat = (w, .ok parts) →
      blockRefusal (!(s.work.ctx t c).fw) parts = none →
      exec (.blockFetch t c) s = .next (s.put (w.setCtx t c { w.ctx t c with
        status := .running, handler := false, fence := 0, block := some (Block.start (s.work.ctx t c) (s.work.ctx t c).pc parts) })))
    ∧ (∀ parts cause einfo, (s.work.at_ t c 0).readParts (s.work.at_ t c 0).who (s.work.ctx t c).pc.toNat = (w, .ok parts) →
      blockRefusal (!(s.work.ctx t c).fw) parts = some (cause, einfo) →
      ∃ u, exec (.blockFetch t c) s = .next u ∧ trapTaken (s.work.ctx t c) (u.work.ctx t c) (s.work.ctx t c).pc cause einfo)
    ∧ (∀ cause sub va, (s.work.at_ t c 0).readParts (s.work.at_ t c 0).who (s.work.ctx t c).pc.toNat = (w, .error (cause, sub, va)) →
      cause ≠ 0x13 →
      ∃ u, exec (.blockFetch t c) s = .next u ∧ trapTaken (s.work.ctx t c) (u.work.ctx t c) (s.work.ctx t c).pc cause
        (BitVec.ofNat 64 (va / 2 ^ 16 % 2 ^ 48 * 2 ^ 16 + sub * 2 ^ 13 + 0x7F)))

/-- R177, R182: a result that is due reaches its target. An empty slot, or an empty write entry, takes it; a slot that is filled keeps what it
holds, and a rule is broken, BLOCK_FORMAT with REASON 2; where the two values differ the block holds that they raced (the model's reading of
R179, log 48). -/
def Obligations.ResultReachesTarget : Prop :=
  ∀ (s : State) (t c k slot idx : Nat) (b : Block) (f : InFlight), flying s t c b → b.inflight[k]? = some f → f.due ≤ s.now →
    f.tgt.toNat = slot * 128 + idx → idx < 128 → f.tgt ≠ noTarget →
    (slot = 0 → idx < b.insts.length →
      exec (.resultDelivery t c k) s = .next (blockSet s s.work t c
        (if (b.inst idx).left = none then
          { b with inflight := listErase k b.inflight, insts := listModify (fun x => { x with left := some f.val }) idx b.insts }
         else { b with inflight := listErase k b.inflight, races := if (b.inst idx).left = some f.val then b.races else idx :: b.races,
                       traps := b.traps ++ [⟨idx, 0x03, BitVec.ofNat 64 (2 * 2 ^ 7 + idx)⟩] })))
    ∧ (slot = 1 → idx < b.insts.length →
      exec (.resultDelivery t c k) s = .next (blockSet s s.work t c
        (if (b.inst idx).right = none then
          { b with inflight := listErase k b.inflight, insts := listModify (fun x => { x with right := some f.val }) idx b.insts }
         else { b with inflight := listErase k b.inflight, races := if (b.inst idx).right = some f.val then b.races else idx :: b.races,
                       traps := b.traps ++ [⟨idx, 0x03, BitVec.ofNat 64 (2 * 2 ^ 7 + idx)⟩] })))
    ∧ (slot = 2 → idx < b.insts.length →
      exec (.resultDelivery t c k) s = .next (blockSet s s.work t c
        (if (b.inst idx).third = none then
          { b with inflight := listErase k b.inflight, insts := listModify (fun x => { x with third := some f.val }) idx b.insts }
         else { b with inflight := listErase k b.inflight, races := if (b.inst idx).third = some f.val then b.races else idx :: b.races,
                       traps := b.traps ++ [⟨idx, 0x03, BitVec.ofNat 64 (2 * 2 ^ 7 + idx)⟩] })))
    ∧ (slot = 3 → b.held[idx]? = some none →
      exec (.resultDelivery t c k) s = .next (blockSet s s.work t c
        { b with inflight := listErase k b.inflight, held := listModify (fun _ => some f.val) idx b.held }))
    ∧ (slot = 3 → (∃ o, b.held[idx]? = some (some o)) →
      exec (.resultDelivery t c k) s = .next (blockSet s s.work t c
        { b with inflight := listErase k b.inflight, traps := b.traps ++ [⟨128, 0x03, BitVec.ofNat 64 (idx * 2 ^ 10 + 2 * 2 ^ 7 + 0x7F)⟩] }))

/-- R180, R181, R184, R196 to R198, R237: a block without memory effects that meets every condition commits. Each write entry's value goes to
its register, a null leaves it, g0 keeps 0; a call writes g2 with the return block address; its flags join S_FPFLAGS; the context goes on
at the exit's target, halts, or returns to the mode and address of S_ESTAT and S_EPC. Memory and every other context stay (where no mark of
the walker waits for a claim to end). -/
def Obligations.CommitWritesRegisters : Prop :=
  ∀ (s : State) (t c : Nat) (b : Block) (x : ExitFired), flying s t c b → mayCommit b x → b.mems = [] → b.effs = [] → b.writes.Nodup → s.core.marks = [] →
    (x.kind = .call → 2 ∉ b.writes) →
    ∃ u, exec (.blockEnd t c) s = .next u
      ∧ u.mem = s.mem ∧ u.full = s.full ∧ u.clusters = s.clusters ∧ u.now = s.now ∧ otherContexts s u t c
      ∧ (∀ (j n : Nat) (v : Word), b.writes[j]? = some n → b.held[j]? = some (some (Operand.val v)) → n ≠ 0 → (u.work.ctx t c).reg n = v)
      ∧ (∀ n, n ∉ b.writes → ¬(x.kind = .call ∧ n = 2) → (u.work.ctx t c).reg n = (s.work.ctx t c).reg n)
      ∧ (∀ (j n : Nat), b.writes[j]? = some n → b.held[j]? = some (some Operand.null) → (u.work.ctx t c).reg n = (s.work.ctx t c).reg n)
      ∧ (u.work.ctx t c).reg 0 = 0
      ∧ (x.kind = .call → (u.work.ctx t c).reg 2 = BitVec.ofNat 64 (returnBlock b))
      ∧ (u.work.ctx t c).fpflags = (s.work.ctx t c).fpflags ||| b.flags
      ∧ (u.work.ctx t c).block = none
      ∧ (u.work.ctx t c).status = (if x.kind = .halt then .halted else .ready)
      ∧ (x.kind = .branch ∨ x.kind = .call → (u.work.ctx t c).pc = x.dest ∧ (u.work.ctx t c).fw = (s.work.ctx t c).fw)
      ∧ (x.kind = .eret →
          (u.work.ctx t c).pc.toNat = (s.work.ctx t c).estat.toNat / 2 ^ 8 % 2 ^ 8 * 2 ^ 64 + (s.work.ctx t c).epc.toNat
          ∧ (u.work.ctx t c).fw = !(s.work.ctx t c).estat.getLsbD 0)
      ∧ sameTask (u.work.ctx t c) (s.work.ctx t c) ∧ sameTraps (u.work.ctx t c) (s.work.ctx t c)

/-- R214, R217, R181: a block whose only effect is one store commits it: every byte that it stores reads as its data, and EVERY OTHER byte
of memory as before; a filling store leaves its word FULL, a clearing store EMPTY, a plain store as it was, and every other word's bit
stays. (The word is outside host memory and the control window, claimed by nobody else, and its line is not watched; no mark of the walker
waits for a claim to end.) -/
def Sys2Proof.Claims.CommitStores : Prop :=
  ∀ (s : State) (t c : Nat) (b : Block) (x : ExitFired) (e : MemEff), s.canonical → flying s t c b → mayCommit b x → b.mems = [e] → b.effs = [] →
    (e.kind = .plain ∨ e.kind = .fill ∨ e.kind = .clear) → e.size ∈ [1, 2, 4, 8] → e.pa % e.size = 0 →
    classify e.pa ≠ .control → classify (e.pa / 8 * 8) ≠ .host → e.pa / 64 ∉ s.core.watched →
    (∀ k ∈ s.core.claims, k.party ≠ t * 4 + c → k.word ≠ e.pa / 8) → s.core.marks = [] →
    ∃ u, exec (.blockEnd t c) s = .next u
      ∧ (∀ i, i < e.size → (u.readByte (e.pa + i)).toNat = e.data.toNat / 2 ^ (8 * i) % 2 ^ 8)
      ∧ (∀ a, ¬(e.pa ≤ a ∧ a < e.pa + e.size) → u.readByte a = s.readByte a)
      ∧ u.readFull (e.pa / 8) = (if e.kind = .fill then true else if e.kind = .clear then false else s.readFull (e.pa / 8))
      ∧ (∀ k, k ≠ e.pa / 8 → u.readFull k = s.readFull k)
      ∧ (u.work.ctx t c).block = none

/-- R183, R215, R395: a block that has ended with a trap recorded does not commit: no register, no flag, no word and no presence bit
changes, and the trap is taken at the block's address. (No two values raced into a slot of it, R179.) -/
def Sys2Proof.Claims.TrappedBlockTakesTrap : Prop :=
  ∀ (s : State) (t c : Nat) (b : Block) (tr : Trap), flying s t c b → atEnd b → b.late = none → b.traps = [tr] → b.seconds = [] →
    b.races = [] → b.effs = [] → b.allocs = [] → s.core.marks = [] → tr.cause < 256 →
    ∃ u, exec (.blockEnd t c) s = .next u ∧ u.mem = s.mem ∧ u.full = s.full ∧ u.clusters = s.clusters ∧ otherContexts s u t c
      ∧ trapTaken (s.work.ctx t c) (u.work.ctx t c) b.addr tr.cause tr.einfo

/-- R183: of several trapping instructions the block reports the one with the lowest index. R180, R183: a block that ends with nothing
trapped but no exit fired traps BLOCK_FORMAT with REASON 7. -/
def Sys2Proof.Claims.BlockReportsLowestIndex : Prop :=
  (∀ (s : State) (t c : Nat) (b : Block) (x y : Trap), flying s t c b → atEnd b → b.late = none → (b.traps = [x, y] ∨ b.traps = [y, x]) → b.seconds = [] → x.idx < y.idx →
    b.races = [] → b.effs = [] → b.allocs = [] → x.cause < 256 →
    ∃ u, exec (.blockEnd t c) s = .next u ∧ trapTaken (s.work.ctx t c) (u.work.ctx t c) b.addr x.cause x.einfo)
  ∧ (∀ (s : State) (t c : Nat) (b : Block), flying s t c b → atEnd b → b.late = none → b.traps = [] → b.seconds = [] → b.exits = [] → (∀ o ∈ b.held, o ≠ none) →
    (∀ u ∈ b.stores, ∃ v ∈ b.stores, v.1 = u.1 ∧ v.2.served = true) → b.effs = [] → b.allocs = [] →
    ∃ u, exec (.blockEnd t c) s = .next u ∧ trapTaken (s.work.ctx t c) (u.work.ctx t c) b.addr 0x03 (BitVec.ofNat 64 (7 * 2 ^ 7 + 0x7F)))

/-- R101: a waiting load that tries its word again and finds it FULL delivers it. R213: an AMO held back by a claim acts when the claim has
ended. R106: a reservation that 4,096 clk have outlasted lapses. A result is due a clk later (log 12). -/
def Sys2Proof.Claims.RetriesComplete : Prop :=
  (∀ (s : State) (t c i : Nat) (b : Block) (pr : BitVec 2) (n : BitVec 5) (o t0 : BitVec 9) (l r : Word) (x : Waiting) (w : Work) (pa : Nat),
    waitingAt s t c i b (.ldw8 pr n o t0) l r x → x.word ≠ none → x.due ≤ s.now → b.mems = [] → loadAddr l o 8 % 8 = 0 →
    (s.work.at_ t c i).translate (s.work.at_ t c i).who .waitLoad 8 ((s.work.ctx t c).dseg.toNat * 2 ^ 64 + loadAddr l o 8) = (w, .ok pa none) →
    w.poisonOf pa = none → w.isFull (pa / 8) = true → classify pa ≠ .control →
    exec (.waitRetry t c i) s = .next (blockSet s w t c (waitAnswered s b (.ldw8 pr n o t0) i (w.word pa) 1)))
  ∧ (∀ (s : State) (t c i : Nat) (b : Block) (pr : BitVec 2) (n : BitVec 5) (t0 : BitVec 9) (l r : Word) (x : Waiting) (w : Work) (pa : Nat),
    waitingAt s t c i b (.amo pr n 8 0 t0) l r x → x.word = none → b.mems = [] → (s.work.at_ t c i).det = false →
    l.toNat % 8 = 0 →
    (s.work.at_ t c i).translate (s.work.at_ t c i).who .atomic 8 ((s.work.ctx t c).dseg.toNat * 2 ^ 64 + l.toNat) = (w, .ok pa none) →
    w.poisonOf pa = none → classify pa ≠ .control → w.claimedOther (pa / 8) (t * 4 + c) = false →
    exec (.claimWaitEnd t c i) s = .next (blockSet s (w.claim (pa / 8) (t * 4 + c) i) t c
      { waitAnswered s b (.amo pr n 8 0 t0) i (w.word pa) 1 with mems := [⟨n.toNat, i, .amo, pa, 8, r⟩] }))
  ∧ (∀ (s : State) (k : Nat) (x : Resv), s.core.resv = [x] → x.word = k → x.since + 4096 ≤ s.now →
    exec (.reservationExpire k) s = .next (s.put { s.work with core := { s.core with resv := [] } }))

/-- R228: a QPUSH that waits, its record read, pushes when its queue has room within its limit; when 16 × 2^LIM clk have passed it traps
QTIMEOUT. R231: in a deterministic task it traps DETERMINISM_ATOMIC when another context has become the queue's pusher. R233: WAIT tests its
word again within its limit, and delivers it or traps WAIT_TIMEOUT at its limit. R234: PAUSE delivers 0 when its clk have passed. A result of
WAIT is due a clk later (log 12). -/
def Sys2Proof.Claims.WaitsComplete : Prop :=
  (∀ (s : State) (t c i : Nat) (b : Block) (pr : BitVec 2) (lim : BitVec 5) (l r : Word) (x : Waiting) (q : HQueue),
    waitingAt s t c i b (.qpush pr lim) l r x → x.due ≤ s.now → s.now ≤ x.since + 16 * 2 ^ lim.toNat → l.toNat < 256 →
    s.work.hq l.toNat = q → q.enabled = true → q.owner = (s.work.ctx t c).asid.toNat →
    ((s.work.at_ t c i).det = true → q.pusher ≠ none → q.pusher ≠ some (t * 4 + c) →
      exec (.queueWaitRetry t c i) s = .next (blockSet s s.work t c (waitTrapped b i 0x0B (BitVec.ofNat 64 i))))
    ∧ (((s.work.at_ t c i).det = true → q.pusher = none ∨ q.pusher = some (t * 4 + c)) → recordsIn q + q.pending.length < q.hd + q.rs →
    exec (.queueWaitRetry t c i) s = .next (blockSet s (s.work.setHq l.toNat
        { q with pending := (t * 4 + c) :: q.pending, pusher := if (s.work.at_ t c i).det then some (t * 4 + c) else q.pusher }) t c
      { b with insts := listModify (fun z => { z with phase := .performed }) i b.insts, waits := [],
               effs := b.effs ++ [(i, .qpush l.toNat x.data)] })))
  ∧ (∀ (s : State) (t c i : Nat) (b : Block) (pr : BitVec 2) (lim : BitVec 5) (l r : Word) (x : Waiting),
    waitingAt s t c i b (.qpush pr lim) l r x → x.since + 16 * 2 ^ lim.toNat ≤ s.now →
    exec (.qtimeout t c i) s = .next (blockSet s s.work t c (waitTrapped b i 0x08 (einfoQueue l.toNat (s.work.hq l.toNat)))))
  ∧ (∀ (s : State) (t c i : Nat) (b : Block) (pr : BitVec 2) (full : BitVec 1) (lim : BitVec 5) (t0 : BitVec 9) (l r : Word) (x : Waiting)
      (w : Work) (pa : Nat),
    waitingAt s t c i b (.wait pr full lim t0) l r x → x.due ≤ s.now → s.now ≤ x.since + 16 * 2 ^ lim.toNat → l.toNat % 8 = 0 →
    (s.work.at_ t c i).translate (s.work.at_ t c i).who .test 8 ((s.work.ctx t c).dseg.toNat * 2 ^ 64 + l.toNat) = (w, .ok pa none) →
    w.poisonOf pa = none → w.isFull (pa / 8) = decide (full = 1#1) →
    exec (.waitPoll t c i) s = .next (blockSet s w t c (waitAnswered s b (.wait pr full lim t0) i (w.word pa) 1)))
  ∧ (∀ (s : State) (t c i : Nat) (b : Block) (pr : BitVec 2) (full : BitVec 1) (lim : BitVec 5) (t0 : BitVec 9) (l r : Word) (x : Waiting)
      (w : Work) (pa : Nat) (f : Option Bool),
    waitingAt s t c i b (.wait pr full lim t0) l r x → x.since + 16 * 2 ^ lim.toNat ≤ s.now → l.toNat % 8 = 0 →
    (s.work.at_ t c i).translate (s.work.at_ t c i).who .test 8 ((s.work.ctx t c).dseg.toNat * 2 ^ 64 + l.toNat) = (w, .ok pa f) →
    w.poisonOf pa = none →
    exec (.waitTimeout t c i) s = .next (blockSet s w t c
      (waitTrapped b i 0x09 (BitVec.ofNat 64 (pa / 8 % 2 ^ 49 * 2 ^ 15 + 5 * 2 ^ 7 + i)))))
  ∧ (∀ (s : State) (t c i : Nat) (b : Block) (pr : BitVec 2) (units : BitVec 14) (t0 : BitVec 9) (x : Waiting),
    flying s t c b → b.instr i = some (.pause pr units t0) → (b.inst i).phase = .waiting → b.waits = [x] → x.idx = i → x.due ≤ s.now →
    exec (.pauseDone t c i) s = .next (blockSet s s.work t c (waitAnswered s b (.pause pr units t0) i 0 0)))

namespace Sys2Proof.Claims

/-! ### Region control (15 R311 to R321) -/

/-- The tile in focus belongs to region `r`, which stands as `g`. -/
def inRegion (s : State) (r : Nat) (g : Region) : Prop :=
  (s.work.tile s.focus.tile).region = some r ∧ mapFind r s.core.regions = some g

/-- The instruction in focus takes the staging claim, which is free (R311). -/
def claimed (s : State) (g : Region) : Region := { g with staging := some ⟨s.work.party, s.focus.idx⟩ }
def afterClaim (s : State) (r : Nat) (g : Region) : Work := (s.work.setRegion r (claimed s g)).stopWaiting

/-- R320: the region status register. -/
def statusWord (g : Region) : Word :=
  BitVec.ofNat 64 (g.phase % 2 ^ 16 * 2 ^ 48 + (if g.activeB then 2 ^ 47 else 0) + (if g.staged then 2 ^ 46 else 0)
    + (if g.race then 2 ^ 45 else 0)
    + (if g.arms = 0 ∨ (g.armedSince = false ∧ g.kettle ≠ 0 ∧ g.sinks = []) then 2 ^ 44 else 0) + g.stranded % 2 ^ 32)

end Sys2Proof.Claims

/-- R312, R313: CFGLD and CFGSTRM, the staging claim free and their stream accepted by the Collator, hold the checked planes for commit, with
the stream bases that R115 has the load translate, and deliver the number of commands, BEGIN and END among them (for CFGLD, whose stream the
image makes, the model's reading, log 26). A result is due a clk later (log 12). -/
def Sys2Proof.Claims.StagingCompletes : Prop :=
  (∀ (s : State) (pr : BitVec 2) (t1 t0 : BitVec 9) (b : Block) (l r p : Word) (n : Nat) (g : Region) (w : Work) (ws : List Nat)
      (ps : List (Nat × Plane)) (race : Bool),
    ready s (.cfgstrm pr t1 t0) b l r p → accessTurn s → (∀ x ∈ b.waits, x.idx ≠ s.focus.idx) → inRegion s n g → g.staging = none →
    2 ≤ r.toNat → r.toNat ≤ 65538 → l.toNat % 4 = 0 →
    (afterClaim s n g).readWords32 (afterClaim s n g).who r.toNat (operandVa s l) = (w, .ok ws) →
    w.collateRegion n (claimed s g) g.stashres (streamCmds ws) = .ok (ps, race) →
    exec (.cfgstrm pr t1 t0) s = .next (through s (w.loadExtents g.asid g.live ps).1
      { answered s (.cfgstrm pr t1 t0) b r with effs := b.effs ++ [(s.focus.idx, .config n (w.loadExtents g.asid g.live ps).2 race)] }))
  ∧ (∀ (s : State) (pr : BitVec 2) (t1 t0 : BitVec 9) (b : Block) (l r p : Word) (n : Nat) (g : Region) (w : Work) (bytes : List Nat)
      (img : Image) (cs : List Cmd) (ps : List (Nat × Plane)) (race : Bool),
    ready s (.cfgld pr t1 t0) b l r p → accessTurn s → (∀ x ∈ b.waits, x.idx ≠ s.focus.idx) → inRegion s n g → g.staging = none → l.toNat % 64 = 0 →
    (afterClaim s n g).readImage (afterClaim s n g).who (operandVa s l) = (w, .ok bytes) → parseImage w.core.imageKeys bytes = some img →
    img.stream (claimed s g) = .ok cs → w.collateRegion n (claimed s g) img.stashres cs = .ok (ps, race) →
    exec (.cfgld pr t1 t0) s = .next (through s (w.loadExtents g.asid g.live ps).1
      { answered s (.cfgld pr t1 t0) b (BitVec.ofNat 64 cs.length) with
        effs := b.effs ++ [(s.focus.idx, .config n (w.loadExtents g.asid g.live ps).2 race)] }))

/-- R314: CFGSW in a region whose latest kettle has reached every sink, with no arming since, no stranded operand and fewer than 65,535
switches, delivers the next phase number and switches at commit. R315: CFGABORT of a region that cannot roll back clears the shadow at
commit and delivers the phase; of one that can, and is drained, it switches back and delivers the next phase with bit 63 set. The phases that
switches at lower indices of the block will begin are counted (log 49). A result is due a clk later (log 12). -/
def Sys2Proof.Claims.SwitchAndAbortComplete : Prop :=
  ∀ (s : State) (pr : BitVec 2) (t1 t0 : BitVec 9) (b : Block) (l r p : Word) (n : Nat) (g : Region),
    (∀ x ∈ b.waits, x.idx ≠ s.focus.idx) → inRegion s n g → g.staging = none →
    (ready s (.cfgsw pr t1 t0) b l r p → g.armedSince = false → g.kettle ≠ 0 → g.sinks = [] → g.switches < 65535 →
      ((afterClaim s n g).discardStranded g.live).2 = 0 →
      exec (.cfgsw pr t1 t0) s = .next (through s ((afterClaim s n g).discardStranded g.live).1
        { answered s (.cfgsw pr t1 t0) b (BitVec.ofNat 64 (g.phase + s.work.switchesPending + 1)) with
          effs := b.effs ++ [(s.focus.idx, .switch n)] }))
    ∧ (ready s (.cfgabort pr t1 t0) b l r p → g.rollable = false →
      exec (.cfgabort pr t1 t0) s = .next (through s (afterClaim s n g)
        { answered s (.cfgabort pr t1 t0) b (BitVec.ofNat 64 g.phase) with effs := b.effs ++ [(s.focus.idx, .abort n false)] }))
    ∧ (ready s (.cfgabort pr t1 t0) b l r p → g.rollable = true → g.armedSince = false → g.kettle ≠ 0 → g.sinks = [] → g.switches < 65535 →
      ((afterClaim s n g).discardStranded g.live).2 = 0 →
      exec (.cfgabort pr t1 t0) s = .next (through s ((afterClaim s n g).discardStranded g.live).1
        { answered s (.cfgabort pr t1 t0) b (BitVec.ofNat 64 (2 ^ 63 + g.phase + s.work.switchesPending + 1)) with
          effs := b.effs ++ [(s.focus.idx, .abort n true)] }))

/-- R316, R317: ARM within the task's limit delivers the number of its first arming, DRAIN the number of its kettle; both act at commit.
R318: INJECT of the lower half stands for commit, and of the upper half when the CTL input has a free slot, which it holds. The armings that
commits under way have still to make are counted (log 49). A result is due a clk later (log 12). -/
def Sys2Proof.Claims.ArmDrainInjectComplete : Prop :=
  ∀ (s : State) (pr : BitVec 2) (t1 t0 : BitVec 9) (b : Block) (l r p : Word) (n : Nat) (g : Region), inRegion s n g → b.effs = [] →
    (∀ x ∈ b.waits, x.idx ≠ s.focus.idx) →
    (ready s (.arm pr t1 t0) b l r p → 1 ≤ l.toNat → l.toNat < 65536 → g.arms + s.work.armsLate n + l.toNat ≤ g.tcount →
      exec (.arm pr t1 t0) s = .next (withBlock s
        { answered s (.arm pr t1 t0) b (BitVec.ofNat 64 (g.arms + s.work.armsLate n)) with effs := [(s.focus.idx, .arm n l.toNat)] }))
    ∧ (ready s (.drain pr t1 t0) b l r p →
      exec (.drain pr t1 t0) s = .next (withBlock s
        { answered s (.drain pr t1 t0) b (BitVec.ofNat 64 (g.kettle + 1)) with effs := [(s.focus.idx, .drain n)] }))
    ∧ (ready s (.inject pr) b l r p → s.work.det = false → l.toNat < 2 ^ 34 → l.getLsbD 12 = false →
      l.toNat / 2 ^ 8 % 2 ^ 4 = s.work.slotOf s.focus.tile →
      (l.getLsbD 13 = false → exec (.inject pr) s = .next (promised s b (.inject l r)))
      ∧ (l.getLsbD 13 = true →
          (s.work.elem s.focus.tile (l.toNat % 256)).ctl.length + (s.work.elem s.focus.tile (l.toNat % 256)).ctlHeld.length < 4 →
          exec (.inject pr) s = .next (through s
            (s.work.setElem s.focus.tile (l.toNat % 256) { s.work.elem s.focus.tile (l.toNat % 256) with
              ctlHeld := s.work.party :: (s.work.elem s.focus.tile (l.toNat % 256)).ctlHeld })
            { phased s b .performed with effs := [(s.focus.idx, .inject l r)] })))

/-- R319, R320: SINKRD delivers the region's counts and its status, or of an element the last flit that it kept, half by half, and with that flit's kind, tag and
mask whether it is valid. R317:
KWAIT delivers the latest kettle's number once that kettle is at every sink, and 0 when none was injected; before, it waits. A result is due
a clk later (log 12). -/
def Sys2Proof.Claims.SinkrdKwaitComplete : Prop :=
  ∀ (s : State) (pr : BitVec 2) (lim : BitVec 5) (t1 t0 : BitVec 9) (b : Block) (l r p : Word) (n : Nat) (g : Region), inRegion s n g →
    (ready s (.sinkrd pr t1 t0) b l r p →
      (l = 0xFFF → exec (.sinkrd pr t1 t0) s = .next (delivered s (.sinkrd pr t1 t0) b (BitVec.ofNat 64 (g.arms % 2 ^ 32)) 1))
      ∧ (l = 0x1FFF → exec (.sinkrd pr t1 t0) s = .next (delivered s (.sinkrd pr t1 t0) b (BitVec.ofNat 64 (g.kettle % 2 ^ 32)) 1))
      ∧ (l = 0x3FFF → exec (.sinkrd pr t1 t0) s = .next (delivered s (.sinkrd pr t1 t0) b (statusWord g) 1))
      ∧ (∀ e, e < 256 → l.toNat = s.work.slotOf s.focus.tile * 2 ^ 8 + e → s.work.slotOf s.focus.tile * 2 ^ 8 + e < 0xFFF →
          exec (.sinkrd pr t1 t0) s = .next (delivered s (.sinkrd pr t1 t0) b
            (BitVec.ofNat 64 ((s.work.elem s.focus.tile e).sink.payload % 2 ^ 64)) 1))
      ∧ (∀ e, e < 256 → l.toNat = 2 ^ 12 + s.work.slotOf s.focus.tile * 2 ^ 8 + e → s.work.slotOf s.focus.tile * 2 ^ 8 + e < 0xFFF →
          exec (.sinkrd pr t1 t0) s = .next (delivered s (.sinkrd pr t1 t0) b
            (BitVec.ofNat 64 ((s.work.elem s.focus.tile e).sink.payload / 2 ^ 64 % 2 ^ 64)) 1))
      ∧ (∀ e, e < 256 → l.toNat = 2 ^ 13 + s.work.slotOf s.focus.tile * 2 ^ 8 + e → s.work.slotOf s.focus.tile * 2 ^ 8 + e < 0xFFF →
          exec (.sinkrd pr t1 t0) s = .next (delivered s (.sinkrd pr t1 t0) b
            (BitVec.ofNat 64 ((if (s.work.elem s.focus.tile e).sinkValid then 2 ^ 63 else 0)
              + (s.work.elem s.focus.tile e).sink.kind % 4 * 2 ^ 18 + (s.work.elem s.focus.tile e).sink.tag % 4 * 2 ^ 16
              + (s.work.elem s.focus.tile e).sink.mask % 2 ^ 16)) 1)))
    ∧ (ready s (.kwait pr lim t1 t0) b l r p →
      (g.kettle = 0 → exec (.kwait pr lim t1 t0) s = .next (delivered s (.kwait pr lim t1 t0) b 0 1))
      ∧ (s.work.kettleReached g g.kettle = true →
          exec (.kwait pr lim t1 t0) s = .next (delivered s (.kwait pr lim t1 t0) b (BitVec.ofNat 64 g.kettle) 1))
      ∧ (g.kettle ≠ 0 → s.work.kettleReached g g.kettle = false → b.waits = [] →
          exec (.kwait pr lim t1 t0) s = .next (withBlock s { phased s b .waiting with
            waits := [⟨s.focus.idx, s.now, 0, s.now + 16 * 2 ^ lim.toNat, none, [BitVec.ofNat 64 g.kettle]⟩] })))

/-- R311, R314, R317, R318: an instruction that waits for the staging claim takes it when it is free; a CFGSW that waits goes on once its
kettle is at every sink and no arming has been made since; a KWAIT delivers its kettle, or traps WAIT_TIMEOUT at its limit; an INJECT takes a
slot that has come free. A result is due a clk later (log 12). -/
def Obligations.RegionWaitsComplete : Prop :=
  (∀ (s : State) (t c i : Nat) (b : Block) (pr : BitVec 2) (t1 t0 : BitVec 9) (l r : Word) (x : Waiting) (n : Nat) (g : Region),
    waitingAt s t c i b (.cfgabort pr t1 t0) l r x → x.data = [] → (s.work.tile t).region = some n → mapFind n s.core.regions = some g →
    g.staging = none → g.rollable = false →
    exec (.stagingClaimWaitEnd t c i) s = .next (blockSet s (s.work.setRegion n { g with staging := some ⟨t * 4 + c, i⟩ }) t c
      { waitAnswered s b (.cfgabort pr t1 t0) i (BitVec.ofNat 64 g.phase) 1 with effs := b.effs ++ [(i, .abort n false)] }))
  ∧ (∀ (s : State) (t c i : Nat) (b : Block) (pr : BitVec 2) (t1 t0 : BitVec 9) (l r : Word) (x : Waiting) (n : Nat) (g : Region),
    waitingAt s t c i b (.cfgsw pr t1 t0) l r x → x.data ≠ [] → (s.work.tile t).region = some n → mapFind n s.core.regions = some g →
    g.sinks = [] → g.armedSince = false → g.switches < 65535 → (s.work.discardStranded g.live).2 = 0 →
    exec (.cfgswDrainDone t c i) s = .next (blockSet s (s.work.discardStranded g.live).1 t c
      { waitAnswered s b (.cfgsw pr t1 t0) i (BitVec.ofNat 64 (g.phase + (s.work.at_ t c i).switchesPending + 1)) 1 with
        effs := b.effs ++ [(i, .switch n)] }))
  ∧ (∀ (s : State) (t c i : Nat) (b : Block) (pr : BitVec 2) (lim : BitVec 5) (t1 t0 : BitVec 9) (l r k : Word) (x : Waiting) (n : Nat)
      (g : Region),
    waitingAt s t c i b (.kwait pr lim t1 t0) l r x → x.data = [k] → (s.work.tile t).region = some n → mapFind n s.core.regions = some g →
    (s.work.kettleReached g k.toNat = true →
      exec (.kwaitDone t c i) s = .next (blockSet s s.work t c (waitAnswered s b (.kwait pr lim t1 t0) i k 1)))
    ∧ (s.work.kettleReached g k.toNat = false → x.due ≤ s.now →
      exec (.kwaitLimitExpire t c i) s = .next (blockSet s s.work t c (waitTrapped b i 0x09 (BitVec.ofNat 64 (6 * 2 ^ 7 + i))))))
  ∧ (∀ (s : State) (t c i : Nat) (b : Block) (pr : BitVec 2) (l r : Word) (x : Waiting),
    waitingAt s t c i b (.inject pr) l r x → x.due ≤ s.now →
    (s.work.elem t (l.toNat % 256)).ctl.length + (s.work.elem t (l.toNat % 256)).ctlHeld.length < 4 →
    exec (.injectSlotRetry t c i) s = .next (blockSet s
      (s.work.setElem t (l.toNat % 256)
        { s.work.elem t (l.toNat % 256) with ctlHeld := (t * 4 + c) :: (s.work.elem t (l.toNat % 256)).ctlHeld }) t c
      { b with insts := listModify (fun z => { z with phase := .performed }) i b.insts, waits := [],
               effs := b.effs ++ [(i, .inject l r)] }))

namespace Sys2Proof.Claims

/-! ### Engine commands (17 R343 to R360) -/

/-- The operand `a` names a descriptor of eight words, which reads as `ws`; after the reads the machine is `w` (R343). -/
def described (s : State) (a : Word) (w : Work) (ws : List Word) : Prop :=
  a.toNat % 64 = 0 ∧ s.work.readWords s.work.who 8 (operandVa s a) = (w, .ok ws)

/-- A completion address is 0, or a multiple of 8 whose page may be written (R344); after the check the machine is `u`. -/
def completes (w : Work) (va : Nat) (u : Work) : Prop :=
  va % 2 ^ 64 = 0 ∧ u = w ∨ va % 2 ^ 64 ≠ 0 ∧ va % 8 = 0 ∧ ∃ pa b, w.translate w.who .fill 8 va = (u, .ok pa b)

/-- The command of the instruction in focus, as an engine takes it up at commit. -/
def commanded (w : Work) (i : Instr) (ws : List Word) : EngCmd :=
  { instr := i, who := { w.who with tlb := none }, party := w.party, die := dieOf w.focus.tile, seg := w.me.dseg.toNat, words := ws,
    task := w.taskOf w.focus.tile }

/-- The address that a word of a descriptor names in the issuer's segment. -/
def inSegment (w : Work) (a : Word) : Nat := w.me.dseg.toNat * 2 ^ 64 + a.toNat

/-- R346, R347, R349: the rows of CPY and CPYFE, and what they ask of the fields' alignment. -/
def copyRow (i : Instr) (src dst d2 : Word) : Prop :=
  match i with
  | .cpy _ mode => mode = 3#2 ∨ src.toNat % 8 = 0 ∧ dst.toNat % 8 = 0 ∧ d2.toNat % 2 ^ 48 % 8 = 0
  | .cpyfeOut _ => src.toNat % 8 = 0 ∧ dst.toNat % 8 = 0 ∧ d2.toNat % 2 ^ 48 % 64 = 0
  | .cpyfeIn _ => src.toNat % 8 = 0 ∧ dst.toNat % 8 = 0 ∧ d2.toNat % 2 ^ 48 % 64 = 0
  | _ => False

/-- The word of a pool at an index. -/
def poolWord (w : Work) (pool k : Nat) : Nat := (w.word (pool + 8 * k)).toNat

/-- The reserved words and fields of a pool descriptor are 0, and its chunk is made of whole pages (R352). -/
def poolSound (w : Work) (pool : Nat) : Prop :=
  poolWord w pool 0 % 65536 = 0 ∧ poolWord w pool 1 / 2 ^ 57 = 0 ∧ poolWord w pool 1 % 65536 = 0 ∧ poolWord w pool 3 / 2 ^ 32 = 0
    ∧ ∀ k, (4 ≤ k ∧ k < 8) ∨ (25 ≤ k ∧ k < 32) → poolWord w pool k = 0

/-- The pool descriptor at the virtual address `va` lies at `pa`: it may be written, no line of it is poisoned, it is sound, and the task is
not deterministic (R343, R352, R353, R356). -/
def pooled (s : State) (ea : Nat) (w : Work) (pa : Nat) : Prop :=
  ea % 256 = 0 ∧ s.work.det = false ∧ (∃ u, s.work.translate s.work.who .atomic 8 (s.work.me.dseg.toNat * 2 ^ 64 + ea) = (w, .ok pa u))
    ∧ (∀ k, k < 4 → w.poisonOf (pa + 64 * k) = none) ∧ poolSound w pa

/-- No other party holds a claim (R213). -/
def unclaimed (s : State) : Prop := ∀ k ∈ s.core.claims, k.party = s.work.party

/-- R353: the size class, the bytes of its blocks, and what of the chunk is used when one more has been carved. -/
def classOf (size : Nat) : Nat := (List.range 17).findIdx (fun c => size ≤ 16 * 2 ^ c)
def carvedAt (used c : Nat) : Nat := (used + min (16 * 2 ^ c) 65536 - 1) / min (16 * 2 ^ c) 65536 * min (16 * 2 ^ c) 65536

/-- The blocks of ALLOC that performed: T0 has the block's address, T1 has 1. -/
def allocated (s : State) (i : Instr) (b : Block) (blk : Word) (a : Nat × Nat × Nat × Nat) : Block :=
  { phased s b .performed with
    allocs := b.allocs ++ [a]
    inflight := b.inflight ++ (if (shape i).t0 = noTarget then [] else [⟨s.focus.idx, (shape i).t0, .val blk, s.now + 1⟩])
      ++ (if (shape i).t1 = noTarget then [] else [⟨s.focus.idx, (shape i).t1, .val 1, s.now + 1⟩]) }

/-- Every word of some stretches of memory set to 0, with one bit, an event a word (R353). -/
def zeroed (full : Bool) (ps : List (Nat × Nat)) (w : Work) : Work := ps.foldl (fun w x => w.initWords x.1 full (x.2 / 8)) w

/-- `c` stands at the head of the engines' commands, and nothing else does; its engine does not wait for a completion word (R344). -/
def alone (s : State) (c : EngCmd) : Prop :=
  s.core.engines = [c] ∧ c.paused = false ∧ c.node = none ∧ ∀ x ∈ s.core.comps, x.die = c.die → x.kind ≠ Work.engineKind c.instr

/-- The state after an engine has ended its only command. -/
def idleEngines (s : State) (w : Work) : State := s.put { w with core := { w.core with engines := [] } }

end Sys2Proof.Claims

/-- R343, R346, R347, R349: a CPY or CPYFE whose descriptor has no reserved bit set, whose fields are aligned, and whose completion word can
be written, performs: its command stands for commit, and no memory has moved. -/
def Sys2Proof.Claims.CopyCommandsComplete : Prop :=
  ∀ (s : State) (i : Instr) (b : Block) (l r p d0 d1 d2 d3 d4 : Word) (w u : Work), ready s i b l r p → accessTurn s → copyRow i d0 d1 d2 →
    described s l w [d0, d1, d2, d3, d4, 0, 0, 0] → d4.toNat < 256 → completes w (d4.toNat * 2 ^ 64 + d3.toNat) u →
    exec i s = .next (through s u { phased s b .performed with
      effs := b.effs ++ [(s.focus.idx, .engine (commanded u i [d0, d1, d2, d3, d4, 0, 0, 0]))] })

/-- R347: a CPY whose length is no multiple of 8 traps COPY_ALIGN (0x0F), except in mode KEEPDEST. R343: a misaligned descriptor traps
ALIGN, and a reserved word that is not 0 traps PROTECTION with subcode 3, S_EINFO naming the word. -/
def Sys2Proof.Claims.CopyCommandsThatTrap : Prop :=
  (∀ (s : State) (i : Instr) (b : Block) (l r p : Word), ready s i b l r p → accessTurn s → copyRow i 0 0 0 →
    l.toNat % 64 ≠ 0 → exec i s = .next (trapped s b 0x04 (BitVec.ofNat 64 (l.toNat % 2 ^ 56 * 2 ^ 8 + s.focus.idx))))
  ∧ (∀ (s : State) (pr mode : BitVec 2) (b : Block) (l r p d0 d1 d2 d3 : Word) (w : Work), ready s (.cpy pr mode) b l r p → accessTurn s → mode ≠ 3#2 →
    described s l w [d0, d1, d2, d3, 0, 0, 0, 0] → d0.toNat % 8 = 0 → d1.toNat % 8 = 0 → d2.toNat % 8 ≠ 0 →
    exec (.cpy pr mode) s = .next (through s w { phased s b .trapped with
      traps := b.traps ++ [⟨s.focus.idx, 0x0F, BitVec.ofNat 64 (d2.toNat % 2 ^ 48 * 2 ^ 8 + s.focus.idx)⟩],
      waits := b.waits.filter (fun x => x.idx != s.focus.idx) }))
  ∧ (∀ (s : State) (pr mode : BitVec 2) (b : Block) (l r p d0 d1 d2 d3 d6 d7 : Word) (w : Work), ready s (.cpy pr mode) b l r p → accessTurn s →
    described s l w [d0, d1, d2, d3, 0, 0, d6, d7] → d6 ≠ 0 →
    exec (.cpy pr mode) s = .next (through s w { phased s b .trapped with
      traps := b.traps ++ [⟨s.focus.idx, 0x06, BitVec.ofNat 64 (3 * 2 ^ 13 + 4 * 2 ^ 10 + 6 * 2 ^ 7 + s.focus.idx)⟩],
      waits := b.waits.filter (fun x => x.idx != s.focus.idx) }))

/-- R350, R351, R360: IMPOSE, IMPREL and DGST, their descriptors sound and aligned, perform: their command stands for commit. -/
def Sys2Proof.Claims.ImposerAndDigestComplete : Prop :=
  (∀ (s : State) (pr : BitVec 2) (b : Block) (l r p d0 d1 d2 d3 d4 d5 : Word) (w u : Work), ready s (.impose pr) b l r p → accessTurn s →
    described s l w [d0, d1, d2, d3, d4, d5, 0, 0] → d0.toNat % 4 = 0 → d1.toNat < 2 ^ 44 → d2.toNat % 4 = 0 → d3.toNat % 8 = 0 →
    d4.toNat < 2 ^ 16 → completes w (inSegment w d5) u →
    exec (.impose pr) s = .next (through s u { phased s b .performed with
      effs := b.effs ++ [(s.focus.idx, .engine (commanded u (.impose pr) [d0, d1, d2, d3, d4, d5, 0, 0]))] }))
  ∧ (∀ (s : State) (pr : BitVec 2) (b : Block) (l r p : Word), ready s (.imprel pr) b l r p → l.toNat < 2 ^ 16 →
    exec (.imprel pr) s = .next (promised s b (.engine (commanded s.work (.imprel pr) [l]))))
  ∧ (∀ (s : State) (pr : BitVec 2) (b : Block) (l r p d0 d1 d2 : Word) (w u : Work), ready s (.dgst pr) b l r p → accessTurn s →
    described s l w [d0, d1, d2, 0, 0, 0, 0, 0] → d0.toNat % 8 = 0 → d1.toNat % 8 = 0 → d1.toNat < 2 ^ 48 → d2.toNat % 8 = 0 →
    completes w (inSegment w d2) u →
    exec (.dgst pr) s = .next (through s u { phased s b .performed with
      effs := b.effs ++ [(s.focus.idx, .engine (commanded u (.dgst pr) [d0, d1, d2, 0, 0, 0, 0, 0]))] }))

/-- R353: ALLOC of at most 2^20 bytes, the pool's list of the class not empty, takes its first block: HEAD becomes word 0 of the block,
then every word of the block is set to 0 with the bit of FULLINIT, and the block's address and 1 are delivered; of an exhausted pool
ALLOC.n delivers 0 and 0 and ALLOC.t traps ALLOC_EXHAUSTED, and nothing changes. A result is due a clk later (log 12). -/
def Sys2Proof.Claims.AllocCompletes : Prop :=
  ∀ (s : State) (i : Instr) (pr : BitVec 2) (t1 t0 : BitVec 9) (b : Block) (l r p : Word) (w : Work) (pool c : Nat),
    (i = .allocT pr t1 t0 ∨ i = .allocN pr t1 t0) → ready s i b l r p → accessTurn s → unclaimed s → pooled s l.toNat w pool → c = classOf r.toNat →
    (r.toNat ≤ 2 ^ 20 → poolWord w pool (8 + c) ≠ 0 → poolWord w pool (8 + c) % 8 = 0 → ∀ (u : Work) (pa n : Nat) (q : List (Nat × Nat)),
      w.blockPages w.who 17 (poolWord w pool 1 / 2 ^ 48 % 2 ^ 8 * 2 ^ 64 + poolWord w pool (8 + c)) (16 * 2 ^ c) = (u, .ok ((pa, n) :: q)) →
      exec i s = .next (through s
        (zeroed (decide (poolWord w pool 1 / 2 ^ 56 % 2 = 1)) ((pa, n) :: q) (u.putWord (pool + 64 + 8 * c) (u.word pa)))
        (allocated s i b (w.word (pool + 64 + 8 * c)) (pool, c, poolWord w pool (8 + c), pa))))
    ∧ (r.toNat ≤ 2 ^ 20 → poolWord w pool (8 + c) = 0 →
        carvedAt (poolWord w pool 2) c + 16 * 2 ^ c ≤ poolWord w pool 1 % 2 ^ 48 → ∀ (u : Work) (pa n : Nat) (q : List (Nat × Nat)),
      w.blockPages w.who 17 (poolWord w pool 1 / 2 ^ 48 % 2 ^ 8 * 2 ^ 64 + (poolWord w pool 0 + carvedAt (poolWord w pool 2) c) % 2 ^ 64)
        (16 * 2 ^ c) = (u, .ok ((pa, n) :: q)) →
      exec i s = .next (through s
        (zeroed (decide (poolWord w pool 1 / 2 ^ 56 % 2 = 1)) ((pa, n) :: q)
          (u.putWord (pool + 16) (BitVec.ofNat 64 (carvedAt (poolWord w pool 2) c + 16 * 2 ^ c))))
        (allocated s i b (BitVec.ofNat 64 (poolWord w pool 0 + carvedAt (poolWord w pool 2) c))
          (pool, c, (poolWord w pool 0 + carvedAt (poolWord w pool 2) c) % 2 ^ 64, pa))))
    ∧ (2 ^ 20 < r.toNat ∨ poolWord w pool (8 + c) = 0 ∧ poolWord w pool 1 % 2 ^ 48 < carvedAt (poolWord w pool 2) c + 16 * 2 ^ c →
      (i = .allocN pr t1 t0 → exec i s = .next (through s w { phased s b .performed with
        inflight := b.inflight ++ sends i s.focus.idx (.val 0) (s.now + 1) }))
      ∧ (i = .allocT pr t1 t0 → exec i s = .next (through s w { phased s b .trapped with
        traps := b.traps ++ [⟨s.focus.idx, 0x0A, BitVec.ofNat 64 (l.toNat / 2 ^ 8 % 2 ^ 48 * 2 ^ 16
          + (if 2 ^ 20 < r.toNat then 0x1F else c) * 2 ^ 7 + s.focus.idx)⟩],
        waits := b.waits.filter (fun x => x.idx != s.focus.idx) })))

/-- R354: FREE of a block that is aligned for its class, and whose first word no poisoned line holds, stands for commit, and of 0 has no
effect. R355: POOLGROW with a sound base and
length stands for commit. -/
def Sys2Proof.Claims.FreeAndGrowComplete : Prop :=
  (∀ (s : State) (pr : BitVec 2) (b : Block) (l r p : Word) (w : Work) (pool : Nat), ready s (.free pr) b l r p → accessTurn s →
    l.toNat % 2 ^ 8 ≤ 16 → r.toNat % min (16 * 2 ^ (l.toNat % 2 ^ 8)) 65536 = 0 → pooled s (l.toNat / 256 * 256) w pool →
    (r = 0 → exec (.free pr) s = .next (through s w (phased s b .performed)))
    ∧ (r ≠ 0 → ∀ (u : Work) (pa : Nat) (k : Option Bool),
        w.translate w.who .descStore 8 (poolWord w pool 1 / 2 ^ 48 % 2 ^ 8 * 2 ^ 64 + r.toNat) = (u, .ok pa k) → u.poisonIn pa 8 = none →
      exec (.free pr) s = .next (through s u { phased s b .performed with
        effs := b.effs ++ [(s.focus.idx, .pfree pool (l.toNat % 2 ^ 8) r.toNat pa)] })))
  ∧ (∀ (s : State) (pr : BitVec 2) (b : Block) (l r p base len : Word) (w u : Work) (pool : Nat), ready s (.poolgrow pr) b l r p → accessTurn s →
    pooled s l.toNat w pool → r.toNat % 16 = 0 → w.readWords w.who 2 (inSegment w r) = (u, .ok [base, len]) →
    base.toNat % 65536 = 0 → len.toNat % 65536 = 0 → len ≠ 0 → len.toNat < 2 ^ 48 →
    exec (.poolgrow pr) s = .next (through s u { phased s b .performed with
      effs := b.effs ++ [(s.focus.idx, .pgrow pool base.toNat len.toNat)] }))

/-- R357 to R359: with S_MODE.CW set, CWPROBE delivers 1 for a key that the directory holds, which becomes the most recently used, and
leaves the entry's eight words for commit; it delivers 0 for another. CWSTORE and CWINV stand for commit. Without S_MODE.CW each traps
PROTECTION with subcode 5. A result is due a clk later (log 12). -/
def Sys2Proof.Claims.CatchwordsComplete : Prop :=
  (∀ (s : State) (pr : BitVec 2) (t1 t0 : BitVec 9) (b : Block) (l r p d0 d1 d2 d3 d4 d5 d6 d7 : Word) (w : Work),
    ready s (.cwprobe pr t1 t0) b l r p → accessTurn s → s.work.me.mode.getLsbD 2 = true → described s l w [d0, d1, d2, d3, d4, d5, d6, d7] →
    d0.toNat < 2 ^ 48 → d1.toNat % 64 = 0 →
    ((∀ e ∈ w.core.directory, ¬(e.asid = w.me.asid.toNat ∧ e.key = d0.toNat)) →
      exec (.cwprobe pr t1 t0) s = .next (through s w (answered s (.cwprobe pr t1 t0) b 0)))
    ∧ (∀ (e : CwEntry) (before after : List CwEntry) (u : Work) (ps : List Nat), w.core.directory = before ++ e :: after →
      (∀ x ∈ before ++ after, ¬(x.asid = e.asid ∧ x.key = e.key)) → e.asid = w.me.asid.toNat → e.key = d0.toNat →
      ({ w with core := { w.core with directory := e :: before ++ after } } : Work).placeWords w.who 8 (inSegment w d1) = (u, .ok ps) →
      exec (.cwprobe pr t1 t0) s = .next (through s u { answered s (.cwprobe pr t1 t0) b 1 with
        effs := b.effs ++ [(s.focus.idx, .stores (ps.zip [BitVec.ofNat 64 e.step, BitVec.ofNat 64 (e.probe % 2 ^ 64), BitVec.ofNat 64 (e.out % 2 ^ 64),
          BitVec.ofNat 64 e.plen, BitVec.ofNat 64 e.olen, BitVec.ofNat 64 (e.probe / 2 ^ 64 + e.out / 2 ^ 64 * 2 ^ 8), 0, 0]))] })))
  ∧ (∀ (s : State) (pr : BitVec 2) (b : Block) (l r p d0 d1 d2 d3 d4 d5 d6 : Word) (w : Work),
    ready s (.cwstore pr) b l r p → accessTurn s → s.work.me.mode.getLsbD 2 = true → described s l w [d0, d1, d2, d3, d4, d5, d6, 0] →
    d0.toNat < 2 ^ 48 → d1.toNat < 2 ^ 32 → d3.toNat < 2 ^ 32 → d5.toNat < 2 ^ 48 → d6.toNat < 2 ^ 16 →
    exec (.cwstore pr) s = .next (through s w { phased s b .performed with
      effs := b.effs ++ [(s.focus.idx, .cwstore [d0, d1, d2, d3, d4, d5, d6, 0])] }))
  ∧ (∀ (s : State) (pr : BitVec 2) (b : Block) (l r p d0 d1 d2 d3 d4 d5 d6 d7 : Word) (w : Work),
    ready s (.cwinv pr) b l r p → accessTurn s → s.work.me.mode.getLsbD 2 = true → described s l w [d0, d1, d2, d3, d4, d5, d6, d7] → d0.toNat < 2 ^ 49 →
    exec (.cwinv pr) s = .next (through s w { phased s b .performed with effs := b.effs ++ [(s.focus.idx, .cwinv d0)] }))
  ∧ (∀ (s : State) (i : Instr) (pr : BitVec 2) (t1 t0 : BitVec 9) (b : Block) (l r p : Word),
    (i = .cwprobe pr t1 t0 ∨ i = .cwstore pr ∨ i = .cwinv pr) → ready s i b l r p → accessTurn s → s.work.me.mode.getLsbD 2 = false →
    exec i s = .next (trapped s b 0x06 (BitVec.ofNat 64 (5 * 2 ^ 13 + 4 * 2 ^ 10 + s.focus.idx))))

/-- R346, R347: one event of a copy writes one destination word, its data the source's and its bit as the mode says, and nothing else; the
last event ends the command. R349: CPYFE writes 64 bits to one array word, or sets one word's bit. R360: the digest of one word is the
CRC-64 of its eight bytes and its bit, written to DEST by a filling store. (Commands that the engine has to itself, without completion word
for the copies.) -/
def Sys2Proof.Claims.CopiesAndDigestsMove : Prop :=
  (∀ (s : State) (c : EngCmd) (pr mode : BitVec 2) (d0 d1 d2 : Word) (n : Nat) (w1 w2 w3 : Work) (v spa pa : Nat) (su u : Option Bool),
    alone s c → c.instr = .cpy pr mode → c.words = [d0, d1, d2, 0, 0, 0, 0, 0] → 0 < n → d0.toNat % 8 = 0 → d1.toNat % 8 = 0 →
    d2.toNat % 2 ^ 48 = c.done + 8 → c.done % 8 = 0 →
    s.work.gather c.who 8 (d2.toNat / 2 ^ 48 % 2 ^ 8 * 2 ^ 64 + d0.toNat + c.done) = (w1, .ok v) →
    w1.reach c.who .desc (d2.toNat / 2 ^ 48 % 2 ^ 8 * 2 ^ 64 + d0.toNat + c.done) = (w2, .ok (spa, su)) →
    w2.reach c.who .descStore (d2.toNat / 2 ^ 56 * 2 ^ 64 + d1.toNat + c.done) = (w3, .ok (pa, u)) →
    w3.anyClaimed [pa / 8] = false →
    exec (.copyComplete 0 n) s = .next (idleEngines s
      (if mode = 3#2 then w3.store pa 8 v
       else (w3.store pa 8 v).setBit (pa / 8) (if mode = 0#2 then w3.bitAt spa su else decide (mode = 1#2)))))
  ∧ (∀ (s : State) (c : EngCmd) (pr : BitVec 2) (d0 d1 d2 : Word) (n : Nat) (w1 w2 : Work) (v pa : Nat) (u : Option Bool),
    alone s c → c.words = [d0, d1, d2, 0, 0, 0, 0, 0] → 0 < n →
    (c.instr = .cpyfeOut pr → d2.toNat % 2 ^ 48 = 64 * (c.done + 1) →
      s.work.gatherBits c.who 64 (d2.toNat / 2 ^ 48 % 2 ^ 8 * 2 ^ 64 + d0.toNat + 512 * c.done) = (w1, .ok v) →
      w1.reach c.who .descStore (d2.toNat / 2 ^ 56 * 2 ^ 64 + d1.toNat + 8 * c.done) = (w2, .ok (pa, u)) → w2.anyClaimed [pa / 8] = false →
      exec (.copyComplete 0 n) s = .next (idleEngines s (w2.store pa 8 v)))
    ∧ (c.instr = .cpyfeIn pr → d2.toNat % 2 ^ 48 = c.done + 1 →
      s.work.gather c.who 8 (d2.toNat / 2 ^ 56 * 2 ^ 64 + d1.toNat + 8 * (c.done / 64)) = (w1, .ok v) →
      w1.reach c.who .descStore (d2.toNat / 2 ^ 48 % 2 ^ 8 * 2 ^ 64 + d0.toNat + 8 * c.done) = (w2, .ok (pa, u)) → w2.anyClaimed [pa / 8] = false →
      exec (.copyComplete 0 n) s = .next (idleEngines s (w2.setBit (pa / 8) (decide (v / 2 ^ (c.done % 64) % 2 = 1))))))
  ∧ (∀ (s : State) (c : EngCmd) (pr : BitVec 2) (d0 d2 : Word) (w1 w2 : Work) (spa pa : Nat) (su u : Option Bool),
    alone s c → s.core.comps = [] → c.instr = .dgst pr → c.words = [d0, 8, d2, 0, 0, 0, 0, 0] → d2 ≠ 0 →
    s.work.reach c.who .desc (c.seg * 2 ^ 64 + d0.toNat) = (w1, .ok (spa, su)) →
    ({ w1 with core := { w1.core with engines := [] } } : Work).translate c.who .fill 8 (c.seg * 2 ^ 64 + d2.toNat) = (w2, .ok pa u) →
    w2.poisonOf pa = none → w2.bitAt pa u = false → w2.anyClaimed [pa / 8] = false → (∀ x ∈ w2.core.resv, x.word ≠ pa / 8) →
    exec (.dgstComplete 0) s = .next (s.put (w2.fillWord pa
      (BitVec.ofNat 64 (crc64 0 (bytesOf 8 (w1.dataAt spa 8 su) ++ [if w1.bitAt spa su then 1 else 0]))))))

/-- R350: an IMPOSE of one key and one bin stores the two counts, which depend on the key alone. R344: a completion word that waited is
written when its word is EMPTY, and, its page unresolvable, is entered in the error log instead, as the command's engine and the word's
address, and raises the host error vector: its message leaves, or the vector is pending while it is masked (R408; that the package's entry
has this form is log 32). R348: a command that waits for a page goes on when firmware has made it resident. (Commands and completion words
that stand alone.) -/
def Sys2Proof.Claims.ImposerAndCompletionsMove : Prop :=
  (∀ (s : State) (c : EngCmd) (pr : BitVec 2) (d0 d2 d4 : Word) (w1 w2 w3 : Work) (key p0 p1 : Nat) (u0 u1 : Option Bool),
    alone s c → c.instr = .impose pr → c.words = [d0, 1, d2, 0, d4, 0, 0, 0] → c.counts = [] → c.done = 0 →
    s.work.gather c.who 4 (c.seg * 2 ^ 64 + d0.toNat) = (w1, .ok key) →
    w1.reach c.who .descStore (c.seg * 2 ^ 64 + d2.toNat) = (w2, .ok (p0, u0)) → w2.anyClaimed [p0 / 8] = false →
    (w2.store p0 4 (if key = 0 then 1 else 0)).reach c.who .descStore (c.seg * 2 ^ 64 + d2.toNat + 4) = (w3, .ok (p1, u1)) →
    w3.anyClaimed [p1 / 8] = false →
    exec (.imposeComplete 0) s = .next (idleEngines s (w3.store p1 4 (if key = 0 then 0 else 1))))
  ∧ (∀ (s : State) (x : Comp) (w : Work) (ok : Bool), s.core.comps = [x] → s.core.engines = [] → x.node = none → (x.kind = 1 ∨ x.kind = 2) →
    (∀ (pa : Nat) (u : Option Bool), s.work.translate x.who .fill 8 x.va = (w, .ok pa u) → x.va % 8 = 0 → w.poisonOf pa = none →
      w.bitAt pa u = false → s.core.claims = [] → (∀ y ∈ w.core.resv, y.word ≠ pa / 8) →
      exec (.completionWrite 0 ok) s = .next (s.put { w.fillWord pa x.value with core := { (w.fillWord pa x.value).core with comps := [] } }))
    ∧ (∀ sub, s.work.translate x.who .fill 8 x.va = (w, .fault 5 sub) → s.core.claims = [] →
      ∃ t, exec (.completionWrite 0 false) s = .next t ∧ t.core.comps = [] ∧ t.mem = s.mem ∧ t.full = s.full
        ∧ t.core.errlog = s.core.errlog ++ [⟨0x100, x.kind, x.va, s.now⟩]
        ∧ ((mapGet {} 0 s.core.msix).masked = true → (mapGet {} 0 t.core.msix).pending = true ∧ t.core.out = s.core.out)
        ∧ ((mapGet {} 0 s.core.msix).masked = false →
            t.core.out = s.core.out ++ [.msi (mapGet {} 0 s.core.msix).addr (mapGet {} 0 s.core.msix).data])))
  ∧ (∀ (s : State) (c : EngCmd), s.core.engines = [c] → c.paused = true →
    exec (.enginePageResume 0 true) s = .next (s.put { s.work with core := { s.core with engines := [{ c with paused := false }] } }))

namespace Sys2Proof.Claims

/-! ### The wide unit (17 R324 to R341; 03 R78 to R81, R86) -/

/-- The register instructions of the wide unit (17 R330 to R336) and those of the accumulators that touch no memory (R340). -/
def wideRegister (i : Instr) : Bool :=
  match i with
  | .wmovD .. | .waddD .. | .wmulD .. | .wfmaD .. | .wminD .. | .wmaxD .. | .wcmpD .. | .wselD .. | .wcvtD .. | .wredD .. | .wvarD ..
  | .wshufD .. | .wmovS .. | .waddS .. | .wmulS .. | .wfmaS .. | .wminS .. | .wmaxS .. | .wcmpS .. | .wselS .. | .wcvtS .. | .wredS ..
  | .wvarS .. | .wshufS .. | .xacc .. | .xadd .. | .xclr .. | .xmov .. => true
  | _ => false

/-- R328: outside a deterministic task, or with no other context the tile's only wide issuer, a wide instruction may be issued. -/
def mayIssue (s : State) : Prop :=
  s.work.det = false ∨ (s.work.tile s.focus.tile).wide.issuer = none ∨ (s.work.tile s.focus.tile).wide.issuer = some s.focus.ctx

/-- A wide instruction as it stands for commit. -/
def wideOpOf (w : Work) (i : Instr) (lanes uni : List (Nat × Nat)) (words : List Word) : WideOp :=
  { instr := i, who := { w.who with tlb := none }, party := w.party, seg := w.me.dseg.toNat, lanes := lanes, uni := uni, words := words }

/-- Every word of a list (number, effective address) is aligned, translated, permitted and free of poison (R334, R340): the machine then,
and for each word its number, its physical address and, on an ALL_EMPTY or ALL_FULL page, the page's bit. -/
def wordsReach (form : AccForm) : List (Nat × Nat) → Work → Work → List (Nat × Nat × Option Bool) → Prop
  | [], w, u, rs => u = w ∧ rs = []
  | (n, ea) :: rest, w, u, rs => ∃ (v : Work) (pa : Nat) (b : Option Bool) (q : List (Nat × Nat × Option Bool)),
      ea % 8 = 0 ∧ w.translate w.who form 8 (w.me.dseg.toNat * 2 ^ 64 + ea) = (v, .ok pa b) ∧ classify pa ≠ .control ∧ v.poisonOf pa = none
        ∧ rs = (n, pa, b) :: q ∧ wordsReach form rest v u q

/-- Number and physical address of each word; and number and virtual address of those on an ALL_EMPTY or ALL_FULL page. -/
def placesOf (rs : List (Nat × Nat × Option Bool)) : List (Nat × Nat) := rs.map (fun r => (r.1, r.2.1))
def uniformOf (seg : Nat) (eas : List (Nat × Nat)) (rs : List (Nat × Nat × Option Bool)) : List (Nat × Nat) :=
  (eas.zip rs).filterMap (fun x => if x.2.2.2.isSome then some (x.1.1, seg * 2 ^ 64 + x.1.2) else none)

/-- Lanes of a mask register: k0 has every lane. -/
def laneIn (x : Wide) (km l : Nat) : Prop := km = 0 ∨ (mapGet 0 km x.k).getLsbD l = true

/-- R334, R340: the words that WLD and WST, and XST and XLD, access. -/
def laneWords (x : Wide) (km : Nat) (a s : Word) : List (Nat × Nat) :=
  ((List.range 16).filter (fun l => km == 0 || (mapGet 0 km x.k).getLsbD l)).map (fun l => (l, (a.toNat + l * s.toNat) % 2 ^ 64))
def accWords (a : Word) : List (Nat × Nat) := (List.range 69).map (fun j => (j, (a.toNat + 8 * j) % 2 ^ 64))

/-- R337: stage word `k` is in its range: operation, operands, selects and CREG. -/
def stageSound (k : Nat) (packed : Bool) (v : Word) : Prop :=
  let f (lo n : Nat) : Nat := v.toNat / 2 ^ lo % 2 ^ n
  let takes := if f 20 4 = 4 then 3 else if f 20 4 = 0 ∨ 7 ≤ f 20 4 then 1 else 2
  let fine (n sel : Nat) : Prop := if n < takes then sel ≤ 8 ∧ (k = 0 → sel ≠ 4) ∧ (k ≤ 1 → sel ≠ 5) else sel = 7
  v.toNat < 2 ^ 24 ∧ f 20 4 ≤ 8 ∧ fine 0 (f 13 4) ∧ fine 1 (f 9 4) ∧ fine 2 (f 5 4)
    ∧ (f 0 5 = 0 ∨ f 13 4 = 6 ∨ f 13 4 = 8 ∨ f 9 4 = 6 ∨ f 9 4 = 8 ∨ f 5 4 = 6 ∨ f 5 4 = 8) ∧ (packed = true → v.getLsbD 17 = true)

/-- R338: a stream word has no reserved bit set, and its stride and offset are multiples of 4. -/
def streamSound (v : Word) : Prop := v.toNat / 2 ^ 22 % 2 ^ 10 = 0 ∧ v.toNat % 4 = 0 ∧ v.toNat / 2 ^ 32 % 4 = 0

/-- The scalar instruction whose result a lane of a wide instruction has (R331 to R333), in RNE. -/
def scalarTwin (i : Instr) : Option Instr :=
  match i with
  | .waddD .. => some (.faddD 0 0 0 0)
  | .wmulD .. => some (.fmulD 0 0 0 0)
  | .wfmaD .. => some (.fmaD 0 0 0)
  | .wminD .. => some (.fmin 0 0 0 0)
  | .wmaxD .. => some (.fmax 0 0 0 0)
  | .waddS .. => some (.faddS 0 0 0 0)
  | .wmulS .. => some (.fmulS 0 0 0 0)
  | .wfmaS .. => some (.fmaS 0 0 0)
  | .wminS .. => some (.fmin 0 1 0 0)
  | .wmaxS .. => some (.fmax 0 1 0 0)
  | .wcvtD _ _ _ kind _ =>
    if kind = 0 then some (.fcvtSD 0 0 0 0) else if kind = 3 then some (.fcvtID 0 0 0 0) else if kind = 4 then some (.fcvtND 0 0 0 0)
    else if kind = 5 then some (.fcvtDI 0 0 0 0) else if kind = 6 then some (.fcvtDN 0 0 0 0) else none
  | .wcvtS _ _ _ kind _ => if kind = 0 then some (.fcvtDS 0 0 0) else none
  | _ => none

/-- The scalar comparison of WCMP (R332). -/
def compareTwin (i : Instr) : Option Instr :=
  let of (cond : BitVec 2) (wid : BitVec 1) : Instr :=
    if cond = 0 then .fteq 0 wid 0 0 else if cond = 1 then .ftlt 0 wid 0 0 else if cond = 2 then .ftle 0 wid 0 0 else .ftun 0 wid 0 0
  match i with
  | .wcmpD _ cond _ _ _ _ => some (of cond 0)
  | .wcmpS _ cond _ _ _ _ => some (of cond 1)
  | _ => none

/-- Result and flags of a scalar FP instruction on operands a, b, c, as R203 to R207 give them. -/
def scalarGives (i : Instr) (a b c v : Word) (fl : BitVec 5) : Prop :=
  (∃ lat, floatSpecial i a b c = some (some (v, fl), lat))
    ∨ ((∀ x lat, floatSpecial i a b c ≠ some (some x, lat)) ∧ ∃ f rm x lat, floatExact i a b c = some (f, rm, x, lat) ∧ x ≠ 0
        ∧ roundsTo f rm (decide (x < 0)) (fun t => SignType.sign (|x| - t)) v fl)
    ∨ (∃ lat, floatSelect i a b = some (v, fl, lat)) ∨ floatToInteger i a = some (v, fl)

/-- Destination, sources and mask of a lane instruction: wd, wa, wb, km. -/
def laneFields (i : Instr) : Option (Nat × Nat × Nat × Nat) :=
  match i with
  | .wmovD _ d a k | .wmovS _ d a k => some (d.toNat, a.toNat, 0, k.toNat)
  | .waddD _ d a b k | .wmulD _ d a b k | .wfmaD _ d a b k | .wminD _ d a b k | .wmaxD _ d a b k | .wselD _ d a b k | .wshufD _ d a b k
  | .waddS _ d a b k | .wmulS _ d a b k | .wfmaS _ d a b k | .wminS _ d a b k | .wmaxS _ d a b k | .wselS _ d a b k | .wshufS _ d a b k =>
    some (d.toNat, a.toNat, b.toNat, k.toNat)
  | .wcvtD _ d a _ k | .wcvtS _ d a _ k => some (d.toNat, a.toNat, 0, k.toNat)
  | _ => none

/-- Lane `l` of a register, a register being sixteen lanes. -/
def laneOf (x : Wide) (r l : Nat) : Word := mapGet 0 (r * 16 + l) x.w

/-- Instruction `o` is the oldest of the wide queue of tile `t`, before `q`, and the unit may apply it (R325). -/
def unitHas (s : State) (t : Nat) (o : WideOp) (q : List WideOp) : Prop :=
  (s.work.tile t).wq = o :: q ∧ (s.work.tile t).stopped = none ∧ (s.work.tile t).wide.run = none

/-- The unit of tile `t` has applied an instruction: memory, the stage program and the rest of the queue stand, and of the context that
issued it S_FPFLAGS alone has changed. -/
def unitDid (s u : State) (t : Nat) (o : WideOp) (q : List WideOp) (fl : BitVec 5) : Prop :=
  u.mem = s.mem ∧ u.full = s.full ∧ (u.work.tile t).wq = q ∧ (u.work.tile t).wide.run = none
    ∧ (u.work.tile t).wide.prog = (s.work.tile t).wide.prog
    ∧ u.work.ctx (o.party / 4) (o.party % 4) =
        { s.work.ctx (o.party / 4) (o.party % 4) with fpflags := (s.work.ctx (o.party / 4) (o.party % 4)).fpflags ||| fl }

/-- Registers w, masks and accumulators of the unit of tile `t`, but for what is named. -/
def sameLanes (s u : State) (t : Nat) (but : Nat → Nat → Prop) : Prop :=
  ∀ r l, l < 16 → ¬but r l → laneOf (u.work.tile t).wide r l = laneOf (s.work.tile t).wide r l
def sameMasks (s u : State) (t : Nat) (but : Nat → Prop) : Prop :=
  ∀ n, ¬but n → mapGet 0 n (u.work.tile t).wide.k = mapGet 0 n (s.work.tile t).wide.k
def sameAccs (s u : State) (t : Nat) (but : Nat → Prop) : Prop :=
  ∀ n, ¬but n → mapGet {} n (u.work.tile t).wide.x = mapGet {} n (s.work.tile t).wide.x

/-- NaN, infinity and finite value of the low bits of a word in a narrow format: E4M3 has one NaN and no infinity (R52). -/
def rowNan (f : Fmt) (a : Word) : Bool := if f = e4m3 then fpMag f a == 127 else fpIsNan f a
def rowInf (f : Fmt) (a : Word) : Bool := f ≠ e4m3 && fpIsInf f a
def rowSnan (f : Fmt) (a : Word) : Bool := f ≠ e4m3 && fpIsSnan f a

/-- The magnitude bits above those of the largest finite value, and the canonical NaN (R52, R56). -/
def overMag (f : Fmt) : Nat := if f = e4m3 then 127 else fpTop f
def narrowNan (f : Fmt) : Word :=
  if f = fp64 then 0x7FF8000000000000 else if f = fp32 then 0x7FC00000 else if f = fp16 then 0x7E00 else if f = bf16 then 0x7FC0
  else if f = e5m2 then 0x7E else 0x7F

/-- R58, R60: the word of format `f` in the low bits of `a` converts in RNE to the word `v` of format `g` with the flags `fl`; `sat` is the
saturating option. -/
def convertsTo (f g : Fmt) (sat : Bool) (a v : Word) (fl : BitVec 5) : Prop :=
  let neg := fpSign f a
  let x : ℚ := magnitude f (fpMag f a)
  let top := overMag g - 1
  let c (t : ℚ) : Int := SignType.sign (x - t)
  if rowNan f a then v = narrowNan g ∧ fl = (if rowSnan f a then 16 else 0)
  else if rowInf f a then
    (if sat then v = fpWord g neg top ∧ fl = 16
     else if g = e4m3 then v = narrowNan g ∧ fl = 16 else v = fpWord g neg (fpTop g) ∧ fl = 0)
  else if 0 ≤ c ((magnitude g top + magnitude g (top + 1)) / 2) then
    v = (if sat then fpWord g neg top else if g = e4m3 then narrowNan g else fpWord g neg (fpTop g)) ∧ fl = 5
  else ∃ k, k ≤ top ∧ v = fpWord g neg k
    ∧ (c ((magnitude g k + magnitude g (k + 1)) / 2) < 0 ∨ (c ((magnitude g k + magnitude g (k + 1)) / 2) = 0 ∧ k % 2 = 0))
    ∧ (k = 0 ∨ 0 < c ((magnitude g (k - 1) + magnitude g k) / 2) ∨ (c ((magnitude g (k - 1) + magnitude g k) / 2) = 0 ∧ k % 2 = 0))
    ∧ fl = (if c (magnitude g k) = 0 then 0 else if c (magnitude g (2 ^ g.fb) - magnitude g 1 / 4) < 0 then 3 else 1)

/-- R333: what the kinds of WCVT that no scalar instruction has give for a lane: 1 and 2 of op 0x7B, 1 to 12 of op 0x7C. -/
def narrowLane (i : Instr) (a v : Word) (fl : BitVec 5) : Prop :=
  match i with
  | .wcvtD _ _ _ kind _ =>
    if kind = 1 then convertsTo fp64 bf16 false a v fl else if kind = 2 then convertsTo fp64 fp16 false a v fl else False
  | .wcvtS _ _ _ kind _ =>
    if kind = 1 then convertsTo fp32 bf16 false a v fl
    else if kind = 2 then convertsTo fp32 fp16 false a v fl
    else if kind = 3 then convertsTo bf16 fp32 false a v fl
    else if kind = 4 then convertsTo fp16 fp32 false a v fl
    else if kind = 5 then convertsTo fp32 e4m3 false a v fl
    else if kind = 6 then convertsTo fp32 e4m3 true a v fl
    else if kind = 7 then convertsTo fp32 e5m2 false a v fl
    else if kind = 8 then convertsTo fp32 e5m2 true a v fl
    else if kind = 9 then convertsTo e4m3 fp32 false a v fl
    else if kind = 10 then convertsTo e5m2 fp32 false a v fl
    else if kind = 11 then
      v = BitVec.ofNat 64 ((floatInteger fp32 (-2 ^ 31) (2 ^ 31 - 1) 0 a).1.toNat % 2 ^ 32) ∧ fl = (floatInteger fp32 (-2 ^ 31) (2 ^ 31 - 1) 0 a).2
    else if kind = 12 then
      (a.setWidth 32 = 0 ∧ v = 0 ∧ fl = 0)
        ∨ (a.setWidth 32 ≠ 0 ∧ roundsTo fp32 0 (decide ((a.setWidth 32).toInt < 0))
            (fun t => SignType.sign (|((a.setWidth 32).toInt : ℚ)| - t)) v fl)
    else False
  | _ => False

/-- R335: the tree of WRED over the lanes of a mask: what stands at each place of each level, absent where no lane of the mask is below it,
and the flags that its making raised. -/
def reductionTree (x : Wide) (f : Fmt) (comb : Instr) (a km : Nat) (val : Nat → Nat → Option Word) (fl : Nat → Nat → BitVec 5) : Prop :=
  (∀ l, l < 16 → (laneIn x km l → val 0 l = some (fpLow f (laneOf x a l))) ∧ (¬laneIn x km l → val 0 l = none))
    ∧ ∀ n j, n < 4 → j < 2 ^ (3 - n) →
      (val n (2 * j) = none → val (n + 1) j = val n (2 * j + 1) ∧ fl (n + 1) j = 0)
      ∧ (val n (2 * j + 1) = none → val (n + 1) j = val n (2 * j) ∧ fl (n + 1) j = 0)
      ∧ (∀ y z, val n (2 * j) = some y → val n (2 * j + 1) = some z →
          ∃ v, val (n + 1) j = some v ∧ scalarGives comb y z 0 v (fl (n + 1) j))

/-- The flags of a whole tree. -/
def treeFlags (fl : Nat → Nat → BitVec 5) : BitVec 5 :=
  (List.range 4).foldl (fun r n => (List.range (2 ^ (3 - n))).foldl (fun r j => r ||| fl (n + 1) j) r) 0

/-- R86: the variance of a row of finite values with the divisor `dv`, the mean rounded once to FP64. -/
def rowVariance (f : Fmt) (xs : List ℚ) (dv : Nat) (v : Word) (fl : BitVec 5) : Prop :=
  ∃ mean : ℚ,
    (xs.sum = 0 ∧ mean = 0
      ∨ xs.sum ≠ 0 ∧ ∃ (w : Word) (g : BitVec 5), mean = fpValue fp64 w
          ∧ roundsTo fp64 0 (decide (xs.sum < 0)) (fun t => SignType.sign (|xs.sum| / xs.length - t)) w g)
    ∧ ((xs.map (fun x => (x - mean) ^ 2)).sum = 0 ∧ v = 0 ∧ fl = 0
      ∨ (xs.map (fun x => (x - mean) ^ 2)).sum ≠ 0
          ∧ roundsTo f 0 false (fun t => SignType.sign ((xs.map (fun x => (x - mean) ^ 2)).sum / dv - t)) v fl)

/-- The lanes of a mask, ascending. -/
def lanesOf (x : Wide) (km : Nat) : List Nat := (List.range 16).filter (fun l => km == 0 || (mapGet 0 km x.k).getLsbD l)

/-- An accumulator of the unit of a tile. -/
def accOf (s : State) (t n : Nat) : Acc := mapGet {} n (s.work.tile t).wide.x

/-- The whole next state of an instruction that changes accumulator `n` alone. -/
def accApplied (s : State) (t : Nat) (q : List WideOp) (n : Nat) (a : Acc) : State :=
  s.lift (fun w => w.setTile t { w.tile t with wq := q, wide := { (w.tile t).wide with x := mapSet n a (w.tile t).wide.x } })

/-- R79: the sum of an accumulator and an addend, by class and with the exact value reduced mod 2^4352 when it leaves the range. -/
def accPlus (x : Acc) (v : Int) (cls : Nat) : Acc :=
  if -2 ^ 4351 ≤ x.a + v ∧ x.a + v < 2 ^ 4351 then
    { x with a := x.a + v, cls := if x.cls = 0 then cls else if cls = 0 ∨ cls = x.cls then x.cls else 3 }
  else { a := (x.a + v + 2 ^ 4351) % 2 ^ 4352 - 2 ^ 4351, cls := 3, ovf := true }

/-- R81: word `j` of an accumulator. -/
def accWord (x : Acc) (j : Nat) : Word :=
  if j < 68 then BitVec.ofInt 64 (x.a / 2 ^ (64 * j)) else BitVec.ofNat 64 (x.cls + (if x.ovf then 4 else 0))

/-- The run of tile `t` is over, and its completion word is due. -/
def runEnded (w : Work) (t : Nat) (c : Comp) : Work :=
  let w' := w.setTile t { w.tile t with wide := { (w.tile t).wide with run := none } }
  { w' with core := { w'.core with comps := w.core.comps ++ [c] } }

end Sys2Proof.Claims

/-- R325, R328: a wide register instruction that may be issued performs: it stands for commit, and nothing else changes. In a deterministic
task whose wide instructions another context of the tile issues it traps DET_ATOMIC. -/
def Sys2Proof.Claims.WideRegistersFire : Prop :=
  ∀ (s : State) (i : Instr) (b : Block) (l r p : Word), wideRegister i = true → ready s i b l r p →
    (mayIssue s → exec i s = .next (promised s b (.wide (wideOpOf s.work i [] [] []))))
    ∧ (¬mayIssue s → exec i s = .next (trapped s b 0x0B (BitVec.ofNat 64 s.focus.idx)))

/-- R326, R334, R340: WLD and WST, every wide instruction committed earlier on the tile applied, XST and XLD, with every word that they
access aligned, translated and permitted, perform: they stand for commit with the words' addresses. -/
def Sys2Proof.Claims.WideMemoryFires : Prop :=
  ∀ (s : State) (b : Block) (l r p : Word) (u : Work) (rs : List (Nat × Nat × Option Bool)), mayIssue s →
    (∀ (pr : BitVec 2) (wd : BitVec 5) (km : BitVec 3), (s.work.tile s.focus.tile).wq = [] → (s.work.tile s.focus.tile).wide.run = none →
      (ready s (.wld pr wd km) b l r p →
        wordsReach .plainLoad (laneWords (s.work.tile s.focus.tile).wide km.toNat l r) s.work u rs →
        exec (.wld pr wd km) s = .next (through s u { phased s b .performed with effs := b.effs ++ [(s.focus.idx,
          .wide (wideOpOf u (.wld pr wd km) (placesOf rs)
            (uniformOf s.work.me.dseg.toNat (laneWords (s.work.tile s.focus.tile).wide km.toNat l r) rs) []))] }))
      ∧ (ready s (.wst pr wd km) b l r p →
        wordsReach .plainStore (laneWords (s.work.tile s.focus.tile).wide km.toNat l r) s.work u rs →
        exec (.wst pr wd km) s = .next (through s u { phased s b .performed with effs := b.effs ++ [(s.focus.idx,
          .wide (wideOpOf u (.wst pr wd km) (placesOf rs)
            (uniformOf s.work.me.dseg.toNat (laneWords (s.work.tile s.focus.tile).wide km.toNat l r) rs) []))] })))
    ∧ (∀ (pr xn : BitVec 2),
      (ready s (.xst pr xn) b l r p → wordsReach .plainStore (accWords l) s.work u rs →
        exec (.xst pr xn) s = .next (through s u { phased s b .performed with effs := b.effs ++ [(s.focus.idx,
          .wide (wideOpOf u (.xst pr xn) (placesOf rs) (uniformOf s.work.me.dseg.toNat (accWords l) rs) []))] }))
      ∧ (ready s (.xld pr xn) b l r p → wordsReach .plainLoad (accWords l) s.work u rs →
        exec (.xld pr xn) s = .next (through s u { phased s b .performed with effs := b.effs ++ [(s.focus.idx,
          .wide (wideOpOf u (.xld pr xn) (placesOf rs) (uniformOf s.work.me.dseg.toNat (accWords l) rs) []))] })))

/-- R337, R338: WCFG with a sound stage program, and WRUN with sound streams and a completion word that can be written, perform: they stand
for commit with their descriptors. That WRUN is checked against the installed program, which says which streams it selects, when its block
ends, since an earlier WCFG of the block may change the program, is log 22. -/
def Sys2Proof.Claims.StreamCommandsFire : Prop :=
  (∀ (s : State) (pr : BitVec 2) (b : Block) (l r p c : Word) (st : List Word) (w : Work), ready s (.wcfg pr) b l r p → accessTurn s → mayIssue s →
    st.length = 6 → described s l w (st ++ [c, 0]) → c.toNat < 2 ^ 6 → c.toNat % 8 ≤ 5 →
    (∀ (k : Nat) (v : Word), st[k]? = some v → k ≤ c.toNat % 8 → stageSound k (c.getLsbD 5) v) →
    exec (.wcfg pr) s = .next (through s w { phased s b .performed with
      effs := b.effs ++ [(s.focus.idx, .wide (wideOpOf w (.wcfg pr) [] [] (st ++ [c, 0])))] }))
  ∧ (∀ (s : State) (pr : BitVec 2) (b : Block) (l r p d5 comp : Word) (st : List Word) (w u : Work), ready s (.wrun pr) b l r p → accessTurn s →
    mayIssue s → st.length = 5 → described s l w (st ++ [d5, comp, 0]) → (∀ v ∈ st, streamSound v) → d5.toNat < 2 ^ 35 → d5.toNat / 2 ^ 33 ≠ 3 →
    completes w (inSegment w comp) u →
    exec (.wrun pr) s = .next (through s u { phased s b .performed with
      effs := b.effs ++ [(s.focus.idx, .wide (wideOpOf u (.wrun pr) [] [] (st ++ [d5, comp, 0])))] }))

/-- R341, R80: with every wide instruction committed earlier on the tile applied, XSGN delivers the sign of an accumulator, and XRND its
value rounded to FP64 in its mode, +0 for zero; class NAN raises NV, an infinite class gives its infinity. Neither changes the accumulator. -/
def Sys2Proof.Claims.AccumulatorReadsComplete : Prop :=
  ∀ (s : State) (b : Block) (l r p : Word) (pr rm n : BitVec 2) (t1 t0 : BitVec 9) (x : Acc), x = accOf s s.focus.tile n.toNat → mayIssue s →
    x.cls < 4 → (s.work.tile s.focus.tile).wq = [] → (s.work.tile s.focus.tile).wide.run = none →
    (ready s (.xsgn pr n t1 t0) b l r p →
      exec (.xsgn pr n t1 t0) s = .next (floated s (.xsgn pr n t1 t0) { b with wide := true }
        (if x.cls = 3 then 0 else if x.cls = 1 then 1 else if x.cls = 2 then BitVec.allOnes 64 else BitVec.ofInt 64 x.a.sign)
        (if x.cls = 3 then 16 else 0) 2))
    ∧ (ready s (.xrnd pr rm n t1 t0) b l r p →
      (x.cls ≠ 0 ∨ x.a = 0 →
        exec (.xrnd pr rm n t1 t0) s = .next (floated s (.xrnd pr rm n t1 t0) { b with wide := true }
          (if x.cls = 3 then fpNan fp64 else if x.cls = 1 then fpWord fp64 false (fpTop fp64)
            else if x.cls = 2 then fpWord fp64 true (fpTop fp64) else 0)
          (if x.cls = 3 then 16 else 0) 8))
      ∧ (x.cls = 0 → x.a ≠ 0 → ∀ (v : Word) (fl : BitVec 5),
        roundsTo fp64 rm.toNat (decide (x.a < 0)) (fun t => SignType.sign (|(x.a : ℚ)| / 2 ^ 2148 - t)) v fl →
        exec (.xrnd pr rm n t1 t0) s = .next (floated s (.xrnd pr rm n t1 t0) { b with wide := true } v fl 8)))

/-- R331 to R333: applied, an arithmetic lane instruction gives each lane of its mask what the scalar instruction gives for that lane, in
RNE, and ORs the lanes' flags into S_FPFLAGS of the context that committed it. A lane outside the mask, and every other register, stays. -/
def Sys2Proof.Claims.LaneArithmeticApplies : Prop :=
  ∀ (s : State) (t : Nat) (o : WideOp) (q : List WideOp) (i : Instr) (d a b k : Nat) (v : Nat → Word) (fl : Nat → BitVec 5),
    unitHas s t o q → scalarTwin o.instr = some i → laneFields o.instr = some (d, a, b, k) →
    (∀ l, l < 16 → laneIn (s.work.tile t).wide k l →
      scalarGives i (laneOf (s.work.tile t).wide a l) (laneOf (s.work.tile t).wide b l) (laneOf (s.work.tile t).wide d l) (v l) (fl l)) →
    (∀ l, ¬laneIn (s.work.tile t).wide k l → fl l = 0) →
    ∃ u, exec (.wideApply t) s = .next u
      ∧ unitDid s u t o q ((List.range 16).foldl (fun f l => f ||| fl l) 0)
      ∧ (∀ l, l < 16 → laneIn (s.work.tile t).wide k l → laneOf (u.work.tile t).wide d l = v l)
      ∧ sameLanes s u t (fun r l => r = d ∧ laneIn (s.work.tile t).wide k l)
      ∧ sameMasks s u t (fun _ => False) ∧ sameAccs s u t (fun _ => False)

/-- R333, R60: applied, a WCVT of a kind that no scalar instruction has (FP64 to BF16 or FP16; FP32 to or from BF16, FP16, E4M3, E5M2, with
and without saturation, and I32) converts each lane of its mask in RNE, with 0 above a narrow result, and ORs the lanes' flags into
S_FPFLAGS of the context that committed it. A lane outside the mask, and every other register, stays. -/
def Sys2Proof.Claims.NarrowConversionsApply : Prop :=
  ∀ (s : State) (t : Nat) (o : WideOp) (q : List WideOp) (d a b k : Nat) (v : Nat → Word) (fl : Nat → BitVec 5),
    unitHas s t o q → scalarTwin o.instr = none →
    (∃ pr x y kind z, o.instr = .wcvtD pr x y kind z ∨ o.instr = .wcvtS pr x y kind z) → laneFields o.instr = some (d, a, b, k) →
    (∀ l, l < 16 → laneIn (s.work.tile t).wide k l → narrowLane o.instr (laneOf (s.work.tile t).wide a l) (v l) (fl l)) →
    (∀ l, ¬laneIn (s.work.tile t).wide k l → fl l = 0) →
    ∃ u, exec (.wideApply t) s = .next u
      ∧ unitDid s u t o q ((List.range 16).foldl (fun f l => f ||| fl l) 0)
      ∧ (∀ l, l < 16 → laneIn (s.work.tile t).wide k l → laneOf (u.work.tile t).wide d l = v l)
      ∧ sameLanes s u t (fun r l => r = d ∧ laneIn (s.work.tile t).wide k l)
      ∧ sameMasks s u t (fun _ => False) ∧ sameAccs s u t (fun _ => False)

/-- R331: applied, WMOV copies the lanes of its mask, WSEL takes each lane from wa or wb as its mask says and writes every lane, and WSHUF
takes for each lane of its mask the lane of wa that the low four bits of wb name. R332: WCMP sets the bits of its mask as the scalar
comparison of R206 says, for the lanes of km, and k0 discards. -/
def Sys2Proof.Claims.LaneMovesApply : Prop :=
  (∀ (s : State) (t : Nat) (o : WideOp) (q : List WideOp) (d a b k : Nat), unitHas s t o q → laneFields o.instr = some (d, a, b, k) →
    scalarTwin o.instr = none → (∀ pr x y z kind, o.instr ≠ .wcvtD pr x y kind z ∧ o.instr ≠ .wcvtS pr x y kind z) →
    ∃ u, exec (.wideApply t) s = .next u ∧ unitDid s u t o q 0
      ∧ ((∃ pr x y z, o.instr = .wmovD pr x y z ∨ o.instr = .wmovS pr x y z) → ∀ l, l < 16 →
          (laneIn (s.work.tile t).wide k l → laneOf (u.work.tile t).wide d l = laneOf (s.work.tile t).wide a l)
          ∧ (¬laneIn (s.work.tile t).wide k l → laneOf (u.work.tile t).wide d l = laneOf (s.work.tile t).wide d l))
      ∧ ((∃ pr x y z m, o.instr = .wselD pr x y z m ∨ o.instr = .wselS pr x y z m) → ∀ l, l < 16 →
          (laneIn (s.work.tile t).wide k l → laneOf (u.work.tile t).wide d l = laneOf (s.work.tile t).wide a l)
          ∧ (¬laneIn (s.work.tile t).wide k l → laneOf (u.work.tile t).wide d l = laneOf (s.work.tile t).wide b l))
      ∧ ((∃ pr x y z m, o.instr = .wshufD pr x y z m ∨ o.instr = .wshufS pr x y z m) → ∀ l, l < 16 →
          (laneIn (s.work.tile t).wide k l → laneOf (u.work.tile t).wide d l =
            laneOf (s.work.tile t).wide a ((laneOf (s.work.tile t).wide b l).toNat % 16))
          ∧ (¬laneIn (s.work.tile t).wide k l → laneOf (u.work.tile t).wide d l = laneOf (s.work.tile t).wide d l))
      ∧ sameLanes s u t (fun r _ => r = d) ∧ sameMasks s u t (fun _ => False) ∧ sameAccs s u t (fun _ => False))
  ∧ (∀ (s : State) (t : Nat) (o : WideOp) (q : List WideOp) (i : Instr) (pr cond : BitVec 2) (kd km : BitVec 3) (a b : BitVec 5)
      (c : Nat → Bool) (fl : Nat → BitVec 5),
    unitHas s t o q → (o.instr = .wcmpD pr cond kd a b km ∨ o.instr = .wcmpS pr cond kd a b km) → compareTwin o.instr = some i →
    (∀ l, l < 16 → laneIn (s.work.tile t).wide km.toNat l → ∃ lat,
      floatSelect i (laneOf (s.work.tile t).wide a.toNat l) (laneOf (s.work.tile t).wide b.toNat l) = some (if c l then 1 else 0, fl l, lat)) →
    (∀ l, ¬laneIn (s.work.tile t).wide km.toNat l → fl l = 0) →
    ∃ u, exec (.wideApply t) s = .next u ∧ unitDid s u t o q ((List.range 16).foldl (fun f l => f ||| fl l) 0)
      ∧ (kd ≠ 0 → ∀ l, l < 16 → (mapGet 0 kd.toNat (u.work.tile t).wide.k).getLsbD l =
          if km = 0 ∨ (mapGet 0 km.toNat (s.work.tile t).wide.k).getLsbD l = true then c l
          else (mapGet 0 kd.toNat (s.work.tile t).wide.k).getLsbD l)
      ∧ sameLanes s u t (fun _ _ => False) ∧ sameMasks s u t (fun n => n = kd.toNat ∧ kd ≠ 0) ∧ sameAccs s u t (fun _ => False))

/-- R335: applied, WRED of no lane gives +0, plus infinity or minus infinity in lane 0, of one lane that lane, of two what the scalar FADD,
FMIN or FMAX gives for them. R336: WVAR of no lane, or of one with the sample option, gives the canonical NaN and raises NV; of one finite
lane, without it, +0. Lanes 1 to 15 and every other register stay. -/
def Sys2Proof.Claims.ReductionsApply : Prop :=
  ∀ (s : State) (t : Nat) (o : WideOp) (q : List WideOp) (f : Fmt) (wid : BitVec 1) (pr : BitVec 2) (d a : BitVec 5) (km : BitVec 3),
    unitHas s t o q → f = fpWidth wid →
    (∀ red : BitVec 2, red.toNat < 3 → o.instr = (if wid = 0 then .wredD pr d a red km else .wredS pr d a red km) → ∀ (v : Word) (fl : BitVec 5),
      ((∀ l, l < 16 → ¬laneIn (s.work.tile t).wide km.toNat l) ∧ fl = 0
          ∧ v = (if red = 0 then 0 else fpWord f (decide (red = 2)) (fpTop f)))
        ∨ (∃ j, j < 16 ∧ (∀ l, l < 16 → (laneIn (s.work.tile t).wide km.toNat l ↔ l = j)) ∧ fl = 0
          ∧ v = fpLow f (laneOf (s.work.tile t).wide a.toNat j))
        ∨ (∃ j k, j < k ∧ k < 16 ∧ (∀ l, l < 16 → (laneIn (s.work.tile t).wide km.toNat l ↔ l = j ∨ l = k))
          ∧ scalarGives (if red = 0 then (if wid = 0 then .faddD 0 0 0 0 else .faddS 0 0 0 0) else if red = 1 then .fmin 0 wid 0 0 else .fmax 0 wid 0 0)
              (laneOf (s.work.tile t).wide a.toNat j) (laneOf (s.work.tile t).wide a.toNat k) 0 v fl) →
      ∃ u, exec (.wideApply t) s = .next u ∧ unitDid s u t o q fl ∧ laneOf (u.work.tile t).wide d.toNat 0 = v
        ∧ sameLanes s u t (fun r l => r = d.toNat ∧ l = 0) ∧ sameMasks s u t (fun _ => False) ∧ sameAccs s u t (fun _ => False))
    ∧ (∀ opt : BitVec 1, o.instr = (if wid = 0 then .wvarD pr d a opt km else .wvarS pr d a opt km) → ∀ (v : Word) (fl : BitVec 5),
      ((∀ l, l < 16 → ¬laneIn (s.work.tile t).wide km.toNat l) ∧ v = fpNan f ∧ fl = 16)
        ∨ (∃ j, j < 16 ∧ (∀ l, l < 16 → (laneIn (s.work.tile t).wide km.toNat l ↔ l = j))
          ∧ (opt = 1 ∧ v = fpNan f ∧ fl = 16
            ∨ opt = 0 ∧ fpFinite f (laneOf (s.work.tile t).wide a.toNat j) = true ∧ v = 0 ∧ fl = 0)) →
      ∃ u, exec (.wideApply t) s = .next u ∧ unitDid s u t o q fl ∧ laneOf (u.work.tile t).wide d.toNat 0 = v
        ∧ sameLanes s u t (fun r l => r = d.toNat ∧ l = 0) ∧ sameMasks s u t (fun _ => False) ∧ sameAccs s u t (fun _ => False))

/-- R335: applied, WRED of any lanes gives in lane 0 what stands at the root of its tree of sums, minima or maxima, each rounded once in RNE,
and the flags of them all. R336, R86: WVAR of a row that holds a NaN or an infinity gives the canonical NaN and raises NV; of a finite row
the variance: the exact mean rounded once to FP64, the exact sum of the squares of the deviations, divided and rounded once in the row's
format, with the flags of that rounding. Lanes 1 to 15 and every other register stay. -/
def Sys2Proof.Claims.RowsReduce : Prop :=
  ∀ (s : State) (t : Nat) (o : WideOp) (q : List WideOp) (f : Fmt) (wid : BitVec 1) (pr : BitVec 2) (d a : BitVec 5) (km : BitVec 3),
    unitHas s t o q → f = fpWidth wid →
    (∀ (red : BitVec 2) (val : Nat → Nat → Option Word) (fl : Nat → Nat → BitVec 5) (v : Word), red.toNat < 3 →
      o.instr = (if wid = 0 then .wredD pr d a red km else .wredS pr d a red km) →
      reductionTree (s.work.tile t).wide f
        (if red = 0 then (if wid = 0 then .faddD 0 0 0 0 else .faddS 0 0 0 0) else if red = 1 then .fmin 0 wid 0 0 else .fmax 0 wid 0 0)
        a.toNat km.toNat val fl →
      val 4 0 = some v →
      ∃ u, exec (.wideApply t) s = .next u ∧ unitDid s u t o q (treeFlags fl) ∧ laneOf (u.work.tile t).wide d.toNat 0 = v
        ∧ sameLanes s u t (fun r l => r = d.toNat ∧ l = 0) ∧ sameMasks s u t (fun _ => False) ∧ sameAccs s u t (fun _ => False))
    ∧ (∀ (opt : BitVec 1) (v : Word) (fl : BitVec 5), o.instr = (if wid = 0 then .wvarD pr d a opt km else .wvarS pr d a opt km) →
      ((∃ l ∈ lanesOf (s.work.tile t).wide km.toNat, fpFinite f (laneOf (s.work.tile t).wide a.toNat l) = false) ∧ v = fpNan f ∧ fl = 16
        ∨ (∀ l ∈ lanesOf (s.work.tile t).wide km.toNat, fpFinite f (laneOf (s.work.tile t).wide a.toNat l) = true)
          ∧ opt.toNat < (lanesOf (s.work.tile t).wide km.toNat).length
          ∧ rowVariance f ((lanesOf (s.work.tile t).wide km.toNat).map (fun l => fpValue f (laneOf (s.work.tile t).wide a.toNat l)))
              ((lanesOf (s.work.tile t).wide km.toNat).length - opt.toNat) v fl) →
      ∃ u, exec (.wideApply t) s = .next u ∧ unitDid s u t o q fl ∧ laneOf (u.work.tile t).wide d.toNat 0 = v
        ∧ sameLanes s u t (fun r l => r = d.toNat ∧ l = 0) ∧ sameMasks s u t (fun _ => False) ∧ sameAccs s u t (fun _ => False))

/-- R340, R78, R79: applied, XCLR, XMOV and XADD change their accumulator alone; XACC adds the exact sum of the products of the finite lanes
of its mask. -/
def Sys2Proof.Claims.AccumulatorsApply : Prop :=
  ∀ (s : State) (t : Nat) (o : WideOp) (q : List WideOp) (pr d x : BitVec 2), unitHas s t o q →
    (o.instr = .xclr pr d → exec (.wideApply t) s = .next (accApplied s t q d.toNat ⟨0, 0, false⟩))
    ∧ (o.instr = .xmov pr d x → exec (.wideApply t) s = .next (accApplied s t q d.toNat (accOf s t x.toNat)))
    ∧ (o.instr = .xadd pr d x → exec (.wideApply t) s = .next (accApplied s t q d.toNat
        (accPlus (accOf s t d.toNat) (accOf s t x.toNat).a (accOf s t x.toNat).cls)))
    ∧ (∀ (a b : BitVec 5) (km : BitVec 3) (v : Int), o.instr = .xacc pr d a b km →
        (∀ l, l < 16 → laneIn (s.work.tile t).wide km.toNat l →
          fpFinite fp64 (laneOf (s.work.tile t).wide a.toNat l) = true ∧ fpFinite fp64 (laneOf (s.work.tile t).wide b.toNat l) = true) →
        (v : ℚ) / 2 ^ 2148 = (((List.range 16).filter (fun l => km == 0 || (mapGet 0 km.toNat (s.work.tile t).wide.k).getLsbD l)).map
          (fun l => fpValue fp64 (laneOf (s.work.tile t).wide a.toNat l) * fpValue fp64 (laneOf (s.work.tile t).wide b.toNat l))).sum →
        exec (.wideApply t) s = .next (accApplied s t q d.toNat (accPlus (accOf s t d.toNat) v 0)))

/-- R334, R340, R81, R337, R338: applied, WLD loads each of its words into its lane, WST stores its lanes in ascending order by plain
stores, XST stores the 69 words of its accumulator, XLD reads them back; WCFG replaces the stage program, and WRUN starts its run. -/
def Sys2Proof.Claims.WideMemoryApplies : Prop :=
  ∀ (s : State) (t : Nat) (o : WideOp) (q : List WideOp), unitHas s t o q →
    (∀ (pr : BitVec 2) (d : BitVec 5) (km : BitVec 3), o.instr = .wld pr d km → o.uni = [] → (o.lanes.map (·.1)).Nodup →
      (∀ x ∈ o.lanes, x.1 < 16) →
      ∃ u, exec (.wideApply t) s = .next u ∧ unitDid s u t o q 0
        ∧ (∀ x ∈ o.lanes, laneOf (u.work.tile t).wide d.toNat x.1 = s.work.word x.2)
        ∧ sameLanes s u t (fun r l => r = d.toNat ∧ l ∈ o.lanes.map (·.1)) ∧ sameMasks s u t (fun _ => False) ∧ sameAccs s u t (fun _ => False))
    ∧ (∀ (pr : BitVec 2) (d : BitVec 5) (km : BitVec 3), o.instr = .wst pr d km →
      (∀ c ∈ s.core.claims, ∀ x ∈ o.lanes, c.word ≠ x.2 / 8) →
      exec (.wideApply t) s = .next (s.lift (fun w => o.lanes.foldl (fun w x => w.putWord x.2 (laneOf (s.work.tile t).wide d.toNat x.1))
        (w.setTile t { w.tile t with wq := q }))))
    ∧ (∀ pr x : BitVec 2, o.instr = .xst pr x → (∀ c ∈ s.core.claims, ∀ y ∈ o.lanes, c.word ≠ y.2 / 8) →
      exec (.wideApply t) s = .next (s.lift (fun w => o.lanes.foldl (fun w y => w.putWord y.2 (accWord (accOf s t x.toNat) y.1))
        (w.setTile t { w.tile t with wq := q }))))
    ∧ (∀ (pr x : BitVec 2) (a : Acc), o.instr = .xld pr x → o.uni = [] → (o.lanes.map (·.1)) = List.range 69 →
      (∀ y ∈ o.lanes, y.1 < 68 → s.work.word y.2 = accWord a y.1) → (∀ y ∈ o.lanes, y.1 = 68 → (s.work.word y.2).toNat % 8 = a.cls + (if a.ovf then 4 else 0)) →
      a.cls < 4 → -2 ^ 4351 ≤ a.a → a.a < 2 ^ 4351 →
      exec (.wideApply t) s = .next (accApplied s t q x.toNat a))
    ∧ (∀ pr, o.instr = .wcfg pr → exec (.wideApply t) s = .next (s.lift (fun w =>
        w.setTile t { w.tile t with wq := q, wide := { (w.tile t).wide with prog := o.words } })))
    ∧ (∀ pr, o.instr = .wrun pr → exec (.wideApply t) s = .next (s.lift (fun w =>
        w.setTile t { w.tile t with wq := q, wide := { (w.tile t).wide with run := some { op := o } } })))

/-- R325, R328: the wide instructions of a block that commits enter the tile's queue behind those that stand there; in a deterministic task
the context becomes the tile's only wide issuer. (No mark of the walker waits for a claim to end.) -/
def Sys2Proof.Claims.CommitQueuesWide : Prop :=
  ∀ (s : State) (t c : Nat) (b : Block) (x : ExitFired) (n : Nat) (o : WideOp), flying s t c b → mayCommit b x → b.mems = [] →
    b.effs = [(n, .wide o)] → wideRegister o.instr = true → b.writes = [] → x.kind ≠ .call → n < b.words.length → n < 128 →
    (s.work.tile t).wq.length < 64 → s.core.marks = [] →
    ∃ u, exec (.blockEnd t c) s = .next u ∧ (u.work.tile t).wq = (s.work.tile t).wq ++ [o] ∧ u.mem = s.mem ∧ u.full = s.full
      ∧ (u.work.tile t).wide.w = (s.work.tile t).wide.w ∧ (u.work.tile t).wide.k = (s.work.tile t).wide.k
      ∧ (u.work.tile t).wide.x = (s.work.tile t).wide.x
      ∧ (u.work.tile t).wide.issuer = (if (s.work.at_ t c 0).det = true ∧ (s.work.tile t).wide.issuer = none then some c
          else (s.work.tile t).wide.issuer)
      ∧ (u.work.ctx t c).block = none

/-- R339: one iteration of a run whose one stage is ADD of its streams I0 and I1 in FP64: each lane's sum, rounded in RNE, is stored at the
output stream's place by a write of its word, its bit as OFORM says. A run whose iterations are done ends, and its completion word says how
many there were. -/
def Sys2Proof.Claims.RunsIterate : Prop :=
  (∀ (s : State) (t : Nat) (r : WideRun) (d0 d1 d2 d3 d4 d5 comp : Word) (out : Nat → Word) (fl : Nat → BitVec 5),
    s.canonical → s.work.spineRuns t = true → t < 160 → (s.work.tile t).wide.run = some r → (s.work.tile t).wide.prog = [0x1002E0, 0, 0, 0, 0, 0, 0, 0] →
    r.op.words = [d0, d1, d2, d3, d4, d5, comp, 0] →
    d0.toNat < 2 ^ 22 → d1.toNat < 2 ^ 22 → d2 = 0 → d3 = 0 → d4.toNat < 2 ^ 22 → d0.getLsbD 21 = true → d1.getLsbD 21 = true → d4.getLsbD 21 = true →
    d0.toNat % 8 = 0 → d1.toNat % 8 = 0 → d4.toNat % 8 = 0 → d4.toNat % 2 ^ 21 + 128 ≤ 0x180000 →
    d0.toNat % 2 ^ 21 + 128 ≤ 0x180000 → d1.toNat % 2 ^ 21 + 128 ≤ 0x180000 →
    d5.toNat / 2 ^ 32 % 2 = 0 → d5.toNat / 2 ^ 33 < 3 → r.n + 1 < d5.toNat % 2 ^ 32 → s.core.claims = [] → s.core.poison = [] → s.core.watched = [] →
    (∀ l, l < 16 → scalarGives (.faddD 0 0 0 0) (s.work.word (stashBase t + d0.toNat % 2 ^ 21 + 8 * l))
      (s.work.word (stashBase t + d1.toNat % 2 ^ 21 + 8 * l)) 0 (out l) (fl l)) →
    ∃ u, exec (.wrunIteration t) s = .next u
      ∧ (∀ l, l < 16 → u.work.word (stashBase t + d4.toNat % 2 ^ 21 + 8 * l) = out l
          ∧ u.readFull ((stashBase t + d4.toNat % 2 ^ 21) / 8 + l) = (if d5.toNat / 2 ^ 33 = 1 then true else if d5.toNat / 2 ^ 33 = 2 then false
              else s.readFull ((stashBase t + d4.toNat % 2 ^ 21) / 8 + l)))
      ∧ (∀ a, ¬(stashBase t + d4.toNat % 2 ^ 21 ≤ a ∧ a < stashBase t + d4.toNat % 2 ^ 21 + 128) → u.readByte a = s.readByte a)
      ∧ ∃ r', (u.work.tile t).wide.run = some r' ∧ r'.n = r.n + 1 ∧ r'.op = r.op
          ∧ r'.flags = r.flags ||| (List.range 16).foldl (fun f l => f ||| fl l) 0)
  ∧ (∀ (s : State) (t : Nat) (r : WideRun) (d0 d1 d2 d3 d4 d5 comp : Word), s.work.spineRuns t = true →
    (s.work.tile t).wide.run = some r → r.op.words = [d0, d1, d2, d3, d4, d5, comp, 0] →
    d5.toNat % 2 ^ 32 ≤ r.n → s.core.claims = [] → comp ≠ 0 →
    exec (.wrunIteration t) s = .next (s.put (runEnded s.work t
      { who := r.op.who, va := r.op.seg * 2 ^ 64 + comp.toNat, value := BitVec.ofNat 64 (r.n % 2 ^ 40 * 2 ^ 8 + r.flags.toNat), kind := 0,
        party := r.op.party, task := s.work.taskOf t })))

namespace Sys2Proof.Claims

/-! ### The effects of a commit, one kind at a time (11 R212, R214; 15 R311 to R318; 17 R343, R354 to R359; 19 R384, R385) -/

/-- Block `b` may commit with the effects `es`, no memory effect and no write entry; no party claims a word, and no mark of the walker waits for
a claim to end. -/
def commits (s : State) (t c : Nat) (b : Block) (x : ExitFired) (es : List (Nat × Effect)) : Prop :=
  flying s t c b ∧ mayCommit b x ∧ b.mems = [] ∧ b.effs = es ∧ (∀ e ∈ es, e.1 < b.words.length) ∧ b.writes = []
    ∧ s.core.claims = [] ∧ s.core.marks = []

/-- The physical address of ring slot `n` of a queue (R224): 64 bytes a slot, in the pages of its ring. -/
def ringSlot (q : HQueue) (n : Nat) : Nat :=
  (q.ring[(q.rbase + 64 * n) / 2 ^ 16]?).getD 0 + (q.rbase + 64 * n) % 2 ^ 16

/-- The words of HBM that stand at `a`, `n` of them: aligned, and on no line that a waiter watches. -/
def plainWords (s : State) (a n : Nat) : Prop := a % 8 = 0 ∧ a + 8 * n ≤ 0x7800000000 ∧ s.core.watched = []

/-- Memory is as before outside `n` words at `a`. -/
def onlyWords (s u : State) (a n : Nat) : Prop :=
  (∀ y, ¬(a ≤ y ∧ y < a + 8 * n) → u.readByte y = s.readByte y) ∧ ∀ k, ¬(a / 8 ≤ k ∧ k < a / 8 + n) → u.readFull k = s.readFull k

/-- Words have been stored at their addresses, and memory is as before elsewhere, but for the bits of the words of `bits`. -/
def wordsStored (s u : State) (ws : List (Nat × Word)) (bits : Nat → Prop) : Prop :=
  (∀ y ∈ ws, u.work.word y.1 = y.2) ∧ (∀ a, (∀ y ∈ ws, ¬(y.1 ≤ a ∧ a < y.1 + 8)) → u.readByte a = s.readByte a)
    ∧ ∀ k, ¬bits k → u.readFull k = s.readFull k

/-- The tile of context in focus belongs to region `r`, which stands as `g`; its staging claim is nobody's but the context's. -/
def ownRegion (s : State) (t c r : Nat) (g : Region) : Prop :=
  (s.work.tile t).region = some r ∧ mapFind r s.core.regions = some g ∧ ∀ y, g.staging = some y → y.party = t * 4 + c

/-- The shadow plane of an element of a region, and the active one. -/
def shadowOf (g : Region) (e : Elem) : Plane := if g.activeB then e.planeA else e.planeB
def activeOf (g : Region) (e : Elem) : Plane := if g.activeB then e.planeB else e.planeA

/-- The sources of a region's active planes (R316), each once. -/
def sourcesOf (s : State) (g : Region) : List Slot := (s.work.regionSlots g.live).filter Slot.source

/-- Two states agree in memory and presence bits. -/
def sameMemory (s u : State) : Prop := u.mem = s.mem ∧ u.full = s.full

end Sys2Proof.Claims

/-- R214, R212, R216, R218 to R220: a block whose only memory effect is a consuming load, an AMO, a CAS or a RED commits it. A consuming load
leaves its word EMPTY and no byte changed; an AMO writes the value that it computed, a CAS that matched its new value and one that did not
nothing; a RED applies its operation to the bytes that memory then holds. EVERY OTHER byte and every other word's bit stays. (The word is
outside host memory and the control window, claimed by nobody else, and its line is not watched; no mark of the walker waits for a claim to
end.) -/
def Sys2Proof.Claims.AtomicsCommit : Prop :=
  ∀ (s : State) (t c : Nat) (b : Block) (x : ExitFired) (e : MemEff), s.canonical → flying s t c b → mayCommit b x → b.mems = [e] → b.effs = [] →
    (e.size ∈ [4, 8] ∨ e.kind = .consume ∧ e.size ∈ [1, 2]) → e.pa % e.size = 0 →
    (e.kind = .consume ∨ e.kind = .amo ∨ (∃ hit, e.kind = .cas hit) ∨ ∃ aop, e.kind = .red aop) →
    classify e.pa ≠ .control → classify (e.pa / 8 * 8) ≠ .host → e.pa / 64 ∉ s.core.watched →
    (∀ k ∈ s.core.claims, k.party ≠ t * 4 + c → k.word ≠ e.pa / 8) → s.core.marks = [] →
    ∃ u, exec (.blockEnd t c) s = .next u
      ∧ (∀ a, ¬(e.pa ≤ a ∧ a < e.pa + e.size) → u.readByte a = s.readByte a)
      ∧ (∀ k, k ≠ e.pa / 8 → u.readFull k = s.readFull k)
      ∧ u.readFull (e.pa / 8) = (if e.kind = .consume then false else s.readFull (e.pa / 8))
      ∧ (e.kind = .consume ∨ e.kind = .cas false → ∀ a, u.readByte a = s.readByte a)
      ∧ (e.kind = .amo ∨ e.kind = .cas true →
          ∀ i, i < e.size → (u.readByte (e.pa + i)).toNat = e.data.toNat / 2 ^ (8 * i) % 2 ^ 8)
      ∧ (∀ aop new, e.kind = .red aop → amoNew aop e.size (s.work.load e.pa e.size) e.data.toNat = some new →
          ∀ i, i < e.size → (u.readByte (e.pa + i)).toNat = new / 2 ^ (8 * i) % 2 ^ 8)
      ∧ (u.work.ctx t c).block = none

/-- R214, R225, R227 to R229: a push that commits takes the next sequence number; its record enters a hardware entry when the ring is empty and
an entry is free, and otherwise the next ring slot, by filling stores. A pop that commits frees its record's entry, and the oldest ring
record takes the place, its slot's words EMPTY again; the words that a pop or a peek writes are stored first. A QCFG that enables gives the
queue its owner, depth, record size and ring, with counts and SEQ 0 and every ring word 0 and EMPTY; one that disables leaves it disabled. -/
def Sys2Proof.Claims.QueueEffectsCommit : Prop :=
  ∀ (s : State) (t c : Nat) (b : Block) (x : ExitFired) (j q : Nat) (h : HQueue), s.canonical → s.work.hq q = h →
    (∀ rec, commits s t c b x [(j, .qpush q rec)] → h.pending = [t * 4 + c] → (∀ y ∈ h.entries, y.claim = none) →
      ((h.rin - h.rout).toNat = 0 ∧ (h.hin - h.hout).toNat < h.hd →
        ∃ u, exec (.blockEnd t c) s = .next u ∧ sameMemory s u
          ∧ u.work.hq q = { h with pending := [], entries := h.entries ++ [{ seq := h.seq.toNat, words := rec }], hin := h.hin + 1, seq := h.seq + 1 })
      ∧ (¬((h.rin - h.rout).toNat = 0 ∧ (h.hin - h.hout).toNat < h.hd) → ∀ a, a = ringSlot h (h.rin.toNat % h.rs) → plainWords s a rec.length →
        ∃ u, exec (.blockEnd t c) s = .next u ∧ u.work.hq q = { h with pending := [], rin := h.rin + 1, seq := h.seq + 1 }
          ∧ onlyWords s u a rec.length
          ∧ ∀ (i : Nat) (v : Word), rec[i]? = some v → u.work.word (a + 8 * i) = v ∧ u.readFull (a / 8 + i) = true))
    ∧ (∀ (ws : List (Nat × Word)) (n : Nat) (before after : List QRecord) (y : QRecord),
      commits s t c b x [(j, .stores ws), (j, .qpop q n)] → (ws.map (·.1)).Nodup → (∀ v ∈ ws, v.1 % 8 = 0) →
      h.pending = [] → h.entries = before ++ y :: after → y.seq = n → (∀ z ∈ before ++ after, z.seq ≠ n ∧ z.claim = none) →
      ((h.rin - h.rout).toNat = 0 →
        ∃ u, exec (.blockEnd t c) s = .next u ∧ u.work.hq q = { h with entries := before ++ after, hout := h.hout + 1 }
          ∧ wordsStored s u ws (fun _ => False))
      ∧ ((h.rin - h.rout).toNat ≠ 0 → ∀ a, a = ringSlot h (h.rout.toNat % h.rs) → plainWords s a h.rw →
        ∃ u, exec (.blockEnd t c) s = .next u
          ∧ u.work.hq q = { h with entries := before ++ after ++ [{ seq := h.seq.toNat - (h.rin - h.rout).toNat, words := u.work.loadWords a h.rw }],
                                   hout := h.hout + 1, hin := h.hin + 1, rout := h.rout + 1 }
          ∧ wordsStored s u ws (fun k => a / 8 ≤ k ∧ k < a / 8 + h.rw) ∧ ∀ i, i < h.rw → u.readFull (a / 8 + i) = false))
    ∧ (∀ (rbase hd rw rs owner : Nat) (ring : List Nat), commits s t c b x [(j, .qenable q rbase ring hd rw rs owner)] →
      rbase % 64 = 0 → rw ≤ 8 → s.core.watched = [] → (∀ p ∈ ring, p % 2 ^ 16 = 0 ∧ p < 0x7800000000) → rbase + 64 * rs ≤ ring.length * 2 ^ 16 →
      ∃ u, exec (.blockEnd t c) s = .next u
        ∧ u.work.hq q = { enabled := true, owner := owner, hd := hd, rw := rw, rs := rs, rbase := rbase, ring := ring }
        ∧ ∀ n i, n < rs → i < rw → u.work.word (ringSlot { h with rbase := rbase, ring := ring } n + 8 * i) = 0
            ∧ u.readFull (ringSlot { h with rbase := rbase, ring := ring } n / 8 + i) = false)
    ∧ (∀ force, commits s t c b x [(j, .qdisable q force)] →
      ∃ u, exec (.blockEnd t c) s = .next u ∧ sameMemory s u ∧ (u.work.hq q).enabled = false ∧ (u.work.hq q).entries = []
        ∧ recordsIn (u.work.hq q) = 0)

/-- R232, R384, R385: a CQPUSH that commits puts its record, with its address space and the next sequence number, behind those of its die's
combining queue, but before those that contexts of a higher number pushed in the same clk; a CQPOP that commits empties its record's place
and stores its words. -/
def Sys2Proof.Claims.CombiningEffectsCommit : Prop :=
  ∀ (s : State) (t c : Nat) (b : Block) (x : ExitFired) (j d : Nat) (q : CQueue), c < 4 → s.work.cqueue d = q →
    (∀ rec r, commits s t c b x [(j, .cqpush d rec)] → q.pending = [t * 4 + c] →
      r = ({ seq := q.seq, words := rec, asid := (s.work.ctx t c).asid.toNat, clk := s.now, pushed := t * 4 + c } : QRecord) →
      ((∀ y ∈ q.records, y.claim ≠ some (t * 4 + c) ∧ (y.clk ≠ s.now ∨ y.pushed ≤ t * 4 + c)) →
        ∃ u, exec (.blockEnd t c) s = .next u ∧ sameMemory s u
          ∧ u.work.cqueue d = { q with pending := [], seq := q.seq + 1, records := q.records ++ [r] })
      ∧ (∀ before y after, q.records = before ++ y :: after → (∀ z ∈ q.records, z.claim ≠ some (t * 4 + c)) →
        (∀ z ∈ before, z.clk ≠ s.now ∨ z.pushed ≤ t * 4 + c) → y.clk = s.now → t * 4 + c < y.pushed →
        ∃ u, exec (.blockEnd t c) s = .next u ∧ sameMemory s u
          ∧ u.work.cqueue d = { q with
              pending := [], seq := q.seq + 1,
              records := before ++ { r with seq := y.seq } :: (y :: after).map (fun z => { z with seq := z.seq + 1 }) }))
    ∧ (∀ ws n, commits s t c b x [(j, .stores ws), (j, .cqpop d n)] → (ws.map (·.1)).Nodup → (∀ v ∈ ws, v.1 % 8 = 0) →
      q.pending = [] → (∀ y ∈ q.records, y.seq = n ∨ y.claim ≠ some (t * 4 + c)) →
      ∃ u, exec (.blockEnd t c) s = .next u ∧ u.work.cqueue d = { q with records := q.records.filter (fun y => y.seq != n) }
        ∧ wordsStored s u ws (fun _ => False))

/-- R157, R311, R314 to R318: at commit CFGLD and CFGSTRM replace the shadow planes of the region's elements (an extent holds its entry as it then stands,
R115), CFGSW exchanges the planes, under the next phase number, and a CFGABORT that cannot roll back clears the shadow, one that can exchanges the planes and clears it; ARM gives every
source its armings, DRAIN every source a kettle of the next number, which every sink awaits; INJECT writes the lower half, or adds a flit
of both halves to the CTL input. The staging claim ends. -/
def Sys2Proof.Claims.RegionEffectsCommit : Prop :=
  ∀ (s : State) (t c : Nat) (b : Block) (x : ExitFired) (j r : Nat) (g : Region), ownRegion s t c r g →
    (∀ (planes : List (Nat × Plane)) (race : Bool), commits s t c b x [(j, .config r planes race)] → g.live.Nodup →
      (∀ p ∈ planes, p.1 / 256 < g.live.length) →
      ∃ u, exec (.blockEnd t c) s = .next u ∧ sameMemory s u
        ∧ mapFind r u.core.regions = some { g with staging := none, staged := true, raceShadow := race }
        ∧ ∀ (k τ e : Nat), g.live[k]? = some τ → e < 256 →
            activeOf g (u.work.elem τ e) = activeOf g (s.work.elem τ e)
            ∧ ∀ p, mapFind (k * 256 + e) planes = some p → shadowOf g (u.work.elem τ e) = p.onExtents (List.map s.work.recent))
    ∧ (commits s t c b x [(j, .switch r)] → g.armedSince = false → g.sinks = [] → g.switches < 65535 →
      ∃ u, exec (.blockEnd t c) s = .next u ∧ sameMemory s u
        ∧ mapFind r u.core.regions = some { g with
            staging := none, activeB := !g.activeB, phase := g.phase + 1, switches := g.switches + 1, staged := false,
            race := g.raceShadow, raceShadow := g.race, rollable := true }
        ∧ ∀ τ e, τ ∈ g.live → e < 256 → (u.work.elem τ e).planeA = (s.work.elem τ e).planeA
            ∧ (u.work.elem τ e).planeB = (s.work.elem τ e).planeB ∧ (u.work.elem τ e).counter = 0 ∧ (u.work.elem τ e).sinkValid = false)
    ∧ (commits s t c b x [(j, .abort r false)] →
      ∃ u, exec (.blockEnd t c) s = .next u ∧ sameMemory s u
        ∧ mapFind r u.core.regions = some { g with staging := none, staged := false, raceShadow := false }
        ∧ ∀ τ e, τ ∈ g.live → e < 256 → activeOf g (u.work.elem τ e) = activeOf g (s.work.elem τ e)
            ∧ shadowOf g (u.work.elem τ e) = basePlane e)
    ∧ (commits s t c b x [(j, .abort r true)] → g.armedSince = false → g.sinks = [] → g.switches < 65535 →
      ∃ u, exec (.blockEnd t c) s = .next u ∧ sameMemory s u
        ∧ mapFind r u.core.regions = some { g with
            staging := none, activeB := !g.activeB, phase := g.phase + 1, switches := g.switches + 1, staged := false,
            race := g.raceShadow, raceShadow := false, rollable := false }
        ∧ ∀ τ e, τ ∈ g.live → e < 256 → shadowOf g (s.work.elem τ e) = activeOf { g with activeB := !g.activeB } (u.work.elem τ e)
            ∧ shadowOf { g with activeB := !g.activeB } (u.work.elem τ e) = basePlane e)
    ∧ (∀ n, commits s t c b x [(j, .arm r n)] → g.arms + s.work.armsLate r + n ≤ g.tcount → ((sourcesOf s g).map Slot.key).Nodup →
      ∃ u, exec (.blockEnd t c) s = .next u ∧ sameMemory s u
        ∧ mapFind r u.core.regions = some { g with staging := none, arms := g.arms + n, armedSince := true, rollable := false }
        ∧ ∀ S ∈ sourcesOf s g, (u.work.op S).agenda = (s.work.op S).agenda ++ List.replicate n .arm)
    ∧ (commits s t c b x [(j, .drain r)] → ((sourcesOf s g).map Slot.key).Nodup →
      ∃ u, exec (.blockEnd t c) s = .next u ∧ sameMemory s u
        ∧ mapFind r u.core.regions = some { g with
            staging := none, kettle := g.kettle + 1, armedSince := false,
            sinks := ((s.work.regionSlots g.live).filter Slot.isSink).map Slot.key }
        ∧ ∀ S ∈ sourcesOf s g, (u.work.op S).agenda = (s.work.op S).agenda ++ [.kettle (g.kettle + 1)])
    ∧ (∀ dst v : Word, commits s t c b x [(j, .inject dst v)] →
      (dst.getLsbD 13 = false → ∃ u, exec (.blockEnd t c) s = .next u ∧ sameMemory s u ∧ (u.work.elem t (dst.toNat % 256)).inject = v
        ∧ (u.work.elem t (dst.toNat % 256)).ctl = (s.work.elem t (dst.toNat % 256)).ctl)
      ∧ (dst.getLsbD 13 = true → ∃ u f, exec (.blockEnd t c) s = .next u ∧ sameMemory s u ∧ (u.work.elem t (dst.toNat % 256)).inject = 0
        ∧ (u.work.elem t (dst.toNat % 256)).ctl = (s.work.elem t (dst.toNat % 256)).ctl ++ [f]
        ∧ f.kind = dst.toNat / 2 ^ 14 % 4 ∧ f.tag = dst.toNat / 2 ^ 32 % 4 ∧ f.mask = dst.toNat / 2 ^ 16 % 2 ^ 16
        ∧ f.payload = v.toNat * 2 ^ 64 + (s.work.elem t (dst.toNat % 256)).inject.toNat))

/-- R214, R222, R238, R240, R343, R354, R355, R359: at commit SPAWNC starts its context at the entry block, in the mode of the spawner and with the
task's registers, g2 the exit block and g3 the spawner's number; a FENCE stands for its context's next block; RSEED's value is logged by a
filling store; an engine command joins those in hand; FREE puts its block at the head of its list; POOLGROW makes the chunk the
pool's; CWSTORE records its entry as the most recently used, and CWINV removes the entries that its key names. -/
def Sys2Proof.Claims.OtherEffectsCommit : Prop :=
  ∀ (s : State) (t c : Nat) (b : Block) (x : ExitFired) (j : Nat),
    (∀ (τ d : Nat) (entry : VAddr) (who : Nat), commits s t c b x [(j, .spawn (τ * 4 + d) entry who)] → d < 4 → (τ, d) ≠ (t, c) →
      ∃ u y, exec (.blockEnd t c) s = .next u ∧ sameMemory s u ∧ u.work.ctx τ d = y ∧ y.status = .ready ∧ y.pc = entry
        ∧ y.fw = (s.work.ctx t c).fw ∧ y.block = none ∧ y.park = none ∧ y.reg 2 = Config.exitBlock ∧ y.reg 3 = BitVec.ofNat 64 who
        ∧ (∀ n, n ≠ 2 → n ≠ 3 → y.reg n = 0) ∧ y.budget = 0x101FF ∧ y.fpflags = 0 ∧ y.dseg = 0 ∧ y.seedlog = 0 ∧ y.rkey = 0
        ∧ y.rstream = 0 ∧ y.utvec = 0
        ∧ ∀ g, s.work.regionOf τ = some g → y.asid = BitVec.ofNat 10 g.asid ∧ y.mode = g.mode)
    ∧ (∀ n, commits s t c b x [(j, .fence n)] →
      ∃ u, exec (.blockEnd t c) s = .next u ∧ sameMemory s u ∧ (u.work.ctx t c).fence = max (s.work.ctx t c).fence n)
    ∧ (∀ pa v, s.canonical → commits s t c b x [(j, .seed pa v)] → plainWords s pa 1 →
      ∃ u, exec (.blockEnd t c) s = .next u ∧ u.work.word pa = v ∧ u.readFull (pa / 8) = true ∧ onlyWords s u pa 1)
    ∧ (∀ cmd, commits s t c b x [(j, .engine cmd)] → (∀ y ∈ cmd :: s.core.engines, ∀ pr, y.instr ≠ .imprel pr) →
      ∃ u, exec (.blockEnd t c) s = .next u ∧ sameMemory s u ∧ u.core.engines = s.core.engines ++ [cmd])
    ∧ (∀ pool cls blk pa, commits s t c b x [(j, .pfree pool cls blk pa)] → (s.work.at_ t c 0).det = false → pool % 8 = 0 → pa % 8 = 0 →
      pa ≠ pool + 64 + 8 * cls →
      ∃ u, exec (.blockEnd t c) s = .next u
        ∧ wordsStored s u [(pa, s.work.word (pool + 64 + 8 * cls)), (pool + 64 + 8 * cls, BitVec.ofNat 64 blk)] (fun _ => False))
    ∧ (∀ pool base len, commits s t c b x [(j, .pgrow pool base len)] → (s.work.at_ t c 0).det = false → pool % 8 = 0 → len < 2 ^ 48 →
      (poolWord s.work pool 3) + 1 < 2 ^ 32 →
      ∃ u, exec (.blockEnd t c) s = .next u
        ∧ wordsStored s u [(pool, BitVec.ofNat 64 base), (pool + 8, BitVec.ofNat 64 (poolWord s.work pool 1 / 2 ^ 48 * 2 ^ 48 + len)),
            (pool + 16, 0), (pool + 24, BitVec.ofNat 64 (poolWord s.work pool 3 + 1))] (fun _ => False))
    ∧ (∀ (d0 d1 d2 d3 d4 d5 d6 : Word) (e : CwEntry), commits s t c b x [(j, .cwstore [d0, d1, d2, d3, d4, d5, d6, 0])] →
      (∀ g, s.work.regionOf t = some g → g.stats % 2 ^ 64 = 0) →
      e = { asid := (s.work.ctx t c).asid.toNat, key := d0.toNat, step := d1.toNat, probe := d6.toNat % 2 ^ 8 * 2 ^ 64 + d2.toNat, plen := d3.toNat,
            out := d6.toNat / 2 ^ 8 % 2 ^ 8 * 2 ^ 64 + d4.toNat, olen := d5.toNat, pinned := (s.work.at_ t c 0).det } →
      (s.core.directory.filter (fun y => !(y.asid == e.asid && y.key == e.key))).length < 4096 →
      ∃ u, exec (.blockEnd t c) s = .next u ∧ sameMemory s u
        ∧ u.core.directory = e :: s.core.directory.filter (fun y => !(y.asid == e.asid && y.key == e.key)))
    ∧ (∀ key : Word, commits s t c b x [(j, .cwinv key)] →
      ∃ u, exec (.blockEnd t c) s = .next u ∧ sameMemory s u
        ∧ u.core.directory = s.core.directory.filter (fun y => !(y.asid == (s.work.ctx t c).asid.toNat
            && (if key.getLsbD 48 then y.key % 2 ^ 32 == key.toNat % 2 ^ 32 else y.key == key.toNat))))

namespace Sys2Proof.Claims

/-! ### The fabric (13 R243 to R273; 15 R277 to R296; 05 R102, R115, R117; 21 R399) -/

/-- Slot `S` is an active slot of element `e` of tile `t`, whose fabric runs. -/
def slotRuns (s : State) (t e : Nat) (S : Slot) : Prop :=
  s.work.fabricRuns t = true ∧ S ∈ s.work.elemSlots t e

/-- The element `e` of tile `t` may fire now, and its context counter has come to slot `S` (R243): it has not fired in this clk, no earlier
firing keeps it busy, and it has no fixed rates. -/
def turnOf (s : State) (t e : Nat) (S : Slot) : Prop :=
  slotRuns s t e S ∧ e < 256 ∧ (s.work.elem t e).lastFire ≠ some s.now ∧ (s.work.elem t e).busyTo ≤ s.now
    ∧ (s.work.activePlane t e).fixr = false ∧ (s.work.elem t e).counter ≤ S.s
    ∧ ∀ T ∈ s.work.elemSlots t e, (s.work.elem t e).counter ≤ T.s → S.s ≤ T.s

/-- The element of a slot after a firing: the counter goes to the next slot (R243). -/
def fired (s : State) (w : Work) (S : Slot) (busy : Nat) : Work :=
  w.setElem S.tile S.elem { w.elem S.tile S.elem with counter := S.s + 1, busyTo := s.now + busy, lastFire := some s.now }

/-- The element of a slot that has done only a part of a step (R243): the counter stays at the slot. -/
def amid (s : State) (w : Work) (S : Slot) (busy : Nat) : Work :=
  w.setElem S.tile S.elem { w.elem S.tile S.elem with busyTo := s.now + busy, lastFire := some s.now }

/-- A flit of a slot sent on the routes that take it, with the slot's op tag, the number of its stream and the arming it works for (R245). -/
def sentOn (w : Work) (S : Slot) (f : Flit) : Work :=
  (w.liveRoutes S).foldl (fun v p => v.emitOn S { f with tag := S.s % 4, sid := (w.op S).sid, arm := (w.op S).arm } p) w

/-- The first eight-byte element of a stream of an SP lies in a stash of the region's live tiles, at the offset `off`. -/
def streamsInStash (s : State) (S : Slot) (r : Region) (u off : Nat) : Prop :=
  s.work.regionOf S.tile = some r ∧ u ∈ r.live ∧ u < 160 ∧ off % 8 = 0 ∧ off + 8 ≤ 0x180000
    ∧ ∃ n, 1 ≤ n ∧ s.work.streamOf S = ⟨0xFF * 2 ^ 64 + u * 0x200000 + off, [n], [8]⟩

/-- The record of an asynchronous error (R399): KIND, tile slot, element, op tag, LOST and the arming that the slot works for. -/
def errorRecord (r : Region) (S : Slot) (kind arm : Nat) : Word :=
  BitVec.ofNat 64 (kind * 2 ^ 56 + (r.live.findIdx? (· == S.tile)).getD 0 * 2 ^ 44 + S.elem * 2 ^ 36 + S.s % 4 * 2 ^ 34 + r.lost * 2 ^ 16
    + arm % 2 ^ 16)

end Sys2Proof.Claims

/-- R243, R245: the element whose turn it is fires. A firing that emits nothing leaves what its operation leaves, and the counter goes on once
the step is whole, which is the model's reading (log 27); a flit that it emits, every route that takes it having room, goes to the channels
of its routes. -/
def Sys2Proof.Claims.ElementsFire : Prop :=
  ∀ (s : State) (t e : Nat) (S : Slot) (w : Work) (busy : Nat), turnOf s t e S →
    (s.work.slotFire S = some (w, none, busy) → s.work.stepDone w S = true → (fired s w S busy).noFlitHeld t = true →
      exec (.elementFire t e []) s = .next (s.put (fired s w S busy)))
    ∧ (s.work.slotFire S = some (w, none, busy) → s.work.stepDone w S = false → (amid s w S busy).noFlitHeld t = true →
      exec (.elementFire t e []) s = .next (s.put (amid s w S busy)))
    ∧ (∀ f : Flit, s.work.slotFire S = some (w, some f, busy) → f.kind ≠ 3 → (∀ p ∈ w.liveRoutes S, s.work.roomOn S false p = true) →
      (fired s (sentOn w S f) S busy).noFlitHeld t = true →
      exec (.elementFire t e []) s = .next (s.put (fired s (sentOn w S f) S busy)))

/-- R291: an STS of eight-byte elements that is idle takes a flit of one value and writes the first element of its pattern by a plain store;
every other byte of memory stays, and ELEMS counts the element. R289, R290, R292: an LDS begins the arming that stands first by reading the first
two elements of its pattern, one flit of accesses, and its SINK route keeps them. That the flit leaves in the firing that reads its last
element is the model's reading (log 28). -/
def Obligations.StreamPortsMove : Prop :=
  (∀ (s : State) (t e p u off : Nat) (S : Slot) (r : Region) (f : Flit) (q : List Flit) (x : SlotOp), s.canonical → turnOf s t e S →
    S.kind = 3 → S.opc = 1 → S.size = 8 → S.dims = 1 → S.access = 4 → S.arcPred = 0 → S.sels = [p] → p < 4 →
    s.work.op S = x → x.halted = false → x.taking = none → x.since = none → x.discard = [] → x.done = false → x.issued = 0 →
    mapGet [] p (s.work.elem t e).ins = f :: q → f.kind = 2 → f.mask = 1 → f.payload < 2 ^ 64 → (s.work.elem t e).spill = [] →
    streamsInStash s S r u off → s.work.noFlitHeld t = true → q = [] →
    s.core.claims = [] → s.core.poison = [] → s.core.watched = [] → s.core.tokens = [] →
    ∃ v, exec (.elementFire t e []) s = .next v
      ∧ v.work.word (stashBase u + off) = BitVec.ofNat 64 f.payload
      ∧ (∀ a, ¬(stashBase u + off ≤ a ∧ a < stashBase u + off + 8) → v.readByte a = s.readByte a) ∧ v.full = s.full
      ∧ mapGet [] p (v.work.elem t e).ins = [] ∧ (v.work.elem t e).count = ((s.work.elem t e).count + 1) % 2 ^ 40
      ∧ (v.work.op S).issued = 1)
  ∧ (∀ (s : State) (t e u off n : Nat) (S : Slot) (r : Region) (x : SlotOp) (rest : List Agenda), turnOf s t e S →
    S.kind = 3 → S.opc = 0 → S.size = 8 → S.dims = 1 → S.access = 0 → S.arcPred = 0 → S.ports = [5] →
    s.work.op S = x → x.halted = false → x.busy = false → x.since = none → x.paused = false → x.agenda = .arm :: rest →
    (s.work.elem t e).spill = [] → s.work.regionOf t = some r → u ∈ r.live → u < 160 → off % 8 = 0 → off + 16 ≤ 0x180000 → 2 ≤ n →
    s.work.streamOf S = ⟨0xFF * 2 ^ 64 + u * 0x200000 + off, [n], [8]⟩ → s.work.noFlitHeld t = true → s.core.poison = [] →
    s.core.tokens = [] → ∃ v, exec (.elementFire t e []) s = .next v ∧ v.mem = s.mem ∧ v.full = s.full
      ∧ (v.work.elem t e).sinkValid = true ∧ (v.work.elem t e).sink.kind = 2 ∧ (v.work.elem t e).sink.mask = 3
      ∧ (v.work.elem t e).sink.payload = (s.work.word (stashBase u + off)).toNat + 2 ^ 64 * (s.work.word (stashBase u + off + 8)).toNat
      ∧ (v.work.op S).issued = 2 ∧ (v.work.op S).agenda = .arm :: rest)

/-- R265, R266: a kill that reaches its producer while the stream that it names is open makes that route dead, and the other routes go on; it
comes after the flits that decisions at the route's end still count (the model's reading of R270, log 19). It
has no effect on a stream that is over. R244, R266: an input that is discarded drops the flits of its stream, one in a clk, and its colophon ends that. -/
def Sys2Proof.Claims.KillsAct : Prop :=
  (∀ (s : State) (t e n port : Nat) (S : Slot) (k : Kill), s.core.kills = [k] → k.tile = t → k.elem = e → k.port = port → k.tag = n % 4 →
    S ∈ s.work.elemSlots t e → S.s = n → S.route / 2 ^ port % 2 = 1 → s.work.countsAhead t e port = false →
    (∀ T ∈ s.work.elemSlots t e, T.s % 4 = n % 4 → T.route / 2 ^ port % 2 = 1 → T = S) →
    ((s.work.op S).sid ≠ k.sid →
      exec (.killArrive t e n port) s = .next (s.put { s.work with core := { s.core with kills := [] } }))
    ∧ ((s.work.op S).sid = k.sid → port ∉ (s.work.op S).dead → (S.kind = 4 → S.opc ≠ 3) → S.route / 2 ^ 5 % 2 = 1 →
      exec (.killArrive t e n port) s = .next (s.put (({ s.work with core := { s.core with kills := [] } } : Work).setOp S
        { s.work.op S with dead := (s.work.op S).dead ++ [port] }))))
  ∧ (∀ (s : State) (t e n sel : Nat) (S : Slot) (f : Flit) (q : List Flit), slotRuns s t e S → S.s = n → sel < 4 →
    sel ∈ (s.work.op S).discard → mapGet [] sel (s.work.elem t e).ins = f :: q → (mapGet (f.tag, 0) sel (s.work.op S).under).1 = f.tag →
    mapFind sel (s.work.elem t e).drops ≠ some s.now → (f.kind = 3 → f.mask ≠ 0) →
    ∃ v, exec (.killDiscard t e n sel) s = .next v ∧ v.mem = s.mem ∧ v.full = s.full ∧ v.core.regions = s.core.regions
      ∧ mapGet [] sel (v.work.elem t e).ins = q ∧ (∀ p, p ≠ sel → mapGet [] p (v.work.elem t e).ins = mapGet [] p (s.work.elem t e).ins)
      ∧ (sel ∈ (v.work.op S).discard ↔ f.kind ≠ 3) ∧ mapFind sel (v.work.elem t e).drops = some s.now)

/-- R258, R273: when the period that a firing of a LUTF, or of a matrix element, took has passed, the element may fire again. R279: a flit
that has been its latency in the slots of a crossing enters its input when there is room. -/
def Sys2Proof.Claims.PeriodsAndCrossingsEnd : Prop :=
  (∀ (s : State) (t e : Nat) (S : Slot), S ∈ s.work.elemSlots t e → (s.work.elem t e).busyTo ≠ 0 → (s.work.elem t e).busyTo ≤ s.now →
    (S.kind = 0 → S.opc = 16 → exec (.lutfDigit t e) s = .next (s.lift (fun w => w.setElem t e { w.elem t e with busyTo := 0 })))
    ∧ (S.kind = 1 → exec (.meStepDone t e) s = .next (s.lift (fun w => w.setElem t e { w.elem t e with busyTo := 0 }))))
  ∧ (∀ (s : State) (t e port due : Nat) (f : Flit) (rest : List (Flit × Nat)), mapGet [] port (s.work.elem t e).cross = (f, due) :: rest →
    due ≤ s.now → (mapGet [] port (s.work.elem t e).ins).length < max 1 ((s.work.activePlane t e).links / 2 ^ (3 * port) % 2 ^ 3) →
    exec (.crossingSlotArrival t e port) s = .next (s.lift (fun w => w.setElem t e { w.elem t e with
      cross := mapSet port rest (w.elem t e).cross, ins := mapSet port (mapGet [] port (w.elem t e).ins ++ [f]) (w.elem t e).ins })))

/-- R292: a waiting LDS presents its element again after 16 clk, and takes its value when the word is FULL. R102, R309: past its limit the
port raises FE_TIMEOUT and halts. R115: a generator that has run out of extents goes on with those
the walker gives it (how many at a time is the model's reading, log 28). R117: a spilled
element that firmware declares unresolvable raises PAGE_FAULT. -/
def Obligations.PortEventsAct : Prop :=
  (∀ (s : State) (t e u off : Nat) (S : Slot) (r : Region) (x : SlotOp), slotRuns s t e S → S.kind = 3 → S.opc = 0 → S.size = 8 → S.dims = 1 →
    S.access = 1 → s.work.op S = x → x.since ≠ none → x.due ≤ s.now → x.halted = false → x.issued = 0 → (s.work.elem t e).spill = [] →
    streamsInStash s S r u off → s.core.poison = [] → s.core.tokens = [] → s.readFull ((stashBase u + off) / 8) = true →
    ∃ v, exec (.spRepresent t e S.s) s = .next v ∧ v.mem = s.mem ∧ v.full = s.full
      ∧ v.work.op S = { x with issued := 1, elems := x.elems ++ [⟨0, some (some (s.work.word (stashBase u + off)).toNat)⟩], since := none })
  ∧ (∀ (s : State) (t e n since : Nat) (S : Slot) (r : Region) (x : SlotOp), slotRuns s t e S → S.kind = 3 → S.access = 1 → S.lim ≠ 0 →
    s.work.op S = x → x.halted = false → x.since = some since → since + 2 ^ (S.lim + 7) ≤ s.now →
    (s.work.tile t).region = some n → mapFind n s.core.regions = some r → r.errq.length < 8 →
    ∃ v, exec (.feTimeout t e S.s) s = .next v ∧ (v.work.op S).halted = true ∧ (v.work.op S).since = none
      ∧ mapFind n v.core.regions = some { r with errq := r.errq ++ [errorRecord r S 0x18 x.arm], lost := 0 })
  ∧ (∀ (s : State) (t e va : Nat) (S : Slot) (x : SlotOp) (w : Work) (te : TlbEntry) (vas : List Nat), slotRuns s t e S → S.kind = 3 → s.work.op S = x →
    x.paused = true → (s.work.elem t e).spill.length < 64 → s.work.nextVas S = va :: vas →
    s.work.fetchExtents (s.work.fabricWho t).asid (((va :: vas).map (· / 0x10000)).eraseDups.take 8) = (w, [te]) →
    te.asid = (s.work.fabricWho t).asid → te.base ≤ va → va < te.base + 2 ^ te.lg →
    exec (.extentFetch t e S.s) s = .next (s.put (w.setOp S { x with extents := [te], paused := false })))
  ∧ (∀ (s : State) (t e n sub : Nat) (w : Work) (S : Slot) (r : Region) (p : Spill) (rest : List Spill), slotRuns s t e S → S.kind = 3 →
    S.s = p.slot → (s.work.elem t e).spill = p :: rest → s.work.findEntry (s.work.fabricWho t) p.va = (w, .error sub) →
    (s.work.tile t).region = some n → mapFind n s.core.regions = some r → r.errq.length < 8 →
    ∃ v, exec (.spillRetry t e false) s = .next v ∧ (v.work.elem t e).spill = rest ∧ (v.work.op S).halted = true
      ∧ mapFind n v.core.regions = some { r with errq := r.errq ++ [errorRecord r S 0x05 (s.work.op S).arm], lost := 0 })

/-- R285, R293: a token that stands first, its home in HBM, is applied: a plain store changes its bytes alone and the token's reply is due;
a reply to a GATH gives its position the value. R399: the oldest record of a region is delivered to its main context, which takes
REGION_ERROR before its next block. -/
def Obligations.TokensAndErrorsArrive : Prop :=
  (∀ (s : State) (m : Token), s.canonical → s.core.tokens = [m] → m.reply = none → classify m.pa = .hbm → m.op = 4 →
    m.size ∈ [1, 2, 4, 8] → m.pa % m.size = 0 → s.core.claims = [] → s.core.poison = [] → s.core.watched = [] →
    ∃ v, exec (.gapplyToken 0) s = .next v
      ∧ (∀ i, i < m.size → (v.readByte (m.pa + i)).toNat = m.v / 2 ^ (8 * i) % 2 ^ 8)
      ∧ (∀ a, ¬(m.pa ≤ a ∧ a < m.pa + m.size) → v.readByte a = s.readByte a) ∧ v.full = s.full
      ∧ v.core.tokens = [{ m with reply := some 0 }])
  ∧ (∀ (s : State) (m : Token) (d : Nat) (S : Slot) (x : SlotOp), s.core.tokens = [m] → m.reply = some d → m.tile < 160 → m.elem < 256 →
    S = mkSlot m.tile m.elem (s.work.activePlane m.tile m.elem) m.slot → S.kind = 3 → S.opc = 2 → s.work.op S = x →
    x.elems = [⟨m.pos, none⟩] → x.halted = false → x.abandoned = false →
    ∃ v, exec (.tokenReply 0) s = .next v ∧ v.core.tokens = [] ∧ v.mem = s.mem ∧ v.full = s.full
      ∧ v.work.op S = { x with elems := [⟨m.pos, some (some d)⟩] })
  ∧ (∀ (s : State) (n t : Nat) (g : Region) (rec : Word) (rest : List Word), mapFind n s.core.regions = some g → g.errq = rec :: rest →
    g.live.head? = some t → s.work.spineRuns t = true → (s.work.ctx t 0).status = .ready → (s.work.ctx t 0).handler = false →
    (s.work.ctx t 0).block = none → (s.work.ctx t 0).park = none →
    ∃ v, exec (.regionError n) s = .next v ∧ v.mem = s.mem ∧ v.full = s.full
      ∧ trapTaken (s.work.ctx t 0) (v.work.ctx t 0) (s.work.ctx t 0).pc 0x10 rec
      ∧ mapFind n v.core.regions = some { g with errq := rest })

namespace Sys2Proof.Claims

/-! ### What the operations of the fabric compute (03 R68 to R74, R77; 13 R251, R271 to R273; 15 R282 to R286, R299 to R305) -/

/-- A(j): the sum of the first j digits, digit i times 16^−i, digits not received being 0 (03 R68). -/
def prefixQ (ds : List Int) (j : Nat) : ℚ := ((List.range j).map (fun i => (listGet 0 i ds : ℚ) / 16 ^ (i + 1))).sum

/-- The number that the digits of a list form (03 R65). -/
def allQ (ds : List Int) : ℚ := prefixQ ds ds.length

/-- sel(v) (03 R68). -/
def selQ (v : ℚ) : Int := max (-10) (min 10 ⌊(⌊8 * v⌋ : ℚ) / 8 + 1 / 2⌋)

/-- The digit that follows `zs` where the prefix function gives `F` (03 R72). -/
def nextDigit (zs : List Int) (F : ℚ) : Int := selQ (16 ^ (zs.length + 1) * (F - allQ zs))

/-- The transfer digit of a sum of two digits (03 R71). -/
def transfer (t : Int) : Int := if 10 ≤ t then 1 else if t ≤ -10 then -1 else 0

/-- The first nonzero digit of a list is digit n (03 R73). -/
def leads (ds : List Int) (n : Nat) : Prop := 1 ≤ n ∧ listGet 0 (n - 1) ds ≠ 0 ∧ ∀ i < n - 1, listGet 0 i ds = 0

/-- A slot of an online element that takes operands A, B, C, … on the selects `ps`, distinct channels, and has nothing to discard. -/
def online (s : State) (S : Slot) (ps : List Nat) : Prop :=
  S.kind = 0 ∧ S.operands = (List.range ps.length).zip ps ∧ ps ≠ [] ∧ ps.Nodup ∧ (∀ p ∈ ps, p < 4)
    ∧ (s.work.op S).queue = [] ∧ (s.work.op S).discard = [] ∧ (s.work.op S).abandoned = false ∧ (s.work.op S).opened = false

/-- The next flit of select `p` has kind `k` and, in lane `l` alone, the payload of `f`. -/
def brings (s : State) (S : Slot) (p : Nat) (f : Flit) : Prop :=
  ∃ g, s.work.headAt S p = some g ∧ g.kind = f.kind ∧ g.mask = f.mask ∧ g.payload = f.payload

/-- A FINITE lane that is open and live, with `n` digits so far and more to come. -/
def inProgress (a : ILane) (n : Nat) : Prop :=
  a.cls = 0 ∧ a.ended = false ∧ a.cut = false ∧ a.dead = false ∧ a.lost = 0 ∧ a.digits.length = n ∧ n < a.p ∧ ∀ d ∈ a.digits, -10 ≤ d ∧ d ≤ 10

/-- Lane `l` of the operation in slot `S` is alone, its operands have brought `n` digits each and bring one more each (`ts`: select, lane, next
digit), its FINITE head has left, and so has every digit formed, which is fewer than its precision. -/
def midStream (s : State) (S : Slot) (l n : Nat) (ts : List (Nat × ILane × Int)) (o : OLane) (h : Head) : Prop :=
  online s S (ts.map (·.1)) ∧ l < 4
    ∧ (s.work.op S).ins = ((List.range ts.length).zip ts).map (fun t => (4 * t.1 + l, t.2.2.1)) ∧ (s.work.op S).outs = [(l, o)]
    ∧ (∀ t ∈ ts, inProgress t.2.1 n ∧ brings s S t.1 (digitFlit [(l, t.2.2)]) ∧ -10 ≤ t.2.2 ∧ t.2.2 ≤ 10)
    ∧ o.head = some h ∧ h.cls = 0 ∧ o.headSent = true ∧ o.cut = false ∧ o.dec = none ∧ o.sent = o.zs.length ∧ o.zs.length < h.p ∧ h.p ≤ 20

/-- The firing takes those digits, and digit `z` of lane `l` leaves. -/
def digitLeaves (s : State) (S : Slot) (l : Nat) (o : OLane) (z : Int) : Prop :=
  ∃ w, s.work.slotFire S = some (w, some (digitFlit [(l, z)]), 1)
    ∧ mapFind l (w.op S).outs = some { o with zs := o.zs ++ [z], sent := o.sent + 1 }

/-- Slot `S` has no stream under way, and its operands bring FINITE heads in lane `l` (`ts`: select, head). -/
def bringsHeads (s : State) (S : Slot) (l : Nat) (ts : List (Nat × Head)) : Prop :=
  online s S (ts.map (·.1)) ∧ l < 4 ∧ (s.work.op S).ins = [] ∧ (s.work.op S).outs = []
    ∧ ∀ t ∈ ts, brings s S t.1 (headFlit [(l, t.2)]) ∧ t.2.cls = 0 ∧ -2048 ≤ t.2.e ∧ t.2.e ≤ 2047 ∧ 1 ≤ t.2.p ∧ t.2.p ≤ 20 ∧ t.2.seq < 16

/-- The firing takes those heads and emits none, and the head of lane `l` is known: FINITE of scale `e`, or ZERO for a scale below the
least (03 R67). -/
def headKnown (s : State) (S : Slot) (l : Nat) (e : Int) (zs : Bool) (p seq : Nat) : Prop :=
  ∃ w, s.work.slotFire S = some (w, none, 1) ∧ ∃ o, mapFind l (w.op S).outs = some o ∧ o.headSent = false ∧ o.zs = []
    ∧ o.head = some (if e < -2048 then ⟨1, zs, 0, p, seq⟩ else ⟨0, zs, e, p, seq⟩)

/-- The precision of a result: the cap, or without one the least P of its operands (03 R69). -/
def precision (S : Slot) (hs : List Head) : Nat := if S.cap = 0 then hs.foldl (fun m h => min m h.p) 20 else S.cap

end Sys2Proof.Claims

/-- R68, R70 to R73: amid a stream a firing takes digit j of each operand and emits the digit that the operation's formula gives, in a lane of
FINITE operands that is alone. ADD and SUB emit digit k by transfers from the aligned digits k and k + 1 at j = k + 2; MUL and
FMA select digit k at j = k + 3, and DIV and SQRT at j = n − 1 + k + 4, from the exact residual of R72; PASS and NEG (R251) emit digit j. -/
def Sys2Proof.Claims.OnlineDigitsAreSelected : Prop :=
  (∀ (s : State) (S : Slot) (l p q n k : Nat) (a b : ILane) (x y : Int) (o : OLane) (h : Head),
    midStream s S l n [(p, a, x), (q, b, y)] o h → k = o.zs.length + 1 →
    let A := a.digits ++ [x]
    let B := b.digits ++ [y]
    ((S.opc = 1 ∨ S.opc = 2) → n + 1 = k + 2 →
      let t (i : Int) : Int := digitAt A (i - (h.e - a.e)) + (if S.opc = 1 then 1 else -1) * digitAt B (i - (h.e - b.e))
      digitLeaves s S l o (t k - 16 * transfer (t k) + transfer (t (k + 1))))
    ∧ (S.opc = 3 → n + 1 = k + 3 → digitLeaves s S l o (nextDigit o.zs (prefixQ A (k + 3) * prefixQ B (k + 3))))
    ∧ (∀ m, S.opc = 5 → leads b.digits m → n + 1 = m - 1 + k + 4 →
      digitLeaves s S l o (nextDigit o.zs (prefixQ A (k + 4) / (256 * prefixQ (B.drop (m - 1)) (k + 4))))))
  ∧ (∀ (s : State) (S : Slot) (l p q r n k : Nat) (a b c : ILane) (x y z : Int) (o : OLane) (h : Head),
    midStream s S l n [(p, a, x), (q, b, y), (r, c, z)] o h → k = o.zs.length + 1 → S.opc = 4 → n + 1 = k + 3 →
    digitLeaves s S l o (nextDigit o.zs
      (16 ^ (a.e + b.e - h.e) * prefixQ (a.digits ++ [x]) (k + 3) * prefixQ (b.digits ++ [y]) (k + 3)
        + 16 ^ (c.e - h.e) * prefixQ (c.digits ++ [z]) (k + 3))))
  ∧ (∀ (s : State) (S : Slot) (l p n k : Nat) (a : ILane) (x : Int) (o : OLane) (h : Head),
    midStream s S l n [(p, a, x)] o h → k = o.zs.length + 1 →
    (∀ (m f : Nat), S.opc = 6 → leads a.digits m → 0 < listGet 0 (m - 1) a.digits → n + 1 = m - 1 + k + 4 →
      (let v : ℚ := 64 * 16 ^ (2 * k) / 16 ^ (if (a.e - m + 1) % 2 = 0 then 2 else 3) * prefixQ ((a.digits ++ [x]).drop (m - 1)) (k + 4)
       (f : ℚ) ^ 2 ≤ v ∧ v < ((f : ℚ) + 1) ^ 2) →
      digitLeaves s S l o (max (-10) (min 10 ⌊((f : ℚ) - 8 * 16 ^ k * allQ o.zs) / 8 + 1 / 2⌋)))
    ∧ (S.opc = 0 ∨ S.opc = 7 → n + 1 = k → digitLeaves s S l o (if S.opc = 0 then x else -x)))

/-- R69 to R72, R249, R251: the firing that takes a lane's FINITE heads emits nothing and makes its head known: the operation's scale, zero sign and
precision, and A's sequence tag; it leaves in the next firing. -/
def Sys2Proof.Claims.OnlineHeadsFollow : Prop :=
  (∀ (s : State) (S : Slot) (l p q : Nat) (a b : Head), bringsHeads s S l [(p, a), (q, b)] →
    ((S.opc = 1 ∨ S.opc = 2) → max a.e b.e + 1 ≤ 2047 →
      headKnown s S l (max a.e b.e + 1) (if S.opc = 1 then a.sign && b.sign else a.sign && !b.sign) (precision S [a, b]) a.seq)
    ∧ (S.opc = 3 → a.e + b.e ≤ 2047 → headKnown s S l (a.e + b.e) (a.sign != b.sign) (precision S [a, b]) a.seq))
  ∧ (∀ (s : State) (S : Slot) (l p q r : Nat) (a b c : Head), bringsHeads s S l [(p, a), (q, b), (r, c)] → S.opc = 4 →
    max (a.e + b.e) c.e + 1 ≤ 2047 →
    headKnown s S l (max (a.e + b.e) c.e + 1) ((a.sign != b.sign) && c.sign) (precision S [a, b, c]) a.seq)
  ∧ (∀ (s : State) (S : Slot) (l p : Nat) (a : Head), bringsHeads s S l [(p, a)] → S.opc = 0 ∨ S.opc = 7 →
    headKnown s S l a.e (if S.opc = 0 then a.sign else !a.sign) (if S.cap = 0 then a.p else min S.cap a.p) a.seq)
  ∧ (∀ (s : State) (S : Slot) (l : Nat) (ps : List Nat) (o : OLane) (h : Head), online s S ps → (s.work.op S).outs = [(l, o)] →
    (s.work.op S).ins ≠ [] → S.opc ≠ 12 → S.opc ≠ 19 → o.head = some h → o.headSent = false → (∀ p ∈ ps, s.work.headAt S p = none) →
    ∃ w, s.work.slotFire S = some (w, some (headFlit [(l, h)]), 1))

/-- R77, R271, R272: the eighth, sixteenth … step of an MMA of 8-bit integers, dense and without scales, adds to every held sum its chunk of
sixteen products, modulo 2^32, its operands read row by row from the flits buffered. R273: a drain whose sums are final forms M × N ÷ 4 flits of four sums,
row by row, and the first leaves. -/
def Sys2Proof.Claims.MatrixElementsSum : Prop :=
  (∀ (s : State) (S : Slot) (x : SlotOp), S.kind = 1 → S.opc = 0 → S.meInt = true → S.meMx = false → S.meSpar = 0 → S.meFmt = 7 →
    s.work.op S = x → x.queue = [] → x.cnt % 8 = 7 → x.bufA.length = (x.cnt % 16 + 1) * (S.meM / 8) → x.bufB.length = (x.cnt % 16 + 1) * (S.meN / 8) →
    ∃ w busy, s.work.slotFire S = some (w, none, busy) ∧ (w.op S).cnt = x.cnt + 1 ∧ w.mem = s.mem ∧
      ∀ i j, i < S.meM → j < S.meN →
        let value (fs : List Nat) (n : Nat) : Int :=
          if listGet 0 (n / 16) fs / 2 ^ (128 + n % 16) % 2 = 0 then 0
          else (BitVec.ofNat 8 (listGet 0 (n / 16) fs / 2 ^ (8 * (n % 16)))).toInt
        let c := x.cnt % 16 - 7
        let A (k : Nat) : Int := value (x.bufA.drop ((c + k / 2) * (S.meM / 8))) (2 * i + k % 2)
        let B (k : Nat) : Int := value (x.bufB.drop ((c + k / 2) * (S.meN / 8))) (k % 2 * S.meN + j)
        mapGet 0 (i * 16 + j) (w.elem S.tile S.elem).held
          = Int.toNat ((((mapGet 0 (i * 16 + j) (s.work.elem S.tile S.elem).held : Nat) : Int) + ((List.range 16).map (fun k => A k * B k)).sum) % 2 ^ 32))
  ∧ (∀ (s : State) (S : Slot), S.kind = 1 → S.opc = 2 → (s.work.op S).queue = [] → (s.work.elem S.tile S.elem).settled ≤ s.now →
    ∃ w f, s.work.slotFire S = some (w, some f, 1) ∧ (f :: (w.op S).queue).length = S.meM * S.meN / 4 + 1 ∧
      ∀ n, n < S.meM * S.meN / 4 → ∃ g, (f :: (w.op S).queue)[n]? = some g ∧ g.kind = 2 ∧ g.mask = 15 ∧
        ∀ l, l < 4 → g.payload / 2 ^ (32 * l) % 2 ^ 32
          = mapGet 0 (n / (S.meN / 4) * 16 + 4 * (n % (S.meN / 4)) + l) (s.work.elem S.tile S.elem).held % 2 ^ 32)

/-- R282 to R286: an MB slot of a 32-bit integer type that holds a group of one position updates the word at its offset alone: RADD adds
modulo 2^32, RMIN and RMAX keep the least and the greatest, RAND, ROR and RXOR combine the bits, FADDR adds and SWPR stores, and these
two send the old value. R282: an offset beyond the direct window, in another bank or out of alignment changes no byte and
is recorded. -/
def Sys2Proof.Claims.BanksUpdate : Prop :=
  ∀ (s : State) (S : Slot) (x : SlotOp) (idx : Flit) (r : Region) (n u : Nat), s.canonical → S.kind = 2 → S.opc ≤ 7 → (S.mbType = 4 ∨ S.mbType = 5) →
    (∃ p q, S.sels = [p, q, 7] ∧ p < 6 ∧ q < 6) → s.work.op S = x → x.halted = false → x.queue = [] → x.lanes = 0 → x.elems = [] → x.dead = [] →
    x.taking = some idx → idx.mask = 1 → idx.payload < 2 ^ 32 → x.bufA = [2 ^ 128 + u] → u < 2 ^ 32 → x.bufB = [] → S.arcPred = 0 →
    s.work.regionOf S.tile = some r → (s.work.tile S.tile).region = some n → mapFind n s.core.regions = some r → r.mode.toNat % 2 = 0 →
    s.core.claims = [] → s.core.poison = [] → s.core.watched = [] →
    let off := idx.payload
    let a := stashBase S.tile + off
    let kind := if 0x180000 ≤ off then 0x06 else if off / 64 % 16 ≠ S.elem / 16 then 0x84 else 0x04
    (off < 0x180000 → off / 64 % 16 = S.elem / 16 → off % 4 = 0 →
      ∃ w, s.work.slotFire S = some (w, none, 1)
        ∧ (let old : BitVec 32 := (s.work.load a 4 : Nat)
           let val : BitVec 32 := u
           let less (x y : BitVec 32) : Bool := if S.mbType = 4 then x.slt y else x.ult y
           let new : BitVec 32 := match S.opc with
             | 0 => old + val
             | 1 => if less val old then val else old
             | 2 => if less old val then val else old
             | 3 => old &&& val
             | 4 => old ||| val
             | 5 => old ^^^ val
             | 6 => old + val
             | _ => val
           (∀ i, i < 4 → ((s.put w).readByte (a + i)).toNat = new.toNat / 2 ^ (8 * i) % 2 ^ 8)
           ∧ (6 ≤ S.opc → S.route % 64 ≠ 0 → s.work.allDead S = false →
               (w.op S).queue = [{ kind := 2, tag := 0, mask := 1, payload := old.toNat }]))
        ∧ (∀ b, ¬(a ≤ b ∧ b < a + 4) → (s.put w).readByte b = s.readByte b) ∧ w.full = s.full
        ∧ (w.elem S.tile S.elem).count = ((s.work.elem S.tile S.elem).count + 1) % 2 ^ 64)
    ∧ ((0x180000 ≤ off ∨ off / 64 % 16 ≠ S.elem / 16 ∨ off % 4 ≠ 0) → r.errq.length < 8 →
      ∃ w, s.work.slotFire S = some (w, none, 1) ∧ w.mem = s.mem ∧ w.full = s.full
        ∧ mapFind n w.core.regions = some { r with errq := r.errq ++ [errorRecord r S kind x.arm], lost := 0 })

/-- R299, R301, R302, R305: a TRIM of 32-bit lanes keeps the values of A whose lane of B is valid and nonzero (zero with INV); SEQ counts its
lanes on from its issue number and closes with LAST; a COLO that its flit completes sends a colophon with LAST behind it;
KETTLE drops what it takes; DIGEST passes a flit on and folds its 18 bytes into its CRC. -/
def Sys2Proof.Claims.UtilitiesPass : Prop :=
  ∀ (s : State) (S : Slot) (x : SlotOp), S.kind = 4 → s.work.op S = x → x.queue = [] → x.discard = [] → x.abandoned = false →
    (∀ (f g : Flit) (p q : Nat), S.opc = 1 → S.ueWidth 0 = 32 → S.sels = [p, q] → p < 4 → q < 4 → p ≠ q →
      s.work.headAt S p = some f → s.work.headAt S q = some g → f.kind = 2 → g.kind = 2 → f.mask < 16 → g.mask < 16 →
      ∃ w h, s.work.slotFire S = some (w, some h, 1) ∧ h.kind = 2 ∧ h.mask < 16 ∧
        ∀ l, l < 4 →
          (h.mask / 2 ^ l % 2 = 1 ↔ f.mask / 2 ^ l % 2 = 1 ∧ g.mask / 2 ^ l % 2 = 1
            ∧ (g.payload / 2 ^ (32 * l) % 2 ^ 32 = 0 ↔ S.arg / 4 % 2 = 1))
          ∧ h.payload / 2 ^ (32 * l) % 2 ^ 32 = if h.mask / 2 ^ l % 2 = 1 then f.payload / 2 ^ (32 * l) % 2 ^ 32 else 0)
    ∧ (S.opc = 6 → x.busy = true → s.work.allDead S = false →
      ∃ w h, s.work.slotFire S = some (w, some h, 1) ∧
        (x.issued ≤ S.arg → h.kind = 2 ∧ h.mask = 15 ∧ (w.op S).issued = x.issued + 1 ∧
          ∀ l, l < 4 → h.payload / 2 ^ (32 * l) % 2 ^ 32 = (4 * x.issued + l) % 2 ^ 32)
        ∧ (S.arg < x.issued → h = wordColophon false true false ∧ (w.op S).busy = false ∧ (w.op S).armings = x.armings + 1))
    ∧ (∀ (f : Flit) (p q : Nat), S.sels = [p, q] → p < 4 → s.work.headAt S p = some f →
      (S.opc = 5 → f.kind = 2 → f.mask < 2 ^ 16 → (∃ l, f.mask = 2 ^ l) → x.cnt = S.arg →
        ∃ w, s.work.slotFire S = some (w, some f, 1) ∧ (w.op S).queue = [wordColophon false true false] ∧ (w.op S).cnt = 0)
      ∧ (S.opc = 4 → ∃ w, s.work.slotFire S = some (w, none, 1) ∧ w.mem = s.mem ∧ w.core.regions = s.core.regions
        ∧ mapGet [] p (w.elem S.tile S.elem).ins = (mapGet [] p (s.work.elem S.tile S.elem).ins).drop 1)
      ∧ (S.opc = 9 → x.done = false → (f.kind = 3 → f.flags.2.2 = false) →
        ∃ w, s.work.slotFire S = some (w, some f, 1)
          ∧ (w.op S).crc = crc64 x.crc ((List.range 2).map (fun i => f.mask / 2 ^ (8 * i) % 2 ^ 8) ++ (List.range 16).map (fun i => f.payload / 2 ^ (8 * i) % 2 ^ 8))
          ∧ mapGet [] p (w.elem S.tile S.elem).ins = (mapGet [] p (s.work.elem S.tile S.elem).ins).drop 1))

namespace Sys2Proof.Claims

/-! ### Queues of the host, replays, nodes, placement (01 R22 to R45; 19 R362 to R390) -/

/-- Bits of a word, as a number. -/
def fieldOf (v : Word) (lo n : Nat) : Nat := v.toNat / 2 ^ lo % 2 ^ n

/-- A host queue's ring as Q_CTL says (R363): how many entries, home die, priority, ASID, VA[71:64]. -/
def ringSize (q : HostQueue) : Nat := 2 ^ (fieldOf q.ctl 40 4 + 4)

/-- Host queue `k` is the only one, enabled, served by `die`, and `ws` are the eight words of the entry at its head (R362, R363). -/
def headEntry (s : State) (die k : Nat) (q : HostQueue) (ws : List Word) : Prop :=
  s.core.mgmt.stage = 3 ∧ s.core.claims = [] ∧ s.core.hostq = [(k, q)] ∧ q.ctl.getLsbD 63 = true ∧ fieldOf q.ctl 36 2 = die
    ∧ 1 ≤ (q.tail - q.head).toNat ∧ (q.tail - q.head).toNat ≤ ringSize q ∧ ws.length = 8
    ∧ ∀ (j : Nat) (v : Word), ws[j]? = some v → s.work.word (fieldOf q.base 0 52 + 64 * (q.head.toNat % ringSize q) + 8 * j) = v

/-- R364: an entry that starts a replay. -/
def entrySound (ws : List Word) : Prop :=
  ∃ w0 g p c, ws = [w0, g, p, c, 0, 0, 0, 0] ∧ fieldOf w0 0 4 = 1 ∧ fieldOf w0 4 12 = 0 ∧ fieldOf w0 16 16 ≤ 64 ∧ fieldOf w0 32 32 = 0
    ∧ g.toNat % 64 = 0 ∧ p.toNat % 16 = 0 ∧ c.toNat % 8 = 0

/-- Node `a` of replay `n` is the machine's only node: `x`; the replay is `r`; and no block claims a word (11 R213). -/
def lone (s : State) (n a : Nat) (x : Node) (r : Replay) : Prop :=
  s.core.nodes = [x] ∧ s.core.claims = [] ∧ x.replay = n ∧ x.addr = a ∧ mapFind n s.core.replays = some r

/-- The state with the machine's only node changed. -/
def nodeNow (w : Work) (x : Node) : Work := { w with core := { w.core with nodes := [x] } }

/-- Word `k` of a record. -/
def wordAt (ws : List Word) (k : Nat) : Word := (ws[k]?).getD 0

/-- An access of the Sequencer for a replay, under the queue's ASID (R362): after the translation the machine is `w`. -/
def seqReaches (w0 : Work) (r : Replay) (form : AccForm) (a : Word) (w : Work) (pa : Nat) (u : Option Bool) : Prop :=
  w0.translate ⟨r.asid, false, [], [], none⟩ form 8 (r.vah * 2 ^ 64 + a.toNat) = (w, .ok pa u) ∧ w.poisonOf pa = none

/-- The context that a task starts with (01 R27): g1 from the task record, g2 the exit block, g3 to g6 from the record, at the entry block, in
task mode. -/
def startsAt (c : Ctx) (vah asid : Nat) (mode : BitVec 3) (trec : List Word) : Prop :=
  c.status = .ready ∧ c.fw = false ∧ c.block = none ∧ c.pc.toNat = vah % 2 ^ 8 * 2 ^ 64 + (wordAt trec 1).toNat ∧ c.asid.toNat = asid % 2 ^ 10
    ∧ c.mode = mode ∧ c.reg 1 = wordAt trec 3 ∧ c.reg 3 = wordAt trec 4 ∧ c.reg 4 = wordAt trec 5 ∧ c.reg 5 = wordAt trec 6
    ∧ c.reg 6 = wordAt trec 7 ∧ (∀ n, 6 < n → c.reg n = 0) ∧ c.fpflags = 0 ∧ c.utvec = 0

end Sys2Proof.Claims

/-- R362, R363: with the host port open, a write of Q_TAIL sets TAIL; a write of Q_CTL that enables a disabled queue sets HEAD and TAIL to
0, one that leaves an enabled queue enabled is ignored, and one that clears ENABLE is made. -/
def Sys2Proof.Claims.QueueRegistersTakeWrites : Prop :=
  ∀ (s : State) (k : Nat) (v : Word) (q : HostQueue), k < 16384 → s.core.mgmt.stage = 3 → mapGet {} k s.core.hostq = q →
    exec (.qTailWrite k v) s = .next (s.lift (fun w => { w with core := { w.core with
      hostq := mapSet k { q with tail := BitVec.ofNat 32 v.toNat } w.core.hostq } }))
    ∧ (q.ctl.getLsbD 63 = false → v.getLsbD 63 = true →
      exec (.qCtlWrite k v) s = .next (s.lift (fun w => { w with core := { w.core with
        hostq := mapSet k { q with ctl := v &&& 0x80FF0F3C000003FF, head := 0, tail := 0 } w.core.hostq } })))
    ∧ (q.ctl.getLsbD 63 = true → v.getLsbD 63 = true → exec (.qCtlWrite k v) s = .next (s.put s.work))
    ∧ (v.getLsbD 63 = false →
      exec (.qCtlWrite k v) s = .next (s.lift (fun w => { w with core := { w.core with
        hostq := mapSet k { q with ctl := v &&& 0x80FF0F3C000003FF } w.core.hostq } })))

/-- R363 to R365: the Sequencer of a die reads the entry at the head of its queue and advances HEAD; a sound entry queues a replay of its
graph, with the queue's ASID, VAH and PRIO and its completion word; a refused entry without COMP leaves memory and replays alone. -/
def Sys2Proof.Claims.SubmissionsAreTaken : Prop :=
  ∀ (s : State) (die k : Nat) (q : HostQueue) (ws : List Word), headEntry s die k q ws →
    (entrySound ws → fieldOf (wordAt ws 0) 16 16 = 0 → s.core.replays = [] →
      ∃ u, exec (.submissionTake die) s = .next u ∧ u.core.hostq = [(k, { q with head := q.head + 1 })]
        ∧ u.core.nextReplay = s.core.nextReplay + 1
        ∧ u.core.replays = [(s.core.nextReplay,
            { graph := fieldOf q.ctl 48 8 * 2 ^ 64 + (wordAt ws 1).toNat, asid := fieldOf q.ctl 0 10, vah := fieldOf q.ctl 48 8, die := die,
              prio := fieldOf q.ctl 34 2, comp := (wordAt ws 3).toNat, patches := [] })])
    ∧ (fieldOf (wordAt ws 0) 0 4 ≠ 1 → wordAt ws 3 = 0 →
      ∃ u, exec (.submissionTake die) s = .next u ∧ u.core.hostq = [(k, { q with head := q.head + 1 })] ∧ u.core.replays = s.core.replays
        ∧ u.mem = s.mem ∧ u.full = s.full)

/-- R367: the start of a replay whose descriptor and node list are sound makes it live, with its nodes, its GRAPHID and its report area.
R367, R372: its end, with nothing of it ready or running and no completion word asked for, takes it away. -/
def Sys2Proof.Claims.ReplaysStartAndEnd : Prop :=
  (∀ (s : State) (n : Nat) (r : Replay) (d as : List Word) (w w' : Work), s.core.mgmt.stage = 3 → s.core.claims = [] → s.core.replays = [(n, r)] → r.live = false →
    r.failed = none → r.patches = [] → s.work.readWords ⟨r.asid, false, [], [], none⟩ 8 r.graph = (w, .ok d) →
    fieldOf (wordAt d 0) 32 32 = 0 → fieldOf (wordAt d 2) 16 48 = 0 → wordAt d 5 = 0 → wordAt d 6 = 0 → wordAt d 7 = 0 →
    (wordAt d 1).toNat % 8 = 0 → (wordAt d 3).toNat % 64 = 0 →
    w.readWords ⟨r.asid, false, [], [], none⟩ (fieldOf (wordAt d 2) 0 16 + 1) (r.vah * 2 ^ 64 + (wordAt d 1).toNat) = (w', .ok as) →
    (∀ a ∈ as, a.toNat % 64 = 0) →
    ∃ u, exec (.replayStart r.die) s = .next u ∧ mapFind n u.core.replays = some { r with
      live := true, graphid := fieldOf (wordAt d 0) 0 32, report := (wordAt d 3).toNat, nodes := as.map (fun a => r.vah * 2 ^ 64 + a.toNat) })
  ∧ (∀ (s : State) (n : Nat) (r : Replay), s.core.claims = [] → s.core.replays = [(n, r)] → r.live = true → r.failed = none → r.ending = 0 → r.comp = 0 →
    (∀ x ∈ s.core.nodes, x.replay ≠ n) → s.core.comps = [] →
    ∃ u, exec (.replayEnd n) s = .next u ∧ u.core.replays = [])

/-- R368, R370, R372: a node that has run without error, and whose engine commands, completion words and token stores have performed (R19, R124 rule 8),
has its STATUS written, and, without successors, leaves; a node in no gang that ends in error fails its graph with its cause. -/
def Sys2Proof.Claims.NodesFinish : Prop :=
  (∀ (s : State) (n a d : Nat) (x : Node) (r : Replay) (w : Work) (pa : Nat) (b : Option Bool), lone s n a x r → x.stage = .ends (.done d) →
    Work.nodeKind x ≠ 2 → fieldOf (wordAt x.words 2) 0 16 = 0 → (∀ c ∈ s.core.engines, c.task ≠ some (n, a) ∧ c.node ≠ some (n, a)) →
    (∀ c ∈ s.core.comps, c.task ≠ some (n, a)) → (∀ k ∈ s.core.tokens, k.node ≠ some (n, a)) →
    ({ s.work with core := { s.core with nodes := [] } } : Work).translate ⟨r.asid, false, [], [], none⟩ .descStore 8 (a + 56) = (w, .ok pa b) →
    exec (.nodeFinish n a) s = .next (s.put (w.putWord pa (BitVec.ofNat 64 (2 ^ 62 + d % 2 ^ 48)))))
  ∧ (∀ (s : State) (n a c d : Nat) (x : Node) (r : Replay), lone s n a x r → x.stage = .ends (.error c d) → r.failed = none →
    fieldOf (wordAt x.words 2) 16 16 = 0 →
    ∃ u, exec (.nodeFinish n a) s = .next u ∧ u.core.nodes = [] ∧ mapFind n u.core.replays = some { r with failed := some c })

/-- R375, R378, R379, R387: a TASK whose indirect count word is FULL with a count of at most 65,535 is ready with that count, and with a
larger one it is in error, LAUNCH_COUNT; a COND ends with its predicate; a LOOP whose predicate is 0 ends with its iterations, and one
whose body has ended reads its predicate again; a COND that waits past its limit is in error, WAIT_TIMEOUT. -/
def Obligations.SequencerWaitsEnd : Prop :=
  ∀ (s : State) (n a since : Nat) (x : Node) (r : Replay), lone s n a x r → x.words.length = 8 → (wordAt x.words 0).getLsbD 5 = false →
    (∀ (w : Work) (pa : Nat), x.stage = .reads since → seqReaches s.work r .waitLoad (wordAt x.words 4) w pa none → w.isFull (pa / 8) = true →
      Work.nodeKind x = 0 →
      ((w.word pa).toNat ≤ 65535 →
        exec (.indirectCountRead n a) s = .next (s.put
          { nodeNow w { x with stage := .ready, tcount := (w.word pa).toNat, order := w.core.nextOrder } with
            core := { (nodeNow w { x with stage := .ready, tcount := (w.word pa).toNat, order := w.core.nextOrder }).core with
              nextOrder := w.core.nextOrder + 1 } }))
      ∧ (65535 < (w.word pa).toNat → exec (.launchCount n a) s = .next (s.put (nodeNow w { x with stage := .ends (.error 0x17 0) }))))
    ∧ (∀ (w : Work) (pa : Nat), x.stage = .reads since → seqReaches s.work r .waitLoad (wordAt x.words 3) w pa none → Work.nodeKind x = 2 →
      (w.isFull (pa / 8) = true →
        exec (.condPredicateRead n a) s = .next (s.put (nodeNow w { x with stage := .ends (.done (if w.word pa = 0 then 0 else 1)) })))
      ∧ (w.isFull (pa / 8) = false → since + 16 * 2 ^ fieldOf (wordAt x.words 5) 16 5 ≤ s.now →
        exec (.nodeWaitTimeout n a) s = .next (s.put (nodeNow w { x with stage := .ends (.error 0x09 0) }))))
    ∧ (Work.nodeKind x = 3 →
      (∀ (w : Work) (pa : Nat), x.stage = .reads since → seqReaches s.work r .waitLoad (wordAt x.words 3) w pa none →
        w.isFull (pa / 8) = true → w.word pa = 0 →
        exec (.loopIteration n a) s = .next (s.put (nodeNow w { x with stage := .ends (.done x.iter) })))
      ∧ (∀ it, x.stage = .body it → a ∉ s.work.listOf r (wordAt x.words 4).toNat (fieldOf (wordAt x.words 5) 0 16) →
        exec (.loopIteration n a) s = .next (s.put (nodeNow s.work { x with iter := it + 1, stage := .reads s.now }))))

/-- R387: a STEPSYNC message of one of the 12 package links (R6), which is up, that no node waits for is held. R29, R399: a task whose contexts have halted, whose region is drained and whose
wide units are idle retires: its region is free and its node ends with its armings. R390: a catchword node without a hit runs its task, whose
main context starts as R27 and R202 say. Its S_UTVEC of 0 is the model's reading (log 25). -/
def Obligations.TasksRetireAndDecide : Prop :=
  (∀ (s : State) (m : StepMsg), s.core.nodes = [] → s.core.claims = [] → m.link ≤ 11 → (mapGet {} m.link s.core.links).down = false →
    exec (.stepsyncMessage m.link m.graphid m.step m.digest) s = .next (s.put { s.work with core := { s.core with
      stepMsgs := s.core.stepMsgs ++ [m] } }))
  ∧ (∀ (s : State) (id t : Nat) (g : Region) (x : Node) (r : Replay), lone s x.replay x.addr x r → s.core.regions = [(id, g)] →
    g.progress = .running → g.live.head? = some t → (s.work.ctx t 0).status = .halted →
    (∀ u ∈ g.live, (∀ c, c < 4 → (s.work.ctx u c).status = .halted ∨ (s.work.ctx u c).status = .idle)
      ∧ (s.work.tile u).wq = [] ∧ (s.work.tile u).wide.run = none) →
    (g.arms = 0 ∨ g.armedSince = false ∧ g.kettle ≠ 0 ∧ g.sinks = []) → g.node = some (x.replay, x.addr) → g.errq = [] → g.cw = none →
    x.stage = .running →
    ∃ u, exec (.taskRetire id) s = .next u ∧ u.mem = s.mem ∧ u.full = s.full ∧ u.core.regions = []
      ∧ u.core.nodes = [{ x with stage := .ends (.done (g.arms % 2 ^ 48)) }]
      ∧ ∀ v, v < 160 → (s.work.tile v).region = some id → v ∈ g.tiles → (u.work.tile v).region = none)
  ∧ (∀ (s : State) (id t : Nat) (g : Region) (x : Node) (r : Replay) (c : CwRun), lone s x.replay x.addr x r → s.core.regions = [(id, g)] →
    g.progress = .probing → g.sinks = [] → g.cw = some c → g.node = some (x.replay, x.addr) → c.hit = false → g.stats = 0 →
    g.live.head? = some t →
    ∃ u, exec (.cwDecide id) s = .next u ∧ u.core.regions = [(id, { g with progress := .running })]
      ∧ startsAt (u.work.ctx t 0) r.vah g.asid g.mode x.trec)

/-- R22, R27, R44, R45: the one ready task of a die that fits is placed on the matching footprint whose lead tile has the lowest number: the
tiles of its footprint are its own, its main context starts at its entry block, as R27 and R202 say, and its node runs. The context's
S_UTVEC of 0 is the model's reading (log 25). -/
def Obligations.TasksArePlaced : Prop :=
  ∀ (s : State) (die ox oy t : Nat) (x : Node) (r : Replay) (g : Region) (w : Work) (p : List (Nat × Plane)) (race : Bool) (res : Nat),
    lone s x.replay x.addr x r → s.core.mgmt.stage = 3 → r.die = die → Work.nodeKind x = 0 → x.stage = .ready → fieldOf (wordAt x.words 2) 16 16 = 0 →
    fieldOf (wordAt x.trec 2) 10 1 = 0 → fieldOf (wordAt x.trec 2) 31 1 = 0 → fieldOf (wordAt x.trec 8) 32 4 = 0 → x.prio < 4 → x.held = [] →
    wordAt x.trec 9 = 0 → ox < 8 → oy < 5 → s.work.fits [] x die ox oy = true →
    (∀ i j, i < 8 → j < 5 → s.work.fits [] x die i j = true → Work.leadOf x die ox oy ≤ Work.leadOf x die i j) →
    g = s.work.regionFor ⟨x, die, ox, oy⟩ → g.live.head? = some t →
    (s.work.takeTiles s.core.nextRegion g).stageImage r g x.trec = (w, .ok (p, race, res)) →
    ∃ u, exec (.taskPlace die) s = .next u ∧ u.core.nextRegion = s.core.nextRegion + 1
      ∧ (∀ v ∈ footprint die ox oy (fieldOf (wordAt x.trec 2) 0 3 + 1) (fieldOf (wordAt x.trec 2) 3 3 + 1),
          (u.work.tile v).region = some s.core.nextRegion)
      ∧ startsAt (u.work.ctx t 0) r.vah r.asid (BitVec.ofNat 3 (fieldOf (wordAt x.trec 2) 29 3)) x.trec
      ∧ u.core.nodes.map (fun y => (y.replay, y.addr, y.stage)) = [(x.replay, x.addr, .running)]

namespace Sys2Proof.Claims

/-! ### Faults, the host, power and links (21 R394 to R415; 23 R416 to R430) -/

/-- The state once a message has left for the host. -/
def emits (s : State) (m : OutMsg) : State := s.lift (fun w => { w with core := { w.core with out := w.core.out ++ [m] } })

/-- MSI-X vector `n` has been raised between two states (R422): its message has left, or it is pending while the vector is masked. -/
def vectorRaised (n : Nat) (c d : Core) : Prop :=
  (∀ x, mapGet {} n c.msix = x → x.masked = true → d.out = c.out ∧ d.msix = mapSet n { x with pending := true } c.msix)
    ∧ (∀ x, mapGet {} n c.msix = x → x.masked = false → d.out = c.out ++ [.msi x.addr x.data] ∧ d.msix = c.msix)

/-- Region `id` holds the machine's one placed task: `g`, that of node `x`, which runs, in no gang. -/
def aloneTask (s : State) (id : Nat) (g : Region) (x : Node) : Prop :=
  s.core.regions = [(id, g)] ∧ s.core.nodes = [x] ∧ x.stage = .running ∧ g.node = some (x.replay, x.addr) ∧ g.gang = 0
    ∧ ∀ t ∈ g.live, t < 160 ∧ t ∈ g.tiles ∧ (s.work.tile t).region = some id

/-- R400: the task of region `g` has ended: its contexts are gone, with the claims of their blocks in flight and their reservations, its
elements stand at the staging base, and its tiles are free. -/
def taskGone (s u : State) (g : Region) : Prop :=
  (∀ t ∈ g.live, (u.work.tile t).region = none ∧ (u.work.tile t).wq = []
      ∧ ∀ c, c < 4 → (u.work.ctx t c).status = .idle ∧ (u.work.ctx t c).block = none ∧ (u.work.ctx t c).park = none)
    ∧ (∀ k ∈ u.core.claims, k.party / 4 ∈ g.live → (s.work.ctx (k.party / 4) (k.party % 4)).block = none)
    ∧ (∀ k ∈ u.core.resv, k.party / 4 ∉ g.live)
    ∧ (∀ e ∈ u.core.elems, e.1 / 256 ∉ g.live) ∧ (∀ k ∈ u.core.kills, k.tile ∉ g.live) ∧ (∀ k ∈ u.core.tokens, k.tile ∉ g.live)

/-- What is claimed is claimed by blocks in flight on the tiles of region `g`, which end with it (11 R213). -/
def ownClaims (s : State) (g : Region) : Prop :=
  ∀ k ∈ s.core.claims, k.party / 4 ∈ g.live ∧ (s.work.ctx (k.party / 4) (k.party % 4)).block ≠ none

/-- No block stands in the middle of its commit (log 50). -/
def noneLate (s : State) : Prop := ∀ t c b, (s.work.ctx t c).block = some b → b.late = none

/-- A region has come to a stop for a pre-emption (R405): its contexts stand at block boundaries, and firmware has PREEMPT with the node. -/
def halted (id : Nat) (g : Region) (x : Node) (u : State) : Prop :=
  ∃ h, u.core.regions = [(id, h)] ∧ h.progress = .halting ∧ h.live = g.live
    ∧ (u.work.ctx (160 + g.die) 0).cause = 0x15#8 ∧ (u.work.ctx (160 + g.die) 0).einfo = BitVec.ofNat 64 x.addr
    ∧ ∀ t ∈ g.live, ∀ c, c < 4 → (u.work.ctx t c).park = none ∧ ∀ b, (u.work.ctx t c).block = some b → b.late ≠ none

/-- Region `id` runs and may be pre-empted: it holds the machine's one placed task, none is saved, and nothing is under test or claimed. -/
def preemptible (s : State) (id : Nat) (g : Region) (x : Node) : Prop :=
  aloneTask s id g x ∧ g.progress = .running ∧ g.live.length ≤ 40 ∧ g.die < 4 ∧ s.core.tests = [] ∧ s.core.saved = [] ∧ s.core.claims = []

/-- The log entry of a detected fault. -/
def logged (s : State) (u : State) (kind unit addr : Nat) : Prop :=
  u.core.errlog = s.core.errlog ++ [⟨kind, unit, addr, s.now⟩] ∧ vectorRaised 0 s.core u.core

/-- Nothing is under way in the package: no block is in flight, no wide operation waits or runs, no token travels, and no task is saved. -/
def atRest (s : State) : Prop :=
  (∀ t ∈ s.core.tiles, (∀ c ∈ t.2.ctxs, c.2.block = none) ∧ t.2.wq = [] ∧ t.2.wide.run = none) ∧ s.core.tokens = [] ∧ s.core.elems = []
    ∧ s.core.saved = []

/-- The host may access (R426). -/
def hostOpen (s : State) : Prop := s.core.mgmt.stage = 3

/-- The word at offset `g` of the window that M_PWIN selects may be reached in views 1 to 3 (R420), and no other party concerns it. -/
def window (s : State) (g pa : Nat) : Prop :=
  hostOpen s ∧ g < 0x800000 ∧ g % 8 = 0 ∧ s.core.mgmt.pwin.toNat < 0xF000 ∧ pa = s.core.mgmt.pwin.toNat * 0x800000 + g
    ∧ s.core.hostOps = [] ∧ s.core.claims = [] ∧ s.core.resv = [] ∧ s.core.watched = [] ∧ s.core.poison = []

/-- A host access that waits from now on. -/
def waits (s : State) (h : HostOp) : State :=
  s.lift (fun w => { w with core := { w.core with hostOps := w.core.hostOps ++ [h] } })

/-- A host management command can be taken: no command runs. -/
def commandable (s : State) (a : Nat) : Prop :=
  hostOpen s ∧ s.core.mgmt.busy = false ∧ s.core.posted = [] ∧ s.core.mgmt.arg.toNat = a

/-- The management registers while a command runs that will answer ERR, CAUSE and DETAIL. -/
def running (m : Mgmt) (a : Bool × Nat × Nat) : Mgmt := { m with busy := true, err := false, cause := 0, detail := 0, answer := some a }

/-- The state with other management registers. -/
def withMgmt (s : State) (m : Mgmt) : State := s.lift (fun w => { w with core := { w.core with mgmt := m } })

/-- The registers of cluster `c` are `x`, and a store of `v` to its register `i` stands first among those posted (R428). -/
def clusterStore (s : State) (c i : Nat) (v : Word) (x : Cluster) : Prop :=
  c < 20 ∧ mapGet {} c s.clusters = x ∧ ∃ p, s.core.posted = [(0x10000 + c / 5 * 0x400 + c % 5 * 0x40 + 8 * i, v, p)]

/-- The store is taken, and the cluster's registers are `x`. -/
def clusterSet (s : State) (c : Nat) (x : Cluster) : State :=
  { s with core := { s.core with posted := [] }, clusters := mapSet c x s.clusters }

/-- R429: the registers of a cluster after a wake that succeeds. -/
def woken (x : Cluster) : Cluster :=
  let y := { x with gate := false, gated := false, good := 3, waking := false, wakeDone := true }
  { y with req := false, ack := false, busy := false, done := false }

/-- The tiles of a cluster (00 R9). -/
def inCluster (c t : Nat) : Prop := t < 160 ∧ t / 16 / 5 * 2 + t % 16 / 8 = c / 5 ∧ t / 16 % 5 = c % 5

/-- What a save area of a pre-empted task takes up (R406), at `area` in firmware-held HBM. -/
def areaFits (g : Region) (area : Nat) : Prop :=
  area % 64 = 0 ∧ 0x7800000000 ≤ area ∧ area + 0x10000 + g.live.length * 0xA00000 ≤ 0x7A00000000

end Sys2Proof.Claims

/-- R404, R405: a pre-emption that firmware requests of a running task halts its region: no context of it is parked or has a block in flight,
but one whose commit has begun (log 50), and firmware has PREEMPT with the node's address. Once the region stands at its boundary, its state is saved at an area in firmware-held
HBM, its tiles are free, and its node is ready again with its saved state. That the notice stands in S_CAUSE and S_EINFO of context 0 of the
die's Sequencer is the model's reading (log 31), and the area's place its choice (log 16). -/
def Obligations.PreemptionHaltsAndSaves : Prop :=
  (∀ (s : State) (id : Nat) (g : Region) (x : Node), preemptible s id g x → ∃ u, exec (.preemptRequest id) s = .next u ∧ halted id g x u)
  ∧ (∀ (s : State) (id area : Nat) (g : Region) (x : Node), aloneTask s id g x → g.progress = .halting → areaFits g area →
    (∀ t ∈ g.live, (s.work.tile t).wq = []) → s.core.elems = [] → s.core.kills = [] → s.core.tokens = [] → s.core.poison = [] →
    s.core.saved = [] → s.core.claims = [] →
    ∃ u v, exec (.preemptSave id area) s = .next u ∧ u.core.regions = [] ∧ u.core.nodes.map (fun y => (y.replay, y.addr, y.stage)) = [(x.replay, x.addr, .saved)]
      ∧ (∀ t ∈ g.live, (u.work.tile t).region = none ∧ ∀ c, c < 4 → (u.work.ctx t c).status = .idle)
      ∧ u.core.saved = [(x.replay * 2 ^ 72 + x.addr, v)] ∧ v.area = area ∧ v.region = g
      ∧ (∀ (k t : Nat), g.live[k]? = some t → mapFind k v.ctxs = some (s.work.tile t).ctxs ∧ mapFind k v.wides = some (s.work.tile t).wide))

/-- R400: containment ends a placed task with its cause: its contexts, elements, claims and reservations go, its region is freed, its node is
in error with its armings (R30), and engine commands already taken stay. R402: a task whose core fails a patrol ends with UNCORRECTABLE (R407, R408).
That firmware may end a task with any cause of R394, 0x01 to 0x18, is the model's reading (log 31), and the numbers of a patrol's units, element
0 to 255, wide stage 256 to 261, core 262, are its own (log 32). -/
def Obligations.ContainmentEndsTasks : Prop :=
  ∀ (s : State) (id : Nat) (g : Region) (x : Node), aloneTask s id g x → ownClaims s g →
    (∀ cause, 1 ≤ cause → cause ≤ 0x18 →
      ∃ u, exec (.containment id cause) s = .next u ∧ u.core.regions = [] ∧ u.core.nodes = [{ x with stage := .ends (.error cause (g.arms % 2 ^ 48)) }]
        ∧ (noneLate s → u.core.engines = s.core.engines) ∧ taskGone s u g)
    ∧ (∀ t e, t ∈ g.live → e ≤ 262 → g.mode.getLsbD 1 = true →
      exec (.patrolBist t e true) s = .next (s.lift (fun w => { w with core := { w.core with
        patrols := mapSet (t * 512 + e) s.now w.core.patrols } }))
      ∧ ∃ u, exec (.patrolBist t e false) s = .next u ∧ u.core.regions = [] ∧ u.core.nodes = [{ x with stage := .ends (.error 0x13 (g.arms % 2 ^ 48)) }]
        ∧ taskGone s u g)

/-- R408, R409: a corrected fault of an element is logged once, the host error vector is raised, and its self-test stands to begin; an
uncorrectable fault of a memory line poisons the line with its SOURCE as well. R409: the self-test begins and ends; a pass returns the unit
to service; an element that fails fences its tile, with its router sound if the router passes. R424: a link goes down. (Units are numbered as the model numbers them, log 32.) -/
def Obligations.FaultsAreReported : Prop :=
  ∀ (s : State) (t e : Nat), t < 160 → e < 256 →
    (∀ source addr, source ≤ 7 → (5, t * 256 + e) ∉ s.core.reports → (5, t * 256 + e) ∉ s.core.tests →
      ∃ u, exec (.faultDetect source false 5 (t * 256 + e) addr) s = .next u
        ∧ logged s u source (5 * 2 ^ 32 + (t * 256 + e)) addr ∧ u.core.reports = s.core.reports ++ [(5, t * 256 + e)]
        ∧ u.core.poison = s.core.poison ∧ u.mem = s.mem ∧ u.full = s.full)
    ∧ (∀ source addr, source ≤ 4 → mapFind (addr / 64) s.core.poison = none →
      ∃ u, exec (.faultDetect source true 0 t addr) s = .next u
        ∧ logged s u (source + 16) t addr ∧ u.core.poison = mapSet (addr / 64) source s.core.poison ∧ u.mem = s.mem ∧ u.full = s.full)
    ∧ ((5, t * 256 + e) ∈ s.core.reports → s.core.regions = [] →
      exec (.selfTestStart 5 (t * 256 + e)) s = .next (s.lift (fun w => { w with core := { w.core with
        reports := w.core.reports.filter (· != (5, t * 256 + e)), tests := w.core.tests ++ [(5, t * 256 + e)] } })))
    ∧ ((5, t * 256 + e) ∈ s.core.tests → s.core.regions = [] → s.core.saved = [] → s.clusters = [] → (s.work.tile t).region = none →
      exec (.selfTestEnd 5 (t * 256 + e) true true) s = .next (s.lift (fun w => { w with core := { w.core with
        tests := w.core.tests.filter (· != (5, t * 256 + e)) } }))
      ∧ ∀ router, ∃ u, exec (.selfTestEnd 5 (t * 256 + e) false router) s = .next u ∧ (5, t * 256 + e) ∉ u.core.tests
        ∧ (u.work.tile t).fence = (if router && (s.work.tile t).fence != .routerFaulty then .routerSound else .routerFaulty)
        ∧ ∀ v, v ≠ t → u.work.tile v = s.work.tile v)
    ∧ (∀ l k, l ≤ 11 → mapGet {} l s.core.links = k → k.down = false → s.core.elems = [] →
      exec (.linkDown l) s = .next (s.lift (fun w => { w with core := { w.core with
        links := mapSet l { k with down := true } w.core.links } })))

/-- R116: an invalidation takes the TLB entries of its range, and no others. R107: the teardown of an ASID without a task, placed or pre-empted, kills its
contexts and takes its catchword entries (R359). R232: a tile that is reset has every context, its wide unit and its TLB as at reset; its
fence and region stay; so has every tile of a cluster that
loses its power (R430). (What a reset and a loss of power keep is the model's reading, log 34.) -/
def Obligations.TilesAndTranslationsGo : Prop :=
  (∀ (s : State) (asid va len : Nat) (all : Bool), atRest s →
    ∃ u, exec (.invalidation asid all va len) s = .next u ∧ u.mem = s.mem ∧ u.full = s.full
      ∧ ∀ t e, e ∈ (u.work.tile t).tlb ↔
          e ∈ (s.work.tile t).tlb ∧ ¬((all = true ∨ e.gl = true ∨ e.asid = asid) ∧ e.base < va + len ∧ va < e.base + 2 ^ e.lg))
  ∧ (∀ (s : State) (asid : Nat), (∀ g ∈ s.core.regions, g.2.asid ≠ asid) → (∀ v ∈ s.core.saved, v.2.region.asid ≠ asid) → noneLate s →
    s.core.claims = [] →
    ∃ u, exec (.asidTeardown asid) s = .next u
      ∧ (∀ d, d ∈ u.core.directory ↔ d ∈ s.core.directory ∧ d.asid ≠ asid)
      ∧ ∀ t c, c < 4 → (s.work.ctx t c).asid.toNat = asid → (s.work.ctx t c).status ≠ .idle →
          (u.work.ctx t c).status = .idle ∧ (u.work.ctx t c).block = none ∧ (u.work.ctx t c).park = none)
  ∧ (∀ (s : State) (t : Nat), t < 160 →
    (∀ k ∈ s.core.claims, k.party / 4 = t ∧ (s.work.ctx t (k.party % 4)).block ≠ none) →
    ∃ u, exec (.tileReset t) s = .next u ∧ (∀ c, u.work.ctx t c = {}) ∧ (u.work.tile t).tlb = [] ∧ (u.work.tile t).wide = {}
      ∧ (u.work.tile t).wq = [] ∧ (u.work.tile t).fence = (s.work.tile t).fence ∧ (u.work.tile t).region = (s.work.tile t).region
      ∧ ∀ e ∈ u.core.elems, e.1 / 256 ≠ t)
  ∧ (∀ (s : State) (c : Nat), c < 20 →
    ∃ u, exec (.forcedPowerLoss c) s = .next u ∧ u.clusters = mapSet c { mapGet {} c s.clusters with good := 0 } s.clusters
      ∧ ∀ t, inCluster c t → (∀ d, u.work.ctx t d = {}) ∧ (u.work.tile t).tlb = [] ∧ (u.work.tile t).wide = {}
          ∧ (u.work.tile t).fence = (s.work.tile t).fence)

/-- R420: a host load of BAR 2 changes nothing and returns the bytes; a store writes its bytes alone and no presence bit; an access at or
above 0x78_0000_0000, or before STAGE is 3 (R426), is an Unsupported Request. View 0 of the aperture does the same at the window that
M_PWIN selects, and view 3 returns the presence bit and ignores writes; in
views 1 to 3 an access of another size than 8 bytes is an Unsupported Request. (What is open before STAGE 3: the model's reading, log 35.) -/
def Sys2Proof.Claims.HostAccessesMemory : Prop :=
  ∀ (s : State) (n : Nat) (v : Word), s.canonical → 1 ≤ n → n ≤ 8 →
    (∀ f, f < 2 ^ 39 → 0x7800000000 < f + n → ∀ write, exec (.bar2Access f write n v) s = .next (emits s .unsupported))
    ∧ (∀ f write, f < 2 ^ 39 → ¬hostOpen s → exec (.bar2Access f write n v) s = .next (emits s .unsupported))
    ∧ (hostOpen s → s.core.claims = [] → s.core.poison = [] → s.core.watched = [] →
      ∀ f, f + n ≤ 0x7800000000 →
        (∃ r, exec (.bar2Access f false n v) s = .next (emits s (.value r)) ∧ ∀ i, i < 8 →
          (r.toNat / 2 ^ (8 * i)) % 2 ^ 8 = if i < n then (s.readByte (f + i)).toNat else 0)
        ∧ (∃ u, exec (.bar2Access f true n v) s = .next u ∧ u.core = s.core ∧ u.full = s.full
          ∧ (∀ i, i < n → (u.readByte (f + i)).toNat = v.toNat / 2 ^ (8 * i) % 2 ^ 8)
          ∧ ∀ a, ¬(f ≤ a ∧ a < f + n) → u.readByte a = s.readByte a))
    ∧ (∀ g write, g < 0x800000 → 0xF000 ≤ s.core.mgmt.pwin.toNat → exec (.aperturePlain g write n v) s = .next (emits s .unsupported))
    ∧ (∀ g pa, window s g pa → n = 8 →
        exec (.aperturePlain g false n v) s = .next (emits s (.value (s.work.word pa)))
        ∧ (∃ u, exec (.aperturePlain g true n v) s = .next u ∧ u.work.word pa = v ∧ u.full = s.full
          ∧ ∀ a, ¬(pa ≤ a ∧ a < pa + 8) → u.readByte a = s.readByte a)
        ∧ exec (.apertureTest ⟨g, 8, false⟩) s = .next (emits s (.value (if s.readFull (pa / 8) then 1 else 0)))
        ∧ exec (.apertureTest ⟨g, 8, true⟩) s = .next (s.put s.work))
    ∧ (∀ g pa write, window s g pa → n ≠ 8 →
        exec (.apertureWaitingLoad ⟨g, n, write⟩) s = .next (emits s .unsupported)
        ∧ exec (.apertureConsumingLoad ⟨g, n, write⟩) s = .next (emits s .unsupported)
        ∧ exec (.apertureFillingStore ⟨g, n, write⟩ v) s = .next (emits s .unsupported)
        ∧ exec (.apertureClearingStore ⟨g, n, write⟩ v) s = .next (emits s .unsupported)
        ∧ exec (.apertureTest ⟨g, n, write⟩) s = .next (emits s .unsupported))

/-- R420: in views 1 and 2 of the aperture a waiting load of a FULL word returns it, a consuming load leaves it EMPTY, a filling store of an
EMPTY word leaves it FULL, a clearing store leaves it EMPTY; what cannot be made waits; at the end of its limit, 16 × 2^HWLIM clk, a
read returns all ones, a write is dropped, and HWFAIL counts. -/
def Sys2Proof.Claims.PresenceApertureActs : Prop :=
  (∀ (s : State) (g pa : Nat) (v : Word), s.canonical → window s g pa →
    (s.readFull (pa / 8) = true →
      exec (.apertureWaitingLoad ⟨g, 8, false⟩) s = .next (emits s (.value (s.work.word pa)))
      ∧ (∃ u, exec (.apertureConsumingLoad ⟨g, 8, false⟩) s = .next u ∧ u.core.out = s.core.out ++ [.value (s.work.word pa)] ∧ u.mem = s.mem
        ∧ u.readFull (pa / 8) = false ∧ ∀ k, k ≠ pa / 8 → u.readFull k = s.readFull k)
      ∧ exec (.apertureFillingStore ⟨g, 8, true⟩ v) s = .next (waits s ⟨g, pa, 1, true, v, s.now⟩))
    ∧ (s.readFull (pa / 8) = false →
      exec (.apertureWaitingLoad ⟨g, 8, false⟩) s = .next (waits s ⟨g, pa, 1, false, 0, s.now⟩)
      ∧ exec (.apertureConsumingLoad ⟨g, 8, false⟩) s = .next (waits s ⟨g, pa, 2, false, 0, s.now⟩)
      ∧ ∃ u, exec (.apertureFillingStore ⟨g, 8, true⟩ v) s = .next u ∧ u.work.word pa = v ∧ u.readFull (pa / 8) = true
        ∧ (∀ a, ¬(pa ≤ a ∧ a < pa + 8) → u.readByte a = s.readByte a) ∧ ∀ k, k ≠ pa / 8 → u.readFull k = s.readFull k)
    ∧ ∃ u, exec (.apertureClearingStore ⟨g, 8, true⟩ v) s = .next u ∧ u.work.word pa = v ∧ u.readFull (pa / 8) = false
        ∧ (∀ a, ¬(pa ≤ a ∧ a < pa + 8) → u.readByte a = s.readByte a) ∧ ∀ k, k ≠ pa / 8 → u.readFull k = s.readFull k)
  ∧ (∀ (s : State) (h : HostOp), s.core.hostOps = [h] → h.since + 16 * 2 ^ s.core.mgmt.hwlim ≤ s.now →
    ∃ u, exec (.hostWaitExpire 0) s = .next u ∧ u.core.hostOps = [] ∧ u.core.mgmt.hwfail = s.core.mgmt.hwfail + 1 ∧ u.mem = s.mem
      ∧ u.full = s.full ∧ (h.write = true → u.core.out = s.core.out)
      ∧ (h.write = false → u.core.out = s.core.out ++ [.value 0xFFFFFFFFFFFFFFFF]))

/-- R421: a host command sets BUSY and runs: command 6 sets HWLIM, command 4 clears a fence, command 1 pre-empts the task of the node that M_ARG
names (R404, R405) or is refused, command 2 ends a halted graph or is refused, other codes are refused; with STAGE = 0xF only code 5 is taken; while BUSY is
set a write of M_CMD is ignored. R414: command 3 writes a report after the nonce, with the security version, two bytes of 0
and the LMS leaf used (the
report's length of 2,100 bytes and its bounds are the model's, log 15). The registers that hold the notice are the model's reading (log 31). -/
def Sys2Proof.Claims.CommandsRun : Prop :=
  ∀ (s : State) (a : Nat), commandable s a →
    exec .mCmdSetHwlim s = .next (withMgmt s (running { s.core.mgmt with hwlim := a % 32 } (false, 0, 0)))
    ∧ (∀ code, code = 0 ∨ 7 ≤ code ∧ code ≤ 15 → exec (.mCmdRefused code) s = .next (withMgmt s (running s.core.mgmt (true, 0x06, 0))))
    ∧ (a % 256 < 160 →
      ∃ u, exec .mCmdClearFence s = .next u ∧ u.core.mgmt = running s.core.mgmt (false, 0, 0) ∧ (u.work.tile (a % 256)).fence = .none
        ∧ ∀ t, t ≠ a % 256 → u.work.tile t = s.work.tile t)
    ∧ (160 ≤ a % 256 → exec .mCmdClearFence s = .next (withMgmt s (running s.core.mgmt (true, 0x06, 0))))
    ∧ (s.core.regions = [] → exec .mCmdPreempt s = .next (withMgmt s (running s.core.mgmt (true, 0x06, 0)))
      ∧ exec .mCmdEndGraph s = .next (withMgmt s (running s.core.mgmt (true, 0x06, 0))))
    ∧ (∀ id g x, preemptible s id g x → x.addr % 2 ^ 64 = a →
      ∃ u, exec .mCmdPreempt s = .next u ∧ u.core.mgmt = running s.core.mgmt (false, 0, 0) ∧ halted id g x u)
    ∧ (∀ id g x r, aloneTask s id g x → ownClaims s g → g.progress = .mismatch → mapFind x.replay s.core.replays = some r → r.graph % 2 ^ 64 = a →
      ∃ u, exec .mCmdEndGraph s = .next u ∧ u.core.mgmt = running s.core.mgmt (false, 0, 0) ∧ u.core.regions = []
        ∧ u.core.nodes = [{ x with stage := .ends (.error 0x16 (g.arms % 2 ^ 48)) }])
    ∧ (s.canonical → a % 8 = 0 → a + 2100 ≤ 0x3FF0000000000 → s.core.mgmt.leaf < 2 ^ 20 → s.core.watched = [] → s.core.claims = [] →
      ∃ u, exec .mCmdAttest s = .next u ∧ u.core.mgmt = running { s.core.mgmt with leaf := s.core.mgmt.leaf + 1 } (false, 0, 2100)
        ∧ u.work.load (0x4000000000000 + a + 192) 2 = s.core.fusedVersion.toNat ∧ u.work.load (0x4000000000000 + a + 194) 2 = 0
        ∧ u.work.load (0x4000000000000 + a + 196) 4 = s.core.mgmt.leaf
        ∧ (∀ b, ¬(0x4000000000000 + a + 48 ≤ b ∧ b < 0x4000000000000 + a + 2100) → u.readByte b = s.readByte b) ∧ u.full = s.full)
    ∧ (a % 8 = 0 → a + 2100 ≤ 0x3FF0000000000 → 2 ^ 20 ≤ s.core.mgmt.leaf →
      exec .mCmdAttest s = .next (withMgmt s (running s.core.mgmt (true, 0x0A, 0))))

/-- R421, R422: a command that completes leaves its answer in M_RESP, clears BUSY and raises vector 1; a read of M_STATUS returns HWFAIL,
STAGE and FAIL and clears HWFAIL; a masked vector that is pending is delivered on unmask. R427: recovery with an image at M_ARG that
verifies restarts the boot with it; a refused image leaves STAGE at 0xF with ERR and CAUSE 0x13. How many bytes the image has is an
argument of the event (log 37). While BUSY is set a write of M_CMD is ignored. -/
def Sys2Proof.Claims.CommandsComplete : Prop :=
  (∀ (s : State) (e : Bool) (c d : Nat), s.core.mgmt.answer = some (e, c, d) →
    ∃ u, exec .mCmdComplete s = .next u ∧ vectorRaised 1 s.core u.core
      ∧ u.core.mgmt = { s.core.mgmt with busy := false, err := e, cause := c, detail := d, answer := none })
  ∧ (∀ (s : State) (m : Mgmt), s.core.mgmt = m → hostOpen s → m.stage < 16 → m.fail < 16 →
    exec .mStatusRead s = .next (withMgmt (emits s (.value (BitVec.ofNat 64 (m.hwfail.toNat * 2 ^ 8 + m.stage * 2 ^ 4 + m.fail))))
      { m with hwfail := 0 }))
  ∧ (∀ (s : State) (n : Nat) (x : Vector), hostOpen s → n < 2048 → mapGet {} n s.core.msix = x →
    exec (.msixUnmask n) s = .next (s.lift (fun w => { w with core := { w.core with
      msix := mapSet n { x with masked := false, pending := false } w.core.msix,
      out := w.core.out ++ (if x.pending then [.msi x.addr x.data] else []) } })))
  ∧ (∀ (s : State) (len n : Nat) (f : Firmware), s.core.posted = [] → s.core.mgmt.busy = false →
    s.core.mgmt.arg.toNat + len + 9428 ≤ 0x3FF0000000000 → s.work.hostFirmware s.core.mgmt.arg.toNat len = f →
    s.work.verdict s.core.firmKeys f = n →
    (n ≠ 0 → s.core.mgmt.stage = 15 → exec (.mCmdRecover len) s = .next (withMgmt s (running { s.core.mgmt with fail := n } (true, 0x13, 0))))
    ∧ (n ≠ 0 → hostOpen s → ∃ u, exec (.mCmdRecover len) s = .next u ∧ u.mem = s.mem ∧ u.full = s.full
        ∧ u.core.mgmt = running { s.core.mgmt with stage := 15, fail := n } (true, 0x13, 0)
        ∧ (s.core.mgmt.msixOn = true → vectorRaised 1 s.core u.core)
        ∧ (s.core.mgmt.msixOn = false → u.core.out = s.core.out ∧ u.core.msix = s.core.msix))
    ∧ (n = 0 → s.core.mgmt.stage = 15 ∨ hostOpen s → ∃ u, exec (.mCmdRecover len) s = .next u ∧ u.mem = s.mem ∧ u.full = s.full
        ∧ u.core.mgmt = running { s.core.mgmt with stage := 1, fail := 0 } (false, 0, 0) ∧ vectorRaised 1 s.core u.core
        ∧ u.core.regions = [] ∧ u.core.engineFirm = f
        ∧ ∀ t, t < 160 → (u.work.tile t).fence = (s.work.tile t).fence ∧ ∀ c, u.work.ctx t c = {}))
  ∧ (∀ (s : State) (len : Nat), s.core.mgmt.stage = 15 → s.core.posted = [] → s.core.mgmt.busy = false →
    (0x3FF0000000000 < s.core.mgmt.arg.toNat + len + 9428 →
      exec (.mCmdRecover len) s = .next (withMgmt s (running s.core.mgmt (true, 0x06, 0))))
    ∧ exec .mCmdSetHwlim s = .next (withMgmt s (running s.core.mgmt (true, 0x06, 0))))
  ∧ (∀ (s : State) (len : Nat), hostOpen s → s.core.posted = [] → s.core.mgmt.busy = true →
    exec (.mCmdRecover len) s = .next (s.put s.work) ∧ exec .mCmdSetHwlim s = .next (s.put s.work))

/-- R419, R421: with the host port open, a write of BAR 0 sets M_ARG, M_PWIN, an MSI-X address; an offset that R419 does not list ignores it;
with the port closed the write is an Unsupported Request (R426). R417: a posted store to the control window sets M_ARG and M_PWIN. -/
def Sys2Proof.Claims.RegisterWritesAct : Prop :=
  ∀ (s : State) (v : Word),
    (hostOpen s →
      exec (.registerWrite false 0x4000010 v) s = .next (withMgmt s { s.core.mgmt with arg := v })
      ∧ exec (.registerWrite false 0x4000020 v) s = .next (withMgmt s { s.core.mgmt with pwin := v.setWidth 16 })
      ∧ (∀ n, n < 2048 → exec (.registerWrite false (0x4001000 + 16 * n) v) s = .next (s.lift (fun w => { w with core := { w.core with
          msix := mapSet n { mapGet {} n w.core.msix with addr := v } w.core.msix } })))
      ∧ ∀ o, o % 8 = 0 → 0x4009000 ≤ o → o < 0x6000000 → exec (.registerWrite false o v) s = .next (s.put s.work))
    ∧ (s.core.mgmt.stage < 3 → exec (.registerWrite false 0x4000010 v) s = .next (emits s .unsupported))
    ∧ (∀ p, s.core.posted = [(0x10, v, p)] → exec (.registerWrite true 0x10 v) s
        = .next { s with core := { s.core with posted := [], mgmt := { s.core.mgmt with arg := v } } })
    ∧ (∀ p, s.core.posted = [(0x20, v, p)] → exec (.registerWrite true 0x20 v) s
        = .next { s with core := { s.core with posted := [], mgmt := { s.core.mgmt with pwin := v.setWidth 16 } } })

/-- R426: the boot passes its stages in order, raising vector 1; its second step leaves every word of HBM user memory outside the retired
pages, and of every stash, at data 0 and EMPTY; a failure sets STAGE to 0xF and FAIL, and raises vector 1 if MSI-X is enabled. R412, R413:
firmware is refused with code 1 where no key verifies both its signatures, and with code 2 where its security version is below the
fused one. Until STAGE is 3 a configuration request is retried. -/
def Sys2Proof.Claims.BootPasses : Prop :=
  ∀ (s : State), s.canonical →
    (∀ n, s.core.mgmt.stage = n → n < 3 → (n = 0 → s.work.verdict s.core.rootKey.toList s.core.bootFirm = 0) →
      (n = 1 → s.work.verdict s.core.firmKeys s.core.engineFirm = 0) →
      ∃ u, exec (.bootStage 0) s = .next u ∧ u.core.mgmt = { s.core.mgmt with stage := n + 1, fail := 0 } ∧ vectorRaised 1 s.core u.core
        ∧ (n = 1 → ∀ a, a < 0x7A00000000 ∧ a / 0x10000 ∉ s.core.retired ∨ stashBase 0 ≤ a ∧ a < stashBase 0 + 160 * 0x200000 →
            u.readByte a = 0 ∧ u.readFull (a / 8) = false)
        ∧ (n ≠ 1 → u.mem = s.mem ∧ u.full = s.full))
    ∧ (∀ f, f ≠ 0 → s.core.mgmt.stage = 0 ∧ f = s.work.verdict s.core.rootKey.toList s.core.bootFirm
        ∨ s.core.mgmt.stage = 1 ∧ (f = s.work.verdict s.core.firmKeys s.core.engineFirm ∨ 3 ≤ f ∧ f ≤ 5) →
      ∃ u, exec (.bootStage f) s = .next u ∧ u.core.mgmt = { s.core.mgmt with stage := 15, fail := f } ∧ u.mem = s.mem ∧ u.full = s.full
        ∧ (s.core.mgmt.msixOn = true → vectorRaised 1 s.core u.core)
        ∧ (s.core.mgmt.msixOn = false → u.core.out = s.core.out ∧ u.core.msix = s.core.msix))
    ∧ (∀ (keys : List SigKey) (f : Firmware),
      ((∀ k ∈ keys, dualOk k f.body f.block = false) → s.work.verdict keys f = 1)
      ∧ (∀ k ∈ keys, dualOk k f.body f.block = true → s.work.verdict keys f =
          if (Config.securityVersion f.body).toNat < s.core.fusedVersion.toNat then 2 else 0))
    ∧ (hostOpen s → exec .configurationRequest s = .next (emits s .config))
    ∧ (s.core.mgmt.stage < 3 → exec .configurationRequest s = .next (emits s .retry))

/-- R416: a Function Level Reset ends the placed task and clears ENABLE of every host queue; HWLIM is 20 (R420). R409, R426: a device reset
leaves STAGE at 0, no task, no node, every context and cluster register as at reset, and fences as they stood. That memory keeps its contents until the boot is the model's choice
(log 3); so is which stage reports which code (log 37), and no key stands at reset (log 5). -/
def Sys2Proof.Claims.ResetsAct : Prop :=
  ∀ (s : State),
    (∀ id g x, aloneTask s id g x →
      ∃ u, exec .functionLevelReset s = .next u ∧ u.core.regions = [] ∧ u.core.mgmt.hwlim = 20 ∧ u.clusters = s.clusters ∧ taskGone s u g
        ∧ (∃ c, u.core.nodes = [{ x with stage := .ends (.error c (g.arms % 2 ^ 48)) }])
        ∧ ∀ k q, (k, q) ∈ u.core.hostq → q.ctl.getLsbD 63 = false)
    ∧ ∃ u, exec .deviceReset s = .next u ∧ u.mem = s.mem ∧ u.full = s.full ∧ u.core.mgmt.stage = 0 ∧ u.core.mgmt.hwlim = 20 ∧ u.core.regions = []
        ∧ u.core.nodes = [] ∧ u.core.replays = [] ∧ u.core.hostq = [] ∧ u.clusters = []
        ∧ ∀ t, t < 160 → (u.work.tile t).fence = (s.work.tile t).fence ∧ ∀ c, u.work.ctx t c = {}

/-- R425: a frame on a channel of a link that is up joins the channel's flits, in order, under 64 credits; firmware binds a channel to a local
and a peer ASID. 00 R3: throttling changes no
count in clk. (The MSI-X layout is PRESUMED, log 9; what is open when, log 35, and a frame's handling, log 41, are the model's readings.) -/
def Sys2Proof.Claims.LinksAndClocksAct : Prop :=
  (∀ (s : State) (l c kind tag mask payload : Nat) (k : Link), l ≤ 11 → c ≤ 63 → mapGet {} l s.core.links = k → k.down = false →
    (mapGet [] c k.rx).length < 64 → kind ≤ 3 → tag ≤ 3 →
    exec (.linkFrameReceive l c kind tag mask payload) s = .next (s.lift (fun w => { w with core := { w.core with
      links := mapSet l { k with rx := mapSet c (mapGet [] c k.rx ++ [{ kind := kind, tag := tag, mask := mask, payload := payload }]) k.rx } w.core.links } })))
  ∧ (∀ (s : State) (l c asid peer : Nat) (k : Link), l ≤ 11 → c ≤ 63 → asid ≤ 1023 → peer ≤ 1023 → mapGet {} l s.core.links = k →
    exec (.channelBind l c asid peer) s = .next (s.lift (fun w => { w with core := { w.core with
      links := mapSet l { k with binds := mapSet c (asid, peer) k.binds } w.core.links } })))
  ∧ ∀ (s : State) (level : Nat),
    exec (.clockThrottle level) s = .next (s.lift (fun w => { w with core := { w.core with throttle := level } }))

/-- R428, R429: a store to a cluster's register moves the cluster as the table of R429 says, when what it requires holds, and otherwise is
ignored with SEQERR set; a 1 written to SEQERR clears it. (Which writes are out of sequence: the model's reading, log 36.) -/
def Obligations.ClusterRegistersMove : Prop :=
  ∀ (s : State) (c : Nat) (x : Cluster) (v : Word),
    (clusterStore s c 0 v x → v.getLsbD 0 = true →
      (x.gated = true → exec (.clQreqSet c) s = .next (clusterSet s c { x with seqerr := true }))
      ∧ (x.gated = false → x.req = true → exec (.clQreqSet c) s = .next { s with core := { s.core with posted := [] } })
      ∧ (x.gated = false → x.req = false → exec (.clQreqSet c) s = .next (clusterSet s c { x with req := true, busy := true })))
    ∧ (clusterStore s c 0 v x → v.getLsbD 0 = false →
      exec (.clQreqClear c) s = .next (clusterSet s c
        (if x.gated then { x with seqerr := true } else { x with req := false, ack := false, busy := false, done := false })))
    ∧ (clusterStore s c 2 v x → v.getLsbD 0 = true →
      exec (.clSaveGo c) s = .next (clusterSet s c
        (if x.ack then { x with addr := v.toNat / 2 ^ 16 % 2 ^ 36, saving := true, done := false, err := false }
         else { x with addr := v.toNat / 2 ^ 16 % 2 ^ 36, seqerr := true })))
    ∧ (clusterStore s c 4 v x → v.getLsbD 0 = true →
      (x.done = false → exec (.clClkgGate c) s = .next (clusterSet s c { x with seqerr := true }))
      ∧ (x.done = true → x.gate = false → ∃ u, exec (.clClkgGate c) s = .next u ∧ u.clusters = mapSet c { x with gate := true, gated := true } s.clusters
          ∧ u.core.posted = [] ∧ (∀ t, inCluster c t → (u.work.tile t).stopped = some (s.work.cycles t))
          ∧ ∀ t, ¬inCluster c t → u.work.tile t = s.work.tile t))
    ∧ (clusterStore s c 5 v x → v.toNat % 4 ≠ 3 →
      (x.on = 3 → exec (.clRailOff c) s = .next (clusterSet s c (if x.gated then { x with on := v.toNat % 4 } else { x with seqerr := true })))
      ∧ (x.on = 0 → v.toNat % 4 ≠ 0 → x.gated = true → ∃ u, exec (.clRailOff c) s = .next u ∧ u.core = { s.core with posted := [] }
          ∧ mapGet {} c u.clusters = { x with seqerr := true }))
    ∧ (clusterStore s c 4 v x → v.getLsbD 0 = false →
      exec (.registerWrite true (0x10020 + c / 5 * 0x400 + c % 5 * 0x40) v) s = .next (clusterSet s c { x with seqerr := true }))
    ∧ (clusterStore s c 5 v x → v.toNat % 4 = 3 →
      exec (.registerWrite true (0x10028 + c / 5 * 0x400 + c % 5 * 0x40) v) s = .next (clusterSet s c { x with seqerr := true }))
    ∧ (clusterStore s c 7 v x → v.getLsbD 0 = true →
      exec (.clWakeGo c) s = .next (clusterSet s c
        (if x.gated then { x with on := 3, waking := true, wakeDone := false, wakeErr := false } else { x with seqerr := true })))
    ∧ (clusterStore s c 1 v x → v.getLsbD 2 = true → exec (.clQackWrite c) s = .next (clusterSet s c { x with seqerr := false }))

/-- R429, R430: ACK rises once no task holds a tile of the cluster and nothing is under way in it; a save of a cluster whose ACK stands ends, having written its area
alone; GOOD of a rail that is off falls; a wake that succeeds ungates the cluster, and S_CYCLE goes on from where the save holds it; one that fails leaves the
cluster gated. (What a save area holds is open, log 14.) -/
def Obligations.ClusterSequenceEnds : Prop :=
  ∀ (s : State) (c : Nat) (x : Cluster), c < 20 → mapGet {} c s.clusters = x →
    (x.req = true → x.ack = false → (∀ t, inCluster c t → (s.work.tile t).region = none) → s.core.reports = [] → s.core.tests = [] →
      s.core.tokens = [] → s.core.kills = [] →
      exec (.clusterQuiesceAck c) s = .next { s with clusters := mapSet c { x with ack := true, busy := false } s.clusters })
    ∧ (s.canonical → x.saving = true → x.ack = true → 0x7800000000 ≤ x.addr * 0x10000 → x.addr * 0x10000 + 0x8000 ≤ 0x7A00000000 → s.core.watched = [] →
      ∃ u, exec (.clusterSaveDone c true) s = .next u ∧ u.clusters = mapSet c { x with
            saving := false, done := true, err := false, saved := (clusterTiles c).map (fun t => (t, s.work.cycles t)) } s.clusters
        ∧ u.full = s.full ∧ ∀ a, ¬(x.addr * 0x10000 ≤ a ∧ a < x.addr * 0x10000 + 0x8000) → u.readByte a = s.readByte a)
    ∧ (x.saving = true →
      exec (.clusterSaveDone c false) s = .next { s with clusters := mapSet c { x with saving := false, done := false, err := true } s.clusters })
    ∧ (x.on = 0 → x.good = 3 →
      exec (.railGoodFall c) s = .next { s with clusters := mapSet c { x with good := 0 } s.clusters })
    ∧ (x.waking = true →
      exec (.clusterWakeDone c [] false) s = .next { s with clusters := mapSet c { x with waking := false, wakeErr := true } s.clusters }
      ∧ (s.core.lateFences = [] → x.on = 3 →
        ∃ u, exec (.clusterWakeDone c [] true) s = .next u
          ∧ u.clusters = mapSet c (woken x) s.clusters
          ∧ (∀ t n m, inCluster c t → (s.work.tile t).stopped = some n → mapGet n t x.saved = m → m ≤ s.now → u.work.cycles t = m)
          ∧ ∀ t, (u.work.tile t).fence = (s.work.tile t).fence))

namespace Sys2Proof.Claims

/-! ### Encodings, steps and special registers (07 R145 to R153; 11 R235, R241, R242) -/

/-- R241, R242: the bits that MTS writes of a special register that a context holds, in firmware mode or not; none where the register is RO
in the mode. -/
def writtenBits (fw : Bool) (id : Nat) : Option Word :=
  match id with
  | 0x002 => if fw then some 0x3FF else none
  | 0x003 => if fw then some 0x7 else none
  | 0x005 => some 0x1FFFF
  | 0x006 => some 0x1F
  | 0x007 => some 0xFF
  | 0x008 => some 0xFFFFFFFFFFFF0FFF
  | 0x00C => some 0xFF
  | 0x800 => some 0xFF
  | 0x803 => some 0xFF01
  | 0x009 | 0x00A | 0x00B | 0x00D | 0x00E | 0x801 | 0x802 | 0x804 | 0x805 => some 0xFFFFFFFFFFFFFFFF
  | _ => none

/-- What a choice of the schedule answers: the meaning's next state, or, when the choice cannot happen or a test
of an HBM row holds it back (R409), the state with its clk passed. -/
def chosen (o : Host.Outcome State Fault Refusal) (u : State) : Host.Outcome State Fault Refusal :=
  match o with
  | .next v => .next (if rowHeld u v then u else v)
  | .fault _ => .next u
  | .refused r => .refused r

end Sys2Proof.Claims

/-- R145, R148: for every well-formed instruction that a word encodes, decoding its encoding gives it back, with every operand. -/
def Obligations.DecodeGivesBackEncodings : Prop := ∀ i : Instr, i.wellFormed = true → i.isEncoded = true → decode (encode i) = some i

/-- R145, R153: a word that decodes has the encoding of what it decodes to, so that no two words are one instruction and no bit of a word is
dropped. -/
def Obligations.WordsAreTheirEncodings : Prop := ∀ (w : IWord) (i : Instr), decode w = some i → i.isEncoded = true ∧ encode i = w

/-- R342: the words that it fixes decode to the instructions they stand for: WFMA.D w3, w1, w2, k0 and the eight that follow it. Beside
them, the word of `ADD a, b -> i1.l, w0`, written out from R145. -/
def Obligations.WrittenOutWordsDecode : Prop :=
  decode 0xF60C6110 = some (.wfmaD 0 3 1 2 0) ∧ decode 0xF8042113 = some (.waddS 0 1 1 2 3)
    ∧ decode 0xF6194110 = some (.wcmpD 0 1 2 1 2 0) ∧ decode 0xF6240710 = some (.wredD 0 0 7 2 0) ∧ decode 0xF4004000 = some (.wld 0 2 0)
    ∧ decode 0xFA010854 = some (.xacc 0 1 4 5 2) ∧ decode 0xFA0C8002 = some (.xst 0 2) ∧ decode 0xFC0BFE05 = some (.xsgn 0 2 0x1FF 0x005)
    ∧ decode 0xFC7FFE89 = some (.xrnd 0 3 3 0x1FF 0x089) ∧ decode 0x02000380 = some (.add 0 0x001 0x180)

/-- The step's choice (log 1): a step whose schedule says that an instruction of a block in flight fires decodes the word at its index and is
exec of that instruction, at the choice's clk, with that instruction in focus; a step whose schedule names an event is exec of the event. -/
def Obligations.StepRunsTheChosen : Prop :=
  ∀ (s u : State) (c : Choice) (cs : List Choice), s.sched = c :: cs → u = { s with sched := cs, now := s.now + c.dclk } →
    (∀ t x i b w ins, c.act = .fire t x i → (s.work.ctx t x).block = some b → b.words[i]? = some w → decode w = some ins →
      step s = chosen (exec ins { u with focus := ⟨t, x, i⟩ }) u)
    ∧ (∀ e, c.act = .event e → e.isEncoded = false → step s = chosen (exec e u) u)

/-- The model's form of memory and time (log 1, log 2, log 3): every step answers a next state; it keeps memory and the presence bits in
their canonical form; and the clk never goes back. -/
def Obligations.StepKeepsCanonicalMemory : Prop :=
  ∀ s : State, ∃ t, step s = .next t ∧ (s.canonical → t.canonical) ∧ s.now ≤ t.now

/-- The state after reset: STAGE, FAIL, BUSY and HWFAIL are 0 and HWLIM is 20 (R420, R421); every cluster's rails are on and good and every
other register of it is 0 (R428); no queue is enabled (R363), nothing is placed, and the special registers of every context hold the
reset values of R241, S_BUDGET that of R100. Memory is canonical and lists nothing, so that every word reads 0 and EMPTY: the model's choice
(log 3). -/
def Obligations.ResetHoldsItsValues : Prop :=
  State.reset.canonical ∧ State.reset.mem = [] ∧ State.reset.full = []
    ∧ State.reset.core.mgmt.stage = 0 ∧ State.reset.core.mgmt.fail = 0 ∧ State.reset.core.mgmt.busy = false
    ∧ State.reset.core.mgmt.hwfail = 0 ∧ State.reset.core.mgmt.hwlim = 20 ∧ State.reset.core.regions = [] ∧ State.reset.core.hostq = []
    ∧ (∀ c x, mapGet {} c State.reset.clusters = x → x.on = 3 ∧ x.good = 3 ∧ x.req = false ∧ x.seqerr = false ∧ x.busy = false
        ∧ x.ack = false ∧ x.addr = 0 ∧ x.done = false ∧ x.err = false ∧ x.gate = false ∧ x.gated = false ∧ x.wakeDone = false
        ∧ x.wakeErr = false)
    ∧ State.reset.core.parkBase = 0
    ∧ ∀ t c x, State.reset.work.ctx t c = x → x.status = .idle ∧ x.budget = 0x101FF ∧ x.fpflags = 0 ∧ x.dseg = 0 ∧ x.seedlog = 0
        ∧ x.rkey = 0 ∧ x.rstream = 0 ∧ x.utvec = 0 ∧ x.ucause = 0 ∧ x.uepc = 0 ∧ x.ueinfo = 0 ∧ x.cause = 0 ∧ x.epc = 0 ∧ x.einfo = 0
        ∧ x.estat = 0 ∧ x.scratch = 0

/-- R235, R241, R242: an MTS that commits writes the bits of its register that its mode may write, and leaves every other special register,
every global register and memory; S_ASID and S_MODE stay in task mode; S_PARKBASE applies package-wide. (No mark of the walker waits for a
claim to end.) -/
def Sys2Proof.Claims.CommitWritesSpecialRegisters : Prop :=
  ∀ (s : State) (t c i id : Nat) (b : Block) (x : ExitFired) (v : Word), flying s t c b → mayCommit b x → b.mems = [] →
    b.effs = [(i, .mts id v)] → i < b.words.length → s.core.marks = [] → b.writes = [] → b.flags = 0 → x.kind = .branch →
    ∃ u, exec (.blockEnd t c) s = .next u ∧ u.mem = s.mem ∧ u.full = s.full ∧ sameRegs (u.work.ctx t c) (s.work.ctx t c)
      ∧ (u.work.ctx t c).pc = x.dest ∧ (u.work.ctx t c).fw = (s.work.ctx t c).fw ∧ otherContexts s u t c
      ∧ (∀ m, writtenBits (s.work.ctx t c).fw id = some m → specialRegister (u.work.ctx t c) id = some (v &&& m))
      ∧ (writtenBits (s.work.ctx t c).fw id = none → ∀ n, specialRegister (u.work.ctx t c) n = specialRegister (s.work.ctx t c) n)
      ∧ (∀ n, n ≠ id → specialRegister (u.work.ctx t c) n = specialRegister (s.work.ctx t c) n)
      ∧ u.core.parkBase = (if id = 0x806 then v else s.core.parkBase)

/-- R139, R152, R153: in task mode a sound block that is marked firmware, or that names a global register from g112 upward, or that holds
ERET or an MFS or MTS of an identifier from 0x800 upward, is refused with PRIV; in firmware mode its privileges refuse nothing. -/
def Sys2Proof.Claims.TaskModeRefusesFirmwareBlocks : Prop :=
  ∀ (p : Parts), p.sized = true → p.h0 / 2 ^ 9 % 2 ^ 4 = 0 → p.h1 / 2 ^ 6 % 2 ^ 26 = 0 → (∀ e ∈ p.writes, e / 2 ^ 7 % 2 = 0) →
    (∀ w ∈ p.words, wordIllegal w = false ∧ wordReserved w = false) → (∀ e ∈ p.reads, targetClass (p.words.filterMap decode) p.nw (e % 512) ≠ 5) →
    (p.fw = true → blockRefusal true p = some (0x12, 0x7F))
    ∧ (p.fw = false → ((∃ e ∈ p.reads, 112 ≤ e / 512) ∨ ∃ e ∈ p.writes, 112 ≤ e % 128) → blockRefusal true p = some (0x12, 0x7F))
    ∧ (p.fw = false → (∀ e ∈ p.reads, e / 512 < 112) → (∀ e ∈ p.writes, e % 128 < 112) →
        ∀ j w i, p.words[j]? = some w → decode w = some i →
          (match i with | .eret _ => True | .mfs _ id _ => 0x800 ≤ id.toNat | .mts _ id => 0x800 ≤ id.toNat | _ => False) →
          (∀ k w' i', k < j → p.words[k]? = some w' → decode w' = some i' → firmwareOnly i' = false) →
          blockRefusal true p = some (0x12, BitVec.ofNat 64 j))
    ∧ (p.fw = true → ∀ r, blockRefusal false p = some r → r.1 = 0x03)

/-! ### Statements of several parts -/

/-- R185, R208: an instruction of the two-operand integer table that may fire completes with the table's result one clk later, and with no
other change: no flag, no trap, no register, no memory. Its word has op 0x01 and the table's xop; values 19 to 31 are unassigned. R186,
R208: the multiply and divide instructions complete with the rule's value, the corner cases of division among them, and with no other
change: no flag, no trap. Their words have op 0x02 and the rule's xop; values 13 to 31 are unassigned. -/
def Obligations.IntegerArithmeticAndDivide : Prop := Claims.IntegerArithmeticCompletes ∧ Claims.MultiplyDivideCompletes

/-- R187: each one-operand instruction completes with the one value that the rule describes. R188, R190, R193, R194: immediates, address
arithmetic, constants and moves. R189: EXT, EXTS and INS complete with the field of `len` bits at `pos`, for every field inside 64 bits: EXT
reads it, EXTS extends its top bit, INS replaces it and keeps every other bit. -/
def Obligations.OneOperandImmediateAndBitFields : Prop := Claims.OneOperandCompletes ∧ Claims.ImmediateAndMoveCompletes ∧ Claims.BitFieldCompletes

/-- R205, R206: minimum and maximum, sign operations, classification and comparison, for both widths and every operand. R207, R60: the
conversions to integers round in their mode and saturate, for every operand. -/
def Obligations.FloatSelectCompareAndConvert : Prop := Claims.FloatSelectAndCompare ∧ Claims.FloatToIntegerCompletes

/-- R197, R198, R237: an exit that fires names the next block: for BR and CALL the block's address plus sixteen times the offset, mod 2^72;
for BRI, CALLI and RET the operand, with bits [71:64] of the block's address. HALT and ERET are exits too. R198: a misaligned indirect exit
traps ALIGN at its own index, and has fired all the same. R182: a second exit that has fired breaks a rule, BLOCK_FORMAT with REASON 3,
which the block then holds; of the two the second is the one of the higher index, so that the order in which they fire has no effect (R179;
the model's reading, log 48). -/
def Obligations.ExitsFireOrTrap : Prop := Claims.ExitsComplete ∧ Claims.ExitsThatTrap

/-- R235, R241, R242: MFS delivers the register as it stands at the firing (S_FPFLAGS: once the context's wide instructions have been
applied, R327): those that the context holds, S_TILE with its die, tile slot and number, S_CTX with its mode, whether it is the main
context, and its number, S_CYCLE, and S_PARKBASE, which is the package's. R199: BADR delivers the address of a block. R239: RNEXT delivers
Philox4x32-10 of S_RKEY, S_RSTREAM and its operand. R235, R222: MTS and FENCE act at commit: at their firing the block takes up the write,
or the fence. R236: TRAP traps TRAP (0x11) at its index, with its code in S_EINFO. R234: PAUSE waits `units` × 16 clk. -/
def Obligations.SpecialReadsAndSystemInstructions : Prop := Claims.SpecialReadsComplete ∧ Claims.SystemInstructionsComplete

/-- R216, R209, R210, R95: a plain load, a test, or a waiting or consuming load of a FULL word, in a block without earlier accesses and
outside the control window, delivers the bytes at its address, extended; a consuming load claims its word and empties it at commit. The
result is due a clk later (log 12). R212: a load takes its bytes from an earlier store of its own block that wrote them, although memory
does not hold them yet. The result is due a clk later (log 12). -/
def Obligations.LoadsDeliver : Prop := Claims.LoadsComplete ∧ Claims.LoadSeesOwnStore

/-- R217, R211: a plain or clearing store, or a filling store of an EMPTY word that no other party claims or has reserved, performs: its
effect stands for commit at the physical address of its own bytes, with its data, and memory does not change before. A filling store claims
its word. R218 to R220: AMO and CAS deliver the old value, claim their word and leave their write for commit; RED leaves its operand, to be
applied at commit. In a deterministic task AMO and CAS trap (R221: DETERMINISM_ATOMIC; an AMO whose operation is FADD, FMIN or FMAX
DETERMINISM_FPRED), and so does a RED whose operation is one of those three, with DETERMINISM_FPRED. A result is due a clk later (log 12).
-/
def Obligations.StoresAndAtomicsTakeEffect : Prop := Claims.StoresComplete ∧ Claims.AtomicsComplete

/-- R228: QPUSH with room in its queue reads its record and claims one unit of capacity; the push itself is made at commit. QPOP claims the
oldest unclaimed hardware record, delivers its sequence number, and leaves the record's words and the pop for commit. A result is due a clk
later (log 12). R229: QPEEK delivers the number of the oldest unclaimed record and stores its words at commit without claiming it, or
delivers all ones when there is none. R230: QSTAT delivers the queue's counts, and 0 for a disabled queue. A result is due a clk later (log
12). R214, R225, R227 to R229: a push that commits takes the next sequence number; its record enters a hardware entry when the ring is empty
and an entry is free, and otherwise the next ring slot, by filling stores. A pop that commits frees its record's entry, and the oldest ring
record takes the place, its slot's words EMPTY again; the words that a pop or a peek writes are stored first. A QCFG that enables gives the
queue its owner, depth, record size and ring, with counts and SEQ 0 and every ring word 0 and EMPTY; one that disables leaves it disabled.
-/
def Obligations.QueuesPushPopPeek : Prop := Claims.QueuePushPopComplete ∧ Claims.QueuePeekStatComplete ∧ Claims.QueueEffectsCommit

/-- R227: QCFG enables a disabled queue with the depth, record size, ring and owner of its descriptor, or disables an empty queue, at
commit, and delivers 0; it delivers 1 for a queue that is already enabled, and 3 for one that another address space owns; it delivers 2 for
a descriptor whose ring size is 22 to 31, be it to enable or to disable: that 2 precedes 3 and 1 is the model's choice (log 57). A result is
due a clk later (log 12). R232, R384: CQPUSH with a place free reads its 8 words and holds a place of its die's combining queue until
commit. CQPOP, its buffer translated, waits for the next combining, at once due; R385: the combining serves it with the oldest unclaimed
record of its address space: it delivers the record's number and leaves its words and the pop for commit. That a CQPOP is served by the
combining alone, and that a place held for a push not yet committed counts as taken, is log 22; one combining takes place in a clk, and
serves records pushed before that clk. A result is due a clk later (log 12). R232, R384, R385: a CQPUSH that commits puts its record, with
its address space and the next sequence number, behind those of its die's combining queue, but before those that contexts of a higher number
pushed in the same clk; a CQPOP that commits empties its record's place and stores its words. -/
def Obligations.QueueConfigAndCombining : Prop := Claims.QueueConfigComplete ∧ Claims.CombiningQueueCompletes ∧ Claims.CombiningEffectsCommit

/-- R235, R241, R242: an MTS that commits writes the bits of its register that its mode may write, and leaves every other special register,
every global register and memory; S_ASID and S_MODE stay in task mode; S_PARKBASE applies package-wide. (No mark of the walker waits for a
claim to end.) R214, R222, R238, R240, R343, R354, R355, R359: at commit SPAWNC starts its context at the entry block, in the mode of the
spawner and with the task's registers, g2 the exit block and g3 the spawner's number; a FENCE stands for its context's next block; RSEED's
value is logged by a filling store; an engine command joins those in hand; FREE puts its block at the head of its list; POOLGROW makes the
chunk the pool's; CWSTORE records its entry as the most recently used, and CWINV removes the entries that its key names. -/
def Obligations.CommitWritesSpecialRegisters : Prop := Claims.CommitWritesSpecialRegisters ∧ Claims.OtherEffectsCommit

/-- R214, R217, R181: a block whose only effect is one store commits it: every byte that it stores reads as its data, and EVERY OTHER byte
of memory as before; a filling store leaves its word FULL, a clearing store EMPTY, a plain store as it was, and every other word's bit
stays. (The word is outside host memory and the control window, claimed by nobody else, and its line is not watched; no mark of the walker
waits for a claim to end.) R214, R212, R216, R218 to R220: a block whose only memory effect is a consuming load, an AMO, a CAS or a RED
commits it. A consuming load leaves its word EMPTY and no byte changed; an AMO writes the value that it computed, a CAS that matched its new
value and one that did not nothing; a RED applies its operation to the bytes that memory then holds. EVERY OTHER byte and every other word's
bit stays. (The word is outside host memory and the control window, claimed by nobody else, and its line is not watched; no mark of the
walker waits for a claim to end.) -/
def Obligations.CommitStores : Prop := Claims.CommitStores ∧ Claims.AtomicsCommit

/-- R139, R152, R153: in task mode a sound block that is marked firmware, or that names a global register from g112 upward, or that holds
ERET or an MFS or MTS of an identifier from 0x800 upward, is refused with PRIV; in firmware mode its privileges refuse nothing. R183, R215,
R395: a block that has ended with a trap recorded does not commit: no register, no flag, no word and no presence bit changes, and the trap
is taken at the block's address. (No two values raced into a slot of it, R179.) R183: of several trapping instructions the block reports the
one with the lowest index. R180, R183: a block that ends with nothing trapped but no exit fired traps BLOCK_FORMAT with REASON 7. -/
def Obligations.RefusedAndTrappedBlocks : Prop := Claims.TaskModeRefusesFirmwareBlocks ∧ Claims.TrappedBlockTakesTrap ∧ Claims.BlockReportsLowestIndex

/-- R101: a waiting load that tries its word again and finds it FULL delivers it. R213: an AMO held back by a claim acts when the claim has
ended. R106: a reservation that 4,096 clk have outlasted lapses. A result is due a clk later (log 12). R228: a QPUSH that waits, its record
read, pushes when its queue has room within its limit; when 16 × 2^LIM clk have passed it traps QTIMEOUT. R231: in a deterministic task it
traps DETERMINISM_ATOMIC when another context has become the queue's pusher. R233: WAIT tests its word again within its limit, and delivers
it or traps WAIT_TIMEOUT at its limit. R234: PAUSE delivers 0 when its clk have passed. A result of WAIT is due a clk later (log 12). -/
def Obligations.RetriesAndWaitsEnd : Prop := Claims.RetriesComplete ∧ Claims.WaitsComplete

/-- R312, R313: CFGLD and CFGSTRM, the staging claim free and their stream accepted by the Collator, hold the checked planes for commit,
with the stream bases that R115 has the load translate, and deliver the number of commands, BEGIN and END among them (for CFGLD, whose
stream the image makes, the model's reading, log 26). A result is due a clk later (log 12). R314: CFGSW in a region whose latest kettle has
reached every sink, with no arming since, no stranded operand and fewer than 65,535 switches, delivers the next phase number and switches at
commit. R315: CFGABORT of a region that cannot roll back clears the shadow at commit and delivers the phase; of one that can, and is
drained, it switches back and delivers the next phase with bit 63 set. The phases that switches at lower indices of the block will begin are
counted (log 49). A result is due a clk later (log 12). R157, R311, R314 to R318: at commit CFGLD and CFGSTRM replace the shadow planes of
the region's elements (an extent holds its entry as it then stands, R115), CFGSW exchanges the planes, under the next phase number, and a
CFGABORT that cannot roll back clears the shadow, one that can exchanges the planes and clears it; ARM gives every source its armings, DRAIN
every source a kettle of the next number, which every sink awaits; INJECT writes the lower half, or adds a flit of both halves to the CTL
input. The staging claim ends. -/
def Obligations.StagingSwitchAndAbort : Prop := Claims.StagingCompletes ∧ Claims.SwitchAndAbortComplete ∧ Claims.RegionEffectsCommit

/-- R316, R317: ARM within the task's limit delivers the number of its first arming, DRAIN the number of its kettle; both act at commit.
R318: INJECT of the lower half stands for commit, and of the upper half when the CTL input has a free slot, which it holds. The armings that
commits under way have still to make are counted (log 49). A result is due a clk later (log 12). R319, R320: SINKRD delivers the region's
counts and its status, or of an element the last flit that it kept, half by half, and with that flit's kind, tag and mask whether it is
valid. R317: KWAIT delivers the latest kettle's number once that kettle is at every sink, and 0 when none was injected; before, it waits. A
result is due a clk later (log 12). -/
def Obligations.ArmDrainInjectSinkrdKwait : Prop := Claims.ArmDrainInjectComplete ∧ Claims.SinkrdKwaitComplete

/-- R343, R346, R347, R349: a CPY or CPYFE whose descriptor has no reserved bit set, whose fields are aligned, and whose completion word can
be written, performs: its command stands for commit, and no memory has moved. R347: a CPY whose length is no multiple of 8 traps COPY_ALIGN
(0x0F), except in mode KEEPDEST. R343: a misaligned descriptor traps ALIGN, and a reserved word that is not 0 traps PROTECTION with subcode
3, S_EINFO naming the word. R350, R351, R360: IMPOSE, IMPREL and DGST, their descriptors sound and aligned, perform: their command stands
for commit. -/
def Obligations.CopyAndImposeCommandsIssue : Prop := Claims.CopyCommandsComplete ∧ Claims.CopyCommandsThatTrap ∧ Claims.ImposerAndDigestComplete

/-- R353: ALLOC of at most 2^20 bytes, the pool's list of the class not empty, takes its first block: HEAD becomes word 0 of the block, then
every word of the block is set to 0 with the bit of FULLINIT, and the block's address and 1 are delivered; of an exhausted pool ALLOC.n
delivers 0 and 0 and ALLOC.t traps ALLOC_EXHAUSTED, and nothing changes. A result is due a clk later (log 12). R354: FREE of a block that is
aligned for its class, and whose first word no poisoned line holds, stands for commit, and of 0 has no effect. R355: POOLGROW with a sound
base and length stands for commit. R357 to R359: with S_MODE.CW set, CWPROBE delivers 1 for a key that the directory holds, which becomes
the most recently used, and leaves the entry's eight words for commit; it delivers 0 for another. CWSTORE and CWINV stand for commit.
Without S_MODE.CW each traps PROTECTION with subcode 5. A result is due a clk later (log 12). -/
def Obligations.AllocatorAndCatchwords : Prop := Claims.AllocCompletes ∧ Claims.FreeAndGrowComplete ∧ Claims.CatchwordsComplete

/-- R346, R347: one event of a copy writes one destination word, its data the source's and its bit as the mode says, and nothing else; the
last event ends the command. R349: CPYFE writes 64 bits to one array word, or sets one word's bit. R360: the digest of one word is the
CRC-64 of its eight bytes and its bit, written to DEST by a filling store. (Commands that the engine has to itself, without completion word
for the copies.) R350: an IMPOSE of one key and one bin stores the two counts, which depend on the key alone. R344: a completion word that
waited is written when its word is EMPTY, and, its page unresolvable, is entered in the error log instead, as the command's engine and the
word's address, and raises the host error vector: its message leaves, or the vector is pending while it is masked (R408; that the package's
entry has this form is log 32). R348: a command that waits for a page goes on when firmware has made it resident. (Commands and completion
words that stand alone.) -/
def Obligations.EngineCommandsMove : Prop := Claims.CopiesAndDigestsMove ∧ Claims.ImposerAndCompletionsMove

/-- R325, R328: a wide register instruction that may be issued performs: it stands for commit, and nothing else changes. In a deterministic
task whose wide instructions another context of the tile issues it traps DET_ATOMIC. R341, R80: with every wide instruction committed
earlier on the tile applied, XSGN delivers the sign of an accumulator, and XRND its value rounded to FP64 in its mode, +0 for zero; class
NAN raises NV, an infinite class gives its infinity. Neither changes the accumulator. -/
def Obligations.WideRegistersAndAccumulatorsFire : Prop := Claims.WideRegistersFire ∧ Claims.AccumulatorReadsComplete

/-- R326, R334, R340: WLD and WST, every wide instruction committed earlier on the tile applied, XST and XLD, with every word that they
access aligned, translated and permitted, perform: they stand for commit with the words' addresses. R337, R338: WCFG with a sound stage
program, and WRUN with sound streams and a completion word that can be written, perform: they stand for commit with their descriptors. That
WRUN is checked against the installed program, which says which streams it selects, when its block ends, since an earlier WCFG of the block
may change the program, is log 22. -/
def Obligations.WideMemoryAndStreamsFire : Prop := Claims.WideMemoryFires ∧ Claims.StreamCommandsFire

/-- R331 to R333: applied, an arithmetic lane instruction gives each lane of its mask what the scalar instruction gives for that lane, in
RNE, and ORs the lanes' flags into S_FPFLAGS of the context that committed it. A lane outside the mask, and every other register, stays.
R333, R60: applied, a WCVT of a kind that no scalar instruction has (FP64 to BF16 or FP16; FP32 to or from BF16, FP16, E4M3, E5M2, with and
without saturation, and I32) converts each lane of its mask in RNE, with 0 above a narrow result, and ORs the lanes' flags into S_FPFLAGS of
the context that committed it. A lane outside the mask, and every other register, stays. -/
def Obligations.LaneArithmeticApplies : Prop := Claims.LaneArithmeticApplies ∧ Claims.NarrowConversionsApply

/-- R331: applied, WMOV copies the lanes of its mask, WSEL takes each lane from wa or wb as its mask says and writes every lane, and WSHUF
takes for each lane of its mask the lane of wa that the low four bits of wb name. R332: WCMP sets the bits of its mask as the scalar
comparison of R206 says, for the lanes of km, and k0 discards. R335: applied, WRED of no lane gives +0, plus infinity or minus infinity in
lane 0, of one lane that lane, of two what the scalar FADD, FMIN or FMAX gives for them. R336: WVAR of no lane, or of one with the sample
option, gives the canonical NaN and raises NV; of one finite lane, without it, +0. Lanes 1 to 15 and every other register stay. R335:
applied, WRED of any lanes gives in lane 0 what stands at the root of its tree of sums, minima or maxima, each rounded once in RNE, and the
flags of them all. R336, R86: WVAR of a row that holds a NaN or an infinity gives the canonical NaN and raises NV; of a finite row the
variance: the exact mean rounded once to FP64, the exact sum of the squares of the deviations, divided and rounded once in the row's format,
with the flags of that rounding. Lanes 1 to 15 and every other register stay. -/
def Obligations.LaneMovesAndReductionsApply : Prop := Claims.LaneMovesApply ∧ Claims.ReductionsApply ∧ Claims.RowsReduce

/-- R340, R78, R79: applied, XCLR, XMOV and XADD change their accumulator alone; XACC adds the exact sum of the products of the finite lanes
of its mask. R334, R340, R81, R337, R338: applied, WLD loads each of its words into its lane, WST stores its lanes in ascending order by
plain stores, XST stores the 69 words of its accumulator, XLD reads them back; WCFG replaces the stage program, and WRUN starts its run. -/
def Obligations.AccumulatorsAndWideMemoryApply : Prop := Claims.AccumulatorsApply ∧ Claims.WideMemoryApplies

/-- R325, R328: the wide instructions of a block that commits enter the tile's queue behind those that stand there; in a deterministic task
the context becomes the tile's only wide issuer. (No mark of the walker waits for a claim to end.) R339: one iteration of a run whose one
stage is ADD of its streams I0 and I1 in FP64: each lane's sum, rounded in RNE, is stored at the output stream's place by a write of its
word, its bit as OFORM says. A run whose iterations are done ends, and its completion word says how many there were. -/
def Obligations.WideQueueAndRuns : Prop := Claims.CommitQueuesWide ∧ Claims.RunsIterate

/-- R243, R245: the element whose turn it is fires. A firing that emits nothing leaves what its operation leaves, and the counter goes on
once the step is whole, which is the model's reading (log 27); a flit that it emits, every route that takes it having room, goes to the
channels of its routes. R68, R70 to R73: amid a stream a firing takes digit j of each operand and emits the digit that the operation's
formula gives, in a lane of FINITE operands that is alone. ADD and SUB emit digit k by transfers from the aligned digits k and k + 1 at j =
k + 2; MUL and FMA select digit k at j = k + 3, and DIV and SQRT at j = n − 1 + k + 4, from the exact residual of R72; PASS and NEG (R251)
emit digit j. R69 to R72, R249, R251: the firing that takes a lane's FINITE heads emits nothing and makes its head known: the operation's
scale, zero sign and precision, and A's sequence tag; it leaves in the next firing. R77, R271, R272: the eighth, sixteenth … step of an MMA
of 8-bit integers, dense and without scales, adds to every held sum its chunk of sixteen products, modulo 2^32, its operands read row by row
from the flits buffered. R273: a drain whose sums are final forms M × N ÷ 4 flits of four sums, row by row, and the first leaves. R282 to
R286: an MB slot of a 32-bit integer type that holds a group of one position updates the word at its offset alone: RADD adds modulo 2^32,
RMIN and RMAX keep the least and the greatest, RAND, ROR and RXOR combine the bits, FADDR adds and SWPR stores, and these two send the old
value. R282: an offset beyond the direct window, in another bank or out of alignment changes no byte and is recorded. R299, R301, R302,
R305: a TRIM of 32-bit lanes keeps the values of A whose lane of B is valid and nonzero (zero with INV); SEQ counts its lanes on from its
issue number and closes with LAST; a COLO that its flit completes sends a colophon with LAST behind it; KETTLE drops what it takes; DIGEST
passes a flit on and folds its 18 bytes into its CRC. -/
def Obligations.ElementsFire : Prop := Claims.ElementsFire ∧ Claims.OnlineDigitsAreSelected ∧ Claims.OnlineHeadsFollow ∧ Claims.MatrixElementsSum ∧ Claims.BanksUpdate ∧ Claims.UtilitiesPass

/-- R265, R266: a kill that reaches its producer while the stream that it names is open makes that route dead, and the other routes go on;
it comes after the flits that decisions at the route's end still count (the model's reading of R270, log 19). It has no effect on a stream
that is over. R244, R266: an input that is discarded drops the flits of its stream, one in a clk, and its colophon ends that. R258, R273:
when the period that a firing of a LUTF, or of a matrix element, took has passed, the element may fire again. R279: a flit that has been its
latency in the slots of a crossing enters its input when there is room. -/
def Obligations.KillsPeriodsAndCrossings : Prop := Claims.KillsAct ∧ Claims.PeriodsAndCrossingsEnd

/-- R362, R363: with the host port open, a write of Q_TAIL sets TAIL; a write of Q_CTL that enables a disabled queue sets HEAD and TAIL to
0, one that leaves an enabled queue enabled is ignored, and one that clears ENABLE is made. R363 to R365: the Sequencer of a die reads the
entry at the head of its queue and advances HEAD; a sound entry queues a replay of its graph, with the queue's ASID, VAH and PRIO and its
completion word; a refused entry without COMP leaves memory and replays alone. -/
def Obligations.QueuesAndSubmissions : Prop := Claims.QueueRegistersTakeWrites ∧ Claims.SubmissionsAreTaken

/-- R367: the start of a replay whose descriptor and node list are sound makes it live, with its nodes, its GRAPHID and its report area.
R367, R372: its end, with nothing of it ready or running and no completion word asked for, takes it away. R368, R370, R372: a node that has
run without error, and whose engine commands, completion words and token stores have performed (R19, R124 rule 8), has its STATUS written,
and, without successors, leaves; a node in no gang that ends in error fails its graph with its cause. -/
def Obligations.ReplaysAndNodesEnd : Prop := Claims.ReplaysStartAndEnd ∧ Claims.NodesFinish

/-- R420: a host load of BAR 2 changes nothing and returns the bytes; a store writes its bytes alone and no presence bit; an access at or
above 0x78_0000_0000, or before STAGE is 3 (R426), is an Unsupported Request. View 0 of the aperture does the same at the window that M_PWIN
selects, and view 3 returns the presence bit and ignores writes; in views 1 to 3 an access of another size than 8 bytes is an Unsupported
Request. (What is open before STAGE 3: the model's reading, log 35.) R420: in views 1 and 2 of the aperture a waiting load of a FULL word
returns it, a consuming load leaves it EMPTY, a filling store of an EMPTY word leaves it FULL, a clearing store leaves it EMPTY; what cannot
be made waits; at the end of its limit, 16 × 2^HWLIM clk, a read returns all ones, a write is dropped, and HWFAIL counts. -/
def Obligations.HostReachesMemory : Prop := Claims.HostAccessesMemory ∧ Claims.PresenceApertureActs

/-- R421: a host command sets BUSY and runs: command 6 sets HWLIM, command 4 clears a fence, command 1 pre-empts the task of the node that
M_ARG names (R404, R405) or is refused, command 2 ends a halted graph or is refused, other codes are refused; with STAGE = 0xF only code 5
is taken; while BUSY is set a write of M_CMD is ignored. R414: command 3 writes a report after the nonce, with the security version, two
bytes of 0 and the LMS leaf used (the report's length of 2,100 bytes and its bounds are the model's, log 15). The registers that hold the
notice are the model's reading (log 31). R421, R422: a command that completes leaves its answer in M_RESP, clears BUSY and raises vector 1;
a read of M_STATUS returns HWFAIL, STAGE and FAIL and clears HWFAIL; a masked vector that is pending is delivered on unmask. R427: recovery
with an image at M_ARG that verifies restarts the boot with it; a refused image leaves STAGE at 0xF with ERR and CAUSE 0x13. How many bytes
the image has is an argument of the event (log 37). While BUSY is set a write of M_CMD is ignored. -/
def Obligations.ManagementCommandsRunAndComplete : Prop := Claims.CommandsRun ∧ Claims.CommandsComplete

/-- R419, R421: with the host port open, a write of BAR 0 sets M_ARG, M_PWIN, an MSI-X address; an offset that R419 does not list ignores
it; with the port closed the write is an Unsupported Request (R426). R417: a posted store to the control window sets M_ARG and M_PWIN. R425:
a frame on a channel of a link that is up joins the channel's flits, in order, under 64 credits; firmware binds a channel to a local and a
peer ASID. 00 R3: throttling changes no count in clk. (The MSI-X layout is PRESUMED, log 9; what is open when, log 35, and a frame's
handling, log 41, are the model's readings.) -/
def Obligations.RegistersLinksAndClocks : Prop := Claims.RegisterWritesAct ∧ Claims.LinksAndClocksAct

/-- R426: the boot passes its stages in order, raising vector 1; its second step leaves every word of HBM user memory outside the retired
pages, and of every stash, at data 0 and EMPTY; a failure sets STAGE to 0xF and FAIL, and raises vector 1 if MSI-X is enabled. R412, R413:
firmware is refused with code 1 where no key verifies both its signatures, and with code 2 where its security version is below the fused
one. Until STAGE is 3 a configuration request is retried. R416: a Function Level Reset ends the placed task and clears ENABLE of every host
queue; HWLIM is 20 (R420). R409, R426: a device reset leaves STAGE at 0, no task, no node, every context and cluster register as at reset,
and fences as they stood. That memory keeps its contents until the boot is the model's choice (log 3); so is which stage reports which code
(log 37), and no key stands at reset (log 5). -/
def Obligations.BootAndResets : Prop := Claims.BootPasses ∧ Claims.ResetsAct
end

