-- ==== Sys2Proof/Laws/State.lean ====
section
/-! SUPPORT. One lemma per field and update of the state, and what reads see after an update. -/

namespace Sys2Proof

/-! ### Sparse maps and lists -/

@[simp] theorem mapGet_mapSet_same {α : Type} (d : α) (k : Nat) (a : α) (m : List (Nat × α)) : mapGet d k (mapSet k a m) = a := by
  induction m with
  | nil => simp [mapSet, mapGet]
  | cons e m ih =>
    obtain ⟨j, b⟩ := e
    unfold mapSet
    split
    · simp [mapGet]
    · split
      · simp [mapGet]
      · rename_i h _
        have hne : (j == k) = false := by simp only [beq_eq_false_iff_ne, ne_eq]; intro e; exact h (by simp [e])
        simp [mapGet, hne, ih]

theorem mapGet_mapSet_other {α : Type} (d : α) (k j : Nat) (a : α) (m : List (Nat × α)) (h : j ≠ k) :
    mapGet d j (mapSet k a m) = mapGet d j m := by
  have hkj : (k == j) = false := by simp only [beq_eq_false_iff_ne, ne_eq]; omega
  induction m with
  | nil => simp [mapSet, mapGet, hkj]
  | cons e m ih =>
    obtain ⟨i, b⟩ := e
    unfold mapSet
    split
    · rename_i hki
      have hki : k = i := by simpa using hki
      subst hki
      simp [mapGet, hkj]
    · split
      · simp [mapGet, hkj]
      · simp only [mapGet, ih]

theorem mapFind_mapSet_same {α : Type} (k : Nat) (a : α) (m : List (Nat × α)) : mapFind k (mapSet k a m) = some a := by
  induction m with
  | nil => simp [mapSet, mapFind]
  | cons e m ih =>
    obtain ⟨j, b⟩ := e
    unfold mapSet
    split
    · simp [mapFind]
    · split
      · simp [mapFind]
      · rename_i h _
        have hne : (j == k) = false := by simp only [beq_eq_false_iff_ne, ne_eq]; intro e; exact h (by simp [e])
        simp [mapFind, hne, ih]

@[simp] theorem mapSet_mapSet {α : Type} (k : Nat) (a b : α) (m : List (Nat × α)) : mapSet k a (mapSet k b m) = mapSet k a m := by
  induction m with
  | nil => simp [mapSet]
  | cons e m ih =>
    obtain ⟨j, c⟩ := e
    by_cases h : k = j
    · simp [mapSet, h]
    · by_cases h' : k < j <;> simp [mapSet, h, h', ih]

@[simp] theorem listModify_length {α : Type} (f : α → α) (i : Nat) (xs : List α) : (listModify f i xs).length = xs.length := by
  induction xs generalizing i with
  | nil => cases i <;> rfl
  | cons x xs ih => cases i <;> simp [listModify, ih]

theorem listGet_listModify_same {α : Type} (d : α) (f : α → α) (i : Nat) (xs : List α) (h : i < xs.length) :
    listGet d i (listModify f i xs) = f (listGet d i xs) := by
  induction xs generalizing i with
  | nil => simp at h
  | cons x xs ih =>
    cases i with
    | zero => rfl
    | succ i => exact ih i (by simpa using h)

theorem listGet_listModify_other {α : Type} (d : α) (f : α → α) (i j : Nat) (xs : List α) (h : j ≠ i) :
    listGet d j (listModify f i xs) = listGet d j xs := by
  induction xs generalizing i j with
  | nil => cases i <;> rfl
  | cons x xs ih =>
    cases i with
    | zero =>
      cases j with
      | zero => exact absurd rfl h
      | succ j => rfl
    | succ i =>
      cases j with
      | zero => rfl
      | succ j => exact ih i j (by omega)

namespace Machine

/-! ### State.put and State.lift -/

@[simp] theorem State.put_sched (s : State) (w : Work) : (s.put w).sched = s.sched := rfl
@[simp] theorem State.put_focus (s : State) (w : Work) : (s.put w).focus = s.focus := rfl
@[simp] theorem State.put_now (s : State) (w : Work) : (s.put w).now = s.now := rfl
@[simp] theorem State.put_clusters (s : State) (w : Work) : (s.put w).clusters = s.clusters := rfl
@[simp] theorem State.put_core (s : State) (w : Work) : (s.put w).core = w.core := rfl
@[simp] theorem State.put_mem (s : State) (w : Work) : (s.put w).mem = applyMem s.mem w.log := rfl
@[simp] theorem State.put_full (s : State) (w : Work) : (s.put w).full = applyFull s.full w.log := rfl
@[simp] theorem State.work_mem (s : State) : s.work.mem = s.mem := rfl
@[simp] theorem State.work_full (s : State) : s.work.full = s.full := rfl
@[simp] theorem State.work_log (s : State) : s.work.log = [] := rfl
@[simp] theorem State.work_now (s : State) : s.work.now = s.now := rfl
@[simp] theorem State.work_focus (s : State) : s.work.focus = s.focus := rfl
@[simp] theorem State.work_core (s : State) : s.work.core = s.core := rfl
@[simp] theorem State.work_clusters (s : State) : s.work.clusters = s.clusters := rfl

namespace Work

/-! ### Tiles and contexts -/

@[simp] theorem setTile_mem (w : Work) (t : Nat) (x : Tile) : (w.setTile t x).mem = w.mem := rfl
@[simp] theorem setTile_full (w : Work) (t : Nat) (x : Tile) : (w.setTile t x).full = w.full := rfl
@[simp] theorem setTile_log (w : Work) (t : Nat) (x : Tile) : (w.setTile t x).log = w.log := rfl
@[simp] theorem setTile_now (w : Work) (t : Nat) (x : Tile) : (w.setTile t x).now = w.now := rfl
@[simp] theorem setTile_focus (w : Work) (t : Nat) (x : Tile) : (w.setTile t x).focus = w.focus := rfl
@[simp] theorem setTile_clusters (w : Work) (t : Nat) (x : Tile) : (w.setTile t x).clusters = w.clusters := rfl
@[simp] theorem tile_setTile_same (w : Work) (t : Nat) (x : Tile) : (w.setTile t x).tile t = x := mapGet_mapSet_same _ _ _ _
theorem tile_setTile_other (w : Work) (t u : Nat) (x : Tile) (h : u ≠ t) : (w.setTile t x).tile u = w.tile u :=
  mapGet_mapSet_other _ _ _ _ _ h

@[simp] theorem setCtx_mem (w : Work) (t c : Nat) (x : Ctx) : (w.setCtx t c x).mem = w.mem := rfl
@[simp] theorem setCtx_full (w : Work) (t c : Nat) (x : Ctx) : (w.setCtx t c x).full = w.full := rfl
@[simp] theorem setCtx_log (w : Work) (t c : Nat) (x : Ctx) : (w.setCtx t c x).log = w.log := rfl
@[simp] theorem setCtx_now (w : Work) (t c : Nat) (x : Ctx) : (w.setCtx t c x).now = w.now := rfl
@[simp] theorem setCtx_focus (w : Work) (t c : Nat) (x : Ctx) : (w.setCtx t c x).focus = w.focus := rfl
@[simp] theorem setCtx_clusters (w : Work) (t c : Nat) (x : Ctx) : (w.setCtx t c x).clusters = w.clusters := rfl
@[simp] theorem ctx_setCtx_same (w : Work) (t c : Nat) (x : Ctx) : (w.setCtx t c x).ctx t c = x := by simp [ctx, setCtx]
theorem ctx_setCtx_tile (w : Work) (t c u d : Nat) (x : Ctx) (h : u ≠ t) : (w.setCtx t c x).ctx u d = w.ctx u d := by
  simp [ctx, setCtx, tile_setTile_other _ _ _ _ h]
theorem ctx_setCtx_ctx (w : Work) (t c d : Nat) (x : Ctx) (h : d ≠ c) : (w.setCtx t c x).ctx t d = w.ctx t d := by
  simp [ctx, setCtx, mapGet_mapSet_other _ _ _ _ _ h]

/-! ### The block in focus -/

@[simp] theorem setBlock_mem (w : Work) (b : Block) : (w.setBlock b).mem = w.mem := rfl
@[simp] theorem setBlock_full (w : Work) (b : Block) : (w.setBlock b).full = w.full := rfl
@[simp] theorem setBlock_log (w : Work) (b : Block) : (w.setBlock b).log = w.log := rfl
@[simp] theorem setBlock_now (w : Work) (b : Block) : (w.setBlock b).now = w.now := rfl
@[simp] theorem setBlock_focus (w : Work) (b : Block) : (w.setBlock b).focus = w.focus := rfl
@[simp] theorem setBlock_clusters (w : Work) (b : Block) : (w.setBlock b).clusters = w.clusters := rfl
@[simp] theorem block_setBlock (w : Work) (b : Block) : (w.setBlock b).block = some b := by simp [block, setBlock]
@[simp] theorem me_setBlock (w : Work) (b : Block) : (w.setBlock b).me = { w.me with block := some b } := by
  simp [me, setBlock]

@[simp] theorem setBlock_setBlock (w : Work) (a b : Block) : (w.setBlock a).setBlock b = w.setBlock b := by
  simp [setBlock, setCtx, setTile, ctx, tile]

theorem onBlock_log (w : Work) (f : Block → Block) : (w.onBlock f).log = w.log := by unfold onBlock; split <;> rfl
theorem onBlock_of {w : Work} {b : Block} (h : w.block = some b) (f : Block → Block) : w.onBlock f = w.setBlock (f b) := by
  simp [onBlock, h]

end Work

/-! ### Registers (09 R184) -/

@[simp] theorem Ctx.reg_zero (c : Ctx) : c.reg 0 = 0 := rfl
@[simp] theorem Ctx.setReg_zero (c : Ctx) (v : Word) : c.setReg 0 v = c := rfl
theorem Ctx.reg_setReg_same (c : Ctx) (n : Nat) (v : Word) (h : n ≠ 0) : (c.setReg n v).reg n = v := by simp [Ctx.reg, Ctx.setReg, h]
theorem Ctx.reg_setReg_other (c : Ctx) (m n : Nat) (v : Word) (h : m ≠ n) : (c.setReg n v).reg m = c.reg m := by
  unfold Ctx.reg Ctx.setReg
  split
  · rfl
  · split
    · rfl
    · exact mapGet_mapSet_other _ _ _ _ _ h

/-! ### Blocks -/

@[simp] theorem Block.setPhase_words (b : Block) (i : Nat) (p : Phase) : (b.setPhase i p).words = b.words := rfl
@[simp] theorem Block.setPhase_inflight (b : Block) (i : Nat) (p : Phase) : (b.setPhase i p).inflight = b.inflight := rfl
@[simp] theorem Block.setPhase_mems (b : Block) (i : Nat) (p : Phase) : (b.setPhase i p).mems = b.mems := rfl
@[simp] theorem Block.setPhase_effs (b : Block) (i : Nat) (p : Phase) : (b.setPhase i p).effs = b.effs := rfl
@[simp] theorem Block.setPhase_waits (b : Block) (i : Nat) (p : Phase) : (b.setPhase i p).waits = b.waits := rfl
@[simp] theorem Block.setPhase_traps (b : Block) (i : Nat) (p : Phase) : (b.setPhase i p).traps = b.traps := rfl
@[simp] theorem Block.setPhase_exits (b : Block) (i : Nat) (p : Phase) : (b.setPhase i p).exits = b.exits := rfl
@[simp] theorem Block.setPhase_flags (b : Block) (i : Nat) (p : Phase) : (b.setPhase i p).flags = b.flags := rfl
@[simp] theorem Block.setPhase_held (b : Block) (i : Nat) (p : Phase) : (b.setPhase i p).held = b.held := rfl

theorem Block.inst_setPhase_same (b : Block) (i : Nat) (p : Phase) (h : i < b.insts.length) :
    (b.setPhase i p).inst i = { b.inst i with phase := p } := listGet_listModify_same _ _ _ _ h

theorem Block.inst_setPhase_other (b : Block) (i j : Nat) (p : Phase) (h : j ≠ i) : (b.setPhase i p).inst j = b.inst j :=
  listGet_listModify_other _ _ _ _ _ h

end Machine

end Sys2Proof
end

