-- ==== Sys2Proof/Laws/Outcomes.lean ====
section
/-! SUPPORT. What every meaning can do: it answers a next state that its log and its core give, or it is not enabled. One lemma per
shared way of answering. -/

namespace Sys2Proof.Machine

open Sys2Proof

/-- The state moves by a log of memory changes; the schedule, the focus and the clk stay. -/
def Moves (s t : State) : Prop :=
  ∃ log, t.mem = applyMem s.mem log ∧ t.full = applyFull s.full log ∧ t.sched = s.sched ∧ t.now = s.now ∧ t.focus = s.focus

theorem put_moves (s : State) (w : Work) : Moves s (s.put w) := ⟨w.log, rfl, rfl, rfl, rfl, rfl⟩

theorem putPower_moves (s : State) (w : Work) : Moves s (s.putPower w) := ⟨w.log, rfl, rfl, rfl, rfl, rfl⟩

theorem lift_moves (s : State) (f : Work → Work) : Moves s (s.lift f) := put_moves s _

/-- What a meaning answers: a move, or nothing. -/
def Answers (s : State) (o : Host.Outcome State Fault Refusal) : Prop :=
  (∃ t, o = .next t ∧ Moves s t) ∨ o = .fault .notEnabled

theorem happen_answers (f : Work → Option Work) (s : State) : Answers s (happen f s) := by
  unfold happen
  split
  · exact .inr rfl
  · exact .inl ⟨_, rfl, put_moves s _⟩

theorem happenPower_answers (f : Work → Option Work) (s : State) : Answers s (happenPower f s) := by
  unfold happenPower
  split
  · exact .inr rfl
  · exact .inl ⟨_, rfl, putPower_moves s _⟩

theorem fireWith_answers (st : Option Nat) (sh : Shape) (act : Word → Word → Word → Work → Work) (s : State) :
    Answers s (fireWith st sh act s) := by
  unfold fireWith
  split
  · exact .inr rfl
  · split
    · exact .inr rfl
    · dsimp only
      split
      · exact .inl ⟨_, rfl, lift_moves s _⟩
      · split
        · exact .inl ⟨_, rfl, lift_moves s _⟩
        · exact .inl ⟨_, rfl, lift_moves s _⟩

theorem fire_answers (sh : Shape) (act : Word → Word → Word → Work → Work) (s : State) : Answers s (fire sh act s) :=
  fireWith_answers none sh act s

theorem fireAlu_answers (sh : Shape) (lat : Nat) (f : Word → Word → Word → Word) (s : State) : Answers s (fireAlu sh lat f s) :=
  fire_answers sh _ s

theorem fireMem_answers (l : Nat) (isStore : Bool) (sh : Shape) (act : Word → Word → Word → Work → Work) (s : State) :
    Answers s (fireMem l isStore sh act s) := by
  unfold fireMem
  split
  · exact .inr rfl
  · dsimp only
    split
    · exact .inr rfl
    · exact fireWith_answers _ sh act s

end Sys2Proof.Machine
end

