-- ==== Sys2Proof/Laws/Exec.lean ====
section
/-! SUPPORT. What each meaning can do: a move, or nothing (log 1). One lemma per constructor, then all. -/

namespace Sys2Proof.Machine

open Sys2Proof

theorem fireFp_answers (sh : Shape) (lat : Nat) (f : Word → Word → Word → FpResult) (s : State) : Answers s (fireFp sh lat f s) :=
  fire_answers sh _ s

theorem fireAccess_answers (sh : Shape) (act : Word → Word → Word → Work → Work) (s : State) : Answers s (fireAccess sh act s) := by
  unfold fireAccess
  split
  · exact .inr rfl
  · dsimp only
    split
    · exact .inr rfl
    · exact fire_answers sh act s

theorem fireStore_answers (sh : Shape) (act : Word → Word → Word → Work → Work) (s : State) : Answers s (fireStore sh act s) := by
  unfold fireStore
  split
  · exact .inr rfl
  · dsimp only
    split
    · exact .inr rfl
    · exact fireAccess_answers sh act s

theorem guarded_answers {c : Prop} [Decidable c] {s : State} {o : Host.Outcome State Fault Refusal} (h : Answers s o) :
    Answers s (if c then .fault .notEnabled else o) := by
  split
  · exact .inr rfl
  · exact h

theorem execAdd_answers (x0) (x1) (x2) (s) : Answers s (execAdd x0 x1 x2 s) := by
  unfold execAdd; exact fireAlu_answers _ _ _ _

theorem execSub_answers (x0) (x1) (x2) (s) : Answers s (execSub x0 x1 x2 s) := by
  unfold execSub; exact fireAlu_answers _ _ _ _

theorem execAnd_answers (x0) (x1) (x2) (s) : Answers s (execAnd x0 x1 x2 s) := by
  unfold execAnd; exact fireAlu_answers _ _ _ _

theorem execOr_answers (x0) (x1) (x2) (s) : Answers s (execOr x0 x1 x2 s) := by
  unfold execOr; exact fireAlu_answers _ _ _ _

theorem execXor_answers (x0) (x1) (x2) (s) : Answers s (execXor x0 x1 x2 s) := by
  unfold execXor; exact fireAlu_answers _ _ _ _

theorem execAndn_answers (x0) (x1) (x2) (s) : Answers s (execAndn x0 x1 x2 s) := by
  unfold execAndn; exact fireAlu_answers _ _ _ _

theorem execOrn_answers (x0) (x1) (x2) (s) : Answers s (execOrn x0 x1 x2 s) := by
  unfold execOrn; exact fireAlu_answers _ _ _ _

theorem execXnor_answers (x0) (x1) (x2) (s) : Answers s (execXnor x0 x1 x2 s) := by
  unfold execXnor; exact fireAlu_answers _ _ _ _

theorem execShl_answers (x0) (x1) (x2) (s) : Answers s (execShl x0 x1 x2 s) := by
  unfold execShl; exact fireAlu_answers _ _ _ _

theorem execShr_answers (x0) (x1) (x2) (s) : Answers s (execShr x0 x1 x2 s) := by
  unfold execShr; exact fireAlu_answers _ _ _ _

theorem execSar_answers (x0) (x1) (x2) (s) : Answers s (execSar x0 x1 x2 s) := by
  unfold execSar; exact fireAlu_answers _ _ _ _

theorem execRol_answers (x0) (x1) (x2) (s) : Answers s (execRol x0 x1 x2 s) := by
  unfold execRol; exact fireAlu_answers _ _ _ _

theorem execRor_answers (x0) (x1) (x2) (s) : Answers s (execRor x0 x1 x2 s) := by
  unfold execRor; exact fireAlu_answers _ _ _ _

theorem execMin_answers (x0) (x1) (x2) (s) : Answers s (execMin x0 x1 x2 s) := by
  unfold execMin; exact fireAlu_answers _ _ _ _

theorem execMax_answers (x0) (x1) (x2) (s) : Answers s (execMax x0 x1 x2 s) := by
  unfold execMax; exact fireAlu_answers _ _ _ _

theorem execMinu_answers (x0) (x1) (x2) (s) : Answers s (execMinu x0 x1 x2 s) := by
  unfold execMinu; exact fireAlu_answers _ _ _ _

theorem execMaxu_answers (x0) (x1) (x2) (s) : Answers s (execMaxu x0 x1 x2 s) := by
  unfold execMaxu; exact fireAlu_answers _ _ _ _

theorem execAddw_answers (x0) (x1) (x2) (s) : Answers s (execAddw x0 x1 x2 s) := by
  unfold execAddw; exact fireAlu_answers _ _ _ _

theorem execSubw_answers (x0) (x1) (x2) (s) : Answers s (execSubw x0 x1 x2 s) := by
  unfold execSubw; exact fireAlu_answers _ _ _ _

theorem execMul_answers (x0) (x1) (x2) (s) : Answers s (execMul x0 x1 x2 s) := by
  unfold execMul; exact fireAlu_answers _ _ _ _

theorem execMulh_answers (x0) (x1) (x2) (s) : Answers s (execMulh x0 x1 x2 s) := by
  unfold execMulh; exact fireAlu_answers _ _ _ _

theorem execMulhu_answers (x0) (x1) (x2) (s) : Answers s (execMulhu x0 x1 x2 s) := by
  unfold execMulhu; exact fireAlu_answers _ _ _ _

theorem execMulhsu_answers (x0) (x1) (x2) (s) : Answers s (execMulhsu x0 x1 x2 s) := by
  unfold execMulhsu; exact fireAlu_answers _ _ _ _

theorem execDiv_answers (x0) (x1) (x2) (s) : Answers s (execDiv x0 x1 x2 s) := by
  unfold execDiv; exact fireAlu_answers _ _ _ _

theorem execDivu_answers (x0) (x1) (x2) (s) : Answers s (execDivu x0 x1 x2 s) := by
  unfold execDivu; exact fireAlu_answers _ _ _ _

theorem execRem_answers (x0) (x1) (x2) (s) : Answers s (execRem x0 x1 x2 s) := by
  unfold execRem; exact fireAlu_answers _ _ _ _

theorem execRemu_answers (x0) (x1) (x2) (s) : Answers s (execRemu x0 x1 x2 s) := by
  unfold execRemu; exact fireAlu_answers _ _ _ _

theorem execMulw_answers (x0) (x1) (x2) (s) : Answers s (execMulw x0 x1 x2 s) := by
  unfold execMulw; exact fireAlu_answers _ _ _ _

theorem execDivw_answers (x0) (x1) (x2) (s) : Answers s (execDivw x0 x1 x2 s) := by
  unfold execDivw; exact fireAlu_answers _ _ _ _

theorem execDivuw_answers (x0) (x1) (x2) (s) : Answers s (execDivuw x0 x1 x2 s) := by
  unfold execDivuw; exact fireAlu_answers _ _ _ _

theorem execRemw_answers (x0) (x1) (x2) (s) : Answers s (execRemw x0 x1 x2 s) := by
  unfold execRemw; exact fireAlu_answers _ _ _ _

theorem execRemuw_answers (x0) (x1) (x2) (s) : Answers s (execRemuw x0 x1 x2 s) := by
  unfold execRemuw; exact fireAlu_answers _ _ _ _

theorem execClz_answers (x0) (x1) (x2) (s) : Answers s (execClz x0 x1 x2 s) := by
  unfold execClz; exact fireAlu_answers _ _ _ _

theorem execCtz_answers (x0) (x1) (x2) (s) : Answers s (execCtz x0 x1 x2 s) := by
  unfold execCtz; exact fireAlu_answers _ _ _ _

theorem execPopc_answers (x0) (x1) (x2) (s) : Answers s (execPopc x0 x1 x2 s) := by
  unfold execPopc; exact fireAlu_answers _ _ _ _

theorem execBrev_answers (x0) (x1) (x2) (s) : Answers s (execBrev x0 x1 x2 s) := by
  unfold execBrev; exact fireAlu_answers _ _ _ _

theorem execBswap_answers (x0) (x1) (x2) (s) : Answers s (execBswap x0 x1 x2 s) := by
  unfold execBswap; exact fireAlu_answers _ _ _ _

theorem execSextb_answers (x0) (x1) (x2) (s) : Answers s (execSextb x0 x1 x2 s) := by
  unfold execSextb; exact fireAlu_answers _ _ _ _

theorem execSexth_answers (x0) (x1) (x2) (s) : Answers s (execSexth x0 x1 x2 s) := by
  unfold execSexth; exact fireAlu_answers _ _ _ _

theorem execSextw_answers (x0) (x1) (x2) (s) : Answers s (execSextw x0 x1 x2 s) := by
  unfold execSextw; exact fireAlu_answers _ _ _ _

theorem execZextb_answers (x0) (x1) (x2) (s) : Answers s (execZextb x0 x1 x2 s) := by
  unfold execZextb; exact fireAlu_answers _ _ _ _

theorem execZexth_answers (x0) (x1) (x2) (s) : Answers s (execZexth x0 x1 x2 s) := by
  unfold execZexth; exact fireAlu_answers _ _ _ _

theorem execZextw_answers (x0) (x1) (x2) (s) : Answers s (execZextw x0 x1 x2 s) := by
  unfold execZextw; exact fireAlu_answers _ _ _ _

theorem execAddi_answers (x0) (x1) (x2) (s) : Answers s (execAddi x0 x1 x2 s) := by
  unfold execAddi; exact fireAlu_answers _ _ _ _

theorem execAndi_answers (x0) (x1) (x2) (s) : Answers s (execAndi x0 x1 x2 s) := by
  unfold execAndi; exact fireAlu_answers _ _ _ _

theorem execOri_answers (x0) (x1) (x2) (s) : Answers s (execOri x0 x1 x2 s) := by
  unfold execOri; exact fireAlu_answers _ _ _ _

theorem execXori_answers (x0) (x1) (x2) (s) : Answers s (execXori x0 x1 x2 s) := by
  unfold execXori; exact fireAlu_answers _ _ _ _

theorem execShli_answers (x0) (x1) (x2) (s) : Answers s (execShli x0 x1 x2 s) := by
  unfold execShli; exact fireAlu_answers _ _ _ _

theorem execShri_answers (x0) (x1) (x2) (s) : Answers s (execShri x0 x1 x2 s) := by
  unfold execShri; exact fireAlu_answers _ _ _ _

theorem execSari_answers (x0) (x1) (x2) (s) : Answers s (execSari x0 x1 x2 s) := by
  unfold execSari; exact fireAlu_answers _ _ _ _

theorem execMuli_answers (x0) (x1) (x2) (s) : Answers s (execMuli x0 x1 x2 s) := by
  unfold execMuli; exact fireAlu_answers _ _ _ _

theorem execExt_answers (x0) (x1) (x2) (x3) (s) : Answers s (execExt x0 x1 x2 x3 s) := by
  unfold execExt; exact fireAlu_answers _ _ _ _

theorem execExts_answers (x0) (x1) (x2) (x3) (s) : Answers s (execExts x0 x1 x2 x3 s) := by
  unfold execExts; exact fireAlu_answers _ _ _ _

theorem execIns_answers (x0) (x1) (x2) (x3) (s) : Answers s (execIns x0 x1 x2 x3 s) := by
  unfold execIns; exact fireAlu_answers _ _ _ _

theorem execLea1_answers (x0) (x1) (x2) (s) : Answers s (execLea1 x0 x1 x2 s) := by
  unfold execLea1; exact fireAlu_answers _ _ _ _

theorem execLea2_answers (x0) (x1) (x2) (s) : Answers s (execLea2 x0 x1 x2 s) := by
  unfold execLea2; exact fireAlu_answers _ _ _ _

theorem execLea4_answers (x0) (x1) (x2) (s) : Answers s (execLea4 x0 x1 x2 s) := by
  unfold execLea4; exact fireAlu_answers _ _ _ _

theorem execLea8_answers (x0) (x1) (x2) (s) : Answers s (execLea8 x0 x1 x2 s) := by
  unfold execLea8; exact fireAlu_answers _ _ _ _

theorem execLea16_answers (x0) (x1) (x2) (s) : Answers s (execLea16 x0 x1 x2 s) := by
  unfold execLea16; exact fireAlu_answers _ _ _ _

theorem execTeq_answers (x0) (x1) (x2) (s) : Answers s (execTeq x0 x1 x2 s) := by
  unfold execTeq; exact fireAlu_answers _ _ _ _

theorem execTne_answers (x0) (x1) (x2) (s) : Answers s (execTne x0 x1 x2 s) := by
  unfold execTne; exact fireAlu_answers _ _ _ _

theorem execTlt_answers (x0) (x1) (x2) (s) : Answers s (execTlt x0 x1 x2 s) := by
  unfold execTlt; exact fireAlu_answers _ _ _ _

theorem execTle_answers (x0) (x1) (x2) (s) : Answers s (execTle x0 x1 x2 s) := by
  unfold execTle; exact fireAlu_answers _ _ _ _

theorem execTgt_answers (x0) (x1) (x2) (s) : Answers s (execTgt x0 x1 x2 s) := by
  unfold execTgt; exact fireAlu_answers _ _ _ _

theorem execTge_answers (x0) (x1) (x2) (s) : Answers s (execTge x0 x1 x2 s) := by
  unfold execTge; exact fireAlu_answers _ _ _ _

theorem execTltu_answers (x0) (x1) (x2) (s) : Answers s (execTltu x0 x1 x2 s) := by
  unfold execTltu; exact fireAlu_answers _ _ _ _

theorem execTleu_answers (x0) (x1) (x2) (s) : Answers s (execTleu x0 x1 x2 s) := by
  unfold execTleu; exact fireAlu_answers _ _ _ _

theorem execTgtu_answers (x0) (x1) (x2) (s) : Answers s (execTgtu x0 x1 x2 s) := by
  unfold execTgtu; exact fireAlu_answers _ _ _ _

theorem execTgeu_answers (x0) (x1) (x2) (s) : Answers s (execTgeu x0 x1 x2 s) := by
  unfold execTgeu; exact fireAlu_answers _ _ _ _

theorem execTbs_answers (x0) (x1) (x2) (s) : Answers s (execTbs x0 x1 x2 s) := by
  unfold execTbs; exact fireAlu_answers _ _ _ _

theorem execTbc_answers (x0) (x1) (x2) (s) : Answers s (execTbc x0 x1 x2 s) := by
  unfold execTbc; exact fireAlu_answers _ _ _ _

theorem execTeqi_answers (x0) (x1) (x2) (s) : Answers s (execTeqi x0 x1 x2 s) := by
  unfold execTeqi; exact fireAlu_answers _ _ _ _

theorem execTnei_answers (x0) (x1) (x2) (s) : Answers s (execTnei x0 x1 x2 s) := by
  unfold execTnei; exact fireAlu_answers _ _ _ _

theorem execTlti_answers (x0) (x1) (x2) (s) : Answers s (execTlti x0 x1 x2 s) := by
  unfold execTlti; exact fireAlu_answers _ _ _ _

theorem execTlei_answers (x0) (x1) (x2) (s) : Answers s (execTlei x0 x1 x2 s) := by
  unfold execTlei; exact fireAlu_answers _ _ _ _

theorem execTgti_answers (x0) (x1) (x2) (s) : Answers s (execTgti x0 x1 x2 s) := by
  unfold execTgti; exact fireAlu_answers _ _ _ _

theorem execTgei_answers (x0) (x1) (x2) (s) : Answers s (execTgei x0 x1 x2 s) := by
  unfold execTgei; exact fireAlu_answers _ _ _ _

theorem execTltui_answers (x0) (x1) (x2) (s) : Answers s (execTltui x0 x1 x2 s) := by
  unfold execTltui; exact fireAlu_answers _ _ _ _

theorem execTgeui_answers (x0) (x1) (x2) (s) : Answers s (execTgeui x0 x1 x2 s) := by
  unfold execTgeui; exact fireAlu_answers _ _ _ _

theorem execGenc_answers (x0) (x1) (s) : Answers s (execGenc x0 x1 s) := by
  unfold execGenc; exact fireAlu_answers _ _ _ _

theorem execAppc_answers (x0) (x1) (s) : Answers s (execAppc x0 x1 s) := by
  unfold execAppc; exact fireAlu_answers _ _ _ _

theorem execMov_answers (x0) (x1) (x2) (s) : Answers s (execMov x0 x1 x2 s) := by
  unfold execMov; exact fireAlu_answers _ _ _ _

theorem execMovi_answers (x0) (x1) (x2) (s) : Answers s (execMovi x0 x1 x2 s) := by
  unfold execMovi; exact fireAlu_answers _ _ _ _

theorem execNull_answers (x0) (x1) (x2) (s) : Answers s (execNull x0 x1 x2 s) := by
  unfold execNull; exact fire_answers _ _ _

theorem execBr_answers (x0) (x1) (x2) (s) : Answers s (execBr x0 x1 x2 s) := by
  unfold execBr; exact fire_answers _ _ _

theorem execCall_answers (x0) (x1) (x2) (s) : Answers s (execCall x0 x1 x2 s) := by
  unfold execCall; exact fire_answers _ _ _

theorem execBadr_answers (x0) (x1) (x2) (s) : Answers s (execBadr x0 x1 x2 s) := by
  unfold execBadr; exact fire_answers _ _ _

theorem execBri_answers (x0) (x1) (s) : Answers s (execBri x0 x1 s) := by
  unfold execBri; exact fire_answers _ _ _

theorem execCalli_answers (x0) (x1) (s) : Answers s (execCalli x0 x1 s) := by
  unfold execCalli; exact fire_answers _ _ _

theorem execRet_answers (x0) (x1) (s) : Answers s (execRet x0 x1 s) := by
  unfold execRet; exact fire_answers _ _ _

theorem execFaddD_answers (x0) (x1) (x2) (x3) (s) : Answers s (execFaddD x0 x1 x2 x3 s) := by
  unfold execFaddD; exact fireFp_answers _ _ _ _

theorem execFsubD_answers (x0) (x1) (x2) (x3) (s) : Answers s (execFsubD x0 x1 x2 x3 s) := by
  unfold execFsubD; exact fireFp_answers _ _ _ _

theorem execFmulD_answers (x0) (x1) (x2) (x3) (s) : Answers s (execFmulD x0 x1 x2 x3 s) := by
  unfold execFmulD; exact fireFp_answers _ _ _ _

theorem execFdivD_answers (x0) (x1) (x2) (x3) (s) : Answers s (execFdivD x0 x1 x2 x3 s) := by
  unfold execFdivD; exact fireFp_answers _ _ _ _

theorem execFsqrtD_answers (x0) (x1) (x2) (x3) (s) : Answers s (execFsqrtD x0 x1 x2 x3 s) := by
  unfold execFsqrtD; exact fireFp_answers _ _ _ _

theorem execFmaD_answers (x0) (x1) (x2) (s) : Answers s (execFmaD x0 x1 x2 s) := by
  unfold execFmaD; exact fireFp_answers _ _ _ _

theorem execFmsD_answers (x0) (x1) (x2) (s) : Answers s (execFmsD x0 x1 x2 s) := by
  unfold execFmsD; exact fireFp_answers _ _ _ _

theorem execFnmaD_answers (x0) (x1) (x2) (s) : Answers s (execFnmaD x0 x1 x2 s) := by
  unfold execFnmaD; exact fireFp_answers _ _ _ _

theorem execFaddS_answers (x0) (x1) (x2) (x3) (s) : Answers s (execFaddS x0 x1 x2 x3 s) := by
  unfold execFaddS; exact fireFp_answers _ _ _ _

theorem execFsubS_answers (x0) (x1) (x2) (x3) (s) : Answers s (execFsubS x0 x1 x2 x3 s) := by
  unfold execFsubS; exact fireFp_answers _ _ _ _

theorem execFmulS_answers (x0) (x1) (x2) (x3) (s) : Answers s (execFmulS x0 x1 x2 x3 s) := by
  unfold execFmulS; exact fireFp_answers _ _ _ _

theorem execFdivS_answers (x0) (x1) (x2) (x3) (s) : Answers s (execFdivS x0 x1 x2 x3 s) := by
  unfold execFdivS; exact fireFp_answers _ _ _ _

theorem execFsqrtS_answers (x0) (x1) (x2) (x3) (s) : Answers s (execFsqrtS x0 x1 x2 x3 s) := by
  unfold execFsqrtS; exact fireFp_answers _ _ _ _

theorem execFmaS_answers (x0) (x1) (x2) (s) : Answers s (execFmaS x0 x1 x2 s) := by
  unfold execFmaS; exact fireFp_answers _ _ _ _

theorem execFmsS_answers (x0) (x1) (x2) (s) : Answers s (execFmsS x0 x1 x2 s) := by
  unfold execFmsS; exact fireFp_answers _ _ _ _

theorem execFnmaS_answers (x0) (x1) (x2) (s) : Answers s (execFnmaS x0 x1 x2 s) := by
  unfold execFnmaS; exact fireFp_answers _ _ _ _

theorem execFmin_answers (x0) (x1) (x2) (x3) (s) : Answers s (execFmin x0 x1 x2 x3 s) := by
  unfold execFmin; exact fireFp_answers _ _ _ _

theorem execFmax_answers (x0) (x1) (x2) (x3) (s) : Answers s (execFmax x0 x1 x2 x3 s) := by
  unfold execFmax; exact fireFp_answers _ _ _ _

theorem execFneg_answers (x0) (x1) (x2) (x3) (s) : Answers s (execFneg x0 x1 x2 x3 s) := by
  unfold execFneg; exact fireFp_answers _ _ _ _

theorem execFabs_answers (x0) (x1) (x2) (x3) (s) : Answers s (execFabs x0 x1 x2 x3 s) := by
  unfold execFabs; exact fireFp_answers _ _ _ _

theorem execFcpys_answers (x0) (x1) (x2) (x3) (s) : Answers s (execFcpys x0 x1 x2 x3 s) := by
  unfold execFcpys; exact fireFp_answers _ _ _ _

theorem execFclass_answers (x0) (x1) (x2) (x3) (s) : Answers s (execFclass x0 x1 x2 x3 s) := by
  unfold execFclass; exact fireFp_answers _ _ _ _

theorem execFteq_answers (x0) (x1) (x2) (x3) (s) : Answers s (execFteq x0 x1 x2 x3 s) := by
  unfold execFteq; exact fireFp_answers _ _ _ _

theorem execFtlt_answers (x0) (x1) (x2) (x3) (s) : Answers s (execFtlt x0 x1 x2 x3 s) := by
  unfold execFtlt; exact fireFp_answers _ _ _ _

theorem execFtle_answers (x0) (x1) (x2) (x3) (s) : Answers s (execFtle x0 x1 x2 x3 s) := by
  unfold execFtle; exact fireFp_answers _ _ _ _

theorem execFtun_answers (x0) (x1) (x2) (x3) (s) : Answers s (execFtun x0 x1 x2 x3 s) := by
  unfold execFtun; exact fireFp_answers _ _ _ _

theorem execFcvtDS_answers (x0) (x1) (x2) (s) : Answers s (execFcvtDS x0 x1 x2 s) := by
  unfold execFcvtDS; exact fireFp_answers _ _ _ _

theorem execFcvtSD_answers (x0) (x1) (x2) (x3) (s) : Answers s (execFcvtSD x0 x1 x2 x3 s) := by
  unfold execFcvtSD; exact fireFp_answers _ _ _ _

theorem execFcvtDI_answers (x0) (x1) (x2) (x3) (s) : Answers s (execFcvtDI x0 x1 x2 x3 s) := by
  unfold execFcvtDI; exact fireFp_answers _ _ _ _

theorem execFcvtDN_answers (x0) (x1) (x2) (x3) (s) : Answers s (execFcvtDN x0 x1 x2 x3 s) := by
  unfold execFcvtDN; exact fireFp_answers _ _ _ _

theorem execFcvtID_answers (x0) (x1) (x2) (x3) (s) : Answers s (execFcvtID x0 x1 x2 x3 s) := by
  unfold execFcvtID; exact fireFp_answers _ _ _ _

theorem execFcvtND_answers (x0) (x1) (x2) (x3) (s) : Answers s (execFcvtND x0 x1 x2 x3 s) := by
  unfold execFcvtND; exact fireFp_answers _ _ _ _

theorem execFcvtSI_answers (x0) (x1) (x2) (x3) (s) : Answers s (execFcvtSI x0 x1 x2 x3 s) := by
  unfold execFcvtSI; exact fireFp_answers _ _ _ _

theorem execFcvtIS_answers (x0) (x1) (x2) (x3) (s) : Answers s (execFcvtIS x0 x1 x2 x3 s) := by
  unfold execFcvtIS; exact fireFp_answers _ _ _ _

theorem execLd1_answers (x0) (x1) (x2) (x3) (s) : Answers s (execLd1 x0 x1 x2 x3 s) := by
  unfold execLd1; exact fireMem_answers _ _ _ _ _

theorem execLd1s_answers (x0) (x1) (x2) (x3) (s) : Answers s (execLd1s x0 x1 x2 x3 s) := by
  unfold execLd1s; exact fireMem_answers _ _ _ _ _

theorem execLd2_answers (x0) (x1) (x2) (x3) (s) : Answers s (execLd2 x0 x1 x2 x3 s) := by
  unfold execLd2; exact fireMem_answers _ _ _ _ _

theorem execLd2s_answers (x0) (x1) (x2) (x3) (s) : Answers s (execLd2s x0 x1 x2 x3 s) := by
  unfold execLd2s; exact fireMem_answers _ _ _ _ _

theorem execLd4_answers (x0) (x1) (x2) (x3) (s) : Answers s (execLd4 x0 x1 x2 x3 s) := by
  unfold execLd4; exact fireMem_answers _ _ _ _ _

theorem execLd4s_answers (x0) (x1) (x2) (x3) (s) : Answers s (execLd4s x0 x1 x2 x3 s) := by
  unfold execLd4s; exact fireMem_answers _ _ _ _ _

theorem execLd8_answers (x0) (x1) (x2) (x3) (s) : Answers s (execLd8 x0 x1 x2 x3 s) := by
  unfold execLd8; exact fireMem_answers _ _ _ _ _

theorem execTstfe_answers (x0) (x1) (x2) (x3) (s) : Answers s (execTstfe x0 x1 x2 x3 s) := by
  unfold execTstfe; exact fireMem_answers _ _ _ _ _

theorem execLdw1_answers (x0) (x1) (x2) (x3) (s) : Answers s (execLdw1 x0 x1 x2 x3 s) := by
  unfold execLdw1; exact fireMem_answers _ _ _ _ _

theorem execLdw2_answers (x0) (x1) (x2) (x3) (s) : Answers s (execLdw2 x0 x1 x2 x3 s) := by
  unfold execLdw2; exact fireMem_answers _ _ _ _ _

theorem execLdw4_answers (x0) (x1) (x2) (x3) (s) : Answers s (execLdw4 x0 x1 x2 x3 s) := by
  unfold execLdw4; exact fireMem_answers _ _ _ _ _

theorem execLdw8_answers (x0) (x1) (x2) (x3) (s) : Answers s (execLdw8 x0 x1 x2 x3 s) := by
  unfold execLdw8; exact fireMem_answers _ _ _ _ _

theorem execLdc1_answers (x0) (x1) (x2) (x3) (s) : Answers s (execLdc1 x0 x1 x2 x3 s) := by
  unfold execLdc1; exact fireMem_answers _ _ _ _ _

theorem execLdc2_answers (x0) (x1) (x2) (x3) (s) : Answers s (execLdc2 x0 x1 x2 x3 s) := by
  unfold execLdc2; exact fireMem_answers _ _ _ _ _

theorem execLdc4_answers (x0) (x1) (x2) (x3) (s) : Answers s (execLdc4 x0 x1 x2 x3 s) := by
  unfold execLdc4; exact fireMem_answers _ _ _ _ _

theorem execLdc8_answers (x0) (x1) (x2) (x3) (s) : Answers s (execLdc8 x0 x1 x2 x3 s) := by
  unfold execLdc8; exact fireMem_answers _ _ _ _ _

theorem execSt1_answers (x0) (x1) (x2) (s) : Answers s (execSt1 x0 x1 x2 s) := by
  unfold execSt1; exact fireMem_answers _ _ _ _ _

theorem execSt2_answers (x0) (x1) (x2) (s) : Answers s (execSt2 x0 x1 x2 s) := by
  unfold execSt2; exact fireMem_answers _ _ _ _ _

theorem execSt4_answers (x0) (x1) (x2) (s) : Answers s (execSt4 x0 x1 x2 s) := by
  unfold execSt4; exact fireMem_answers _ _ _ _ _

theorem execSt8_answers (x0) (x1) (x2) (s) : Answers s (execSt8 x0 x1 x2 s) := by
  unfold execSt8; exact fireMem_answers _ _ _ _ _

theorem execStf1_answers (x0) (x1) (x2) (s) : Answers s (execStf1 x0 x1 x2 s) := by
  unfold execStf1; exact fireMem_answers _ _ _ _ _

theorem execStf2_answers (x0) (x1) (x2) (s) : Answers s (execStf2 x0 x1 x2 s) := by
  unfold execStf2; exact fireMem_answers _ _ _ _ _

theorem execStf4_answers (x0) (x1) (x2) (s) : Answers s (execStf4 x0 x1 x2 s) := by
  unfold execStf4; exact fireMem_answers _ _ _ _ _

theorem execStf8_answers (x0) (x1) (x2) (s) : Answers s (execStf8 x0 x1 x2 s) := by
  unfold execStf8; exact fireMem_answers _ _ _ _ _

theorem execSte1_answers (x0) (x1) (x2) (s) : Answers s (execSte1 x0 x1 x2 s) := by
  unfold execSte1; exact fireMem_answers _ _ _ _ _

theorem execSte2_answers (x0) (x1) (x2) (s) : Answers s (execSte2 x0 x1 x2 s) := by
  unfold execSte2; exact fireMem_answers _ _ _ _ _

theorem execSte4_answers (x0) (x1) (x2) (s) : Answers s (execSte4 x0 x1 x2 s) := by
  unfold execSte4; exact fireMem_answers _ _ _ _ _

theorem execSte8_answers (x0) (x1) (x2) (s) : Answers s (execSte8 x0 x1 x2 s) := by
  unfold execSte8; exact fireMem_answers _ _ _ _ _

theorem execAmo_answers (x0) (x1) (x2) (x3) (x4) (s) : Answers s (execAmo x0 x1 x2 x3 x4 s) := by
  unfold execAmo; exact fireMem_answers _ _ _ _ _

theorem execCas_answers (x0) (x1) (x2) (s) : Answers s (execCas x0 x1 x2 s) := by
  unfold execCas; exact fireMem_answers _ _ _ _ _

theorem execRed_answers (x0) (x1) (x2) (x3) (s) : Answers s (execRed x0 x1 x2 x3 s) := by
  unfold execRed; exact fireMem_answers _ _ _ _ _

theorem execFence_answers (x0) (x1) (s) : Answers s (execFence x0 x1 s) := by
  unfold execFence; exact fire_answers _ _ _

theorem execQpush_answers (x0) (x1) (s) : Answers s (execQpush x0 x1 s) := by
  unfold execQpush; exact fireAccess_answers _ _ _

theorem execQpop_answers (x0) (x1) (x2) (x3) (s) : Answers s (execQpop x0 x1 x2 x3 s) := by
  unfold execQpop; exact fireAccess_answers _ _ _

theorem execQpeek_answers (x0) (x1) (x2) (s) : Answers s (execQpeek x0 x1 x2 s) := by
  unfold execQpeek; exact fireAccess_answers _ _ _

theorem execQstat_answers (x0) (x1) (x2) (s) : Answers s (execQstat x0 x1 x2 s) := by
  unfold execQstat; exact fire_answers _ _ _

theorem execQcfg_answers (x0) (x1) (x2) (s) : Answers s (execQcfg x0 x1 x2 s) := by
  unfold execQcfg; exact fireAccess_answers _ _ _

theorem execCqpop_answers (x0) (x1) (x2) (x3) (s) : Answers s (execCqpop x0 x1 x2 x3 s) := by
  unfold execCqpop; exact fireAccess_answers _ _ _

theorem execCqpush_answers (x0) (x1) (s) : Answers s (execCqpush x0 x1 s) := by
  unfold execCqpush; exact fireAccess_answers _ _ _

theorem execWait_answers (x0) (x1) (x2) (x3) (s) : Answers s (execWait x0 x1 x2 x3 s) := by
  unfold execWait; exact fireAccess_answers _ _ _

theorem execMfs_answers (x0) (x1) (x2) (s) : Answers s (execMfs x0 x1 x2 s) := by
  unfold execMfs; exact guarded_answers (fire_answers _ _ _)

theorem execMts_answers (x0) (x1) (s) : Answers s (execMts x0 x1 s) := by
  unfold execMts; exact fire_answers _ _ _

theorem execTrap_answers (x0) (x1) (s) : Answers s (execTrap x0 x1 s) := by
  unfold execTrap; exact fire_answers _ _ _

theorem execEret_answers (x0) (s) : Answers s (execEret x0 s) := by
  unfold execEret; exact fire_answers _ _ _

theorem execHalt_answers (x0) (s) : Answers s (execHalt x0 s) := by
  unfold execHalt; exact fire_answers _ _ _

theorem execPause_answers (x0) (x1) (x2) (s) : Answers s (execPause x0 x1 x2 s) := by
  unfold execPause; exact fire_answers _ _ _

theorem execRseed_answers (x0) (x1) (x2) (s) : Answers s (execRseed x0 x1 x2 s) := by
  unfold execRseed; exact fireAccess_answers _ _ _

theorem execRnext_answers (x0) (x1) (x2) (s) : Answers s (execRnext x0 x1 x2 s) := by
  unfold execRnext; exact fire_answers _ _ _

theorem execSpawnc_answers (x0) (x1) (x2) (s) : Answers s (execSpawnc x0 x1 x2 s) := by
  unfold execSpawnc; exact fire_answers _ _ _

theorem execCfgld_answers (x0) (x1) (x2) (s) : Answers s (execCfgld x0 x1 x2 s) := by
  unfold execCfgld; exact fireAccess_answers _ _ _

theorem execCfgstrm_answers (x0) (x1) (x2) (s) : Answers s (execCfgstrm x0 x1 x2 s) := by
  unfold execCfgstrm; exact fireAccess_answers _ _ _

theorem execCfgsw_answers (x0) (x1) (x2) (s) : Answers s (execCfgsw x0 x1 x2 s) := by
  unfold execCfgsw; exact fire_answers _ _ _

theorem execCfgabort_answers (x0) (x1) (x2) (s) : Answers s (execCfgabort x0 x1 x2 s) := by
  unfold execCfgabort; exact fire_answers _ _ _

theorem execArm_answers (x0) (x1) (x2) (s) : Answers s (execArm x0 x1 x2 s) := by
  unfold execArm; exact fire_answers _ _ _

theorem execDrain_answers (x0) (x1) (x2) (s) : Answers s (execDrain x0 x1 x2 s) := by
  unfold execDrain; exact fire_answers _ _ _

theorem execInject_answers (x0) (s) : Answers s (execInject x0 s) := by
  unfold execInject; exact fire_answers _ _ _

theorem execSinkrd_answers (x0) (x1) (x2) (s) : Answers s (execSinkrd x0 x1 x2 s) := by
  unfold execSinkrd; exact fire_answers _ _ _

theorem execKwait_answers (x0) (x1) (x2) (x3) (s) : Answers s (execKwait x0 x1 x2 x3 s) := by
  unfold execKwait; exact fire_answers _ _ _

theorem execCpy_answers (x0) (x1) (s) : Answers s (execCpy x0 x1 s) := by
  unfold execCpy; exact fireAccess_answers _ _ _

theorem execCpyfeOut_answers (x0) (s) : Answers s (execCpyfeOut x0 s) := by
  unfold execCpyfeOut; exact fireAccess_answers _ _ _

theorem execCpyfeIn_answers (x0) (s) : Answers s (execCpyfeIn x0 s) := by
  unfold execCpyfeIn; exact fireAccess_answers _ _ _

theorem execImpose_answers (x0) (s) : Answers s (execImpose x0 s) := by
  unfold execImpose; exact fireAccess_answers _ _ _

theorem execImprel_answers (x0) (s) : Answers s (execImprel x0 s) := by
  unfold execImprel; exact fire_answers _ _ _

theorem execAllocT_answers (x0) (x1) (x2) (s) : Answers s (execAllocT x0 x1 x2 s) := by
  unfold execAllocT; exact fireStore_answers _ _ _

theorem execAllocN_answers (x0) (x1) (x2) (s) : Answers s (execAllocN x0 x1 x2 s) := by
  unfold execAllocN; exact fireStore_answers _ _ _

theorem execFree_answers (x0) (s) : Answers s (execFree x0 s) := by
  unfold execFree; exact fireAccess_answers _ _ _

theorem execPoolgrow_answers (x0) (s) : Answers s (execPoolgrow x0 s) := by
  unfold execPoolgrow; exact fireAccess_answers _ _ _

theorem execCwprobe_answers (x0) (x1) (x2) (s) : Answers s (execCwprobe x0 x1 x2 s) := by
  unfold execCwprobe; exact fireAccess_answers _ _ _

theorem execCwstore_answers (x0) (s) : Answers s (execCwstore x0 s) := by
  unfold execCwstore; exact fireAccess_answers _ _ _

theorem execCwinv_answers (x0) (s) : Answers s (execCwinv x0 s) := by
  unfold execCwinv; exact fireAccess_answers _ _ _

theorem execDgst_answers (x0) (s) : Answers s (execDgst x0 s) := by
  unfold execDgst; exact fireAccess_answers _ _ _

theorem execWcfg_answers (x0) (s) : Answers s (execWcfg x0 s) := by
  unfold execWcfg; exact fireAccess_answers _ _ _

theorem execWrun_answers (x0) (s) : Answers s (execWrun x0 s) := by
  unfold execWrun; exact fireAccess_answers _ _ _

theorem execWld_answers (x0) (x1) (x2) (s) : Answers s (execWld x0 x1 x2 s) := by
  unfold execWld; exact guarded_answers (fire_answers _ _ _)

theorem execWst_answers (x0) (x1) (x2) (s) : Answers s (execWst x0 x1 x2 s) := by
  unfold execWst; exact guarded_answers (fire_answers _ _ _)

theorem execWmovD_answers (x0) (x1) (x2) (x3) (s) : Answers s (execWmovD x0 x1 x2 x3 s) := by
  unfold execWmovD; exact fire_answers _ _ _

theorem execWaddD_answers (x0) (x1) (x2) (x3) (x4) (s) : Answers s (execWaddD x0 x1 x2 x3 x4 s) := by
  unfold execWaddD; exact fire_answers _ _ _

theorem execWmulD_answers (x0) (x1) (x2) (x3) (x4) (s) : Answers s (execWmulD x0 x1 x2 x3 x4 s) := by
  unfold execWmulD; exact fire_answers _ _ _

theorem execWfmaD_answers (x0) (x1) (x2) (x3) (x4) (s) : Answers s (execWfmaD x0 x1 x2 x3 x4 s) := by
  unfold execWfmaD; exact fire_answers _ _ _

theorem execWminD_answers (x0) (x1) (x2) (x3) (x4) (s) : Answers s (execWminD x0 x1 x2 x3 x4 s) := by
  unfold execWminD; exact fire_answers _ _ _

theorem execWmaxD_answers (x0) (x1) (x2) (x3) (x4) (s) : Answers s (execWmaxD x0 x1 x2 x3 x4 s) := by
  unfold execWmaxD; exact fire_answers _ _ _

theorem execWcmpD_answers (x0) (x1) (x2) (x3) (x4) (x5) (s) : Answers s (execWcmpD x0 x1 x2 x3 x4 x5 s) := by
  unfold execWcmpD; exact fire_answers _ _ _

theorem execWselD_answers (x0) (x1) (x2) (x3) (x4) (s) : Answers s (execWselD x0 x1 x2 x3 x4 s) := by
  unfold execWselD; exact fire_answers _ _ _

theorem execWcvtD_answers (x0) (x1) (x2) (x3) (x4) (s) : Answers s (execWcvtD x0 x1 x2 x3 x4 s) := by
  unfold execWcvtD; exact fire_answers _ _ _

theorem execWredD_answers (x0) (x1) (x2) (x3) (x4) (s) : Answers s (execWredD x0 x1 x2 x3 x4 s) := by
  unfold execWredD; exact fire_answers _ _ _

theorem execWvarD_answers (x0) (x1) (x2) (x3) (x4) (s) : Answers s (execWvarD x0 x1 x2 x3 x4 s) := by
  unfold execWvarD; exact fire_answers _ _ _

theorem execWshufD_answers (x0) (x1) (x2) (x3) (x4) (s) : Answers s (execWshufD x0 x1 x2 x3 x4 s) := by
  unfold execWshufD; exact fire_answers _ _ _

theorem execWmovS_answers (x0) (x1) (x2) (x3) (s) : Answers s (execWmovS x0 x1 x2 x3 s) := by
  unfold execWmovS; exact fire_answers _ _ _

theorem execWaddS_answers (x0) (x1) (x2) (x3) (x4) (s) : Answers s (execWaddS x0 x1 x2 x3 x4 s) := by
  unfold execWaddS; exact fire_answers _ _ _

theorem execWmulS_answers (x0) (x1) (x2) (x3) (x4) (s) : Answers s (execWmulS x0 x1 x2 x3 x4 s) := by
  unfold execWmulS; exact fire_answers _ _ _

theorem execWfmaS_answers (x0) (x1) (x2) (x3) (x4) (s) : Answers s (execWfmaS x0 x1 x2 x3 x4 s) := by
  unfold execWfmaS; exact fire_answers _ _ _

theorem execWminS_answers (x0) (x1) (x2) (x3) (x4) (s) : Answers s (execWminS x0 x1 x2 x3 x4 s) := by
  unfold execWminS; exact fire_answers _ _ _

theorem execWmaxS_answers (x0) (x1) (x2) (x3) (x4) (s) : Answers s (execWmaxS x0 x1 x2 x3 x4 s) := by
  unfold execWmaxS; exact fire_answers _ _ _

theorem execWcmpS_answers (x0) (x1) (x2) (x3) (x4) (x5) (s) : Answers s (execWcmpS x0 x1 x2 x3 x4 x5 s) := by
  unfold execWcmpS; exact fire_answers _ _ _

theorem execWselS_answers (x0) (x1) (x2) (x3) (x4) (s) : Answers s (execWselS x0 x1 x2 x3 x4 s) := by
  unfold execWselS; exact fire_answers _ _ _

theorem execWcvtS_answers (x0) (x1) (x2) (x3) (x4) (s) : Answers s (execWcvtS x0 x1 x2 x3 x4 s) := by
  unfold execWcvtS; exact fire_answers _ _ _

theorem execWredS_answers (x0) (x1) (x2) (x3) (x4) (s) : Answers s (execWredS x0 x1 x2 x3 x4 s) := by
  unfold execWredS; exact fire_answers _ _ _

theorem execWvarS_answers (x0) (x1) (x2) (x3) (x4) (s) : Answers s (execWvarS x0 x1 x2 x3 x4 s) := by
  unfold execWvarS; exact fire_answers _ _ _

theorem execWshufS_answers (x0) (x1) (x2) (x3) (x4) (s) : Answers s (execWshufS x0 x1 x2 x3 x4 s) := by
  unfold execWshufS; exact fire_answers _ _ _

theorem execXacc_answers (x0) (x1) (x2) (x3) (x4) (s) : Answers s (execXacc x0 x1 x2 x3 x4 s) := by
  unfold execXacc; exact fire_answers _ _ _

theorem execXadd_answers (x0) (x1) (x2) (s) : Answers s (execXadd x0 x1 x2 s) := by
  unfold execXadd; exact fire_answers _ _ _

theorem execXclr_answers (x0) (x1) (s) : Answers s (execXclr x0 x1 s) := by
  unfold execXclr; exact fire_answers _ _ _

theorem execXmov_answers (x0) (x1) (x2) (s) : Answers s (execXmov x0 x1 x2 s) := by
  unfold execXmov; exact fire_answers _ _ _

theorem execXst_answers (x0) (x1) (s) : Answers s (execXst x0 x1 s) := by
  unfold execXst; exact fire_answers _ _ _

theorem execXld_answers (x0) (x1) (s) : Answers s (execXld x0 x1 s) := by
  unfold execXld; exact fire_answers _ _ _

theorem execXsgn_answers (x0) (x1) (x2) (x3) (s) : Answers s (execXsgn x0 x1 x2 x3 s) := by
  unfold execXsgn; exact guarded_answers (fire_answers _ _ _)

theorem execXrnd_answers (x0) (x1) (x2) (x3) (x4) (s) : Answers s (execXrnd x0 x1 x2 x3 x4 s) := by
  unfold execXrnd; exact guarded_answers (fire_answers _ _ _)

theorem execBlockFetch_answers (x0) (x1) (s) : Answers s (execBlockFetch x0 x1 s) := by
  unfold execBlockFetch; exact happen_answers _ _

theorem execResultDelivery_answers (x0) (x1) (x2) (s) : Answers s (execResultDelivery x0 x1 x2 s) := by
  unfold execResultDelivery; exact happen_answers _ _

theorem execBlockEnd_answers (x0) (x1) (s) : Answers s (execBlockEnd x0 x1 s) := by
  unfold execBlockEnd; exact happen_answers _ _

theorem execWaitRetry_answers (x0) (x1) (x2) (s) : Answers s (execWaitRetry x0 x1 x2 s) := by
  unfold execWaitRetry; exact happen_answers _ _

theorem execReservationExpire_answers (x0) (s) : Answers s (execReservationExpire x0 s) := by
  unfold execReservationExpire; exact happen_answers _ _

theorem execClaimWaitEnd_answers (x0) (x1) (x2) (s) : Answers s (execClaimWaitEnd x0 x1 x2 s) := by
  unfold execClaimWaitEnd; exact happen_answers _ _

theorem execQueueWaitRetry_answers (x0) (x1) (x2) (s) : Answers s (execQueueWaitRetry x0 x1 x2 s) := by
  unfold execQueueWaitRetry; exact happen_answers _ _

theorem execQtimeout_answers (x0) (x1) (x2) (s) : Answers s (execQtimeout x0 x1 x2 s) := by
  unfold execQtimeout; exact happen_answers _ _

theorem execCqCombine_answers (x0) (s) : Answers s (execCqCombine x0 s) := by
  unfold execCqCombine; exact happen_answers _ _

theorem execWaitPoll_answers (x0) (x1) (x2) (s) : Answers s (execWaitPoll x0 x1 x2 s) := by
  unfold execWaitPoll; exact happen_answers _ _

theorem execWaitTimeout_answers (x0) (x1) (x2) (s) : Answers s (execWaitTimeout x0 x1 x2 s) := by
  unfold execWaitTimeout; exact happen_answers _ _

theorem execPauseDone_answers (x0) (x1) (x2) (s) : Answers s (execPauseDone x0 x1 x2 s) := by
  unfold execPauseDone; exact happen_answers _ _

theorem execKwaitDone_answers (x0) (x1) (x2) (s) : Answers s (execKwaitDone x0 x1 x2 s) := by
  unfold execKwaitDone; exact happen_answers _ _

theorem execKwaitLimitExpire_answers (x0) (x1) (x2) (s) : Answers s (execKwaitLimitExpire x0 x1 x2 s) := by
  unfold execKwaitLimitExpire; exact happen_answers _ _

theorem execCfgswDrainDone_answers (x0) (x1) (x2) (s) : Answers s (execCfgswDrainDone x0 x1 x2 s) := by
  unfold execCfgswDrainDone; exact happen_answers _ _

theorem execStagingClaimWaitEnd_answers (x0) (x1) (x2) (s) : Answers s (execStagingClaimWaitEnd x0 x1 x2 s) := by
  unfold execStagingClaimWaitEnd; exact happen_answers _ _

theorem execInjectSlotRetry_answers (x0) (x1) (x2) (s) : Answers s (execInjectSlotRetry x0 x1 x2 s) := by
  unfold execInjectSlotRetry; exact happen_answers _ _

theorem execWideApply_answers (x0) (s) : Answers s (execWideApply x0 s) := by
  unfold execWideApply; exact happen_answers _ _

theorem execWrunIteration_answers (x0) (s) : Answers s (execWrunIteration x0 s) := by
  unfold execWrunIteration; exact happen_answers _ _

theorem execElementFire_answers (x0) (x1) (x2) (s) : Answers s (execElementFire x0 x1 x2 s) := by
  unfold execElementFire; exact happen_answers _ _

theorem execKillArrive_answers (x0) (x1) (x2) (x3) (s) : Answers s (execKillArrive x0 x1 x2 x3 s) := by
  unfold execKillArrive; exact happen_answers _ _

theorem execKillDiscard_answers (x0) (x1) (x2) (x3) (s) : Answers s (execKillDiscard x0 x1 x2 x3 s) := by
  unfold execKillDiscard; exact happen_answers _ _

theorem execLutfDigit_answers (x0) (x1) (s) : Answers s (execLutfDigit x0 x1 s) := by
  unfold execLutfDigit; exact happen_answers _ _

theorem execMeStepDone_answers (x0) (x1) (s) : Answers s (execMeStepDone x0 x1 s) := by
  unfold execMeStepDone; exact happen_answers _ _

theorem execSpRepresent_answers (x0) (x1) (x2) (s) : Answers s (execSpRepresent x0 x1 x2 s) := by
  unfold execSpRepresent; exact happen_answers _ _

theorem execFeTimeout_answers (x0) (x1) (x2) (s) : Answers s (execFeTimeout x0 x1 x2 s) := by
  unfold execFeTimeout; exact happen_answers _ _

theorem execExtentFetch_answers (x0) (x1) (x2) (s) : Answers s (execExtentFetch x0 x1 x2 s) := by
  unfold execExtentFetch; exact happen_answers _ _

theorem execSpillRetry_answers (x0) (x1) (x2) (s) : Answers s (execSpillRetry x0 x1 x2 s) := by
  unfold execSpillRetry; exact happen_answers _ _

theorem execGapplyToken_answers (x0) (s) : Answers s (execGapplyToken x0 s) := by
  unfold execGapplyToken; exact happen_answers _ _

theorem execTokenReply_answers (x0) (s) : Answers s (execTokenReply x0 s) := by
  unfold execTokenReply; exact happen_answers _ _

theorem execRegionError_answers (x0) (s) : Answers s (execRegionError x0 s) := by
  unfold execRegionError; exact happen_answers _ _

theorem execInvalidation_answers (x0) (x1) (x2) (x3) (s) : Answers s (execInvalidation x0 x1 x2 x3 s) := by
  unfold execInvalidation; exact happen_answers _ _

theorem execQTailWrite_answers (x0) (x1) (s) : Answers s (execQTailWrite x0 x1 s) := by
  unfold execQTailWrite; exact happen_answers _ _

theorem execQCtlWrite_answers (x0) (x1) (s) : Answers s (execQCtlWrite x0 x1 s) := by
  unfold execQCtlWrite; exact happen_answers _ _

theorem execRegisterWrite_answers (x0) (x1) (x2) (s) : Answers s (execRegisterWrite x0 x1 x2 s) := by
  unfold execRegisterWrite; exact happenPower_answers _ _

theorem execSubmissionTake_answers (x0) (s) : Answers s (execSubmissionTake x0 s) := by
  unfold execSubmissionTake; exact happen_answers _ _

theorem execReplayStart_answers (x0) (s) : Answers s (execReplayStart x0 s) := by
  unfold execReplayStart; exact happen_answers _ _

theorem execReplayEnd_answers (x0) (s) : Answers s (execReplayEnd x0 s) := by
  unfold execReplayEnd; exact happen_answers _ _

theorem execNodeFinish_answers (x0) (x1) (s) : Answers s (execNodeFinish x0 x1 s) := by
  unfold execNodeFinish; exact happen_answers _ _

theorem execTaskPlace_answers (x0) (s) : Answers s (execTaskPlace x0 s) := by
  unfold execTaskPlace; exact happen_answers _ _

theorem execTaskRetire_answers (x0) (s) : Answers s (execTaskRetire x0 s) := by
  unfold execTaskRetire; exact happen_answers _ _

theorem execIndirectCountRead_answers (x0) (x1) (s) : Answers s (execIndirectCountRead x0 x1 s) := by
  unfold execIndirectCountRead; exact happen_answers _ _

theorem execLaunchCount_answers (x0) (x1) (s) : Answers s (execLaunchCount x0 x1 s) := by
  unfold execLaunchCount; exact happen_answers _ _

theorem execCondPredicateRead_answers (x0) (x1) (s) : Answers s (execCondPredicateRead x0 x1 s) := by
  unfold execCondPredicateRead; exact happen_answers _ _

theorem execLoopIteration_answers (x0) (x1) (s) : Answers s (execLoopIteration x0 x1 s) := by
  unfold execLoopIteration; exact happen_answers _ _

theorem execNodeWaitTimeout_answers (x0) (x1) (s) : Answers s (execNodeWaitTimeout x0 x1 s) := by
  unfold execNodeWaitTimeout; exact happen_answers _ _

theorem execStepsyncMessage_answers (x0) (x1) (x2) (x3) (s) : Answers s (execStepsyncMessage x0 x1 x2 x3 s) := by
  unfold execStepsyncMessage; exact happen_answers _ _

theorem execCwDecide_answers (x0) (s) : Answers s (execCwDecide x0 s) := by
  unfold execCwDecide; exact happen_answers _ _

theorem execCopyComplete_answers (x0) (x1) (s) : Answers s (execCopyComplete x0 x1 s) := by
  unfold execCopyComplete; exact happen_answers _ _

theorem execCompletionWrite_answers (x0) (x1) (s) : Answers s (execCompletionWrite x0 x1 s) := by
  unfold execCompletionWrite; exact happen_answers _ _

theorem execEnginePageResume_answers (x0) (x1) (s) : Answers s (execEnginePageResume x0 x1 s) := by
  unfold execEnginePageResume; exact happen_answers _ _

theorem execImposeComplete_answers (x0) (s) : Answers s (execImposeComplete x0 s) := by
  unfold execImposeComplete; exact happen_answers _ _

theorem execDgstComplete_answers (x0) (s) : Answers s (execDgstComplete x0 s) := by
  unfold execDgstComplete; exact happen_answers _ _

theorem execPreemptRequest_answers (x0) (s) : Answers s (execPreemptRequest x0 s) := by
  unfold execPreemptRequest; exact happen_answers _ _

theorem execPreemptSave_answers (x0) (x1) (s) : Answers s (execPreemptSave x0 x1 s) := by
  unfold execPreemptSave; exact happen_answers _ _

theorem execContainment_answers (x0) (x1) (s) : Answers s (execContainment x0 x1 s) := by
  unfold execContainment; exact happen_answers _ _

theorem execFaultDetect_answers (x0) (x1) (x2) (x3) (x4) (s) : Answers s (execFaultDetect x0 x1 x2 x3 x4 s) := by
  unfold execFaultDetect; exact happen_answers _ _

theorem execSelfTestStart_answers (x0) (x1) (s) : Answers s (execSelfTestStart x0 x1 s) := by
  unfold execSelfTestStart; exact happen_answers _ _

theorem execSelfTestEnd_answers (x0) (x1) (x2) (x3) (s) : Answers s (execSelfTestEnd x0 x1 x2 x3 s) := by
  unfold execSelfTestEnd; exact happen_answers _ _

theorem execPatrolBist_answers (x0) (x1) (x2) (s) : Answers s (execPatrolBist x0 x1 x2 s) := by
  unfold execPatrolBist; exact happen_answers _ _

theorem execMCmdPreempt_answers (s) : Answers s (execMCmdPreempt  s) := by
  unfold execMCmdPreempt; exact happen_answers _ _

theorem execMCmdEndGraph_answers (s) : Answers s (execMCmdEndGraph  s) := by
  unfold execMCmdEndGraph; exact happen_answers _ _

theorem execMCmdAttest_answers (s) : Answers s (execMCmdAttest  s) := by
  unfold execMCmdAttest; exact happen_answers _ _

theorem execMCmdClearFence_answers (s) : Answers s (execMCmdClearFence  s) := by
  unfold execMCmdClearFence; exact happen_answers _ _

theorem execMCmdRecover_answers (x0) (s) : Answers s (execMCmdRecover x0 s) := by
  unfold execMCmdRecover; exact happen_answers _ _

theorem execMCmdSetHwlim_answers (s) : Answers s (execMCmdSetHwlim  s) := by
  unfold execMCmdSetHwlim; exact happen_answers _ _

theorem execMCmdRefused_answers (x0) (s) : Answers s (execMCmdRefused x0 s) := by
  unfold execMCmdRefused; exact happen_answers _ _

theorem execMCmdComplete_answers (s) : Answers s (execMCmdComplete  s) := by
  unfold execMCmdComplete; exact happen_answers _ _

theorem execMStatusRead_answers (s) : Answers s (execMStatusRead  s) := by
  unfold execMStatusRead; exact happen_answers _ _

theorem execBar2Access_answers (x0) (x1) (x2) (x3) (s) : Answers s (execBar2Access x0 x1 x2 x3 s) := by
  unfold execBar2Access; exact happen_answers _ _

theorem execAperturePlain_answers (x0) (x1) (x2) (x3) (s) : Answers s (execAperturePlain x0 x1 x2 x3 s) := by
  unfold execAperturePlain; exact happen_answers _ _

theorem execApertureWaitingLoad_answers (x0) (s) : Answers s (execApertureWaitingLoad x0 s) := by
  unfold execApertureWaitingLoad; exact happen_answers _ _

theorem execApertureFillingStore_answers (x0) (x1) (s) : Answers s (execApertureFillingStore x0 x1 s) := by
  unfold execApertureFillingStore; exact happen_answers _ _

theorem execApertureConsumingLoad_answers (x0) (s) : Answers s (execApertureConsumingLoad x0 s) := by
  unfold execApertureConsumingLoad; exact happen_answers _ _

theorem execApertureClearingStore_answers (x0) (x1) (s) : Answers s (execApertureClearingStore x0 x1 s) := by
  unfold execApertureClearingStore; exact happen_answers _ _

theorem execApertureTest_answers (x0) (s) : Answers s (execApertureTest x0 s) := by
  unfold execApertureTest; exact happen_answers _ _

theorem execHostWaitExpire_answers (x0) (s) : Answers s (execHostWaitExpire x0 s) := by
  unfold execHostWaitExpire; exact happen_answers _ _

theorem execMsixUnmask_answers (x0) (s) : Answers s (execMsixUnmask x0 s) := by
  unfold execMsixUnmask; exact happen_answers _ _

theorem execFunctionLevelReset_answers (s) : Answers s (execFunctionLevelReset  s) := by
  unfold execFunctionLevelReset; exact happen_answers _ _

theorem execDeviceReset_answers (s) : Answers s (execDeviceReset  s) := by
  unfold execDeviceReset; exact happenPower_answers _ _

theorem execBootStage_answers (x0) (s) : Answers s (execBootStage x0 s) := by
  unfold execBootStage; exact happen_answers _ _

theorem execLinkFrameReceive_answers (x0) (x1) (x2) (x3) (x4) (x5) (s) : Answers s (execLinkFrameReceive x0 x1 x2 x3 x4 x5 s) := by
  unfold execLinkFrameReceive; exact happen_answers _ _

theorem execLinkDown_answers (x0) (s) : Answers s (execLinkDown x0 s) := by
  unfold execLinkDown; exact happen_answers _ _

theorem execChannelBind_answers (x0) (x1) (x2) (x3) (s) : Answers s (execChannelBind x0 x1 x2 x3 s) := by
  unfold execChannelBind; exact happen_answers _ _

theorem execClockThrottle_answers (x0) (s) : Answers s (execClockThrottle x0 s) := by
  unfold execClockThrottle; exact happen_answers _ _

theorem execClQreqSet_answers (x0) (s) : Answers s (execClQreqSet x0 s) := by
  unfold execClQreqSet; exact happenPower_answers _ _

theorem execClQreqClear_answers (x0) (s) : Answers s (execClQreqClear x0 s) := by
  unfold execClQreqClear; exact happenPower_answers _ _

theorem execClusterQuiesceAck_answers (x0) (s) : Answers s (execClusterQuiesceAck x0 s) := by
  unfold execClusterQuiesceAck; exact happenPower_answers _ _

theorem execClSaveGo_answers (x0) (s) : Answers s (execClSaveGo x0 s) := by
  unfold execClSaveGo; exact happenPower_answers _ _

theorem execClusterSaveDone_answers (x0) (x1) (s) : Answers s (execClusterSaveDone x0 x1 s) := by
  unfold execClusterSaveDone; exact happenPower_answers _ _

theorem execClClkgGate_answers (x0) (s) : Answers s (execClClkgGate x0 s) := by
  unfold execClClkgGate; exact happenPower_answers _ _

theorem execClRailOff_answers (x0) (s) : Answers s (execClRailOff x0 s) := by
  unfold execClRailOff; exact happenPower_answers _ _

theorem execRailGoodFall_answers (x0) (s) : Answers s (execRailGoodFall x0 s) := by
  unfold execRailGoodFall; exact happenPower_answers _ _

theorem execClWakeGo_answers (x0) (s) : Answers s (execClWakeGo x0 s) := by
  unfold execClWakeGo; exact happenPower_answers _ _

theorem execClusterWakeDone_answers (x0) (x1) (x2) (s) : Answers s (execClusterWakeDone x0 x1 x2 s) := by
  unfold execClusterWakeDone; exact happenPower_answers _ _

theorem execClQackWrite_answers (x0) (s) : Answers s (execClQackWrite x0 s) := by
  unfold execClQackWrite; exact happenPower_answers _ _

theorem execAsidTeardown_answers (x0) (s) : Answers s (execAsidTeardown x0 s) := by
  unfold execAsidTeardown; exact happen_answers _ _

theorem execTileReset_answers (x0) (s) : Answers s (execTileReset x0 s) := by
  unfold execTileReset; exact happen_answers _ _

theorem execForcedPowerLoss_answers (x0) (s) : Answers s (execForcedPowerLoss x0 s) := by
  unfold execForcedPowerLoss; exact happenPower_answers _ _

theorem execCrossingSlotArrival_answers (x0) (x1) (x2) (s) : Answers s (execCrossingSlotArrival x0 x1 x2 s) := by
  unfold execCrossingSlotArrival; exact happen_answers _ _

theorem execConfigurationRequest_answers (s) : Answers s (execConfigurationRequest  s) := by
  unfold execConfigurationRequest; exact happen_answers _ _

/-- Every meaning answers a move of the state, or is not enabled. -/
theorem exec_answers (i : Instr) (s : State) : Answers s (exec i s) := by
  match i with
  | .add x0 x1 x2 => exact execAdd_answers x0 x1 x2 s
  | .sub x0 x1 x2 => exact execSub_answers x0 x1 x2 s
  | .and x0 x1 x2 => exact execAnd_answers x0 x1 x2 s
  | .or x0 x1 x2 => exact execOr_answers x0 x1 x2 s
  | .xor x0 x1 x2 => exact execXor_answers x0 x1 x2 s
  | .andn x0 x1 x2 => exact execAndn_answers x0 x1 x2 s
  | .orn x0 x1 x2 => exact execOrn_answers x0 x1 x2 s
  | .xnor x0 x1 x2 => exact execXnor_answers x0 x1 x2 s
  | .shl x0 x1 x2 => exact execShl_answers x0 x1 x2 s
  | .shr x0 x1 x2 => exact execShr_answers x0 x1 x2 s
  | .sar x0 x1 x2 => exact execSar_answers x0 x1 x2 s
  | .rol x0 x1 x2 => exact execRol_answers x0 x1 x2 s
  | .ror x0 x1 x2 => exact execRor_answers x0 x1 x2 s
  | .min x0 x1 x2 => exact execMin_answers x0 x1 x2 s
  | .max x0 x1 x2 => exact execMax_answers x0 x1 x2 s
  | .minu x0 x1 x2 => exact execMinu_answers x0 x1 x2 s
  | .maxu x0 x1 x2 => exact execMaxu_answers x0 x1 x2 s
  | .addw x0 x1 x2 => exact execAddw_answers x0 x1 x2 s
  | .subw x0 x1 x2 => exact execSubw_answers x0 x1 x2 s
  | .mul x0 x1 x2 => exact execMul_answers x0 x1 x2 s
  | .mulh x0 x1 x2 => exact execMulh_answers x0 x1 x2 s
  | .mulhu x0 x1 x2 => exact execMulhu_answers x0 x1 x2 s
  | .mulhsu x0 x1 x2 => exact execMulhsu_answers x0 x1 x2 s
  | .div x0 x1 x2 => exact execDiv_answers x0 x1 x2 s
  | .divu x0 x1 x2 => exact execDivu_answers x0 x1 x2 s
  | .rem x0 x1 x2 => exact execRem_answers x0 x1 x2 s
  | .remu x0 x1 x2 => exact execRemu_answers x0 x1 x2 s
  | .mulw x0 x1 x2 => exact execMulw_answers x0 x1 x2 s
  | .divw x0 x1 x2 => exact execDivw_answers x0 x1 x2 s
  | .divuw x0 x1 x2 => exact execDivuw_answers x0 x1 x2 s
  | .remw x0 x1 x2 => exact execRemw_answers x0 x1 x2 s
  | .remuw x0 x1 x2 => exact execRemuw_answers x0 x1 x2 s
  | .clz x0 x1 x2 => exact execClz_answers x0 x1 x2 s
  | .ctz x0 x1 x2 => exact execCtz_answers x0 x1 x2 s
  | .popc x0 x1 x2 => exact execPopc_answers x0 x1 x2 s
  | .brev x0 x1 x2 => exact execBrev_answers x0 x1 x2 s
  | .bswap x0 x1 x2 => exact execBswap_answers x0 x1 x2 s
  | .sextb x0 x1 x2 => exact execSextb_answers x0 x1 x2 s
  | .sexth x0 x1 x2 => exact execSexth_answers x0 x1 x2 s
  | .sextw x0 x1 x2 => exact execSextw_answers x0 x1 x2 s
  | .zextb x0 x1 x2 => exact execZextb_answers x0 x1 x2 s
  | .zexth x0 x1 x2 => exact execZexth_answers x0 x1 x2 s
  | .zextw x0 x1 x2 => exact execZextw_answers x0 x1 x2 s
  | .addi x0 x1 x2 => exact execAddi_answers x0 x1 x2 s
  | .andi x0 x1 x2 => exact execAndi_answers x0 x1 x2 s
  | .ori x0 x1 x2 => exact execOri_answers x0 x1 x2 s
  | .xori x0 x1 x2 => exact execXori_answers x0 x1 x2 s
  | .shli x0 x1 x2 => exact execShli_answers x0 x1 x2 s
  | .shri x0 x1 x2 => exact execShri_answers x0 x1 x2 s
  | .sari x0 x1 x2 => exact execSari_answers x0 x1 x2 s
  | .muli x0 x1 x2 => exact execMuli_answers x0 x1 x2 s
  | .ext x0 x1 x2 x3 => exact execExt_answers x0 x1 x2 x3 s
  | .exts x0 x1 x2 x3 => exact execExts_answers x0 x1 x2 x3 s
  | .ins x0 x1 x2 x3 => exact execIns_answers x0 x1 x2 x3 s
  | .lea1 x0 x1 x2 => exact execLea1_answers x0 x1 x2 s
  | .lea2 x0 x1 x2 => exact execLea2_answers x0 x1 x2 s
  | .lea4 x0 x1 x2 => exact execLea4_answers x0 x1 x2 s
  | .lea8 x0 x1 x2 => exact execLea8_answers x0 x1 x2 s
  | .lea16 x0 x1 x2 => exact execLea16_answers x0 x1 x2 s
  | .teq x0 x1 x2 => exact execTeq_answers x0 x1 x2 s
  | .tne x0 x1 x2 => exact execTne_answers x0 x1 x2 s
  | .tlt x0 x1 x2 => exact execTlt_answers x0 x1 x2 s
  | .tle x0 x1 x2 => exact execTle_answers x0 x1 x2 s
  | .tgt x0 x1 x2 => exact execTgt_answers x0 x1 x2 s
  | .tge x0 x1 x2 => exact execTge_answers x0 x1 x2 s
  | .tltu x0 x1 x2 => exact execTltu_answers x0 x1 x2 s
  | .tleu x0 x1 x2 => exact execTleu_answers x0 x1 x2 s
  | .tgtu x0 x1 x2 => exact execTgtu_answers x0 x1 x2 s
  | .tgeu x0 x1 x2 => exact execTgeu_answers x0 x1 x2 s
  | .tbs x0 x1 x2 => exact execTbs_answers x0 x1 x2 s
  | .tbc x0 x1 x2 => exact execTbc_answers x0 x1 x2 s
  | .teqi x0 x1 x2 => exact execTeqi_answers x0 x1 x2 s
  | .tnei x0 x1 x2 => exact execTnei_answers x0 x1 x2 s
  | .tlti x0 x1 x2 => exact execTlti_answers x0 x1 x2 s
  | .tlei x0 x1 x2 => exact execTlei_answers x0 x1 x2 s
  | .tgti x0 x1 x2 => exact execTgti_answers x0 x1 x2 s
  | .tgei x0 x1 x2 => exact execTgei_answers x0 x1 x2 s
  | .tltui x0 x1 x2 => exact execTltui_answers x0 x1 x2 s
  | .tgeui x0 x1 x2 => exact execTgeui_answers x0 x1 x2 s
  | .genc x0 x1 => exact execGenc_answers x0 x1 s
  | .appc x0 x1 => exact execAppc_answers x0 x1 s
  | .mov x0 x1 x2 => exact execMov_answers x0 x1 x2 s
  | .movi x0 x1 x2 => exact execMovi_answers x0 x1 x2 s
  | .null x0 x1 x2 => exact execNull_answers x0 x1 x2 s
  | .br x0 x1 x2 => exact execBr_answers x0 x1 x2 s
  | .call x0 x1 x2 => exact execCall_answers x0 x1 x2 s
  | .badr x0 x1 x2 => exact execBadr_answers x0 x1 x2 s
  | .bri x0 x1 => exact execBri_answers x0 x1 s
  | .calli x0 x1 => exact execCalli_answers x0 x1 s
  | .ret x0 x1 => exact execRet_answers x0 x1 s
  | .faddD x0 x1 x2 x3 => exact execFaddD_answers x0 x1 x2 x3 s
  | .fsubD x0 x1 x2 x3 => exact execFsubD_answers x0 x1 x2 x3 s
  | .fmulD x0 x1 x2 x3 => exact execFmulD_answers x0 x1 x2 x3 s
  | .fdivD x0 x1 x2 x3 => exact execFdivD_answers x0 x1 x2 x3 s
  | .fsqrtD x0 x1 x2 x3 => exact execFsqrtD_answers x0 x1 x2 x3 s
  | .fmaD x0 x1 x2 => exact execFmaD_answers x0 x1 x2 s
  | .fmsD x0 x1 x2 => exact execFmsD_answers x0 x1 x2 s
  | .fnmaD x0 x1 x2 => exact execFnmaD_answers x0 x1 x2 s
  | .faddS x0 x1 x2 x3 => exact execFaddS_answers x0 x1 x2 x3 s
  | .fsubS x0 x1 x2 x3 => exact execFsubS_answers x0 x1 x2 x3 s
  | .fmulS x0 x1 x2 x3 => exact execFmulS_answers x0 x1 x2 x3 s
  | .fdivS x0 x1 x2 x3 => exact execFdivS_answers x0 x1 x2 x3 s
  | .fsqrtS x0 x1 x2 x3 => exact execFsqrtS_answers x0 x1 x2 x3 s
  | .fmaS x0 x1 x2 => exact execFmaS_answers x0 x1 x2 s
  | .fmsS x0 x1 x2 => exact execFmsS_answers x0 x1 x2 s
  | .fnmaS x0 x1 x2 => exact execFnmaS_answers x0 x1 x2 s
  | .fmin x0 x1 x2 x3 => exact execFmin_answers x0 x1 x2 x3 s
  | .fmax x0 x1 x2 x3 => exact execFmax_answers x0 x1 x2 x3 s
  | .fneg x0 x1 x2 x3 => exact execFneg_answers x0 x1 x2 x3 s
  | .fabs x0 x1 x2 x3 => exact execFabs_answers x0 x1 x2 x3 s
  | .fcpys x0 x1 x2 x3 => exact execFcpys_answers x0 x1 x2 x3 s
  | .fclass x0 x1 x2 x3 => exact execFclass_answers x0 x1 x2 x3 s
  | .fteq x0 x1 x2 x3 => exact execFteq_answers x0 x1 x2 x3 s
  | .ftlt x0 x1 x2 x3 => exact execFtlt_answers x0 x1 x2 x3 s
  | .ftle x0 x1 x2 x3 => exact execFtle_answers x0 x1 x2 x3 s
  | .ftun x0 x1 x2 x3 => exact execFtun_answers x0 x1 x2 x3 s
  | .fcvtDS x0 x1 x2 => exact execFcvtDS_answers x0 x1 x2 s
  | .fcvtSD x0 x1 x2 x3 => exact execFcvtSD_answers x0 x1 x2 x3 s
  | .fcvtDI x0 x1 x2 x3 => exact execFcvtDI_answers x0 x1 x2 x3 s
  | .fcvtDN x0 x1 x2 x3 => exact execFcvtDN_answers x0 x1 x2 x3 s
  | .fcvtID x0 x1 x2 x3 => exact execFcvtID_answers x0 x1 x2 x3 s
  | .fcvtND x0 x1 x2 x3 => exact execFcvtND_answers x0 x1 x2 x3 s
  | .fcvtSI x0 x1 x2 x3 => exact execFcvtSI_answers x0 x1 x2 x3 s
  | .fcvtIS x0 x1 x2 x3 => exact execFcvtIS_answers x0 x1 x2 x3 s
  | .ld1 x0 x1 x2 x3 => exact execLd1_answers x0 x1 x2 x3 s
  | .ld1s x0 x1 x2 x3 => exact execLd1s_answers x0 x1 x2 x3 s
  | .ld2 x0 x1 x2 x3 => exact execLd2_answers x0 x1 x2 x3 s
  | .ld2s x0 x1 x2 x3 => exact execLd2s_answers x0 x1 x2 x3 s
  | .ld4 x0 x1 x2 x3 => exact execLd4_answers x0 x1 x2 x3 s
  | .ld4s x0 x1 x2 x3 => exact execLd4s_answers x0 x1 x2 x3 s
  | .ld8 x0 x1 x2 x3 => exact execLd8_answers x0 x1 x2 x3 s
  | .tstfe x0 x1 x2 x3 => exact execTstfe_answers x0 x1 x2 x3 s
  | .ldw1 x0 x1 x2 x3 => exact execLdw1_answers x0 x1 x2 x3 s
  | .ldw2 x0 x1 x2 x3 => exact execLdw2_answers x0 x1 x2 x3 s
  | .ldw4 x0 x1 x2 x3 => exact execLdw4_answers x0 x1 x2 x3 s
  | .ldw8 x0 x1 x2 x3 => exact execLdw8_answers x0 x1 x2 x3 s
  | .ldc1 x0 x1 x2 x3 => exact execLdc1_answers x0 x1 x2 x3 s
  | .ldc2 x0 x1 x2 x3 => exact execLdc2_answers x0 x1 x2 x3 s
  | .ldc4 x0 x1 x2 x3 => exact execLdc4_answers x0 x1 x2 x3 s
  | .ldc8 x0 x1 x2 x3 => exact execLdc8_answers x0 x1 x2 x3 s
  | .st1 x0 x1 x2 => exact execSt1_answers x0 x1 x2 s
  | .st2 x0 x1 x2 => exact execSt2_answers x0 x1 x2 s
  | .st4 x0 x1 x2 => exact execSt4_answers x0 x1 x2 s
  | .st8 x0 x1 x2 => exact execSt8_answers x0 x1 x2 s
  | .stf1 x0 x1 x2 => exact execStf1_answers x0 x1 x2 s
  | .stf2 x0 x1 x2 => exact execStf2_answers x0 x1 x2 s
  | .stf4 x0 x1 x2 => exact execStf4_answers x0 x1 x2 s
  | .stf8 x0 x1 x2 => exact execStf8_answers x0 x1 x2 s
  | .ste1 x0 x1 x2 => exact execSte1_answers x0 x1 x2 s
  | .ste2 x0 x1 x2 => exact execSte2_answers x0 x1 x2 s
  | .ste4 x0 x1 x2 => exact execSte4_answers x0 x1 x2 s
  | .ste8 x0 x1 x2 => exact execSte8_answers x0 x1 x2 s
  | .amo x0 x1 x2 x3 x4 => exact execAmo_answers x0 x1 x2 x3 x4 s
  | .cas x0 x1 x2 => exact execCas_answers x0 x1 x2 s
  | .red x0 x1 x2 x3 => exact execRed_answers x0 x1 x2 x3 s
  | .fence x0 x1 => exact execFence_answers x0 x1 s
  | .qpush x0 x1 => exact execQpush_answers x0 x1 s
  | .qpop x0 x1 x2 x3 => exact execQpop_answers x0 x1 x2 x3 s
  | .qpeek x0 x1 x2 => exact execQpeek_answers x0 x1 x2 s
  | .qstat x0 x1 x2 => exact execQstat_answers x0 x1 x2 s
  | .qcfg x0 x1 x2 => exact execQcfg_answers x0 x1 x2 s
  | .cqpop x0 x1 x2 x3 => exact execCqpop_answers x0 x1 x2 x3 s
  | .cqpush x0 x1 => exact execCqpush_answers x0 x1 s
  | .wait x0 x1 x2 x3 => exact execWait_answers x0 x1 x2 x3 s
  | .mfs x0 x1 x2 => exact execMfs_answers x0 x1 x2 s
  | .mts x0 x1 => exact execMts_answers x0 x1 s
  | .trap x0 x1 => exact execTrap_answers x0 x1 s
  | .eret x0 => exact execEret_answers x0 s
  | .halt x0 => exact execHalt_answers x0 s
  | .pause x0 x1 x2 => exact execPause_answers x0 x1 x2 s
  | .rseed x0 x1 x2 => exact execRseed_answers x0 x1 x2 s
  | .rnext x0 x1 x2 => exact execRnext_answers x0 x1 x2 s
  | .spawnc x0 x1 x2 => exact execSpawnc_answers x0 x1 x2 s
  | .cfgld x0 x1 x2 => exact execCfgld_answers x0 x1 x2 s
  | .cfgstrm x0 x1 x2 => exact execCfgstrm_answers x0 x1 x2 s
  | .cfgsw x0 x1 x2 => exact execCfgsw_answers x0 x1 x2 s
  | .cfgabort x0 x1 x2 => exact execCfgabort_answers x0 x1 x2 s
  | .arm x0 x1 x2 => exact execArm_answers x0 x1 x2 s
  | .drain x0 x1 x2 => exact execDrain_answers x0 x1 x2 s
  | .inject x0 => exact execInject_answers x0 s
  | .sinkrd x0 x1 x2 => exact execSinkrd_answers x0 x1 x2 s
  | .kwait x0 x1 x2 x3 => exact execKwait_answers x0 x1 x2 x3 s
  | .cpy x0 x1 => exact execCpy_answers x0 x1 s
  | .cpyfeOut x0 => exact execCpyfeOut_answers x0 s
  | .cpyfeIn x0 => exact execCpyfeIn_answers x0 s
  | .impose x0 => exact execImpose_answers x0 s
  | .imprel x0 => exact execImprel_answers x0 s
  | .allocT x0 x1 x2 => exact execAllocT_answers x0 x1 x2 s
  | .allocN x0 x1 x2 => exact execAllocN_answers x0 x1 x2 s
  | .free x0 => exact execFree_answers x0 s
  | .poolgrow x0 => exact execPoolgrow_answers x0 s
  | .cwprobe x0 x1 x2 => exact execCwprobe_answers x0 x1 x2 s
  | .cwstore x0 => exact execCwstore_answers x0 s
  | .cwinv x0 => exact execCwinv_answers x0 s
  | .dgst x0 => exact execDgst_answers x0 s
  | .wcfg x0 => exact execWcfg_answers x0 s
  | .wrun x0 => exact execWrun_answers x0 s
  | .wld x0 x1 x2 => exact execWld_answers x0 x1 x2 s
  | .wst x0 x1 x2 => exact execWst_answers x0 x1 x2 s
  | .wmovD x0 x1 x2 x3 => exact execWmovD_answers x0 x1 x2 x3 s
  | .waddD x0 x1 x2 x3 x4 => exact execWaddD_answers x0 x1 x2 x3 x4 s
  | .wmulD x0 x1 x2 x3 x4 => exact execWmulD_answers x0 x1 x2 x3 x4 s
  | .wfmaD x0 x1 x2 x3 x4 => exact execWfmaD_answers x0 x1 x2 x3 x4 s
  | .wminD x0 x1 x2 x3 x4 => exact execWminD_answers x0 x1 x2 x3 x4 s
  | .wmaxD x0 x1 x2 x3 x4 => exact execWmaxD_answers x0 x1 x2 x3 x4 s
  | .wcmpD x0 x1 x2 x3 x4 x5 => exact execWcmpD_answers x0 x1 x2 x3 x4 x5 s
  | .wselD x0 x1 x2 x3 x4 => exact execWselD_answers x0 x1 x2 x3 x4 s
  | .wcvtD x0 x1 x2 x3 x4 => exact execWcvtD_answers x0 x1 x2 x3 x4 s
  | .wredD x0 x1 x2 x3 x4 => exact execWredD_answers x0 x1 x2 x3 x4 s
  | .wvarD x0 x1 x2 x3 x4 => exact execWvarD_answers x0 x1 x2 x3 x4 s
  | .wshufD x0 x1 x2 x3 x4 => exact execWshufD_answers x0 x1 x2 x3 x4 s
  | .wmovS x0 x1 x2 x3 => exact execWmovS_answers x0 x1 x2 x3 s
  | .waddS x0 x1 x2 x3 x4 => exact execWaddS_answers x0 x1 x2 x3 x4 s
  | .wmulS x0 x1 x2 x3 x4 => exact execWmulS_answers x0 x1 x2 x3 x4 s
  | .wfmaS x0 x1 x2 x3 x4 => exact execWfmaS_answers x0 x1 x2 x3 x4 s
  | .wminS x0 x1 x2 x3 x4 => exact execWminS_answers x0 x1 x2 x3 x4 s
  | .wmaxS x0 x1 x2 x3 x4 => exact execWmaxS_answers x0 x1 x2 x3 x4 s
  | .wcmpS x0 x1 x2 x3 x4 x5 => exact execWcmpS_answers x0 x1 x2 x3 x4 x5 s
  | .wselS x0 x1 x2 x3 x4 => exact execWselS_answers x0 x1 x2 x3 x4 s
  | .wcvtS x0 x1 x2 x3 x4 => exact execWcvtS_answers x0 x1 x2 x3 x4 s
  | .wredS x0 x1 x2 x3 x4 => exact execWredS_answers x0 x1 x2 x3 x4 s
  | .wvarS x0 x1 x2 x3 x4 => exact execWvarS_answers x0 x1 x2 x3 x4 s
  | .wshufS x0 x1 x2 x3 x4 => exact execWshufS_answers x0 x1 x2 x3 x4 s
  | .xacc x0 x1 x2 x3 x4 => exact execXacc_answers x0 x1 x2 x3 x4 s
  | .xadd x0 x1 x2 => exact execXadd_answers x0 x1 x2 s
  | .xclr x0 x1 => exact execXclr_answers x0 x1 s
  | .xmov x0 x1 x2 => exact execXmov_answers x0 x1 x2 s
  | .xst x0 x1 => exact execXst_answers x0 x1 s
  | .xld x0 x1 => exact execXld_answers x0 x1 s
  | .xsgn x0 x1 x2 x3 => exact execXsgn_answers x0 x1 x2 x3 s
  | .xrnd x0 x1 x2 x3 x4 => exact execXrnd_answers x0 x1 x2 x3 x4 s
  | .blockFetch x0 x1 => exact execBlockFetch_answers x0 x1 s
  | .resultDelivery x0 x1 x2 => exact execResultDelivery_answers x0 x1 x2 s
  | .blockEnd x0 x1 => exact execBlockEnd_answers x0 x1 s
  | .waitRetry x0 x1 x2 => exact execWaitRetry_answers x0 x1 x2 s
  | .reservationExpire x0 => exact execReservationExpire_answers x0 s
  | .claimWaitEnd x0 x1 x2 => exact execClaimWaitEnd_answers x0 x1 x2 s
  | .queueWaitRetry x0 x1 x2 => exact execQueueWaitRetry_answers x0 x1 x2 s
  | .qtimeout x0 x1 x2 => exact execQtimeout_answers x0 x1 x2 s
  | .cqCombine x0 => exact execCqCombine_answers x0 s
  | .waitPoll x0 x1 x2 => exact execWaitPoll_answers x0 x1 x2 s
  | .waitTimeout x0 x1 x2 => exact execWaitTimeout_answers x0 x1 x2 s
  | .pauseDone x0 x1 x2 => exact execPauseDone_answers x0 x1 x2 s
  | .kwaitDone x0 x1 x2 => exact execKwaitDone_answers x0 x1 x2 s
  | .kwaitLimitExpire x0 x1 x2 => exact execKwaitLimitExpire_answers x0 x1 x2 s
  | .cfgswDrainDone x0 x1 x2 => exact execCfgswDrainDone_answers x0 x1 x2 s
  | .stagingClaimWaitEnd x0 x1 x2 => exact execStagingClaimWaitEnd_answers x0 x1 x2 s
  | .injectSlotRetry x0 x1 x2 => exact execInjectSlotRetry_answers x0 x1 x2 s
  | .wideApply x0 => exact execWideApply_answers x0 s
  | .wrunIteration x0 => exact execWrunIteration_answers x0 s
  | .elementFire x0 x1 x2 => exact execElementFire_answers x0 x1 x2 s
  | .killArrive x0 x1 x2 x3 => exact execKillArrive_answers x0 x1 x2 x3 s
  | .killDiscard x0 x1 x2 x3 => exact execKillDiscard_answers x0 x1 x2 x3 s
  | .lutfDigit x0 x1 => exact execLutfDigit_answers x0 x1 s
  | .meStepDone x0 x1 => exact execMeStepDone_answers x0 x1 s
  | .spRepresent x0 x1 x2 => exact execSpRepresent_answers x0 x1 x2 s
  | .feTimeout x0 x1 x2 => exact execFeTimeout_answers x0 x1 x2 s
  | .extentFetch x0 x1 x2 => exact execExtentFetch_answers x0 x1 x2 s
  | .spillRetry x0 x1 x2 => exact execSpillRetry_answers x0 x1 x2 s
  | .gapplyToken x0 => exact execGapplyToken_answers x0 s
  | .tokenReply x0 => exact execTokenReply_answers x0 s
  | .regionError x0 => exact execRegionError_answers x0 s
  | .invalidation x0 x1 x2 x3 => exact execInvalidation_answers x0 x1 x2 x3 s
  | .qTailWrite x0 x1 => exact execQTailWrite_answers x0 x1 s
  | .qCtlWrite x0 x1 => exact execQCtlWrite_answers x0 x1 s
  | .registerWrite x0 x1 x2 => exact execRegisterWrite_answers x0 x1 x2 s
  | .submissionTake x0 => exact execSubmissionTake_answers x0 s
  | .replayStart x0 => exact execReplayStart_answers x0 s
  | .replayEnd x0 => exact execReplayEnd_answers x0 s
  | .nodeFinish x0 x1 => exact execNodeFinish_answers x0 x1 s
  | .taskPlace x0 => exact execTaskPlace_answers x0 s
  | .taskRetire x0 => exact execTaskRetire_answers x0 s
  | .indirectCountRead x0 x1 => exact execIndirectCountRead_answers x0 x1 s
  | .launchCount x0 x1 => exact execLaunchCount_answers x0 x1 s
  | .condPredicateRead x0 x1 => exact execCondPredicateRead_answers x0 x1 s
  | .loopIteration x0 x1 => exact execLoopIteration_answers x0 x1 s
  | .nodeWaitTimeout x0 x1 => exact execNodeWaitTimeout_answers x0 x1 s
  | .stepsyncMessage x0 x1 x2 x3 => exact execStepsyncMessage_answers x0 x1 x2 x3 s
  | .cwDecide x0 => exact execCwDecide_answers x0 s
  | .copyComplete x0 x1 => exact execCopyComplete_answers x0 x1 s
  | .completionWrite x0 x1 => exact execCompletionWrite_answers x0 x1 s
  | .enginePageResume x0 x1 => exact execEnginePageResume_answers x0 x1 s
  | .imposeComplete x0 => exact execImposeComplete_answers x0 s
  | .dgstComplete x0 => exact execDgstComplete_answers x0 s
  | .preemptRequest x0 => exact execPreemptRequest_answers x0 s
  | .preemptSave x0 x1 => exact execPreemptSave_answers x0 x1 s
  | .containment x0 x1 => exact execContainment_answers x0 x1 s
  | .faultDetect x0 x1 x2 x3 x4 => exact execFaultDetect_answers x0 x1 x2 x3 x4 s
  | .selfTestStart x0 x1 => exact execSelfTestStart_answers x0 x1 s
  | .selfTestEnd x0 x1 x2 x3 => exact execSelfTestEnd_answers x0 x1 x2 x3 s
  | .patrolBist x0 x1 x2 => exact execPatrolBist_answers x0 x1 x2 s
  | .mCmdPreempt  => exact execMCmdPreempt_answers  s
  | .mCmdEndGraph  => exact execMCmdEndGraph_answers  s
  | .mCmdAttest  => exact execMCmdAttest_answers  s
  | .mCmdClearFence  => exact execMCmdClearFence_answers  s
  | .mCmdRecover x0 => exact execMCmdRecover_answers x0 s
  | .mCmdSetHwlim  => exact execMCmdSetHwlim_answers  s
  | .mCmdRefused x0 => exact execMCmdRefused_answers x0 s
  | .mCmdComplete  => exact execMCmdComplete_answers  s
  | .mStatusRead  => exact execMStatusRead_answers  s
  | .bar2Access x0 x1 x2 x3 => exact execBar2Access_answers x0 x1 x2 x3 s
  | .aperturePlain x0 x1 x2 x3 => exact execAperturePlain_answers x0 x1 x2 x3 s
  | .apertureWaitingLoad x0 => exact execApertureWaitingLoad_answers x0 s
  | .apertureFillingStore x0 x1 => exact execApertureFillingStore_answers x0 x1 s
  | .apertureConsumingLoad x0 => exact execApertureConsumingLoad_answers x0 s
  | .apertureClearingStore x0 x1 => exact execApertureClearingStore_answers x0 x1 s
  | .apertureTest x0 => exact execApertureTest_answers x0 s
  | .hostWaitExpire x0 => exact execHostWaitExpire_answers x0 s
  | .msixUnmask x0 => exact execMsixUnmask_answers x0 s
  | .functionLevelReset  => exact execFunctionLevelReset_answers  s
  | .deviceReset  => exact execDeviceReset_answers  s
  | .bootStage x0 => exact execBootStage_answers x0 s
  | .linkFrameReceive x0 x1 x2 x3 x4 x5 => exact execLinkFrameReceive_answers x0 x1 x2 x3 x4 x5 s
  | .linkDown x0 => exact execLinkDown_answers x0 s
  | .channelBind x0 x1 x2 x3 => exact execChannelBind_answers x0 x1 x2 x3 s
  | .clockThrottle x0 => exact execClockThrottle_answers x0 s
  | .clQreqSet x0 => exact execClQreqSet_answers x0 s
  | .clQreqClear x0 => exact execClQreqClear_answers x0 s
  | .clusterQuiesceAck x0 => exact execClusterQuiesceAck_answers x0 s
  | .clSaveGo x0 => exact execClSaveGo_answers x0 s
  | .clusterSaveDone x0 x1 => exact execClusterSaveDone_answers x0 x1 s
  | .clClkgGate x0 => exact execClClkgGate_answers x0 s
  | .clRailOff x0 => exact execClRailOff_answers x0 s
  | .railGoodFall x0 => exact execRailGoodFall_answers x0 s
  | .clWakeGo x0 => exact execClWakeGo_answers x0 s
  | .clusterWakeDone x0 x1 x2 => exact execClusterWakeDone_answers x0 x1 x2 s
  | .clQackWrite x0 => exact execClQackWrite_answers x0 s
  | .asidTeardown x0 => exact execAsidTeardown_answers x0 s
  | .tileReset x0 => exact execTileReset_answers x0 s
  | .forcedPowerLoss x0 => exact execForcedPowerLoss_answers x0 s
  | .crossingSlotArrival x0 x1 x2 => exact execCrossingSlotArrival_answers x0 x1 x2 s
  | .configurationRequest  => exact execConfigurationRequest_answers  s

end Sys2Proof.Machine
end

