-- ==== Sys2Proof/Laws/Firing.lean ====
section
/-! SUPPORT. What firing an instruction that is ready does, in the terms of the statements: one lemma per shared way of firing, and one per
way of leaving the block. -/

namespace Sys2Proof.Laws

open Sys2Proof Sys2Proof.Machine Sys2Proof.Claims

/-- Bit 0 of a word, both ways of saying it. -/
theorem bit_zero (p : Word) : bit p.toNat 0 = p.getLsbD 0 := by
  have h : p.getLsbD 0 = decide (p.toNat % 2 = 1) := by
    rw [BitVec.getLsbD, Nat.testBit_zero]
  rw [h]; simp [bit]; rfl

/-- An instruction that is ready has its slots filled. -/
theorem filled_of {s i b l r p} (h : ready s i b l r p) : (shape i).filled (b.inst s.focus.idx) = true := by
  obtain ⟨_, h1, h2, h3, _, _⟩ := h
  unfold Shape.filled
  cases e1 : (shape i).left <;> cases e2 : (shape i).right <;> cases e3 : (shape i).takesThird <;> simp_all

/-- An instruction that is ready has no null operand. -/
theorem noNull_of {s i b l r p} (h : ready s i b l r p) : (shape i).hasNull (b.inst s.focus.idx) = false := by
  obtain ⟨_, h1, h2, h3, _, _⟩ := h
  unfold Shape.hasNull
  cases e1 : (shape i).left <;> cases e2 : (shape i).right <;> cases e3 : (shape i).takesThird <;> simp_all

/-- The predicate of an instruction that is ready holds. -/
theorem predOk_of {s i b l r p} (h : ready s i b l r p) : (shape i).predOk (b.inst s.focus.idx) = true := by
  obtain ⟨_, h1, h2, h3, h4, h5⟩ := h
  have ht : (shape i).pr = 2#2 ∨ (shape i).pr = 3#2 → (b.inst s.focus.idx).third = some (.val p) := by
    intro h; apply h3; unfold Shape.takesThird; rcases h with h | h <;> simp [h]
  unfold Shape.predOk
  by_cases e2 : (shape i).pr = 2#2
  · have := h4 e2; simp_all [Operand.word, bit_zero]
  · by_cases e3 : (shape i).pr = 3#2
    · have := h5 e3; simp_all [Operand.word, bit_zero]
    · simp [e2, e3]

/-- An instruction that stands and whose slots are filled can fire. -/
theorem canFire_of {s : State} {b : Block} {sh : Shape} (h : standing s b) (hf : sh.filled (b.inst s.focus.idx) = true) : canFire sh s.work = true := by
  obtain ⟨h1, h2, h3, h4⟩ := h
  simp [canFire, h1, h2, h3, h4, hf]

/-- What firing an instruction that is ready does: its act on its operands. -/
theorem fireWith_ready {st s i b l r p} {act} (h : ready s i b l r p) :
    fireWith st (shape i) act s = .next (s.lift (act (Operand.word (b.inst s.focus.idx).left) (Operand.word (b.inst s.focus.idx).right) (Operand.word (b.inst s.focus.idx).third))) := by
  unfold fireWith
  rw [canFire_of h.1 (filled_of h), h.1.1]
  simp [noNull_of h, predOk_of h]

/-- The operands that the act gets. -/
theorem word_left {s i b l r p} (h : ready s i b l r p) (hl : (shape i).left = true) : Operand.word (b.inst s.focus.idx).left = l := by
  rw [h.2.1 hl]; rfl
theorem word_right {s i b l r p} (h : ready s i b l r p) (hl : (shape i).right = true) : Operand.word (b.inst s.focus.idx).right = r := by
  rw [h.2.2.1 hl]; rfl
theorem word_third {s i b l r p} (h : ready s i b l r p) (hl : (shape i).takesThird = true) : Operand.word (b.inst s.focus.idx).third = p := by
  rw [h.2.2.2.1 hl]; rfl

/-- What is sent to the two targets. -/
theorem send_eq (b : Block) (src) (t0 t1) (v) (due) : b.sendBoth src t0 t1 v due = { b with inflight := b.inflight ++ ((if t0 = noTarget then [] else [⟨src, t0, v, due⟩]) ++ (if t1 = noTarget then [] else [⟨src, t1, v, due⟩])) } := by
  unfold Block.sendBoth Block.send
  by_cases h0 : t0 = noTarget <;> by_cases h1 : t1 = noTarget <;> simp [h0, h1]

/-- Delivering a result leaves the whole state that `delivered` names. -/
theorem deliver_eq {s : State} {i b v lat} (h : s.work.block = some b) : s.lift (fun w => w.deliver (shape i) v lat) = delivered s i b v lat := by
  unfold delivered withBlock State.lift Work.deliver
  beta_reduce
  rw [Work.onBlock_of h, send_eq]; rfl

/-- An instruction that only computes delivers its result. -/
theorem fireAlu_ready {s i b l r p f lat} (h : ready s i b l r p) :
    fireAlu (shape i) lat f s = .next (delivered s i b (f (Operand.word (b.inst s.focus.idx).left) (Operand.word (b.inst s.focus.idx).right) (Operand.word (b.inst s.focus.idx).third)) lat) := by
  unfold fireAlu fire
  rw [fireWith_ready h, ← deliver_eq h.1.1]

/-- Firing an instruction that is not store-class. -/
theorem fire_ready {s i b l r p} {act} (h : ready s i b l r p) :
    fire (shape i) act s = .next (s.lift (act (Operand.word (b.inst s.focus.idx).left) (Operand.word (b.inst s.focus.idx).right)
      (Operand.word (b.inst s.focus.idx).third))) := fireWith_ready h

/-- Firing a store-class access whose turn has come. -/
theorem fireMem_store {s i b l r p} {n : Nat} {act} (h : ready s i b l r p) (ht : inTurn s b n) :
    fireMem n true (shape i) act s = .next (s.lift (act (Operand.word (b.inst s.focus.idx).left)
      (Operand.word (b.inst s.focus.idx).right) (Operand.word (b.inst s.focus.idx).third))) := by
  unfold fireMem
  rw [h.1.1]
  simp [ht.1, ht.2, fireWith_ready h]

/-- Firing a load whose turn has come. -/
theorem fireMem_load {s i b l r p} {n : Nat} {act} (h : ready s i b l r p) (ht : loadTurn s b n) :
    fireMem n false (shape i) act s = .next (s.lift (act (Operand.word (b.inst s.focus.idx).left)
      (Operand.word (b.inst s.focus.idx).right) (Operand.word (b.inst s.focus.idx).third))) := by
  unfold fireMem
  rw [h.1.1]
  simp [ht.1.1, ht.1.2, ht.2, fireWith_ready h]

/-- A trap leaves the whole state that `trapped` names. -/
theorem trap_eq {s : State} {b : Block} {cause einfo} (h : s.work.block = some b) :
    s.lift (fun w => w.trap cause einfo) = trapped s b cause einfo := by
  unfold trapped withBlock State.lift Work.trap
  beta_reduce
  rw [Work.onBlock_of h]; rfl

/-- An effect for commit leaves the whole state that `promised` names. -/
theorem effect_eq {s : State} {b : Block} {e : Effect} (h : s.work.block = some b) :
    s.lift (fun w => w.effect e) = promised s b e := by
  unfold promised withBlock State.lift Work.effect
  beta_reduce
  rw [Work.onBlock_of h]; rfl

/-- An event whose meaning answers a work happens. -/
theorem happen_some {f : Work → Option Work} {s : State} {w : Work} (h : f s.work = some w) : happen f s = .next (s.put w) := by
  unfold happen; rw [h]

/-- An event whose meaning answers none is not enabled. -/
theorem happen_none {f : Work → Option Work} {s : State} (h : f s.work = none) : happen f s = .fault .notEnabled := by
  unfold happen; rw [h]

end Sys2Proof.Laws
end

