-- ==== Sys2Proof/Laws/Access.lean ====
section
/-! SUPPORT. What a translation leaves as it was, and what an access does whose address it reaches. -/

namespace Sys2Proof.Laws

open Sys2Proof Sys2Proof.Machine Sys2Proof.Claims

/-- `u` is `w` after translations: the TLBs, the extents, poison of converted pages, tokens and memory may differ, and nothing else. -/
def Translated (w u : Work) : Prop :=
  ∃ log ts es ss ps ks ms, u = { w with log := log, core := { w.core with tiles := ts, elems := es, saved := ss, poison := ps, tokens := ks, marks := ms } }
    ∧ ∀ t, ∃ tlb, u.tile t = { w.tile t with tlb := tlb }

theorem Translated.refl (w : Work) : Translated w w :=
  ⟨w.log, w.core.tiles, w.core.elems, w.core.saved, w.core.poison, w.core.tokens, w.core.marks, rfl, fun t => ⟨(w.tile t).tlb, rfl⟩⟩

theorem Translated.trans {w u v : Work} (h : Translated w u) (k : Translated u v) : Translated w v := by
  obtain ⟨l1, t1, e1, s1, p1, k1, m1, rfl, h1⟩ := h
  obtain ⟨l2, t2, e2, s2, p2, k2, m2, rfl, h2⟩ := k
  refine ⟨l2, t2, e2, s2, p2, k2, m2, rfl, fun t => ?_⟩
  obtain ⟨x, hx⟩ := h1 t
  obtain ⟨y, hy⟩ := h2 t
  exact ⟨y, by rw [hy, hx]⟩

/-- A lookup in a map whose values have all been changed. -/
theorem mapGet_map {α : Type} (d : α) (f : α → α) (hd : f d = d) (k : Nat) (m : List (Nat × α)) :
    mapGet d k (m.map (fun x => (x.1, f x.2))) = f (mapGet d k m) := by
  induction m with
  | nil => exact hd.symm
  | cons e m ih =>
    simp only [List.map_cons, mapGet]
    split <;> simp_all

theorem store_translated (n : Nat) : ∀ (w : Work) (a v : Nat), Translated w (w.store a n v) := by
  induction n with
  | zero => exact fun w _ _ => .refl w
  | succ n ih =>
    intro w a v
    refine Translated.trans ?_ (ih _ _ _)
    exact ⟨_, w.core.tiles, w.core.elems, w.core.saved, w.core.poison, w.core.tokens, w.core.marks, rfl, fun t => ⟨(w.tile t).tlb, rfl⟩⟩

theorem markEntry_translated (w : Work) (ea : Nat) (write conv : Bool) : Translated w (w.markEntry ea write conv) := by
  unfold Work.markEntry
  dsimp only
  split
  · exact ⟨w.log, w.core.tiles, w.core.elems, w.core.saved, w.core.poison, w.core.tokens, _, rfl, fun t => ⟨(w.tile t).tlb, rfl⟩⟩
  · exact store_translated 8 w ea _

theorem updateEntry_translated (w : Work) (te : TlbEntry) (write conv : Bool) : Translated w (w.updateEntry te write conv) := by
  refine (markEntry_translated w te.entry write conv).trans ?_
  let f (x : Tile) : Tile := { x with tlb := Work.refreshEntry te.entry write conv x.tlb }
  exact ⟨_, _, _, _, _, _, _, rfl, fun t => ⟨(f (Work.tile _ t)).tlb, mapGet_map ({} : Tile) f rfl t _⟩⟩

theorem convertPage_translated (w : Work) (frame : Nat) (full : Bool) : Translated w (w.convertPage frame full) :=
  ⟨_, _, _, _, _, _, _, rfl, fun t => ⟨(w.tile t).tlb, rfl⟩⟩

theorem touch_translated (w : Work) (te : TlbEntry) (write conv : Bool) : Translated w (w.touch te write conv) := by
  unfold Work.touch
  dsimp only
  split <;> split
  · exact convertPage_translated _ _ _
  · exact .refl _
  · exact (convertPage_translated _ _ _).trans (updateEntry_translated _ _ _ _)
  · exact updateEntry_translated _ _ _ _

theorem findEntry_translated (w : Work) (q : Who) (va : Nat) : Translated w (w.findEntry q va).1 := by
  unfold Work.findEntry
  dsimp only
  repeat (first | split | exact .refl _)
  refine ⟨w.log, _, _, _, _, _, _, rfl, fun t => ?_⟩
  rename_i t0 _
  by_cases h : t = t0
  · subst h; exact ⟨_, Work.tile_setTile_same _ _ _⟩
  · exact ⟨_, Work.tile_setTile_other _ _ _ _ h⟩

theorem throughEntry_translated (w : Work) (q : Who) (form : AccForm) (size va : Nat) (te : TlbEntry) :
    Translated w (w.throughEntry q form size va te).1 := by
  unfold Work.throughEntry Work.entryGives
  dsimp only
  repeat (first | split | exact .refl _ | exact touch_translated _ _ _ _)

/-- What a translation can change. -/
theorem translate_translated (w : Work) (q : Who) (form : AccForm) (size va : Nat) : Translated w (w.translate q form size va).1 := by
  unfold Work.translate
  dsimp only
  split
  · repeat (first | split | exact .refl _)
  · split
    · exact .refl _
    · have h := findEntry_translated w q va
      split
      · rename_i e; rw [e] at h; exact h
      · rename_i e; rw [e] at h; exact h.trans (throughEntry_translated _ _ _ _ _ _)

variable {w u : Work}

theorem Translated.focus (h : Translated w u) : u.focus = w.focus := by obtain ⟨_, _, _, _, _, _, _, rfl, _⟩ := h; rfl
theorem Translated.now (h : Translated w u) : u.now = w.now := by obtain ⟨_, _, _, _, _, _, _, rfl, _⟩ := h; rfl
theorem Translated.claims (h : Translated w u) : u.core.claims = w.core.claims := by obtain ⟨_, _, _, _, _, _, _, rfl, _⟩ := h; rfl
theorem Translated.resv (h : Translated w u) : u.core.resv = w.core.resv := by obtain ⟨_, _, _, _, _, _, _, rfl, _⟩ := h; rfl
theorem Translated.regions (h : Translated w u) : u.core.regions = w.core.regions := by obtain ⟨_, _, _, _, _, _, _, rfl, _⟩ := h; rfl
theorem Translated.ctx (h : Translated w u) (t c : Nat) : u.ctx t c = w.ctx t c := by
  obtain ⟨_, _, _, _, _, _, _, _, ht⟩ := h
  obtain ⟨x, hx⟩ := ht t
  simp [Work.ctx, hx]
theorem Translated.me (h : Translated w u) : u.me = w.me := by rw [Work.me, Work.me, h.focus, h.ctx]
theorem Translated.party (h : Translated w u) : u.party = w.party := by rw [Work.party, Work.party, h.focus]
theorem Translated.block (h : Translated w u) : u.block = w.block := by rw [Work.block, Work.block, h.focus, h.ctx]
theorem Translated.det (h : Translated w u) : u.det = w.det := by rw [Work.det, Work.det, h.me]

/-- A context's address is S_DSEG's segment and the 64 bits of its effective address (11 R209). -/
theorem va_of (w : Work) (ea : Nat) (h : ea < 2 ^ 64) : w.va ea = w.me.dseg.toNat * 2 ^ 64 + ea := by
  rw [Work.va, low, Nat.mod_eq_of_lt h, Nat.mul_comm]

/-- What an access that reaches its address goes on to. -/
theorem access_of {s : State} {form : AccForm} {size ea pa : Nat} {w : Work} {u : Option Bool} {k : Work → Nat → Option Bool → Work}
    (h : reaches s form size ea w pa u) (he : ea < 2 ^ 64) : s.work.access form size ea k = k w pa u := by
  obtain ⟨h1, h2, h3⟩ := h
  unfold Work.access
  rw [va_of _ _ he, if_neg (by simp [h1]), h2]
  dsimp only
  rw [h3]

/-- After a translation that reached, the machine is as before but for what translations change. -/
theorem reaches_translated {s : State} {form : AccForm} {size ea pa : Nat} {w : Work} {u : Option Bool} (h : reaches s form size ea w pa u) :
    Translated s.work w := by
  have := translate_translated s.work s.work.who form size (s.work.me.dseg.toNat * 2 ^ 64 + ea)
  rwa [h.2.1] at this

end Sys2Proof.Laws
end

