-- ==== Sys2Proof/Laws/Memory.lean ====
section
/-! SUPPORT. Memory and the presence bits keep their canonical form under every change, and read after write. -/

namespace Sys2Proof.Machine

open Sys2Proof

/-! ### Bytes -/

theorem memWfFrom_weaken {lo lo' : Option Nat} {m : List Host.Cell} (h : memWfFrom lo m = true)
    (hl : ∀ l', lo' = some l' → ∃ l, lo = some l ∧ l' ≤ l) : memWfFrom lo' m = true := by
  cases m with
  | nil => rfl
  | cons c m =>
    obtain ⟨b, v⟩ := c
    simp only [memWfFrom, Bool.and_eq_true] at h ⊢
    refine ⟨⟨?_, h.1.2⟩, h.2⟩
    cases lo' with
    | none => rfl
    | some l' =>
      obtain ⟨l, rfl, hle⟩ := hl l' rfl
      simp only [decide_eq_true_eq] at h ⊢
      omega

theorem memWf_tail {c : Host.Cell} {m : List Host.Cell} {lo : Option Nat} (h : memWfFrom lo (c :: m) = true) :
    memWfFrom (some c.1) m = true := by
  obtain ⟨b, v⟩ := c
  simp only [memWfFrom, Bool.and_eq_true] at h
  exact h.2

theorem memSet_wf {m : List Host.Cell} {lo : Option Nat} (a : Nat) (v : Byte) (h : memWfFrom lo m = true)
    (hl : ∀ l, lo = some l → l < a) : memWfFrom lo (memSet m a v) = true := by
  induction m generalizing lo with
  | nil =>
    unfold memSet
    split
    · rfl
    · rename_i hv
      simp only [memWfFrom, Bool.and_true, Bool.and_eq_true, bne_iff_ne, ne_eq]
      refine ⟨?_, fun e => hv (beq_iff_eq.mpr e)⟩
      cases lo with
      | none => rfl
      | some l => simpa using hl l rfl
  | cons c m ih =>
    obtain ⟨b, u⟩ := c
    have h0 := h
    simp only [memWfFrom, Bool.and_eq_true, bne_iff_ne, ne_eq] at h
    obtain ⟨⟨hb, hu⟩, ht⟩ := h
    unfold memSet
    split
    · rename_i hab
      split
      · exact h0
      · rename_i hv
        simp only [memWfFrom, Bool.and_eq_true, bne_iff_ne, ne_eq, decide_eq_true_eq]
        refine ⟨⟨?_, fun e => hv (beq_iff_eq.mpr e)⟩, ⟨hab, hu⟩, ht⟩
        cases lo with
        | none => rfl
        | some l => simpa using hl l rfl
    · split
      · rename_i hab
        have hab : a = b := by simpa using hab
        subst hab
        split
        · refine memWfFrom_weaken ht ?_
          intro l' hl'
          exact ⟨a, rfl, by have := hl l' hl'; omega⟩
        · rename_i hv
          simp only [memWfFrom, Bool.and_eq_true, bne_iff_ne, ne_eq]
          exact ⟨⟨hb, fun e => hv (beq_iff_eq.mpr e)⟩, ht⟩
      · rename_i h1 h2
        have h2 : a ≠ b := by simpa using h2
        simp only [memWfFrom, Bool.and_eq_true, bne_iff_ne, ne_eq]
        refine ⟨⟨hb, hu⟩, ih ht ?_⟩
        intro l hl'
        cases hl'
        omega

theorem memZero_wf {m : List Host.Cell} {lo : Option Nat} (a n : Nat) (h : memWfFrom lo m = true) :
    memWfFrom lo (memZero m a n) = true := by
  induction m generalizing lo with
  | nil => rfl
  | cons c m ih =>
    obtain ⟨b, u⟩ := c
    have ht := ih (memWf_tail h)
    simp only [memWfFrom, Bool.and_eq_true] at h
    unfold memZero at ht ⊢
    rw [List.filter_cons]
    split
    · simp only [memWfFrom, Bool.and_eq_true]
      exact ⟨h.1, ht⟩
    · refine memWfFrom_weaken ht ?_
      intro l' hl'
      subst hl'
      have := h.1.1
      simp only [decide_eq_true_eq] at this
      exact ⟨b, rfl, by omega⟩

/-- Every change of a log keeps memory canonical. -/
theorem applyMem_wf {m : List Host.Cell} (log : List MemOp) (h : Memory.wf m = true) : Memory.wf (applyMem m log) = true := by
  induction log with
  | nil => exact h
  | cons op log ih =>
    cases op with
    | byte a v => exact memSet_wf a v ih (by simp)
    | zero a n => exact memZero_wf a n ih
    | bit k b => exact ih
    | bits k n b => exact ih

theorem memGet_above {m : List Host.Cell} {l a : Nat} (h : memWfFrom (some l) m = true) (ha : a ≤ l) : memGet m a = memDefault := by
  induction m generalizing l with
  | nil => rfl
  | cons c m ih =>
    obtain ⟨b, u⟩ := c
    have ht := memWf_tail h
    simp only [memWfFrom, Bool.and_eq_true, decide_eq_true_eq] at h
    have hne : (a == b) = false := by simp; omega
    simp only [memGet, hne]
    exact ih ht (by simp; omega)

/-- A byte reads as it was written. -/
theorem memGet_memSet_same {m : List Host.Cell} {lo : Option Nat} (a : Nat) (v : Byte) (h : memWfFrom lo m = true) :
    memGet (memSet m a v) a = v := by
  induction m generalizing lo with
  | nil =>
    unfold memSet
    split
    · rename_i hv; rw [beq_iff_eq] at hv; simp [memGet, hv]
    · simp [memGet]
  | cons c m ih =>
    obtain ⟨b, u⟩ := c
    have ht := memWf_tail h
    unfold memSet
    split
    · rename_i hab
      split
      · rename_i hv
        rw [beq_iff_eq] at hv
        have hne : (a == b) = false := by simp; omega
        simp only [memGet, hne, hv]
        exact memGet_above ht (by simp; omega)
      · simp [memGet]
    · split
      · rename_i hab
        have hab : a = b := by simpa using hab
        subst hab
        split
        · rename_i hv
          rw [beq_iff_eq] at hv
          rw [hv]
          exact memGet_above ht (Nat.le_refl a)
        · simp [memGet]
      · rename_i h1 h2
        have hne : (a == b) = false := by simpa using h2
        simp only [memGet, hne]
        exact ih ht

/-- A write leaves every other byte alone. -/
theorem memGet_memSet_other (m : List Host.Cell) (a b : Nat) (v : Byte) (h : b ≠ a) : memGet (memSet m a v) b = memGet m b := by
  have hne : (b == a) = false := by simpa using h
  induction m with
  | nil =>
    unfold memSet
    split
    · rfl
    · simp [memGet, hne]
  | cons c m ih =>
    obtain ⟨d, u⟩ := c
    unfold memSet
    split
    · split
      · rfl
      · simp [memGet, hne]
    · split
      · rename_i hab
        have hab : a = d := by simpa using hab
        subst hab
        split
        · simp [memGet, hne]
        · simp [memGet, hne]
      · simp only [memGet, ih]

theorem memGet_memZero {m : List Host.Cell} {lo : Option Nat} (a n b : Nat) (h : memWfFrom lo m = true) :
    memGet (memZero m a n) b = if a ≤ b && b < a + n then memDefault else memGet m b := by
  induction m generalizing lo with
  | nil => simp [memZero, memGet]
  | cons c m ih =>
    obtain ⟨d, u⟩ := c
    have ht := memWf_tail h
    have ih := ih ht
    unfold memZero at ih ⊢
    rw [List.filter_cons]
    by_cases hbd : b = d
    · subst hbd
      split
      · rename_i hk
        simp only [Bool.or_eq_true, decide_eq_true_eq] at hk
        have hc : ¬ (a ≤ b ∧ b < a + n) := by omega
        simp [memGet, hc]
      · rename_i hk
        simp only [Bool.or_eq_true, decide_eq_true_eq] at hk
        rw [ih, memGet_above ht (Nat.le_refl b)]
        have hc : a ≤ b ∧ b < a + n := by omega
        simp [hc]
    · have hne : (b == d) = false := by simpa using hbd
      split
      · simp only [memGet, hne]
        exact ih
      · rw [ih]
        simp only [memGet, hne]
        rfl

/-- What a meaning reads through its log is what memory holds once the log is applied. -/
theorem byteFrom_applyMem {m : List Host.Cell} (h : Memory.wf m = true) (log : List MemOp) (a : Nat) :
    memGet (applyMem m log) a = Work.byteFrom m a log := by
  induction log with
  | nil => rfl
  | cons op log ih =>
    have hw := applyMem_wf log h
    cases op with
    | byte b v =>
      simp only [applyMem, MemOp.onMem, Work.byteFrom]
      by_cases e : a = b
      · subst e; simp [memGet_memSet_same a v hw]
      · have hne : (a == b) = false := by simpa using e
        rw [memGet_memSet_other _ _ _ _ e, ih]; simp [hne]
    | zero b n =>
      simp only [applyMem, MemOp.onMem, Work.byteFrom]
      rw [memGet_memZero b n a hw, ih]
    | bit k b => exact ih
    | bits k n b => exact ih

/-! ### Presence bits -/

theorem fullWfFrom_weaken {lo lo' : Option Nat} {f : List Nat} (h : fullWfFrom lo f = true)
    (hl : ∀ l', lo' = some l' → ∃ l, lo = some l ∧ l' ≤ l) : fullWfFrom lo' f = true := by
  cases f with
  | nil => rfl
  | cons j f =>
    simp only [fullWfFrom, Bool.and_eq_true] at h ⊢
    refine ⟨?_, h.2⟩
    cases lo' with
    | none => rfl
    | some l' =>
      obtain ⟨l, rfl, hle⟩ := hl l' rfl
      simp only [decide_eq_true_eq] at h ⊢
      omega

theorem fullSet_wf {f : List Nat} {lo : Option Nat} (k : Nat) (b : Bool) (h : fullWfFrom lo f = true)
    (hl : ∀ l, lo = some l → l < k) : fullWfFrom lo (fullSet f k b) = true := by
  induction f generalizing lo with
  | nil =>
    unfold fullSet
    split
    · simp only [fullWfFrom, Bool.and_true]
      cases lo with
      | none => rfl
      | some l => simpa using hl l rfl
    · rfl
  | cons j f ih =>
    have h0 := h
    simp only [fullWfFrom, Bool.and_eq_true] at h
    unfold fullSet
    split
    · rename_i hkj
      split
      · simp only [fullWfFrom, Bool.and_eq_true, decide_eq_true_eq]
        refine ⟨?_, hkj, h.2⟩
        cases lo with
        | none => rfl
        | some l => simpa using hl l rfl
      · exact h0
    · split
      · rename_i hkj
        have hkj : k = j := by simpa using hkj
        subst hkj
        split
        · exact h0
        · refine fullWfFrom_weaken h.2 ?_
          intro l' hl'
          exact ⟨k, rfl, by have := hl l' hl'; omega⟩
      · rename_i h1 h2
        have h2 : k ≠ j := by simpa using h2
        simp only [fullWfFrom, Bool.and_eq_true]
        refine ⟨h.1, ih h.2 ?_⟩
        intro l hl'
        cases hl'
        omega

theorem fullClear_wf {f : List Nat} {lo : Option Nat} (k n : Nat) (h : fullWfFrom lo f = true) :
    fullWfFrom lo (fullClear f k n) = true := by
  induction f generalizing lo with
  | nil => rfl
  | cons j f ih =>
    simp only [fullWfFrom, Bool.and_eq_true] at h
    have ht := ih h.2
    unfold fullClear at ht ⊢
    rw [List.filter_cons]
    split
    · simp only [fullWfFrom, Bool.and_eq_true]
      exact ⟨h.1, ht⟩
    · refine fullWfFrom_weaken ht ?_
      intro l' hl'
      subst hl'
      have := h.1
      simp only [decide_eq_true_eq] at this
      exact ⟨j, rfl, by omega⟩

theorem fullFill_wf {f : List Nat} (k n : Nat) (h : fullWf f = true) : fullWf (fullFill f k n) = true := by
  induction n with
  | zero => exact h
  | succ n ih => exact fullSet_wf (k + n) true ih (by simp)

/-- Every change of a log keeps the presence bits canonical. -/
theorem applyFull_wf {f : List Nat} (log : List MemOp) (h : fullWf f = true) : fullWf (applyFull f log) = true := by
  induction log with
  | nil => exact h
  | cons op log ih =>
    cases op with
    | byte a v => exact ih
    | zero a n => exact ih
    | bit k b => exact fullSet_wf k b ih (by simp)
    | bits k n b =>
      cases b with
      | true => exact fullFill_wf k n ih
      | false => exact fullClear_wf k n ih

theorem fullGet_above {f : List Nat} {l k : Nat} (h : fullWfFrom (some l) f = true) (hk : k ≤ l) : fullGet f k = false := by
  induction f generalizing l with
  | nil => rfl
  | cons j f ih =>
    simp only [fullWfFrom, Bool.and_eq_true, decide_eq_true_eq] at h
    have hne : (k == j) = false := by simp; omega
    simp only [fullGet, hne]
    exact ih h.2 (by omega)

/-- A bit reads as it was set, and setting one leaves the others alone. -/
theorem fullGet_fullSet {f : List Nat} {lo : Option Nat} (k j : Nat) (b : Bool) (h : fullWfFrom lo f = true) :
    fullGet (fullSet f k b) j = if j == k then b else fullGet f j := by
  induction f generalizing lo with
  | nil => cases b <;> simp [fullSet, fullGet]
  | cons i f ih =>
    simp only [fullWfFrom, Bool.and_eq_true] at h
    have ih := ih h.2
    by_cases hjk : j = k
    · subst hjk
      simp only [beq_self_eq_true, if_true] at ih ⊢
      unfold fullSet
      split
      · rename_i hlt
        cases b with
        | true => simp [fullGet]
        | false =>
          have hne : (j == i) = false := by simp; omega
          simp only [Bool.false_eq_true, if_false, fullGet, hne]
          exact fullGet_above h.2 (by omega)
      · split
        · rename_i he
          have he : j = i := by simpa using he
          subst he
          cases b with
          | true => simp [fullGet]
          | false => simpa using fullGet_above h.2 (Nat.le_refl j)
        · rename_i h1 h2
          have hne : (j == i) = false := by simpa using h2
          simp only [fullGet, hne]
          exact ih
    · have hne : (j == k) = false := by simpa using hjk
      simp only [hne] at ih ⊢
      unfold fullSet
      split
      · cases b <;> simp [fullGet, hne]
      · split
        · rename_i he
          have he : k = i := by simpa using he
          subst he
          cases b <;> simp [fullGet, hne]
        · simp only [fullGet, ih]
          rfl

end Sys2Proof.Machine
end

