-- ==== Sys2Proof/Tests/Slice0.lean ====
section
/-! SUPPORT. The model's own tests: ill-formed terms that well-formedness refuses, words written out from the encodings of spec/, one step
on small states, and for each statement a state and operands that meet its premises. Expected values stand in the rules cited. -/

namespace Sys2Proof.Tests

open Sys2Proof Sys2Proof.Machine Sys2Proof.Claims
set_option Elab.async false

/-! ### States -/

/-- A block of three instructions, the second of them holding `x`, the others without operands. -/
def oneBlock (x : InstState) : Block :=
  { addr := 0x400, words := [0, 0, 0], writes := [5], held := [none], nr := 0, ns := 0, fw := false, insts := [{}, x, {}] }

/-- Block `b` in flight in context 1 of tile 3, in firmware mode, under ASID 5, with data addresses in segment 0xFF (the stashes, 05 R91);
the second instruction is in focus. -/
def withOne (b : Block) : State :=
  let s := State.reset.lift (fun w => w.setCtx 3 1 { status := .running, block := some b, asid := 5, fw := true, dseg := 0xFF })
  { s with focus := ⟨3, 1, 1⟩, now := 77 }

/-- The operands of the second instruction. -/
def operands (l r p : Word) : InstState := { left := some (.val l), right := some (.val r), third := some (.val p) }

/-- The state in which the second instruction may fire. -/
def firing (l r p : Word) : State := withOne (oneBlock (operands l r p))

theorem ready_firing (i : Instr) (l r p : Word) (h2 : (shape i).pr = 2#2 → p.getLsbD 0 = false) (h3 : (shape i).pr = 3#2 → p.getLsbD 0 = true) :
    ready (firing l r p) i (oneBlock (operands l r p)) l r p :=
  ⟨⟨rfl, rfl, by show 1 < 3; decide, rfl⟩, fun _ => rfl, fun _ => rfl, fun _ => rfl, h2, h3⟩

/-- A pair whose second part is known. -/
theorem pair_of {α β : Type} {p : α × β} {b : β} (h : p.2 = b) : p = (p.1, b) := by rw [← h]

/-- An access reaches a physical address (R209, R210). -/
theorem reaches_of {s : State} {form : AccForm} {size ea pa : Nat} {u : Option Bool}
    (h : ea % size = 0 ∧ (s.work.translate s.work.who form size (s.work.me.dseg.toNat * 2 ^ 64 + ea)).2 = .ok pa u
      ∧ (s.work.translate s.work.who form size (s.work.me.dseg.toNat * 2 ^ 64 + ea)).1.poisonOf pa = none) :
    reaches s form size ea (s.work.translate s.work.who form size (s.work.me.dseg.toNat * 2 ^ 64 + ea)).1 pa u :=
  ⟨h.1, pair_of h.2.1, h.2.2⟩

/-- A change of the core of a state. -/
def withCore (s : State) (f : Core → Core) : State := { s with core := f s.core }

/-- Words of memory and their presence bits set before a test. -/
def withWords (s : State) (ws : List (Nat × Word × Bool)) : State :=
  s.lift (fun w => ws.foldl (fun w x => (w.putWord x.1 x.2.1).setBit (x.1 / 8) x.2.2) w)

/-- Another context registers' value for context 1 of tile 3. -/
def withCtx (s : State) (f : Ctx → Ctx) : State := s.lift (fun w => w.setCtx 3 1 (f (w.ctx 3 1)))

/-! ### Premises of the statements on instructions: each shown by a state and operands that meet them -/

theorem wit_integer : (∃ s b, arithResult (.shl 2 1 0x180) 3 63 = some 0x8000000000000000 ∧ ready s (.shl 2 1 0x180) b 3 63 0)
    ∧ (∃ s b, mulDivResult (.div 3 1 0x180) 0x8000000000000000 0xFFFFFFFFFFFFFFFF = some (0x8000000000000000, 36)
        ∧ ready s (.div 3 1 0x180) b 0x8000000000000000 0xFFFFFFFFFFFFFFFF 1)
    ∧ opXop (.subw 0 1 0x180) = some (1, 18) ∧ opOf 0x024C0000 = 1 ∧ 19 ≤ xopOf 0x024C0000 ∧ opOf 0x04340000 = 2 ∧ 13 ≤ xopOf 0x04340000 :=
  ⟨⟨_, _, by decide, ready_firing _ _ _ _ (by decide) (by decide)⟩, ⟨_, _, by decide +kernel, ready_firing _ _ _ _ (by decide) (by decide)⟩,
   by decide, by decide, by decide, by decide, by decide⟩

theorem wit_one_operand : (∃ s b P, unaryIs (.zextw 0 1 0x180) 0xFFFFFFFFFFFFFFFF 0xFFFFFFFF = some P ∧ P
      ∧ ready s (.zextw 0 1 0x180) b 0xFFFFFFFFFFFFFFFF 0 0)
    ∧ (∃ s b v, immediateResult (.addi 0 0x2000 0x180) 0 0 = some v ∧ ready s (.addi 0 0x2000 0x180) b 0 0 0)
    ∧ (∃ s b, ready s (.ext 0 63 0 0x180) b 5 0 0 ∧ ∀ k, k < 64 → (5 : Word).getLsbD k = (decide (k ≤ 63) && (5 : Word).getLsbD (0 + k)))
    ∧ (∃ s b, ready s (.exts 0 0 63 0x180) b 0x8000000000000000 0 0
        ∧ ∀ k, k < 64 → (0xFFFFFFFFFFFFFFFF : Word).getLsbD k = (0x8000000000000000 : Word).getLsbD (63 + min k 0))
    ∧ (∃ s b, ready s (.ins 0 63 0 0x180) b 0 7 0 ∧ ∀ k, k < 64 → (7 : Word).getLsbD k =
        if 0 ≤ k ∧ k ≤ 0 + 63 then (7 : Word).getLsbD (k - 0) else (0 : Word).getLsbD k) :=
  ⟨⟨_, _, _, rfl, by decide +kernel, ready_firing _ _ _ _ (by decide) (by decide)⟩,
   ⟨_, _, _, rfl, ready_firing _ _ _ _ (by decide) (by decide)⟩,
   ⟨_, _, ready_firing _ _ _ 0 (by decide) (by decide), by decide⟩, ⟨_, _, ready_firing _ _ _ 0 (by decide) (by decide), by decide⟩,
   ⟨_, _, ready_firing _ _ _ 0 (by decide) (by decide), by decide⟩⟩

theorem wit_compare : (∃ s b, compareHolds (.tgeui 0 0x3FFF 0x180) 0xFFFFFFFFFFFFFFFF 0 = some true
      ∧ ready s (.tgeui 0 0x3FFF 0x180) b 0xFFFFFFFFFFFFFFFF 0 0)
    ∧ opXop (.tbc 0 1 0x180) = some (0x10, 11) ∧ compareOp (.tgeui 0 0 0) = some 0x18 ∧ opOf 0x20300000 = 0x10 ∧ 12 ≤ xopOf 0x20300000 :=
  ⟨⟨_, _, by decide, ready_firing _ _ _ _ (by decide) (by decide)⟩, by decide, by decide, by decide, by decide⟩

theorem wit_nulls : (∃ s b, ready s (.null 0 1 0x180) b 0 0 0)
    ∧ (∃ s b, (Instr.stf8 0 31 0).isEncoded = true ∧ s.work.wideIdle = true ∧ standing s b
        ∧ (shape (.stf8 0 31 0)).filled (b.inst s.focus.idx) = true ∧ (shape (.stf8 0 31 0)).hasNull (b.inst s.focus.idx) = true)
    ∧ (∃ s b, (Instr.add 3 1 2).isEncoded = true ∧ s.work.wideIdle = true ∧ standing s b
        ∧ (shape (.add 3 1 2)).filled (b.inst s.focus.idx) = true ∧ (shape (.add 3 1 2)).hasNull (b.inst s.focus.idx) = false
        ∧ (b.inst s.focus.idx).third = some (.val 2) ∧ ((shape (.add 3 1 2)).pr = 2#2 ∧ (2 : Word).getLsbD 0 = true
          ∨ (shape (.add 3 1 2)).pr = 3#2 ∧ (2 : Word).getLsbD 0 = false)) :=
  ⟨⟨_, _, ready_firing _ 0 0 0 (by decide) (by decide)⟩,
   ⟨withOne (oneBlock { left := some .null, right := some (.val 1) }), oneBlock { left := some .null, right := some (.val 1) },
     by unfold standing; decide +kernel⟩,
   ⟨firing 1 1 2, oneBlock (operands 1 1 2), by unfold standing; decide +kernel⟩⟩

/-- 1 + 1 = 2 in FP32, exactly. -/
theorem rounds_two : roundsTo fp32 0 false (fun t => SignType.sign (|(2 : ℚ)| - t)) 0x40000000 0 := by
  refine ⟨0x40000000, by decide +kernel, .inr ?_⟩
  refine ⟨by decide +kernel, by decide +kernel, by decide +kernel, by decide +kernel, by decide +kernel, by decide +kernel⟩

/-- The root of 4 in FP32. -/
theorem rounds_root : roundsTo fp32 0 false (fun t => SignType.sign (fpValue fp32 0x40800000 - t ^ 2)) 0x40000000 0 := by
  refine ⟨0x40000000, by decide +kernel, .inr ?_⟩
  refine ⟨by decide +kernel, by decide +kernel, by decide +kernel, by decide +kernel, by decide +kernel, by decide +kernel⟩

theorem one_and_one : floatExact (.faddS 0 0 1 2) 0x3F800000 0x3F800000 0 = some (fp32, 0, 2, 4) := by
  have h : fpValue fp32 0x3F800000 = 1 := by decide +kernel
  have e : floatExact (.faddS 0 0 1 2) 0x3F800000 0x3F800000 0 = some (fp32, 0, fpValue fp32 0x3F800000 + fpValue fp32 0x3F800000, 4) := rfl
  rw [e, h]; norm_num

theorem wit_float_rounds : (∃ s b, floatExact (.faddS 0 0 1 2) 0x3F800000 0x3F800000 0 = some (fp32, 0, 2, 4) ∧ (2 : ℚ) ≠ 0
      ∧ roundsTo fp32 0 (decide ((2 : ℚ) < 0)) (fun t => SignType.sign (|(2 : ℚ)| - t)) 0x40000000 0
      ∧ ready s (.faddS 0 0 1 2) b 0x3F800000 0x3F800000 0)
    ∧ (∃ s b, floatRoot (.fsqrtS 0 0 1 2) = some (fp32, 0, 12) ∧ fpFinite fp32 0x40800000 = true ∧ 0 < fpValue fp32 0x40800000
      ∧ roundsTo fp32 0 false (fun t => SignType.sign (fpValue fp32 0x40800000 - t ^ 2)) 0x40000000 0
      ∧ ready s (.fsqrtS 0 0 1 2) b 0x40800000 0 0) :=
  ⟨⟨_, _, one_and_one, by decide +kernel, rounds_two, ready_firing _ _ _ _ (by decide) (by decide)⟩,
   ⟨_, _, by decide, by decide, by decide +kernel, rounds_root, ready_firing _ _ _ _ (by decide) (by decide)⟩⟩

theorem wit_float_special : ∃ s b, floatSpecial (.fdivD 0 0 1 2) 0x3FF0000000000000 0 0 = some (some (0x7FF0000000000000, 8), 20)
    ∧ ready s (.fdivD 0 0 1 2) b 0x3FF0000000000000 0 0 :=
  ⟨_, _, by decide +kernel, ready_firing _ _ _ _ (by decide) (by decide)⟩

theorem wit_float_select : (∃ s b v, floatSelect (.fmin 0 1 1 2) 0x80000000 0 = some v ∧ ready s (.fmin 0 1 1 2) b 0x80000000 0 0)
    ∧ (∃ s b v, floatToInteger (.fcvtID 0 1 1 2) 0x43E0000000000000 = some v ∧ ready s (.fcvtID 0 1 1 2) b 0x43E0000000000000 0 0) :=
  ⟨⟨_, _, _, rfl, ready_firing _ _ _ _ (by decide) (by decide)⟩, ⟨_, _, _, rfl, ready_firing _ _ _ _ (by decide) (by decide)⟩⟩

theorem wit_exits : (∃ s b k a, directExit (.br 0 0 0x80000) b.addr = some (k, a) ∧ ready s (.br 0 0 0x80000) b 0 0 0)
    ∧ (∃ s b k, indirectExit (.calli 0 0) = some k ∧ (0xFFFFFFFFFFFFFFF0 : Word).toNat % 16 = 0
        ∧ ready s (.calli 0 0) b 0xFFFFFFFFFFFFFFF0 0 0)
    ∧ (∃ s b k, indirectExit (.ret 3 0) = some k ∧ (8 : Word).toNat % 16 ≠ 0 ∧ ready s (.ret 3 0) b 8 0 1)
    ∧ (∃ s b k a x, directExit (.halt 0) b.addr = some (k, a) ∧ b.exits = [x] ∧ x.idx ≠ s.focus.idx ∧ x.idx < b.insts.length ∧ ready s (.halt 0) b 0 0 0) :=
  ⟨⟨_, _, _, _, rfl, ready_firing _ _ _ _ (by decide) (by decide)⟩, ⟨_, _, _, rfl, by decide, ready_firing _ _ _ 0 (by decide) (by decide)⟩,
   ⟨_, _, _, rfl, by decide, ready_firing _ _ 0 _ (by decide) (by decide)⟩,
   ⟨withOne { oneBlock (operands 0 0 0) with exits := [⟨0, .branch, 0⟩] }, { oneBlock (operands 0 0 0) with exits := [⟨0, .branch, 0⟩] }, _, _, _,
     rfl, rfl, by decide, by decide, by unfold ready standing; decide +kernel⟩⟩

theorem wit_special : (∃ s b v, specialRegister s.work.me 6 = some v ∧ (∀ o ∈ (s.work.tile s.focus.tile).wq, o.party ≠ s.work.party)
      ∧ (∀ r, (s.work.tile s.focus.tile).wide.run = some r → r.op.party ≠ s.work.party) ∧ ready s (.mfs 0 6 0x180) b 0 0 0)
    ∧ (∃ s b, ready s (.mfs 0 4 0x180) b 0 0 0 ∧ (s.work.tile s.focus.tile).stopped = none)
    ∧ (∃ s b, ready s (.mfs 0 0 0x180) b 0 0 0 ∧ s.focus.tile < 160) ∧ (∃ s b, ready s (.mfs 0 1 0x180) b 0 0 0 ∧ s.focus.ctx < 4)
    ∧ (∃ s b, ready s (.mfs 0 0x806 0x180) b 0 0 0)
    ∧ (∃ s b, ready s (.badr 0 0x2000 0x180) b 0 0 0) ∧ (∃ s b, ready s (.rnext 0 1 0x180) b 1 0 0) ∧ (∃ s b, ready s (.mts 0 0x806) b 1 0 0)
    ∧ (∃ s b, ready s (.fence 0 5) b 0 0 0) ∧ (∃ s b, ready s (.trap 3 0x3FFF) b 0 0 1) ∧ (∃ s b, ready s (.pause 0 0x3FFF 0x1FF) b 0 0 0) :=
  ⟨⟨firing 0 0 0, oneBlock (operands 0 0 0), _, rfl, by decide +kernel, (fun r h => nomatch (show (none : Option WideRun) = some r from h)),
     ready_firing _ _ _ _ (by decide) (by decide)⟩,
   ⟨_, _, ready_firing _ 0 0 0 (by decide) (by decide), by decide +kernel⟩,
   ⟨_, _, ready_firing _ 0 0 0 (by decide) (by decide), by decide +kernel⟩, ⟨_, _, ready_firing _ 0 0 0 (by decide) (by decide), by decide +kernel⟩,
   ⟨_, _, ready_firing _ 0 0 0 (by decide) (by decide)⟩,
   ⟨_, _, ready_firing _ _ _ _ (by decide) (by decide)⟩, ⟨_, _, ready_firing _ _ _ _ (by decide) (by decide)⟩,
   ⟨_, _, ready_firing _ _ _ _ (by decide) (by decide)⟩, ⟨_, _, ready_firing _ _ _ _ (by decide) (by decide)⟩,
   ⟨_, _, ready_firing _ _ _ _ (by decide) (by decide)⟩, ⟨_, _, ready_firing _ _ _ _ (by decide) (by decide)⟩⟩

/-- A region of two live tiles, 3 and 2, with the mode bits of a deterministic task or none. -/
def pairRegion (mode : BitVec 3) : Region :=
  { die := 0, ox := 2, oy := 0, w := 2, h := 1, live := [3, 2], ptmask := 0, asid := 5, mode := mode, node := some (4, 0x3000) }

/-- Region 7 holds tiles 3 and 2. -/
def inPair (s : State) (mode : BitVec 3) : State :=
  s.lift (fun w => ((w.setTile 3 { w.tile 3 with region := some 7 }).setTile 2 { w.tile 2 with region := some 7 }).setRegion 7 (pairRegion mode))

/-- ASID 5 maps the first 2^40 bytes of segment 0 onto physical memory: a table of levels 0 to 2 with one leaf, its A and D set (05 R109). -/
def paged (s : State) : State :=
  let t := withWords s [(0x100000, 0x110001, false), (0x110000, 0x120001, false), (0x120000, 3555, false)]
  withCore t (fun c => { c with asids := [(5, { root := some 0x100000 })] })

theorem wit_wait_seed_spawn : (∃ w pa u, ready (firing 0x600040 0 0) (.wait 0 0 31 0x180) (oneBlock (operands 0x600040 0 0)) 0x600040 0 0
      ∧ accessTurn (firing 0x600040 0 0) ∧ (∀ x ∈ (oneBlock (operands 0x600040 0 0)).waits, x.idx ≠ (firing 0x600040 0 0).focus.idx)
      ∧ (firing 0x600040 0 0).work.translate (firing 0x600040 0 0).work.who .test 8
          ((firing 0x600040 0 0).work.me.dseg.toNat * 2 ^ 64 + (0x600040 : Word).toNat) = (w, .ok pa u)
      ∧ (0x600040 : Word).toNat % 8 = 0 ∧ w.poisonOf pa = none ∧ w.bitAt pa u = decide (0#1 = 1#1))
    ∧ (∃ s b w pa u, ready s (.rseed 0 0x1FF 0x180) b 0x3F 0 0 ∧ accessTurn s ∧ (∀ x ∈ b.waits, x.idx ≠ s.focus.idx)
      ∧ (0x3F : Word).toNat ≤ s.work.me.seedlog.toNat % 2 ^ 12 ∧ s.work.det = false
      ∧ s.work.translate s.work.who .plainStore 8 ((s.work.me.seedlog.toNat / 2 ^ 16 * 2 ^ 16 + 8 * (0x3F : Word).toNat) % 2 ^ 64) = (w, .ok pa u)
      ∧ w.poisonOf pa = none)
    ∧ (∃ s b w pa u, ready s (.rseed 0 0x1FF 0x180) b 0x3F 0 0 ∧ accessTurn s ∧ (∀ x ∈ b.waits, x.idx ≠ s.focus.idx)
      ∧ (0x3F : Word).toNat ≤ s.work.me.seedlog.toNat % 2 ^ 12 ∧ s.work.det = true
      ∧ s.work.translate s.work.who .waitLoad 8 ((s.work.me.seedlog.toNat / 2 ^ 16 * 2 ^ 16 + 8 * (0x3F : Word).toNat) % 2 ^ 64) = (w, .ok pa u)
      ∧ w.poisonOf pa = none ∧ w.bitAt pa u = true)
    ∧ (∃ s b g, ready s (.spawnc 0 0x1FF 0x180) b 7 0xFFFFFFFFFFFFFFF0 0 ∧ s.work.regionOf s.focus.tile = some g ∧ (7 : Word).toNat = 1 * 4 + 3
      ∧ g.live[1]? = some 2 ∧ (0xFFFFFFFFFFFFFFF0 : Word).toNat % 16 = 0 ∧ (2, 3) ≠ (s.focus.tile, s.focus.ctx)
      ∧ (s.work.ctx 2 3).status = .idle ∧ (s.work.ctx 2 3).spawnedBy = none)
    ∧ (∃ s b g, ready s (.spawnc 0 0x1FF 0x180) b 7 0 0 ∧ s.work.regionOf s.focus.tile = some g ∧ g.live[1]? = some 2
      ∧ (2, 3) ≠ (s.focus.tile, s.focus.ctx) ∧ (s.work.ctx 2 3).spawnedBy ≠ none) := by
  refine ⟨⟨_, stashBase 3 + 0x40, none, ready_firing _ _ _ _ (by decide) (by decide), ?_, by decide, pair_of (by decide +kernel), by decide,
      by decide +kernel, by decide +kernel⟩,
    ⟨paged (withCtx (firing 0x3F 0 0) (fun c => { c with seedlog := 0x2003F })), oneBlock (operands 0x3F 0 0), _, 0x201F8, none, ?_, ?_, by decide, ?_, ?_,
      pair_of (by decide +kernel), by decide +kernel⟩,
    ⟨withWords (inPair (paged (withCtx (firing 0x3F 0 0) (fun c => { c with seedlog := 0x2003F, mode := 1 }))) 1) [(0x201F8, 9, true)],
      oneBlock (operands 0x3F 0 0), _, 0x201F8, none, ?_, ?_, by decide, ?_, ?_, pair_of (by decide +kernel), by decide +kernel, by decide +kernel⟩,
    ⟨inPair (firing 7 0xFFFFFFFFFFFFFFF0 0) 0, oneBlock (operands 7 0xFFFFFFFFFFFFFFF0 0), pairRegion 0, ?_, ?_⟩,
    ⟨(inPair (firing 7 0 0) 0).lift (fun w => w.setCtx 2 3 { spawnedBy := some 1 }), oneBlock (operands 7 0 0), pairRegion 0, ?_, ?_⟩⟩
  all_goals first | (unfold accessTurn; decide +kernel) | decide +kernel | (unfold ready standing; decide +kernel)

/-- The address of a stash word of tile 3 in segment 0xFF, and where it lies. -/
abbrev stashVa : Word := 0x600040
abbrev stashPa : Nat := stashBase 3 + 0x40

theorem wit_loads : (∃ s b w, loadForm (.ld1s 0 31 0 0x180) = some (.plainLoad, 1, true, 31, 0) ∧ ready s (.ld1s 0 31 0 0x180) b stashVa 0 0
      ∧ loadTurn s b 31 ∧ b.mems = [] ∧ b.waits = [] ∧ reaches s .plainLoad 1 (loadAddr stashVa 0 1) w stashPa none ∧ classify stashPa ≠ .control)
    ∧ (∃ s b w, ready s (.tstfe 0 0 0xFF 0x180) b (stashVa - 0x7F8) 0 0 ∧ loadTurn s b 0 ∧ b.mems = [] ∧ b.waits = []
      ∧ reaches s .test 8 (loadAddr (stashVa - 0x7F8) 0xFF 8) w stashPa none)
    ∧ (∃ s b w, ready s (.ldw8 0 31 0 0x180) b stashVa 0 0 ∧ loadTurn s b 31 ∧ b.mems = [] ∧ b.waits = []
      ∧ reaches s .waitLoad 8 (loadAddr stashVa 0 8) w stashPa none ∧ w.bitAt stashPa none = true)
    ∧ (∃ s b w, ready s (.ldc8 0 31 0 0x180) b stashVa 0 0 ∧ loadTurn s b 31 ∧ b.mems = [] ∧ b.waits = []
      ∧ reaches s .consume 8 (loadAddr stashVa 0 8) w stashPa none ∧ w.bitAt stashPa none = true
      ∧ w.claimedOther (stashPa / 8) s.work.party = false ∧ w.reservedOther (stashPa / 8) s.work.party = false)
    ∧ (∃ s b w, ready s (.ld4 0 31 0 0x180) b stashVa 0 0 ∧ loadTurn s b 31 ∧ b.waits = [] ∧ b.mems = [⟨30, 0, .plain, stashPa, 4, 7⟩] ∧ 30 < 31
      ∧ reaches s .plainLoad 4 (loadAddr stashVa 0 4) w stashPa none) := by
  refine ⟨⟨_, _, _, rfl, ready_firing _ _ _ _ (by decide) (by decide), ?_, rfl, rfl, reaches_of (by decide +kernel), by decide⟩,
    ⟨_, _, _, ready_firing _ _ _ _ (by decide) (by decide), ?_, rfl, rfl, reaches_of (by decide +kernel)⟩,
    ⟨withWords (firing stashVa 0 0) [(stashPa, 9, true)], oneBlock (operands stashVa 0 0), _, ?_, ?_, rfl, rfl, reaches_of (by decide +kernel), by decide +kernel⟩,
    ⟨withWords (firing stashVa 0 0) [(stashPa, 9, true)], oneBlock (operands stashVa 0 0), _, ?_, ?_, rfl, rfl, reaches_of (by decide +kernel), by decide +kernel,
      by decide +kernel, by decide +kernel⟩,
    ⟨withOne { oneBlock (operands stashVa 0 0) with mems := [⟨30, 0, .plain, stashPa, 4, 7⟩] },
      { oneBlock (operands stashVa 0 0) with mems := [⟨30, 0, .plain, stashPa, 4, 7⟩] }, _, ?_, ?_, rfl, rfl, by decide, reaches_of (by decide +kernel)⟩⟩
  all_goals first | (unfold loadTurn inTurn; decide +kernel) | (unfold ready standing; decide +kernel)

theorem wit_stores : (∃ s b w, storeOf (.st8 0 31 0x1FFFF) = some (.plainStore, .plain, 8, 31, 0x1FFFF)
      ∧ ready s (.st8 0 31 0x1FFFF) b (stashVa - 0xFFFF8) 7 0 ∧ inTurn s b 31 ∧ b.mems = [] ∧ b.waits = []
      ∧ reaches s .plainStore 8 (storeAddr (stashVa - 0xFFFF8) 0x1FFFF 8) w stashPa none)
    ∧ (∃ s b w, ready s (.stf8 0 31 0) b stashVa 7 0 ∧ inTurn s b 31 ∧ b.mems = [] ∧ b.waits = []
      ∧ reaches s .fill 8 (storeAddr stashVa 0 8) w stashPa none ∧ w.bitAt stashPa none = false
      ∧ w.claimedOther (stashPa / 8) s.work.party = false ∧ w.reservedOther (stashPa / 8) s.work.party = false)
    ∧ (∃ s b w, ready s (.amo 0 31 11 1 0x180) b stashVa 7 0 ∧ inTurn s b 31 ∧ b.mems = [] ∧ b.waits = [] ∧ s.work.det = false ∧ classify stashPa ≠ .control
      ∧ reaches s .atomic 4 stashVa.toNat w stashPa none ∧ w.claimedOther (stashPa / 8) s.work.party = false
      ∧ ∃ new, amoNew 11 4 (w.load stashPa 4) 7 = some new)
    ∧ (∃ s b w, ready s (.cas 31 0 0x180) b stashVa 7 0 ∧ inTurn s b 31 ∧ b.mems = [] ∧ b.waits = [] ∧ s.work.det = false ∧ classify stashPa ≠ .control
      ∧ reaches s .atomic 8 stashVa.toNat w stashPa none ∧ w.claimedOther (stashPa / 8) s.work.party = false)
    ∧ (∃ s b w, ready s (.red 0 31 9 0) b stashVa 7 0 ∧ inTurn s b 31 ∧ b.mems = [] ∧ (s.work.det = false ∨ 9 < 9)
      ∧ reaches s .red 8 stashVa.toNat w stashPa none)
    ∧ (∃ s b, ready s (.amo 0 31 9 0 0x180) b stashVa 7 0 ∧ ready s (.cas 31 0 0x180) b stashVa 7 0 ∧ ready s (.red 0 31 9 0) b stashVa 7 0
      ∧ inTurn s b 31 ∧ s.work.det = true) := by
  refine ⟨⟨_, _, _, rfl, ready_firing _ _ _ _ (by decide) (by decide), ?_, rfl, rfl, reaches_of (by decide +kernel)⟩,
    ⟨firing stashVa 7 0, oneBlock (operands stashVa 7 0), _, ready_firing _ _ _ _ (by decide) (by decide), ?_, rfl, rfl,
      reaches_of (by decide +kernel), by decide +kernel, by decide +kernel, by decide +kernel⟩,
    ⟨firing stashVa 7 0, oneBlock (operands stashVa 7 0), _, ready_firing _ _ _ _ (by decide) (by decide), ?_, rfl, rfl, by decide +kernel, by decide,
      reaches_of (by decide +kernel), by decide +kernel, _, rfl⟩,
    ⟨firing stashVa 7 0, oneBlock (operands stashVa 7 0), _, ready_firing _ _ _ _ (by decide) (by decide), ?_, rfl, rfl, by decide +kernel, by decide,
      reaches_of (by decide +kernel), by decide +kernel⟩,
    ⟨firing stashVa 7 0, oneBlock (operands stashVa 7 0), _, ready_firing _ _ _ _ (by decide) (by decide), ?_, rfl, .inl (by decide +kernel),
      reaches_of (by decide +kernel)⟩,
    ⟨withCtx (firing stashVa 7 0) (fun c => { c with mode := 1 }), oneBlock (operands stashVa 7 0), ?_, ?_, ?_, ?_, by decide +kernel⟩⟩
  all_goals first | (unfold inTurn; decide +kernel) | (unfold ready standing; decide +kernel)

theorem wit_access_traps : (∃ s b, ready s (.ld2 0 31 0 0x180) b 1 0 0 ∧ loadTurn s b 31 ∧ loadAddr 1 0 2 % 2 ≠ 0)
    ∧ (∃ s b w, ready s (.ld8 0 31 0 0x180) b 0x780000 0 0 ∧ loadTurn s b 31 ∧ loadAddr 0x780000 0 8 % 8 = 0
      ∧ s.work.translate s.work.who .plainLoad 8 (s.work.me.dseg.toNat * 2 ^ 64 + loadAddr 0x780000 0 8) = (w, .fault 6 1))
    ∧ (∃ s b, ready s (.ste4 0 31 0) b 2 0 0 ∧ inTurn s b 31 ∧ storeAddr 2 0 4 % 4 ≠ 0) := by
  refine ⟨⟨_, _, ready_firing _ 1 0 0 (by decide) (by decide), ?_, by decide⟩,
    ⟨_, _, _, ready_firing _ 0x780000 0 0 (by decide) (by decide), ?_, by decide, pair_of (by decide +kernel)⟩,
    ⟨_, _, ready_firing _ 2 0 0 (by decide) (by decide), ?_, by decide⟩⟩
  · unfold loadTurn inTurn; decide +kernel
  · unfold loadTurn inTurn; decide +kernel
  · unfold inTurn; decide +kernel

/-- Two records of ASID 5, one claimed. -/
def claimedRecord : QRecord := { seq := 0, words := [7], claim := some 40, asid := 5 }
def freeRecord : QRecord := { seq := 1, words := [8], asid := 5 }

/-- An enabled queue of ASID 5 of two hardware records of one word, one of them claimed. -/
def twoRecords : HQueue :=
  { enabled := true, owner := 5, hd := 4, rw := 1, rs := 0, hin := 2, hout := 0, seq := 2, entries := [claimedRecord, freeRecord] }

/-- Handle 255, queue 63 of die 3, is `q`. -/
def queued (s : State) (q : HQueue) : State := s.lift (fun w => w.setHq 255 q)

theorem wit_queues : (∃ s b w rec, ready s (.qpush 0 31) b 255 stashVa 0 ∧ accessTurn s ∧ (∀ x ∈ b.waits, x.idx ≠ s.focus.idx) ∧ ownsQueue s 255 twoRecords
      ∧ allowed s twoRecords.pusher ∧ stashVa.toNat % 8 = 0 ∧ s.work.readWords s.work.who 1 (operandVa s stashVa) = (w, .ok rec)
      ∧ recordsIn twoRecords + twoRecords.pending.length < twoRecords.hd + twoRecords.rs)
    ∧ (∃ s b w ps x, ready s (.qpop 0 31 0x1FF 0x180) b 255 stashVa 0 ∧ accessTurn s ∧ ownsQueue s 255 twoRecords ∧ allowed s twoRecords.popper
      ∧ b.waits = [] ∧ s.work.placeWords s.work.who 1 (operandVa s stashVa) = (w, .ok ps) ∧ oldest twoRecords x)
    ∧ (∃ s b w ps, ready s (.qpeek 0 0x1FF 0x180) b 255 stashVa 0 ∧ accessTurn s ∧ ownsQueue s 255 { twoRecords with entries := [] }
      ∧ allowed s twoRecords.popper ∧ s.work.placeWords s.work.who 1 (operandVa s stashVa) = (w, .ok ps))
    ∧ (∃ s b w ps x, ready s (.qpeek 0 0x1FF 0x180) b 255 stashVa 0 ∧ accessTurn s ∧ ownsQueue s 255 twoRecords ∧ allowed s twoRecords.popper
      ∧ s.work.placeWords s.work.who 1 (operandVa s stashVa) = (w, .ok ps) ∧ oldest twoRecords x)
    ∧ (∃ s b, ready s (.qstat 0 0x1FF 0x180) b 255 0 0 ∧ (s.work.hq 255).enabled = true ∧ (s.work.hq 255).owner = s.work.me.asid.toNat) := by
  refine ⟨⟨queued (firing 255 stashVa 0) twoRecords, oneBlock (operands 255 stashVa 0), _, [0], ?_, ?_, by decide, ?_, ?_, by decide, pair_of (by decide +kernel), by decide⟩,
    ⟨queued (firing 255 stashVa 0) twoRecords, oneBlock (operands 255 stashVa 0), _, [stashPa], freeRecord, ?_, ?_, ?_, ?_, rfl, pair_of (by decide +kernel),
      [claimedRecord], [], rfl, by decide, rfl⟩,
    ⟨queued (firing 255 stashVa 0) { twoRecords with entries := [] }, oneBlock (operands 255 stashVa 0), _, [stashPa], ?_, ?_, ?_, ?_, pair_of (by decide +kernel)⟩,
    ⟨queued (firing 255 stashVa 0) twoRecords, oneBlock (operands 255 stashVa 0), _, [stashPa], freeRecord, ?_, ?_, ?_, ?_, pair_of (by decide +kernel),
      [claimedRecord], [], rfl, by decide, rfl⟩,
    ⟨queued (firing 255 0 0) twoRecords, oneBlock (operands 255 0 0), ?_, by decide +kernel, by decide +kernel⟩⟩
  all_goals first | (unfold accessTurn; decide +kernel) | (unfold ownsQueue; decide +kernel) | (unfold allowed; decide +kernel) | (unfold ready standing; decide +kernel)

/-- The two words of a QCFG descriptor at `stashVa`. -/
def ringed (s : State) (d0 d1 : Word) : State := withWords s [(stashPa, d0, false), (stashPa + 8, d1, false)]

/-- The descriptor of a ring of one slot at 0x30000, in segment 0, whose pages are mapped. -/
def onPages : State :=
  paged (withWords (withCtx (firing 255 stashVa 0) (fun c => { c with dseg := 0 })) [(0x600040, 0x30000, false), (0x600048, 2 ^ 32 + 2 ^ 16 + 1, false)])

theorem wit_queue_config : (∃ s b w, ready s (.qcfg 0 0x1FF 0x180) b 255 stashVa 0 ∧ accessTurn s ∧ configSound s (2 ^ 32 + 32 * 2 ^ 16 + 7 * 2 ^ 8)
      ∧ s.work.readWords s.work.who 2 (operandVa s stashVa) = (w, .ok [0, 2 ^ 32 + 32 * 2 ^ 16 + 7 * 2 ^ 8]) ∧ (s.work.hq 255).enabled = false)
    ∧ (∃ s b w ps, ready s (.qcfg 0 0x1FF 0x180) b 255 stashVa 0 ∧ accessTurn s ∧ configSound s (2 ^ 32 + 2 ^ 16 + 1)
      ∧ s.work.readWords s.work.who 2 (operandVa s stashVa) = (w, .ok [0x30000, 2 ^ 32 + 2 ^ 16 + 1]) ∧ (s.work.hq 255).enabled = false
      ∧ (∃ w', w.ringPages 1 (operandVa s 0x30000 / 2 ^ 16 * 2 ^ 16) = (w', .ok ps)))
    ∧ (∃ s b w, ready s (.qcfg 0 0x1FF 0x180) b 255 stashVa 0 ∧ accessTurn s ∧ configSound s (2 ^ 32 + 2 ^ 16)
      ∧ s.work.readWords s.work.who 2 (operandVa s stashVa) = (w, .ok [0, 2 ^ 32 + 2 ^ 16]) ∧ (s.work.hq 255).enabled = true
      ∧ (s.work.hq 255).owner = s.work.me.asid.toNat)
    ∧ (∃ s b w, ready s (.qcfg 0 0x1FF 0x180) b 255 stashVa 0 ∧ accessTurn s ∧ configSound s (2 ^ 32 + 2 ^ 16)
      ∧ s.work.readWords s.work.who 2 (operandVa s stashVa) = (w, .ok [0, 2 ^ 32 + 2 ^ 16]) ∧ (s.work.hq 255).enabled = true
      ∧ (s.work.hq 255).owner ≠ s.work.me.asid.toNat)
    ∧ (∃ s b w, ready s (.qcfg 0 0x1FF 0x180) b 255 stashVa 0 ∧ accessTurn s ∧ configSound s 0
      ∧ s.work.readWords s.work.who 2 (operandVa s stashVa) = (w, .ok [0, 0]) ∧ (s.work.hq 255).enabled = true
      ∧ (s.work.hq 255).owner = s.work.me.asid.toNat ∧ recordsIn (s.work.hq 255) = 0 ∧ (s.work.hq 255).pending = []
      ∧ ∀ x ∈ (s.work.hq 255).entries, x.claim = none)
    ∧ (∃ s b w, ready s (.qcfg 0 0x1FF 0x180) b 255 stashVa 0 ∧ accessTurn s
      ∧ s.work.readWords s.work.who 2 (operandVa s stashVa) = (w, .ok [0, 22]) ∧ 22 ≤ (22 : Word).toNat % 2 ^ 5) := by
  refine ⟨⟨ringed (firing 255 stashVa 0) 0 (2 ^ 32 + 32 * 2 ^ 16 + 7 * 2 ^ 8), oneBlock (operands 255 stashVa 0), _, ?_, ?_, ?_, pair_of (by decide +kernel), ?_⟩,
    ⟨onPages, oneBlock (operands 255 stashVa 0), _, [0x30000], ?_, ?_, ?_, pair_of (by decide +kernel), ?_, ⟨_, pair_of (by decide +kernel)⟩⟩,
    ⟨queued (ringed (firing 255 stashVa 0) 0 (2 ^ 32 + 2 ^ 16)) twoRecords, oneBlock (operands 255 stashVa 0), _, ?_, ?_, ?_, pair_of (by decide +kernel), ?_, ?_⟩,
    ⟨queued (ringed (firing 255 stashVa 0) 0 (2 ^ 32 + 2 ^ 16)) { twoRecords with owner := 6 }, oneBlock (operands 255 stashVa 0), _, ?_, ?_, ?_,
      pair_of (by decide +kernel), ?_, ?_⟩,
    ⟨queued (ringed (firing 255 stashVa 0) 0 0) { enabled := true, owner := 5, hd := 1 }, oneBlock (operands 255 stashVa 0), _, ?_, ?_, ?_,
      pair_of (by decide +kernel), ?_, ?_, ?_, ?_, ?_⟩,
    ⟨ringed (firing 255 stashVa 0) 0 22, oneBlock (operands 255 stashVa 0), _, ?_, ?_, pair_of (by decide +kernel), by decide⟩⟩
  all_goals first | (unfold accessTurn; decide +kernel) | (unfold configSound; decide +kernel) | (unfold ready standing; decide +kernel) | decide +kernel

/-- A CQPOP in the second place of a block, waiting since now. -/
def popping : Block :=
  { oneBlock { operands stashVa 0 0 with phase := .waiting } with
    words := [0, encode (.cqpop 0 31 0x1FF 0x180), 0], waits := [⟨1, 77, 0, 77, none, []⟩] }

def lentRecord : QRecord := { seq := 6, words := [1], claim := some 9, asid := 5 }
def foreignRecord : QRecord := { seq := 7, words := [2], asid := 6 }
def ownRecord : QRecord := { seq := 8, words := [3], asid := 5 }

/-- The combining queue of die 0 holds a claimed record, one of another address space, and one of ASID 5. -/
def combined (s : State) : State :=
  s.lift (fun w => w.setCq 0 { seq := 9, records := [lentRecord, foreignRecord, ownRecord] })

theorem wit_combining : (∃ (s : State) (b : Block) (w : Work) (rec : List Word), ready s (.cqpush 0 31) b 0x600040 0 0 ∧ accessTurn s ∧ (∀ x ∈ b.waits, x.idx ≠ s.focus.idx) ∧ s.work.det = false
      ∧ (0x600040 : Word).toNat % 64 = 0 ∧ s.work.readWords s.work.who 8 (operandVa s 0x600040) = (w, .ok rec)
      ∧ s.work.cqFull (s.work.cqueue s.work.myDie) s.work.me.asid.toNat = false)
    ∧ (∃ (s : State) (b : Block) (w : Work) (ps : List Nat), ready s (.cqpop 0 31 0x1FF 0x180) b 0x600040 0 0 ∧ accessTurn s ∧ b.waits = [] ∧ s.work.det = false
      ∧ s.work.placeWords s.work.who 8 (operandVa s 0x600040) = (w, .ok ps))
    ∧ (∃ (s : State) (f : Focus) (y : Waiting) (w : Work) (ps : List Nat) (x : QRecord) (before after : List QRecord), s.work.cqWaiters 0 = [f] ∧ dieOf f.tile = 0
      ∧ (s.work.at_ f.tile f.ctx f.idx).limitPassed = false ∧ (s.work.at_ f.tile f.ctx f.idx).waiting = some (.cqpop 0 31 0x1FF 0x180, stashVa, 0, y)
      ∧ (s.work.at_ f.tile f.ctx f.idx).block = some popping ∧ popping.waits = [y]
      ∧ (s.work.cqueue 0).records = before ++ x :: after ∧ x.claim = none ∧ x.asid = (s.work.ctx f.tile f.ctx).asid.toNat
      ∧ (∀ z ∈ before, z.claim ≠ none ∨ z.asid ≠ x.asid) ∧ stashVa.toNat % 64 = 0 ∧ x.clk < s.now ∧ (s.work.cqueue 0).combined ≠ some s.now
      ∧ (s.work.at_ f.tile f.ctx f.idx).placeWords (s.work.at_ f.tile f.ctx f.idx).who 8
          ((s.work.ctx f.tile f.ctx).dseg.toNat * 2 ^ 64 + stashVa.toNat) = (w, .ok ps)) := by
  refine ⟨⟨firing 0x600040 0 0, oneBlock (operands 0x600040 0 0), _, List.replicate 8 0, ready_firing _ _ _ _ (by decide) (by decide), ?_, by decide, ?_, by decide,
      pair_of (by decide +kernel), ?_⟩,
    ⟨firing 0x600040 0 0, oneBlock (operands 0x600040 0 0), _, (List.range 8).map (fun k => stashPa + 8 * k), ready_firing _ _ _ _ (by decide) (by decide),
      ?_, rfl, ?_, pair_of (by decide +kernel)⟩,
    ⟨combined (withOne popping), ⟨3, 1, 1⟩, ⟨1, 77, 0, 77, none, []⟩, _, (List.range 8).map (fun k => stashPa + 8 * k), ownRecord,
      [lentRecord, foreignRecord], [], ?_, ?_, ?_, ?_, ?_, rfl, ?_, rfl, ?_, by decide, by decide, by decide +kernel, by decide +kernel, pair_of (by decide +kernel)⟩⟩
  all_goals first | (unfold accessTurn; decide +kernel) | decide +kernel

/-- Context 1 of tile 3 is ready to fetch, and a block of one BR whose header has `h0` for its first word lies at 0x30000. -/
def fetching (fw : Bool) (h0 : Nat) (pc : VAddr) : State :=
  withWords (withCtx (paged (firing 0 0 0)) (fun c => { c with status := .ready, block := none, fw := fw, pc := pc, tvec := 0x4440, utvec := 0x9990 }))
    [(0x30000, BitVec.ofNat 64 h0, false), (0x30008, BitVec.ofNat 64 (encode (.br 0 0 1)).toNat, false)]

theorem wit_fetch : (∃ (s : State) (w : Work) (parts : Parts), s.work.spineRuns 3 = true ∧ s.work.nextIssuer 3 = some 1 ∧ s.work.errorDue 3 1 = false
      ∧ (∀ d, d < 4 → s.work.executing 3 d = false) ∧ (s.work.ctx 3 1).pc.toNat % 16 = 0
      ∧ (s.work.at_ 3 1 0).readParts (s.work.at_ 3 1 0).who (s.work.ctx 3 1).pc.toNat = (w, .ok parts)
      ∧ blockRefusal (!(s.work.ctx 3 1).fw) parts = none)
    ∧ (∃ (s : State) (w : Work) (parts : Parts) (cause : Nat) (einfo : Word), s.work.spineRuns 3 = true ∧ s.work.nextIssuer 3 = some 1
      ∧ s.work.errorDue 3 1 = false ∧ (∀ d, d < 4 → s.work.executing 3 d = false) ∧ (s.work.ctx 3 1).pc.toNat % 16 = 0
      ∧ (s.work.at_ 3 1 0).readParts (s.work.at_ 3 1 0).who (s.work.ctx 3 1).pc.toNat = (w, .ok parts)
      ∧ blockRefusal (!(s.work.ctx 3 1).fw) parts = some (cause, einfo))
    ∧ (∃ (s : State) (w : Work) (cause sub va : Nat), s.work.spineRuns 3 = true ∧ s.work.nextIssuer 3 = some 1 ∧ s.work.errorDue 3 1 = false
      ∧ (∀ d, d < 4 → s.work.executing 3 d = false) ∧ (s.work.ctx 3 1).pc.toNat % 16 = 0
      ∧ (s.work.at_ 3 1 0).readParts (s.work.at_ 3 1 0).who (s.work.ctx 3 1).pc.toNat = (w, .error (cause, sub, va)) ∧ cause ≠ 0x13) := by
  refine ⟨⟨fetching false 0xB0000000 0x30000, _, ⟨0xB0000000, 0, [], [], [encode (.br 0 0 1)]⟩, ?_, ?_, ?_, ?_, ?_, pair_of ?_, ?_⟩,
    ⟨fetching false 0xB0000100 0x30000, _, ⟨0xB0000100, 0, [], [], [encode (.br 0 0 1)]⟩, 0x12, 0x7F, ?_, ?_, ?_, ?_, ?_, pair_of ?_, ?_⟩,
    ⟨fetching false 0xB0000000 0x10000000040, _, 5, 0, 0x10000000040, ?_, ?_, ?_, ?_, ?_, pair_of ?_, by decide⟩⟩
  all_goals decide +kernel

/-- A block of three instructions that have all performed, the second of them an exit; it has three write entries, one with a null. -/
def ended : Block :=
  { addr := 0x55AA00000000000040, words := [0, encode (.br 0 0 1), 0], writes := [5, 0, 9], held := [some (.val 55), some (.val 66), some .null],
    nr := 2, ns := 0, fw := false, flags := 3, insts := [{ phase := .performed }, { phase := .performed }, { phase := .performed }],
    exits := [⟨1, .call, 0x77AA000000000000F0⟩] }

/-- `ended`, with a result on its way to `tgt`, and a write entry free. -/
def receiving (tgt : Target) : Block :=
  { ended with held := [some (.val 55), some (.val 66), none], exits := [], insts := [{}, {}, {}], inflight := [⟨1, 0x1FF, .null, 90⟩, ⟨1, tgt, .val 9, 77⟩] }

theorem wit_result_reaches : (∀ tgt ∈ [0x002, 0x082, 0x102, 0x182, 0x181], ∃ (s : State) (b : Block) (f : InFlight) (slot idx : Nat), flying s 3 1 b
      ∧ b.inflight[1]? = some f ∧ f.due ≤ s.now ∧ f.tgt = tgt ∧ f.tgt.toNat = slot * 128 + idx ∧ idx < 128 ∧ f.tgt ≠ noTarget ∧ slot < 4
      ∧ (slot ≤ 2 → idx < b.insts.length) ∧ (slot = 3 → idx = 2 → b.held[idx]? = some none) ∧ (slot = 3 → idx = 1 → b.held[idx]? = some (some (.val 66)))) := by
  intro tgt h
  refine ⟨withOne (receiving tgt), receiving tgt, ⟨1, tgt, .val 9, 77⟩, tgt.toNat / 128, tgt.toNat % 128, ?_⟩
  simp only [List.mem_cons, List.not_mem_nil, or_false] at h
  rcases h with rfl | rfl | rfl | rfl | rfl <;> (unfold flying; decide +kernel)

theorem wit_commits : (∀ k ∈ [ExitKind.call, .branch, .halt, .eret], ∃ (s : State) (b : Block) (x : ExitFired), flying s 3 1 b ∧ mayCommit b x ∧ b.mems = []
      ∧ b.effs = [] ∧ b.writes.Nodup ∧ s.core.marks = [] ∧ (x.kind = .call → 2 ∉ b.writes) ∧ x.kind = k)
    ∧ (∀ n ∈ [(.plain : MemKind), .fill, .clear], ∃ (s : State) (b : Block) (x : ExitFired) (e : MemEff), s.canonical ∧ flying s 3 1 b ∧ mayCommit b x ∧ b.mems = [e]
      ∧ b.effs = [] ∧ e.kind = n ∧ (e.kind = .plain ∨ e.kind = .fill ∨ e.kind = .clear) ∧ e.size ∈ [1, 2, 4, 8] ∧ e.pa % e.size = 0 ∧ classify e.pa ≠ .control
      ∧ classify (e.pa / 8 * 8) ≠ .host ∧ e.pa / 64 ∉ s.core.watched ∧ (∀ k ∈ s.core.claims, k.party ≠ 3 * 4 + 1 → k.word ≠ e.pa / 8) ∧ s.core.marks = []) := by
  constructor
  · intro k h
    refine ⟨withOne { ended with exits := [⟨1, k, 0x80⟩] }, { ended with exits := [⟨1, k, 0x80⟩] }, ⟨1, k, 0x80⟩, ?_⟩
    simp only [List.mem_cons, List.not_mem_nil, or_false] at h
    rcases h with rfl | rfl | rfl | rfl <;> (unfold flying mayCommit atEnd; decide +kernel)
  · intro n h
    refine ⟨withOne { ended with mems := [⟨1, 0, n, stashPa, 4, 0xABCD⟩] }, { ended with mems := [⟨1, 0, n, stashPa, 4, 0xABCD⟩] }, ⟨1, .call, 0x77AA000000000000F0⟩,
      ⟨1, 0, n, stashPa, 4, 0xABCD⟩, ?_⟩
    simp only [List.mem_cons, List.not_mem_nil, or_false] at h
    rcases h with rfl | rfl | rfl <;> (unfold State.canonical flying mayCommit atEnd; decide +kernel)

/-- An instruction `i` that waits in the second place of a block of context 1 of tile 3. -/
def waitingBlock (i : Instr) (l r : Word) (x : Waiting) : Block :=
  { oneBlock { operands l r 0 with phase := .waiting } with words := [0, encode i, 0], waits := [x] }

/-- A trapped block; one whose two traps are recorded; one without an exit. -/
theorem wit_trapped_blocks : (∀ cause ∈ [4, 5], ∃ (s : State) (b : Block) (tr : Trap), flying s 3 1 b ∧ atEnd b ∧ b.late = none ∧ b.traps = [tr] ∧ b.seconds = [] ∧ b.races = [] ∧ b.effs = [] ∧ b.allocs = []
      ∧ s.core.marks = [] ∧ tr.cause < 256 ∧ tr.cause = cause)
    ∧ (∀ swap ∈ [true, false], ∃ (s : State) (b : Block) (x y : Trap), flying s 3 1 b ∧ atEnd b ∧ b.late = none ∧ b.seconds = []
      ∧ (if swap then b.traps = [y, x] else b.traps = [x, y]) ∧ x.idx < y.idx ∧ b.races = [] ∧ b.effs = [] ∧ b.allocs = [] ∧ x.cause < 256)
    ∧ (∃ (s : State) (b : Block), flying s 3 1 b ∧ atEnd b ∧ b.late = none ∧ b.traps = [] ∧ b.seconds = [] ∧ b.exits = [] ∧ (∀ o ∈ b.held, o ≠ none)
      ∧ (∀ u ∈ b.stores, ∃ v ∈ b.stores, v.1 = u.1 ∧ v.2.served = true) ∧ b.effs = [] ∧ b.allocs = []) := by
  refine ⟨?_, ?_, withOne { ended with exits := [] }, { ended with exits := [] }, ?_⟩
  · intro c h
    refine ⟨withOne { ended with traps := [⟨1, c, 77⟩] }, { ended with traps := [⟨1, c, 77⟩] }, ⟨1, c, 77⟩, ?_⟩
    simp only [List.mem_cons, List.not_mem_nil, or_false] at h
    rcases h with rfl | rfl <;> (unfold flying atEnd; decide +kernel)
  · intro swap _
    refine ⟨withOne { ended with traps := if swap then [⟨2, 5, 77⟩, ⟨1, 4, 78⟩] else [⟨1, 4, 78⟩, ⟨2, 5, 77⟩] },
      { ended with traps := if swap then [⟨2, 5, 77⟩, ⟨1, 4, 78⟩] else [⟨1, 4, 78⟩, ⟨2, 5, 77⟩] }, ⟨1, 4, 78⟩, ⟨2, 5, 77⟩, ?_⟩
    cases swap <;> (unfold flying atEnd; decide +kernel)
  · unfold flying atEnd; decide +kernel

theorem wit_retries : (∃ (s : State) (b : Block) (x : Waiting) (w : Work), waitingAt s 3 1 1 b (.ldw8 0 3 0 0x180) stashVa 0 x ∧ x.word ≠ none ∧ x.due ≤ s.now
      ∧ b.mems = [] ∧ loadAddr stashVa 0 8 % 8 = 0
      ∧ (s.work.at_ 3 1 1).translate (s.work.at_ 3 1 1).who .waitLoad 8 ((s.work.ctx 3 1).dseg.toNat * 2 ^ 64 + loadAddr stashVa 0 8) = (w, .ok stashPa none)
      ∧ w.poisonOf stashPa = none ∧ w.isFull (stashPa / 8) = true ∧ classify stashPa ≠ .control)
    ∧ (∃ (s : State) (b : Block) (x : Waiting) (w : Work), waitingAt s 3 1 1 b (.amo 0 3 8 0 0x180) stashVa 7 x ∧ x.word = none ∧ b.mems = []
      ∧ (s.work.at_ 3 1 1).det = false ∧ stashVa.toNat % 8 = 0
      ∧ (s.work.at_ 3 1 1).translate (s.work.at_ 3 1 1).who .atomic 8 ((s.work.ctx 3 1).dseg.toNat * 2 ^ 64 + stashVa.toNat) = (w, .ok stashPa none)
      ∧ w.poisonOf stashPa = none ∧ classify stashPa ≠ .control ∧ w.claimedOther (stashPa / 8) (3 * 4 + 1) = false)
    ∧ (∃ (s : State) (x : Resv), s.core.resv = [x] ∧ x.word = 5 ∧ x.since + 4096 ≤ s.now) := by
  refine ⟨⟨withWords (withOne (waitingBlock (.ldw8 0 3 0 0x180) stashVa 0 ⟨1, 0, 0, 77, some (stashPa / 8), []⟩)) [(stashPa, 9, true)],
      waitingBlock (.ldw8 0 3 0 0x180) stashVa 0 ⟨1, 0, 0, 77, some (stashPa / 8), []⟩, ⟨1, 0, 0, 77, some (stashPa / 8), []⟩, _, ?_, ?_, ?_, ?_, ?_,
      pair_of (by decide +kernel), ?_, ?_, ?_⟩,
    ⟨withOne (waitingBlock (.amo 0 3 8 0 0x180) stashVa 7 ⟨1, 0, 0, 0, none, []⟩), waitingBlock (.amo 0 3 8 0 0x180) stashVa 7 ⟨1, 0, 0, 0, none, []⟩,
      ⟨1, 0, 0, 0, none, []⟩, _, ?_, rfl, rfl, ?_, ?_, pair_of (by decide +kernel), ?_, ?_, ?_⟩,
    ⟨{ withCore State.reset (fun c => { c with resv := [⟨5, 0, 3⟩] }) with now := 4099 }, ⟨5, 0, 3⟩, ?_, ?_, ?_⟩⟩
  all_goals first | decide +kernel | (unfold waitingAt flying; decide +kernel)

theorem wit_waits : (∃ (s : State) (b : Block) (x : Waiting) (q : HQueue), waitingAt s 3 1 1 b (.qpush 0 31) 255 stashVa x ∧ x.due ≤ s.now ∧ s.now ≤ x.since + 16 * 2 ^ 31 ∧ (255 : Word).toNat < 256
      ∧ s.work.hq 255 = q ∧ q.enabled = true ∧ q.owner = (s.work.ctx 3 1).asid.toNat ∧ recordsIn q + q.pending.length < q.hd + q.rs)
    ∧ (∃ (s : State) (b : Block) (x : Waiting) (q : HQueue), waitingAt s 3 1 1 b (.qpush 0 31) 255 stashVa x ∧ x.due ≤ s.now
      ∧ s.now ≤ x.since + 16 * 2 ^ 31 ∧ s.work.hq 255 = q ∧ q.enabled = true ∧ q.owner = (s.work.ctx 3 1).asid.toNat
      ∧ (s.work.at_ 3 1 1).det = true ∧ q.pusher ≠ none ∧ q.pusher ≠ some (3 * 4 + 1))
    ∧ (∃ (s : State) (b : Block) (x : Waiting), waitingAt s 3 1 1 b (.qpush 0 0) 255 stashVa x ∧ x.since + 16 * 2 ^ 0 ≤ s.now)
    ∧ (∀ full : BitVec 1, ∃ (s : State) (b : Block) (x : Waiting) (w : Work), waitingAt s 3 1 1 b (.wait 0 full 0 0x180) stashVa 0 x ∧ x.due ≤ s.now
      ∧ s.now ≤ x.since + 16 * 2 ^ 0 ∧ x.since + 16 * 2 ^ 0 ≤ s.now ∧ stashVa.toNat % 8 = 0
      ∧ (s.work.at_ 3 1 1).translate (s.work.at_ 3 1 1).who .test 8 ((s.work.ctx 3 1).dseg.toNat * 2 ^ 64 + stashVa.toNat) = (w, .ok stashPa none)
      ∧ w.poisonOf stashPa = none ∧ w.isFull (stashPa / 8) = decide (full = 1#1))
    ∧ (∃ (s : State) (b : Block) (x : Waiting), flying s 3 1 b ∧ b.instr 1 = some (.pause 0 9 0x180) ∧ (b.inst 1).phase = .waiting ∧ b.waits = [x]
      ∧ x.idx = 1 ∧ x.due ≤ s.now) := by
  refine ⟨⟨queued (withOne (waitingBlock (.qpush 0 31) 255 stashVa ⟨1, 0, 0, 77, none, [5]⟩)) twoRecords,
      waitingBlock (.qpush 0 31) 255 stashVa ⟨1, 0, 0, 77, none, [5]⟩, ⟨1, 0, 0, 77, none, [5]⟩, _, ?_, ?_, ?_, ?_, rfl, ?_, ?_, ?_⟩,
    ⟨queued (withCtx (withOne (waitingBlock (.qpush 0 31) 255 stashVa ⟨1, 0, 0, 77, none, [5]⟩)) (fun c => { c with mode := 1 }))
        { twoRecords with pusher := some 40 },
      waitingBlock (.qpush 0 31) 255 stashVa ⟨1, 0, 0, 77, none, [5]⟩, ⟨1, 0, 0, 77, none, [5]⟩, _, ?_, ?_, ?_, rfl, ?_, ?_, ?_, ?_, ?_⟩,
    ⟨withOne (waitingBlock (.qpush 0 0) 255 stashVa ⟨1, 61, 0, 77, none, [5]⟩), waitingBlock (.qpush 0 0) 255 stashVa ⟨1, 61, 0, 77, none, [5]⟩,
      ⟨1, 61, 0, 77, none, [5]⟩, ?_, ?_⟩,
    fun full => ⟨withWords (withOne (waitingBlock (.wait 0 full 0 0x180) stashVa 0 ⟨1, 61, 0, 77, none, []⟩)) [(stashPa, 9, decide (full = 1#1))],
      waitingBlock (.wait 0 full 0 0x180) stashVa 0 ⟨1, 61, 0, 77, none, []⟩, ⟨1, 61, 0, 77, none, []⟩, _, ?_, ?_, ?_, ?_, ?_, pair_of ?_, ?_, ?_⟩,
    ⟨withOne (waitingBlock (.pause 0 9 0x180) 0 0 ⟨1, 61, 0, 77, none, []⟩), waitingBlock (.pause 0 9 0x180) 0 0 ⟨1, 61, 0, 77, none, []⟩,
      ⟨1, 61, 0, 77, none, []⟩, ?_⟩⟩
  all_goals first | decide +kernel | (revert full; unfold waitingAt flying; decide +kernel) | (revert full; decide +kernel) | (unfold waitingAt flying; decide +kernel) | (unfold flying; decide +kernel)

/-- Tile 3 is the one tile of region 7, which stands as `g`. -/
def within (s : State) (g : Region) : State := s.lift (fun w => (w.setTile 3 { w.tile 3 with region := some 7 }).setRegion 7 g)

/-- A region in which a kettle, its fourth, has reached every sink. -/
def quiet : Region :=
  { die := 0, ox := 3, oy := 0, w := 1, h := 1, live := [3], ptmask := 0, asid := 5, mode := 0, node := none, tcount := 100, kettle := 4, phase := 6, arms := 9 }

/-- Element `e` of tile 3 is of kind `kind`, its context word 0 is `cw`, and its stream of slot 0 names five words of tile 2's stash. -/
def element (s : State) (e kind cw : Nat) (f : Elem → Elem) : State :=
  s.lift (fun w => w.setElem 3 e (f { baseElem e with planeA :=
    { ctll := kind * 2 ^ 13, links := 0o1111, ctx := [(0, cw)], strm := [(0, ⟨0xFF * 2 ^ 64 + 0x400040, [5], [8]⟩)] } }))

/-- The context word of an STS whose input is port 1 (07 R158, 15 R291). -/
abbrev stsWord : Nat := 2 ^ 28 + 3 * 2 ^ 23 + 2 ^ 18

/-- The same region while the kettle has a sink still to reach, an STS of tile 3. -/
def pouring : Region := { quiet with sinks := [3 * 4096 + 16 * 16] }
def withSink (s : State) : State := element s 16 3 stsWord id

theorem ready_within (i : Instr) (l r p : Word) (g : Region) (h2 : (shape i).pr = 2#2 → p.getLsbD 0 = false)
    (h3 : (shape i).pr = 3#2 → p.getLsbD 0 = true) : ready (within (firing l r p) g) i (oneBlock (operands l r p)) l r p :=
  ⟨⟨rfl, rfl, by show 1 < 3; decide, rfl⟩, fun _ => rfl, fun _ => rfl, fun _ => rfl, h2, h3⟩

theorem in_within (l r p : Word) (g : Region) : inRegion (within (firing l r p) g) 7 g := ⟨rfl, rfl⟩

/-- A key pair: a point of P-384, and an LMS key of typecodes 5 and 2, identifier 0. -/
def imageKey : SigKey :=
  ⟨0xb6217c960c36e0f13732ab49eab7bcc609302917eee18146fac42fb8e59143fb6d091554ab16738095645fa9dd09cb88,
   0xeaec90c88b70607f81f74840a5a33af3409f26464784157172abbdaac6625d6dfc8869d66789dac13949b7a891c93233, 5, 2, 0,
   0x7e474889759d704b819df5481a359e9709ee1518ce16577888b1a197cc8dee5b⟩

/-- The bytes of an image for one tile without a command (07 R172, R173), 88 before its signature block. -/
def emptyBody : List Nat :=
  [70, 71, 71, 73, 1, 0, 64, 0, 1, 1, 1, 0, 0, 0, 0, 0, 64, 0, 0, 0, 1, 0, 0, 0, 0, 0, 0, 0, 88, 0, 0, 0, 212, 17] ++ List.replicate 34 0
  ++ [64] ++ List.replicate 11 0 ++ [64, 0, 0, 0, 0, 0, 0, 0]

/-- A signature block over those bytes (07 R174), which verifies under `imageKey`: its r is 2, its s is 1, and its LMS signature has values of
0 alone. -/
def emptyBlock : List Nat :=
  [96, 0, 0, 0, 108, 17] ++ List.replicate 49 0 ++ [2] ++ List.replicate 47 0 ++ [1, 0, 0, 0, 0, 0, 0, 0, 2, 250, 174, 17] ++
  List.replicate 4288 0 ++ [5] ++ List.replicate 160 0
def emptyImage : List Nat := emptyBody ++ emptyBlock

/-- The bytes of that image that are not 0, from an address on. -/
def imageCells (pa : Nat) : List Host.Cell :=
  ([(0, 70), (1, 71), (2, 71), (3, 73), (4, 1), (6, 64), (8, 1), (9, 1), (10, 1), (16, 64), (20, 1), (28, 88), (32, 212), (33, 17), (68,
    64), (80, 64), (88, 96), (92, 108), (93, 17), (143, 2), (191, 1), (199, 2), (200, 250), (201, 174), (202, 17), (4491, 5)] : List Host.Cell).map (fun x => (pa + x.1, x.2))

/-! ### Reading an image -/

theorem load_lt (w : Work) : ∀ n a : Nat, w.load a n < 256 ^ n
  | 0, _ => Nat.one_pos
  | n + 1, a => by
    have h := load_lt w n (a + 1)
    have b : (w.byte a).toNat < 256 := (w.byte a).isLt
    rw [pow_succ]
    show (w.byte a).toNat + 256 * w.load (a + 1) n < _
    omega

/-- The bytes of a word as they lie in memory. -/
theorem bytes_of_load (w : Work) : ∀ n a : Nat, bytesOf n (w.load a n) = (List.range n).map (fun i => (w.byte (a + i)).toNat)
  | 0, _ => rfl
  | n + 1, a => by
    have b : (w.byte a).toNat < 256 := (w.byte a).isLt
    have e : bytesOf (n + 1) (w.load a (n + 1)) = (w.byte a).toNat :: bytesOf n (w.load (a + 1) n) := by
      show ((w.byte a).toNat + 256 * w.load (a + 1) n) % 256 :: bytesOf n (((w.byte a).toNat + 256 * w.load (a + 1) n) / 256) = _
      rw [Nat.add_mul_mod_self_left, Nat.mod_eq_of_lt b, Nat.add_mul_div_left _ _ (by decide), Nat.div_eq_of_lt b, Nat.zero_add]
    rw [e, bytes_of_load w n (a + 1), List.range_succ_eq_map, List.map_cons, List.map_map]
    refine congrArg _ (List.map_congr_left fun i _ => ?_)
    show _ = (w.byte (a + (i + 1))).toNat
    rw [show a + (i + 1) = a + 1 + i by ring]

theorem bytes_of_word (w : Work) (a : Nat) : bytesOf 8 (BitVec.ofNat 64 (w.load a 8)).toNat = (List.range 8).map (fun i => (w.byte (a + i)).toNat) := by
  rw [BitVec.toNat_ofNat, Nat.mod_eq_of_lt (show _ < 2 ^ 64 from load_lt w 8 a), bytes_of_load]

/-- The `n` words at `va` are read at `pa`, and reading them changes nothing. -/
def readable (w : Work) (q : Who) (va pa n : Nat) : Prop :=
  va % 2 ^ 64 + 8 * n < 2 ^ 64 ∧ va % 8 = 0 ∧ ∀ k, k < n → w.translate q .desc 8 (va + 8 * k) = (w, .ok (pa + 8 * k) none) ∧ w.poisonOf (pa + 8 * k) = none

theorem read_words {w : Work} {q : Who} : ∀ {n va pa : Nat}, readable w q va pa n →
    w.readWords q n va = (w, .ok ((List.range n).map (fun k => BitVec.ofNat 64 (w.load (pa + 8 * k) 8))))
  | 0, _, _, _ => rfl
  | n + 1, va, pa, ⟨hv, h8, h⟩ => by
    have h0 := h 0 (by omega)
    have hr : readable w q (va + 8) (pa + 8) n := by
      refine ⟨by omega, by omega, fun k hk => ?_⟩
      have := h (k + 1) (by omega)
      rwa [show va + 8 * (k + 1) = va + 8 + 8 * k by ring, show pa + 8 * (k + 1) = pa + 8 + 8 * k by ring] at this
    have hn : 2 ^ 64 * (va / 2 ^ 64) + low (va + 8) 64 = va + 8 := by unfold low; omega
    rw [Nat.mul_zero, Nat.add_zero, Nat.add_zero] at h0
    unfold Work.readWords
    rw [if_neg (by simp [h8]), h0.1]
    simp only [h0.2, hn, read_words hr, Work.dataAt, List.range_succ_eq_map, List.map_cons, List.map_map, Nat.mul_zero, Nat.add_zero]
    refine congrArg (fun l => (w, Except.ok (_ :: l))) (List.map_congr_left fun k _ => ?_)
    show _ = BitVec.ofNat 64 (w.load (pa + 8 * (k + 1)) 8)
    rw [show pa + 8 * (k + 1) = pa + 8 + 8 * k by ring]

theorem bytes_of_words (w : Work) (pa : Nat) : ∀ n : Nat,
    ((List.range n).map (fun k => BitVec.ofNat 64 (w.load (pa + 8 * k) 8))).flatMap (fun v => bytesOf 8 v.toNat)
      = (List.range (8 * n)).map (fun i => (w.byte (pa + i)).toNat)
  | 0 => rfl
  | n + 1 => by
    rw [List.range_succ, List.map_append, List.flatMap_append, bytes_of_words w pa n, Nat.mul_succ, List.range_add, List.map_append]
    simp only [List.map_cons, List.map_nil, List.flatMap_cons, List.flatMap_nil, List.append_nil, bytes_of_word, List.map_map]
    refine congrArg _ (List.map_congr_left fun i _ => ?_)
    show _ = (w.byte (pa + (8 * n + i))).toNat
    rw [Nat.add_assoc]

theorem read_bytes {w : Work} {q : Who} {va pa n m : Nat} (h : readable w q va pa n) (hm : (m + 7) / 8 ≤ n) :
    w.readImageBytes q va m = (w, .ok ((List.range m).map (fun i => (w.byte (pa + i)).toNat))) := by
  have hr : readable w q va pa ((m + 7) / 8) := ⟨by have := h.1; omega, h.2.1, fun k hk => h.2.2 k (by omega)⟩
  unfold Work.readImageBytes
  rw [read_words hr]
  simp only [bytes_of_words, ← List.map_take, List.take_range, min_eq_left (show m ≤ 8 * ((m + 7) / 8) by omega)]

/-- The bytes at `pa` are the image's. -/
def holdsImage (w : Work) (pa : Nat) : Prop := ∀ i, i < 4652 → w.byte (pa + i) = memGet (imageCells 0) i

theorem cells_from (pa i : Nat) : ∀ cs : List Host.Cell, memGet (cs.map (fun x => (pa + x.1, x.2))) (pa + i) = memGet (cs.map (fun x => (0 + x.1, x.2))) i
  | [] => rfl
  | c :: cs => by
    simp only [List.map_cons, memGet, cells_from pa i cs, beq_iff_eq, Nat.zero_add, Nat.add_right_inj]

theorem cells_zero {i : Nat} (h : 203 ≤ i ∧ i ≠ 4491) : memGet (imageCells 0) i = 0 := by
  simp only [imageCells, List.map_cons, List.map_nil, memGet, beq_iff_eq]
  repeat rw [if_neg (by omega)]
  rfl

theorem image_bytes : (List.range 4652).map (fun i => (memGet (imageCells 0) i).toNat) = emptyImage := by
  have e : emptyImage = (emptyBody ++ ([96, 0, 0, 0, 108, 17] ++ List.replicate 49 0 ++ [2] ++ List.replicate 47 0 ++ [1, 0, 0, 0, 0, 0, 0, 0, 2, 250, 174, 17]))
      ++ (List.replicate 4288 0 ++ ([5] ++ List.replicate 160 0)) := by
    simp only [emptyImage, emptyBlock, List.append_assoc]
  have z : ∀ a n, (∀ j, j < n → 203 ≤ a + j ∧ a + j ≠ 4491) → ((List.range n).map (fun j => (memGet (imageCells 0) (a + j)).toNat)) = List.replicate n 0 := by
    intro a n h
    rw [List.eq_replicate_iff]
    refine ⟨by simp, fun b hb => ?_⟩
    obtain ⟨j, hj, rfl⟩ := List.mem_map.mp hb
    rw [cells_zero (h j (List.mem_range.mp hj))]; rfl
  have f : (List.range 203).map (fun i => (memGet (imageCells 0) i).toNat)
      = emptyBody ++ ([96, 0, 0, 0, 108, 17] ++ List.replicate 49 0 ++ [2] ++ List.replicate 47 0 ++ [1, 0, 0, 0, 0, 0, 0, 0, 2, 250, 174, 17]) := by decide +kernel
  rw [e, show 4652 = 203 + (4288 + (1 + 160)) from rfl, List.range_add, List.range_add (n := 4288), List.range_add (n := 1)]
  simp only [List.map_append, List.map_map]
  refine congrArg₂ _ f (congrArg₂ _ ?_ (congrArg₂ _ ?_ ?_))
  · exact z 203 4288 (by omega)
  · decide +kernel
  · refine Eq.trans (List.map_congr_left fun j _ => ?_) (z 4492 160 (by omega))
    show (memGet (imageCells 0) (203 + (4288 + (1 + j)))).toNat = _
    rw [show 203 + (4288 + (1 + j)) = 4492 + j by ring]

/-- An image that lies in readable memory is read whole. -/
theorem reads_image {w : Work} {q : Who} {va pa : Nat} (h : readable w q va pa 582) (hb : holdsImage w pa) :
    w.readImage q va = (w, .ok emptyImage) := by
  have b (m : Nat) (hm : m ≤ 4652) : w.readImageBytes q va m = (w, .ok ((List.range m).map (fun i => (memGet (imageCells 0) i).toNat))) := by
    rw [read_bytes h (by omega)]
    exact congrArg (fun l => (w, Except.ok l)) (List.map_congr_left fun i hi => by rw [hb i (by have := List.mem_range.mp hi; omega)])
  unfold Work.readImage
  rw [b 64 (by decide)]
  simp only
  rw [if_pos (by decide +kernel), show imageLength ((List.range 64).map (fun i => (memGet (imageCells 0) i).toNat)) = 4652 by decide +kernel, b 4652 (by decide), image_bytes]

/-- R174: the signature block verifies under that key. The expected value was computed by another implementation of the standards. -/
theorem test_dual_signature : dualOk imageKey emptyBody emptyBlock = true := by decide +kernel

theorem image_signed : signedBy [imageKey] emptyImage = true := by
  have h : bytesAt emptyImage 28 4 = emptyBody.length := by decide +kernel
  simp only [signedBy, List.any_cons, List.any_nil, h]
  simp only [emptyImage, List.take_left, List.drop_left, test_dual_signature, Bool.or_false]

/-- What the image says (07 R172). -/
def emptyParsed : Image :=
  { w := 1, h := 1, live := 1, reloc := false, permissive := false, partial_ := false, ptmask := 0, stashres := 0,
    sections := [sectionAt emptyImage 0] }

theorem image_parsed : parseImage [imageKey] emptyImage = some emptyParsed := by
  simp only [parseImage, image_signed, Bool.not_true, Bool.or_false]
  decide +kernel

/-- The image lies at `stashVa`, and its signature is one that verifies. -/
def imaged : State :=
  { withCore (within (firing stashVa 0 0) quiet) (fun c => { c with imageKeys := [imageKey] }) with mem := imageCells stashPa }

/-- A stream of BEGIN and END lies at `stashVa`. -/
def streamed : State := withWords (within (firing stashVa 2 0) quiet) [(stashPa, 0xFFFF0000FFF80002, false)]

theorem wit_staging_stream : ready streamed (.cfgstrm 0 0x1FF 0x180) (oneBlock (operands stashVa 2 0)) stashVa 2 0 ∧ accessTurn streamed ∧ inRegion streamed 7 quiet
    ∧ (∀ x ∈ (oneBlock (operands stashVa 2 0)).waits, x.idx ≠ streamed.focus.idx) ∧ quiet.staging = none
    ∧ ∃ w, (afterClaim streamed 7 quiet).readWords32 (afterClaim streamed 7 quiet).who 2 (operandVa streamed stashVa) = (w, .ok [0xFFF80002, 0xFFFF0000])
      ∧ w.collateRegion 7 (claimed streamed quiet) quiet.stashres (streamCmds [0xFFF80002, 0xFFFF0000]) = .ok ([], false) := by
  refine ⟨?_, ?_, ?_, by decide, rfl, _, pair_of (by decide +kernel), ?_⟩
  · unfold ready standing; decide +kernel
  · unfold accessTurn; decide +kernel
  · unfold inRegion; decide +kernel
  · rfl

/-- The Collator accepts the stream that an image makes in region `g`. -/
def collates (s : State) (g : Region) (img : Image) (w : Work) : Bool :=
  match img.stream (claimed s g) with
  | .error _ => false
  | .ok cs => match w.collateRegion 7 (claimed s g) img.stashres cs with
    | .error _ => false
    | .ok _ => true

theorem collates_spec {s : State} {g : Region} {img : Image} {w : Work} (h : collates s g img w = true) : ∃ cs ps race,
    img.stream (claimed s g) = .ok cs ∧ w.collateRegion 7 (claimed s g) img.stashres cs = .ok (ps, race) := by
  unfold collates at h
  split at h <;> try contradiction
  split at h <;> try contradiction
  exact ⟨_, _, _, by assumption, by assumption⟩

/-- The machine as CFGLD reads its image. -/
abbrev imageWork : Work := afterClaim imaged 7 quiet

theorem image_taken : collates imaged quiet emptyParsed imageWork = true := by decide +kernel

/-- Firmware reads what lies in a tile's stash, and nothing changes (05 R91). -/
theorem stash_readable {w : Work} {q : Who} {va pa n t : Nat} (hq : q.fw = true) (hp : w.core.poison = []) (ht : t < 160) (ho : va % 2 ^ 64 = t * 0x200000 + va % 0x200000)
    (hs : va / 2 ^ 64 = 0xFF) (h8 : va % 8 = 0) (hn : va % 0x200000 + 8 * n ≤ 0x180000) (hpa : pa = stashBase t + va % 0x200000) : readable w q va pa n := by
  refine ⟨by omega, h8, fun k hk => ⟨?_, ?_⟩⟩
  · have e1 : bits (va + 8 * k) 64 8 = 0xFF := by unfold bits; omega
    have e2 : low (va + 8 * k) 64 = t * 0x200000 + (va % 0x200000 + 8 * k) := by unfold low; omega
    unfold Work.translate
    simp only [e1, e2, hq]
    rw [if_pos (by decide), show (t * 0x200000 + (va % 0x200000 + 8 * k)) / 0x200000 = t by omega,
      show (t * 0x200000 + (va % 0x200000 + 8 * k)) % 0x200000 = va % 0x200000 + 8 * k by omega, if_neg (by simp; omega), hpa, Nat.add_assoc]
    rfl
  · unfold Work.poisonOf; rw [hp]; rfl

theorem image_read : imageWork.readImage imageWork.who (operandVa imaged stashVa) = (imageWork, .ok emptyImage) := by
  refine reads_image (stash_readable (t := 3) (pa := stashPa) ?_ ?_ ?_ ?_ ?_ ?_ ?_ ?_) fun i _ => ?_
  any_goals decide +kernel
  exact cells_from stashPa i _

theorem wit_staging_image : ready imaged (.cfgld 0 0x1FF 0x180) (oneBlock (operands stashVa 0 0)) stashVa 0 0 ∧ accessTurn imaged ∧ inRegion imaged 7 quiet
    ∧ (∀ x ∈ (oneBlock (operands stashVa 0 0)).waits, x.idx ≠ imaged.focus.idx) ∧ quiet.staging = none ∧ stashVa.toNat % 64 = 0
    ∧ ∃ w img cs ps race, (afterClaim imaged 7 quiet).readImage (afterClaim imaged 7 quiet).who (operandVa imaged stashVa) = (w, .ok emptyImage)
      ∧ parseImage w.core.imageKeys emptyImage = some img ∧ img.stream (claimed imaged quiet) = .ok cs
      ∧ w.collateRegion 7 (claimed imaged quiet) img.stashres cs = .ok (ps, race) := by
  have ⟨cs, ps, race, h⟩ := collates_spec image_taken
  refine ⟨?_, ?_, ?_, by decide, rfl, by decide, _, emptyParsed, cs, ps, race, image_read, image_parsed, h⟩
  · unfold ready standing; decide +kernel
  · unfold accessTurn; decide +kernel
  · unfold inRegion; decide +kernel

theorem wit_switch_and_abort : ((∀ x ∈ (oneBlock (operands 0 0 0)).waits, x.idx ≠ (firing 0 0 0).focus.idx) ∧ quiet.staging = none ∧ quiet.armedSince = false
      ∧ quiet.kettle ≠ 0 ∧ quiet.sinks = [] ∧ quiet.switches < 65535 ∧ quiet.rollable = false)
    ∧ (ready (within (firing 0 0 0) quiet) (.cfgsw 0 0x1FF 0x180) (oneBlock (operands 0 0 0)) 0 0 0 ∧ inRegion (within (firing 0 0 0) quiet) 7 quiet
      ∧ ((afterClaim (within (firing 0 0 0) quiet) 7 quiet).discardStranded quiet.live).2 = 0)
    ∧ ready (within (firing 0 0 0) quiet) (.cfgabort 0 0x1FF 0x180) (oneBlock (operands 0 0 0)) 0 0 0
    ∧ (ready (within (firing 0 0 0) { quiet with rollable := true }) (.cfgabort 0 0x1FF 0x180) (oneBlock (operands 0 0 0)) 0 0 0
      ∧ inRegion (within (firing 0 0 0) { quiet with rollable := true }) 7 { quiet with rollable := true }
      ∧ ((afterClaim (within (firing 0 0 0) { quiet with rollable := true }) 7 { quiet with rollable := true }).discardStranded quiet.live).2 = 0) :=
  ⟨by decide, ⟨ready_within _ _ _ _ _ (by decide) (by decide), in_within .., by decide +kernel⟩, ready_within _ _ _ _ _ (by decide) (by decide),
   ready_within _ _ _ _ _ (by decide) (by decide), in_within .., by decide +kernel⟩

theorem wit_arm_drain_inject : ((oneBlock (operands 91 0 0)).effs = [] ∧ quiet.arms + (within (firing 91 0 0) quiet).work.armsLate 7 + 91 ≤ quiet.tcount
      ∧ ready (within (firing 91 0 0) quiet) (.arm 0 0x1FF 0x180) (oneBlock (operands 91 0 0)) 91 0 0 ∧ inRegion (within (firing 91 0 0) quiet) 7 quiet)
    ∧ ready (within (firing 0 0 0) quiet) (.drain 0 0x1FF 0x180) (oneBlock (operands 0 0 0)) 0 0 0
    ∧ (ready (within (firing 0x11 5 0) quiet) (.inject 0) (oneBlock (operands 0x11 5 0)) 0x11 5 0 ∧ (within (firing 0x11 5 0) quiet).work.det = false
      ∧ 0x11 / 2 ^ 8 % 2 ^ 4 = (within (firing 0x11 5 0) quiet).work.slotOf 3)
    ∧ (ready (within (firing 0x2011 5 0) quiet) (.inject 0) (oneBlock (operands 0x2011 5 0)) 0x2011 5 0 ∧ (0x2011 : Word).getLsbD 13 = true
      ∧ ((within (firing 0x2011 5 0) quiet).work.elem 3 0x11).ctl.length + ((within (firing 0x2011 5 0) quiet).work.elem 3 0x11).ctlHeld.length < 4) :=
  ⟨⟨rfl, by decide +kernel, ready_within _ _ _ _ _ (by decide) (by decide), in_within ..⟩, ready_within _ _ _ _ _ (by decide) (by decide),
   ⟨ready_within _ _ _ _ _ (by decide) (by decide), by decide +kernel, by decide +kernel⟩,
   ready_within _ _ _ _ _ (by decide) (by decide), by decide, by decide +kernel⟩

theorem wit_sinkrd_kwait : (∀ l ∈ [(0xFFF : Word), 0x1FFF, 0x3FFF, 0xFF, 0x10FF, 0x20FF], ready (within (firing l 0 0) quiet) (.sinkrd 0 0x1FF 0x180) (oneBlock (operands l 0 0)) l 0 0
      ∧ inRegion (within (firing l 0 0) quiet) 7 quiet)
    ∧ (255 < 256 ∧ (0xFF : Word).toNat = (within (firing 0xFF 0 0) quiet).work.slotOf 3 * 2 ^ 8 + 255 ∧ (within (firing 0xFF 0 0) quiet).work.slotOf 3 * 2 ^ 8 + 255 < 0xFFF
      ∧ (0x10FF : Word).toNat = 2 ^ 12 + (within (firing 0x10FF 0 0) quiet).work.slotOf 3 * 2 ^ 8 + 255
      ∧ (0x20FF : Word).toNat = 2 ^ 13 + (within (firing 0x20FF 0 0) quiet).work.slotOf 3 * 2 ^ 8 + 255)
    ∧ (∀ k ∈ [0, 4], ready (within (firing 0 0 0) { quiet with kettle := k }) (.kwait 0 31 0x1FF 0x180) (oneBlock (operands 0 0 0)) 0 0 0
      ∧ inRegion (within (firing 0 0 0) { quiet with kettle := k }) 7 { quiet with kettle := k })
    ∧ (within (firing 0 0 0) quiet).work.kettleReached quiet quiet.kettle = true
    ∧ (ready (withSink (within (firing 0 0 0) pouring)) (.kwait 0 31 0x1FF 0x180) (oneBlock (operands 0 0 0)) 0 0 0
      ∧ inRegion (withSink (within (firing 0 0 0) pouring)) 7 pouring
      ∧ (withSink (within (firing 0 0 0) pouring)).work.kettleReached pouring 4 = false) :=
  ⟨fun _ _ => ⟨ready_within _ _ _ _ _ (by decide) (by decide), in_within ..⟩, by decide +kernel,
   fun _ _ => ⟨ready_within _ _ _ _ _ (by decide) (by decide), in_within ..⟩, by decide +kernel, by unfold ready standing; decide +kernel,
   by unfold inRegion; decide +kernel, by decide +kernel⟩

/-- Instruction `i` waits in the second place of the block of context 1 of tile 3, in region 7. -/
def waitsIn (g : Region) (i : Instr) (l r : Word) (x : Waiting) : State := within (withOne (waitingBlock i l r x)) g

theorem wit_region_waits : (waitingAt (waitsIn quiet (.cfgabort 0 0x1FF 0x180) 0 0 ⟨1, 7, 0, 7, none, []⟩) 3 1 1
        (waitingBlock (.cfgabort 0 0x1FF 0x180) 0 0 ⟨1, 7, 0, 7, none, []⟩) (.cfgabort 0 0x1FF 0x180) 0 0 ⟨1, 7, 0, 7, none, []⟩)
    ∧ (waitingAt (waitsIn quiet (.cfgsw 0 0x1FF 0x180) 0 0 ⟨1, 7, 0, 7, none, [4]⟩) 3 1 1
        (waitingBlock (.cfgsw 0 0x1FF 0x180) 0 0 ⟨1, 7, 0, 7, none, [4]⟩) (.cfgsw 0 0x1FF 0x180) 0 0 ⟨1, 7, 0, 7, none, [4]⟩
      ∧ ((waitsIn quiet (.cfgsw 0 0x1FF 0x180) 0 0 ⟨1, 7, 0, 7, none, [4]⟩).work.discardStranded quiet.live).2 = 0
      ∧ ((waitsIn quiet (.cfgsw 0 0x1FF 0x180) 0 0 ⟨1, 7, 0, 7, none, [4]⟩).work.tile 3).region = some 7
      ∧ mapFind 7 (waitsIn quiet (.cfgsw 0 0x1FF 0x180) 0 0 ⟨1, 7, 0, 7, none, [4]⟩).core.regions = some quiet)
    ∧ (waitingAt (waitsIn quiet (.kwait 0 0 0x1FF 0x180) 0 0 ⟨1, 7, 0, 77, none, [4]⟩) 3 1 1
        (waitingBlock (.kwait 0 0 0x1FF 0x180) 0 0 ⟨1, 7, 0, 77, none, [4]⟩) (.kwait 0 0 0x1FF 0x180) 0 0 ⟨1, 7, 0, 77, none, [4]⟩
      ∧ (waitsIn quiet (.kwait 0 0 0x1FF 0x180) 0 0 ⟨1, 7, 0, 77, none, [4]⟩).work.kettleReached quiet 4 = true)
    ∧ (waitingAt (withSink (waitsIn pouring (.kwait 0 0 0x1FF 0x180) 0 0 ⟨1, 7, 0, 77, none, [4]⟩)) 3 1 1
        (waitingBlock (.kwait 0 0 0x1FF 0x180) 0 0 ⟨1, 7, 0, 77, none, [4]⟩) (.kwait 0 0 0x1FF 0x180) 0 0 ⟨1, 7, 0, 77, none, [4]⟩
      ∧ (withSink (waitsIn pouring (.kwait 0 0 0x1FF 0x180) 0 0 ⟨1, 7, 0, 77, none, [4]⟩)).work.kettleReached pouring 4 = false)
    ∧ (waitingAt (waitsIn quiet (.inject 0) 0x2011 5 ⟨1, 7, 0, 77, none, []⟩) 3 1 1
        (waitingBlock (.inject 0) 0x2011 5 ⟨1, 7, 0, 77, none, []⟩) (.inject 0) 0x2011 5 ⟨1, 7, 0, 77, none, []⟩
      ∧ ((waitsIn quiet (.inject 0) 0x2011 5 ⟨1, 7, 0, 77, none, []⟩).work.elem 3 0x11).ctl = []
      ∧ ((waitsIn quiet (.inject 0) 0x2011 5 ⟨1, 7, 0, 77, none, []⟩).work.elem 3 0x11).ctlHeld = []) := by
  refine ⟨?_, ⟨?_, ?_, rfl, rfl⟩, ⟨?_, ?_⟩, ⟨?_, ?_⟩, ?_, rfl, rfl⟩
  all_goals first | decide +kernel | (unfold waitingAt flying; decide +kernel)

/-- Words from `stashVa` on, as a descriptor. -/
def withDescriptor (s : State) (ws : List Word) : State := withWords s (((List.range ws.length).zip ws).map (fun x => (stashPa + 8 * x.1, x.2, false)))

/-- The instruction in focus has operands `stashVa` and `r`, and the descriptor that its left operand names holds `ws`. -/
def commanding (r : Word) (ws : List Word) : State := withDescriptor (firing stashVa r 0) ws

/-- A descriptor reads as its words. -/
theorem described_of {s : State} {a : Word} {ws : List Word}
    (h : a.toNat % 64 = 0 ∧ (s.work.readWords s.work.who 8 (operandVa s a)).2 = .ok ws) :
    Claims.described s a (s.work.readWords s.work.who 8 (operandVa s a)).1 ws := ⟨h.1, pair_of h.2⟩

/-- A completion word can be written. -/
theorem completes_of {w : Work} {va : Nat} (pa : Nat) (b : Option Bool)
    (h : va % 2 ^ 64 ≠ 0 ∧ va % 8 = 0 ∧ (w.translate w.who .fill 8 va).2 = .ok pa b) : completes w va (w.translate w.who .fill 8 va).1 :=
  .inr ⟨h.1, h.2.1, _, _, pair_of h.2.2⟩

/-- A descriptor of CPY with a completion word, at 0x600100. -/
abbrev copyWords : List Word := [0x1000, 0x2000, 0x0102000000000040, 0x600100, 0xFF, 0, 0, 0]

theorem wit_copies : (∃ w u, ready (commanding 0 copyWords) (.cpy 0 0) (oneBlock (operands stashVa 0 0)) stashVa 0 0
      ∧ accessTurn (commanding 0 copyWords) ∧ copyRow (.cpy 0 0) 0x1000 0x2000 0x0102000000000040 ∧ Claims.described (commanding 0 copyWords) stashVa w copyWords
      ∧ (0xFF : Word).toNat < 256 ∧ completes w ((0xFF : Word).toNat * 2 ^ 64 + (0x600100 : Word).toNat) u)
    ∧ (ready (firing 8 0 0) (.cpyfeOut 0) (oneBlock (operands 8 0 0)) 8 0 0 ∧ accessTurn (firing 8 0 0) ∧ copyRow (.cpyfeOut 0) 0 0 0 ∧ (8 : Word).toNat % 64 ≠ 0)
    ∧ (∃ w, ready (commanding 0 [8, 16, 0x7C, 0, 0, 0, 0, 0]) (.cpy 0 2) (oneBlock (operands stashVa 0 0)) stashVa 0 0 ∧ accessTurn (commanding 0 [8, 16, 0x7C, 0, 0, 0, 0, 0]) ∧ (2#2 ≠ 3#2)
      ∧ Claims.described (commanding 0 [8, 16, 0x7C, 0, 0, 0, 0, 0]) stashVa w [8, 16, 0x7C, 0, 0, 0, 0, 0] ∧ (0x7C : Word).toNat % 8 ≠ 0)
    ∧ (∃ w, ready (commanding 0 [8, 16, 0x78, 0, 0, 0, 9, 0]) (.cpy 0 3) (oneBlock (operands stashVa 0 0)) stashVa 0 0
      ∧ accessTurn (commanding 0 [8, 16, 0x78, 0, 0, 0, 9, 0]) ∧ Claims.described (commanding 0 [8, 16, 0x78, 0, 0, 0, 9, 0]) stashVa w [8, 16, 0x78, 0, 0, 0, 9, 0] ∧ (9 : Word) ≠ 0) := by
  refine ⟨⟨_, _, ?_, ?_, ?_, described_of ?_, by decide, completes_of (stashBase 3 + 0x100) none ?_⟩, ⟨ready_firing _ _ _ _ (by decide) (by decide), ?_, ?_, by decide⟩,
    ⟨_, ?_, ?_, by decide, described_of ?_, by decide⟩, ⟨_, ?_, ?_, described_of ?_, by decide⟩⟩
  all_goals first | (unfold accessTurn; decide +kernel) | decide +kernel | (unfold ready standing; decide +kernel) | (unfold copyRow; decide)

abbrev imposeWords : List Word := [0x1004, 0x00FFF00000023, 0x200C, 8, 0xFFFF, 0x600108, 0, 0]
abbrev digestWords : List Word := [0x1008, 0x40, 0, 0, 0, 0, 0, 0]

theorem wit_imposer : (∃ w u, ready (commanding 0 imposeWords) (.impose 0) (oneBlock (operands stashVa 0 0)) stashVa 0 0
      ∧ accessTurn (commanding 0 imposeWords) ∧ Claims.described (commanding 0 imposeWords) stashVa w imposeWords ∧ (0x1004 : Word).toNat % 4 = 0 ∧ (0x00FFF00000023 : Word).toNat < 2 ^ 44
      ∧ (0x200C : Word).toNat % 4 = 0 ∧ (8 : Word).toNat % 8 = 0 ∧ (0xFFFF : Word).toNat < 2 ^ 16 ∧ completes w (inSegment w 0x600108) u)
    ∧ (ready (firing 0xFFFF 0 0) (.imprel 0) (oneBlock (operands 0xFFFF 0 0)) 0xFFFF 0 0 ∧ (0xFFFF : Word).toNat < 2 ^ 16)
    ∧ (∃ w u, ready (commanding 0 digestWords) (.dgst 0) (oneBlock (operands stashVa 0 0)) stashVa 0 0
      ∧ accessTurn (commanding 0 digestWords) ∧ Claims.described (commanding 0 digestWords) stashVa w digestWords ∧ (0x1008 : Word).toNat % 8 = 0 ∧ (0x40 : Word).toNat % 8 = 0
      ∧ (0x40 : Word).toNat < 2 ^ 48 ∧ completes w (inSegment w 0) u) := by
  refine ⟨⟨_, _, ?_, ?_, described_of ?_, by decide, by decide, by decide, by decide, by decide, completes_of (stashBase 3 + 0x108) none ?_⟩,
    ⟨ready_firing _ _ _ _ (by decide) (by decide), by decide⟩,
    ⟨_, _, ?_, ?_, described_of ?_, by decide, by decide, by decide, .inl ⟨?_, rfl⟩⟩⟩
  all_goals first | (unfold accessTurn; decide +kernel) | decide +kernel | (unfold ready standing; decide +kernel)

/-- A pool at 0x600100 of tile 3's stash (17 R352): base, size and segment, what is carved, and the head of the list of class 0. -/
abbrev poolVa : Word := 0x600100
abbrev poolPa : Nat := stashBase 3 + 0x100
def pool (s : State) (used head : Word) : State :=
  withWords s [(poolPa, 0x610000, false), (poolPa + 8, 0x1FF000000010000, false), (poolPa + 16, used, false), (poolPa + 64, head, false)]

theorem sound_of {w : Work} {pool : Nat} (h : poolWord w pool 0 % 65536 = 0 ∧ poolWord w pool 1 / 2 ^ 57 = 0 ∧ poolWord w pool 1 % 65536 = 0
    ∧ poolWord w pool 3 / 2 ^ 32 = 0 ∧ ∀ k, k < 32 → (4 ≤ k ∧ k < 8) ∨ 25 ≤ k → poolWord w pool k = 0) : poolSound w pool :=
  ⟨h.1, h.2.1, h.2.2.1, h.2.2.2.1, fun k hk => h.2.2.2.2 k (by omega) (by omega)⟩

theorem pooled_of {s : State} {ea pa : Nat} {u : Option Bool}
    (h : ea % 256 = 0 ∧ s.work.det = false ∧ (s.work.translate s.work.who .atomic 8 (s.work.me.dseg.toNat * 2 ^ 64 + ea)).2 = .ok pa u
      ∧ ∀ k, k < 4 → (s.work.translate s.work.who .atomic 8 (s.work.me.dseg.toNat * 2 ^ 64 + ea)).1.poisonOf (pa + 64 * k) = none)
    (h' : poolSound (s.work.translate s.work.who .atomic 8 (s.work.me.dseg.toNat * 2 ^ 64 + ea)).1 pa) :
    pooled s ea (s.work.translate s.work.who .atomic 8 (s.work.me.dseg.toNat * 2 ^ 64 + ea)).1 pa :=
  ⟨h.1, h.2.1, ⟨u, pair_of h.2.2.1⟩, h.2.2.2, h'⟩

theorem wit_alloc : (∃ w u, ready (pool (firing poolVa 16 0) 0 0x610040) (.allocT 0 0x1FF 0x180) (oneBlock (operands poolVa 16 0)) poolVa 16 0
      ∧ accessTurn (pool (firing poolVa 16 0) 0 0x610040) ∧ unclaimed (pool (firing poolVa 16 0) 0 0x610040)
      ∧ pooled (pool (firing poolVa 16 0) 0 0x610040) poolVa.toNat w poolPa ∧ 0 = classOf (16 : Word).toNat ∧ (16 : Word).toNat ≤ 2 ^ 20
      ∧ poolWord w poolPa 8 ≠ 0 ∧ poolWord w poolPa 8 % 8 = 0
      ∧ w.blockPages w.who 17 (poolWord w poolPa 1 / 2 ^ 48 % 2 ^ 8 * 2 ^ 64 + poolWord w poolPa 8) (16 * 2 ^ 0) = (u, .ok [(stashBase 3 + 0x10040, 16)]))
    ∧ (∃ w u, ready (pool (firing poolVa 16 0) 3 0) (.allocN 0 0x1FF 0x180) (oneBlock (operands poolVa 16 0)) poolVa 16 0
      ∧ accessTurn (pool (firing poolVa 16 0) 3 0) ∧ unclaimed (pool (firing poolVa 16 0) 3 0)
      ∧ pooled (pool (firing poolVa 16 0) 3 0) poolVa.toNat w poolPa ∧ poolWord w poolPa 8 = 0
      ∧ carvedAt (poolWord w poolPa 2) 0 + 16 * 2 ^ 0 ≤ poolWord w poolPa 1 % 2 ^ 48
      ∧ w.blockPages w.who 17 (poolWord w poolPa 1 / 2 ^ 48 % 2 ^ 8 * 2 ^ 64 + (poolWord w poolPa 0 + carvedAt (poolWord w poolPa 2) 0) % 2 ^ 64) (16 * 2 ^ 0)
        = (u, .ok [(stashBase 3 + 0x10010, 16)]))
    ∧ (∃ w, ready (pool (firing poolVa 16 0) 0xFFF1 0) (.allocT 0 0x1FF 0x180) (oneBlock (operands poolVa 16 0)) poolVa 16 0
      ∧ accessTurn (pool (firing poolVa 16 0) 0xFFF1 0) ∧ unclaimed (pool (firing poolVa 16 0) 0xFFF1 0)
      ∧ pooled (pool (firing poolVa 16 0) 0xFFF1 0) poolVa.toNat w poolPa ∧ poolWord w poolPa 8 = 0
      ∧ poolWord w poolPa 1 % 2 ^ 48 < carvedAt (poolWord w poolPa 2) 0 + 16 * 2 ^ 0)
    ∧ (∃ w, ready (pool (firing poolVa 0x100001 0) 0 0) (.allocN 0 0x1FF 0x180) (oneBlock (operands poolVa 0x100001 0)) poolVa 0x100001 0
      ∧ accessTurn (pool (firing poolVa 0x100001 0) 0 0) ∧ unclaimed (pool (firing poolVa 0x100001 0) 0 0)
      ∧ pooled (pool (firing poolVa 0x100001 0) 0 0) poolVa.toNat w poolPa ∧ 2 ^ 20 < (0x100001 : Word).toNat) := by
  refine ⟨⟨_, _, ?_, ?_, ?_, pooled_of (u := none) ?_ ?_, ?_, ?_, ?_, ?_, pair_of ?_⟩,
    ⟨_, _, ?_, ?_, ?_, pooled_of (u := none) ?_ ?_, ?_, ?_, pair_of ?_⟩,
    ⟨_, ?_, ?_, ?_, pooled_of (u := none) ?_ ?_, ?_, ?_⟩, ⟨_, ?_, ?_, ?_, pooled_of (u := none) ?_ ?_, ?_⟩⟩
  all_goals first | (unfold accessTurn; decide +kernel) | (unfold unclaimed; decide +kernel) | decide +kernel | (unfold ready standing; decide +kernel) | exact sound_of (by decide +kernel)

theorem wit_free_and_grow : (∃ w, ready (pool (firing (poolVa + 3) 0 0) 0 0) (.free 0) (oneBlock (operands (poolVa + 3) 0 0)) (poolVa + 3) 0 0
      ∧ accessTurn (pool (firing (poolVa + 3) 0 0) 0 0) ∧ pooled (pool (firing (poolVa + 3) 0 0) 0 0) ((poolVa + 3).toNat / 256 * 256) w poolPa)
    ∧ (∃ w u, ready (pool (firing (poolVa + 3) 0x610080 0) 0 0) (.free 0) (oneBlock (operands (poolVa + 3) 0x610080 0)) (poolVa + 3) 0x610080 0
      ∧ accessTurn (pool (firing (poolVa + 3) 0x610080 0) 0 0) ∧ (poolVa + 3).toNat % 2 ^ 8 ≤ 16 ∧ (0x610080 : Word).toNat % min (16 * 2 ^ ((poolVa + 3).toNat % 2 ^ 8)) 65536 = 0
      ∧ pooled (pool (firing (poolVa + 3) 0x610080 0) 0 0) ((poolVa + 3).toNat / 256 * 256) w poolPa
      ∧ w.translate w.who .descStore 8 (poolWord w poolPa 1 / 2 ^ 48 % 2 ^ 8 * 2 ^ 64 + (0x610080 : Word).toNat) = (u, .ok (stashBase 3 + 0x10080) none)
      ∧ u.poisonIn (stashBase 3 + 0x10080) 8 = none)
    ∧ (∃ w u, ready (withDescriptor (firing poolVa stashVa 0) [0x30000, 0x20000]) (.poolgrow 0) (oneBlock (operands poolVa stashVa 0)) poolVa stashVa 0
      ∧ accessTurn (withDescriptor (firing poolVa stashVa 0) [0x30000, 0x20000])
      ∧ pooled (withDescriptor (firing poolVa stashVa 0) [0x30000, 0x20000]) poolVa.toNat w poolPa ∧ stashVa.toNat % 16 = 0
      ∧ w.readWords w.who 2 (inSegment w stashVa) = (u, .ok [0x30000, 0x20000]) ∧ (0x30000 : Word).toNat % 65536 = 0 ∧ (0x20000 : Word) ≠ 0
      ∧ (0x20000 : Word).toNat % 65536 = 0 ∧ (0x20000 : Word).toNat < 2 ^ 48) := by
  refine ⟨⟨_, ?_, ?_, pooled_of (u := none) ?_ ?_⟩, ⟨_, _, ?_, ?_, by decide, by decide, pooled_of (u := none) ?_ ?_, pair_of ?_, ?_⟩,
    ⟨_, _, ?_, ?_, pooled_of (u := none) ?_ ?_, by decide, pair_of ?_, by decide, by decide, by decide, by decide⟩⟩
  all_goals first | (unfold accessTurn; decide +kernel) | decide +kernel | (unfold ready standing; decide +kernel) | exact sound_of (by decide +kernel)

/-- An entry of the catchword directory for ASID 5. -/
abbrev cwEntry : CwEntry := { asid := 5, key := 0xFFFFFFFFFFFF, step := 3, probe := 0x3300000000000000080, plen := 9, out := 0x2200000000000001180, olen := 8 }

/-- As `commanding`, with S_MODE.CW set and a directory. -/
def remembering (ws : List Word) (dir : List CwEntry) : State :=
  withCore (withCtx (commanding 0 ws) (fun c => { c with mode := 4 })) (fun c => { c with directory := dir })

abbrev probeWords : List Word := [0xFFFFFFFFFFFF, 0x600140, 2, 3, 4, 5, 6, 7]
abbrev storeWords : List Word := [0xFFFFFFFFFFFF, 0xFFFFFFFF, 2, 3, 4, 0xFFFFFFFFFFFF, 0xFFFF, 0]
abbrev others : List CwEntry := [{ cwEntry with key := 4 }, { cwEntry with asid := 4 }]

theorem wit_catchwords : (∃ w, ready (remembering probeWords others) (.cwprobe 0 0x1FF 0x180) (oneBlock (operands stashVa 0 0)) stashVa 0 0
      ∧ accessTurn (remembering probeWords others) ∧ (remembering probeWords others).work.me.mode.getLsbD 2 = true ∧ Claims.described (remembering probeWords others) stashVa w probeWords
      ∧ (∀ e ∈ w.core.directory, ¬(e.asid = w.me.asid.toNat ∧ e.key = 0xFFFFFFFFFFFF)))
    ∧ (∃ w u ps, ready (remembering probeWords ([{ cwEntry with key := 4 }] ++ cwEntry :: [{ cwEntry with asid := 4 }])) (.cwprobe 0 0x1FF 0x180)
        (oneBlock (operands stashVa 0 0)) stashVa 0 0
      ∧ accessTurn (remembering probeWords ([{ cwEntry with key := 4 }] ++ cwEntry :: [{ cwEntry with asid := 4 }])) ∧ Claims.described (remembering probeWords ([{ cwEntry with key := 4 }] ++ cwEntry :: [{ cwEntry with asid := 4 }])) stashVa w probeWords
      ∧ w.core.directory = [{ cwEntry with key := 4 }] ++ cwEntry :: [{ cwEntry with asid := 4 }]
      ∧ (∀ x ∈ others, ¬(x.asid = cwEntry.asid ∧ x.key = cwEntry.key)) ∧ cwEntry.asid = w.me.asid.toNat
      ∧ ({ w with core := { w.core with directory := cwEntry :: others } } : Work).placeWords w.who 8 (inSegment w 0x600140) = (u, .ok ps))
    ∧ (∃ w, ready (remembering storeWords []) (.cwstore 0) (oneBlock (operands stashVa 0 0)) stashVa 0 0
      ∧ accessTurn (remembering storeWords []) ∧ Claims.described (remembering storeWords []) stashVa w storeWords)
    ∧ (∃ w, ready (remembering [0x1FFFFFFFFFFFF, 1, 2, 3, 4, 5, 6, 7] []) (.cwinv 0) (oneBlock (operands stashVa 0 0)) stashVa 0 0
      ∧ accessTurn (remembering [0x1FFFFFFFFFFFF, 1, 2, 3, 4, 5, 6, 7] []) ∧ Claims.described (remembering [0x1FFFFFFFFFFFF, 1, 2, 3, 4, 5, 6, 7] []) stashVa w [0x1FFFFFFFFFFFF, 1, 2, 3, 4, 5, 6, 7])
    ∧ (ready (firing stashVa 0 0) (.cwinv 0) (oneBlock (operands stashVa 0 0)) stashVa 0 0 ∧ accessTurn (firing stashVa 0 0) ∧ (firing stashVa 0 0).work.me.mode.getLsbD 2 = false) := by
  refine ⟨⟨_, ?_, ?_, ?_, described_of ?_, ?_⟩, ⟨_, _, (List.range 8).map (fun k => stashBase 3 + 0x140 + 8 * k), ?_, ?_, described_of ?_, ?_, ?_, ?_, pair_of ?_⟩,
    ⟨_, ?_, ?_, described_of ?_⟩, ⟨_, ?_, ?_, described_of ?_⟩, ready_firing _ _ _ _ (by decide) (by decide), ?_, ?_⟩
  all_goals first | (unfold accessTurn; decide +kernel) | decide +kernel | (unfold ready standing; decide +kernel)

/-- Firmware's access, with no tile's TLB. -/
abbrev firm : Who := ⟨5, true, [], [], none⟩

/-- A command of context 3 of tile 0 in segment 0xFF, in the hands of the engines of a machine in which words are set. -/
def command (i : Instr) (ws : List Word) (done : Nat) : EngCmd :=
  { instr := i, who := firm, party := 3, die := 0, seg := 0xFF, words := ws, done := done }
def engaged (i : Instr) (ws : List Word) (done : Nat) (mem : List (Nat × Word × Bool)) : State :=
  withWords (withCore State.reset (fun c => { c with engines := [command i ws done] })) mem

/-- A completion word at `va` that stands alone. -/
def completing (va : Nat) (kind : Nat) : Comp := { who := firm, va := va, value := 77, kind := kind }

theorem wit_copies_move : (∃ w1 w2 w3, alone (engaged (.cpy 0 0) [stashVa, 0x600100, 0xFFFF000000000018, 0, 0, 0, 0, 0] 16 [(stashPa + 16, 7, true)])
        (command (.cpy 0 0) [stashVa, 0x600100, 0xFFFF000000000018, 0, 0, 0, 0, 0] 16)
      ∧ (engaged (.cpy 0 0) [stashVa, 0x600100, 0xFFFF000000000018, 0, 0, 0, 0, 0] 16 [(stashPa + 16, 7, true)]).work.gather firm 8
          (0xFF * 2 ^ 64 + stashVa.toNat + 16) = (w1, .ok 7)
      ∧ w1.reach firm .desc (0xFF * 2 ^ 64 + stashVa.toNat + 16) = (w2, .ok (stashPa + 16, none))
      ∧ w2.reach firm .descStore (0xFF * 2 ^ 64 + 0x600100 + 16) = (w3, .ok (stashBase 3 + 0x110, none)) ∧ w3.anyClaimed [(stashBase 3 + 0x110) / 8] = false)
    ∧ (∃ w1 w2, alone (engaged (.cpyfeOut 0) [stashVa, 0x600100, 0xFFFF000000000080, 0, 0, 0, 0, 0] 1 [(stashPa + 512, 0, true)])
        (command (.cpyfeOut 0) [stashVa, 0x600100, 0xFFFF000000000080, 0, 0, 0, 0, 0] 1)
      ∧ (engaged (.cpyfeOut 0) [stashVa, 0x600100, 0xFFFF000000000080, 0, 0, 0, 0, 0] 1 [(stashPa + 512, 0, true)]).work.gatherBits firm 64
          (0xFF * 2 ^ 64 + stashVa.toNat + 512) = (w1, .ok 1)
      ∧ w1.reach firm .descStore (0xFF * 2 ^ 64 + 0x600100 + 8) = (w2, .ok (stashBase 3 + 0x108, none)) ∧ w2.anyClaimed [(stashBase 3 + 0x108) / 8] = false)
    ∧ (∃ w1 w2, alone (engaged (.cpyfeIn 0) [stashVa, 0x600100, 0xFFFF000000000042, 0, 0, 0, 0, 0] 65 [(stashBase 3 + 0x108, 2, false)])
        (command (.cpyfeIn 0) [stashVa, 0x600100, 0xFFFF000000000042, 0, 0, 0, 0, 0] 65)
      ∧ (engaged (.cpyfeIn 0) [stashVa, 0x600100, 0xFFFF000000000042, 0, 0, 0, 0, 0] 65 [(stashBase 3 + 0x108, 2, false)]).work.gather firm 8
          (0xFF * 2 ^ 64 + 0x600100 + 8) = (w1, .ok 2)
      ∧ w1.reach firm .descStore (0xFF * 2 ^ 64 + stashVa.toNat + 520) = (w2, .ok (stashPa + 520, none)) ∧ w2.anyClaimed [(stashPa + 520) / 8] = false)
    ∧ (∃ w1 w2, alone (engaged (.dgst 0) [stashVa, 8, 0x600100, 0, 0, 0, 0, 0] 0 [(stashPa, 2, true)])
        (command (.dgst 0) [stashVa, 8, 0x600100, 0, 0, 0, 0, 0] 0)
      ∧ (engaged (.dgst 0) [stashVa, 8, 0x600100, 0, 0, 0, 0, 0] 0 [(stashPa, 2, true)]).core.comps = []
      ∧ (engaged (.dgst 0) [stashVa, 8, 0x600100, 0, 0, 0, 0, 0] 0 [(stashPa, 2, true)]).work.reach firm .desc (0xFF * 2 ^ 64 + stashVa.toNat) = (w1, .ok (stashPa, none))
      ∧ ({ w1 with core := { w1.core with engines := [] } } : Work).translate firm .fill 8 (0xFF * 2 ^ 64 + 0x600100) = (w2, .ok (stashBase 3 + 0x100) none)
      ∧ w2.poisonOf (stashBase 3 + 0x100) = none ∧ w2.isFull ((stashBase 3 + 0x100) / 8) = false ∧ w2.anyClaimed [(stashBase 3 + 0x100) / 8] = false
      ∧ ∀ x ∈ w2.core.resv, x.word ≠ (stashBase 3 + 0x100) / 8) := by
  refine ⟨⟨_, _, _, ?_, pair_of ?_, pair_of ?_, pair_of ?_, ?_⟩, ⟨_, _, ?_, pair_of ?_, pair_of ?_, ?_⟩, ⟨_, _, ?_, pair_of ?_, pair_of ?_, ?_⟩,
    ⟨_, _, ?_, ?_, pair_of ?_, pair_of ?_, ?_, ?_, ?_, ?_⟩⟩
  all_goals first | decide +kernel | (unfold alone; decide +kernel)

theorem wit_engines_move : (∃ w1 w2 w3, alone (engaged (.impose 0) [stashVa, 1, 0x600100, 0, 0, 0, 0, 0] 0 [(stashPa, 1, false)])
        (command (.impose 0) [stashVa, 1, 0x600100, 0, 0, 0, 0, 0] 0)
      ∧ (engaged (.impose 0) [stashVa, 1, 0x600100, 0, 0, 0, 0, 0] 0 [(stashPa, 1, false)]).work.gather firm 4 (0xFF * 2 ^ 64 + stashVa.toNat) = (w1, .ok 1)
      ∧ w1.reach firm .descStore (0xFF * 2 ^ 64 + 0x600100) = (w2, .ok (stashBase 3 + 0x100, none)) ∧ w2.anyClaimed [(stashBase 3 + 0x100) / 8] = false
      ∧ (w2.store (stashBase 3 + 0x100) 4 0).reach firm .descStore (0xFF * 2 ^ 64 + 0x600100 + 4) = (w3, .ok (stashBase 3 + 0x104, none))
      ∧ w3.anyClaimed [(stashBase 3 + 0x104) / 8] = false)
    ∧ (∃ (s : State) (x : Comp) (w : Work), s.core.comps = [x] ∧ s.core.engines = [] ∧ x.node = none ∧ x.kind = 2 ∧ x.va % 8 = 0 ∧ s.core.claims = []
      ∧ s.work.translate x.who .fill 8 x.va = (w, .ok (stashBase 3 + 0x100) none) ∧ w.poisonOf (stashBase 3 + 0x100) = none
      ∧ w.bitAt (stashBase 3 + 0x100) none = false ∧ w.core.resv = [])
    ∧ (∀ masked ∈ [true, false], ∃ (s : State) (x : Comp) (w : Work), s.core.comps = [x] ∧ s.core.engines = [] ∧ x.node = none ∧ x.kind = 1 ∧ s.core.claims = []
      ∧ s.work.translate x.who .fill 8 x.va = (w, .fault 5 0) ∧ (mapGet {} 0 s.core.msix).masked = masked)
    ∧ (∃ (s : State) (c : EngCmd), s.core.engines = [c] ∧ c.paused = true) := by
  refine ⟨⟨_, _, _, ?_, pair_of ?_, pair_of ?_, ?_, pair_of ?_, ?_⟩,
    ⟨withCore State.reset (fun c => { c with comps := [completing (0xFF * 2 ^ 64 + 0x600100) 2] }), completing (0xFF * 2 ^ 64 + 0x600100) 2, _,
      rfl, rfl, rfl, rfl, by decide, rfl, pair_of ?_, ?_, ?_, ?_⟩,
    fun m _ => ⟨withCore State.reset (fun c => { c with comps := [completing 0x600100 1], msix := [(0, ⟨8, 9, m, false⟩)] }), completing 0x600100 1, _, rfl, rfl, rfl, rfl, rfl,
      pair_of rfl, rfl⟩,
    ⟨withCore State.reset (fun c => { c with engines := [{ command (.impose 0) [] 0 with paused := true }] }), _, rfl, rfl⟩⟩
  all_goals first | decide +kernel | (unfold alone; decide +kernel)

/-! ### The wide unit -/

/-- The wide unit of tile 3 is `x`. -/
def widened (s : State) (x : Wide) : State := s.lift (fun w => w.setTile 3 { w.tile 3 with wide := x })

/-- Region 7 with a deterministic task, and tile 3's wide instructions issued by context 2. -/
def otherIssuer : State := widened (withCtx (within (firing 0 0 0) { quiet with mode := 1 }) (fun c => { c with mode := 1 })) { issuer := some 2 }

theorem wit_wide_registers : (wideRegister (.wfmaS 0 1 2 3 4) = true ∧ ready (firing 0 0 0) (.wfmaS 0 1 2 3 4) (oneBlock (operands 0 0 0)) 0 0 0 ∧ mayIssue (firing 0 0 0))
    ∧ (wideRegister (.xacc 0 3 1 2 7) = true ∧ ready otherIssuer (.xacc 0 3 1 2 7) (oneBlock (operands 0 0 0)) 0 0 0 ∧ ¬mayIssue otherIssuer) := by
  refine ⟨⟨rfl, ready_firing _ _ _ _ (by decide) (by decide), ?_⟩, rfl, ?_, ?_⟩
  all_goals first | (unfold mayIssue; decide +kernel) | (unfold ready standing; decide +kernel)

/-- Words of tile 3's stash are reached by firmware whose data addresses lie in segment 0xFF, and nothing changes (05 R91). -/
theorem stash_reached {form : AccForm} {w : Work} (hd : w.me.dseg = 0xFF#8) (hf : w.who.fw = true) (hp : w.core.poison = []) :
    ∀ eas : List (Nat × Nat), (∀ x ∈ eas, x.2 % 8 = 0 ∧ x.2 < 2 ^ 64 ∧ x.2 / 0x200000 = 3 ∧ x.2 % 0x200000 < 0x180000) → ∃ rs, wordsReach form eas w w rs
  | [], _ => ⟨[], rfl, rfl⟩
  | (n, ea) :: rest, h => by
    obtain ⟨rs, hr⟩ := stash_reached hd hf hp rest (fun x hx => h x (List.mem_cons_of_mem _ hx))
    obtain ⟨h8, h64, h3, ho⟩ := h (n, ea) List.mem_cons_self
    refine ⟨(n, stashBase 3 + ea % 0x200000, none) :: rs, w, _, _, rs, h8, ?_, ?_, ?_, rfl, hr⟩
    · have e : w.me.dseg.toNat = 255 := by rw [hd]; rfl
      have b : bits (255 * 2 ^ 64 + ea) 64 8 = 0xFF := by unfold bits; simp only at h64; omega
      have l : low (255 * 2 ^ 64 + ea) 64 = ea := by unfold low; simp only at h64; omega
      simp only at h3 ho
      unfold Work.translate
      rw [e]
      simp only [b, l, h3, hf]
      rw [if_pos (by decide), if_neg (by simp; omega)]
      rfl
    · unfold classify stashBase
      simp only at ho
      rw [if_neg (by omega), if_neg (by omega), if_pos (by simp; omega)]
      split <;> simp
    · unfold Work.poisonOf; rw [hp]; rfl

/-- Lane 15 alone is in k1; w0 to w3 hold 1 in every lane in FP32, accumulator 1 holds the one of FP64, 2^2148 (03 R78). -/
def lanes : Wide :=
  { w := (List.range 64).map (fun n => (n, 0x3F800000)), k := [(1, 0x8000), (2, 0), (3, 0x8001)], x := [(0, ⟨0, 3, true⟩), (1, ⟨2 ^ 2148, 0, false⟩)] }

theorem wit_wide_memory : (ready (widened (firing stashVa 0x10 0) lanes) (.wld 0 31 1) (oneBlock (operands stashVa 0x10 0)) stashVa 0x10 0
      ∧ mayIssue (widened (firing stashVa 0x10 0) lanes) ∧ ((widened (firing stashVa 0x10 0) lanes).work.tile 3).wq = []
      ∧ ((widened (firing stashVa 0x10 0) lanes).work.tile 3).wide.run = none
      ∧ ∃ u rs, wordsReach .plainLoad (laneWords ((widened (firing stashVa 0x10 0) lanes).work.tile 3).wide 1 stashVa 0x10) (widened (firing stashVa 0x10 0) lanes).work u rs)
    ∧ (ready (widened (firing stashVa (-8) 0) lanes) (.wst 0 31 0) (oneBlock (operands stashVa (-8) 0)) stashVa (-8) 0
      ∧ ∃ u rs, wordsReach .plainStore (laneWords ((widened (firing stashVa (-8) 0) lanes).work.tile 3).wide 0 (stashVa + 0x80) (-8))
          (widened (firing stashVa (-8) 0) lanes).work u rs)
    ∧ (ready (firing stashVa 0 0) (.xst 0 3) (oneBlock (operands stashVa 0 0)) stashVa 0 0
      ∧ ∃ u rs, wordsReach .plainStore (accWords stashVa) (firing stashVa 0 0).work u rs)
    ∧ (ready (firing stashVa 0 0) (.xld 0 3) (oneBlock (operands stashVa 0 0)) stashVa 0 0
      ∧ ∃ u rs, wordsReach .plainLoad (accWords stashVa) (firing stashVa 0 0).work u rs) := by
  refine ⟨⟨?_, ?_, ?_, ?_, _, stash_reached rfl rfl rfl _ ?_⟩, ⟨?_, _, stash_reached rfl rfl rfl _ ?_⟩,
    ⟨ready_firing _ _ _ _ (by decide) (by decide), _, stash_reached rfl rfl rfl _ ?_⟩, ready_firing _ _ _ _ (by decide) (by decide), _,
    stash_reached rfl rfl rfl _ ?_⟩
  all_goals first | decide +kernel | (unfold mayIssue; decide +kernel) | (unfold ready standing; decide +kernel)

abbrev stageWords : List Word := [0x1002E0, 0x1002E0, 0x400080, 0xFFFFFFFFFFFFFF, 0, 5]
abbrev streamWords : List Word := [0x1000200100, 0, 4, 0, 0x200200]

theorem streams_sound : ∀ v ∈ streamWords, streamSound v := by
  intro v h
  simp only [List.mem_cons, List.not_mem_nil, or_false] at h
  rcases h with rfl | rfl | rfl | rfl | rfl <;> (unfold streamSound; decide)

theorem wit_stream_commands : (∃ w, ready (commanding 0 (stageWords ++ [2, 0])) (.wcfg 0) (oneBlock (operands stashVa 0 0)) stashVa 0 0
      ∧ accessTurn (commanding 0 (stageWords ++ [2, 0])) ∧ mayIssue (commanding 0 (stageWords ++ [2, 0])) ∧ stageWords.length = 6
      ∧ Claims.described (commanding 0 (stageWords ++ [2, 0])) stashVa w (stageWords ++ [2, 0]) ∧ (2 : Word).toNat < 2 ^ 6 ∧ (2 : Word).toNat % 8 ≤ 5
      ∧ stageSound 0 false 0x1002E0 ∧ stageSound 1 false 0x1002E0 ∧ stageSound 2 false 0x400080)
    ∧ (∃ w u, ready (commanding 0 (streamWords ++ [0x400000010, 0x600100, 0])) (.wrun 0) (oneBlock (operands stashVa 0 0)) stashVa 0 0
      ∧ accessTurn (commanding 0 (streamWords ++ [0x400000010, 0x600100, 0])) ∧ mayIssue (commanding 0 (streamWords ++ [0x400000010, 0x600100, 0])) ∧ streamWords.length = 5
      ∧ Claims.described (commanding 0 (streamWords ++ [0x400000010, 0x600100, 0])) stashVa w (streamWords ++ [0x400000010, 0x600100, 0])
      ∧ (∀ v ∈ streamWords, streamSound v) ∧ (0x400000010 : Word).toNat < 2 ^ 35 ∧ (0x400000010 : Word).toNat / 2 ^ 33 ≠ 3
      ∧ completes w (inSegment w 0x600100) u) := by
  refine ⟨⟨_, ?_, ?_, ?_, rfl, described_of ?_, by decide, by decide, ?_, ?_, ?_⟩,
    ⟨_, _, ?_, ?_, ?_, rfl, described_of ?_, streams_sound, by decide, by decide, completes_of (stashBase 3 + 0x100) none ?_⟩⟩
  all_goals first | (unfold accessTurn; decide +kernel) | decide +kernel | (unfold mayIssue; decide +kernel) | (unfold ready standing; decide +kernel) | (unfold stageSound; decide +kernel)

/-- 1 in FP64, exactly. -/
theorem rounds_one : roundsTo fp64 0 (decide (((2 : Int) ^ 2148) < 0)) (fun t => SignType.sign (|(((2 : Int) ^ 2148 : Int) : ℚ)| / 2 ^ 2148 - t))
    0x3FF0000000000000 0 := by
  have e : |(((2 : Int) ^ 2148 : Int) : ℚ)| / 2 ^ 2148 = 1 := by
    rw [Int.cast_pow, abs_of_pos (by positivity)]
    exact div_self (by positivity)
  have d : decide (((2 : Int) ^ 2148) < 0) = false := by decide +kernel
  rw [e, d]
  refine ⟨0x3FF0000000000000, by decide +kernel, .inr ?_⟩
  refine ⟨by decide +kernel, by decide +kernel, by decide +kernel, by decide +kernel, by decide +kernel, by decide +kernel⟩

theorem wit_accumulator_reads : (ready (widened (firing 0 0 0) lanes) (.xsgn 0 1 0x1FF 0x180) (oneBlock (operands 0 0 0)) 0 0 0 ∧ mayIssue (widened (firing 0 0 0) lanes)
      ∧ ((widened (firing 0 0 0) lanes).work.tile 3).wq = [] ∧ ((widened (firing 0 0 0) lanes).work.tile 3).wide.run = none)
    ∧ (ready (widened (firing 0 0 0) lanes) (.xrnd 0 3 0 0x1FF 0x180) (oneBlock (operands 0 0 0)) 0 0 0 ∧ accOf (widened (firing 0 0 0) lanes) 3 0 = ⟨0, 3, true⟩)
    ∧ (ready (widened (firing 0 0 0) lanes) (.xrnd 0 0 1 0x1FF 0x180) (oneBlock (operands 0 0 0)) 0 0 0
      ∧ accOf (widened (firing 0 0 0) lanes) 3 1 = ⟨2 ^ 2148, 0, false⟩ ∧ (2 : Int) ^ 2148 ≠ 0
      ∧ roundsTo fp64 0 (decide (((2 : Int) ^ 2148) < 0)) (fun t => SignType.sign (|(((2 : Int) ^ 2148 : Int) : ℚ)| / 2 ^ 2148 - t)) 0x3FF0000000000000 0) := by
  refine ⟨⟨?_, ?_, ?_, ?_⟩, ⟨?_, ?_⟩, ?_, ?_, ?_, rounds_one⟩
  all_goals first | decide +kernel | (unfold mayIssue; decide +kernel) | (unfold ready standing; decide +kernel)

/-- Instruction `i`, of context 1, is the oldest of tile 3's wide queue. -/
def wideOp (i : Instr) (ls : List (Nat × Nat)) (ws : List Word) : WideOp := ⟨i, firm, 13, 0xFF, ls, [], ws⟩
def applying (x : Wide) (o : WideOp) : State := widened (State.reset.lift (fun w => w.setTile 3 { w.tile 3 with wq := [o] })) x

theorem unit_has (x : Wide) (o : WideOp) (h : x.run = none) : unitHas (applying x o) 3 o [] := ⟨rfl, rfl, h⟩

theorem adds_two : scalarGives (.faddS 0 0 0 0) 0x3F800000 0x3F800000 0x3F800000 0x40000000 0 := by
  have hs : floatSpecial (.faddS 0 0 0 0) 0x3F800000 0x3F800000 0x3F800000 = some (none, 4) := by decide +kernel
  have h : fpValue fp32 0x3F800000 = 1 := by decide +kernel
  have e : floatExact (.faddS 0 0 0 0) 0x3F800000 0x3F800000 0x3F800000 = some (fp32, 0, fpValue fp32 0x3F800000 + fpValue fp32 0x3F800000, 4) := rfl
  rw [h] at e
  refine .inr (.inl ⟨fun x lat h => ?_, fp32, 0, 2, 4, ?_, by norm_num, ?_⟩)
  · rw [hs] at h; cases h
  · rw [e]; norm_num
  · have d : decide ((2 : ℚ) < 0) = false := by decide +kernel
    rw [d]; exact rounds_two

theorem wit_lane_arithmetic : ∃ (o : WideOp) (i : Instr) (v : Nat → Word) (fl : Nat → BitVec 5), unitHas (applying lanes o) 3 o []
    ∧ scalarTwin o.instr = some i ∧ laneFields o.instr = some (3, 1, 2, 3)
    ∧ (∀ l, l < 16 → laneIn ((applying lanes o).work.tile 3).wide 3 l →
        scalarGives i (laneOf ((applying lanes o).work.tile 3).wide 1 l) (laneOf ((applying lanes o).work.tile 3).wide 2 l)
          (laneOf ((applying lanes o).work.tile 3).wide 3 l) (v l) (fl l))
    ∧ (∀ l, ¬laneIn ((applying lanes o).work.tile 3).wide 3 l → fl l = 0) := by
  refine ⟨wideOp (.waddS 0 3 1 2 3) [] [], _, fun _ => 0x40000000, fun _ => 0, unit_has _ _ rfl, rfl, rfl, ?_, fun _ _ => rfl⟩
  intro l hl _
  have h : ∀ l < 16, laneOf ((applying lanes (wideOp (.waddS 0 3 1 2 3) [] [])).work.tile 3).wide 1 l = 0x3F800000
      ∧ laneOf ((applying lanes (wideOp (.waddS 0 3 1 2 3) [] [])).work.tile 3).wide 2 l = 0x3F800000
      ∧ laneOf ((applying lanes (wideOp (.waddS 0 3 1 2 3) [] [])).work.tile 3).wide 3 l = 0x3F800000 := by decide +kernel
  rw [(h l hl).1, (h l hl).2.1, (h l hl).2.2]
  exact adds_two

theorem wit_lane_moves : (∀ i ∈ [(.wmovD 0 3 1 2 : Instr), .wselS 0 3 1 2 1, .wshufD 0 3 1 2 3], ∃ o d a b k, unitHas (applying lanes o) 3 o [] ∧ o.instr = i
      ∧ laneFields o.instr = some (d, a, b, k) ∧ scalarTwin o.instr = none
      ∧ (∀ pr x y z kind, o.instr ≠ .wcvtD pr x y kind z ∧ o.instr ≠ .wcvtS pr x y kind z))
    ∧ (∃ (o : WideOp) (i : Instr) (c : Nat → Bool) (fl : Nat → BitVec 5), unitHas (applying lanes o) 3 o [] ∧ o.instr = .wcmpS 0 0 7 1 2 3
      ∧ compareTwin o.instr = some i
      ∧ (∀ l, l < 16 → laneIn ((applying lanes o).work.tile 3).wide 3 l → ∃ lat,
        floatSelect i (laneOf ((applying lanes o).work.tile 3).wide 1 l) (laneOf ((applying lanes o).work.tile 3).wide 2 l) = some (if c l then 1 else 0, fl l, lat))
      ∧ (∀ l, ¬laneIn ((applying lanes o).work.tile 3).wide 3 l → fl l = 0)) := by
  constructor
  · intro i h
    simp only [List.mem_cons, List.not_mem_nil, or_false] at h
    rcases h with rfl | rfl | rfl
    · exact ⟨wideOp (.wmovD 0 3 1 2) [] [], _, _, _, _, unit_has _ _ rfl, rfl, rfl, rfl, by intros; constructor <;> nofun⟩
    · exact ⟨wideOp (.wselS 0 3 1 2 1) [] [], _, _, _, _, unit_has _ _ rfl, rfl, rfl, rfl, by intros; constructor <;> nofun⟩
    · exact ⟨wideOp (.wshufD 0 3 1 2 3) [] [], _, _, _, _, unit_has _ _ rfl, rfl, rfl, rfl, by intros; constructor <;> nofun⟩
  · refine ⟨wideOp (.wcmpS 0 0 7 1 2 3) [] [], _, fun _ => true, fun _ => 0, unit_has _ _ rfl, rfl, rfl, fun l hl _ => ⟨2, ?_⟩, fun _ _ => rfl⟩
    exact (show ∀ l < 16, floatSelect (.fteq 0 1 0 0) (laneOf ((applying lanes (wideOp (.wcmpS 0 0 7 1 2 3) [] [])).work.tile 3).wide 1 l)
      (laneOf ((applying lanes (wideOp (.wcmpS 0 0 7 1 2 3) [] [])).work.tile 3).wide 2 l) = some (1, 0, 2) by decide +kernel) l hl

theorem wit_reductions : (∃ (o : WideOp), unitHas (applying lanes o) 3 o [] ∧ o.instr = .wredD 0 2 1 2 2
      ∧ (∀ l, l < 16 → ¬laneIn ((applying lanes o).work.tile 3).wide 2 l))
    ∧ (∃ (o : WideOp), unitHas (applying lanes o) 3 o [] ∧ o.instr = .wredS 0 2 1 0 1
      ∧ (∀ l, l < 16 → (laneIn ((applying lanes o).work.tile 3).wide 1 l ↔ l = 15)))
    ∧ (∃ (o : WideOp), unitHas (applying lanes o) 3 o [] ∧ o.instr = .wredS 0 2 1 0 3
      ∧ (∀ l, l < 16 → (laneIn ((applying lanes o).work.tile 3).wide 3 l ↔ l = 0 ∨ l = 15))
      ∧ scalarGives (.faddS 0 0 0 0) 0x3F800000 0x3F800000 0x3F800000 0x40000000 0)
    ∧ (∃ (o : WideOp), unitHas (applying lanes o) 3 o [] ∧ o.instr = .wvarS 0 2 1 0 1 ∧ fpFinite fp32 (laneOf ((applying lanes o).work.tile 3).wide 1 15) = true) := by
  refine ⟨⟨wideOp (.wredD 0 2 1 2 2) [] [], unit_has _ _ rfl, rfl, ?_⟩, ⟨wideOp (.wredS 0 2 1 0 1) [] [], unit_has _ _ rfl, rfl, ?_⟩,
    ⟨wideOp (.wredS 0 2 1 0 3) [] [], unit_has _ _ rfl, rfl, ?_, adds_two⟩, ⟨wideOp (.wvarS 0 2 1 0 1) [] [], unit_has _ _ rfl, rfl, ?_⟩⟩
  all_goals first | decide +kernel | (unfold laneIn; decide +kernel)

/-- Lanes 0, 1 and 15 are in k1; w1 holds the infinity of FP32 in every lane, w2 the infinity of FP64, w3 ones of FP32. -/
def infinite : Wide :=
  { w := (List.range 16).map (fun n => (16 + n, 0x7F800000)) ++ (List.range 16).map (fun n => (32 + n, 0x7FF0000000000000))
      ++ (List.range 16).map (fun n => (48 + n, 0x3F800000)), k := [(1, 0x8003)] }

theorem lanes_infinite : ∀ l < 16, laneOf ((applying infinite (wideOp (.xclr 0 0) [] [])).work.tile 3).wide 1 l = 0x7F800000
    ∧ laneOf ((applying infinite (wideOp (.xclr 0 0) [] [])).work.tile 3).wide 2 l = 0x7FF0000000000000
    ∧ laneOf ((applying infinite (wideOp (.xclr 0 0) [] [])).work.tile 3).wide 3 l = 0x3F800000 := by decide +kernel

/-- What the kinds 1 to 10 of op 0x7C give for the infinity in each of their formats, whose word stands in the low bits of the lane; kind 11
gives the largest integer. -/
theorem infinities_convert : ∀ x ∈ [((1 : BitVec 5), (0x7F800000 : Word), (0x7F80 : Word), (0 : BitVec 5)), (2, 0x7F800000, 0x7C00, 0), (3, 0x7F80, 0x7F800000, 0),
      (4, 0x7C00, 0x7F800000, 0), (5, 0x7F800000, 0x7F, 16), (6, 0x7F800000, 0x7E, 16), (7, 0x7F800000, 0x7C, 0), (8, 0x7F800000, 0x7B, 16),
      (9, 0x7F, 0x7FC00000, 0), (10, 0x7C, 0x7F800000, 0), (11, 0x7F800000, 0x7FFFFFFF, 16)],
    narrowLane (.wcvtS 0 1 2 x.1 3) x.2.1 x.2.2.1 x.2.2.2 := by
  intro x h
  simp only [List.mem_cons, List.not_mem_nil, or_false] at h
  rcases h with rfl | rfl | rfl | rfl | rfl | rfl | rfl | rfl | rfl | rfl | rfl
  all_goals (unfold narrowLane; simp only [reduceIte, BitVec.ofNat_eq_ofNat, BitVec.reduceEq])
  all_goals first | decide +kernel | skip
  all_goals (unfold convertsTo; first
    | (rw [if_pos (by decide +kernel)]; decide +kernel)
    | (rw [if_neg (by decide +kernel), if_pos (by decide +kernel)]; decide +kernel))

/-- One converts to itself in BF16, and 1 of I32 to FP32. -/
theorem one_converts : narrowLane (.wcvtS 0 1 2 1 3) 0x3F800000 0x3F80 0 ∧ narrowLane (.wcvtS 0 1 2 12 3) 1 0x3F800000 0 := by
  constructor
  · unfold narrowLane
    simp only [reduceIte, BitVec.ofNat_eq_ofNat]
    unfold convertsTo
    rw [if_neg (by decide +kernel), if_neg (by decide +kernel), if_neg (by decide +kernel)]
    refine ⟨0x3F80, by decide +kernel, by decide +kernel, by decide +kernel, by decide +kernel, by decide +kernel⟩
  · unfold narrowLane
    simp only [reduceIte, BitVec.ofNat_eq_ofNat, BitVec.reduceEq]
    refine .inr ⟨by decide, 0x3F800000, by decide +kernel, .inr ?_⟩
    refine ⟨by decide +kernel, by decide +kernel, by decide +kernel, by decide +kernel, by decide +kernel, by decide +kernel⟩

theorem wit_narrow_conversions : ∃ (o : WideOp) (v : Nat → Word) (fl : Nat → BitVec 5), unitHas (applying infinite o) 3 o [] ∧ scalarTwin o.instr = none
    ∧ (∃ pr x y kind z, o.instr = .wcvtD pr x y kind z ∨ o.instr = .wcvtS pr x y kind z) ∧ laneFields o.instr = some (4, 3, 0, 1)
    ∧ (∀ l, l < 16 → laneIn ((applying infinite o).work.tile 3).wide 1 l → narrowLane o.instr (laneOf ((applying infinite o).work.tile 3).wide 3 l) (v l) (fl l))
    ∧ (∀ l, ¬laneIn ((applying infinite o).work.tile 3).wide 1 l → fl l = 0) := by
  refine ⟨wideOp (.wcvtS 0 4 3 1 1) [] [], fun _ => 0x3F80, fun _ => 0, unit_has _ _ rfl, rfl, ⟨_, _, _, _, _, .inr rfl⟩, rfl, fun l hl _ => ?_, fun _ _ => rfl⟩
  have h := (lanes_infinite l hl).2.2
  exact (show laneOf ((applying infinite (wideOp (.wcvtS 0 4 3 1 1) [] [])).work.tile 3).wide 3 l = 0x3F800000 from h) ▸ one_converts.1

/-- The tree of three infinite lanes 0, 1 and 15: an infinity wherever a lane is below, whatever the operation. -/
def treeVal (n j : Nat) : Option Word := if j = 0 ∨ j = 15 / 2 ^ n ∨ (n = 0 ∧ j = 1) then some 0x7F800000 else none

theorem tree_sound : ∀ red : BitVec 2, red.toNat < 3 → reductionTree ((applying infinite (wideOp (.wredS 0 5 1 red 1) [] [])).work.tile 3).wide fp32
    (if red = 0 then (if (1 : BitVec 1) = 0 then .faddD 0 0 0 0 else .faddS 0 0 0 0) else if red = 1 then .fmin 0 1 0 0 else .fmax 0 1 0 0) 1 1 treeVal (fun _ _ => 0) := by
  intro red hr
  refine ⟨?_, ?_⟩
  · intro l hl
    exact (show ∀ l < 16, (laneIn ((applying infinite (wideOp (.xclr 0 0) [] [])).work.tile 3).wide 1 l → treeVal 0 l = some (fpLow fp32 (laneOf ((applying infinite (wideOp (.xclr 0 0) [] [])).work.tile 3).wide 1 l)))
      ∧ (¬laneIn ((applying infinite (wideOp (.xclr 0 0) [] [])).work.tile 3).wide 1 l → treeVal 0 l = none) by unfold laneIn; decide +kernel) l hl
  · intro n j hn hj
    have inf (i : Instr) (hi : i ∈ [(.faddS 0 0 0 0 : Instr), .fmin 0 1 0 0, .fmax 0 1 0 0]) : scalarGives i 0x7F800000 0x7F800000 0 0x7F800000 0 := by
      simp only [List.mem_cons, List.not_mem_nil, or_false] at hi
      rcases hi with rfl | rfl | rfl
      · exact .inl ⟨4, by decide +kernel⟩
      · exact .inr (.inr (.inl ⟨2, by decide +kernel⟩))
      · exact .inr (.inr (.inl ⟨2, by decide +kernel⟩))
    have d : ∀ n < 4, ∀ j < 8, (treeVal n (2 * j) ≠ none ∨ treeVal (n + 1) j = treeVal n (2 * j + 1))
        ∧ (treeVal n (2 * j + 1) ≠ none ∨ treeVal (n + 1) j = treeVal n (2 * j))
        ∧ (treeVal n (2 * j) = none ∨ treeVal n (2 * j + 1) = none ∨ treeVal (n + 1) j = some 0x7F800000) := by decide +kernel
    have hj8 : j < 8 := lt_of_lt_of_le hj (Nat.pow_le_pow_right (by decide) (Nat.sub_le 3 n))
    obtain ⟨d1, d2, d3⟩ := d n hn j hj8
    refine ⟨fun h => ⟨d1.resolve_left (not_not_intro h), rfl⟩, fun h => ⟨d2.resolve_left (not_not_intro h), rfl⟩,
      fun y z hy hz => ⟨0x7F800000, (d3.resolve_left (by rw [hy]; nofun)).resolve_left (by rw [hz]; nofun), ?_⟩⟩
    have ev : ∀ n j y, treeVal n j = some y → y = 0x7F800000 := by
      intro n j y h
      unfold treeVal at h
      split at h
      · exact (Option.some.inj h).symm
      · cases h
    rw [ev _ _ _ hy, ev _ _ _ hz]
    refine inf _ ?_
    have := red.isLt
    split
    · rw [if_neg (by decide)]; decide
    · split <;> decide

/-- The variance of two ones is zero. -/
theorem no_variance : rowVariance fp32 [1, 1] 2 0 0 := by
  refine ⟨1, .inr ⟨by norm_num, 0x3FF0000000000000, 0, by decide +kernel, 0x3FF0000000000000, by decide +kernel, .inr ?_⟩, .inl ⟨by norm_num, rfl, rfl⟩⟩
  have e : |([1, 1] : List ℚ).sum| / (([1, 1] : List ℚ).length : ℚ) = 1 := by norm_num
  have d : decide (([1, 1] : List ℚ).sum < 0) = false := by decide +kernel
  rw [e, d]
  refine ⟨by decide +kernel, by decide +kernel, by decide +kernel, by decide +kernel, by decide +kernel, by decide +kernel⟩

theorem wit_rows_reduce : (∀ red : BitVec 2, red.toNat < 3 → ∃ (o : WideOp) (v : Word), unitHas (applying infinite o) 3 o [] ∧ fp32 = fpWidth 1
      ∧ o.instr = (if (1 : BitVec 1) = 0 then .wredD 0 5 1 red 1 else .wredS 0 5 1 red 1)
      ∧ reductionTree ((applying infinite o).work.tile 3).wide fp32
        (if red = 0 then (if (1 : BitVec 1) = 0 then .faddD 0 0 0 0 else .faddS 0 0 0 0) else if red = 1 then .fmin 0 1 0 0 else .fmax 0 1 0 0) 1 1 treeVal (fun _ _ => 0)
      ∧ treeVal 4 0 = some v)
    ∧ (∃ (o : WideOp), unitHas (applying infinite o) 3 o [] ∧ o.instr = (if (1 : BitVec 1) = 0 then .wvarD 0 5 1 0 1 else .wvarS 0 5 1 0 1)
      ∧ ∃ l ∈ lanesOf ((applying infinite o).work.tile 3).wide 1, fpFinite fp32 (laneOf ((applying infinite o).work.tile 3).wide 1 l) = false)
    ∧ (∃ (o : WideOp), unitHas (applying lanes o) 3 o [] ∧ o.instr = (if (1 : BitVec 1) = 0 then .wvarD 0 5 1 0 3 else .wvarS 0 5 1 0 3)
      ∧ (∀ l ∈ lanesOf ((applying lanes o).work.tile 3).wide 3, fpFinite fp32 (laneOf ((applying lanes o).work.tile 3).wide 1 l) = true)
      ∧ 0 < (lanesOf ((applying lanes o).work.tile 3).wide 3).length
      ∧ rowVariance fp32 ((lanesOf ((applying lanes o).work.tile 3).wide 3).map (fun l => fpValue fp32 (laneOf ((applying lanes o).work.tile 3).wide 1 l)))
          ((lanesOf ((applying lanes o).work.tile 3).wide 3).length - 0) 0 0) := by
  refine ⟨fun red h => ⟨wideOp (.wredS 0 5 1 red 1) [] [], 0x7F800000, unit_has _ _ rfl, rfl, rfl, tree_sound red h, rfl⟩,
    ⟨wideOp (.wvarS 0 5 1 0 1) [] [], unit_has _ _ rfl, rfl, ?_⟩, wideOp (.wvarS 0 5 1 0 3) [] [], unit_has _ _ rfl, rfl, ?_, ?_, ?_⟩
  · decide +kernel
  · decide +kernel
  · decide +kernel
  · have l : lanesOf ((applying lanes (wideOp (.wvarS 0 5 1 0 3) [] [])).work.tile 3).wide 3 = [0, 15] := by decide +kernel
    have v : ∀ l < 16, fpValue fp32 (laneOf ((applying lanes (wideOp (.wvarS 0 5 1 0 3) [] [])).work.tile 3).wide 1 l) = 1 := by decide +kernel
    rw [l]
    simp only [List.map_cons, List.map_nil, v 0 (by decide), v 15 (by decide), List.length_cons, List.length_nil]
    exact no_variance

theorem wit_accumulators : (∀ i ∈ [(.xclr 0 3 : Instr), .xmov 0 3 1, .xadd 0 1 1], unitHas (applying lanes (wideOp i [] [])) 3 (wideOp i [] []) [])
    ∧ (∃ (o : WideOp) (x : Wide), unitHas (applying x o) 3 o [] ∧ o.instr = .xacc 0 3 1 2 1
      ∧ (∀ l, l < 16 → laneIn ((applying x o).work.tile 3).wide 1 l →
          fpFinite fp64 (laneOf ((applying x o).work.tile 3).wide 1 l) = true ∧ fpFinite fp64 (laneOf ((applying x o).work.tile 3).wide 2 l) = true)
      ∧ ((2 ^ 2148 : Int) : ℚ) / 2 ^ 2148 = (((List.range 16).filter (fun l => (1 : BitVec 3) == 0 || (mapGet 0 1 ((applying x o).work.tile 3).wide.k).getLsbD l)).map
          (fun l => fpValue fp64 (laneOf ((applying x o).work.tile 3).wide 1 l) * fpValue fp64 (laneOf ((applying x o).work.tile 3).wide 2 l))).sum) := by
  refine ⟨fun i _ => unit_has _ _ rfl, wideOp (.xacc 0 3 1 2 1) [] [], { k := [(1, 0x8000)], w := [(31, 0x3FF0000000000000), (47, 0x3FF0000000000000)] },
    unit_has _ _ rfl, rfl, ?_, ?_⟩
  · unfold laneIn; decide +kernel
  · generalize hx : (applying { k := [(1, 0x8000)], w := [(31, 0x3FF0000000000000), (47, 0x3FF0000000000000)] } (wideOp (.xacc 0 3 1 2 1) [] [])) = s
    have f : (List.range 16).filter (fun l => (1 : BitVec 3) == 0 || (mapGet 0 1 (s.work.tile 3).wide.k).getLsbD l) = [15] := by subst hx; decide +kernel
    have a : fpValue fp64 (laneOf (s.work.tile 3).wide 1 15) = 1 := by subst hx; decide +kernel
    have b : fpValue fp64 (laneOf (s.work.tile 3).wide 2 15) = 1 := by subst hx; decide +kernel
    rw [f]
    simp only [List.map_cons, List.map_nil, List.sum_cons, List.sum_nil, a, b]
    rw [Int.cast_pow, Int.cast_ofNat, div_self (by positivity)]; norm_num

theorem wit_wide_memory_applies : (∃ o : WideOp, unitHas (applying lanes o) 3 o [] ∧ o.instr = .wld 0 31 1 ∧ o.uni = [] ∧ (o.lanes.map (·.1)).Nodup
      ∧ (∀ x ∈ o.lanes, x.1 < 16) ∧ o.lanes ≠ [])
    ∧ (∃ o : WideOp, unitHas (applying lanes o) 3 o [] ∧ o.instr = .wst 0 31 1 ∧ (∀ c ∈ (applying lanes o).core.claims, ∀ x ∈ o.lanes, c.word ≠ x.2 / 8))
    ∧ (∃ o : WideOp, unitHas (applying lanes o) 3 o [] ∧ o.instr = .xst 0 3 ∧ (∀ c ∈ (applying lanes o).core.claims, ∀ x ∈ o.lanes, c.word ≠ x.2 / 8))
    ∧ (∃ (o : WideOp) (a : Acc), unitHas (applying lanes o) 3 o [] ∧ o.instr = .xld 0 3 ∧ o.uni = [] ∧ (o.lanes.map (·.1)) = List.range 69
      ∧ (∀ y ∈ o.lanes, y.1 < 68 → (applying lanes o).work.word y.2 = accWord a y.1)
      ∧ (∀ y ∈ o.lanes, y.1 = 68 → ((applying lanes o).work.word y.2).toNat % 8 = a.cls + (if a.ovf then 4 else 0)) ∧ a.cls < 4
      ∧ -2 ^ 4351 ≤ a.a ∧ a.a < 2 ^ 4351)
    ∧ (∃ o : WideOp, unitHas (applying lanes o) 3 o [] ∧ o.instr = .wcfg 3) ∧ (∃ o : WideOp, unitHas (applying lanes o) 3 o [] ∧ o.instr = .wrun 3) := by
  refine ⟨⟨wideOp (.wld 0 31 1) [(3, stashPa), (15, stashPa + 8)] [], unit_has _ _ rfl, rfl, rfl, by decide, by decide, by decide⟩,
    ⟨wideOp (.wst 0 31 1) [(3, stashPa), (15, stashPa)] [], unit_has _ _ rfl, rfl, by decide +kernel⟩,
    ⟨wideOp (.xst 0 3) ((List.range 69).map (fun j => (j, stashPa + 8 * j))) [], unit_has _ _ rfl, rfl, by decide +kernel⟩,
    ⟨wideOp (.xld 0 3) ((List.range 69).map (fun j => (j, stashPa + 8 * j))) [], ⟨0, 0, false⟩, unit_has _ _ rfl, rfl, rfl, by decide +kernel, by decide +kernel,
      by decide +kernel, by decide, by decide +kernel, by decide +kernel⟩,
    ⟨wideOp (.wcfg 3) [] [1, 2], unit_has _ _ rfl, rfl⟩, ⟨wideOp (.wrun 3) [] [1, 2], unit_has _ _ rfl, rfl⟩⟩

/-- A block that commits one wide instruction, in a deterministic task. -/
def widening : Block := { ended with writes := [], held := [], exits := [⟨1, .branch, 0x80⟩], effs := [(2, .wide (wideOp (.xclr 0 1) [] []))] }

theorem wit_commit_queues_wide : ∃ (s : State) (x : ExitFired), flying s 3 1 widening ∧ mayCommit widening x ∧ widening.mems = []
    ∧ widening.effs = [(2, .wide (wideOp (.xclr 0 1) [] []))] ∧ wideRegister (.xclr 0 1) = true ∧ widening.writes = [] ∧ x.kind ≠ .call
    ∧ 2 < widening.words.length ∧ (s.work.tile 3).wq.length < 64 ∧ s.core.marks = [] ∧ (s.work.at_ 3 1 0).det = true ∧ (s.work.tile 3).wide.issuer = none := by
  refine ⟨withCtx (within (withOne widening) { quiet with mode := 1 }) (fun c => { c with mode := 1 }), ⟨1, .branch, 0x80⟩, ?_⟩
  unfold flying mayCommit atEnd
  decide +kernel

/-- A run of one stage, ADD of streams at 0x40 and 0xC0 of tile 3's stash into 0x140, of which one of three iterations is done; lane 3 of the
first stream holds infinity. -/
def run : WideRun := { op := wideOp (.wrun 0) [] [0x200040, 0x2000C0, 0, 0, 0x200140, 0x200000003, 0x600200, 0], n := 1, flags := 2 }
def streaming (r : WideRun) : State :=
  withWords (widened State.reset { run := some r, prog := [0x1002E0, 0, 0, 0, 0, 0, 0, 0] }) [(stashBase 3 + 0x58, 0x7FF0000000000000, false)]

theorem wit_runs_iterate : ((streaming run).canonical ∧ (streaming run).work.spineRuns 3 = true ∧ ((streaming run).work.tile 3).wide.run = some run
      ∧ ((streaming run).work.tile 3).wide.prog = [0x1002E0, 0, 0, 0, 0, 0, 0, 0] ∧ run.n + 1 < (0x200000003 : Word).toNat % 2 ^ 32
      ∧ (streaming run).core.claims = [] ∧ (streaming run).core.poison = [] ∧ (streaming run).core.watched = []
      ∧ (0x200040 : Word).toNat < 2 ^ 22 ∧ (0x200040 : Word).getLsbD 21 = true ∧ (0x200140 : Word).toNat % 2 ^ 21 + 128 ≤ 0x180000
      ∧ (0x200000003 : Word).toNat / 2 ^ 32 % 2 = 0 ∧ (0x200000003 : Word).toNat / 2 ^ 33 < 3
      ∧ ∀ l, l < 16 → scalarGives (.faddD 0 0 0 0) ((streaming run).work.word (stashBase 3 + 0x40 + 8 * l)) ((streaming run).work.word (stashBase 3 + 0xC0 + 8 * l)) 0
          (if l = 3 then 0x7FF0000000000000 else 0) 0)
    ∧ (((streaming { run with n := 3 }).work.tile 3).wide.run = some { run with n := 3 } ∧ (streaming { run with n := 3 }).work.spineRuns 3 = true
      ∧ (0x200000003 : Word).toNat % 2 ^ 32 ≤ 3 ∧ (streaming { run with n := 3 }).core.claims = []) := by
  refine ⟨⟨?_, ?_, ?_, ?_, ?_, ?_, ?_, ?_, ?_, ?_, ?_, ?_, ?_, fun l hl => .inl ⟨4, ?_⟩⟩, ?_, ?_, ?_, ?_⟩
  all_goals first | (revert l; decide +kernel) | decide +kernel | (unfold State.canonical; decide +kernel)

/-! ### The effects of a commit -/

/-- A block that commits the effects `es`, without a write entry. -/
def effecting (es : List (Nat × Effect)) : Block := { ended with writes := [], held := [], exits := [⟨1, .branch, 0x80⟩], effs := es }
abbrev branching : ExitFired := ⟨1, .branch, 0x80⟩
/-- A block that commits one memory effect of kind `k`. -/
def touching (k : MemKind) (size : Nat) : Block := { ended with mems := [⟨1, 0, k, stashPa, size, 0xABCD⟩] }

theorem wit_atomics_commit : ∀ k ∈ [(.consume : MemKind), .amo, .cas true, .cas false, .red 0, .red 8], ∀ size ∈ [4, 8], ∃ (s : State) (b : Block) (x : ExitFired) (e : MemEff),
    s.canonical ∧ flying s 3 1 b ∧ mayCommit b x ∧ b.mems = [e] ∧ b.effs = [] ∧ (e.size ∈ [4, 8] ∨ e.kind = .consume ∧ e.size ∈ [1, 2]) ∧ e.pa % e.size = 0
      ∧ e.kind = k ∧ classify e.pa ≠ .control ∧ classify (e.pa / 8 * 8) ≠ .host ∧ e.pa / 64 ∉ s.core.watched
      ∧ (∀ k ∈ s.core.claims, k.party ≠ 3 * 4 + 1 → k.word ≠ e.pa / 8) ∧ s.core.marks = [] := by
  intro k hk size hs
  refine ⟨withOne (touching k size), touching k size, ⟨1, .call, 0x77AA000000000000F0⟩, ⟨1, 0, k, stashPa, size, 0xABCD⟩, ?_⟩
  simp only [List.mem_cons, List.not_mem_nil, or_false] at hk hs
  rcases hk with rfl | rfl | rfl | rfl | rfl | rfl <;> rcases hs with rfl | rfl <;> (unfold State.canonical flying mayCommit atEnd; decide +kernel)

theorem commits_effecting {s : State} {es : List (Nat × Effect)}
    (h : (s.work.ctx 3 1).block = some (effecting es) ∧ (s.work.ctx 3 1).status = .running ∧ s.core.claims = [] ∧ s.core.marks = []) (hl : ∀ e ∈ es, e.1 < 3) :
    commits s 3 1 (effecting es) branching es :=
  ⟨⟨h.1, h.2.1⟩, ⟨⟨rfl, rfl, rfl⟩, rfl, rfl, (show (effecting []).seconds = [] by decide +kernel), rfl, rfl, by nofun, by nofun⟩, rfl, rfl, hl, rfl, h.2.2.1, h.2.2.2⟩

/-- Context 1 of tile 3 has the block in flight that commits `es`, and nothing is claimed or marked. -/
def inFlightOk (s : State) (es : List (Nat × Effect)) : Bool :=
  decide ((s.work.ctx 3 1).block = some (effecting es)) && decide ((s.work.ctx 3 1).status = .running) && decide (s.core.claims = []) && decide (s.core.marks = [])
    && decide (∀ e ∈ es, e.1 < 3)

theorem commits_of {s : State} {es : List (Nat × Effect)} (h : inFlightOk s es = true) : commits s 3 1 (effecting es) branching es := by
  unfold inFlightOk at h
  simp only [Bool.and_eq_true, decide_eq_true_eq] at h
  exact commits_effecting ⟨h.1.1.1.1, h.1.1.1.2, h.1.1.2, h.1.2⟩ h.2

/-- A queue of ASID 5 that holds one record in hardware, of `hd` it may hold, and `n` in its ring of two slots at 0x30040. -/
def ringQueue (hd : Nat) (n : BitVec 32) (pending : List Nat) : HQueue :=
  { enabled := true, owner := 5, hd := hd, rw := 1, rs := 2, rbase := 0x40, ring := [0x30000], hin := 2, hout := 1, rin := 7 + n, rout := 7, seq := 9,
    entries := [freeRecord], pending := pending }

/-- A push, a pop with its store, an enabling QCFG. -/
abbrev pushes : List (Nat × Effect) := [(2, .qpush 255 [8])]
abbrev pops : List (Nat × Effect) := [(2, .stores [(stashPa, 5)]), (2, .qpop 255 1)]
abbrev enables : List (Nat × Effect) := [(2, .qenable 255 0x40 [0x30000] 4 1 2 5)]
def pushing (hd : Nat) (n : BitVec 32) : State := queued (withOne (effecting pushes)) (ringQueue hd n [13])
def popping1 (n : BitVec 32) : State := queued (withOne (effecting pops)) (ringQueue 4 n [])

theorem wit_queue_effects : (∀ hd ∈ [4, 1], ∀ n ∈ [0, 1], commits (pushing hd n) 3 1 (effecting pushes) branching [(2, .qpush 255 [8])] ∧ (pushing hd n).canonical
      ∧ (pushing hd n).work.hq 255 = ringQueue hd n [13]
      ∧ plainWords (pushing hd n) (ringSlot (ringQueue hd n [13]) ((ringQueue hd n [13]).rin.toNat % 2)) 1)
    ∧ (∀ n ∈ [0, 1], commits (popping1 n) 3 1 (effecting pops) branching [(2, .stores [(stashPa, 5)]), (2, .qpop 255 1)]
      ∧ ([(stashPa, (5 : Word))].map (·.1)).Nodup ∧ (∀ v ∈ [(stashPa, (5 : Word))], v.1 % 8 = 0) ∧ (popping1 n).work.hq 255 = ringQueue 4 n []
      ∧ (ringQueue 4 n []).entries = [] ++ freeRecord :: [] ∧ freeRecord.seq = 1
      ∧ plainWords (popping1 n) (ringSlot (ringQueue 4 n []) ((ringQueue 4 n []).rout.toNat % 2)) 1)
    ∧ (commits (withOne (effecting enables)) 3 1 (effecting enables) branching [(2, .qenable 255 0x40 [0x30000] 4 1 2 5)] ∧ (withOne (effecting enables)).canonical
      ∧ (withOne (effecting enables)).core.watched = [] ∧ 0x40 % 64 = 0 ∧ 0x30000 % 2 ^ 16 = 0 ∧ 0x40 + 64 * 2 ≤ 1 * 2 ^ 16)
    ∧ (∀ force ∈ [true, false], commits (queued (withOne (effecting [(2, .qdisable 255 force)])) twoRecords) 3 1 (effecting [(2, .qdisable 255 force)]) branching
          [(2, .qdisable 255 force)]) := by
  refine ⟨fun hd hh n hn => ⟨commits_of ?_, ?_, ?_, ?_⟩, fun n hn => ⟨commits_of ?_, ?_, ?_, ?_, ?_, ?_, ?_⟩, ⟨commits_of ?_, ?_, ?_, ?_, ?_, ?_⟩, fun force hf => commits_of ?_⟩
  iterate 4 (simp only [List.mem_cons, List.not_mem_nil, or_false] at hh hn; rcases hh with rfl | rfl <;> rcases hn with rfl | rfl <;> (try unfold plainWords) <;> (try unfold State.canonical) <;> decide +kernel)
  iterate 7 (simp only [List.mem_cons, List.not_mem_nil, or_false] at hn; rcases hn with rfl | rfl <;> (try unfold plainWords) <;> decide +kernel)
  all_goals first | decide +kernel | (unfold State.canonical; decide +kernel) | (cases force <;> decide +kernel)

/-- Die 0's combining queue holds a record that context `p` pushed in this clk. -/
def combining (es : List (Nat × Effect)) (p : Nat) (pending : List Nat) : State :=
  (withOne (effecting es)).lift (fun w => w.setCq 0 { records := [{ seq := 4, words := [1], asid := 5, clk := 77, pushed := p }], seq := 5, pending := pending })

abbrev cqpops : List (Nat × Effect) := [(2, .stores [(stashPa, 5)]), (2, .cqpop 0 4)]

theorem wit_combining_effects : (∀ p ∈ [20, 11], commits (combining [(2, .cqpush 0 [6])] p [13]) 3 1 (effecting [(2, .cqpush 0 [6])]) branching [(2, .cqpush 0 [6])]
      ∧ (combining [(2, .cqpush 0 [6])] p [13]).work.cqueue 0 = { records := [{ seq := 4, words := [1], asid := 5, clk := 77, pushed := p }], seq := 5, pending := [13] }
      ∧ (combining [(2, .cqpush 0 [6])] p [13]).now = 77)
    ∧ (3 * 4 + 1 < 20 ∧ 11 ≤ 3 * 4 + 1)
    ∧ (commits (combining cqpops 11 []) 3 1 (effecting cqpops) branching [(2, .stores [(stashPa, 5)]), (2, .cqpop 0 4)]
      ∧ (combining cqpops 11 []).work.cqueue 0 = { records := [{ seq := 4, words := [1], asid := 5, clk := 77, pushed := 11 }], seq := 5, pending := [] }) := by
  refine ⟨fun p hp => ⟨commits_of ?_, ?_, ?_⟩, by decide, commits_of ?_, ?_⟩
  all_goals first | decide +kernel | (revert hp p; decide +kernel)

/-- The effect `e` of a block in region 7, whose slots hold an STS and an LDS. -/
def inRegion7 (e : Effect) : State := element (element (within (withOne (effecting [(2, e)])) quiet) 16 3 stsWord id) 32 3 (3 * 2 ^ 23 + 2 ^ 15) id

theorem wit_region_effects : (∀ e ∈ [(.config 7 [(16, basePlane 16)] false : Effect), .switch 7, .abort 7 false, .abort 7 true, .arm 7 5, .drain 7, .inject 16 99, .inject 8208 99],
      commits (inRegion7 e) 3 1 (effecting [(2, e)]) branching [(2, e)] ∧ ownRegion (inRegion7 e) 3 1 7 quiet
      ∧ ((sourcesOf (inRegion7 e) quiet).map Slot.key).Nodup ∧ sourcesOf (inRegion7 e) quiet ≠ [] ∧ quiet.arms + (inRegion7 e).work.armsLate 7 + 5 ≤ quiet.tcount)
    ∧ quiet.live.Nodup ∧ 16 / 256 < quiet.live.length ∧ quiet.armedSince = false ∧ quiet.sinks = [] ∧ quiet.switches < 65535
    ∧ (16 : Word).getLsbD 13 = false ∧ (8208 : Word).getLsbD 13 = true := by
  refine ⟨fun e he => ⟨commits_of ?_, ⟨?_, ?_, by nofun⟩, ?_, ?_, ?_⟩, by decide⟩
  all_goals (simp only [List.mem_cons, List.not_mem_nil, or_false] at he; rcases he with rfl | rfl | rfl | rfl | rfl | rfl | rfl | rfl <;> decide +kernel)

/-- An IMPOSE of nothing. -/
abbrev imposing : EngCmd := { instr := .impose 0, who := ⟨5, true, [], [], none⟩, party := 13, die := 0, seg := 0xFF, words := [0, 0, 0, 0, 0, 0, 0, 0] }
def effected (e : Effect) : State := within (withOne (effecting [(2, e)])) quiet

theorem wit_other_effects : (∀ e ∈ [(.spawn 14 0x400 13 : Effect), .fence 2, .seed 0x5000 7, .engine imposing, .pfree 0x8000 3 0x20000 0x20000, .pgrow 0x8000 0x40000 0x10000,
        .cwstore [7, 1, 0, 0, 0, 0, 0, 0], .cwinv 7, .cwinv (2 ^ 48 + 7)],
      commits (effected e) 3 1 (effecting [(2, e)]) branching [(2, e)] ∧ (effected e).canonical ∧ plainWords (effected e) 0x5000 1
      ∧ ((effected e).work.at_ 3 1 0).det = false ∧ (effected e).core.engines = []
      ∧ poolWord (effected e).work 0x8000 3 + 1 < 2 ^ 32 ∧ (effected e).core.directory = [] ∧ (effected e).work.regionOf 3 = some quiet)
    ∧ quiet.stats % 2 ^ 64 = 0 ∧ 14 = 3 * 4 + 2 := by
  refine ⟨fun e he => ⟨commits_of ?_, ⟨?_, ?_⟩, ⟨?_, ?_, ?_⟩, ?_, ?_, ?_, ?_, ?_⟩, by decide⟩
  all_goals (simp only [List.mem_cons, List.not_mem_nil, or_false] at he; rcases he with rfl | rfl | rfl | rfl | rfl | rfl | rfl | rfl | rfl <;> decide +kernel)

/-! ### The fabric -/

/-- Tile 3 of region 7, whose tiles are 3 and 2, with one element in use. -/
def fabric (e kind cw : Nat) (f : Elem → Elem) : State := element (inPair State.reset 0) e kind cw f

/-- Slot 0 of element `e` of tile 3. -/
def slot0 (s : State) (e : Nat) : Slot := mkSlot 3 e (s.work.activePlane 3 e) 0

/-- A firing emits nothing and no flit waits then; or it emits a flit that every route has room for. -/
def firesSilently (s : State) (t : Nat) (S : Slot) : Bool :=
  match s.work.slotFire S with
  | some (w, none, busy) => s.work.stepDone w S && (fired s w S busy).noFlitHeld t
  | _ => false
def firesInPart (s : State) (t : Nat) (S : Slot) : Bool :=
  match s.work.slotFire S with
  | some (w, none, busy) => !s.work.stepDone w S && (amid s w S busy).noFlitHeld t
  | _ => false
def firesOut (s : State) (t : Nat) (S : Slot) : Bool :=
  match s.work.slotFire S with
  | some (w, some f, busy) => f.kind != 3 && (w.liveRoutes S).all (fun p => s.work.roomOn S false p)
      && (fired s (sentOn w S f) S busy).noFlitHeld t
  | _ => false

theorem fires_silently {s : State} {t : Nat} {S : Slot} (h : firesSilently s t S = true) :
    ∃ w busy, s.work.slotFire S = some (w, none, busy) ∧ s.work.stepDone w S = true ∧ (fired s w S busy).noFlitHeld t = true := by
  unfold firesSilently at h
  split at h
  · simp only [Bool.and_eq_true] at h
    exact ⟨_, _, by assumption, h.1, h.2⟩
  · contradiction

theorem fires_in_part {s : State} {t : Nat} {S : Slot} (h : firesInPart s t S = true) :
    ∃ w busy, s.work.slotFire S = some (w, none, busy) ∧ s.work.stepDone w S = false ∧ (amid s w S busy).noFlitHeld t = true := by
  unfold firesInPart at h
  split at h
  · simp only [Bool.and_eq_true, Bool.not_eq_true'] at h
    exact ⟨_, _, by assumption, h.1, h.2⟩
  · contradiction

theorem fires_out {s : State} {t : Nat} {S : Slot} (h : firesOut s t S = true) :
    ∃ w f busy, s.work.slotFire S = some (w, some f, busy) ∧ f.kind ≠ 3 ∧ (∀ p ∈ w.liveRoutes S, s.work.roomOn S false p = true)
      ∧ (fired s (sentOn w S f) S busy).noFlitHeld t = true := by
  unfold firesOut at h
  split at h
  · simp only [Bool.and_eq_true, List.all_eq_true, bne_iff_ne] at h
    exact ⟨_, _, _, by assumption, h.1.1, h.1.2, h.2⟩
  · contradiction

/-- An STS with a flit of one value at its input; an LDS whose SINK route is on and whose agenda holds two armings. -/
abbrev word64 : Flit := { kind := 2, tag := 0, mask := 1, payload := 0x1122334455667788 }
def storing : State := fabric 16 3 stsWord (fun x => { x with ins := [(1, [word64])] })
def loading : State := fabric 16 3 (3 * 2 ^ 23 + 2 ^ 15) (fun x => { x with ops := [(0, { agenda := [.arm, .arm] })] })

/-- The same with a waiting load, whose word is EMPTY. -/
def beginning : State := fabric 16 3 (2 ^ 25 + 3 * 2 ^ 23 + 2 ^ 15) (fun x => { x with ops := [(0, { agenda := [.arm, .arm] })] })

theorem wit_elements_fire : (turnOf storing 3 16 (slot0 storing 16)
      ∧ ∃ w busy, storing.work.slotFire (slot0 storing 16) = some (w, none, busy) ∧ storing.work.stepDone w (slot0 storing 16) = true
        ∧ (fired storing w (slot0 storing 16) busy).noFlitHeld 3 = true)
    ∧ (turnOf beginning 3 16 (slot0 beginning 16)
      ∧ ∃ w busy, beginning.work.slotFire (slot0 beginning 16) = some (w, none, busy)
        ∧ beginning.work.stepDone w (slot0 beginning 16) = false ∧ (amid beginning w (slot0 beginning 16) busy).noFlitHeld 3 = true)
    ∧ (turnOf loading 3 16 (slot0 loading 16)
      ∧ ∃ w f busy, loading.work.slotFire (slot0 loading 16) = some (w, some f, busy) ∧ f.kind ≠ 3
        ∧ (∀ p ∈ w.liveRoutes (slot0 loading 16), loading.work.roomOn (slot0 loading 16) false p = true)
        ∧ (fired loading (sentOn w (slot0 loading 16) f) (slot0 loading 16) busy).noFlitHeld 3 = true) := by
  refine ⟨⟨?_, fires_silently ?_⟩, ⟨?_, fires_in_part ?_⟩, ?_, fires_out ?_⟩
  all_goals first | decide +kernel | (unfold turnOf slotRuns; decide +kernel)

theorem stream_in_stash (s : State) (S : Slot) (h : s.work.regionOf S.tile = some (pairRegion 0))
    (hb : s.work.streamOf S = ⟨0xFF * 2 ^ 64 + 2 * 0x200000 + 0x40, [5], [8]⟩) : streamsInStash s S (pairRegion 0) 2 0x40 :=
  ⟨h, by decide, by decide, by decide, by decide, 5, by decide, hb⟩

theorem wit_stream_ports : (storing.canonical ∧ turnOf storing 3 16 (slot0 storing 16) ∧ (slot0 storing 16).kind = 3 ∧ (slot0 storing 16).opc = 1
      ∧ (slot0 storing 16).size = 8 ∧ (slot0 storing 16).dims = 1 ∧ (slot0 storing 16).access = 4 ∧ (slot0 storing 16).arcPred = 0
      ∧ (slot0 storing 16).sels = [1] ∧ storing.work.op (slot0 storing 16) = {} ∧ mapGet [] 1 (storing.work.elem 3 16).ins = [word64]
      ∧ word64.payload < 2 ^ 64 ∧ (storing.work.elem 3 16).spill = [] ∧ streamsInStash storing (slot0 storing 16) (pairRegion 0) 2 0x40
      ∧ storing.work.noFlitHeld 3 = true ∧ storing.core.claims = [] ∧ storing.core.poison = [] ∧ storing.core.watched = [] ∧ storing.core.tokens = [])
    ∧ (turnOf loading 3 16 (slot0 loading 16) ∧ (slot0 loading 16).kind = 3 ∧ (slot0 loading 16).opc = 0 ∧ (slot0 loading 16).size = 8
      ∧ (slot0 loading 16).dims = 1 ∧ (slot0 loading 16).access = 0 ∧ (slot0 loading 16).arcPred = 0 ∧ (slot0 loading 16).ports = [5]
      ∧ loading.work.op (slot0 loading 16) = { agenda := [.arm, .arm] } ∧ (loading.work.elem 3 16).spill = []
      ∧ loading.work.regionOf 3 = some (pairRegion 0) ∧ 2 ∈ (pairRegion 0).live ∧ 0x40 + 16 ≤ 0x180000
      ∧ loading.work.streamOf (slot0 loading 16) = ⟨0xFF * 2 ^ 64 + 2 * 0x200000 + 0x40, [5], [8]⟩ ∧ loading.work.noFlitHeld 3 = true
      ∧ loading.core.poison = [] ∧ loading.core.tokens = []) := by
  refine ⟨⟨?_, ?_, ?_, ?_, ?_, ?_, ?_, ?_, ?_, ?_, ?_, ?_, ?_, stream_in_stash _ _ ?_ ?_, ?_, ?_, ?_, ?_, ?_⟩,
    ?_, ?_, ?_, ?_, ?_, ?_, ?_, ?_, ?_, ?_, ?_, ?_, ?_, ?_, ?_, ?_, ?_⟩
  all_goals first | decide +kernel | (unfold turnOf slotRuns; decide +kernel) | (unfold State.canonical; decide +kernel)

/-- Kill and discard: an STS whose routes are W and SINK, its stream number `sid`; the kill names stream 9 at its output W. -/
def killed (sid : Nat) : State :=
  withCore (fabric 16 3 (stsWord + 0x30 * 2 ^ 10) (fun x => { x with ops := [(0, { sid := sid })] })) (fun c => { c with kills := [⟨3, 16, 4, 0, 9, 0⟩] })

/-- A UE that discards the stream under way at its port 1, whose flits have kind `k`. -/
def flitOf (k : Nat) : Flit := { kind := k, tag := 1, mask := 1, payload := 5 }
def discarding (k : Nat) : State :=
  fabric 24 4 0 (fun x => { x with ops := [(0, { discard := [1], under := [(1, (1, 0))] })], ins := [(1, [flitOf k, flitOf k])] })

theorem wit_kills : ((killed 8).core.kills = [⟨3, 16, 4, 0, 9, 0⟩] ∧ slot0 (killed 8) 16 ∈ (killed 8).work.elemSlots 3 16 ∧ (slot0 (killed 8) 16).route / 2 ^ 4 % 2 = 1
      ∧ (killed 8).work.countsAhead 3 16 4 = false
      ∧ (∀ T ∈ (killed 8).work.elemSlots 3 16, T.s % 4 = 0 % 4 → T.route / 2 ^ 4 % 2 = 1 → T = slot0 (killed 8) 16)
      ∧ ((killed 8).work.op (slot0 (killed 8) 16)).sid ≠ 9)
    ∧ ((killed 9).core.kills = [⟨3, 16, 4, 0, 9, 0⟩] ∧ slot0 (killed 9) 16 ∈ (killed 9).work.elemSlots 3 16 ∧ (slot0 (killed 9) 16).route / 2 ^ 4 % 2 = 1
      ∧ (killed 9).work.countsAhead 3 16 4 = false
      ∧ (∀ T ∈ (killed 9).work.elemSlots 3 16, T.s % 4 = 0 % 4 → T.route / 2 ^ 4 % 2 = 1 → T = slot0 (killed 9) 16)
      ∧ ((killed 9).work.op (slot0 (killed 9) 16)).sid = 9 ∧ 4 ∉ ((killed 9).work.op (slot0 (killed 9) 16)).dead ∧ (slot0 (killed 9) 16).kind ≠ 4
      ∧ (slot0 (killed 9) 16).route / 2 ^ 5 % 2 = 1)
    ∧ (∀ k ∈ [2, 3], slotRuns (discarding k) 3 24 (slot0 (discarding k) 24) ∧ mapFind 1 ((discarding k).work.elem 3 24).drops ≠ some (discarding k).now
      ∧ (flitOf k).mask ≠ 0
      ∧ 1 ∈ ((discarding k).work.op (slot0 (discarding k) 24)).discard
      ∧ mapGet [] 1 ((discarding k).work.elem 3 24).ins = flitOf k :: [flitOf k]
      ∧ (mapGet ((1 : Nat), 0) 1 ((discarding k).work.op (slot0 (discarding k) 24)).under).1 = 1) := by
  unfold slotRuns
  decide +kernel

/-- A LUTF and a matrix element whose firing took a period that has passed; a flit in the slots of a crossing. -/
def lutf : State := { fabric 17 0 (16 * 2 ^ 26) (fun x => { x with busyTo := 5 }) with now := 50 }
def matrix : State := { fabric 23 1 0 (fun x => { x with busyTo := 5 }) with now := 50 }
def crossing : State := { fabric 17 0 0 (fun x => { x with cross := [(2, [(word64, 9), (word64, 99)])] }) with now := 50 }

theorem wit_periods : (slot0 lutf 17 ∈ lutf.work.elemSlots 3 17 ∧ (lutf.work.elem 3 17).busyTo ≠ 0 ∧ (lutf.work.elem 3 17).busyTo ≤ lutf.now
      ∧ (slot0 lutf 17).kind = 0 ∧ (slot0 lutf 17).opc = 16)
    ∧ (slot0 matrix 23 ∈ matrix.work.elemSlots 3 23 ∧ (matrix.work.elem 3 23).busyTo ≠ 0 ∧ (matrix.work.elem 3 23).busyTo ≤ matrix.now
      ∧ (slot0 matrix 23).kind = 1)
    ∧ (mapGet [] 2 (crossing.work.elem 3 17).cross = (word64, 9) :: [(word64, 99)] ∧ 9 ≤ crossing.now
      ∧ (mapGet [] 2 (crossing.work.elem 3 17).ins).length < max 1 ((crossing.work.activePlane 3 17).links / 2 ^ (3 * 2) % 2 ^ 3)) := by
  decide +kernel

/-- A waiting LDS that has found its first word EMPTY, whose word is FULL now, with a limit of 2^10 clk. -/
abbrev waitingPort : SlotOp := { agenda := [.arm, .arm], busy := true, since := some 5, due := 77 }
def portWaits : State :=
  withWords { fabric 16 3 (2 ^ 25 + 3 * 2 ^ 23 + 2 ^ 15 + 3 * 2 ^ 6) (fun x => { x with ops := [(0, waitingPort)] }) with now := 5000 }
    [(stashBase 2 + 0x40, 7, true)]

/-- An LDS of mapped memory that waits for extents, and an LDS whose first element has been spilled. -/
abbrev pausedPort : SlotOp := { agenda := [.arm], busy := true, paused := true }
def portPaused : State := paged ((fabric 16 3 (3 * 2 ^ 23 + 2 ^ 15) id).lift (fun w => w.setElem 3 16
  { w.elem 3 16 with ops := [(0, pausedPort)], planeA := { (w.elem 3 16).planeA with strm := [(0, ⟨0x20000, [5], [8]⟩)] } }))
def farElement : Spill := { slot := 0, n := 0, va := 0x12340000, v := 0 }
def portSpilled : State := fabric 16 3 (3 * 2 ^ 23 + 2 ^ 15) (fun x => { x with spill := [farElement] })

theorem wit_port_events : (slotRuns portWaits 3 16 (slot0 portWaits 16) ∧ (slot0 portWaits 16).kind = 3 ∧ (slot0 portWaits 16).opc = 0 ∧ (slot0 portWaits 16).size = 8
      ∧ (slot0 portWaits 16).dims = 1 ∧ (slot0 portWaits 16).access = 1 ∧ portWaits.work.op (slot0 portWaits 16) = waitingPort
      ∧ waitingPort.due ≤ portWaits.now ∧ (portWaits.work.elem 3 16).spill = [] ∧ streamsInStash portWaits (slot0 portWaits 16) (pairRegion 0) 2 0x40
      ∧ portWaits.core.poison = [] ∧ portWaits.core.tokens = [] ∧ portWaits.readFull ((stashBase 2 + 0x40) / 8) = true)
    ∧ ((slot0 portWaits 16).lim = 3 ∧ 5 + 2 ^ (3 + 7) ≤ portWaits.now ∧ (portWaits.work.tile 3).region = some 7
      ∧ mapFind 7 portWaits.core.regions = some (pairRegion 0) ∧ (pairRegion 0).errq.length < 8)
    ∧ (∃ (w : Work) (te : TlbEntry) (vas : List Nat), slotRuns portPaused 3 16 (slot0 portPaused 16) ∧ (slot0 portPaused 16).kind = 3 ∧ portPaused.work.op (slot0 portPaused 16) = pausedPort
      ∧ (portPaused.work.elem 3 16).spill.length < 64 ∧ portPaused.work.nextVas (slot0 portPaused 16) = 0x20000 :: vas
      ∧ portPaused.work.fetchExtents (portPaused.work.fabricWho 3).asid (((0x20000 :: vas).map (· / 0x10000)).eraseDups.take 8) = (w, [te])
      ∧ te.asid = (portPaused.work.fabricWho 3).asid ∧ te.base ≤ 0x20000 ∧ 0x20000 < te.base + 2 ^ te.lg)
    ∧ (∃ w, slotRuns portSpilled 3 16 (slot0 portSpilled 16) ∧ (slot0 portSpilled 16).kind = 3 ∧ (slot0 portSpilled 16).s = 0
      ∧ (portSpilled.work.elem 3 16).spill = farElement :: []
      ∧ portSpilled.work.findEntry (portSpilled.work.fabricWho 3) 0x12340000 = (w, .error 0)
      ∧ (portSpilled.work.tile 3).region = some 7 ∧ mapFind 7 portSpilled.core.regions = some (pairRegion 0)) := by
  refine ⟨⟨?_, ?_, ?_, ?_, ?_, ?_, ?_, ?_, ?_, stream_in_stash _ _ ?_ ?_, ?_, ?_, ?_⟩, ?_, ⟨_, _, _, ?_, ?_, ?_, ?_, rfl, rfl, ?_, ?_, ?_⟩,
    ⟨_, ?_, ?_, ?_, ?_, pair_of ?_, ?_, ?_⟩⟩
  all_goals first | decide +kernel | (unfold slotRuns; decide +kernel)

/-- A token of a plain store to HBM, and the GATH that waits for a reply; a record in region 7's error queue. -/
abbrev token : Token := { tile := 3, elem := 16, slot := 0, pos := 4, op := 4, typ := 0, size := 4, pa := 0x100000C, v := 0x1FFFFFFFF, since := 0 }
def tokened (m : Token) : State :=
  withCore (fabric 16 3 (2 * 2 ^ 28 + 3 * 2 ^ 23 + 2 ^ 18 + 0x20 * 2 ^ 10) (fun x => { x with ops := [(0, { elems := [⟨4, none⟩] })] }))
    (fun c => { c with tokens := [m] })
def inError : State :=
  (inPair State.reset 0).lift (fun w => (w.setRegion 7 { pairRegion 0 with errq := [88, 99] }).setCtx 3 0 { status := .ready, pc := 0x4000 })

theorem wit_tokens_and_errors : ((tokened token).canonical ∧ (tokened token).core.tokens = [token] ∧ token.reply = none ∧ classify token.pa = .hbm ∧ token.op = 4
      ∧ token.size ∈ [1, 2, 4, 8] ∧ token.pa % token.size = 0 ∧ (tokened token).core.claims = [] ∧ (tokened token).core.poison = []
      ∧ (tokened token).core.watched = [])
    ∧ ((tokened { token with reply := some 77 }).core.tokens = [{ token with reply := some 77 }]
      ∧ (mkSlot 3 16 ((tokened { token with reply := some 77 }).work.activePlane 3 16) 0).kind = 3
      ∧ (mkSlot 3 16 ((tokened { token with reply := some 77 }).work.activePlane 3 16) 0).opc = 2
      ∧ ((tokened { token with reply := some 77 }).work.op (mkSlot 3 16 ((tokened { token with reply := some 77 }).work.activePlane 3 16) 0)).elems = [⟨token.pos, none⟩])
    ∧ (mapFind 7 inError.core.regions = some { pairRegion 0 with errq := [88, 99] } ∧ (pairRegion 0).live.head? = some 3 ∧ inError.work.spineRuns 3 = true
      ∧ (inError.work.ctx 3 0).status = .ready ∧ (inError.work.ctx 3 0).handler = false ∧ (inError.work.ctx 3 0).block = none
      ∧ (inError.work.ctx 3 0).park = none) := by
  unfold State.canonical
  decide +kernel

/-! ### What the operations of the fabric compute -/

/-- Element 17 of tile 3, an OE, whose slot 0 has opcode `opc`, operands on N and E, or with `c` on N, E and S, and its route to SINK. -/
def oeSlot (opc : Nat) (ps : List Nat) (x : SlotOp) (ins : List (Nat × List Flit)) : State :=
  let cw := opc * 2 ^ 26 + mapGet 7 0 ((List.range 3).zip ps) * 2 ^ 18 + mapGet 7 1 ((List.range 3).zip ps) * 2 ^ 15 + 2 ^ 12
  fabric 17 0 cw (fun e => { e with
    ops := if x = {} then [] else [(0, x)], ins := ins, planeA := { e.planeA with ctx := [(0, cw), (1, 1 + 2 * mapGet 7 2 ((List.range 3).zip ps))] } })

/-- The operands' digits so far and next, in lane 2: `ds` and `d` of scale 0 and precision 9. -/
def operandLane (ds : List Int) : ILane := { e := 0, p := 9, digits := ds }
def resultHead : Head := ⟨0, false, 1, 9, 3⟩

/-- Slot 0 of `oeSlot opc` in the middle of a stream, each operand having brought digits `ds` and bringing `d` now, no digit of the result being
formed yet. -/
def midway (opc : Nat) (ops : List (List Int × Int)) : State :=
  oeSlot opc (List.range ops.length)
    { ins := ((List.range ops.length).zip ops).map (fun t => (4 * t.1 + 2, operandLane t.2.1)), outs := [(2, { head := some resultHead, headSent := true })] }
    (((List.range ops.length).zip ops).map (fun t => (t.1, [digitFlit [(2, t.2.2)]])))

/-- The operands as `midStream` names them. -/
def midOperands (ops : List (List Int × Int)) : List (Nat × ILane × Int) :=
  ((List.range ops.length).zip ops).map (fun t => (t.1, operandLane t.2.1, t.2.2))

/-- The state, the slot and the operands satisfy `midStream`, as a Boolean. -/
def midOk (s : State) (S : Slot) (n : Nat) (ts : List (Nat × ILane × Int)) (o : OLane) (h : Head) : Bool :=
  S.kind == 0 && decide (S.operands = (List.range ts.length).zip (ts.map (·.1))) && decide (ts.map (·.1) ≠ []) && decide (ts.map (·.1)).Nodup
    && decide (∀ p ∈ ts.map (·.1), p < 4) && decide ((s.work.op S).queue = []) && decide ((s.work.op S).discard = [])
    && !(s.work.op S).abandoned && !(s.work.op S).opened
    && decide ((s.work.op S).ins = ((List.range ts.length).zip ts).map (fun t => (4 * t.1 + 2, t.2.2.1))) && decide ((s.work.op S).outs = [(2, o)])
    && ts.all (fun t => t.2.1.cls == 0 && !t.2.1.ended && !t.2.1.cut && !t.2.1.dead && t.2.1.lost == 0 && t.2.1.digits.length == n && decide (n < t.2.1.p)
      && t.2.1.digits.all (fun d => decide (-10 ≤ d ∧ d ≤ 10)) && decide (s.work.headAt S t.1 = some (digitFlit [(2, t.2.2)])) && decide (-10 ≤ t.2.2 ∧ t.2.2 ≤ 10))
    && decide (o.head = some h) && h.cls == 0 && o.headSent && !o.cut && decide (o.dec = none) && o.sent == o.zs.length && decide (o.zs.length < h.p)
    && decide (h.p ≤ 20)

theorem mid_stream {s : State} {S : Slot} {n : Nat} {ts : List (Nat × ILane × Int)} {o : OLane} {h : Head} (hk : midOk s S n ts o h = true) :
    midStream s S 2 n ts o h := by
  unfold midOk at hk
  simp only [Bool.and_eq_true, decide_eq_true_eq, List.all_eq_true, beq_iff_eq, Bool.not_eq_true'] at hk
  obtain ⟨⟨⟨⟨⟨⟨⟨⟨⟨⟨⟨⟨⟨⟨⟨⟨⟨⟨⟨h1, h2⟩, h3⟩, h4⟩, h5⟩, h6⟩, h7⟩, h8⟩, h9⟩, h10⟩, h11⟩, h12⟩, h13⟩, h14⟩, h15⟩, h16⟩, h17⟩, h18⟩, h19⟩, h20⟩ := hk
  refine ⟨⟨h1, ?_, h3, h4, h5, h6, h7, h8, h9⟩, by decide, h10, h11, fun t ht => ?_, h13, h14, h15, h16, h17, h18, h19, h20⟩
  · rw [List.length_map]; exact h2
  · obtain ⟨⟨⟨⟨⟨⟨⟨⟨⟨a1, a2⟩, a3⟩, a4⟩, a5⟩, a6⟩, a7⟩, a8⟩, a9⟩, a10⟩ := h12 t ht
    exact ⟨⟨a1, a2, a3, a4, a5, a6, a7, a8⟩, ⟨_, a9, rfl, rfl, rfl⟩, a10⟩

theorem leads_of {ds : List Int} {n : Nat} (h : 1 ≤ n ∧ listGet 0 (n - 1) ds ≠ 0 ∧ ∀ i < n - 1, listGet 0 i ds = 0) : leads ds n := h

abbrev freshLane : OLane := { head := some resultHead, headSent := true }

/-- ADD at digit 3, MUL at digit 4 and DIV at digit 5 of two operands; FMA of three; SQRT, PASS and NEG of one. -/
theorem wit_online_digits :
    (∀ opc ∈ [1, 2], midStream (midway opc [([3, 10], -10), ([4, -10], 9)]) (slot0 (midway opc [([3, 10], -10), ([4, -10], 9)]) 17) 2 2
        [(0, operandLane [3, 10], -10), (1, operandLane [4, -10], 9)] freshLane resultHead
      ∧ (slot0 (midway opc [([3, 10], -10), ([4, -10], 9)]) 17).opc = opc ∧ 2 + 1 = 1 + 2 ∧ 1 = freshLane.zs.length + 1)
    ∧ (midStream (midway 3 [([3, 10, 2], -10), ([4, -10, 1], 9)]) (slot0 (midway 3 [([3, 10, 2], -10), ([4, -10, 1], 9)]) 17) 2 3
        [(0, operandLane [3, 10, 2], -10), (1, operandLane [4, -10, 1], 9)] freshLane resultHead
      ∧ (slot0 (midway 3 [([3, 10, 2], -10), ([4, -10, 1], 9)]) 17).opc = 3 ∧ 3 + 1 = 1 + 3)
    ∧ (midStream (midway 5 [([3, 10, 2, 1], -10), ([4, -10, 1, 1], 9)]) (slot0 (midway 5 [([3, 10, 2, 1], -10), ([4, -10, 1, 1], 9)]) 17) 2 4
        [(0, operandLane [3, 10, 2, 1], -10), (1, operandLane [4, -10, 1, 1], 9)] freshLane resultHead
      ∧ (slot0 (midway 5 [([3, 10, 2, 1], -10), ([4, -10, 1, 1], 9)]) 17).opc = 5 ∧ leads [4, -10, 1, 1] 1 ∧ 4 + 1 = 1 - 1 + 1 + 4)
    ∧ (midStream (midway 4 [([3, 10, 2], -10), ([4, -10, 1], 9), ([1, 1, 1], 2)]) (slot0 (midway 4 [([3, 10, 2], -10), ([4, -10, 1], 9), ([1, 1, 1], 2)]) 17) 2 3
        [(0, operandLane [3, 10, 2], -10), (1, operandLane [4, -10, 1], 9), (2, operandLane [1, 1, 1], 2)] freshLane resultHead
      ∧ (slot0 (midway 4 [([3, 10, 2], -10), ([4, -10, 1], 9), ([1, 1, 1], 2)]) 17).opc = 4 ∧ 3 + 1 = 1 + 3)
    ∧ (midStream (midway 6 [([4, 0, 0, 0], 0)]) (slot0 (midway 6 [([4, 0, 0, 0], 0)]) 17) 2 4 [(0, operandLane [4, 0, 0, 0], 0)] freshLane resultHead
      ∧ (slot0 (midway 6 [([4, 0, 0, 0], 0)]) 17).opc = 6 ∧ leads [4, 0, 0, 0] 1 ∧ 0 < listGet 0 (1 - 1) ([4, 0, 0, 0] : List Int) ∧ 4 + 1 = 1 - 1 + 1 + 4
      ∧ (let v : ℚ := 64 * 16 ^ (2 * 1) / 16 ^ (if ((operandLane [4, 0, 0, 0]).e - (1 : Nat) + 1) % 2 = 0 then 2 else 3) * prefixQ (([4, 0, 0, 0] ++ [0]).drop (1 - 1)) (1 + 4)
         ((4 : Nat) : ℚ) ^ 2 ≤ v ∧ v < (((4 : Nat) : ℚ) + 1) ^ 2))
    ∧ (∀ opc ∈ [0, 7], midStream (midway opc [([], -10)]) (slot0 (midway opc [([], -10)]) 17) 2 0 [(0, operandLane [], -10)] freshLane resultHead
      ∧ (slot0 (midway opc [([], -10)]) 17).opc = opc ∧ 0 + 1 = 1) := by
  refine ⟨?_, ⟨mid_stream ?_, ?_⟩, ⟨mid_stream ?_, ?_, leads_of ?_, rfl⟩, ⟨mid_stream ?_, ?_⟩, ⟨mid_stream ?_, ?_, leads_of ?_, ?_, rfl, ?_⟩, ?_⟩
  · intro opc h
    simp only [List.mem_cons, List.not_mem_nil, or_false] at h
    rcases h with rfl | rfl <;> exact ⟨mid_stream (by decide +kernel), by decide +kernel⟩
  any_goals decide +kernel
  · intro opc h
    simp only [List.mem_cons, List.not_mem_nil, or_false] at h
    rcases h with rfl | rfl <;> exact ⟨mid_stream (by decide +kernel), by decide +kernel⟩

/-- Slot 0 of `oeSlot opc` without a stream, its operands bringing heads in lane 2. -/
def headsCome (opc : Nat) (hs : List Head) : State :=
  oeSlot opc (List.range hs.length) {} (((List.range hs.length).zip hs).map (fun t => (t.1, [headFlit [(2, t.2)]])))

def headsOk (s : State) (S : Slot) (ts : List (Nat × Head)) : Bool :=
  S.kind == 0 && decide (S.operands = (List.range ts.length).zip (ts.map (·.1))) && decide (ts.map (·.1) ≠ []) && decide (ts.map (·.1)).Nodup
    && decide (∀ p ∈ ts.map (·.1), p < 4) && decide ((s.work.op S).queue = []) && decide ((s.work.op S).discard = [])
    && !(s.work.op S).abandoned && !(s.work.op S).opened && decide ((s.work.op S).ins = []) && decide ((s.work.op S).outs = [])
    && ts.all (fun t => decide (s.work.headAt S t.1 = some (headFlit [(2, t.2)])) && decide (t.2.cls = 0 ∧ -2048 ≤ t.2.e ∧ t.2.e ≤ 2047 ∧ 1 ≤ t.2.p ∧ t.2.p ≤ 20 ∧ t.2.seq < 16))

theorem brings_heads {s : State} {S : Slot} {ts : List (Nat × Head)} (hk : headsOk s S ts = true) : bringsHeads s S 2 ts := by
  unfold headsOk at hk
  simp only [Bool.and_eq_true, decide_eq_true_eq, List.all_eq_true, beq_iff_eq, Bool.not_eq_true'] at hk
  obtain ⟨⟨⟨⟨⟨⟨⟨⟨⟨⟨⟨h1, h2⟩, h3⟩, h4⟩, h5⟩, h6⟩, h7⟩, h8⟩, h9⟩, h10⟩, h11⟩, h12⟩ := hk
  refine ⟨⟨h1, ?_, h3, h4, h5, h6, h7, h8, h9⟩, by decide, h10, h11, fun t ht => ⟨⟨_, (h12 t ht).1, rfl, rfl, rfl⟩, (h12 t ht).2⟩⟩
  rw [List.length_map]; exact h2

abbrev minus : Head := ⟨0, true, -2048, 5, 9⟩
abbrev plus : Head := ⟨0, false, 7, 20, 2⟩

/-- An OE whose lane's head is known and has not left. -/
def headStands : State := oeSlot 1 [0, 1] { ins := [(2, operandLane [])], outs := [(2, { head := some resultHead })] } []

theorem wit_online_heads : (∀ opc ∈ [1, 2, 3], bringsHeads (headsCome opc [minus, plus]) (slot0 (headsCome opc [minus, plus]) 17) 2 [(0, minus), (1, plus)]
      ∧ (slot0 (headsCome opc [minus, plus]) 17).opc = opc ∧ max minus.e plus.e + 1 ≤ 2047 ∧ minus.e + plus.e ≤ 2047)
    ∧ (bringsHeads (headsCome 3 [minus, minus]) (slot0 (headsCome 3 [minus, minus]) 17) 2 [(0, minus), (1, minus)] ∧ minus.e + minus.e < -2048)
    ∧ (bringsHeads (headsCome 4 [minus, plus, plus]) (slot0 (headsCome 4 [minus, plus, plus]) 17) 2 [(0, minus), (1, plus), (2, plus)]
      ∧ (slot0 (headsCome 4 [minus, plus, plus]) 17).opc = 4 ∧ max (minus.e + plus.e) plus.e + 1 ≤ 2047)
    ∧ (∀ opc ∈ [0, 7], bringsHeads (headsCome opc [minus]) (slot0 (headsCome opc [minus]) 17) 2 [(0, minus)] ∧ (slot0 (headsCome opc [minus]) 17).opc = opc)
    ∧ (online headStands (slot0 headStands 17) [0, 1] ∧ (headStands.work.op (slot0 headStands 17)).outs = [(2, { head := some resultHead })]
      ∧ (headStands.work.op (slot0 headStands 17)).ins ≠ [] ∧ (slot0 headStands 17).opc ≠ 12 ∧ (slot0 headStands 17).opc ≠ 19
      ∧ ∀ p ∈ [0, 1], headStands.work.headAt (slot0 headStands 17) p = none) := by
  refine ⟨?_, ⟨brings_heads ?_, ?_⟩, ⟨brings_heads ?_, ?_⟩, ?_, ?_⟩
  · intro opc h
    simp only [List.mem_cons, List.not_mem_nil, or_false] at h
    rcases h with rfl | rfl | rfl <;> exact ⟨brings_heads (by decide +kernel), by decide +kernel⟩
  any_goals decide +kernel
  · intro opc h
    simp only [List.mem_cons, List.not_mem_nil, or_false] at h
    rcases h with rfl | rfl <;> exact ⟨brings_heads (by decide +kernel), by decide +kernel⟩
  · unfold online; decide +kernel

/-- Element 23 of tile 3, an ME: an MMA of 8 × 16 sums of 8-bit integers whose seven first flits of A, and B's, have come, and a drain of such sums. -/
def chunked : State := fabric 23 1 (2 * 2 ^ 29 + 7 * 2 ^ 25 + 2 ^ 21 + 2 ^ 7) (fun e => { e with
  ops := [(0, { cnt := 7, bufA := (List.range 8).map (fun n => 0xFFFF * 2 ^ 128 + 0xFF02 * 2 ^ (8 * n)), bufB := (List.range 16).map (fun n => 0xFFFE * 2 ^ 128 + 0x8001 * 2 ^ (3 * n)) })],
  held := [(0, 4294967295), (17, 5)] })
def drained : State := fabric 23 1 (2 * 2 ^ 29 + 2 * 2 ^ 19 + 2 ^ 7) (fun e => { e with held := [(0, 4294967295), (17, 5)] })

theorem wit_matrix_sums : ((slot0 chunked 23).kind = 1 ∧ (slot0 chunked 23).opc = 0 ∧ (slot0 chunked 23).meInt = true ∧ (slot0 chunked 23).meMx = false
      ∧ (slot0 chunked 23).meSpar = 0 ∧ (slot0 chunked 23).meFmt = 7 ∧ (chunked.work.op (slot0 chunked 23)).queue = []
      ∧ (chunked.work.op (slot0 chunked 23)).cnt % 8 = 7
      ∧ (chunked.work.op (slot0 chunked 23)).bufA.length = ((chunked.work.op (slot0 chunked 23)).cnt % 16 + 1) * ((slot0 chunked 23).meM / 8)
      ∧ (chunked.work.op (slot0 chunked 23)).bufB.length = ((chunked.work.op (slot0 chunked 23)).cnt % 16 + 1) * ((slot0 chunked 23).meN / 8))
    ∧ ((slot0 drained 23).kind = 1 ∧ (slot0 drained 23).opc = 2 ∧ (drained.work.op (slot0 drained 23)).queue = []
      ∧ (drained.work.elem (slot0 drained 23).tile (slot0 drained 23).elem).settled ≤ drained.now) := by
  decide +kernel

/-- Element 31 of tile 3, an MB slot of operation `opc` and type `typ`, its index on N, its values on E, that holds a group of one position. -/
def offsetFlit (off : Nat) : Flit := { kind := 2, tag := 0, mask := 1, payload := off }
def banking (opc typ off : Nat) : State :=
  fabric 31 2 (opc * 2 ^ 27 + typ * 2 ^ 24 + 1 * 2 ^ 18 + 2 ^ 15) (fun e => { e with
    ops := [(0, { taking := some (offsetFlit off), bufA := [2 ^ 128 + 0x80000001] })] })

theorem wit_banks : (∀ opc < 8, ∀ typ ∈ [4, 5], ∀ off ∈ [0x40, 0x44, 0x17FC7C, 0x42, 0x80, 0x180040], (banking opc typ off).canonical
      ∧ (slot0 (banking opc typ off) 31).kind = 2 ∧ (slot0 (banking opc typ off) 31).opc = opc ∧ (slot0 (banking opc typ off) 31).mbType = typ
      ∧ (slot0 (banking opc typ off) 31).sels = [0, 1, 7]
      ∧ (banking opc typ off).work.op (slot0 (banking opc typ off) 31) = { taking := some (offsetFlit off), bufA := [2 ^ 128 + 0x80000001] }
      ∧ (offsetFlit off).payload < 2 ^ 32 ∧ (slot0 (banking opc typ off) 31).arcPred = 0
      ∧ (banking opc typ off).work.regionOf 3 = some (pairRegion 0) ∧ ((banking opc typ off).work.tile 3).region = some 7
      ∧ mapFind 7 (banking opc typ off).core.regions = some (pairRegion 0)
      ∧ (banking opc typ off).core.claims = [] ∧ (banking opc typ off).core.poison = [] ∧ (banking opc typ off).core.watched = [])
    ∧ (pairRegion 0).mode.toNat % 2 = 0 ∧ (pairRegion 0).errq.length < 8
    ∧ ((0x17FC7C : Nat) < 0x180000 ∧ 0x17FC7C / 64 % 16 = (slot0 (banking 0 4 0x17FC7C) 31).elem / 16 ∧ 0x17FC7C % 4 = 0)
    ∧ (0x42 : Nat) % 4 ≠ 0 ∧ 0x80 / 64 % 16 ≠ (slot0 (banking 0 4 0x80) 31).elem / 16 ∧ 0x180000 ≤ (0x180040 : Nat) := by
  refine ⟨fun opc ho => ?_, ?_⟩
  · interval_cases opc
    all_goals (unfold State.canonical; decide +kernel)
  · decide +kernel

/-- Element 24 of tile 3, a UE of operation `opc` and argument `arg` whose operands come on N and E. -/
def utility (opc arg : Nat) (x : SlotOp) (f g : Flit) : State :=
  fabric 24 4 (opc * 2 ^ 27 + arg * 2 ^ 16 + 0 * 2 ^ 13 + 1 * 2 ^ 10 + 2 ^ 7) (fun e => { e with ops := if x = {} then [] else [(0, x)], ins := [(0, [f]), (1, [g])] })

/-- Four values, the third of them 0, and a value of one lane. -/
abbrev fourValues : Flit := { kind := 2, tag := 0, mask := 0xB, payload := 7 * 2 ^ 96 + 9 * 2 ^ 32 + 0 }
abbrev oneValue : Flit := { kind := 2, tag := 0, mask := 0x20, payload := 3 * 2 ^ 40 }
abbrev lastColophon : Flit := { kind := 3, tag := 0, mask := 1, payload := 2 ^ 30 }

def idle (s : State) (S : Slot) : Bool :=
  S.kind == 4 && decide ((s.work.op S).queue = []) && decide ((s.work.op S).discard = []) && !(s.work.op S).abandoned

theorem wit_utilities : (∀ inv ∈ [0, 4], (idle (utility 1 (2 + inv) {} fourValues fourValues) (slot0 (utility 1 (2 + inv) {} fourValues fourValues) 24)
      ∧ (slot0 (utility 1 (2 + inv) {} fourValues fourValues) 24).opc = 1 ∧ (slot0 (utility 1 (2 + inv) {} fourValues fourValues) 24).ueWidth 0 = 32
      ∧ (slot0 (utility 1 (2 + inv) {} fourValues fourValues) 24).sels = [0, 1]
      ∧ (utility 1 (2 + inv) {} fourValues fourValues).work.headAt (slot0 (utility 1 (2 + inv) {} fourValues fourValues) 24) 0 = some fourValues
      ∧ (utility 1 (2 + inv) {} fourValues fourValues).work.headAt (slot0 (utility 1 (2 + inv) {} fourValues fourValues) 24) 1 = some fourValues
      ∧ fourValues.mask < 16))
    ∧ (∀ n ∈ [0, 5, 6], idle (utility 6 5 { busy := true, issued := n } fourValues fourValues) (slot0 (utility 6 5 { busy := true, issued := n } fourValues fourValues) 24)
      ∧ (slot0 (utility 6 5 { busy := true, issued := n } fourValues fourValues) 24).opc = 6
      ∧ (slot0 (utility 6 5 { busy := true, issued := n } fourValues fourValues) 24).arg = 5
      ∧ (utility 6 5 { busy := true, issued := n } fourValues fourValues).work.allDead (slot0 (utility 6 5 { busy := true, issued := n } fourValues fourValues) 24) = false)
    ∧ (idle (utility 5 3 { cnt := 3 } oneValue fourValues) (slot0 (utility 5 3 { cnt := 3 } oneValue fourValues) 24)
      ∧ (slot0 (utility 5 3 { cnt := 3 } oneValue fourValues) 24).opc = 5 ∧ (slot0 (utility 5 3 { cnt := 3 } oneValue fourValues) 24).arg = 3
      ∧ (slot0 (utility 5 3 { cnt := 3 } oneValue fourValues) 24).sels = [0, 1] ∧ oneValue.mask = 2 ^ 5
      ∧ (utility 5 3 { cnt := 3 } oneValue fourValues).work.headAt (slot0 (utility 5 3 { cnt := 3 } oneValue fourValues) 24) 0 = some oneValue)
    ∧ (∀ opc ∈ [4, 9], idle (utility opc 0 {} fourValues fourValues) (slot0 (utility opc 0 {} fourValues fourValues) 24)
      ∧ (slot0 (utility opc 0 {} fourValues fourValues) 24).opc = opc ∧ (slot0 (utility opc 0 {} fourValues fourValues) 24).sels = [0, 1]
      ∧ ((utility opc 0 {} fourValues fourValues).work.op (slot0 (utility opc 0 {} fourValues fourValues) 24)).done = false
      ∧ (utility opc 0 {} fourValues fourValues).work.headAt (slot0 (utility opc 0 {} fourValues fourValues) 24) 0 = some fourValues)
    ∧ ((utility 9 0 {} lastColophon fourValues).work.headAt (slot0 (utility 9 0 {} lastColophon fourValues) 24) 0 = some lastColophon
      ∧ lastColophon.flags.2.2 = false) := by
  decide +kernel

/-! ### Queues of the host, replays, nodes, placement -/

/-- The port is open, ASID 5 maps the first 2^40 bytes of segment 3 onto memory, and words are set. -/
def opened (f : Core → Core) (mem : List (Nat × Word × Bool)) : State :=
  withCore (withWords { State.reset with now := 50000 }
    ([(0x100030, 0x110001, false), (0x110000, 0x120001, false), (0x120000, 3555, false)] ++ mem))
    (fun c => f { c with mgmt := { c.mgmt with stage := 3 }, asids := [(5, { root := some 0x100000 })] })

theorem core_of_words (ws : List (Nat × Word × Bool)) : ∀ w : Work, w.core.watched = [] →
    (ws.foldl (fun w x => (w.putWord x.1 x.2.1).setBit (x.1 / 8) x.2.2) w).core = w.core := by
  induction ws with
  | nil => intro w _; rfl
  | cons x rest ih =>
    intro w hw
    have h : ((w.putWord x.1 x.2.1).setBit (x.1 / 8) x.2.2).core = w.core := by
      have hp : (w.putWord x.1 x.2.1).core = w.core := rfl
      unfold Work.setBit
      split
      · exact hp
      · simp [hp, hw]
    exact (ih _ (h ▸ hw)).trans h

theorem opened_claims (f : Core → Core) (mem : List (Nat × Word × Bool)) (hf : ∀ c, (f c).claims = c.claims) : (opened f mem).core.claims = [] :=
  (hf _).trans (congrArg Core.claims (core_of_words _ _ rfl))

/-- The last host queue: a ring of 16 entries at 0x10000, home die 1, priority 2, ASID 5, segment 3; its entry 17 is to be taken. -/
abbrev hostQueue : HostQueue := { base := 0x10000, ctl := BitVec.ofNat 64 (2 ^ 63 + 3 * 2 ^ 48 + 2 ^ 36 + 2 * 2 ^ 34 + 5), tail := 18, head := 17 }

/-- The sequencer's words of an entry, from 0x10040 on. -/
def submitted (w0 : Word) : State :=
  opened (fun c => { c with hostq := [(16383, hostQueue)] }) [(0x10040, w0, false), (0x10048, 0x40, false), (0x10050, 0x30, false), (0x10058, 0, false)]

theorem wit_queue_registers : (∀ ctl ∈ [hostQueue.ctl, 5], (16383 < 16384)
      ∧ (opened (fun c => { c with hostq := [(16383, { hostQueue with ctl := ctl })] }) []).core.mgmt.stage = 3
      ∧ mapGet {} 16383 (opened (fun c => { c with hostq := [(16383, { hostQueue with ctl := ctl })] }) []).core.hostq = { hostQueue with ctl := ctl })
    ∧ hostQueue.ctl.getLsbD 63 = true ∧ (5 : Word).getLsbD 63 = false := by
  refine ⟨fun ctl _ => ⟨by decide, rfl, rfl⟩, by decide, by decide⟩

theorem wit_submissions : (∀ v ∈ [(1 : Word), 2], headEntry (submitted v) 1 16383 hostQueue [v, 0x40, 0x30, 0, 0, 0, 0, 0])
    ∧ entrySound [1, 0x40, 0x30, 0, 0, 0, 0, 0] ∧ fieldOf (wordAt [1, 0x40, 0x30, 0, 0, 0, 0, 0] 0) 16 16 = 0 ∧ (submitted 1).core.replays = []
    ∧ fieldOf (wordAt [2, 0x40, 0x30, 0, 0, 0, 0, 0] 0) 0 4 ≠ 1 ∧ wordAt [2, 0x40, 0x30, 0, 0, 0, 0, 0] 3 = 0 := by
  have h : ∀ v ∈ [(1 : Word), 2], (List.range 8).map (fun j => (submitted v).work.word (fieldOf hostQueue.base 0 52 + 64 * (hostQueue.head.toNat % ringSize hostQueue) + 8 * j))
      = [v, 0x40, 0x30, 0, 0, 0, 0, 0] := by
    intro v h
    simp only [List.mem_cons, List.not_mem_nil, or_false] at h
    rcases h with rfl | rfl <;> decide +kernel
  refine ⟨fun v hv => ⟨rfl, opened_claims _ _ (fun _ => rfl), rfl, by decide, by decide +kernel, by decide, by decide +kernel, rfl, fun j u hj => ?_⟩,
    ⟨_, _, _, _, rfl, by decide +kernel⟩, by decide +kernel, by decide +kernel, by decide +kernel, by decide +kernel⟩
  have hl : j < 8 := by
    have := List.getElem?_eq_some_iff.mp hj
    exact this.1
  rw [← h v hv] at hj
  simp only [List.getElem?_map, List.getElem?_range hl, Option.map_some, Option.some.injEq] at hj
  exact hj

/-- Queue access's party, a replay of die 1 and one of its nodes, in segment 3. -/
abbrev asid5 : Who := ⟨5, false, [], [], none⟩
abbrev seg3 : Nat := 3 * 2 ^ 64
abbrev replay1 : Replay := { graph := seg3 + 0x2040, asid := 5, vah := 3, die := 1, prio := 2, comp := 0, patches := [], live := true, graphid := 7 }
abbrev node1 (ws : List Word) (st : Stage) : Node := { replay := 4, addr := seg3 + 0x2400, words := ws, prio := 1, prio0 := 1, order := 0, stage := st }
def withNode (x : Node) (mem : List (Nat × Word × Bool)) : State := opened (fun c => { c with replays := [(4, replay1)], nodes := [x] }) mem

theorem lone_with (x : Node) (mem : List (Nat × Word × Bool)) (h : x.replay = 4 ∧ x.addr = seg3 + 0x2400) : lone (withNode x mem) 4 (seg3 + 0x2400) x replay1 :=
  ⟨rfl, opened_claims _ _ (fun _ => rfl), h.1, h.2, rfl⟩

/-- A graph descriptor at 0x2040 that lists two nodes at 0x2100. -/
def graphed : State :=
  opened (fun c => { c with replays := [(4, { replay1 with live := false })] })
    [(0x2040, 7, false), (0x2048, 0x2100, false), (0x2050, 1, false), (0x2058, 0x3000, false), (0x2100, 0x2400, false), (0x2108, 0x2440, false)]

theorem wit_replays : (∃ w w', graphed.core.mgmt.stage = 3 ∧ graphed.core.claims = [] ∧ graphed.core.replays = [(4, { replay1 with live := false })]
      ∧ graphed.work.readWords asid5 8 replay1.graph = (w, .ok [7, 0x2100, 1, 0x3000, 0, 0, 0, 0])
      ∧ fieldOf (wordAt [7, 0x2100, 1, 0x3000, 0, 0, 0, 0] 0) 32 32 = 0 ∧ fieldOf (wordAt [7, 0x2100, 1, 0x3000, 0, 0, 0, 0] 2) 16 48 = 0
      ∧ w.readWords asid5 (fieldOf (wordAt [7, 0x2100, 1, 0x3000, 0, 0, 0, 0] 2) 0 16 + 1) (3 * 2 ^ 64 + (0x2100 : Word).toNat) = (w', .ok [0x2400, 0x2440])
      ∧ (0x2400 : Word).toNat % 64 = 0 ∧ (0x2440 : Word).toNat % 64 = 0)
    ∧ (∃ s : State, s.core.claims = [] ∧ s.core.replays = [(4, replay1)] ∧ replay1.live = true ∧ replay1.failed = none ∧ replay1.ending = 0 ∧ replay1.comp = 0 ∧ s.core.nodes = []
      ∧ s.core.comps = []) := by
  refine ⟨⟨_, _, ?_, ?_, ?_, pair_of ?_, ?_, ?_, pair_of ?_, by decide, by decide⟩, opened (fun c => { c with replays := [(4, replay1)] }) [], ?_, ?_, rfl, rfl, rfl, rfl, ?_, ?_⟩
  all_goals decide +kernel

theorem wit_nodes_finish : (∃ w, lone (withNode (node1 [4, 0, 0, 0, 0, 0, 0, 0] (.ends (.done 5))) []) 4 (seg3 + 0x2400) (node1 [4, 0, 0, 0, 0, 0, 0, 0] (.ends (.done 5))) replay1
      ∧ Work.nodeKind (node1 [4, 0, 0, 0, 0, 0, 0, 0] (.ends (.done 5))) ≠ 2 ∧ fieldOf (wordAt [4, 0, 0, 0, 0, 0, 0, 0] 2) 0 16 = 0
      ∧ (withNode (node1 [4, 0, 0, 0, 0, 0, 0, 0] (.ends (.done 5))) []).core.engines = []
      ∧ (withNode (node1 [4, 0, 0, 0, 0, 0, 0, 0] (.ends (.done 5))) []).core.comps = []
      ∧ (withNode (node1 [4, 0, 0, 0, 0, 0, 0, 0] (.ends (.done 5))) []).core.tokens = []
      ∧ ({ (withNode (node1 [4, 0, 0, 0, 0, 0, 0, 0] (.ends (.done 5))) []).work with
            core := { (withNode (node1 [4, 0, 0, 0, 0, 0, 0, 0] (.ends (.done 5))) []).core with nodes := [] } } : Work).translate asid5 .descStore 8
          (seg3 + 0x2400 + 56) = (w, .ok 0x2438 none))
    ∧ lone (withNode (node1 [4, 0, 0, 0, 0, 0, 0, 0] (.ends (.error 0x13 9))) []) 4 (seg3 + 0x2400) (node1 [4, 0, 0, 0, 0, 0, 0, 0] (.ends (.error 0x13 9))) replay1
      ∧ fieldOf (wordAt [4, 0, 0, 0, 0, 0, 0, 0] 2) 16 16 = 0 := by
  refine ⟨⟨_, lone_with _ _ ⟨rfl, rfl⟩, ?_, ?_, rfl, rfl, rfl, pair_of ?_⟩, lone_with _ _ ⟨rfl, rfl⟩, ?_⟩
  all_goals decide +kernel

abbrev taskWords : List Word := [0x10, 0, 0, 0, 0x5000, 0, 0, 0]
abbrev condWords : List Word := [2, 0, 0, 0x5000, 0, 3 * 2 ^ 16, 0, 0]
abbrev loopWords : List Word := [3, 0, 0, 0x5000, 0x6000, 1, 9, 0]

theorem seq_reaches_of {w0 : Work} {r : Replay} {form : AccForm} {a : Word} {pa : Nat} {u : Option Bool}
    (h : (w0.translate ⟨r.asid, false, [], [], none⟩ form 8 (r.vah * 2 ^ 64 + a.toNat)).2 = .ok pa u
      ∧ (w0.translate ⟨r.asid, false, [], [], none⟩ form 8 (r.vah * 2 ^ 64 + a.toNat)).1.poisonOf pa = none) :
    seqReaches w0 r form a (w0.translate ⟨r.asid, false, [], [], none⟩ form 8 (r.vah * 2 ^ 64 + a.toNat)).1 pa u := ⟨pair_of h.1, h.2⟩

theorem wit_sequencer : (∀ v ∈ [(65535 : Word), 65536], ∃ w, lone (withNode (node1 taskWords (.reads 100)) [(0x5000, v, true)]) 4 (seg3 + 0x2400) (node1 taskWords (.reads 100)) replay1
      ∧ seqReaches (withNode (node1 taskWords (.reads 100)) [(0x5000, v, true)]).work replay1 .waitLoad (wordAt taskWords 4) w 0x5000 none
      ∧ w.isFull (0x5000 / 8) = true ∧ w.word 0x5000 = v ∧ Work.nodeKind (node1 taskWords (.reads 100)) = 0 ∧ (wordAt taskWords 0).getLsbD 5 = false)
    ∧ (∀ full ∈ [true, false], ∃ w, lone (withNode (node1 condWords (.reads 49872)) [(0x5000, 9, full)]) 4 (seg3 + 0x2400) (node1 condWords (.reads 49872)) replay1
      ∧ seqReaches (withNode (node1 condWords (.reads 49872)) [(0x5000, 9, full)]).work replay1 .waitLoad (wordAt condWords 3) w 0x5000 none
      ∧ w.isFull (0x5000 / 8) = full ∧ Work.nodeKind (node1 condWords (.reads 49872)) = 2
      ∧ 49872 + 16 * 2 ^ fieldOf (wordAt condWords 5) 16 5 ≤ (withNode (node1 condWords (.reads 49872)) [(0x5000, 9, full)]).now)
    ∧ (∃ w, lone (withNode (node1 loopWords (.reads 49872)) [(0x5000, 0, true)]) 4 (seg3 + 0x2400) (node1 loopWords (.reads 49872)) replay1
      ∧ seqReaches (withNode (node1 loopWords (.reads 49872)) [(0x5000, 0, true)]).work replay1 .waitLoad (wordAt loopWords 3) w 0x5000 none
      ∧ w.isFull (0x5000 / 8) = true ∧ w.word 0x5000 = 0 ∧ Work.nodeKind (node1 loopWords (.reads 49872)) = 3)
    ∧ (lone (withNode (node1 loopWords (.body 4)) [(0x6000, 0x2440, false)]) 4 (seg3 + 0x2400) (node1 loopWords (.body 4)) replay1
      ∧ seg3 + 0x2400 ∉ (withNode (node1 loopWords (.body 4)) [(0x6000, 0x2440, false)]).work.listOf replay1 (wordAt loopWords 4).toNat (fieldOf (wordAt loopWords 5) 0 16)) := by
  refine ⟨?_, ?_, ⟨_, lone_with _ _ ⟨rfl, rfl⟩, seq_reaches_of ?_, ?_, ?_, ?_⟩, lone_with _ _ ⟨rfl, rfl⟩, ?_⟩
  · intro v h
    refine ⟨_, lone_with _ _ ⟨rfl, rfl⟩, seq_reaches_of (u := none) ?_, ?_, ?_, ?_, ?_⟩
    all_goals (simp only [List.mem_cons, List.not_mem_nil, or_false] at h; rcases h with rfl | rfl <;> decide +kernel)
  · intro full _
    refine ⟨_, lone_with _ _ ⟨rfl, rfl⟩, seq_reaches_of (u := none) ?_, ?_, ?_, ?_⟩
    all_goals (revert full; decide +kernel)
  all_goals decide +kernel

/-- Region 7's one task is the node at 0x2400; it has halted, or decides between its catchword and its run. -/
abbrev placed (p : Progress) (cw : Option CwRun) : Region := { pairRegion 2 with node := some (4, seg3 + 0x2400), arms := 9, kettle := 4, progress := p, cw := cw }
def holding (x : Node) (g : Region) : State :=
  (withNode x []).lift (fun w => (((w.setTile 3 { w.tile 3 with region := some 7 }).setTile 2 { w.tile 2 with region := some 7 }).setRegion 7 g).setCtx 3 0
    { w.ctx 3 0 with status := .halted })

theorem wit_tasks : (∃ (s : State) (m : StepMsg), s.core.nodes = [] ∧ s.core.claims = [] ∧ m.link ≤ 11 ∧ (mapGet {} m.link s.core.links).down = false)
    ∧ (lone (holding (node1 [0, 0, 0, 0, 0, 0, 0, 0] .running) (placed .running none)) 4 (seg3 + 0x2400) (node1 [0, 0, 0, 0, 0, 0, 0, 0] .running) replay1
      ∧ (holding (node1 [0, 0, 0, 0, 0, 0, 0, 0] .running) (placed .running none)).core.regions = [(7, placed .running none)]
      ∧ (placed .running none).live.head? = some 3
      ∧ (∀ u ∈ (placed .running none).live, (∀ c, c < 4 → ((holding (node1 [0, 0, 0, 0, 0, 0, 0, 0] .running) (placed .running none)).work.ctx u c).status = .halted
          ∨ ((holding (node1 [0, 0, 0, 0, 0, 0, 0, 0] .running) (placed .running none)).work.ctx u c).status = .idle)
        ∧ ((holding (node1 [0, 0, 0, 0, 0, 0, 0, 0] .running) (placed .running none)).work.tile u).wq = []
        ∧ ((holding (node1 [0, 0, 0, 0, 0, 0, 0, 0] .running) (placed .running none)).work.tile u).wide.run = none)
      ∧ ((holding (node1 [0, 0, 0, 0, 0, 0, 0, 0] .running) (placed .running none)).work.ctx 3 0).status = .halted
      ∧ (placed .running none).armedSince = false ∧ (placed .running none).sinks = [] ∧ (placed .running none).errq = [])
    ∧ (lone (holding (node1 [0x80, 0, 0, 0, 0, 0, 0, 0] .running) (placed .probing (some ⟨2, [], false, 0⟩))) 4 (seg3 + 0x2400) (node1 [0x80, 0, 0, 0, 0, 0, 0, 0] .running) replay1
      ∧ (holding (node1 [0x80, 0, 0, 0, 0, 0, 0, 0] .running) (placed .probing (some ⟨2, [], false, 0⟩))).core.regions = [(7, placed .probing (some ⟨2, [], false, 0⟩))]
      ∧ (placed .probing (some ⟨2, [], false, 0⟩)).sinks = [] ∧ (placed .probing (some ⟨2, [], false, 0⟩)).stats = 0) := by
  unfold lone
  refine ⟨⟨State.reset, ⟨11, 0, 0, 0⟩, rfl, rfl, by decide, rfl⟩, ?_, ?_⟩
  all_goals decide +kernel

/-- A ready task of one tile whose image lies at 0x200000; tile 8 is the lowest of die 1. -/
abbrev taskRecord : List Word := [0x200000, 0x123450, 0x20000000, 11, 12, 13, 14, 15, 0, 0, 0, 0, 0, 0, 0, 0]
abbrev readyNode : Node := { node1 [0, 0, 0, 0, 0, 0, 0, 0] .ready with trec := taskRecord, prio := 3 }
def placing : State :=
  { withCore (withNode readyNode []) (fun c => { c with imageKeys := [imageKey] }) with
    mem := [(0x100030, 1), (0x100032, 17), (0x110000, 1), (0x110002, 18), (0x120000, 227), (0x120001, 13)] ++ imageCells 0x200000, full := [] }
abbrev placedRegion : Region := placing.work.regionFor ⟨readyNode, 1, 0, 0⟩

/-- The Collator's answer for the placed task's image. -/
abbrev placingWork : Work := placing.work.takeTiles placing.core.nextRegion placedRegion
abbrev staging : Work × Except (Nat × Nat) (List (Nat × Plane) × Bool × Nat) := placingWork.stageImage replay1 placedRegion taskRecord

/-- The page-table entries on the way of `seg3 + 0x200000` (05 R109). -/
theorem placing_entries : (placingWork.asidInfo 5).root = some 0x100000 ∧ placingWork.pte 0x100030 = 0x110001 ∧ placingWork.pte 0x110000 = 0x120001
    ∧ placingWork.pte 0x120000 = 3555 ∧ placingWork.core.poison = [] := by decide +kernel

theorem placing_readable : readable placingWork (replayWho replay1) (seg3 + 0x200000) 0x200000 582 := by
  obtain ⟨hr, h0, h1, h2, hp⟩ := placing_entries
  refine ⟨by decide, by decide, fun k hk => ⟨?_, ?_⟩⟩
  · generalize placingWork = w at *
    have l0 : Work.levelIndex (seg3 + 0x200000 + 8 * k) 0 = 3 := by show (3 * 2 ^ 64 + 0x200000 + 8 * k) / 2 ^ 64 % 2 ^ 8 = 3; omega
    have l1 : Work.levelIndex (seg3 + 0x200000 + 8 * k) 1 = 0 := by show (3 * 2 ^ 64 + 0x200000 + 8 * k) / 2 ^ 52 % 2 ^ 12 = 0; omega
    have l2 : Work.levelIndex (seg3 + 0x200000 + 8 * k) 2 = 0 := by show (3 * 2 ^ 64 + 0x200000 + 8 * k) / 2 ^ 40 % 2 ^ 12 = 0; omega
    have hw : w.walk (seg3 + 0x200000 + 8 * k) 5 0 0x100000 = .ok (0x120000, 3555, 2) := by
      unfold Work.walk
      simp only [l0, show 0x100000 + 3 * 16 = 0x100030 from rfl, h0]
      unfold Work.walk
      simp only [l1, show bits 0x110001 16 36 * 2 ^ 16 + 0 * 16 = 0x110000 from rfl, h1]
      unfold Work.walk
      simp only [l2, show bits 0x120001 16 36 * 2 ^ 16 + 0 * 16 = 0x120000 from rfl, h2]
      rfl
    have hf : w.findEntry (replayWho replay1) (seg3 + 0x200000 + 8 * k) = (w, .ok ⟨5, bit 3555 9, (seg3 + 0x200000 + 8 * k) / 2 ^ 40 * 2 ^ 40, 40, 0, 3555, 0x120000⟩) := by
      unfold Work.findEntry replayWho
      simp only [hr, hw]
      rfl
    have top : bits (seg3 + 0x200000 + 8 * k) 64 8 = 3 := l0
    have pa : (seg3 + 0x200000 + 8 * k) % 2 ^ 40 = 0x200000 + 8 * k := by show (3 * 2 ^ 64 + 0x200000 + 8 * k) % 2 ^ 40 = _; omega
    have hc : classify (0 + (0x200000 + 8 * k)) = .hbm := by unfold classify; rw [if_pos (by omega)]
    unfold Work.translate
    simp only [top]
    rw [if_neg (by decide), if_neg (by decide)]
    simp only [hf, Work.throughEntry, Work.entryGives, Work.physOk, pa, hc, Work.touch]
    simp only [show (Region88.hbm == Region88.firmware) = false from rfl, Bool.and_false, Bool.false_eq_true, if_false, Nat.zero_add]
    rfl
  · unfold Work.poisonOf; rw [hp]; rfl

theorem placing_holds : holdsImage placingWork 0x200000 := by
  have hl : ∀ a, a < 0x1000000000000 → placingWork.byte a = memGet placing.mem a := by
    intro a ha
    have h : placingWork.log = [.bits (stashBase 8 / 8) 196608 false, .zero (stashBase 8) (8 * 196608)] := by rfl
    show Work.byteFrom placing.mem a placingWork.log = _
    rw [h]
    unfold stashBase
    simp only [Work.byteFrom]
    rw [if_neg (by simp; omega)]
  intro i hi
  rw [hl _ (by omega)]
  show memGet (_ :: _ :: _ :: _ :: _ :: _ :: imageCells 0x200000) (0x200000 + i) = _
  simp only [memGet, beq_iff_eq]
  repeat rw [if_neg (by omega)]
  exact cells_from 0x200000 i _

theorem image_fetched : placingWork.readImage (replayWho replay1) (replay1.va (Work.nth taskRecord 0)) = (placingWork, .ok emptyImage) := by
  rw [show replay1.va (Work.nth taskRecord 0) = seg3 + 0x200000 by decide]
  exact reads_image placing_readable placing_holds

theorem stages {w : Work} {r : Replay} {g : Region} {trec : List Word} {b : List Nat} {m : Image} {cs : List Cmd} {p : List (Nat × Plane) × Bool}
    (hr : w.readImage (replayWho r) (r.va (Work.nth trec 0)) = (w, .ok b)) (hk : parseImage w.core.imageKeys b = some m)
    (hs : m.stream g = .ok cs) (hc : w.collate g.live m.stashres (fun _ => []) cs = .ok p) :
    w.stageImage r g trec = (w, .ok (p.1, p.2, m.stashres)) := by
  unfold Work.stageImage
  simp only [hr, hk, hs, hc]

theorem placing_keys : placingWork.core.imageKeys = [imageKey] := by decide +kernel

def accepted : Bool :=
  match emptyParsed.stream placedRegion with
  | .error _ => false
  | .ok cs => match placingWork.collate placedRegion.live emptyParsed.stashres (fun _ => []) cs with
    | .error _ => false
    | .ok _ => true

theorem staged : ∃ w p, staging = (w, .ok p) := by
  have h : accepted = true := by decide +kernel
  unfold accepted at h
  split at h
  · contradiction
  · split at h
    · contradiction
    · exact ⟨_, _, stages image_fetched (placing_keys ▸ image_parsed) (by assumption) (by assumption)⟩

theorem wit_placing : lone placing 4 (seg3 + 0x2400) readyNode replay1 ∧ placing.core.mgmt.stage = 3 ∧ replay1.die = 1 ∧ Work.nodeKind readyNode = 0
    ∧ fieldOf (wordAt readyNode.words 2) 16 16 = 0 ∧ fieldOf (wordAt taskRecord 2) 10 1 = 0 ∧ fieldOf (wordAt taskRecord 2) 31 1 = 0
    ∧ fieldOf (wordAt taskRecord 8) 32 4 = 0 ∧ readyNode.prio < 4 ∧ readyNode.held = [] ∧ wordAt taskRecord 9 = 0 ∧ placing.work.fits [] readyNode 1 0 0 = true
    ∧ (∀ i, i < 8 → ∀ j, j < 5 → placing.work.fits [] readyNode 1 i j = true → Work.leadOf readyNode 1 0 0 ≤ Work.leadOf readyNode 1 i j)
    ∧ placedRegion.live.head? = some 8
    ∧ ∃ w p, staging = (w, .ok p) := by
  refine ⟨⟨?_, ?_, rfl, rfl, ?_⟩, ?_, rfl, ?_, ?_, ?_, ?_, ?_, by decide, rfl, rfl, ?_, ?_, ?_, staged⟩
  all_goals decide +kernel

/-! ### Faults, the host, power and links -/

abbrev runNode : Node := node1 [0, 0, 0, 0, 0, 0, 0, 0] .running

/-- Only its own tasks' contexts can have a block in flight, and none of these has one. -/
theorem map_get_mem {β : Type} (d : β) (k : Nat) : ∀ m : List (Nat × β), mapGet d k m = d ∨ ∃ x ∈ m, mapGet d k m = x.2
  | [] => .inl rfl
  | (j, v) :: m => by
    unfold mapGet
    split
    · exact .inr ⟨_, List.mem_cons_self, rfl⟩
    · obtain h | ⟨x, hx, h⟩ := map_get_mem d k m
      · exact .inl h
      · exact .inr ⟨x, List.mem_cons_of_mem _ hx, h⟩

theorem none_late {s : State} (h : ∀ t ∈ s.core.tiles, ∀ c ∈ t.2.ctxs, c.2.block = none) : noneLate s := by
  intro t c b hb
  unfold Work.ctx at hb
  obtain ht | ⟨x, hx, ht⟩ := map_get_mem ({} : Tile) t s.core.tiles
  · rw [show s.work.tile t = {} from ht] at hb; cases hb
  · rw [show s.work.tile t = x.2 from ht] at hb
    obtain hc | ⟨y, hy, hc⟩ := map_get_mem ({} : Ctx) c x.2.ctxs
    · rw [hc] at hb; cases hb
    · rw [hc, h x hx y hy] at hb; cases hb

theorem wit_preemption : (preemptible (holding runNode (placed .running none)) 7 (placed .running none) runNode)
    ∧ (aloneTask (holding runNode (placed .halting none)) 7 (placed .halting none) runNode ∧ areaFits (placed .halting none) 0x7880000000
      ∧ (∀ t ∈ (placed .halting none).live, ((holding runNode (placed .halting none)).work.tile t).wq = [])
      ∧ (holding runNode (placed .halting none)).core.elems = [] ∧ (holding runNode (placed .halting none)).core.kills = []
      ∧ (holding runNode (placed .halting none)).core.tokens = [] ∧ (holding runNode (placed .halting none)).core.poison = []
      ∧ (holding runNode (placed .halting none)).core.saved = [] ∧ (holding runNode (placed .halting none)).core.claims = []) := by
  unfold preemptible aloneTask areaFits
  decide +kernel

theorem wit_containment : aloneTask (holding runNode (placed .running none)) 7 (placed .running none) runNode ∧ 2 ∈ (placed .running none).live
    ∧ (placed .running none).mode.getLsbD 1 = true ∧ ownClaims (holding runNode (placed .running none)) (placed .running none)
    ∧ noneLate (holding runNode (placed .running none)) := by
  refine ⟨?_, ?_, ?_, ?_, none_late ?_⟩
  · unfold aloneTask; decide +kernel
  · decide
  · decide
  · unfold ownClaims; decide +kernel
  · decide +kernel

/-- Element 255 of tile 3, as reports and tests name it (21 R408). -/
abbrev unit3 : Nat × Nat := (5, 3 * 256 + 255)

theorem wit_faults : (unit3 ∉ State.reset.core.reports ∧ unit3 ∉ State.reset.core.tests)
    ∧ mapFind (6400 / 64) State.reset.core.poison = none
    ∧ (unit3 ∈ (withCore State.reset (fun c => { c with reports := [unit3, (1, 2)] })).core.reports ∧ State.reset.core.regions = [])
    ∧ (unit3 ∈ (withCore State.reset (fun c => { c with tests := [unit3, (1, 2)] })).core.tests ∧ State.reset.core.saved = [] ∧ State.reset.clusters = []
      ∧ (State.reset.work.tile 3).region = none)
    ∧ (mapGet {} 11 State.reset.core.links = {} ∧ ({} : Link).down = false ∧ State.reset.core.elems = []) := by
  decide +kernel

theorem wit_tiles_and_translations : atRest (withCore State.reset (fun c => { c with tiles := [(3, { tlb := [⟨5, false, 65536, 16, 0, 0, 0⟩] })] }))
    ∧ ((∀ g ∈ (holding runNode (placed .running none)).core.regions, g.2.asid ≠ 6) ∧ (holding runNode (placed .running none)).core.saved = []
      ∧ noneLate (holding runNode (placed .running none)) ∧ (holding runNode (placed .running none)).core.claims = []) := by
  refine ⟨?_, ?_, ?_, none_late ?_, ?_⟩
  · unfold atRest; decide +kernel
  all_goals decide +kernel

/-- The host port is open, and M_PWIN selects the last window that may be reached. -/
def hosted : State := withCore State.reset (fun c => { c with mgmt := { c.mgmt with stage := 3, pwin := 0xEFFF } })
abbrev lastWord : Nat := 0xEFFF * 0x800000 + 0x7FFFF8

theorem wit_host_memory : State.reset.canonical ∧ ¬hostOpen State.reset ∧ 0x77FFFFFFF9 < 2 ^ 39 ∧ 0x7800000000 < 0x77FFFFFFF9 + 8
    ∧ (hosted.canonical ∧ hostOpen hosted ∧ hosted.core.claims = [] ∧ hosted.core.poison = [] ∧ hosted.core.watched = [] ∧ 0x77FFFFFFF8 + 8 ≤ 0x7800000000)
    ∧ 0xF000 ≤ (withCore State.reset (fun c => { c with mgmt := { c.mgmt with pwin := 0xF000 } })).core.mgmt.pwin.toNat
    ∧ window hosted 0x7FFFF8 lastWord := by
  unfold window hostOpen State.canonical
  decide +kernel

theorem wit_presence_aperture : (∀ full ∈ [true, false], (withWords hosted [(lastWord, 5, full)]).canonical ∧ window (withWords hosted [(lastWord, 5, full)]) 0x7FFFF8 lastWord
      ∧ (withWords hosted [(lastWord, 5, full)]).readFull (lastWord / 8) = full)
    ∧ (∃ (s : State) (h : HostOp), s.core.hostOps = [h] ∧ h.since + 16 * 2 ^ s.core.mgmt.hwlim ≤ s.now) := by
  refine ⟨?_, { withCore hosted (fun c => { c with hostOps := [⟨0x7FFFF8, lastWord, 1, false, 0, 0⟩] }) with now := 16777216 }, ⟨0x7FFFF8, lastWord, 1, false, 0, 0⟩, ?_, ?_⟩
  all_goals first | decide +kernel | (unfold window hostOpen State.canonical; decide +kernel)

/-- The host's argument register holds `a`, and a task is placed. -/
def argued (s : State) (a : Nat) : State := withCore s (fun c => { c with mgmt := { c.mgmt with stage := 3, arg := BitVec.ofNat 64 a } })

theorem wit_commands_run : (commandable (argued State.reset 0x9F) 0x9F ∧ 0x9F % 256 < 160 ∧ (argued State.reset 0x9F).core.regions = [])
    ∧ (commandable (argued State.reset 0xA0) 0xA0 ∧ 160 ≤ 0xA0 % 256)
    ∧ (commandable (argued (holding runNode (placed .running none)) 0x2400) 0x2400 ∧ runNode.addr % 2 ^ 64 = 0x2400
      ∧ preemptible (argued (holding runNode (placed .running none)) 0x2400) 7 (placed .running none) runNode)
    ∧ (commandable (argued (holding runNode (placed .mismatch none)) 0x2040) 0x2040
      ∧ aloneTask (argued (holding runNode (placed .mismatch none)) 0x2040) 7 (placed .mismatch none) runNode
      ∧ ownClaims (argued (holding runNode (placed .mismatch none)) 0x2040) (placed .mismatch none)
      ∧ mapFind 4 (argued (holding runNode (placed .mismatch none)) 0x2040).core.replays = some replay1 ∧ replay1.graph % 2 ^ 64 = 0x2040)
    ∧ (∀ leaf ∈ [2 ^ 20 - 1, 2 ^ 20], ∃ s : State, commandable s 0x3FEFFFFFFF7C8 ∧ s.canonical ∧ 0x3FEFFFFFFF7C8 % 8 = 0 ∧ 0x3FEFFFFFFF7C8 + 2100 ≤ 0x3FF0000000000
      ∧ s.core.mgmt.leaf = leaf ∧ s.core.watched = [] ∧ s.core.claims = []) := by
  refine ⟨?_, ?_, ⟨?_, ?_, ?_⟩, ?_, fun leaf _ => ⟨withCore (argued State.reset 0x3FEFFFFFFF7C8) (fun c => { c with mgmt := { c.mgmt with leaf := leaf } }),
    ?_, ?_, by decide, by decide, rfl, rfl, rfl⟩⟩
  · unfold commandable hostOpen; decide +kernel
  · unfold commandable hostOpen; decide +kernel
  · unfold commandable hostOpen; decide +kernel
  · decide +kernel
  · unfold preemptible aloneTask; decide +kernel
  · unfold commandable hostOpen aloneTask ownClaims; decide +kernel
  · exact ⟨rfl, rfl, rfl, rfl⟩
  · exact ⟨rfl, rfl⟩

/-- Firmware that verifies under `imageKey`. -/
abbrev goodFirmware : Firmware := ⟨emptyBody, emptyBlock⟩

theorem good_verdict (w : Work) (h : w.core.fusedVersion = 0) : w.verdict [imageKey] goodFirmware = 0 := by
  unfold Work.verdict
  simp only [List.any_cons, List.any_nil, test_dual_signature, h]
  rfl

theorem image_parts : (List.range 88).map (fun i => (memGet (imageCells 0) i).toNat) = emptyBody
    ∧ (List.range 4564).map (fun i => (memGet (imageCells 0) (88 + i)).toNat) = emptyBlock := by
  have h := image_bytes
  rw [show 4652 = 88 + 4564 from rfl, List.range_add, List.map_append, List.map_map] at h
  have e : emptyImage = emptyBody ++ emptyBlock := rfl
  rw [e] at h
  exact List.append_inj h (by rw [List.length_map, List.length_range]; decide +kernel)

/-- The host's memory holds an image at `o`: its firmware is `goodFirmware`. -/
theorem fetches_image {w : Work} {o : Nat} (h : holdsImage w (0x4000000000000 + o)) : w.hostFirmware o 88 = goodFirmware := by
  have hn : w.load (0x4000000000000 + o + 88 + 4) 4 = 4460 := by
    have b (i : Nat) (hi : i < 4652) : w.byte (0x4000000000000 + o + i) = memGet (imageCells 0) i := h i hi
    simp only [Work.load, Nat.add_assoc, Nat.reduceAdd] at b ⊢
    rw [b 92 (by decide), b 93 (by decide), b 94 (by decide), b 95 (by decide)]
    decide +kernel
  unfold Work.hostFirmware
  simp only [hn, bytes_of_load]
  refine congrArg₂ Firmware.mk ?_ ?_
  · rw [← image_parts.1]
    exact List.map_congr_left fun i hi => by rw [h i (by have := List.mem_range.mp hi; omega)]
  · rw [← image_parts.2]
    exact List.map_congr_left fun i hi => by rw [Nat.add_assoc, h (88 + i) (by have := List.mem_range.mp hi; omega)]

/-- The host has put an image at offset 0x1000, of 88 bytes before its signature block, and `keys` sign engine firmware. -/
def recovering (stage : Nat) (keys : List SigKey) : State :=
  { withCore State.reset (fun c => { c with mgmt := { c.mgmt with stage := stage, arg := 0x1000 }, firmKeys := keys }) with mem := imageCells 0x4000000001000 }

theorem recovers (stage : Nat) (keys : List SigKey) : (recovering stage keys).work.hostFirmware (recovering stage keys).core.mgmt.arg.toNat 88 = goodFirmware :=
  fetches_image fun i _ => cells_from 0x4000000001000 i _

theorem wit_commands_complete : (∃ s : State, s.core.mgmt.answer = some (true, 6, 7))
    ∧ (hostOpen hosted ∧ hosted.core.mgmt.stage < 16 ∧ hosted.core.mgmt.fail < 16)
    ∧ (∃ s : State, hostOpen s ∧ 2047 < 2048 ∧ mapGet {} 2047 s.core.msix = ⟨8, 9, true, true⟩)
    ∧ (∃ s : State, s.core.mgmt.stage = 15 ∧ s.core.posted = [] ∧ s.core.mgmt.busy = false ∧ s.core.mgmt.arg.toNat + 88 + 9428 ≤ 0x3FF0000000000
      ∧ 0x3FF0000000000 < s.core.mgmt.arg.toNat + 0x3FF0000000000 + 9428)
    ∧ (∃ s : State, hostOpen s ∧ s.core.posted = [] ∧ s.core.mgmt.busy = true)
    ∧ (∀ stage ∈ [15, 3], (recovering stage []).work.verdict (recovering stage []).core.firmKeys ((recovering stage []).work.hostFirmware (recovering stage []).core.mgmt.arg.toNat 88) = 1
      ∧ (recovering stage []).core.mgmt.stage = stage ∧ (recovering stage []).core.posted = [] ∧ (recovering stage []).core.mgmt.busy = false
      ∧ (recovering stage [imageKey]).work.verdict (recovering stage [imageKey]).core.firmKeys
          ((recovering stage [imageKey]).work.hostFirmware (recovering stage [imageKey]).core.mgmt.arg.toNat 88) = 0
      ∧ (recovering stage [imageKey]).core.mgmt.stage = stage) :=
  ⟨⟨withCore State.reset (fun c => { c with mgmt := { c.mgmt with answer := some (true, 6, 7) } }), rfl⟩, ⟨rfl, by decide, by decide⟩,
   ⟨withCore hosted (fun c => { c with msix := [(2047, ⟨8, 9, true, true⟩)] }), rfl, by decide, rfl⟩,
   ⟨withCore State.reset (fun c => { c with mgmt := { c.mgmt with stage := 15 } }), rfl, rfl, rfl, by decide, by decide⟩,
   ⟨withCore State.reset (fun c => { c with mgmt := { c.mgmt with stage := 3, busy := true } }), rfl, rfl, rfl⟩,
   fun stage _ => ⟨rfl, rfl, rfl, rfl, (recovers stage [imageKey]).symm ▸ good_verdict _ rfl, rfl⟩⟩

theorem wit_register_writes : hostOpen hosted ∧ (2047 < 2048) ∧ (0x4009000 % 8 = 0 ∧ 0x4009000 < 0x6000000) ∧ State.reset.core.mgmt.stage < 3
    ∧ (∀ a ∈ [0x10, 0x20], ∃ s : State, s.core.posted = [(a, 5, 13)]) :=
  ⟨rfl, by decide, by decide, by decide, fun a _ => ⟨withCore State.reset (fun c => { c with posted := [(a, 5, 13)] }), rfl⟩⟩

/-- Before step `stage` of the boot ends, with keys and firmware. -/
def booting (stage : Nat) (on : Bool) (root : Option SigKey) (keys : List SigKey) : State :=
  withCore State.reset (fun c => { c with
    mgmt := { c.mgmt with stage := stage, msixOn := on }, rootKey := root, firmKeys := keys, bootFirm := goodFirmware, engineFirm := goodFirmware })

theorem wit_boot : State.reset.canonical ∧ State.reset.core.mgmt.stage < 3 ∧ hostOpen hosted
    ∧ (∀ n ∈ [0, 1, 2], (booting n true (some imageKey) [imageKey]).canonical ∧ (booting n true (some imageKey) [imageKey]).core.mgmt.stage = n
      ∧ (booting n true (some imageKey) [imageKey]).work.verdict (booting n true (some imageKey) [imageKey]).core.rootKey.toList
          (booting n true (some imageKey) [imageKey]).core.bootFirm = 0
      ∧ (booting n true (some imageKey) [imageKey]).work.verdict (booting n true (some imageKey) [imageKey]).core.firmKeys
          (booting n true (some imageKey) [imageKey]).core.engineFirm = 0)
    ∧ (∀ on ∈ [true, false], (booting 0 on none []).work.verdict (booting 0 on none []).core.rootKey.toList (booting 0 on none []).core.bootFirm = 1
      ∧ (booting 1 on none []).work.verdict (booting 1 on none []).core.firmKeys (booting 1 on none []).core.engineFirm = 1
      ∧ (booting 0 on none []).core.mgmt.stage = 0 ∧ (booting 1 on none []).core.mgmt.stage = 1 ∧ (booting 0 on none []).core.mgmt.msixOn = on)
    ∧ (∀ k ∈ ([] : List SigKey), dualOk k emptyBody emptyBlock = false) ∧ (∃ k ∈ [imageKey], dualOk k emptyBody emptyBlock = true) :=
  ⟨⟨rfl, rfl⟩, by decide, rfl, fun n _ => ⟨⟨rfl, rfl⟩, rfl, good_verdict _ rfl, good_verdict _ rfl⟩,
   fun on _ => ⟨rfl, rfl, rfl, rfl, rfl⟩, by nofun, ⟨imageKey, List.mem_cons_self, test_dual_signature⟩⟩

theorem wit_links : mapGet {} 11 State.reset.core.links = {} ∧ ({} : Link).down = false ∧ (mapGet [] 63 ({} : Link).rx).length < 64 := by decide

/-- A store of `v` to register `i` of cluster 19, whose registers are `x`, stands first. -/
def posting (i : Nat) (v : Word) (x : Cluster) : State :=
  { withCore State.reset (fun c => { c with posted := [(0x10000 + 19 / 5 * 0x400 + 19 % 5 * 0x40 + 8 * i, v, 13)] }) with clusters := [(19, x)] }

theorem cluster_store (i : Nat) (v : Word) (x : Cluster) : clusterStore (posting i v x) 19 i v x := ⟨by decide, rfl, 13, rfl⟩

theorem wit_cluster_registers : (∀ gated ∈ [true, false], clusterStore (posting 0 1 { gated := gated }) 19 0 1 { gated := gated } ∧ (1 : Word).getLsbD 0 = true
      ∧ clusterStore (posting 0 1 { req := true, gated := gated }) 19 0 1 { req := true, gated := gated }
      ∧ clusterStore (posting 0 0 { req := true, gated := gated }) 19 0 0 { req := true, gated := gated }
      ∧ clusterStore (posting 5 2 { gated := gated }) 19 5 2 { gated := gated } ∧ (2 : Word).toNat % 4 ≠ 3 ∧ ({ gated := gated } : Cluster).on = 3
      ∧ clusterStore (posting 5 2 { on := 0, gated := true }) 19 5 2 { on := 0, gated := true } ∧ (2 : Word).toNat % 4 ≠ 0
      ∧ clusterStore (posting 7 1 { gated := gated }) 19 7 1 { gated := gated })
    ∧ (∀ done ∈ [true, false], clusterStore (posting 4 1 { done := done }) 19 4 1 { done := done } ∧ ({ done := done } : Cluster).gate = false)
    ∧ (∀ ack ∈ [true, false], clusterStore (posting 2 0x780000001 { ack := ack }) 19 2 0x780000001 { ack := ack } ∧ (0x780000001 : Word).getLsbD 0 = true)
    ∧ (clusterStore (posting 4 0 { gate := true }) 19 4 0 { gate := true } ∧ (0 : Word).getLsbD 0 = false)
    ∧ (clusterStore (posting 5 7 {}) 19 5 7 {} ∧ (7 : Word).toNat % 4 = 3)
    ∧ (clusterStore (posting 1 4 { seqerr := true }) 19 1 4 { seqerr := true } ∧ (4 : Word).getLsbD 2 = true) :=
  ⟨fun _ _ => ⟨cluster_store .., by decide, cluster_store .., cluster_store .., cluster_store .., by decide, rfl, cluster_store .., by decide, cluster_store ..⟩,
   fun _ _ => ⟨cluster_store .., rfl⟩, fun _ _ => ⟨cluster_store .., by decide⟩, ⟨cluster_store .., by decide⟩, ⟨cluster_store .., by decide⟩, cluster_store .., by decide⟩

/-- The registers of cluster 19 are `x`. -/
def clustered (x : Cluster) : State := { State.reset with clusters := [(19, x)] }

theorem wit_cluster_sequence : (mapGet {} 19 (clustered { req := true }).clusters = { req := true } ∧ (∀ t, inCluster 19 t → ((clustered { req := true }).work.tile t).region = none)
      ∧ (clustered { req := true }).core.reports = [] ∧ (clustered { req := true }).core.tests = [] ∧ (clustered { req := true }).core.tokens = []
      ∧ (clustered { req := true }).core.kills = [])
    ∧ ((clustered { ack := true, saving := true, addr := 0x7A0000 - 1 }).canonical ∧ 0x7800000000 ≤ 0x79FFFF * 0x10000 ∧ 0x79FFFF * 0x10000 + 0x8000 ≤ 0x7A00000000
      ∧ mapGet {} 19 (clustered { ack := true, saving := true, addr := 0x79FFFF }).clusters = { ack := true, saving := true, addr := 0x79FFFF })
    ∧ mapGet {} 19 (clustered { on := 0 }).clusters = { on := 0 }
    ∧ (∃ s : State, mapGet {} 19 s.clusters = { waking := true, gated := true, saved := [(159, 35)] } ∧ s.core.lateFences = [] ∧ inCluster 19 159
      ∧ (s.work.tile 159).stopped = some 40 ∧ mapGet 40 159 [(159, 35)] = 35 ∧ 35 ≤ s.now) :=
  ⟨⟨rfl, fun _ _ => rfl, rfl, rfl, rfl, rfl⟩, ⟨⟨rfl, rfl⟩, by decide, by decide, rfl⟩, rfl,
   { withCore (clustered { waking := true, gated := true, saved := [(159, 35)] }) (fun c => { c with tiles := [(159, { stopped := some 40 })] }) with now := 50 }, rfl, rfl,
   ⟨by decide, by decide, by decide⟩, rfl, rfl, by decide⟩

/-! ### Steps and special registers -/

/-- The schedule names the firing of an ADD, or an event. -/
def scheduled (a : Act) : State :=
  { withOne { oneBlock (operands 3 5 0) with words := [0, 0x02000380, 0] } with sched := [⟨2, a⟩] }

theorem wit_steps : ((scheduled (.fire 3 1 1)).sched = ⟨2, .fire 3 1 1⟩ :: [] ∧ ((scheduled (.fire 3 1 1)).work.ctx 3 1).block = some { oneBlock (operands 3 5 0) with words := [0, 0x02000380, 0] }
      ∧ decode 0x02000380 = some (.add 0 1 0x180))
    ∧ ((scheduled (.event (.blockEnd 3 1))).sched = ⟨2, .event (.blockEnd 3 1)⟩ :: [] ∧ (Instr.blockEnd 3 1).isEncoded = false) := by
  decide +kernel

theorem wit_special_writes : ∀ id ∈ [0x002, 0x008, 0x803, 0x806, 0x004], ∃ (s : State) (b : Block) (x : ExitFired) (v : Word), flying s 3 1 b ∧ mayCommit b x ∧ b.mems = []
    ∧ b.effs = [(0, .mts id v)] ∧ 0 < b.words.length ∧ s.core.marks = [] ∧ b.writes = [] ∧ b.flags = 0 ∧ x.kind = .branch := by
  intro id h
  refine ⟨withOne { ended with writes := [], held := [], flags := 0, exits := [⟨1, .branch, 0x80⟩], effs := [(0, .mts id 5)] },
    { ended with writes := [], held := [], flags := 0, exits := [⟨1, .branch, 0x80⟩], effs := [(0, .mts id 5)] }, ⟨1, .branch, 0x80⟩, 5, ?_⟩
  simp only [List.mem_cons, List.not_mem_nil, or_false] at h
  rcases h with rfl | rfl | rfl | rfl | rfl <;> (unfold flying mayCommit atEnd; decide +kernel)

/-- A block's parts: entries, words, and what its header holds beside the counts. -/
def partsOf (h : Nat) (reads writes : List Nat) (ws : List IWord) : Parts :=
  { h0 := 0xB0000000 + (ws.length - 1) * 2 ^ 21 + reads.length + h, h1 := writes.length, reads := reads, writes := writes, words := ws }

/-- The premises on a block that R139, R152 and R153 refuse for its privileges alone. -/
def soundBut (p : Parts) : Prop :=
  p.sized = true ∧ p.h0 / 2 ^ 9 % 2 ^ 4 = 0 ∧ p.h1 / 2 ^ 6 % 2 ^ 26 = 0 ∧ (∀ e ∈ p.writes, e / 2 ^ 7 % 2 = 0)
    ∧ (p.words.all (fun w => !wordIllegal w && !wordReserved w)) = true ∧ (∀ e ∈ p.reads, targetClass (p.words.filterMap decode) p.nw (e % 512) ≠ 5)

/-- NULL without a target, and MTS of identifier 0x800. -/
abbrev nullWord : IWord := 0x3A03FFFF
abbrev mtsWord : IWord := 0xB21001FF

theorem wit_firmware_blocks : (soundBut (partsOf 256 [] [] [nullWord]) ∧ (partsOf 256 [] [] [nullWord]).fw = true)
    ∧ (soundBut (partsOf 0 [112 * 512 + 0x1FF] [] [nullWord]) ∧ (partsOf 0 [112 * 512 + 0x1FF] [] [nullWord]).fw = false ∧ 112 ≤ (112 * 512 + 0x1FF) / 512)
    ∧ (soundBut (partsOf 0 [] [112] [nullWord]) ∧ (partsOf 0 [] [112] [nullWord]).fw = false)
    ∧ (soundBut (partsOf 0 [] [] [nullWord, mtsWord]) ∧ (partsOf 0 [] [] [nullWord, mtsWord]).fw = false ∧ decode mtsWord = some (.mts 0 0x800)
      ∧ decode nullWord = some (.null 0 0x1FF 0x1FF) ∧ firmwareOnly (.null 0 0x1FF 0x1FF) = false) := by
  unfold soundBut
  decide +kernel

/-! ### Well-formedness refuses what R142 and R146 to R153 refuse -/

theorem test_ill_formed_predicate : (Instr.add 1 0x1FF 0x1FF).wellFormed = false := by decide
theorem test_ill_formed_target : (Instr.add 0 0x1FF 0x1A0).wellFormed = false ∧ (Instr.add 0 0x1A0 0x1FF).wellFormed = false
    ∧ (Instr.add 0 0x1FE 0x1FF).wellFormed = false ∧ (Instr.add 0 0x1FF 0x19F).wellFormed = true := by decide
theorem test_ill_formed_span : (Instr.ext 0 63 1 0x1FF).wellFormed = false ∧ (Instr.exts 0 1 63 0x1FF).wellFormed = false
    ∧ (Instr.ins 0 32 32 0x1FF).wellFormed = false ∧ (Instr.ins 0 31 32 0x1FF).wellFormed = true := by decide
theorem test_ill_formed_aop : (Instr.amo 0 0 12 0 0x1FF).wellFormed = false ∧ (Instr.red 0 0 8 0).wellFormed = false
    ∧ (Instr.red 0 0 12 1).wellFormed = false ∧ (Instr.amo 0 0 8 0 0x1FF).wellFormed = true := by decide
theorem test_ill_formed_scope : (Instr.fence 0 0).wellFormed = false ∧ (Instr.fence 0 6).wellFormed = false ∧ (Instr.fence 0 7).wellFormed = false := by decide
theorem test_ill_formed_wide : (Instr.wredD 0 0 0 3 0).wellFormed = false ∧ (Instr.wcvtD 0 0 0 31 0).wellFormed = false := by decide
theorem test_ill_formed_register : (Instr.mfs 0 0x00F 0x1FF).wellFormed = false ∧ (Instr.mts 0 0x807).wellFormed = false
    ∧ (Instr.mfs 0 0x7FF 0x1FF).wellFormed = false := by decide
theorem test_ill_formed_places : (Instr.blockFetch 164 0).wellFormed = false ∧ (Instr.blockFetch 0 4).wellFormed = false
    ∧ (Instr.elementFire 0 256 []).wellFormed = false ∧ (Instr.clQreqSet 20).wellFormed = false := by decide

/-! ### Words written out from the formats of R145 and the codes of R148 -/

/-- G and EG: op, pr, xop, T1, T0; I: op, pr, imm14, T0; L: op, pr, lsid, imm9, T0; S: op, pr, lsid, imm18; B: op, pr, exit, offset20; C: op,
imm16, T0; EW: op, pr, wop, wd, wa, wb, km; EX: op, pr, xop, xd, xs, wa, wb, ksel. -/
def word (v : Nat) : IWord := BitVec.ofNat 32 v
def g (op pr xop t1 t0 : Nat) : IWord := word (op * 2 ^ 25 + pr * 2 ^ 23 + xop * 2 ^ 18 + t1 * 2 ^ 9 + t0)
def fi (op pr imm t0 : Nat) : IWord := word (op * 2 ^ 25 + pr * 2 ^ 23 + imm * 2 ^ 9 + t0)
def fl (op pr lsid imm t0 : Nat) : IWord := word (op * 2 ^ 25 + pr * 2 ^ 23 + lsid * 2 ^ 18 + imm * 2 ^ 9 + t0)
def fs (op pr lsid imm : Nat) : IWord := word (op * 2 ^ 25 + pr * 2 ^ 23 + lsid * 2 ^ 18 + imm)
def fb (op pr exit off : Nat) : IWord := word (op * 2 ^ 25 + pr * 2 ^ 23 + exit * 2 ^ 20 + off)
def ew (op pr wop wd wa wb km : Nat) : IWord := word (op * 2 ^ 25 + pr * 2 ^ 23 + wop * 2 ^ 18 + wd * 2 ^ 13 + wa * 2 ^ 8 + wb * 2 ^ 3 + km)
def ex (op pr xop xd xs wa wb ksel : Nat) : IWord :=
  word (op * 2 ^ 25 + pr * 2 ^ 23 + xop * 2 ^ 18 + xd * 2 ^ 16 + xs * 2 ^ 14 + wa * 2 ^ 9 + wb * 2 ^ 4 + ksel * 2)

/-- Each word decodes to the instruction beside it. -/
def reads (xs : List (IWord × Instr)) : Bool := xs.all (fun x => decode x.1 == some x.2)

/-- Constructors in the order of their xop from 0 up, in G form under one op. -/
def inOrder (op : Nat) (cs : List (BitVec 2 → BitVec 9 → BitVec 9 → Instr)) : Bool :=
  reads (cs.zipIdx.map (fun x => (g op 2 x.2 0x1FF 0x081, x.1 2 0x1FF 0x081)))

/-- Constructors in the order of their ops from `op` up, in I form, in L form, in S form. -/
def immediates (op : Nat) (cs : List (BitVec 2 → BitVec 14 → BitVec 9 → Instr)) : Bool :=
  reads (cs.zipIdx.map (fun x => (fi (op + x.2) 3 0x2AB5 0x19F, x.1 3 0x2AB5 0x19F)))
def loads (op : Nat) (cs : List (BitVec 2 → BitVec 5 → BitVec 9 → BitVec 9 → Instr)) : Bool :=
  reads (cs.zipIdx.map (fun x => (fl (op + x.2) 2 0x15 0x12D 0x0FE, x.1 2 0x15 0x12D 0x0FE)))
def stores (op : Nat) (cs : List (BitVec 2 → BitVec 5 → BitVec 18 → Instr)) : Bool :=
  reads (cs.zipIdx.map (fun x => (fs (op + x.2) 3 0x0A 0x25A5A, x.1 3 0x0A 0x25A5A)))

theorem test_decode_arithmetic : inOrder 0x01 [.add, .sub, .and, .or, .xor, .andn, .orn, .xnor, .shl, .shr, .sar, .rol, .ror, .min, .max, .minu, .maxu, .addw, .subw]
    && inOrder 0x02 [.mul, .mulh, .mulhu, .mulhsu, .div, .divu, .rem, .remu, .mulw, .divw, .divuw, .remw, .remuw]
    && inOrder 0x03 [.clz, .ctz, .popc, .brev, .bswap, .sextb, .sexth, .sextw, .zextb, .zexth, .zextw] = true := by decide +kernel
theorem test_decode_immediates : immediates 0x04 [.addi, .andi, .ori, .xori]
    && reads [(fi 0x08 0 63 0x180, .shli 0 63 0x180), (fi 0x09 0 1 0x180, .shri 0 1 0x180), (fi 0x0A 0 32 0x180, .sari 0 32 0x180)] && immediates 0x0B [.muli]
    && reads [(fi 0x0C 0 (5 + 9 * 64) 0x001, .ext 0 9 5 0x001), (fi 0x0D 2 (63 * 64) 0x001, .exts 2 63 0 0x001), (fi 0x0E 0 63 0x001, .ins 0 0 63 0x001)]
    && inOrder 0x0F [.lea1, .lea2, .lea4, .lea8, .lea16] = true := by decide +kernel
theorem test_decode_compares : inOrder 0x10 [.teq, .tne, .tlt, .tle, .tgt, .tge, .tltu, .tleu, .tgtu, .tgeu, .tbs, .tbc]
    && immediates 0x11 [.teqi, .tnei, .tlti, .tlei, .tgti, .tgei, .tltui, .tgeui] = true := by decide +kernel
theorem test_decode_moves : reads [(word (0x19 * 2 ^ 25 + 0x8001 * 2 ^ 9 + 0x183), .genc 0x8001 0x183), (word (0x1A * 2 ^ 25 + 0x7FFE * 2 ^ 9 + 0x003), .appc 0x7FFE 0x003)]
    && inOrder 0x1B [.mov] && immediates 0x1C [.movi] && inOrder 0x1D [.null] = true := by decide +kernel
theorem test_decode_exits : reads [(fb 0x20 2 7 0x80001, .br 2 7 0x80001), (fb 0x21 3 1 2, .call 3 1 2), (g 0x23 0 7 0x1FF 0x1FF, .bri 0 7),
    (g 0x24 2 1 0x1FF 0x1FF, .calli 2 1), (g 0x25 3 0 0x1FF 0x1FF, .ret 3 0)] && immediates 0x22 [.badr] = true := by decide +kernel
theorem test_decode_float : reads [(g 0x28 0 1 0x1FF 0x081, .faddD 0 1 0x1FF 0x081), (g 0x28 2 (4 + 2) 0x1FF 0x081, .fsubD 2 2 0x1FF 0x081),
    (g 0x28 0 (8 + 3) 0x1FF 0x081, .fmulD 0 3 0x1FF 0x081), (g 0x28 0 12 0x1FF 0x081, .fdivD 0 0 0x1FF 0x081), (g 0x28 0 (16 + 1) 0x1FF 0x081, .fsqrtD 0 1 0x1FF 0x081),
    (g 0x28 0 20 0x1FF 0x081, .fmaD 0 0x1FF 0x081), (g 0x28 0 (24 + 1) 0x1FF 0x081, .fmsD 1 0x1FF 0x081), (g 0x28 0 (28 + 3) 0x1FF 0x081, .fnmaD 3 0x1FF 0x081)]
    && reads [(g 0x29 0 1 0x1FF 0x081, .faddS 0 1 0x1FF 0x081), (g 0x29 2 (4 + 2) 0x1FF 0x081, .fsubS 2 2 0x1FF 0x081),
    (g 0x29 0 (8 + 3) 0x1FF 0x081, .fmulS 0 3 0x1FF 0x081), (g 0x29 0 12 0x1FF 0x081, .fdivS 0 0 0x1FF 0x081), (g 0x29 0 (16 + 1) 0x1FF 0x081, .fsqrtS 0 1 0x1FF 0x081),
    (g 0x29 0 20 0x1FF 0x081, .fmaS 0 0x1FF 0x081), (g 0x29 0 (24 + 1) 0x1FF 0x081, .fmsS 1 0x1FF 0x081), (g 0x29 0 (28 + 3) 0x1FF 0x081, .fnmaS 3 0x1FF 0x081)]
    = true := by decide +kernel
theorem test_decode_float_selects : reads [(g 0x2A 0 16 0x1FF 0x001, .fmin 0 1 0x1FF 0x001), (g 0x2A 0 1 0x1FF 0x001, .fmax 0 0 0x1FF 0x001), (g 0x2A 0 18 0x1FF 0x001, .fneg 0 1 0x1FF 0x001),
    (g 0x2A 0 3 0x1FF 0x001, .fabs 0 0 0x1FF 0x001), (g 0x2A 0 20 0x1FF 0x001, .fcpys 0 1 0x1FF 0x001), (g 0x2A 0 5 0x1FF 0x001, .fclass 0 0 0x1FF 0x001),
    (g 0x2B 0 16 0x1FF 0x001, .fteq 0 1 0x1FF 0x001), (g 0x2B 0 1 0x1FF 0x001, .ftlt 0 0 0x1FF 0x001), (g 0x2B 3 2 0x1FF 0x08D, .ftle 3 0 0x1FF 0x08D),
    (g 0x2B 0 19 0x1FF 0x001, .ftun 0 1 0x1FF 0x001)]
    && reads [(g 0x2C 0 0 0x1FF 0x001, .fcvtDS 0 0x1FF 0x001), (g 0x2C 0 (4 + 1) 0x1FF 0x001, .fcvtSD 0 1 0x1FF 0x001), (g 0x2C 0 (8 + 2) 0x1FF 0x001, .fcvtDI 0 2 0x1FF 0x001),
    (g 0x2C 0 (12 + 3) 0x1FF 0x001, .fcvtDN 0 3 0x1FF 0x001), (g 0x2C 0 16 0x1FF 0x001, .fcvtID 0 0 0x1FF 0x001), (g 0x2C 0 (20 + 1) 0x1FF 0x001, .fcvtND 0 1 0x1FF 0x001),
    (g 0x2C 0 (24 + 2) 0x1FF 0x001, .fcvtSI 0 2 0x1FF 0x001), (g 0x2C 0 (28 + 3) 0x1FF 0x001, .fcvtIS 0 3 0x1FF 0x001)] = true := by decide +kernel
theorem test_decode_memory : loads 0x30 [.ld1, .ld1s, .ld2, .ld2s, .ld4, .ld4s, .ld8, .tstfe, .ldw1, .ldw2, .ldw4, .ldw8, .ldc1, .ldc2, .ldc4, .ldc8]
    && stores 0x40 [.st1, .st2, .st4, .st8, .stf1, .stf2, .stf4, .stf8, .ste1, .ste2, .ste4, .ste8]
    && reads [(fl 0x4C 3 7 (11 * 16 + 8) 0x180, .amo 3 7 11 1 0x180), (fl 0x4D 0 31 8 0x180, .cas 31 1 0x180), (fs 0x4E 2 0 (9 * 2 ^ 13), .red 2 0 9 0),
      (word 0x86000000, .st8 0 0 0)] = true := by decide +kernel
theorem test_decode_queues : reads [(g 0x4F 0 5 0x1FF 0x1FF, .fence 0 5), (g 0x50 0 31 0x1FF 0x1FF, .qpush 0 31), (g 0x51 2 1 0x081 0x001, .qpop 2 1 0x081 0x001),
    (g 0x52 0 0 0x081 0x001, .qpeek 0 0x081 0x001), (g 0x53 0 0 0x1FF 0x001, .qstat 0 0x1FF 0x001), (g 0x54 0 0 0x1FF 0x001, .qcfg 0 0x1FF 0x001),
    (g 0x55 0 12 0x1FF 0x180, .cqpop 0 12 0x1FF 0x180), (g 0x56 3 31 0x1FF 0x1FF, .cqpush 3 31)] = true := by decide +kernel
theorem test_decode_system : reads [(fi 0x57 0 (32 + 31) 0x001, .wait 0 1 31 0x001), (fi 0x58 0 0x805 0x001, .mfs 0 0x805 0x001), (fi 0x59 2 0x00E 0x1FF, .mts 2 0x00E),
    (fi 0x5A 3 0x31 0x1FF, .trap 3 0x31), (g 0x5B 0 0 0x1FF 0x1FF, .eret 0), (g 0x5C 0 0 0x1FF 0x1FF, .halt 0), (fi 0x5D 0 0x10 0x1FF, .pause 0 0x10 0x1FF),
    (g 0x5E 0 0 0x1FF 0x001, .rseed 0 0x1FF 0x001), (g 0x5F 0 0 0x1FF 0x001, .rnext 0 0x1FF 0x001), (g 0x60 0 0 0x1FF 0x001, .spawnc 0 0x1FF 0x001)] = true := by decide +kernel
theorem test_decode_region : reads [(g 0x61 0 0 0x1FF 0x1FF, .cfgld 0 0x1FF 0x1FF), (g 0x62 0 0 0x1FF 0x001, .cfgstrm 0 0x1FF 0x001), (g 0x63 0 0 0x1FF 0x001, .cfgsw 0 0x1FF 0x001),
    (g 0x64 0 0 0x1FF 0x083, .cfgabort 0 0x1FF 0x083), (g 0x65 0 0 0x1FF 0x001, .arm 0 0x1FF 0x001), (g 0x66 0 0 0x1FF 0x001, .drain 0 0x1FF 0x001),
    (g 0x67 2 0 0x1FF 0x1FF, .inject 2), (g 0x68 0 0 0x1FF 0x086, .sinkrd 0 0x1FF 0x086), (g 0x69 0 9 0x1FF 0x001, .kwait 0 9 0x1FF 0x001)] = true := by decide +kernel
theorem test_decode_engines : reads [(g 0x6A 0 3 0x1FF 0x1FF, .cpy 0 3), (g 0x6B 0 0 0x1FF 0x1FF, .cpyfeOut 0), (g 0x6B 0 1 0x1FF 0x1FF, .cpyfeIn 0), (g 0x6C 0 0 0x1FF 0x1FF, .impose 0),
    (g 0x6D 0 0 0x1FF 0x1FF, .imprel 0), (g 0x6E 0 0 0x081 0x001, .allocT 0 0x081 0x001), (g 0x6E 0 1 0x081 0x001, .allocN 0 0x081 0x001), (g 0x6F 0 0 0x1FF 0x1FF, .free 0),
    (g 0x70 0 0 0x1FF 0x1FF, .poolgrow 0), (g 0x71 0 0 0x1FF 0x001, .cwprobe 0 0x1FF 0x001), (g 0x72 0 0 0x1FF 0x1FF, .cwstore 0), (g 0x73 2 0 0x1FF 0x1FF, .cwinv 2),
    (g 0x74 3 0 0x1FF 0x1FF, .dgst 3), (g 0x78 0 0 0x1FF 0x1FF, .wcfg 0), (g 0x79 0 0 0x1FF 0x1FF, .wrun 0)] = true := by decide +kernel
theorem test_decode_lanes : [0x7B, 0x7C].all (fun op => let d := op == 0x7B; reads [(ew op 0 0 31 1 0 7, if d then .wmovD 0 31 1 7 else .wmovS 0 31 1 7),
    (ew op 2 1 3 1 2 0, if d then .waddD 2 3 1 2 0 else .waddS 2 3 1 2 0), (ew op 0 2 3 1 2 0, if d then .wmulD 0 3 1 2 0 else .wmulS 0 3 1 2 0),
    (ew op 0 3 3 1 2 0, if d then .wfmaD 0 3 1 2 0 else .wfmaS 0 3 1 2 0), (ew op 0 4 3 1 2 0, if d then .wminD 0 3 1 2 0 else .wminS 0 3 1 2 0),
    (ew op 0 5 3 1 2 0, if d then .wmaxD 0 3 1 2 0 else .wmaxS 0 3 1 2 0), (ew op 0 6 (1 * 8 + 2) 1 2 0, if d then .wcmpD 0 1 2 1 2 0 else .wcmpS 0 1 2 1 2 0),
    (ew op 0 7 3 1 2 5, if d then .wselD 0 3 1 2 5 else .wselS 0 3 1 2 5), (ew op 0 8 3 1 0 5, if d then .wcvtD 0 3 1 0 5 else .wcvtS 0 3 1 0 5),
    (ew op 0 9 0 7 2 0, if d then .wredD 0 0 7 2 0 else .wredS 0 0 7 2 0), (ew op 0 10 0 7 1 0, if d then .wvarD 0 0 7 1 0 else .wvarS 0 0 7 1 0),
    (ew op 0 11 3 1 2 5, if d then .wshufD 0 3 1 2 5 else .wshufS 0 3 1 2 5)]) = true := by decide +kernel
theorem test_decode_accumulators : reads [(ew 0x7A 0 0 31 0 0 7, .wld 0 31 7), (ew 0x7A 2 1 2 0 0 0, .wst 2 2 0), (ex 0x7D 0 0 1 0 4 5 2, .xacc 0 1 4 5 2), (ex 0x7D 0 1 1 2 0 0 0, .xadd 0 1 2),
    (ex 0x7D 0 2 3 0 0 0 0, .xclr 0 3), (ex 0x7D 0 3 3 1 0 0 0, .xmov 0 3 1), (ex 0x7D 0 3 0 2 0 0 1, .xst 0 2), (ex 0x7D 0 3 3 0 0 0 2, .xld 0 3),
    (g 0x7E 0 2 0x1FF 0x005, .xsgn 0 2 0x1FF 0x005), (g 0x7E 0 31 0x1FF 0x089, .xrnd 0 3 3 0x1FF 0x089)] = true := by decide +kernel

/-- R153: reserved opcodes, unassigned xops, pr 0b01, bits that must be 0, and targets that must be 0x1FF are refused. -/
theorem test_refused_words : [g 0x00 0 0 0x1FF 0x1FF, g 0x7F 0 0 0x1FF 0x1FF, g 0x1E 0 0 0x1FF 0x1FF, g 0x01 0 19 0x1FF 0x1FF, g 0x01 1 0 0x1FF 0x1FF,
    fi 0x08 0 64 0x1FF, g 0x5C 0 0 0x000 0x1FF, g 0x4F 0 8 0x1FF 0x1FF, g 0x2C 0 1 0x1FF 0x001, ew 0x7A 0 0 0 1 0 0, ex 0x7D 0 3 0 0 0 0 3,
    g 0x28 2 20 0x1FF 0x081].all (fun w => wordIllegal w || wordReserved w) = true := by decide +kernel

/-! ### One step on small states -/

/-- What the instruction at 1 of `firing l r p` sends, and the traps it records. -/
def sent (i : Instr) (l r p : Word) : Option (List InFlight) :=
  match exec i (firing l r p) with
  | .next t => t.work.block.map (·.inflight)
  | _ => none
def trapsOf (i : Instr) (l r p : Word) : Option (List Trap) :=
  match exec i (firing l r p) with
  | .next t => t.work.block.map (·.traps)
  | _ => none

theorem test_add_wraps : sent (.add 0 0x001 0x180) 0xFFFFFFFFFFFFFFFF 2 0
    = some [⟨1, 0x180, .val 1, 78⟩, ⟨1, 0x001, .val 1, 78⟩] := by decide +kernel
theorem test_divide_by_zero : sent (.div 0 0x1FF 0x180) 5 0 0 = some [⟨1, 0x180, .val 0xFFFFFFFFFFFFFFFF, 113⟩] := by decide +kernel
theorem test_divide_overflow : sent (.rem 0 0x1FF 0x180) 0x8000000000000000 0xFFFFFFFFFFFFFFFF 0 = some [⟨1, 0x180, .val 0, 113⟩] := by decide +kernel
theorem test_shift_count_wraps : sent (.shl 0 0x1FF 0x180) 1 64 0 = some [⟨1, 0x180, .val 1, 78⟩] := by decide +kernel
theorem test_fadd_rounds_to_even : sent (.faddS 0 0 0x1FF 0x180) 0x4B800000 0x3F800000 0 = some [⟨1, 0x180, .val 0x4B800000, 81⟩] := by decide +kernel
theorem test_misaligned_load_traps : trapsOf (.ld8 0 0 0 0x180) 0x600044 0 0 = some [⟨1, 0x04, 0x60004401⟩] := by decide +kernel
theorem test_misaligned_exit_traps : trapsOf (.bri 0 0) 8 0 0 ≠ some [] := by decide +kernel

/-- Of an outcome, whether it is a next state. -/
def goesOn (o : Host.Outcome State Fault Refusal) : Bool :=
  match o with
  | .next _ => true
  | _ => false

/-- The host's question of a row: the word decodes, and a step from reset runs it first. -/
theorem test_first_instruction_runs : decodeTableWord 32 0x02000380 = some (.add 0 1 0x180)
    ∧ goesOn (step (State.reset.withFetchWord 32 0x02000380)) = true := by decide +kernel

/-- R175, and the block worked out in 08_encoding_notes.md: its seven words are refused for nothing. -/
theorem test_example_block : blockRefusal true { h0 := 0xB0410003, h1 := 1, reads := [0x0600, 0x0A80, 0x0881], writes := [3], words := [0x02000380, 0x86000000, 0x40000002] }
    = none := by decide +kernel

/-- Check values of the three CRCs on the bytes of "123456789" (05 R119: polynomial 0x8BB7; 17 R360; 07 R172), as their polynomials are catalogued. -/
theorem test_crcs : lineCheck [49, 50, 51, 52, 53, 54, 55, 56, 57] = 0xD0DB ∧ crc64 0 [49, 50, 51, 52, 53, 54, 55, 56, 57] = 0x6C40DF5F0B497347
    ∧ crc32c [49, 50, 51, 52, 53, 54, 55, 56, 57] = 0xE3069283 := by decide +kernel

theorem test_reset_canonical : State.reset.canonical := ⟨rfl, rfl⟩

/-- Reading after writing gives what was written, and the byte beside it stays. -/
theorem test_memory_write : ((withWords State.reset [(0x1000, 0x1122334455667788, true)]).readByte 0x1001, (withWords State.reset [(0x1000, 5, true)]).readByte 0x1008,
    (withWords State.reset [(0x1000, 0, true)]).mem) = (0x77, 0, []) := by decide +kernel

end Sys2Proof.Tests
end

section
/-! SUPPORT. What one step does (log 1): it runs what the schedule chose, it always answers a next state, and that state keeps memory
canonical and the clk no earlier. Every act of the policy is a meaning, or a meaning tried more than once. -/

namespace Sys2Proof.Machine

open Sys2Proof Sys2Proof.Claims

/-! ### The choice of a schedule -/

theorem listGet_of_getElem? {α : Type} {d a : α} {xs : List α} {i : Nat} (h : xs[i]? = some a) : listGet d i xs = a := by
  induction xs generalizing i with
  | nil => simp at h
  | cons x xs ih =>
    cases i with
    | zero => simpa [listGet] using h
    | succ i => exact ih (by simpa using h)

/-- An instruction of a block in flight that fires is the meaning of the word at its index, in focus there. -/
theorem fireAt_of_word {s : State} {t c i : Nat} {b : Block} {w : IWord} {ins : Instr} (hb : (s.work.ctx t c).block = some b)
    (hw : b.words[i]? = some w) (hd : decode w = some ins) : fireAt t c i s = exec ins { s with focus := ⟨t, c, i⟩ } := by
  have hi : b.instr i = some ins := by rw [Block.instr, listGet_of_getElem? hw, hd]
  simp only [fireAt, hb, hi]

/-- With a choice of the schedule, a step is what performing the choice answers, at the choice's clk. -/
theorem step_of_choice {s : State} {c : Choice} {cs : List Choice} (h : s.sched = c :: cs) :
    step s = chosen (perform c.act { s with sched := cs, now := s.now + c.dclk }) { s with sched := cs, now := s.now + c.dclk } := by
  simp only [step, h]
  cases perform c.act { s with sched := cs, now := s.now + c.dclk } <;> rfl

/-- Without a choice of the schedule, a step is the policy's. -/
theorem step_of_noChoice {s : State} (h : s.sched = []) : step s = .next (idleStep s) := by
  simp only [step, h]

/-- Settles O4: a step is what performing its choice answers, and performing is `exec` of the instruction or of the event. -/
theorem stepRunsTheChosen : Obligations.StepRunsTheChosen := by
  intro s u c cs hs hu
  have hstep : step s = chosen (perform c.act u) u := hu ▸ step_of_choice hs
  constructor
  · intro t x i b w ins hact hb hw hd
    have hb' : (u.work.ctx t x).block = some b := by rw [hu]; exact hb
    rw [hstep, hact, perform, fireAt_of_word hb' hw hd]
  · intro e hact he
    rw [hstep, hact]
    simp [perform, he]

/-! ### What a step keeps -/

/-- From `s` to `t`, canonical memory stays canonical and the clk does not go back. -/
def Keeps (s t : State) : Prop := (s.canonical → t.canonical) ∧ s.now ≤ t.now

theorem Keeps.refl (s : State) : Keeps s s := ⟨id, Nat.le_refl _⟩

theorem Keeps.trans {s t u : State} (h : Keeps s t) (k : Keeps t u) : Keeps s u := ⟨k.1 ∘ h.1, h.2.trans k.2⟩

/-- Waiting keeps memory as it is. -/
theorem keeps_wait (s : State) (cs : List Choice) (n : Nat) : Keeps s { s with sched := cs, now := s.now + n } :=
  ⟨id, Nat.le_add_right _ _⟩

theorem Moves.keeps {s t : State} (h : Moves s t) : Keeps s t := by
  obtain ⟨log, hmem, hfull, -, hnow, -⟩ := h
  refine ⟨fun hc => ⟨?_, ?_⟩, hnow.ge⟩
  · rw [hmem]; exact applyMem_wf log hc.1
  · rw [hfull]; exact applyFull_wf log hc.2

/-- An answer is a fault, or a next state that keeps what `Keeps` says; it is no refusal. -/
def Abides (s : State) (o : Host.Outcome State Fault Refusal) : Prop := (∃ t, o = .next t ∧ Keeps s t) ∨ ∃ r, o = .fault r

theorem Answers.abides {s : State} {o : Host.Outcome State Fault Refusal} (h : Answers s o) : Abides s o := by
  rcases h with ⟨t, ho, hm⟩ | ho
  · exact .inl ⟨t, ho, hm.keeps⟩
  · exact .inr ⟨_, ho⟩

/-- A try whose answer abides in every state. -/
def Abiding (f : Try) : Prop := ∀ s, Abides s (f s)

theorem exec_abiding (i : Instr) : Abiding (exec i) := fun s => (exec_answers i s).abides

/-- The focus has no part in memory or time. -/
theorem fireAt_abiding (t c i : Nat) : Abiding (fireAt t c i) := by
  intro s
  unfold fireAt
  split
  · exact .inr ⟨_, rfl⟩
  · split
    · exact .inr ⟨_, rfl⟩
    · next ins _ => exact exec_abiding ins { s with focus := ⟨t, c, i⟩ }

/-- An element that fires along with others answers as a firing with some list of them does. -/
theorem Work.fireAlong_fires (t e : Nat) (s : State) : ∃ xs, Work.fireAlong t e s = execElementFire t e xs s := by
  unfold Work.fireAlong
  split
  · next u hu => exact ⟨[], hu.symm⟩
  · refine List.foldlRecOn (motive := fun o => ∃ xs, o = execElementFire t e xs s) _ _ ⟨[], rfl⟩ ?_
    rintro o ⟨ys, rfl⟩ xs -
    split
    · next u hu => exact ⟨ys, hu.symm⟩
    · exact ⟨xs, rfl⟩

theorem Work.fireAlong_abiding (t e : Nat) : Abiding (Work.fireAlong t e) := by
  intro s
  obtain ⟨xs, hx⟩ := Work.fireAlong_fires t e s
  rw [hx]
  exact exec_abiding (.elementFire t e xs) s

theorem Work.resumeEngine_abiding (k : Nat) : Abiding (Work.resumeEngine k) := by
  intro s
  have h := exec_abiding (.enginePageResume k true) s
  change Abides s (execEnginePageResume k true s) at h
  unfold Work.resumeEngine
  split
  · next u hu =>
    rw [hu] at h
    dsimp only
    split
    · exact .inr ⟨_, rfl⟩
    · exact h
  · exact h

/-! ### The policy's acts abide -/

/-- Every try of a list abides. -/
def AllAbide (fs : List Try) : Prop := ∀ f ∈ fs, Abiding f

theorem AllAbide.nil : AllAbide [] := List.forall_mem_nil _

theorem AllAbide.append {fs gs : List Try} (hf : AllAbide fs) (hg : AllAbide gs) : AllAbide (fs ++ gs) :=
  List.forall_mem_append.mpr ⟨hf, hg⟩

theorem AllAbide.flatMap {α : Type} {xs : List α} {f : α → List Try} (h : ∀ x, AllAbide (f x)) : AllAbide (xs.flatMap f) :=
  List.forall_mem_flatMap.mpr fun x _ => h x

theorem AllAbide.map {α : Type} {xs : List α} {f : α → Try} (h : ∀ x, Abiding (f x)) : AllAbide (xs.map f) :=
  List.forall_mem_map.mpr fun x _ => h x

/-- The tries that the elements of a list with some property give. -/
theorem AllAbide.filterMap {α : Type} {xs : List α} {p : α → Prop} [DecidablePred p] {f : α → Try} (h : ∀ x, Abiding (f x)) :
    AllAbide (xs.filterMap fun x => if p x then some (f x) else none) := by
  refine List.forall_mem_filterMap.mpr fun x _ g hg => ?_
  obtain ⟨-, hg⟩ := Option.ite_none_right_eq_some.mp hg
  exact Option.some.inj hg ▸ h x

theorem AllAbide.take {fs : List Try} (h : AllAbide fs) (n : Nat) : AllAbide (fs.take n) := fun f hf => h f (List.mem_of_mem_take hf)

theorem AllAbide.drop {fs : List Try} (h : AllAbide fs) (n : Nat) : AllAbide (fs.drop n) := fun f hf => h f (List.mem_of_mem_drop hf)

theorem AllAbide.ite {c : Prop} [Decidable c] {fs gs : List Try} (hf : AllAbide fs) (hg : AllAbide gs) : AllAbide (if c then fs else gs) := by
  split
  · exact hf
  · exact hg

/-- The meanings of some rows of the operation table. -/
theorem AllAbide.execs (is : List Instr) : AllAbide (is.map exec) := .map exec_abiding

namespace Work

theorem blockActs_abide (w : Work) (t c : Nat) : AllAbide (w.blockActs t c) := by
  unfold blockActs
  split
  · exact .nil
  · refine ((AllAbide.append ?due ?fires).append ?waits).append (.execs [.blockEnd t c])
    case due => exact .filterMap fun f => exec_abiding (.resultDelivery t c f.1)
    case fires => exact .filterMap fun x => fireAt_abiding t c x.1
    case waits =>
      exact .flatMap fun x => .execs [.claimWaitEnd t c x.idx, .pauseDone t c x.idx, .waitRetry t c x.idx, .queueWaitRetry t c x.idx,
        .qtimeout t c x.idx, .waitPoll t c x.idx, .waitTimeout t c x.idx, .kwaitDone t c x.idx, .kwaitLimitExpire t c x.idx,
        .cfgswDrainDone t c x.idx, .stagingClaimWaitEnd t c x.idx, .injectSlotRetry t c x.idx]

theorem tileActs_abide (w : Work) (t : Nat) : AllAbide (w.tileActs t) :=
  .append (.flatMap (w.blockActs_abide t)) (.execs [.wideApply t, .wrunIteration t])

theorem elemActs_abide (w : Work) (t e : Nat) : AllAbide (w.elemActs t e) := by
  have along : AllAbide [execLutfDigit t e, execMeStepDone t e, fireAlong t e] :=
    .append (.execs [.lutfDigit t e, .meStepDone t e]) (List.forall_mem_singleton.mpr (fireAlong_abiding t e))
  unfold elemActs
  dsimp only
  refine ((((AllAbide.append (.append ?kills ?drops) ?arrive).append along).append ?ports).append (.execs [.spillRetry t e true])).append ?spill
  case kills => exact .flatMap fun S => .map fun p => exec_abiding (.killArrive t e S.s p)
  case drops => exact .flatMap fun S => .map fun p => exec_abiding (.killDiscard t e S.s p)
  case arrive => exact .map fun c => exec_abiding (.crossingSlotArrival t e c.1)
  case ports => exact .flatMap fun S => .ite (.execs [.spRepresent t e S.s, .feTimeout t e S.s, .extentFetch t e S.s]) .nil
  case spill => exact .ite .nil (.execs [.spillRetry t e false])

theorem regionActs_abide (w : Work) (r : Nat) : AllAbide (w.regionActs r) := by
  refine ((AllAbide.execs [.regionError r, .cwDecide r, .taskRetire r]).append ?ends).append ?saves
  case ends => exact .map fun k => exec_abiding (.containment k.1 k.2)
  case saves => exact .map fun a => exec_abiding (.preemptSave r a)

theorem engineActs_abide (w : Work) : AllAbide w.engineActs := by
  have works (k : Nat) : AllAbide [execCopyComplete k 64, execImposeComplete k, execDgstComplete k, resumeEngine k] :=
    .append (.execs [.copyComplete k 64, .imposeComplete k, .dgstComplete k]) (List.forall_mem_singleton.mpr (resumeEngine_abiding k))
  refine (AllAbide.append ?tokens ?engines).append ?completions
  case tokens => exact .flatMap fun k => .execs [.gapplyToken k, .tokenReply k]
  case engines => exact .flatMap fun k => .append (works k) (.ite .nil (.execs [.enginePageResume k false]))
  case completions => exact .flatMap fun k => .execs [.completionWrite k true, .completionWrite k false]

theorem sequencerActs_abide (w : Work) : AllAbide w.sequencerActs := by
  refine (AllAbide.append ?dies ?nodes).append ?replays
  case dies => exact .flatMap fun d => .execs [.submissionTake d, .replayStart d, .taskPlace d, .cqCombine d]
  case nodes =>
    exact .flatMap fun x => .execs [.nodeFinish x.replay x.addr, .indirectCountRead x.replay x.addr, .launchCount x.replay x.addr,
      .condPredicateRead x.replay x.addr, .loopIteration x.replay x.addr, .nodeWaitTimeout x.replay x.addr]
  case replays => exact .map fun r => exec_abiding (.replayEnd r.1)

theorem registerActs_abide (w : Work) : AllAbide w.registerActs := by
  unfold registerActs
  dsimp only
  refine (((((AllAbide.append ?store (.execs [.mCmdComplete])).append ?resvs).append ?reports).append ?tests).append ?power).append ?host
  case store =>
    split
    · exact .nil
    · next o v _ _ _ =>
      split
      · next c _ _ =>
        exact .execs [.clQreqSet c, .clQreqClear c, .clQackWrite c, .clSaveGo c, .clClkgGate c, .clRailOff c, .clWakeGo c,
          .registerWrite true o v]
      · have cmds := AllAbide.execs [.mCmdPreempt, .mCmdEndGraph, .mCmdAttest, .mCmdClearFence, .mCmdRecover 0, .mCmdSetHwlim]
        exact .ite (.ite ((cmds.drop _).take 1) (.execs [.mCmdRefused _])) (.execs [.registerWrite true o v])
  case resvs => exact .map fun r => exec_abiding (.reservationExpire r.word)
  case reports => exact .map fun k => exec_abiding (.selfTestStart k.1 k.2)
  case tests => exact .map fun k => exec_abiding (.selfTestEnd k.1 k.2 true true)
  case power =>
    exact .flatMap fun c => .execs [.clusterQuiesceAck c.1, .clusterSaveDone c.1 true, .clusterSaveDone c.1 false, .railGoodFall c.1,
      .clusterWakeDone c.1 [] true]
  case host => exact .map fun k => exec_abiding (.hostWaitExpire k)

theorem acts_abide (w : Work) : AllAbide w.acts := by
  refine ((((AllAbide.append ?tiles w.engineActs_abide).append ?elems).append w.registerActs_abide).append ?regions).append
    w.sequencerActs_abide
  case tiles => exact .flatMap fun t => w.tileActs_abide t.1
  case elems => exact .flatMap fun e => w.elemActs_abide (e.1 / 256) (e.1 % 256)
  case regions => exact .flatMap fun g => w.regionActs_abide g.1

theorem fetches_abide (w : Work) : AllAbide w.fetches := by
  have all : AllAbide (w.core.tiles.flatMap fun t => ([0, 1, 2, 3].filter fun c =>
      (w.ctx t.1 c).status == .ready && !firmwareHeld (w.ctx t.1 c)).map fun c => execBlockFetch t.1 c) :=
    .flatMap fun t => .map fun c => exec_abiding (.blockFetch t.1 c)
  exact (all.drop _).append (all.take _)

end Work

/-! ### Every step -/

/-- The state that the first act to happen leaves comes from an act of the list. -/
theorem firstNext_keeps {fs : List Try} (h : AllAbide fs) {s t : State} (ht : firstNext fs s = some t) : Keeps s t := by
  induction fs with
  | nil => simp [firstNext] at ht
  | cons f fs ih =>
    obtain ⟨hf, hfs⟩ := List.forall_mem_cons.mp h
    rcases hf s with ⟨u, hu, hk⟩ | ⟨r, hr⟩
    · simp only [firstNext, hu] at ht
      split at ht
      · exact ih hfs ht
      · cases ht; exact hk
    · simp only [firstNext, hr] at ht
      exact ih hfs ht

theorem idleStep_keeps (s : State) : Keeps s (idleStep s) := by
  unfold idleStep
  have hwait : Keeps s { s with now := s.now + 1 } := keeps_wait s s.sched 1
  split
  · next t ht => exact firstNext_keeps s.work.acts_abide ht
  · dsimp only
    split
    · next t ht => exact hwait.trans (firstNext_keeps (Work.fetches_abide _) ht)
    · exact hwait

theorem perform_abides (a : Act) (s : State) : Abides s (perform a s) := by
  cases a with
  | fire t c i => exact fireAt_abiding t c i s
  | event e => exact (guarded_answers (exec_answers e s)).abides
  | outside o => exact .inl ⟨_, rfl, (lift_moves s _).keeps⟩

/-- A choice whose meaning abides gives a next state: what it left, or the state with its clk passed. -/
theorem chosen_next {u : State} {o : Host.Outcome State Fault Refusal} (h : Abides u o) : ∃ t, chosen o u = .next t ∧ Keeps u t := by
  rcases h with ⟨v, rfl, hk⟩ | ⟨r, rfl⟩
  · refine ⟨_, rfl, ?_⟩
    split
    · exact .refl u
    · exact hk
  · exact ⟨u, rfl, .refl u⟩

/-- A step with a choice performs it at its clk, and one without acts by the policy: either answers a next state that keeps. -/
theorem step_keeps (s : State) : ∃ t, step s = .next t ∧ Keeps s t := by
  cases h : s.sched with
  | nil => exact ⟨_, step_of_noChoice h, idleStep_keeps s⟩
  | cons c cs =>
    obtain ⟨t, ht, hk⟩ := chosen_next (perform_abides c.act { s with sched := cs, now := s.now + c.dclk })
    exact ⟨t, (step_of_choice h).trans ht, (keeps_wait s cs c.dclk).trans hk⟩

/-- Settles O5: every act abides, chosen or of the policy, since it changes memory only by a log of operations that keep the canonical
form. -/
theorem stepKeepsCanonicalMemory : Obligations.StepKeepsCanonicalMemory := step_keeps

end Sys2Proof.Machine
end

section
/-! SUPPORT. Placement of a task (01 R22, R27, R44, R45): the tiles of a footprint, the choice of the lowest one, and what taking
tiles, staging an image, loading plane A and starting the main context leave of the Sequencer's tables. -/

namespace Sys2Proof.Machine

open Sys2Proof Sys2Proof.Claims Sys2Proof.Laws

/-! ### Fields of records -/

theorem listGet_eq_getD {α : Type} (d : α) (i : Nat) (xs : List α) : listGet d i xs = (xs[i]?).getD d := by
  induction xs generalizing i with
  | nil => simp [listGet]
  | cons x xs ih =>
    cases i with
    | zero => rfl
    | succ i => exact ih i

namespace Work

theorem nth_eq (ws : List Word) (k : Nat) : nth ws k = (wordAt ws k).toNat := congrArg BitVec.toNat (listGet_eq_getD 0 k ws)

theorem bits_nth (ws : List Word) (k lo n : Nat) : bits (nth ws k) lo n = fieldOf (wordAt ws k) lo n := by rw [nth_eq]; rfl

theorem bit_nth_eq_false {ws : List Word} {k i : Nat} (h : fieldOf (wordAt ws k) i 1 = 0) : bit (nth ws k) i = false := by
  have h' : (wordAt ws k).toNat / 2 ^ i % 2 = 0 := h
  simp [bit, nth_eq, h']

/-! ### Footprints and their lead tiles (01 R22, R44) -/

/-- The number of the tile at an origin: the first of the footprints that stand there. -/
def originTile (die ox oy : Nat) : Nat := (die / 2 * 5 + oy) * 16 + (die % 2) * 8 + ox

/-- How far the tiles of a shape lie behind its origin. -/
def shapeOffsets (wd ht : Nat) : List Nat := (List.range ht).flatMap (fun y => (List.range wd).map (fun x => y * 16 + x))

theorem footprint_eq_map (die ox oy wd ht : Nat) : footprint die ox oy wd ht = (shapeOffsets wd ht).map (originTile die ox oy + ·) := by
  simp [footprint, shapeOffsets, originTile, List.map_flatMap, Function.comp_def, Nat.add_assoc]

/-- How far a node's first live position lies behind the origin of its footprint; none where every position is pass-through. -/
def leadOffset (x : Node) : Option Nat :=
  let ts := shapeOffsets (taskW x) (taskH x)
  (((List.range ts.length).zip ts).find? (fun p => !bit x.ptmask p.1)).map (·.2)

/-- The first live tile of a footprint stands where the shape and the pass-through pattern alone say, counted from the origin. -/
theorem find_live_tile (x : Node) (die ox oy : Nat) :
    (((List.range (footprint die ox oy (taskW x) (taskH x)).length).zip (footprint die ox oy (taskW x) (taskH x))).find?
      (fun p => !bit x.ptmask p.1)).map (·.2) = (leadOffset x).map (originTile die ox oy + ·) := by
  simp [footprint_eq_map, leadOffset, List.zip_map_right, List.find?_map, Function.comp_def]

theorem leadOf_eq (x : Node) (die ox oy : Nat) : leadOf x die ox oy = ((leadOffset x).map (originTile die ox oy + ·)).getD 0 := by
  rw [← find_live_tile, leadOf]
  cases List.find? _ _ <;> rfl

theorem regionFor_live_head (w : Work) (x : Node) (die ox oy : Nat) :
    (w.regionFor ⟨x, die, ox, oy⟩).live.head? = (leadOffset x).map (originTile die ox oy + ·) := by
  simp [← find_live_tile, regionFor, List.head?_map, List.head?_filter]

theorem leadOffset_of_live_head {w : Work} {x : Node} {die ox oy t : Nat} (h : (w.regionFor ⟨x, die, ox, oy⟩).live.head? = some t) :
    leadOffset x ≠ none := by
  intro hnone
  simp [regionFor_live_head, hnone] at h

theorem regionFor_tiles (w : Work) (s : Spot) : (w.regionFor s).tiles
    = footprint s.die s.ox s.oy (fieldOf (wordAt s.node.trec 2) 0 3 + 1) (fieldOf (wordAt s.node.trec 2) 3 3 + 1) := by
  simp [Region.tiles, regionFor, taskW, taskH, shapeWord, bits_nth]

theorem regionFor_mode (w : Work) (s : Spot) : (w.regionFor s).mode = BitVec.ofNat 3 (fieldOf (wordAt s.node.trec 2) 29 3) := by
  simp [regionFor, shapeWord, bits_nth]

theorem regionFor_asid {w : Work} {s : Spot} {r : Replay} (h : w.replay s.node.replay = some r) : (w.regionFor s).asid = r.asid := by
  simp [regionFor, nodeAsid, h]

/-- Footprints of a node with a live tile that have the same lead tile stand at the same origin. -/
theorem origin_of_leadOf_eq {x : Node} {die ox oy i j : Nat} (hx : leadOffset x ≠ none) (ho : ox < 8) (hi : i < 8)
    (h : leadOf x die i j = leadOf x die ox oy) : (i, j) = (ox, oy) := by
  obtain ⟨k, hk⟩ := Option.ne_none_iff_exists'.mp hx
  simp only [leadOf_eq, hk, Option.map_some, Option.getD_some, originTile] at h
  simp only [Prod.mk.injEq]
  omega

/-! ### The choice of the lowest footprint (01 R44) -/

/-- A fold that keeps the least entry so far ends with an entry of the list that has the least key. -/
theorem foldl_keepLeast {α : Type} (key : α → Nat) (as : List α) (a : α) :
    as.foldl (fun b o => if key o < key b then o else b) a ∈ a :: as
      ∧ ∀ o ∈ a :: as, key (as.foldl (fun b o => if key o < key b then o else b) a) ≤ key o := by
  induction as generalizing a with
  | nil => simp
  | cons c as ih =>
    obtain ⟨hmem, hle⟩ := ih (if key c < key a then c else a)
    simp only [List.mem_cons, forall_eq_or_imp, List.foldl_cons] at hmem hle ⊢
    obtain ⟨hhead, htail⟩ := hle
    by_cases hc : key c < key a
    · simp only [hc, if_true] at hmem hhead htail ⊢
      exact ⟨.inr hmem, by omega, hhead, htail⟩
    · simp only [hc, if_false] at hmem hhead htail ⊢
      exact ⟨by tauto, hhead, by omega, htail⟩

/-- A ready node without a fixed place takes the matching footprint of its home die that has the lowest lead tile. -/
theorem spotFor_of_lowest {w : Work} {taken : List Nat} {home ox oy : Nat} {x : Node} (hready : x.stage = .ready) (hfree : fixed x = false)
    (hlive : leadOffset x ≠ none) (hox : ox < 8) (hoy : oy < 5) (hfits : w.fits taken x home ox oy = true)
    (hlow : ∀ i j, i < 8 → j < 5 → w.fits taken x home i j = true → leadOf x home ox oy ≤ leadOf x home i j) :
    w.spotFor taken home x = some ⟨x, home, ox, oy⟩ := by
  unfold spotFor
  simp only [hready, hfree, Bool.false_eq_true, if_false]
  have hok : ∀ o : Nat × Nat, o ∈ (((List.range 5).flatMap (fun oy => (List.range 8).map (fun ox => (ox, oy)))).filter
      (fun o => w.fits taken x home o.1 o.2)) ↔ (o.1 < 8 ∧ o.2 < 5) ∧ w.fits taken x home o.1 o.2 = true := by
    rintro ⟨i, j⟩
    simp [and_comm]
  revert hok
  generalize List.filter (fun o : Nat × Nat => w.fits taken x home o.1 o.2) _ = ok
  intro hok
  have hmem : (ox, oy) ∈ ok := (hok (ox, oy)).mpr ⟨⟨hox, hoy⟩, hfits⟩
  cases ok with
  | nil => simp at hmem
  | cons o os =>
    have hfold := foldl_keepLeast (fun o : Nat × Nat => leadOf x home o.1 o.2) os o
    dsimp only at hfold ⊢
    generalize List.foldl _ o os = best at hfold ⊢
    obtain ⟨hbest, hleast⟩ := hfold
    obtain ⟨⟨hi, hj⟩, hf⟩ := (hok best).mp hbest
    have hle : leadOf x home best.1 best.2 ≤ leadOf x home ox oy := hleast (ox, oy) hmem
    have hge : leadOf x home ox oy ≤ leadOf x home best.1 best.2 := hlow best.1 best.2 hi hj hf
    have hlead : leadOf x home best.1 best.2 = leadOf x home ox oy := Nat.le_antisymm hle hge
    rw [show best = (ox, oy) from origin_of_leadOf_eq hlive hox hi hlead]

/-! ### The choice where one task is ready (01 R45) -/

/-- The unit of a node in no gang. -/
def soleUnit (x : Node) : Unit45 := ⟨[x], x.prio, x.order, x.passed⟩

@[simp] theorem soleUnit_nodes (x : Node) : (soleUnit x).nodes = [x] := rfl

theorem sameNode_self (x : Node) : sameNode x x = true := by simp [sameNode]

theorem units_sole {w : Work} {die : Nat} {x : Node} (hnodes : w.core.nodes = [x]) (hready : w.readyTask die x = true) (hgang : nodeGang x = 0) :
    w.units die = [soleUnit x] := by
  simp [units, hnodes, hready, unitOf, hgang, insertUnit, soleUnit]

/-- No tile is held for another node where there is no other. -/
theorem heldFrom_sole {w : Work} {x : Node} (hnodes : w.core.nodes = [x]) : w.heldFrom (soleUnit x) = [] := by
  simp [heldFrom, hnodes, sameNode_self]

theorem spotsFor_sole {w : Work} {die : Nat} {x : Node} {s : Spot} (hnodes : w.core.nodes = [x]) (hfree : fixed x = false)
    (hs : w.spotFor [] die x = some s) : w.spotsFor die (soleUnit x) = some [s] := by
  simp [spotsFor, heldFrom_sole hnodes, hfree, hs]

theorem choose_sole {w : Work} {die : Nat} {x : Node} {s : Spot} {us : List Unit45} (hs : w.spotsFor die (soleUnit x) = some [s])
    (heqv : eqv x = 0) : w.choose die us [soleUnit x] = some [s] := by
  simp [choose, hs, drawsOn, heqv]

/-- Counting what the placement of the only node has passed changes that node's held tiles alone. -/
theorem countPassed_sole {w : Work} {x y : Node} (hnodes : w.core.nodes = [y]) (hxy : sameNode y x = true) :
    w.countPassed [soleUnit x] [x] = { w with core := { w.core with nodes := [{ y with held := [] }] } } := by
  simp [countPassed, soleUnit, sameNode_self, hnodes, hxy]

/-! ### What the parts of a placement keep -/

/-- From `w` to `u` nothing of the Sequencer's tables changes that a placement reads, and no claim. -/
structure KeepsTasks (w u : Work) : Prop where
  nodes : u.core.nodes = w.core.nodes
  claims : u.core.claims = w.core.claims
  replays : u.core.replays = w.core.replays
  nextRegion : u.core.nextRegion = w.core.nextRegion

theorem KeepsTasks.refl (w : Work) : KeepsTasks w w := ⟨rfl, rfl, rfl, rfl⟩

theorem KeepsTasks.trans {w u v : Work} (h : KeepsTasks w u) (k : KeepsTasks u v) : KeepsTasks w v :=
  ⟨k.nodes.trans h.nodes, k.claims.trans h.claims, k.replays.trans h.replays, k.nextRegion.trans h.nextRegion⟩

/-- From `w` to `u` no tile passes to another region, and the Sequencer's tables stay. -/
structure KeepsPlaces (w u : Work) : Prop extends KeepsTasks w u where
  region : ∀ t, (u.tile t).region = (w.tile t).region

theorem KeepsPlaces.refl (w : Work) : KeepsPlaces w w := ⟨.refl w, fun _ => rfl⟩

theorem KeepsPlaces.trans {w u v : Work} (h : KeepsPlaces w u) (k : KeepsPlaces u v) : KeepsPlaces w v :=
  ⟨h.toKeepsTasks.trans k.toKeepsTasks, fun t => (k.region t).trans (h.region t)⟩

theorem keepsPlaces_of_translated {w u : Work} (h : Translated w u) : KeepsPlaces w u := by
  obtain ⟨_, _, _, _, _, _, _, rfl, ht⟩ := h
  refine ⟨⟨rfl, rfl, rfl, rfl⟩, fun t => ?_⟩
  obtain ⟨tlb, hu⟩ := ht t
  rw [hu]

theorem setTile_keepsTasks (w : Work) (t : Nat) (y : Tile) : KeepsTasks w (w.setTile t y) := ⟨rfl, rfl, rfl, rfl⟩

theorem setTile_keepsPlaces {w : Work} {t : Nat} {y : Tile} (h : y.region = (w.tile t).region) : KeepsPlaces w (w.setTile t y) := by
  refine ⟨setTile_keepsTasks w t y, fun v => ?_⟩
  by_cases hv : v = t
  · rw [hv, tile_setTile_same, h]
  · rw [tile_setTile_other _ _ _ _ hv]

/-! ### Taking the tiles (01 R22) -/

/-- A list of tiles passes to region `id`. -/
def claimTiles (w : Work) (id : Nat) (ts : List Nat) : Work := ts.foldl (fun w t => w.setTile t { w.tile t with region := some id }) w

theorem claimTiles_keepsTasks (w : Work) (id : Nat) (ts : List Nat) : KeepsTasks w (w.claimTiles id ts) :=
  List.foldlRecOn (motive := KeepsTasks w) _ _ (.refl w) fun _ h _ _ => h.trans (setTile_keepsTasks _ _ _)

theorem claimTiles_region (w : Work) (id : Nat) (ts : List Nat) (v : Nat) :
    ((w.claimTiles id ts).tile v).region = if v ∈ ts then some id else (w.tile v).region := by
  induction ts generalizing w with
  | nil => rfl
  | cons t ts ih =>
    refine (ih _).trans ?_
    by_cases hv : v = t
    · simp [hv]
    · simp [hv, tile_setTile_other _ _ _ _ hv]

/-- The live tiles of a region as a task finds them: contexts idle, wide unit and stash cleared (05 R91; 17 R324). -/
def clearTiles (w : Work) (ts : List Nat) : Work :=
  ts.foldl (fun w t =>
    let y := w.tile t
    let w := w.setTile t { y with ctxs := y.ctxs.map (fun c => (c.1, idleCtx c.2)), wide := {}, wq := [], last := 3 }
    w.resetWords (stashBase t) 196608 false) w

theorem clearTiles_keepsPlaces (w : Work) (ts : List Nat) : KeepsPlaces w (w.clearTiles ts) := by
  refine List.foldlRecOn (motive := KeepsPlaces w) _ _ (.refl w) fun u h t _ => h.trans ?_
  have htile := setTile_keepsPlaces (w := u) (t := t)
    (y := { u.tile t with ctxs := (u.tile t).ctxs.map (fun c => (c.1, idleCtx c.2)), wide := {}, wq := [], last := 3 }) rfl
  exact ⟨⟨htile.nodes, htile.claims, htile.replays, htile.nextRegion⟩, htile.region⟩

/-- Taking the tiles of a region claims them, clears the live ones, and enters the region under its number. -/
theorem takeTiles_eq (w : Work) (id : Nat) (g : Region) :
    ∃ es ps rs, w.takeTiles id g = { (w.claimTiles id g.tiles).clearTiles g.live with
      core := { ((w.claimTiles id g.tiles).clearTiles g.live).core with
        elems := es, poison := ps, regions := rs,
        nextRegion := max ((w.claimTiles id g.tiles).clearTiles g.live).core.nextRegion (id + 1) } } :=
  ⟨_, _, _, rfl⟩

section
variable (w : Work) (id : Nat) (g : Region)

theorem claimTiles_clearTiles_keepsTasks : KeepsTasks w ((w.claimTiles id g.tiles).clearTiles g.live) :=
  (claimTiles_keepsTasks w id g.tiles).trans (clearTiles_keepsPlaces _ _).toKeepsTasks

theorem takeTiles_nodes : (w.takeTiles id g).core.nodes = w.core.nodes := by
  obtain ⟨_, _, _, h⟩ := takeTiles_eq w id g
  rw [h]; exact (claimTiles_clearTiles_keepsTasks w id g).nodes

theorem takeTiles_claims : (w.takeTiles id g).core.claims = w.core.claims := by
  obtain ⟨_, _, _, h⟩ := takeTiles_eq w id g
  rw [h]; exact (claimTiles_clearTiles_keepsTasks w id g).claims

theorem takeTiles_replays : (w.takeTiles id g).core.replays = w.core.replays := by
  obtain ⟨_, _, _, h⟩ := takeTiles_eq w id g
  rw [h]; exact (claimTiles_clearTiles_keepsTasks w id g).replays

theorem takeTiles_nextRegion : (w.takeTiles id g).core.nextRegion = max w.core.nextRegion (id + 1) := by
  obtain ⟨_, _, _, h⟩ := takeTiles_eq w id g
  rw [h]; exact congrArg (max · (id + 1)) (claimTiles_clearTiles_keepsTasks w id g).nextRegion

/-- R22: the tiles of the footprint are the task's own. -/
theorem takeTiles_region {v : Nat} (hv : v ∈ g.tiles) : ((w.takeTiles id g).tile v).region = some id := by
  obtain ⟨_, _, _, h⟩ := takeTiles_eq w id g
  rw [h]
  exact ((clearTiles_keepsPlaces _ _).region v).trans ((claimTiles_region w id g.tiles v).trans (if_pos hv))

/-- The region that a spot gives does not depend on the tiles taken. -/
theorem regionFor_takeTiles (s : Spot) : (w.takeTiles id g).regionFor s = w.regionFor s := by
  simp [regionFor, nodeAsid, replay, takeTiles_replays]

end

/-! ### Staging and loading the image (01 R34; 05 R115; 15 R322) -/

theorem readWords_translated (w : Work) (q : Who) (n va : Nat) : Translated w (w.readWords q n va).1 := by
  induction n generalizing w va with
  | zero => exact .refl w
  | succ n ih =>
    have htr := translate_translated w q .desc 8 va
    unfold readWords
    split
    · exact .refl w
    · split
      · next e => rw [e] at htr; exact htr
      · next u pa _ e =>
        rw [e] at htr
        split
        · exact htr
        · have hrest := htr.trans (ih u (2 ^ 64 * (va / 2 ^ 64) + low (va + 8) 64))
          dsimp only
          split <;> (next er => rw [er] at hrest; exact hrest)

theorem readImageBytes_translated (w : Work) (q : Who) (va n : Nat) : Translated w (w.readImageBytes q va n).1 := by
  have h := readWords_translated w q ((n + 7) / 8) va
  unfold readImageBytes
  split <;> (next e => rw [e] at h; exact h)

theorem readImage_translated (w : Work) (q : Who) (va : Nat) : Translated w (w.readImage q va).1 := by
  have h := readImageBytes_translated w q va 64
  unfold readImage
  split
  · next e => rw [e] at h; exact h
  · next e =>
    rw [e] at h
    split
    · exact h.trans (readImageBytes_translated _ _ _ _)
    · exact h

/-- Staging an image changes nothing but what translations change. -/
theorem stageImage_translated (w : Work) (r : Replay) (g : Region) (trec : List Word) : Translated w (w.stageImage r g trec).1 := by
  have h := readImage_translated w (replayWho r) (r.va (nth trec 0))
  unfold stageImage
  split
  · next e => rw [e] at h; exact h
  · next e =>
    rw [e] at h
    split
    · exact h
    · split
      · exact h
      · split <;> exact h

theorem fetchExtents_translated (w : Work) (asid : Nat) (pages : List Nat) : Translated w (w.fetchExtents asid pages).1 := by
  induction pages generalizing w with
  | nil => exact .refl w
  | cons p ps ih =>
    unfold fetchExtents
    split
    · exact (touch_translated _ _ _ _).trans (ih _)
    · exact ih w

theorem planeExtents_translated (w : Work) (asid t e : Nat) (p : Plane) : Translated w (w.planeExtents asid t e p).1 := by
  unfold planeExtents
  split
  · exact .refl w
  · exact List.foldlRecOn (motive := fun r : Work × Plane => Translated w r.1) _ _ (.refl w) fun _ h _ _ => h.trans (fetchExtents_translated _ _ _)

theorem loadExtents_translated (w : Work) (asid : Nat) (live : List Nat) (planes : List (Nat × Plane)) :
    Translated w (w.loadExtents asid live planes).1 :=
  List.foldlRecOn (motive := fun r : Work × List (Nat × Plane) => Translated w r.1) _ _ (.refl w)
    fun _ h _ _ => h.trans (planeExtents_translated _ _ _ _ _)

theorem commitConfig_keepsPlaces (w : Work) (id : Nat) (planes : List (Nat × Plane)) (race : Bool) :
    KeepsPlaces w (w.commitConfig id planes race) := by
  unfold commitConfig
  split
  · exact .refl w
  · exact ⟨⟨rfl, rfl, rfl, rfl⟩, fun _ => rfl⟩

theorem loadPlaneA_keepsPlaces (w : Work) (id : Nat) (g : Region) (planes : List (Nat × Plane)) (race : Bool) :
    KeepsPlaces w (w.loadPlaneA id g planes race) := by
  have hset : KeepsPlaces w (w.setRegion id { g with activeB := true }) := ⟨⟨rfl, rfl, rfl, rfl⟩, fun _ => rfl⟩
  have h := hset.trans (commitConfig_keepsPlaces _ id planes race)
  exact ⟨⟨h.nodes, h.claims, h.replays, h.nextRegion⟩, h.region⟩

/-! ### Starting the main context (01 R27; 09 R202) -/

theorem startMain_keepsPlaces (w : Work) (g : Region) (vah : Nat) (trec : List Word) : KeepsPlaces w (w.startMain g vah trec) := by
  unfold startMain
  split
  · exact .refl w
  · exact setTile_keepsPlaces rfl

theorem vaddr_toNat (hi lo : Nat) (h : lo < 2 ^ 64) : (vaddr hi lo).toNat = hi % 2 ^ 8 * 2 ^ 64 + lo := by
  simp only [vaddr, low, BitVec.toNat_ofNat]
  omega

/-- The main context of a region starts on its first live tile, as R27 says. -/
theorem startMain_startsAt {w : Work} {g : Region} {t : Nat} (ht : g.live.head? = some t) (vah : Nat) (trec : List Word) :
    startsAt ((w.startMain g vah trec).ctx t 0) vah g.asid g.mode trec := by
  obtain ⟨ts, hl⟩ := List.head?_eq_some_iff.mp ht
  have hpc : (vaddr vah (nth trec 1)).toNat = vah % 2 ^ 8 * 2 ^ 64 + (wordAt trec 1).toNat := by
    rw [nth_eq]; exact vaddr_toNat _ _ (BitVec.isLt _)
  unfold startMain
  simp only [hl, ctx, tile_setTile_same, mapGet_mapSet_same]
  refine ⟨rfl, rfl, rfl, hpc, BitVec.toNat_ofNat _ _, rfl, listGet_eq_getD 0 3 trec, listGet_eq_getD 0 4 trec, listGet_eq_getD 0 5 trec,
    listGet_eq_getD 0 6 trec, listGet_eq_getD 0 7 trec, fun n hn => ?_, rfl, rfl⟩
  simp only [Ctx.reg, mapGet, beq_iff_eq]
  repeat rw [if_neg (by omega)]

/-! ### Placing one task (01 R44) -/

/-- The region of a task once its image has been staged. -/
def taskRegion (g : Region) (r : Replay) (trec : List Word) (res : Nat) : Region :=
  { g with stashres := res, stats := if nth trec 9 == 0 then 0 else r.va (nth trec 9) }

/-- The work once a task's extents and its plane A are loaded. -/
def loadTask (w : Work) (id : Nat) (g : Region) (planes : List (Nat × Plane)) (race : Bool) : Work :=
  (w.loadExtents g.asid g.live planes).1.loadPlaneA id g (w.loadExtents g.asid g.live planes).2 race

theorem loadTask_keepsPlaces (w : Work) (id : Nat) (g : Region) (planes : List (Nat × Plane)) (race : Bool) :
    KeepsPlaces w (w.loadTask id g planes race) :=
  (keepsPlaces_of_translated (loadExtents_translated _ _ _ _)).trans (loadPlaneA_keepsPlaces _ _ _ _ _)

/-- A node runs, and the main context of its task starts. -/
def runTask (w : Work) (g : Region) (r : Replay) (x : Node) : Work :=
  (w.onNode x.replay x.addr (fun y => { y with stage := .running })).startMain g r.vah x.trec

section
variable (w : Work) (g : Region) (r : Replay) (x : Node)

theorem runTask_nodes (h : w.core.nodes = [x]) : (w.runTask g r x).core.nodes = [{ x with stage := .running }] := by
  refine (startMain_keepsPlaces _ _ _ _).nodes.trans ?_
  simp [onNode, h]

theorem runTask_claims : (w.runTask g r x).core.claims = w.core.claims := (startMain_keepsPlaces _ _ _ _).claims

theorem runTask_nextRegion : (w.runTask g r x).core.nextRegion = w.core.nextRegion := (startMain_keepsPlaces _ _ _ _).nextRegion

theorem runTask_region (t : Nat) : ((w.runTask g r x).tile t).region = (w.tile t).region := (startMain_keepsPlaces _ _ _ _).region t

theorem runTask_startsAt {t : Nat} (ht : g.live.head? = some t) : startsAt ((w.runTask g r x).ctx t 0) r.vah g.asid g.mode x.trec :=
  startMain_startsAt ht r.vah x.trec

end

/-- A task without a catchword whose image is staged is placed: once plane A is loaded its node runs and its main context starts. -/
theorem placeTask_of_staged {w u : Work} {id : Nat} {s : Spot} {g : Region} {r : Replay} {planes : List (Nat × Plane)} {race : Bool}
    {res : Nat} (hg : w.regionFor s = g) (hr : w.replay s.node.replay = some r)
    (hstaged : w.stageImage r g s.node.trec = (u, .ok (planes, race, res))) (hplain : bit (shapeWord s.node) 31 = false) :
    w.placeTask id s
      = some ((u.loadTask id (taskRegion g r s.node.trec res) planes race).runTask (taskRegion g r s.node.trec res) r s.node, none) := by
  unfold placeTask
  simp only [hg, hr, hstaged, hplain, Bool.false_eq_true, if_false]
  rfl

/-- A ready task that can be placed is placed in the next region. -/
theorem placeAll_sole {w u : Work} {s : Spot} {g : Region} (hready : s.node.stage = .ready) (hg : w.regionFor s = g)
    (h : (w.takeTiles w.core.nextRegion g).placeTask w.core.nextRegion s = some (u, none)) :
    w.placeAll [s] = some (u, true) := by
  simp [placeAll, hready, takeAll, placeEach, hg, h]

/-- TASK_PLACE where the one ready unit is a task that can be placed. -/
theorem taskPlace_sole {w u : Work} {die : Nat} {x : Node} {s : Spot} (hruns : w.seqRuns = true) (hunits : w.units die = [soleUnit x])
    (hchoice : w.choose die [soleUnit x] [soleUnit x] = some [s]) (hplaced : w.placeAll [s] = some (u, true)) :
    w.taskPlace die = some (u.countPassed [soleUnit x] [s.node]) := by
  simp [taskPlace, hunits, hchoice, hruns, hplaced]

end Work

theorem exec_taskPlace (die : Nat) (s : State) :
    exec (.taskPlace die) s = happen (fun w => Work.unlessClaimed (w.taskPlace die)) s := rfl

/-- An event whose changes leave no claim happens: no claimed word keeps it waiting. -/
theorem happen_of_noClaims {f : Work → Option Work} {s : State} {u : Work} (h : f s.work = some u) (hu : u.core.claims = []) :
    happen (fun w => Work.unlessClaimed (f w)) s = .next (s.put u) := by
  have hfree : u.writesClaimed none = false := by simp [Work.writesClaimed, hu]
  simp [happen, h, Work.unlessClaimed, Option.filter, hfree]

/-- Settles O50: the lowest matching footprint is the one chosen, its tiles are taken, and nothing between that and the start of the main
context changes them or the Sequencer's tables. -/
theorem tasksArePlaced : Obligations.TasksArePlaced := by
  intro s die ox oy t x r g w p race res ⟨hnodes, hclaims, _, _, hreplay⟩ hstage hdie hkind hready hgang hfree hplain hdraws _ _ _ hox hoy
    hfits hlow hg hlead hstaged
  let spot : Spot := ⟨x, die, ox, oy⟩
  let taken : Work := s.work.takeTiles s.core.nextRegion g
  let task : Region := Work.taskRegion g r x.trec res
  let loaded : Work := w.loadTask s.core.nextRegion task p race
  have hfixed : Work.fixed x = false := Work.bit_nth_eq_false hfree
  have hspot : s.work.spotFor [] die x = some spot :=
    Work.spotFor_of_lowest hready hfixed (Work.leadOffset_of_live_head (hg ▸ hlead)) hox hoy hfits hlow
  have hchoice : s.work.choose die [Work.soleUnit x] [Work.soleUnit x] = some [spot] :=
    Work.choose_sole (Work.spotsFor_sole hnodes hfixed hspot) ((Work.bits_nth _ _ _ _).trans hdraws)
  have htask : s.work.readyTask die x = true := by simp [Work.readyTask, hkind, hready, Work.nodeDie, Work.replay, hreplay, hdie]
  have hunits := Work.units_sole hnodes htask ((Work.bits_nth _ _ _ _).trans hgang)
  have hregion : taken.regionFor spot = g := (Work.regionFor_takeTiles _ _ _ _).trans hg.symm
  have hreplay' : taken.replay x.replay = some r := (congrArg (mapFind x.replay) (Work.takeTiles_replays _ _ _)).trans hreplay
  have hplaced : taken.placeTask s.core.nextRegion spot = some (loaded.runTask task r x, none) :=
    Work.placeTask_of_staged hregion hreplay' hstaged (Work.bit_nth_eq_false hplain)
  have hkeeps : Work.KeepsPlaces taken loaded := by
    have hread := Work.stageImage_translated taken r g x.trec
    rw [hstaged] at hread
    exact (Work.keepsPlaces_of_translated hread).trans (Work.loadTask_keepsPlaces _ _ _ _ _)
  have hrun := Work.runTask_nodes loaded task r x (hkeeps.nodes.trans ((Work.takeTiles_nodes _ _ _).trans hnodes))
  have hplace := Work.taskPlace_sole (by simp [Work.seqRuns, hstage]) hunits hchoice (Work.placeAll_sole hready hg.symm hplaced)
  rw [Work.countPassed_sole hrun (by simp [Work.sameNode])] at hplace
  refine ⟨_, (exec_taskPlace die s).trans (happen_of_noClaims hplace ?noClaims), ?nextRegion, ?tiles, ?main, rfl⟩
  case noClaims => exact (Work.runTask_claims _ _ _ _).trans (hkeeps.claims.trans ((Work.takeTiles_claims _ _ _).trans hclaims))
  case nextRegion =>
    refine (Work.runTask_nextRegion _ _ _ _).trans (hkeeps.nextRegion.trans ((Work.takeTiles_nextRegion _ _ _).trans ?_))
    exact Nat.max_eq_right (Nat.le_succ _)
  case tiles =>
    intro v hv
    have htile : v ∈ g.tiles := by rw [hg, Work.regionFor_tiles]; exact hv
    exact (Work.runTask_region _ _ _ _ v).trans ((hkeeps.region v).trans (Work.takeTiles_region _ _ _ htile))
  case main =>
    have hmain := Work.runTask_startsAt loaded task r x hlead
    have hasid : task.asid = r.asid := (congrArg Region.asid hg).trans (Work.regionFor_asid hreplay)
    have hmode : task.mode = BitVec.ofNat 3 (fieldOf (wordAt x.trec 2) 29 3) := (congrArg Region.mode hg).trans (Work.regionFor_mode _ _)
    rwa [hasid, hmode] at hmain

end Sys2Proof.Machine
end

section
/-! SUPPORT. How the waits of a block in flight end (05 R101, R106; 11 R213, R228, R231, R233, R234): what O28 says of them, all but the retry
of a load whose translation marks a word that another context claims. -/

namespace Sys2Proof.Machine

open Sys2Proof Sys2Proof.Claims Sys2Proof.Laws

/-! ### An instruction whose wait is its block's only one -/

/-- The instruction in focus is that at `i` of context `c` of tile `t`; its block is `b`, whose only wait, `x`, is its own. -/
def SoleWait (w : Work) (t c i : Nat) (b : Block) (x : Waiting) : Prop :=
  w.focus = ⟨t, c, i⟩ ∧ w.block = some b ∧ b.waits = [x] ∧ x.idx = i

section
variable {s : State} {w u : Work} {t c i : Nat} {b b' : Block} {x : Waiting} {ins : Instr}

theorem SoleWait.of_flying (hf : flying s t c b) (hwaits : b.waits = [x]) (hx : x.idx = i) : SoleWait (s.work.at_ t c i) t c i b x :=
  ⟨rfl, hf.1, hwaits, hx⟩

theorem SoleWait.of_translated (h : SoleWait w t c i b x) (hu : Translated w u) : SoleWait u t c i b x := by
  obtain ⟨hfocus, hb, hwaits, hx⟩ := h
  exact ⟨hu.focus.trans hfocus, hu.block.trans hb, hwaits, hx⟩

theorem SoleWait.waitOf_eq (h : SoleWait w t c i b x) : w.waitOf = some x := by
  obtain ⟨hfocus, hb, hwaits, hx⟩ := h
  simp [Work.waitOf, hb, hwaits, hx, hfocus]

/-- It stands with its operands as its slots hold them. -/
theorem SoleWait.waiting_eq (h : SoleWait w t c i b x) (hrun : w.me.status = .running) (hi : b.instr i = some ins)
    (hp : (b.inst i).phase = .waiting) :
    w.waiting = some (ins, Operand.word (b.inst i).left, Operand.word (b.inst i).right, x) := by
  have hwait := h.waitOf_eq
  obtain ⟨hfocus, hb, _, _⟩ := h
  simp [Work.waiting, hb, hwait, hfocus, hi, hrun, hp]

theorem SoleWait.stopWaiting_eq (h : SoleWait w t c i b x) : w.stopWaiting = w.setBlock { b with waits := [] } := by
  obtain ⟨hfocus, hb, hwaits, hx⟩ := h
  simp [Work.stopWaiting, Work.onBlock_of hb, hwaits, hx, hfocus]

/-- Once its wait is over it delivers. -/
theorem SoleWait.stopWaiting_deliver (h : SoleWait w t c i b x) (hnow : w.now = s.now) (v : Word) (lat : Nat) :
    w.stopWaiting.deliver (shape ins) v lat = w.setBlock (waitAnswered s b ins i v lat) := by
  rw [h.stopWaiting_eq, Work.deliver, Work.onBlock_of (Work.block_setBlock _ _), Work.setBlock_setBlock, send_eq]
  simp [h.1, hnow, Block.setPhase, waitAnswered, sends]

theorem SoleWait.trap_eq (h : SoleWait w t c i b x) (cause : Nat) (einfo : Word) :
    w.trap cause einfo = w.setBlock (waitTrapped b i cause einfo) := by
  obtain ⟨hfocus, hb, hwaits, hx⟩ := h
  simp [Work.trap, Work.onBlock_of hb, Block.trapAt, Block.setPhase, waitTrapped, hwaits, hx, hfocus]

theorem SoleWait.stopWaiting_trap (h : SoleWait w t c i b x) (cause : Nat) (einfo : Word) :
    w.stopWaiting.trap cause einfo = w.setBlock (waitTrapped b i cause einfo) := by
  rw [h.stopWaiting_eq, Work.trap, Work.onBlock_of (Work.block_setBlock _ _), Work.setBlock_setBlock]
  simp [Block.trapAt, Block.setPhase, waitTrapped, h.1]

/-- An event of an instruction that leaves the block of its context changed happens. -/
theorem happen_at {f : Work → Option Work} (hfocus : w.focus = ⟨t, c, i⟩) (h : f (s.work.at_ t c i) = some (w.setBlock b')) :
    happen (fun w => f (w.at_ t c i)) s = .next (blockSet s w t c b') := by
  rw [happen_some h, Work.setBlock, hfocus, blockSet]

/-- An event of an instruction that changes nothing but the block of its context happens. -/
theorem happen_at_block {f : Work → Option Work} (h : f (s.work.at_ t c i) = some ((s.work.at_ t c i).setBlock b')) :
    happen (fun w => f (w.at_ t c i)) s = .next (blockSet s s.work t c b') :=
  happen_at (w := s.work.at_ t c i) rfl h

end

/-! ### A waiting instruction of a context, and its accesses -/

section
variable {s : State} {t c i : Nat} {b : Block} {ins : Instr} {l r : Word} {x : Waiting} {w : Work} {pa : Nat} {o : Option Bool}
  {form : AccForm} {size ea : Nat}

theorem soleWait_of_waitingAt (h : waitingAt s t c i b ins l r x) : SoleWait (s.work.at_ t c i) t c i b x := by
  obtain ⟨hf, _, _, hwaits, hx, _, _⟩ := h
  exact .of_flying hf hwaits hx

theorem waiting_of_left (h : waitingAt s t c i b ins l r x) (hl : (shape ins).left = true) :
    (s.work.at_ t c i).waiting = some (ins, l, Operand.word (b.inst i).right, x) := by
  have hsole := soleWait_of_waitingAt h
  obtain ⟨hf, hi, hp, _, _, hleft, _⟩ := h
  rw [hsole.waiting_eq hf.2 hi hp, hleft hl, Operand.word]

theorem waiting_of_both (h : waitingAt s t c i b ins l r x) (hl : (shape ins).left = true) (hr : (shape ins).right = true) :
    (s.work.at_ t c i).waiting = some (ins, l, r, x) := by
  rw [waiting_of_left h hl]
  obtain ⟨_, _, _, _, _, _, hright⟩ := h
  rw [hright hr, Operand.word]

theorem work_at (s : State) (t c i : Nat) : s.work.at_ t c i = ({ s with focus := ⟨t, c, i⟩ } : State).work := rfl

/-- An access of the instruction at `i` of a context reaches an address, as `reaches` has it for the instruction in focus. -/
theorem reaches_at (hal : ea % size = 0)
    (htr : (s.work.at_ t c i).translate (s.work.at_ t c i).who form size ((s.work.ctx t c).dseg.toNat * 2 ^ 64 + ea) = (w, .ok pa o))
    (hpoison : w.poisonOf pa = none) : reaches { s with focus := ⟨t, c, i⟩ } form size ea w pa o := by
  rw [work_at] at htr
  exact ⟨hal, htr, hpoison⟩

theorem access_at (h : reaches { s with focus := ⟨t, c, i⟩ } form size ea w pa o) (he : ea < 2 ^ 64) (k : Work → Nat → Option Bool → Work) :
    (s.work.at_ t c i).access form size ea k = k w pa o := by
  rw [work_at]
  exact access_of h he

theorem translated_at (h : reaches { s with focus := ⟨t, c, i⟩ } form size ea w pa o) : Translated (s.work.at_ t c i) w := by
  rw [work_at]
  exact reaches_translated h

theorem now_at (h : reaches { s with focus := ⟨t, c, i⟩ } form size ea w pa o) : w.now = s.now := (translated_at h).now

end

/-! ### Queue waits (11 R228, R231) -/

theorem exec_queueWaitRetry (t c i : Nat) (s : State) : exec (.queueWaitRetry t c i) s = happen (fun w => (w.at_ t c i).queueRetry) s := rfl
theorem exec_qtimeout (t c i : Nat) (s : State) : exec (.qtimeout t c i) s = happen (fun w => (w.at_ t c i).queueTimeout) s := rfl

theorem withQueue_owned {w : Work} {h : Word} {q : HQueue} {k : Work → Nat → HQueue → Work} (hh : h.toNat < 256) (hq : w.hq h.toNat = q)
    (hen : q.enabled = true) (hown : q.owner = w.me.asid.toNat) : w.withQueue h k = k w h.toNat q := by
  simp [Work.withQueue, Nat.div_eq_of_lt hh, hq, hen, hown]

theorem soleParty_iff {w : Work} {first : Option Nat} :
    w.soleParty first = true ↔ (w.det = true → first = none ∨ first = some w.party) := by
  cases hdet : w.det <;> simp [Work.soleParty, hdet]

theorem noRoom_eq_false_iff {q : HQueue} : q.noRoom = false ↔ recordsIn q + q.pending.length < q.hd + q.rs := by
  rw [HQueue.noRoom, decide_eq_false_iff_not, Nat.not_le]
  rfl

section
variable {s : State} {t c i : Nat} {b : Block} {pr : BitVec 2} {lim : BitVec 5} {l r : Word} {x : Waiting} {q : HQueue}

/-- A QPUSH within its limit tries again with the record that it holds. -/
theorem queueRetry_qpush (h : waitingAt s t c i b (.qpush pr lim) l r x) (hdue : x.due ≤ s.now) (hlim : s.now ≤ x.since + 16 * 2 ^ lim.toNat) :
    (s.work.at_ t c i).queueRetry = some ((s.work.at_ t c i).attemptPush l x.data) := by
  have hwait := waiting_of_left h rfl
  have hnow : (s.work.at_ t c i).now = s.now := rfl
  have hopen : (s.work.at_ t c i).limitPassed = false := by simp [Work.limitPassed, hwait, Work.queueLimit, limClk, hnow, hlim]
  simp [Work.queueRetry, hwait, hopen, hnow, Nat.not_lt.mpr hdue]

theorem attemptPush_otherPusher (h : waitingAt s t c i b (.qpush pr lim) l r x) (hl : l.toNat < 256) (hq : s.work.hq l.toNat = q)
    (hen : q.enabled = true) (hown : q.owner = (s.work.ctx t c).asid.toNat) (hother : (s.work.at_ t c i).soleParty q.pusher = false) :
    (s.work.at_ t c i).attemptPush l x.data = (s.work.at_ t c i).setBlock (waitTrapped b i 0x0B (BitVec.ofNat 64 i)) := by
  rw [Work.attemptPush, withQueue_owned (w := s.work.at_ t c i) hl hq hen hown, hother]
  exact (soleWait_of_waitingAt h).trap_eq _ _

theorem attemptPush_room (h : waitingAt s t c i b (.qpush pr lim) l r x) (hl : l.toNat < 256) (hq : s.work.hq l.toNat = q)
    (hen : q.enabled = true) (hown : q.owner = (s.work.ctx t c).asid.toNat) (hsole : (s.work.at_ t c i).soleParty q.pusher = true)
    (hroom : q.noRoom = false) :
    (s.work.at_ t c i).attemptPush l x.data = ((s.work.at_ t c i).setHq l.toNat
        { q with pending := (t * 4 + c) :: q.pending, pusher := if (s.work.at_ t c i).det then some (t * 4 + c) else q.pusher }).setBlock
      { b with insts := listModify (fun z => { z with phase := .performed }) i b.insts, waits := [],
               effs := b.effs ++ [(i, .qpush l.toNat x.data)] } := by
  have hwait (y : HQueue) : SoleWait ((s.work.at_ t c i).setHq l.toNat y) t c i b x := soleWait_of_waitingAt h
  rw [Work.attemptPush, withQueue_owned (w := s.work.at_ t c i) hl hq hen hown]
  simp only [hsole, hroom, Bool.not_true, Bool.false_eq_true, if_false]
  rw [(hwait _).stopWaiting_eq, Work.effect, Work.onBlock_of (Work.block_setBlock _ _), Work.setBlock_setBlock]
  rfl

/-- A QPUSH whose limit has passed traps QTIMEOUT. -/
theorem queueTimeout_qpush (h : waitingAt s t c i b (.qpush pr lim) l r x) (hlim : x.since + 16 * 2 ^ lim.toNat ≤ s.now) :
    (s.work.at_ t c i).queueTimeout
      = some ((s.work.at_ t c i).setBlock (waitTrapped b i 0x08 (einfoQueue l.toNat (s.work.hq l.toNat)))) := by
  have hnow : (s.work.at_ t c i).now = s.now := rfl
  simp only [Work.queueTimeout, waiting_of_left h rfl, Work.queueLimit, limClk, hnow, hlim, if_true]
  exact congrArg some ((soleWait_of_waitingAt h).stopWaiting_trap _ _)

end

/-! ### WAIT and PAUSE (11 R233, R234) -/

theorem exec_waitPoll (t c i : Nat) (s : State) : exec (.waitPoll t c i) s = happen (fun w => (w.at_ t c i).waitPoll) s := rfl
theorem exec_waitTimeout (t c i : Nat) (s : State) : exec (.waitTimeout t c i) s = happen (fun w => (w.at_ t c i).waitTimeout) s := rfl
theorem exec_pauseDone (t c i : Nat) (s : State) : exec (.pauseDone t c i) s = happen (fun w => (w.at_ t c i).pauseDone) s := rfl

section
variable {s : State} {t c i : Nat} {b : Block} {pr : BitVec 2} {full : BitVec 1} {lim : BitVec 5} {t0 : BitVec 9} {l r : Word} {x : Waiting}
  {w : Work} {pa : Nat} {o : Option Bool}

/-- A WAIT within its limit whose word's bit is the one that it asks for delivers the word. -/
theorem waitPoll_asked (h : waitingAt s t c i b (.wait pr full lim t0) l r x) (hdue : x.due ≤ s.now)
    (hlim : s.now ≤ x.since + 16 * 2 ^ lim.toNat) (hat : reaches { s with focus := ⟨t, c, i⟩ } .test 8 l.toNat w pa none)
    (hbit : w.isFull (pa / 8) = decide (full = 1#1)) :
    (s.work.at_ t c i).waitPoll = some (w.setBlock (waitAnswered s b (.wait pr full lim t0) i (w.word pa) 1)) := by
  have hnow : (s.work.at_ t c i).now = s.now := rfl
  have hasked : (w.bitAt pa none == (full == 1)) = true := by rw [Work.bitAt, hbit]; exact beq_self_eq_true _
  have hsole := (soleWait_of_waitingAt h).of_translated (translated_at hat)
  simp only [Work.waitPoll, waiting_of_left h rfl, limClk, hnow, hdue, hlim, Work.attemptWait, access_at hat l.isLt, hasked, decide_true,
    Bool.and_true, if_true]
  exact congrArg some (hsole.stopWaiting_deliver (now_at hat) _ _)

/-- A WAIT whose limit has passed traps WAIT_TIMEOUT with its word's address. -/
theorem waitTimeout_passed (h : waitingAt s t c i b (.wait pr full lim t0) l r x) (hlim : x.since + 16 * 2 ^ lim.toNat ≤ s.now)
    (hat : reaches { s with focus := ⟨t, c, i⟩ } .test 8 l.toNat w pa o) :
    (s.work.at_ t c i).waitTimeout
      = some (w.setBlock (waitTrapped b i 0x09 (BitVec.ofNat 64 (pa / 8 % 2 ^ 49 * 2 ^ 15 + 5 * 2 ^ 7 + i)))) := by
  have hnow : (s.work.at_ t c i).now = s.now := rfl
  have hsole := (soleWait_of_waitingAt h).of_translated (translated_at hat)
  have hinfo : einfoWait pa false 5 i = BitVec.ofNat 64 (pa / 8 % 2 ^ 49 * 2 ^ 15 + 5 * 2 ^ 7 + i) := by simp [einfoWait, bits]
  simp only [Work.waitTimeout, waiting_of_left h rfl, limClk, hnow, hlim, if_true, Work.timeoutWait, access_at hat l.isLt, hsole.1, hinfo]
  exact congrArg some (hsole.stopWaiting_trap _ _)

/-- A PAUSE whose clk have passed delivers 0. -/
theorem pauseDone_due {units : BitVec 14} (hf : flying s t c b) (hi : b.instr i = some (.pause pr units t0)) (hp : (b.inst i).phase = .waiting)
    (hwaits : b.waits = [x]) (hx : x.idx = i) (hdue : x.due ≤ s.now) :
    (s.work.at_ t c i).pauseDone = some ((s.work.at_ t c i).setBlock (waitAnswered s b (.pause pr units t0) i 0 0)) := by
  have hsole : SoleWait (s.work.at_ t c i) t c i b x := .of_flying hf hwaits hx
  have hnow : (s.work.at_ t c i).now = s.now := rfl
  simp only [Work.pauseDone, hsole.waiting_eq hf.2 hi hp, hnow, hdue, if_true]
  exact congrArg some (hsole.stopWaiting_deliver rfl _ _)

end

/-- The waits of QPUSH, WAIT and PAUSE end as the second half of O28 says. -/
theorem waitsComplete : Claims.WaitsComplete := by
  refine ⟨?push, ?pushLimit, ?wait, ?waitLimit, ?pause⟩
  case push =>
    intro s t c i b pr lim l r x q h hdue hlim hl hq hen hown
    have hparty : (s.work.at_ t c i).party = t * 4 + c := rfl
    refine ⟨fun hdet hnone hother => ?_, fun hdet hroom => ?_⟩
    · have hsole : (s.work.at_ t c i).soleParty q.pusher = false := by
        rw [Bool.eq_false_iff, ne_eq, soleParty_iff, hparty]
        exact fun h => (h hdet).elim hnone hother
      refine (exec_queueWaitRetry t c i s).trans (happen_at_block ?_)
      rw [queueRetry_qpush h hdue hlim, attemptPush_otherPusher h hl hq hen hown hsole]
    · refine (exec_queueWaitRetry t c i s).trans (happen_at (w := (s.work.at_ t c i).setHq _ _) rfl ?_)
      rw [queueRetry_qpush h hdue hlim, attemptPush_room h hl hq hen hown (soleParty_iff.mpr hdet) (noRoom_eq_false_iff.mpr hroom)]
  case pushLimit =>
    intro s t c i b pr lim l r x h hlim
    exact (exec_qtimeout t c i s).trans (happen_at_block (queueTimeout_qpush h hlim))
  case wait =>
    intro s t c i b pr full lim t0 l r x w pa h hdue hlim hal htr hpoison hbit
    have hat := reaches_at hal htr hpoison
    exact (exec_waitPoll t c i s).trans (happen_at (translated_at hat).focus (waitPoll_asked h hdue hlim hat hbit))
  case waitLimit =>
    intro s t c i b pr full lim t0 l r x w pa o h hlim hal htr hpoison
    have hat := reaches_at hal htr hpoison
    exact (exec_waitTimeout t c i s).trans (happen_at (translated_at hat).focus (waitTimeout_passed h hlim hat))
  case pause =>
    intro s t c i b pr units t0 x hf hi hp hwaits hx hdue
    exact (exec_pauseDone t c i s).trans (happen_at_block (pauseDone_due hf hi hp hwaits hx hdue))

/-! ### Accesses of a block without earlier ones (11 R212) -/

section
variable {w : Work} {b : Block} {pa : Nat}

theorem Work.load_setBlock (a n : Nat) : (w.setBlock b).load a n = w.load a n := by
  induction n generalizing a with
  | zero => rfl
  | succ n ih => simp [Work.load, ih, Work.byte]

/-- A block without accesses sees a word's data as memory holds them. -/
theorem Work.viewData_of_noMems (hb : w.block = some b) (hmems : b.mems = []) (hpa : classify pa ≠ .control) (lsid size : Nat) :
    w.viewData lsid pa size none = w.load pa size := by
  simp [Work.viewData, Work.earlier, Work.dataAt, hb, hmems, hpa]

theorem Work.viewBit_of_noMems (hb : w.block = some b) (hmems : b.mems = []) (lsid : Nat) (u : Option Bool) :
    w.viewBit lsid pa u = (w.bitAt pa u, false) := by
  simp [Work.viewBit, Work.earlier, hb, hmems, lastBit]

theorem Work.sendValue_setBlock (ins : Instr) (v : Word) : (w.setBlock b).sendValue (shape ins) v
    = w.setBlock { b with inflight := b.inflight ++ sends ins w.focus.idx (.val v) (w.now + 1) } := by
  rw [Work.sendValue, Work.onBlock_of (Work.block_setBlock w b), Work.setBlock_setBlock, send_eq]
  rfl

theorem Work.perform_setBlock : (w.setBlock b).perform
    = w.setBlock { b with insts := listModify (fun z => { z with phase := .performed }) w.focus.idx b.insts } := by
  rw [Work.perform, Work.onBlock_of (Work.block_setBlock w b), Work.setBlock_setBlock]
  rfl

theorem Work.served_setBlock : (w.setBlock b).served
    = w.setBlock { b with insts := listModify (fun z => { z with phase := .performed }) w.focus.idx b.insts } := Work.perform_setBlock

theorem Work.addEff_setBlock (lsid : Nat) (kind : MemKind) (size : Nat) (v : Word) : (w.setBlock b).addEff lsid kind pa size v
    = w.setBlock { b with mems := insertEff ⟨lsid, w.focus.idx, kind, pa, size, v⟩ b.mems } := by
  rw [Work.addEff, Work.onBlock_of (Work.block_setBlock w b), Work.setBlock_setBlock]
  rfl

theorem Work.waitOf_setBlock (hwaits : b.waits = []) : (w.setBlock b).waitOf = none := by simp [Work.waitOf, hwaits]

end

/-- The model's effective address of a load is that of the statements (11 R216). -/
theorem loadEa_eq (a : Word) (o : BitVec 9) (size : Nat) : loadEa a o size = loadAddr a o size := by
  have hsum : a + o.signExtend 64 * BitVec.ofNat 64 size = BitVec.ofInt 64 (a.toNat + o.toInt * size) := by
    rw [BitVec.ofInt_add, BitVec.ofInt_mul, BitVec.ofInt_natCast, BitVec.ofInt_natCast, BitVec.ofNat_toNat, BitVec.setWidth_eq, BitVec.signExtend]
  rw [loadEa, hsum, BitVec.toNat_ofInt]
  rfl

/-- SWP writes its operand (11 R218). -/
theorem aopNew_swap (old : Nat) (v : Word) : BitVec.ofNat 64 (aopNew 8 8 old v.toNat) = v := by
  simp only [aopNew, low]
  rw [Nat.mod_eq_of_lt v.isLt, BitVec.ofNat_toNat, BitVec.setWidth_eq]

/-! ### Retries (05 R101, R106; 11 R213) -/

theorem exec_waitRetry (t c i : Nat) (s : State) : exec (.waitRetry t c i) s
    = happen (fun w => (w.at_ t c i).waitRetry.filter (fun u => !u.writesClaimed (some (w.at_ t c i).party))) s := rfl
theorem exec_claimWaitEnd (t c i : Nat) (s : State) : exec (.claimWaitEnd t c i) s = happen (fun w => (w.at_ t c i).claimWaitEnd) s := rfl
theorem exec_reservationExpire (k : Nat) (s : State) : exec (.reservationExpire k) s = happen (fun w => w.reservationExpire k) s := rfl

section
variable {s : State} {t c i : Nat} {b : Block} {pr : BitVec 2} {n : BitVec 5} {o t0 : BitVec 9} {l r : Word} {x : Waiting} {w : Work}
  {pa : Nat}

/-- A waiting load that finds its word FULL delivers it. -/
theorem attemptLoad_full (h : waitingAt s t c i b (.ldw8 pr n o t0) l r x) (hmems : b.mems = [])
    (hat : reaches { s with focus := ⟨t, c, i⟩ } .waitLoad 8 (loadAddr l o 8) w pa none) (hfull : w.isFull (pa / 8) = true)
    (hpa : classify pa ≠ .control) (tries : Nat) :
    (s.work.at_ t c i).attemptLoad .waitLoad (shape (.ldw8 pr n o t0)) 8 n.toNat o l tries
      = w.setBlock (waitAnswered s b (.ldw8 pr n o t0) i (w.word pa) 1) := by
  have hsole := (soleWait_of_waitingAt h).of_translated (translated_at hat)
  have hlt : loadAddr l o 8 < 2 ^ 64 := by rw [← loadEa_eq]; exact BitVec.isLt _
  have hready : w.viewBit n.toNat pa none = (true, false) := by rw [Work.viewBit_of_noMems hsole.2.1 hmems, Work.bitAt, hfull]
  have hdata := Work.viewData_of_noMems (w := w.setBlock { b with waits := [] }) (Work.block_setBlock _ _) hmems hpa n.toNat 8
  rw [Work.attemptLoad, Work.attempt, loadEa_eq, access_at hat hlt]
  simp only [hready, hsole.stopWaiting_eq, hdata, Work.load_setBlock]
  simp [Work.sendValue_setBlock, Work.perform_setBlock, hsole.1, now_at hat, waitAnswered, Work.word]

/-- The first clause of O28 with the premise that it lacks: what the load's translation has marked is no word that another context claims. -/
theorem waitRetry_delivers (h : waitingAt s t c i b (.ldw8 pr n o t0) l r x) (hword : x.word ≠ none) (hdue : x.due ≤ s.now) (hmems : b.mems = [])
    (hat : reaches { s with focus := ⟨t, c, i⟩ } .waitLoad 8 (loadAddr l o 8) w pa none) (hfull : w.isFull (pa / 8) = true)
    (hpa : classify pa ≠ .control) (hclear : w.writesClaimed (some (t * 4 + c)) = false) :
    exec (.waitRetry t c i) s = .next (blockSet s w t c (waitAnswered s b (.ldw8 pr n o t0) i (w.word pa) 1)) := by
  have hnow : (s.work.at_ t c i).now = s.now := rfl
  have hretry : (s.work.at_ t c i).waitRetry = some (w.setBlock (waitAnswered s b (.ldw8 pr n o t0) i (w.word pa) 1)) := by
    simp [Work.waitRetry, waiting_of_left h rfl, Option.isNone_iff_eq_none, hword, hnow, Nat.not_lt.mpr hdue, retryAccess,
      attemptLoad_full h hmems hat hfull hpa]
  have hfree : (w.setBlock (waitAnswered s b (.ldw8 pr n o t0) i (w.word pa) 1)).writesClaimed (some (s.work.at_ t c i).party) = false := hclear
  exact (exec_waitRetry t c i s).trans (happen_at (f := fun v => v.waitRetry.filter (fun u => !u.writesClaimed (some v.party)))
    (translated_at hat).focus (by simp [hretry, Option.filter, hfree]))

/-- An SWP whose word no other context claims takes the word's data, claims it and leaves its operand for commit. -/
theorem attemptAmo_swap (h : waitingAt s t c i b (.amo pr n 8 0 t0) l r x) (hmems : b.mems = []) (hdet : (s.work.at_ t c i).det = false)
    (hat : reaches { s with focus := ⟨t, c, i⟩ } .atomic 8 l.toNat w pa none) (hpa : classify pa ≠ .control)
    (hfree : w.claimedOther (pa / 8) (t * 4 + c) = false) :
    (s.work.at_ t c i).attemptAmo (shape (.amo pr n 8 0 t0)) n.toNat 8 8 l r = (w.claim (pa / 8) (t * 4 + c) i).setBlock
      { waitAnswered s b (.amo pr n 8 0 t0) i (w.word pa) 1 with mems := [⟨n.toNat, i, .amo, pa, 8, r⟩] } := by
  have hsole := (soleWait_of_waitingAt h).of_translated (translated_at hat)
  have hparty : w.party = t * 4 + c := (translated_at hat).party
  have hdata := Work.viewData_of_noMems hsole.2.1 hmems hpa n.toNat 8
  have hclaim (v : Block) : (w.setBlock v).claim (pa / 8) (t * 4 + c) i = (w.claim (pa / 8) (t * 4 + c) i).setBlock v := rfl
  have hnow := now_at hat
  have hclaimed : (w.claim (pa / 8) (t * 4 + c) i).focus = ⟨t, c, i⟩ ∧ (w.claim (pa / 8) (t * 4 + c) i).now = s.now :=
    ⟨hsole.1, hnow⟩
  rw [Work.attemptAmo, hdet, if_neg Bool.false_ne_true, access_at hat l.isLt]
  simp only [hparty, hfree, hdata, hsole.stopWaiting_eq, hsole.1, hclaim, aopNew_swap, Work.addEff_setBlock, Work.sendValue_setBlock,
    Work.served_setBlock, hclaimed]
  simp [hmems, insertEff, waitAnswered, Work.word]

/-- The second clause of O28: an AMO held back by a claim acts when the claim has ended. -/
theorem claimWaitEnd_acts (h : waitingAt s t c i b (.amo pr n 8 0 t0) l r x) (hword : x.word = none) (hmems : b.mems = [])
    (hdet : (s.work.at_ t c i).det = false) (hat : reaches { s with focus := ⟨t, c, i⟩ } .atomic 8 l.toNat w pa none)
    (hpa : classify pa ≠ .control) (hfree : w.claimedOther (pa / 8) (t * 4 + c) = false) :
    exec (.claimWaitEnd t c i) s = .next (blockSet s (w.claim (pa / 8) (t * 4 + c) i) t c
      { waitAnswered s b (.amo pr n 8 0 t0) i (w.word pa) 1 with mems := [⟨n.toNat, i, .amo, pa, 8, r⟩] }) := by
  have hop : (8 : BitVec 5).toNat = 8 ∧ accSize 0 = 8 := ⟨rfl, rfl⟩
  have hdone := Work.waitOf_setBlock (w := w.claim (pa / 8) (t * 4 + c) i)
    (b := { waitAnswered s b (.amo pr n 8 0 t0) i (w.word pa) 1 with mems := [⟨n.toNat, i, .amo, pa, 8, r⟩] }) rfl
  refine (exec_claimWaitEnd t c i s).trans (happen_at (w := w.claim (pa / 8) (t * 4 + c) i) (translated_at hat).focus ?_)
  simp only [Work.claimWaitEnd, waiting_of_both h rfl rfl, retryAccess, hop, attemptAmo_swap h hmems hdet hat hpa hfree, hword, hdone]
  rfl

/-- The third clause of O28: a reservation that 4,096 clk have outlasted lapses. -/
theorem reservationExpire_lapses {k : Nat} {y : Resv} (hresv : s.core.resv = [y]) (hy : y.word = k) (hold : y.since + 4096 ≤ s.now) :
    exec (.reservationExpire k) s = .next (s.put { s.work with core := { s.core with resv := [] } }) := by
  have hlapse : s.work.reservationExpire k = some { s.work with core := { s.core with resv := [] } } := by
    simp [Work.reservationExpire, hresv, hy, hold]
  exact (exec_reservationExpire k s).trans (happen_some hlapse)

end

end Sys2Proof.Machine
end

section
/-! SUPPORT. Where retries and resets fail on a machine whose tables are not what the rules make them: a TLB entry read from an address that
R109 allows no entry, and a parking record that names another context than its own (R103). -/

namespace Sys2Proof.Machine

open Sys2Proof Sys2Proof.Claims Sys2Proof.Laws

/-! ### A mark beside its entry keeps a retry waiting (05 R101, R109, R110; 11 R213) -/

/-- A translation whose entry was read from byte 4, where no table of R109 has an entry: marking it accessed writes words 0 and 1. -/
def straddlingEntry : TlbEntry := { asid := 0, gl := false, base := 0, lg := 16, frame := 0, bits := 0x20, entry := 4 }

/-- The wait of an LDW8 on word 2, due at once. -/
def wordWait : Waiting := { idx := 0, since := 0, tries := 0, due := 0, word := some 2 }

/-- A block of one LDW8 that waits, its base the address of word 2. -/
def loadingBlock : Block :=
  { addr := 0x400, words := [encode (.ldw8 0 0 0 0x180)], writes := [], held := [], nr := 0, ns := 0, fw := true
    insts := [{ left := some (.val 16), phase := .waiting }], waits := [wordWait] }

/-- The load waits in context 0 of tile 0. Its word is FULL by now, but another context claims word 1, which the mark of the load's own
translation would write. -/
def claimBesideMark : State :=
  { State.reset with
      full := [2]
      core := { claims := [{ word := 1, party := 5, idx := 0 }]
                tiles := [(0, { ctxs := [(0, { status := .running, fw := true, block := some loadingBlock })]
                                tlb := [straddlingEntry] })] } }

/-- The translation of the load's address: the machine with the entry marked, and the physical address. -/
def markedWord : Work × Xlat :=
  (claimBesideMark.work.at_ 0 0 0).translate (claimBesideMark.work.at_ 0 0 0).who .waitLoad 8
    ((claimBesideMark.work.ctx 0 0).dseg.toNat * 2 ^ 64 + loadAddr 16 0 8)

theorem claimBesideMark_waitingAt : waitingAt claimBesideMark 0 0 0 loadingBlock (.ldw8 0 0 0 0x180) 16 0 wordWait := by
  unfold waitingAt flying; decide +kernel

theorem markedWord_reaches : markedWord = (markedWord.1, .ok 16 none) := Prod.ext rfl (by decide +kernel)

theorem markedWord_full : markedWord.1.poisonOf 16 = none ∧ markedWord.1.isFull (16 / 8) = true := by decide +kernel

/-- What the retry would leave writes a word that another context claims, so that it does not happen (R213). -/
theorem claimBesideMark_retry_heldBack : exec (.waitRetry 0 0 0) claimBesideMark = .fault .notEnabled := by
  rw [exec_waitRetry]
  exact happen_none (Option.isNone_iff_eq_none.mp (by decide +kernel))

/-- Refutes O28: in its first clause a load that finds its word FULL does not deliver it where its translation has still to mark an entry
that lies across two words, the second of them claimed by another context. -/
theorem not_retriesAndWaitsEnd : ¬ Obligations.RetriesAndWaitsEnd := by
  intro ⟨⟨hload, _, _⟩, _⟩
  have hdelivers := hload claimBesideMark 0 0 0 loadingBlock 0 0 0 0x180 16 0 wordWait markedWord.1 16 claimBesideMark_waitingAt (by decide)
    (by decide) rfl (by decide) markedWord_reaches markedWord_full.1 markedWord_full.2 (by decide)
  rw [claimBesideMark_retry_heldBack] at hdelivers
  nomatch hdelivers

/-! ### A late commit wakes a context that has been reset (05 R103, R105; 01 R36; 11 R232; 23 R430) -/

/-- A block whose commit has begun and has still to log a random value by a filling store to word 0 (R238). -/
def lateLogger : Block :=
  { addr := 0x400, words := [], writes := [], held := [], nr := 0, ns := 0, fw := true, insts := [], late := some [.seed 0 1] }

/-- Tile 1 of cluster 0 holds that block, and a context parked on word 0 with its record at byte 128. The record, first in its list at byte
64, names context 0 of tile 0, which is as at reset. -/
def strayRecord : State :=
  { State.reset with
      mem := [(64, 128), (134, 0x10)]
      core := { watched := [0]
                asids := [(0, { ribbon := some 64 })]
                tiles := [(1, { ctxs := [(0, { status := .running, block := some lateLogger }),
                                         (1, { status := .parked, park := some { word := 0, kind := 1, record := 128 } })] })] } }

/-- The status of a context in the state that an event leaves, if it happens. -/
def statusAfter (t c : Nat) : Host.Outcome State Fault Refusal → Option CtxStatus
  | .next u => some (u.work.ctx t c).status
  | .fault _ | .refused _ => none

/-- Cluster 0 loses its power, tile 0 before tile 1: tile 1's commit is completed, its filling store walks the list and makes the reset
context of tile 0 ready. -/
theorem strayRecord_powerLoss_wakes : statusAfter 0 0 (exec (.forcedPowerLoss 0) strayRecord) = some .ready := by decide +kernel

/-- Refutes O54: in its last clause a tile of a cluster that loses its power does not keep every context as at reset, where a later tile
of the cluster has a commit to complete and a parking record names a context that is not parked. -/
theorem not_tilesAndTranslationsGo : ¬ Obligations.TilesAndTranslationsGo := by
  intro ⟨_, _, _, hloss⟩
  obtain ⟨u, hnext, _, htiles⟩ := hloss strayRecord 0 (by decide)
  have hreset : u.work.ctx 0 0 = {} := (htiles 0 (by unfold inCluster; decide)).1 0
  have hwoken := strayRecord_powerLoss_wakes
  rw [hnext, statusAfter, hreset] at hwoken
  nomatch hwoken

end Sys2Proof.Machine
end

section
/-! SUPPORT. Decode and encode agree (07 R145, R148): what holds of each row holds of every instruction. -/

namespace Sys2Proof.Laws.RoundTrip

open Sys2Proof

/-- Decode gives back every instruction that a word encodes; an event has no word. -/
theorem decode_encode (i : Instr) : Statement i := by
  cases i with
  | add pr t1 t0 => exact add pr t1 t0 | sub pr t1 t0 => exact sub pr t1 t0 | and pr t1 t0 => exact and pr t1 t0
  | or pr t1 t0 => exact or pr t1 t0 | xor pr t1 t0 => exact xor pr t1 t0 | andn pr t1 t0 => exact andn pr t1 t0
  | orn pr t1 t0 => exact orn pr t1 t0 | xnor pr t1 t0 => exact xnor pr t1 t0 | shl pr t1 t0 => exact shl pr t1 t0
  | shr pr t1 t0 => exact shr pr t1 t0 | sar pr t1 t0 => exact sar pr t1 t0 | rol pr t1 t0 => exact rol pr t1 t0
  | ror pr t1 t0 => exact ror pr t1 t0 | min pr t1 t0 => exact min pr t1 t0 | max pr t1 t0 => exact max pr t1 t0
  | minu pr t1 t0 => exact minu pr t1 t0 | maxu pr t1 t0 => exact maxu pr t1 t0 | addw pr t1 t0 => exact addw pr t1 t0
  | subw pr t1 t0 => exact subw pr t1 t0 | mul pr t1 t0 => exact mul pr t1 t0 | mulh pr t1 t0 => exact mulh pr t1 t0
  | mulhu pr t1 t0 => exact mulhu pr t1 t0 | mulhsu pr t1 t0 => exact mulhsu pr t1 t0 | div pr t1 t0 => exact div pr t1 t0
  | divu pr t1 t0 => exact divu pr t1 t0 | rem pr t1 t0 => exact rem pr t1 t0 | remu pr t1 t0 => exact remu pr t1 t0
  | mulw pr t1 t0 => exact mulw pr t1 t0 | divw pr t1 t0 => exact divw pr t1 t0 | divuw pr t1 t0 => exact divuw pr t1 t0
  | remw pr t1 t0 => exact remw pr t1 t0 | remuw pr t1 t0 => exact remuw pr t1 t0 | clz pr t1 t0 => exact clz pr t1 t0
  | ctz pr t1 t0 => exact ctz pr t1 t0 | popc pr t1 t0 => exact popc pr t1 t0 | brev pr t1 t0 => exact brev pr t1 t0
  | bswap pr t1 t0 => exact bswap pr t1 t0 | sextb pr t1 t0 => exact sextb pr t1 t0 | sexth pr t1 t0 => exact sexth pr t1 t0
  | sextw pr t1 t0 => exact sextw pr t1 t0 | zextb pr t1 t0 => exact zextb pr t1 t0 | zexth pr t1 t0 => exact zexth pr t1 t0
  | zextw pr t1 t0 => exact zextw pr t1 t0 | addi pr imm t0 => exact addi pr imm t0 | andi pr imm t0 => exact andi pr imm t0
  | ori pr imm t0 => exact ori pr imm t0 | xori pr imm t0 => exact xori pr imm t0 | shli pr cnt t0 => exact shli pr cnt t0
  | shri pr cnt t0 => exact shri pr cnt t0 | sari pr cnt t0 => exact sari pr cnt t0 | muli pr imm t0 => exact muli pr imm t0
  | ext pr len pos t0 => exact ext pr len pos t0 | exts pr len pos t0 => exact exts pr len pos t0
  | ins pr len pos t0 => exact ins pr len pos t0 | lea1 pr t1 t0 => exact lea1 pr t1 t0 | lea2 pr t1 t0 => exact lea2 pr t1 t0
  | lea4 pr t1 t0 => exact lea4 pr t1 t0 | lea8 pr t1 t0 => exact lea8 pr t1 t0 | lea16 pr t1 t0 => exact lea16 pr t1 t0
  | teq pr t1 t0 => exact teq pr t1 t0 | tne pr t1 t0 => exact tne pr t1 t0 | tlt pr t1 t0 => exact tlt pr t1 t0
  | tle pr t1 t0 => exact tle pr t1 t0 | tgt pr t1 t0 => exact tgt pr t1 t0 | tge pr t1 t0 => exact tge pr t1 t0
  | tltu pr t1 t0 => exact tltu pr t1 t0 | tleu pr t1 t0 => exact tleu pr t1 t0 | tgtu pr t1 t0 => exact tgtu pr t1 t0
  | tgeu pr t1 t0 => exact tgeu pr t1 t0 | tbs pr t1 t0 => exact tbs pr t1 t0 | tbc pr t1 t0 => exact tbc pr t1 t0
  | teqi pr imm t0 => exact teqi pr imm t0 | tnei pr imm t0 => exact tnei pr imm t0 | tlti pr imm t0 => exact tlti pr imm t0
  | tlei pr imm t0 => exact tlei pr imm t0 | tgti pr imm t0 => exact tgti pr imm t0 | tgei pr imm t0 => exact tgei pr imm t0
  | tltui pr imm t0 => exact tltui pr imm t0 | tgeui pr imm t0 => exact tgeui pr imm t0 | genc imm t0 => exact genc imm t0
  | appc imm t0 => exact appc imm t0 | mov pr t1 t0 => exact mov pr t1 t0 | movi pr imm t0 => exact movi pr imm t0
  | null pr t1 t0 => exact null pr t1 t0 | br pr exit off => exact br pr exit off | call pr exit off => exact call pr exit off
  | badr pr imm t0 => exact badr pr imm t0 | bri pr exit => exact bri pr exit | calli pr exit => exact calli pr exit
  | ret pr exit => exact ret pr exit | faddD pr rm t1 t0 => exact faddD pr rm t1 t0 | fsubD pr rm t1 t0 => exact fsubD pr rm t1 t0
  | fmulD pr rm t1 t0 => exact fmulD pr rm t1 t0 | fdivD pr rm t1 t0 => exact fdivD pr rm t1 t0
  | fsqrtD pr rm t1 t0 => exact fsqrtD pr rm t1 t0 | fmaD rm t1 t0 => exact fmaD rm t1 t0 | fmsD rm t1 t0 => exact fmsD rm t1 t0
  | fnmaD rm t1 t0 => exact fnmaD rm t1 t0 | faddS pr rm t1 t0 => exact faddS pr rm t1 t0 | fsubS pr rm t1 t0 => exact fsubS pr rm t1 t0
  | fmulS pr rm t1 t0 => exact fmulS pr rm t1 t0 | fdivS pr rm t1 t0 => exact fdivS pr rm t1 t0
  | fsqrtS pr rm t1 t0 => exact fsqrtS pr rm t1 t0 | fmaS rm t1 t0 => exact fmaS rm t1 t0 | fmsS rm t1 t0 => exact fmsS rm t1 t0
  | fnmaS rm t1 t0 => exact fnmaS rm t1 t0 | fmin pr wid t1 t0 => exact fmin pr wid t1 t0 | fmax pr wid t1 t0 => exact fmax pr wid t1 t0
  | fneg pr wid t1 t0 => exact fneg pr wid t1 t0 | fabs pr wid t1 t0 => exact fabs pr wid t1 t0
  | fcpys pr wid t1 t0 => exact fcpys pr wid t1 t0 | fclass pr wid t1 t0 => exact fclass pr wid t1 t0
  | fteq pr wid t1 t0 => exact fteq pr wid t1 t0 | ftlt pr wid t1 t0 => exact ftlt pr wid t1 t0
  | ftle pr wid t1 t0 => exact ftle pr wid t1 t0 | ftun pr wid t1 t0 => exact ftun pr wid t1 t0 | fcvtDS pr t1 t0 => exact fcvtDS pr t1 t0
  | fcvtSD pr rm t1 t0 => exact fcvtSD pr rm t1 t0 | fcvtDI pr rm t1 t0 => exact fcvtDI pr rm t1 t0
  | fcvtDN pr rm t1 t0 => exact fcvtDN pr rm t1 t0 | fcvtID pr rm t1 t0 => exact fcvtID pr rm t1 t0
  | fcvtND pr rm t1 t0 => exact fcvtND pr rm t1 t0 | fcvtSI pr rm t1 t0 => exact fcvtSI pr rm t1 t0
  | fcvtIS pr rm t1 t0 => exact fcvtIS pr rm t1 t0 | ld1 pr lsid imm t0 => exact ld1 pr lsid imm t0
  | ld1s pr lsid imm t0 => exact ld1s pr lsid imm t0 | ld2 pr lsid imm t0 => exact ld2 pr lsid imm t0
  | ld2s pr lsid imm t0 => exact ld2s pr lsid imm t0 | ld4 pr lsid imm t0 => exact ld4 pr lsid imm t0
  | ld4s pr lsid imm t0 => exact ld4s pr lsid imm t0 | ld8 pr lsid imm t0 => exact ld8 pr lsid imm t0
  | tstfe pr lsid imm t0 => exact tstfe pr lsid imm t0 | ldw1 pr lsid imm t0 => exact ldw1 pr lsid imm t0
  | ldw2 pr lsid imm t0 => exact ldw2 pr lsid imm t0 | ldw4 pr lsid imm t0 => exact ldw4 pr lsid imm t0
  | ldw8 pr lsid imm t0 => exact ldw8 pr lsid imm t0 | ldc1 pr lsid imm t0 => exact ldc1 pr lsid imm t0
  | ldc2 pr lsid imm t0 => exact ldc2 pr lsid imm t0 | ldc4 pr lsid imm t0 => exact ldc4 pr lsid imm t0
  | ldc8 pr lsid imm t0 => exact ldc8 pr lsid imm t0 | st1 pr lsid imm => exact st1 pr lsid imm | st2 pr lsid imm => exact st2 pr lsid imm
  | st4 pr lsid imm => exact st4 pr lsid imm | st8 pr lsid imm => exact st8 pr lsid imm | stf1 pr lsid imm => exact stf1 pr lsid imm
  | stf2 pr lsid imm => exact stf2 pr lsid imm | stf4 pr lsid imm => exact stf4 pr lsid imm | stf8 pr lsid imm => exact stf8 pr lsid imm
  | ste1 pr lsid imm => exact ste1 pr lsid imm | ste2 pr lsid imm => exact ste2 pr lsid imm | ste4 pr lsid imm => exact ste4 pr lsid imm
  | ste8 pr lsid imm => exact ste8 pr lsid imm | amo pr lsid aop wid t0 => exact amo pr lsid aop wid t0
  | cas lsid wid t0 => exact cas lsid wid t0 | red pr lsid aop wid => exact red pr lsid aop wid | fence pr scope => exact fence pr scope
  | qpush pr lim => exact qpush pr lim | qpop pr lim t1 t0 => exact qpop pr lim t1 t0 | qpeek pr t1 t0 => exact qpeek pr t1 t0
  | qstat pr t1 t0 => exact qstat pr t1 t0 | qcfg pr t1 t0 => exact qcfg pr t1 t0 | cqpop pr lim t1 t0 => exact cqpop pr lim t1 t0
  | cqpush pr lim => exact cqpush pr lim | wait pr full lim t0 => exact wait pr full lim t0 | mfs pr id t0 => exact mfs pr id t0
  | mts pr id => exact mts pr id | trap pr code => exact trap pr code | eret pr => exact eret pr | halt pr => exact halt pr
  | pause pr units t0 => exact pause pr units t0 | rseed pr t1 t0 => exact rseed pr t1 t0 | rnext pr t1 t0 => exact rnext pr t1 t0
  | spawnc pr t1 t0 => exact spawnc pr t1 t0 | cfgld pr t1 t0 => exact cfgld pr t1 t0 | cfgstrm pr t1 t0 => exact cfgstrm pr t1 t0
  | cfgsw pr t1 t0 => exact cfgsw pr t1 t0 | cfgabort pr t1 t0 => exact cfgabort pr t1 t0 | arm pr t1 t0 => exact arm pr t1 t0
  | drain pr t1 t0 => exact drain pr t1 t0 | inject pr => exact inject pr | sinkrd pr t1 t0 => exact sinkrd pr t1 t0
  | kwait pr lim t1 t0 => exact kwait pr lim t1 t0 | cpy pr mode => exact cpy pr mode | cpyfeOut pr => exact cpyfeOut pr
  | cpyfeIn pr => exact cpyfeIn pr | impose pr => exact impose pr | imprel pr => exact imprel pr | allocT pr t1 t0 => exact allocT pr t1 t0
  | allocN pr t1 t0 => exact allocN pr t1 t0 | free pr => exact free pr | poolgrow pr => exact poolgrow pr
  | cwprobe pr t1 t0 => exact cwprobe pr t1 t0 | cwstore pr => exact cwstore pr | cwinv pr => exact cwinv pr | dgst pr => exact dgst pr
  | wcfg pr => exact wcfg pr | wrun pr => exact wrun pr | wld pr wd km => exact wld pr wd km | wst pr wd km => exact wst pr wd km
  | wmovD pr wd wa km => exact wmovD pr wd wa km | waddD pr wd wa wb km => exact waddD pr wd wa wb km
  | wmulD pr wd wa wb km => exact wmulD pr wd wa wb km | wfmaD pr wd wa wb km => exact wfmaD pr wd wa wb km
  | wminD pr wd wa wb km => exact wminD pr wd wa wb km | wmaxD pr wd wa wb km => exact wmaxD pr wd wa wb km
  | wcmpD pr cond kd wa wb km => exact wcmpD pr cond kd wa wb km | wselD pr wd wa wb km => exact wselD pr wd wa wb km
  | wcvtD pr wd wa kind km => exact wcvtD pr wd wa kind km | wredD pr wd wa rop km => exact wredD pr wd wa rop km
  | wvarD pr wd wa opt km => exact wvarD pr wd wa opt km | wshufD pr wd wa wb km => exact wshufD pr wd wa wb km
  | wmovS pr wd wa km => exact wmovS pr wd wa km | waddS pr wd wa wb km => exact waddS pr wd wa wb km
  | wmulS pr wd wa wb km => exact wmulS pr wd wa wb km | wfmaS pr wd wa wb km => exact wfmaS pr wd wa wb km
  | wminS pr wd wa wb km => exact wminS pr wd wa wb km | wmaxS pr wd wa wb km => exact wmaxS pr wd wa wb km
  | wcmpS pr cond kd wa wb km => exact wcmpS pr cond kd wa wb km | wselS pr wd wa wb km => exact wselS pr wd wa wb km
  | wcvtS pr wd wa kind km => exact wcvtS pr wd wa kind km | wredS pr wd wa rop km => exact wredS pr wd wa rop km
  | wvarS pr wd wa opt km => exact wvarS pr wd wa opt km | wshufS pr wd wa wb km => exact wshufS pr wd wa wb km
  | xacc pr xd wa wb ksel => exact xacc pr xd wa wb ksel | xadd pr xd xs => exact xadd pr xd xs | xclr pr xd => exact xclr pr xd
  | xmov pr xd xs => exact xmov pr xd xs | xst pr xs => exact xst pr xs | xld pr xd => exact xld pr xd
  | xsgn pr acc t1 t0 => exact xsgn pr acc t1 t0 | xrnd pr rm acc t1 t0 => exact xrnd pr rm acc t1 t0
  | _ => exact fun _ h => nomatch h

/-- Settles O1, by the round trip of each row. -/
theorem decodeGivesBackEncodings : Obligations.DecodeGivesBackEncodings := decode_encode

end Sys2Proof.Laws.RoundTrip
end

section
/-! SUPPORT. Every word that decodes is the word of what it decodes to (07 R145, R148, R153): a word is packed from its fields, format by
format, and each row of the operation table reads all of them or fixes them. -/

namespace Sys2Proof.Laws.Words

open Sys2Proof

/-- `w` is the word of the Spine instruction `i`. -/
def IsWordOf (w : IWord) (i : Instr) : Prop := i.isEncoded = true ∧ encode i = w

section
variable {w : IWord} {op : BitVec 7} {pr : BitVec 2}

/-! ### A word is packed from its fields (07 R145) -/

theorem packG_fields (w : IWord) : packG (fOp w) (fPr w) (fX w) (fT1 w) (fT0 w) = w := by
  apply BitVec.eq_of_toNat_eq
  simp only [packG, fOp, fPr, fX, fT1, fT0, BitVec.toNat_ofNat]
  omega

theorem packI_fields (w : IWord) : packI (fOp w) (fPr w) (fImm14 w) (fT0 w) = w := by
  apply BitVec.eq_of_toNat_eq
  simp only [packI, fOp, fPr, fImm14, fT0, BitVec.toNat_ofNat]
  omega

theorem packS_fields (w : IWord) : packS (fOp w) (fPr w) (fX w) (fImm18 w) = w := by
  apply BitVec.eq_of_toNat_eq
  simp only [packS, fOp, fPr, fX, fImm18, BitVec.toNat_ofNat]
  omega

theorem packB_fields (w : IWord) : packB (fOp w) (fPr w) (fXHigh3 w) (fOff w) = w := by
  apply BitVec.eq_of_toNat_eq
  simp only [packB, fOp, fPr, fXHigh3, fOff, BitVec.toNat_ofNat]
  omega

theorem packC_fields (w : IWord) : packC (fOp w) (fImm16 w) (fT0 w) = w := by
  apply BitVec.eq_of_toNat_eq
  simp only [packC, fOp, fImm16, fT0, BitVec.toNat_ofNat]
  omega

theorem packEW_fields (w : IWord) : packEW (fOp w) (fPr w) (fX w) (fWd w) (fWa w) (fWb w) (fKm w) = w := by
  apply BitVec.eq_of_toNat_eq
  simp only [packEW, fOp, fPr, fX, fWd, fWa, fWb, fKm, BitVec.toNat_ofNat]
  omega

theorem packEX_fields (w : IWord) (h : fB0 w = 0#1) :
    packEX (fOp w) (fPr w) (fX w) (fXd w) (fXs w) (fXwa w) (fXwb w) (fKsel w) = w := by
  have hbit := congrArg BitVec.toNat h
  apply BitVec.eq_of_toNat_eq
  simp only [packEX, fOp, fPr, fX, fXd, fXs, fXwa, fXwb, fKsel, fB0, BitVec.toNat_ofNat] at hbit ⊢
  omega

/-! ### The word of a row, from what the row says of each field -/

section
variable (hop : (fOp w).toNat = op.toNat)
include hop

theorem packG_eq {x : BitVec 5} {t1 t0 : BitVec 9} (hpr : fPr w = pr) (hx : (fX w).toNat = x.toNat) (h1 : fT1 w = t1) (h0 : fT0 w = t0) :
    packG op pr x t1 t0 = w := by
  rw [← BitVec.eq_of_toNat_eq hop, ← hpr, ← BitVec.eq_of_toNat_eq hx, ← h1, ← h0, packG_fields]

theorem packI_eq {imm : BitVec 14} {t0 : BitVec 9} (himm : fImm14 w = imm) (h0 : fT0 w = t0) : packI op (fPr w) imm t0 = w := by
  rw [← BitVec.eq_of_toNat_eq hop, ← himm, ← h0, packI_fields]

theorem packS_eq {imm : BitVec 18} (himm : fImm18 w = imm) : packS op (fPr w) (fX w) imm = w := by
  rw [← BitVec.eq_of_toNat_eq hop, ← himm, packS_fields]

theorem packB_eq : packB op (fPr w) (fXHigh3 w) (fOff w) = w := by rw [← BitVec.eq_of_toNat_eq hop, packB_fields]

theorem packC_eq : packC op (fImm16 w) (fT0 w) = w := by rw [← BitVec.eq_of_toNat_eq hop, packC_fields]

theorem packEW_eq {x wd wa wb : BitVec 5} (hx : (fX w).toNat = x.toNat) (hd : fWd w = wd) (ha : fWa w = wa) (hb : fWb w = wb) :
    packEW op (fPr w) x wd wa wb (fKm w) = w := by
  rw [← BitVec.eq_of_toNat_eq hop, ← BitVec.eq_of_toNat_eq hx, ← hd, ← ha, ← hb, packEW_fields]

theorem packEX_eq {x wa wb : BitVec 5} {xd xs : BitVec 2} {ksel : BitVec 3} (hbit : fB0 w = 0#1) (hx : fX w = x) (hd : fXd w = xd)
    (hs : fXs w = xs) (ha : fXwa w = wa) (hb : fXwb w = wb) (hk : fKsel w = ksel) : packEX op (fPr w) x xd xs wa wb ksel = w := by
  rw [← BitVec.eq_of_toNat_eq hop, ← hx, ← hd, ← hs, ← ha, ← hb, ← hk, packEX_fields w hbit]

end

/-! ### Fields made of sub-fields (07 R147 to R151) -/

theorem fX_of_high3 {c : BitVec 3} (h : fXHigh3 w = c) : (fX w).toNat = c.toNat * 4 + (fXLow2 w).toNat := by
  rw [← h]
  simp only [fX, fXHigh3, fXLow2, BitVec.toNat_ofNat]
  omega

theorem fX_of_high2 (h : fHi2 w = 0#2) : (fX w).toNat = (fXLow3 w).toNat := by
  have hhi := congrArg BitVec.toNat h
  simp only [fX, fHi2, fXLow3, BitVec.toNat_ofNat] at hhi ⊢
  omega

theorem fX_of_mid4 {c : BitVec 4} (h : fXMid4 w = c) : (fX w).toNat = (fXTop w).toNat * 16 + c.toNat := by
  rw [← h]
  simp only [fX, fXMid4, fXTop, BitVec.toNat_ofNat]
  omega

theorem fX_of_top (h : fXTop w = 1#1) : (fX w).toNat = 16 + (fXrm w).toNat * 4 + (fXLow2 w).toNat := by
  have htop := congrArg BitVec.toNat h
  simp only [fX, fXTop, fXrm, fXLow2, BitVec.toNat_ofNat] at htop ⊢
  omega

theorem fImm14_of_cnt (h : fCntHi w = 0#8) : fImm14 w = BitVec.ofNat 14 (fCnt w).toNat := by
  have hhi := congrArg BitVec.toNat h
  apply BitVec.eq_of_toNat_eq
  simp only [fImm14, fCnt, fCntHi, BitVec.toNat_ofNat] at hhi ⊢
  omega

theorem fImm14_of_span (h : fHi2 w = 0#2) : fImm14 w = BitVec.ofNat 14 ((fLen w).toNat * 2 ^ 6 + (fCnt w).toNat) := by
  have hhi := congrArg BitVec.toNat h
  apply BitVec.eq_of_toNat_eq
  simp only [fImm14, fLen, fCnt, fHi2, BitVec.toNat_ofNat] at hhi ⊢
  omega

theorem fImm14_of_wait (h : fCntHi w = 0#8) : fImm14 w = BitVec.ofNat 14 ((fB14 w).toNat * 2 ^ 5 + (fLimI w).toNat) := by
  have hhi := congrArg BitVec.toNat h
  apply BitVec.eq_of_toNat_eq
  simp only [fImm14, fB14, fLimI, fCntHi, BitVec.toNat_ofNat] at hhi ⊢
  omega

theorem fImm14_of_id (h : fHi2 w = 0#2) : fImm14 w = BitVec.ofNat 14 (fId w).toNat := by
  have hhi := congrArg BitVec.toNat h
  apply BitVec.eq_of_toNat_eq
  simp only [fImm14, fId, fHi2, BitVec.toNat_ofNat] at hhi ⊢
  omega

theorem fT1_of_aop {a : BitVec 5} (ha : fWd w = a) (h : fAmoZ w = 0#3) : fT1 w = BitVec.ofNat 9 (a.toNat * 2 ^ 4 + (fW w).toNat * 2 ^ 3) := by
  have hlow := congrArg BitVec.toNat h
  rw [← ha]
  apply BitVec.eq_of_toNat_eq
  simp only [fT1, fWd, fW, fAmoZ, BitVec.toNat_ofNat] at hlow ⊢
  omega

theorem fImm18_of_aop (h0 : fT0 w = 0#9) (h : fAmoZ w = 0#3) :
    fImm18 w = BitVec.ofNat 18 ((fWd w).toNat * 2 ^ 13 + (fW w).toNat * 2 ^ 12) := by
  have hlow := congrArg BitVec.toNat h0
  have hmid := congrArg BitVec.toNat h
  apply BitVec.eq_of_toNat_eq
  simp only [fImm18, fT0, fWd, fW, fAmoZ, BitVec.toNat_ofNat] at hlow hmid ⊢
  omega

theorem fWd_of_cond (w : IWord) : fWd w = BitVec.ofNat 5 ((fXd w).toNat * 2 ^ 3 + (fKd w).toNat) := by
  apply BitVec.eq_of_toNat_eq
  simp only [fWd, fXd, fKd, BitVec.toNat_ofNat]
  omega

theorem fWb_of_red (h : fRedHi w = 0#3) : fWb w = BitVec.ofNat 5 (fRed w).toNat := by
  have hhi := congrArg BitVec.toNat h
  apply BitVec.eq_of_toNat_eq
  simp only [fWb, fRed, fRedHi, BitVec.toNat_ofNat] at hhi ⊢
  omega

theorem fWb_of_opt (h : fWbHi4 w = 0#4) : fWb w = BitVec.ofNat 5 (fB3 w).toNat := by
  have hhi := congrArg BitVec.toNat h
  apply BitVec.eq_of_toNat_eq
  simp only [fWb, fB3, fWbHi4, BitVec.toNat_ofNat] at hhi ⊢
  omega

/-! ### The shapes that rows share -/

section
variable (hop : (fOp w).toNat = op.toNat)
include hop

/-- A row of format G whose xop has its high bits fixed. -/
theorem packG_high3 {c : BitVec 3} {n : Nat} (hpr : fPr w = pr) (h : fXHigh3 w = c)
    (hn : n = c.toNat * 4 + (fXLow2 w).toNat := by simp) : packG op pr (BitVec.ofNat 5 n) (fT1 w) (fT0 w) = w := by
  have hx : (fX w).toNat = (BitVec.ofNat 5 n).toNat := by
    rw [hn, ← fX_of_high3 h, BitVec.ofNat_toNat, BitVec.setWidth_eq]
  exact packG_eq hop hpr hx rfl rfl

/-- A row of format G whose xop has its low four bits fixed. -/
theorem packG_mid4 {c : BitVec 4} {n : Nat} (h : fXMid4 w = c) (hn : n = (fXTop w).toNat * 16 + c.toNat := by simp) :
    packG op (fPr w) (BitVec.ofNat 5 n) (fT1 w) (fT0 w) = w := by
  have hx : (fX w).toNat = (BitVec.ofNat 5 n).toNat := by
    rw [hn, ← fX_of_mid4 h, BitVec.ofNat_toNat, BitVec.setWidth_eq]
  exact packG_eq hop rfl hx rfl rfl

/-- A row whose xop is fixed, with two targets. -/
theorem packG_targets {x : BitVec 5} (g : (fX w == x) = true) : packG op (fPr w) x (fT1 w) (fT0 w) = w :=
  packG_eq hop rfl (congrArg _ (beq_iff_eq.mp g)) rfl rfl

/-- A row whose xop is fixed, without targets. -/
theorem packG_bare {x : BitVec 5} (g : (fX w == x && fT1 w == 511#9 && fT0 w == 511#9) = true) : packG op (fPr w) x 511#9 511#9 = w := by
  simp only [Bool.and_eq_true, beq_iff_eq] at g
  obtain ⟨⟨hx, h1⟩, h0⟩ := g
  exact packG_eq hop rfl (congrArg _ hx) h1 h0

/-- A row whose xop is an operand, without targets. -/
theorem packG_limit (g : (fT1 w == 511#9 && fT0 w == 511#9) = true) : packG op (fPr w) (fX w) 511#9 511#9 = w := by
  simp only [Bool.and_eq_true, beq_iff_eq] at g
  exact packG_eq hop rfl rfl g.1 g.2

/-- A row whose xop holds an operand of three bits, without targets. -/
theorem packG_low3 (g : (fT1 w == 511#9 && fT0 w == 511#9 && fHi2 w == 0#2) = true) :
    packG op (fPr w) (BitVec.ofNat 5 (fXLow3 w).toNat) 511#9 511#9 = w := by
  simp only [Bool.and_eq_true, beq_iff_eq] at g
  obtain ⟨⟨h1, h0⟩, hhi⟩ := g
  have hx : (fX w).toNat = (BitVec.ofNat 5 (fXLow3 w).toNat).toNat := by
    rw [← fX_of_high2 hhi, BitVec.ofNat_toNat, BitVec.setWidth_eq]
  exact packG_eq hop rfl hx h1 h0

/-- A shift by a constant. -/
theorem packI_cnt (g : (fCntHi w == 0#8) = true) : packI op (fPr w) (BitVec.ofNat 14 (fCnt w).toNat) (fT0 w) = w :=
  packI_eq hop (fImm14_of_cnt (beq_iff_eq.mp g)) rfl

/-- A bit field. -/
theorem packI_span (g : (fHi2 w == 0#2) = true) :
    packI op (fPr w) (BitVec.ofNat 14 ((fLen w).toNat * 2 ^ 6 + (fCnt w).toNat)) (fT0 w) = w :=
  packI_eq hop (fImm14_of_span (beq_iff_eq.mp g)) rfl

/-- MTS: the identifier's high bits are 0, without a target. -/
theorem packI_mts (g : (fHi2 w == 0#2 && fT0 w == 511#9) = true) : packI op (fPr w) (BitVec.ofNat 14 (fId w).toNat) 511#9 = w := by
  simp only [Bool.and_eq_true, beq_iff_eq] at g
  exact packI_eq hop (fImm14_of_id g.1) g.2

/-- CAS: no predicate and no operation. -/
theorem packG_cas (g : (fPr w == 0#2 && fWd w == 0#5 && fAmoZ w == 0#3) = true) :
    packG op 0#2 (fX w) (BitVec.ofNat 9 ((fW w).toNat * 2 ^ 3)) (fT0 w) = w := by
  simp only [Bool.and_eq_true, beq_iff_eq] at g
  obtain ⟨⟨hpr, hop0⟩, hlow⟩ := g
  have h1 : fT1 w = BitVec.ofNat 9 ((fW w).toNat * 2 ^ 3) := by simpa using fT1_of_aop hop0 hlow
  exact packG_eq hop hpr rfl h1 rfl

/-- RED: an operation of format S. -/
theorem packS_red (g : (fT0 w == 0#9 && fAmoZ w == 0#3) = true) :
    packS op (fPr w) (fX w) (BitVec.ofNat 18 ((fWd w).toNat * 2 ^ 13 + (fW w).toNat * 2 ^ 12)) = w := by
  simp only [Bool.and_eq_true, beq_iff_eq] at g
  exact packS_eq hop (fImm18_of_aop g.1 g.2)

/-- CPY: a mode of two bits, without targets. -/
theorem packG_cpy (g : (fT1 w == 511#9 && fT0 w == 511#9 && fXHigh3 w == 0#3) = true) :
    packG op (fPr w) (BitVec.ofNat 5 (fXLow2 w).toNat) 511#9 511#9 = w := by
  simp only [Bool.and_eq_true, beq_iff_eq] at g
  obtain ⟨⟨h1, h0⟩, hhi⟩ := g
  have hword := packG_high3 (n := (fXLow2 w).toNat) hop rfl hhi
  rwa [h1, h0] at hword

end

/-! ### Opcodes of one row -/

section
variable {i j : Instr}

theorem IsWordOf.of_some (h : some j = some i) (hj : IsWordOf w j) : IsWordOf w i := Option.some.inj h ▸ hj

theorem IsWordOf.of_guard {c : Bool} (h : (if c = true then some j else none) = some i) (hj : c = true → IsWordOf w j) : IsWordOf w i := by
  split at h
  · exact .of_some h (hj ‹_›)
  · nomatch h

end

/-! ### Opcodes of several rows -/

section
variable {i : Instr}

theorem isWordOf_op01 (hop : (fOp w).toNat = 0x01) (h : decodeOp01 w = some i) : IsWordOf w i := by
  unfold decodeOp01 at h
  split at h <;> cases h <;> exact ⟨rfl, packG_eq hop rfl ‹_› rfl rfl⟩

theorem isWordOf_op02 (hop : (fOp w).toNat = 0x02) (h : decodeOp02 w = some i) : IsWordOf w i := by
  unfold decodeOp02 at h
  split at h <;> cases h <;> exact ⟨rfl, packG_eq hop rfl ‹_› rfl rfl⟩

theorem isWordOf_op03 (hop : (fOp w).toNat = 0x03) (h : decodeOp03 w = some i) : IsWordOf w i := by
  unfold decodeOp03 at h
  split at h <;> cases h <;> exact ⟨rfl, packG_eq hop rfl ‹_› rfl rfl⟩

theorem isWordOf_op0F (hop : (fOp w).toNat = 0x0F) (h : decodeOp0F w = some i) : IsWordOf w i := by
  unfold decodeOp0F at h
  split at h <;> cases h <;> exact ⟨rfl, packG_eq hop rfl ‹_› rfl rfl⟩

theorem isWordOf_op10 (hop : (fOp w).toNat = 0x10) (h : decodeOp10 w = some i) : IsWordOf w i := by
  unfold decodeOp10 at h
  split at h <;> cases h <;> exact ⟨rfl, packG_eq hop rfl ‹_› rfl rfl⟩

theorem isWordOf_op28 (hop : (fOp w).toNat = 0x28) (h : decodeOp28 w = some i) : IsWordOf w i := by
  unfold decodeOp28 at h
  simp only [Bool.and_eq_true, beq_iff_eq] at h
  split_ifs at h <;> cases h
  iterate 5 exact ⟨rfl, packG_high3 hop rfl ‹_›⟩
  all_goals
    have hfma : fPr w = 0#2 ∧ _ := ‹_›
    exact ⟨rfl, packG_high3 hop hfma.1 hfma.2⟩

theorem isWordOf_op29 (hop : (fOp w).toNat = 0x29) (h : decodeOp29 w = some i) : IsWordOf w i := by
  unfold decodeOp29 at h
  simp only [Bool.and_eq_true, beq_iff_eq] at h
  split_ifs at h <;> cases h
  iterate 5 exact ⟨rfl, packG_high3 hop rfl ‹_›⟩
  all_goals
    have hfma : fPr w = 0#2 ∧ _ := ‹_›
    exact ⟨rfl, packG_high3 hop hfma.1 hfma.2⟩

theorem isWordOf_op2A (hop : (fOp w).toNat = 0x2A) (h : decodeOp2A w = some i) : IsWordOf w i := by
  unfold decodeOp2A at h
  simp only [beq_iff_eq] at h
  split_ifs at h <;> cases h <;> exact ⟨rfl, packG_mid4 hop ‹_›⟩

theorem isWordOf_op2B (hop : (fOp w).toNat = 0x2B) (h : decodeOp2B w = some i) : IsWordOf w i := by
  unfold decodeOp2B at h
  simp only [beq_iff_eq] at h
  split_ifs at h <;> cases h <;> exact ⟨rfl, packG_mid4 hop ‹_›⟩

theorem isWordOf_op2C (hop : (fOp w).toNat = 0x2C) (h : decodeOp2C w = some i) : IsWordOf w i := by
  unfold decodeOp2C at h
  rw [ite_eq_iff] at h
  obtain ⟨hx, h⟩ | ⟨-, h⟩ := h
  · exact .of_some h ⟨rfl, packG_targets hop hx⟩
  · simp only [beq_iff_eq] at h
    split_ifs at h <;> cases h <;> exact ⟨rfl, packG_high3 hop rfl ‹_›⟩

theorem isWordOf_op6B (hop : (fOp w).toNat = 0x6B) (h : decodeOp6B w = some i) : IsWordOf w i := by
  unfold decodeOp6B at h
  split_ifs at h <;> cases h <;> exact ⟨rfl, packG_bare hop ‹_›⟩

theorem isWordOf_op6E (hop : (fOp w).toNat = 0x6E) (h : decodeOp6E w = some i) : IsWordOf w i := by
  unfold decodeOp6E at h
  split at h <;> cases h <;> exact ⟨rfl, packG_eq hop rfl ‹_› rfl rfl⟩

theorem isWordOf_op7A (hop : (fOp w).toNat = 0x7A) (h : decodeOp7A w = some i) : IsWordOf w i := by
  unfold decodeOp7A at h
  simp only [Bool.and_eq_true, beq_iff_eq] at h
  split at h
  iterate 2
    next hx =>
      split_ifs at h with g
      exact .of_some h ⟨rfl, packEW_eq hop hx rfl g.1 g.2⟩
  next => nomatch h

theorem isWordOf_op7B (hop : (fOp w).toNat = 0x7B) (h : decodeOp7B w = some i) : IsWordOf w i := by
  unfold decodeOp7B at h
  split at h
  next hx => exact .of_guard h fun g => ⟨rfl, packEW_eq hop hx rfl rfl (beq_iff_eq.mp g)⟩
  iterate 5 next hx => exact .of_some h ⟨rfl, packEW_eq hop hx rfl rfl rfl⟩
  next hx => exact .of_some h ⟨rfl, packEW_eq hop hx (fWd_of_cond w) rfl rfl⟩
  iterate 2 next hx => exact .of_some h ⟨rfl, packEW_eq hop hx rfl rfl rfl⟩
  next hx => exact .of_guard h fun g => ⟨rfl, packEW_eq hop hx rfl rfl (fWb_of_red (beq_iff_eq.mp g))⟩
  next hx => exact .of_guard h fun g => ⟨rfl, packEW_eq hop hx rfl rfl (fWb_of_opt (beq_iff_eq.mp g))⟩
  next hx => exact .of_some h ⟨rfl, packEW_eq hop hx rfl rfl rfl⟩
  next => nomatch h

theorem isWordOf_op7C (hop : (fOp w).toNat = 0x7C) (h : decodeOp7C w = some i) : IsWordOf w i := by
  unfold decodeOp7C at h
  split at h
  next hx => exact .of_guard h fun g => ⟨rfl, packEW_eq hop hx rfl rfl (beq_iff_eq.mp g)⟩
  iterate 5 next hx => exact .of_some h ⟨rfl, packEW_eq hop hx rfl rfl rfl⟩
  next hx => exact .of_some h ⟨rfl, packEW_eq hop hx (fWd_of_cond w) rfl rfl⟩
  iterate 2 next hx => exact .of_some h ⟨rfl, packEW_eq hop hx rfl rfl rfl⟩
  next hx => exact .of_guard h fun g => ⟨rfl, packEW_eq hop hx rfl rfl (fWb_of_red (beq_iff_eq.mp g))⟩
  next hx => exact .of_guard h fun g => ⟨rfl, packEW_eq hop hx rfl rfl (fWb_of_opt (beq_iff_eq.mp g))⟩
  next hx => exact .of_some h ⟨rfl, packEW_eq hop hx rfl rfl rfl⟩
  next => nomatch h

theorem isWordOf_op7D (hop : (fOp w).toNat = 0x7D) (h : decodeOp7D w = some i) : IsWordOf w i := by
  unfold decodeOp7D at h
  simp only [Bool.and_eq_true, beq_iff_eq] at h
  split_ifs at h with hacc hadd hclr hmov hst hld <;> cases h
  · obtain ⟨⟨hx, hs⟩, hbit⟩ := hacc
    exact ⟨rfl, packEX_eq hop hbit hx rfl hs rfl rfl rfl⟩
  · obtain ⟨⟨⟨⟨hx, ha⟩, hb⟩, hk⟩, hbit⟩ := hadd
    exact ⟨rfl, packEX_eq hop hbit hx rfl rfl ha hb hk⟩
  · obtain ⟨⟨⟨⟨⟨hx, hs⟩, ha⟩, hb⟩, hk⟩, hbit⟩ := hclr
    exact ⟨rfl, packEX_eq hop hbit hx rfl hs ha hb hk⟩
  · obtain ⟨⟨⟨⟨hx, ha⟩, hb⟩, hk⟩, hbit⟩ := hmov
    exact ⟨rfl, packEX_eq hop hbit hx rfl rfl ha hb hk⟩
  · obtain ⟨⟨⟨⟨⟨hx, hd⟩, ha⟩, hb⟩, hk⟩, hbit⟩ := hst
    exact ⟨rfl, packEX_eq hop hbit hx hd rfl ha hb hk⟩
  · obtain ⟨⟨⟨⟨⟨hx, hs⟩, ha⟩, hb⟩, hk⟩, hbit⟩ := hld
    exact ⟨rfl, packEX_eq hop hbit hx rfl hs ha hb hk⟩

theorem isWordOf_op7E (hop : (fOp w).toNat = 0x7E) (h : decodeOp7E w = some i) : IsWordOf w i := by
  unfold decodeOp7E at h
  simp only [beq_iff_eq] at h
  split_ifs at h with hsgn hrnd <;> cases h
  · exact ⟨rfl, packG_high3 hop rfl hsgn⟩
  · refine ⟨rfl, packG_eq hop rfl ?_ rfl rfl⟩
    exact (fX_of_top hrnd).trans (Nat.mod_eq_of_lt (fX_of_top hrnd ▸ (fX w).isLt)).symm

/-- R145, R153: a word that decodes is the word of what it decodes to. -/
theorem isWordOf_decode (h : decode w = some i) : IsWordOf w i := by
  unfold decode at h
  split at h
  -- integer operations: 0x01 to 0x0F
  next hop => exact isWordOf_op01 hop h
  next hop => exact isWordOf_op02 hop h
  next hop => exact isWordOf_op03 hop h
  iterate 4 next hop => exact .of_some h ⟨rfl, packI_eq hop rfl rfl⟩
  iterate 3 next hop => exact .of_guard h fun g => ⟨rfl, packI_cnt hop g⟩
  next hop => exact .of_some h ⟨rfl, packI_eq hop rfl rfl⟩
  iterate 3 next hop => exact .of_guard h fun g => ⟨rfl, packI_span hop g⟩
  next hop => exact isWordOf_op0F hop h
  -- tests: 0x10 to 0x18
  next hop => exact isWordOf_op10 hop h
  iterate 8 next hop => exact .of_some h ⟨rfl, packI_eq hop rfl rfl⟩
  -- constants, MOV and NULL: 0x19 to 0x1D
  iterate 2 next hop => exact .of_some h ⟨rfl, packC_eq hop⟩
  next hop => exact .of_guard h fun g => ⟨rfl, packG_targets hop g⟩
  next hop => exact .of_some h ⟨rfl, packI_eq hop rfl rfl⟩
  next hop => exact .of_guard h fun g => ⟨rfl, packG_targets hop g⟩
  -- exits: 0x20 to 0x25
  iterate 2 next hop => exact .of_some h ⟨rfl, packB_eq hop⟩
  next hop => exact .of_some h ⟨rfl, packI_eq hop rfl rfl⟩
  iterate 3 next hop => exact .of_guard h fun g => ⟨rfl, packG_low3 hop g⟩
  -- floating point: 0x28 to 0x2C
  next hop => exact isWordOf_op28 hop h
  next hop => exact isWordOf_op29 hop h
  next hop => exact isWordOf_op2A hop h
  next hop => exact isWordOf_op2B hop h
  next hop => exact isWordOf_op2C hop h
  -- loads and stores: 0x30 to 0x4B
  iterate 16 next hop => exact .of_some h ⟨rfl, packG_eq hop rfl rfl rfl rfl⟩
  iterate 12 next hop => exact .of_some h ⟨rfl, packS_eq hop rfl⟩
  -- AMO, CAS, RED and FENCE: 0x4C to 0x4F
  next hop => exact .of_guard h fun g => ⟨rfl, packG_eq hop rfl rfl (fT1_of_aop rfl (beq_iff_eq.mp g)) rfl⟩
  next hop => exact .of_guard h fun g => ⟨rfl, packG_cas hop g⟩
  next hop => exact .of_guard h fun g => ⟨rfl, packS_red hop g⟩
  next hop => exact .of_guard h fun g => ⟨rfl, packG_low3 hop g⟩
  -- queues and WAIT: 0x50 to 0x57
  next hop => exact .of_guard h fun g => ⟨rfl, packG_limit hop g⟩
  next hop => exact .of_some h ⟨rfl, packG_eq hop rfl rfl rfl rfl⟩
  iterate 3 next hop => exact .of_guard h fun g => ⟨rfl, packG_targets hop g⟩
  next hop => exact .of_some h ⟨rfl, packG_eq hop rfl rfl rfl rfl⟩
  next hop => exact .of_guard h fun g => ⟨rfl, packG_limit hop g⟩
  next hop => exact .of_guard h fun g => ⟨rfl, packI_eq hop (fImm14_of_wait (beq_iff_eq.mp g)) rfl⟩
  -- system: 0x58 to 0x60
  next hop => exact .of_guard h fun g => ⟨rfl, packI_eq hop (fImm14_of_id (beq_iff_eq.mp g)) rfl⟩
  next hop => exact .of_guard h fun g => ⟨rfl, packI_mts hop g⟩
  next hop => exact .of_guard h fun g => ⟨rfl, packI_eq hop rfl (beq_iff_eq.mp g)⟩
  iterate 2 next hop => exact .of_guard h fun g => ⟨rfl, packG_bare hop g⟩
  next hop => exact .of_some h ⟨rfl, packI_eq hop rfl rfl⟩
  iterate 3 next hop => exact .of_guard h fun g => ⟨rfl, packG_targets hop g⟩
  -- region control: 0x61 to 0x69
  iterate 6 next hop => exact .of_guard h fun g => ⟨rfl, packG_targets hop g⟩
  next hop => exact .of_guard h fun g => ⟨rfl, packG_bare hop g⟩
  next hop => exact .of_guard h fun g => ⟨rfl, packG_targets hop g⟩
  next hop => exact .of_some h ⟨rfl, packG_eq hop rfl rfl rfl rfl⟩
  -- commands to engines: 0x6A to 0x74
  next hop => exact .of_guard h fun g => ⟨rfl, packG_cpy hop g⟩
  next hop => exact isWordOf_op6B hop h
  iterate 2 next hop => exact .of_guard h fun g => ⟨rfl, packG_bare hop g⟩
  next hop => exact isWordOf_op6E hop h
  iterate 2 next hop => exact .of_guard h fun g => ⟨rfl, packG_bare hop g⟩
  next hop => exact .of_guard h fun g => ⟨rfl, packG_targets hop g⟩
  iterate 3 next hop => exact .of_guard h fun g => ⟨rfl, packG_bare hop g⟩
  -- the wide unit: 0x78 to 0x7E
  iterate 2 next hop => exact .of_guard h fun g => ⟨rfl, packG_bare hop g⟩
  next hop => exact isWordOf_op7A hop h
  next hop => exact isWordOf_op7B hop h
  next hop => exact isWordOf_op7C hop h
  next hop => exact isWordOf_op7D hop h
  next hop => exact isWordOf_op7E hop h
  next => nomatch h

end

end

/-- Settles O2, row by row of the decoder. -/
theorem wordsAreTheirEncodings : Obligations.WordsAreTheirEncodings := fun _ _ h => isWordOf_decode h

end Sys2Proof.Laws.Words
end

section
/-! SUPPORT. What the fetch of a block does (07 R137, R153; 09 R175; 21 R395): it reads through the translation, and then starts the block or
takes a trap at its address. -/

namespace Sys2Proof.Machine

open Sys2Proof Sys2Proof.Claims Sys2Proof.Laws

/-! ### Taking a trap (21 R395) -/

/-- The causes of R394 that the task handler takes, both ways of saying it. -/
theorem taskTakes_iff (cause : Nat) : taskTakes cause = true ↔ cause ∈ handlerCauses := by
  simp only [taskTakes, handlerCauses, List.mem_cons, List.not_mem_nil, or_false, Bool.or_eq_true, Bool.and_eq_true, beq_iff_eq, decide_eq_true_eq]
  omega

/-- A context takes a trap as R395 has it. -/
theorem takeTrap_trapTaken (x : Ctx) (a : VAddr) (cause : Nat) (einfo : Word) : trapTaken x (x.takeTrap a cause einfo) a cause einfo := by
  have ha := a.isLt
  have hhandled : (!x.fw && x.utvec.toNat % 16 == 0 && x.utvec != 0 && taskTakes cause) = true
      ↔ x.fw = false ∧ x.utvec.toNat % 16 = 0 ∧ x.utvec ≠ 0 ∧ cause ∈ handlerCauses := by
    simp [← taskTakes_iff, and_assoc]
  have hepc : BitVec.ofNat 64 a.toNat = a.setWidth 64 := BitVec.ofNat_toNat 64 a
  unfold trapTaken Ctx.takeTrap
  by_cases h : x.fw = false ∧ x.utvec.toNat % 16 = 0 ∧ x.utvec ≠ 0 ∧ cause ∈ handlerCauses
  · have hpc : (vaddr (a.toNat / 2 ^ 64) x.utvec.toNat).toNat = a.toNat / 2 ^ 64 * 2 ^ 64 + x.utvec.toNat := by
      rw [Work.vaddr_toNat _ _ x.utvec.isLt]
      omega
    rw [if_pos (hhandled.mpr h), if_pos h]
    exact ⟨fun _ => rfl, ⟨rfl, rfl, rfl, rfl, rfl, rfl, rfl, rfl, rfl, rfl⟩, rfl, rfl, rfl, rfl, hepc, rfl, h.1, hpc, rfl, rfl, rfl, rfl⟩
  · have hpc : (vaddr 0 x.tvec.toNat).toNat = x.tvec.toNat := by
      rw [Work.vaddr_toNat _ _ x.tvec.isLt]
      omega
    have hestat : (BitVec.ofNat 64 (a.toNat / 2 ^ 64 * 2 ^ 8 + (if x.fw then 0 else 1))).toNat
        = a.toNat / 2 ^ 64 * 2 ^ 8 + (if x.fw then 0 else 1) := by
      rw [BitVec.toNat_ofNat]
      split <;> omega
    rw [if_neg (fun hc => h (hhandled.mp hc)), if_neg h]
    exact ⟨fun _ => rfl, ⟨rfl, rfl, rfl, rfl, rfl, rfl, rfl, rfl, rfl, rfl⟩, rfl, rfl, rfl, rfl, hepc, rfl, hestat, rfl, hpc, rfl, rfl, rfl⟩

namespace Work

@[simp] theorem ctx_setLast (w : Work) (t c u d : Nat) : (w.setLast t c).ctx u d = w.ctx u d := by
  by_cases h : u = t
  · subst h; simp [ctx, setLast]
  · simp [ctx, setLast, tile_setTile_other _ _ _ _ h]

/-- The context in focus after a trap delivered to it. -/
theorem ctx_deliverTrap (w : Work) (a : VAddr) (cause : Nat) (einfo : Word) :
    (w.deliverTrap a cause einfo).ctx w.focus.tile w.focus.ctx = w.me.takeTrap a cause einfo := by
  simp [deliverTrap]

/-- S_EINFO of a fetch's fault (21 R397): ACC and WORD 0, no instruction. -/
theorem einfoMem_fetch (va sub : Nat) : einfoMem va sub 0 0 0x7F = BitVec.ofNat 64 (va / 2 ^ 16 % 2 ^ 48 * 2 ^ 16 + sub * 2 ^ 13 + 0x7F) := by
  simp only [einfoMem, bits, Nat.zero_mul, Nat.add_zero]

/-! ### Reading a block (07 R137) -/

theorem fetchPages_translated (q : Who) (n : Nat) : ∀ (w : Work) (a left : Nat), Translated w (w.fetchPages q n a left).1 := by
  induction n with
  | zero => exact fun w _ _ => .refl w
  | succ n ih =>
    intro w a left
    have htranslate := translate_translated w q .fetch 1 a
    unfold fetchPages
    split
    next heq => rwa [heq] at htranslate
    next heq =>
      rw [heq] at htranslate
      dsimp only
      split
      · exact htranslate
      · split
        · exact htranslate
        · exact htranslate.trans (ih _ _ _)

theorem translated_of_fetchPages {w u : Work} {q : Who} {n a left : Nat} {r : Option (Nat × Nat × Nat)}
    (h : w.fetchPages q n a left = (u, r)) : Translated w u := by
  have htranslated := fetchPages_translated q n w a left
  rwa [h] at htranslated

theorem readParts_translated (w : Work) (q : Who) (a : Nat) : Translated w (w.readParts q a).1 := by
  unfold readParts
  split
  next hhead => exact translated_of_fetchPages hhead
  next hhead =>
    dsimp only
    split
    · exact translated_of_fetchPages hhead
    · split
      next hrest => exact (translated_of_fetchPages hhead).trans (translated_of_fetchPages hrest)
      next hrest => exact (translated_of_fetchPages hhead).trans (translated_of_fetchPages hrest)

theorem translated_of_readParts {w u : Work} {q : Who} {a : Nat} {r : Except (Nat × Nat × Nat) Parts} (h : w.readParts q a = (u, r)) :
    Translated w u := by
  have htranslated := readParts_translated w q a
  rwa [h] at htranslated

/-! ### What a fetch comes to (07 R153) -/

section
variable {v w : Work} {p : Parts} (hal : v.me.pc.toNat % 16 = 0)
include hal

theorem fetchAddr_eq : BitVec.ofNat 72 (v.me.pc.toNat / 16 * 16) = v.me.pc := by
  rw [show v.me.pc.toNat / 16 * 16 = v.me.pc.toNat by omega, BitVec.ofNat_toNat, BitVec.setWidth_eq]

theorem fetchBlock_starts (hread : v.readParts v.who v.me.pc.toNat = (w, .ok p)) (hsound : blockRefusal (!v.me.fw) p = none) :
    v.fetchBlock = w.setCtx v.focus.tile v.focus.ctx { w.ctx v.focus.tile v.focus.ctx with
      status := .running, handler := false, fence := 0, block := some (Block.start v.me v.me.pc p) } := by
  have hw := translated_of_readParts hread
  have hme : w.ctx v.focus.tile v.focus.ctx = v.me := hw.ctx _ _
  simp only [fetchBlock, fetchAddr_eq hal, hread, hw.me, hw.focus, hsound, hme]

theorem fetchBlock_refused {cause : Nat} {einfo : Word} (hread : v.readParts v.who v.me.pc.toNat = (w, .ok p))
    (hrefused : blockRefusal (!v.me.fw) p = some (cause, einfo)) : v.fetchBlock = w.deliverTrap v.me.pc cause einfo := by
  simp only [fetchBlock, fetchAddr_eq hal, hread, (translated_of_readParts hread).me, hrefused]

theorem fetchBlock_faults {cause sub va : Nat} (hread : v.readParts v.who v.me.pc.toNat = (w, .error (cause, sub, va)))
    (hcause : cause ≠ Cause.uncorrectable) : v.fetchBlock = w.deliverTrap v.me.pc cause (einfoMem va sub 0 0 0x7F) := by
  simp only [fetchBlock, fetchAddr_eq hal, hread, beq_eq_false_iff_ne.mpr hcause, Bool.false_eq_true, if_false]

end

/-- The trap of a fetch is taken by the context as it was before the fetch. -/
theorem deliverTrap_trapTaken {v w : Work} (hw : Translated v w) (a : VAddr) (cause : Nat) (einfo : Word) :
    trapTaken v.me ((w.deliverTrap a cause einfo).ctx v.focus.tile v.focus.ctx) a cause einfo := by
  rw [← hw.focus, ctx_deliverTrap, hw.me]
  exact takeTrap_trapTaken _ _ _ _

end Work

/-! ### The fetch of the context whose turn it is (01 R28; 07 R153) -/

section
variable {s : State} {t c : Nat}

theorem exec_blockFetch (t c : Nat) (s : State) : exec (.blockFetch t c) s = happen (fun w => (w.at_ t c 0).blockFetch) s := rfl

/-- The context whose turn it is fetches. -/
theorem blockFetch_turn (hruns : s.work.spineRuns t = true) (hturn : s.work.nextIssuer t = some c) (herr : s.work.errorDue t c = false)
    (hidle : ∀ d, d < 4 → s.work.executing t d = false) : exec (.blockFetch t c) s = .next (s.put (s.work.at_ t c 0).fetchBlock) := by
  have hgate : (s.work.spineRuns t && s.work.nextIssuer t == some c && !s.work.errorDue t c
      && !([0, 1, 2, 3].any (fun d => s.work.executing t d))) = true := by
    simp [hruns, hturn, herr, hidle]
  exact (exec_blockFetch t c s).trans (happen_some (if_pos hgate))

end

/-- Settles O22: the fetch reads the block through the translation, which leaves the contexts as they are, and starts it or takes the trap
of its refusal or of its fault. -/
theorem fetchStartsOrTraps : Obligations.FetchStartsOrTraps := by
  intro s t c w hruns hturn herr hidle hpc
  have hal : (s.work.at_ t c 0).me.pc.toNat % 16 = 0 := hpc
  have hfetch := blockFetch_turn hruns hturn herr hidle
  refine ⟨?sound, ?refused, ?unreadable⟩
  case sound =>
    intro parts hread hsound
    rw [hfetch, Work.fetchBlock_starts hal hread hsound]
    rfl
  case refused =>
    intro parts cause einfo hread hrefused
    refine ⟨_, hfetch, ?_⟩
    rw [Work.fetchBlock_refused hal hread hrefused]
    exact Work.deliverTrap_trapTaken (Work.translated_of_readParts hread) _ _ _
  case unreadable =>
    intro cause sub va hread hcause
    refine ⟨_, hfetch, ?_⟩
    rw [Work.fetchBlock_faults hal hread hcause, Work.einfoMem_fetch]
    exact Work.deliverTrap_trapTaken (Work.translated_of_readParts hread) _ _ _

end Sys2Proof.Machine
end

section
/-! SUPPORT. How a block that does not commit ends (09 R180, R183; 11 R215; 21 R395), and which blocks their privileges refuse (07 R139, R152,
R153): what O27 says of them, with the premise that its third part lacks. -/

namespace Sys2Proof.Machine

open Sys2Proof Sys2Proof.Claims Sys2Proof.Laws

/-! ### Orders 2 to 5 of a block's refusal (07 R153) -/

theorem firstWord_eq_none {f : IWord → Bool} {ws : List IWord} (h : ∀ w ∈ ws, f w = false) (i : Nat) : firstWord f i ws = none := by
  induction ws generalizing i with
  | nil => rfl
  | cons w ws ih =>
    rw [firstWord, h w List.mem_cons_self, if_neg Bool.false_ne_true]
    exact ih (fun v hv => h v (List.mem_cons_of_mem _ hv)) _

theorem firstWord_eq_some {f : IWord → Bool} {ws : List IWord} {j : Nat} {w : IWord} (hj : ws[j]? = some w) (hw : f w = true)
    (hbefore : ∀ k v, k < j → ws[k]? = some v → f v = false) (i : Nat) : firstWord f i ws = some (i + j) := by
  induction ws generalizing i j with
  | nil => simp at hj
  | cons v ws ih =>
    cases j with
    | zero =>
      obtain rfl : v = w := by simpa using hj
      rw [firstWord, hw, if_pos rfl, Nat.add_zero]
    | succ j =>
      have hrest : firstWord f (i + 1) ws = some (i + 1 + j) :=
        ih (by simpa using hj) (fun k u hk hu => hbefore (k + 1) u (Nat.succ_lt_succ hk) (by simpa using hu)) _
      rw [firstWord, hbefore 0 v j.succ_pos rfl, if_neg Bool.false_ne_true, hrest, Nat.add_right_comm, Nat.add_assoc]

/-- The word is that of a firmware-only instruction (07 R139, R152). -/
def firmwareWord (w : IWord) : Bool :=
  match decode w with
  | none => false
  | some x => firmwareOnly x

/-- What orders 2 to 5 of R153 leave of a block's refusal: its privileges, then its format. -/
def privilegeRefusal (task : Bool) (p : Parts) : Option Refused :=
  let is := p.words.filterMap decode
  let regs := p.reads.map (fun e => e / 512) ++ p.writes.map (fun e => e % 128)
  if (p.fw && task) || (!p.fw && regs.any (fun r => 112 ≤ r)) then some (Cause.priv, 0x7F)
  else match (if p.fw then none else firstWord firmwareWord 0 p.words) with
  | some i => some (Cause.priv, BitVec.ofNat 64 i)
  | none =>
    match headFault p is with
    | some r => some (Cause.blockFormat, einfoFormat 0 r 0x7F)
    | none =>
      match firstInstFault p is 0 is with
      | some i => some (Cause.blockFormat, einfoFormat 0 1 i)
      | none => none

section
variable {p : Parts} {task : Bool}

theorem blockRefusal_eq_privilegeRefusal (hsized : p.sized = true) (h0 : p.h0 / 2 ^ 9 % 2 ^ 4 = 0) (h1 : p.h1 / 2 ^ 6 % 2 ^ 26 = 0)
    (hwrites : ∀ e ∈ p.writes, e / 2 ^ 7 % 2 = 0) (hwords : ∀ w ∈ p.words, wordIllegal w = false ∧ wordReserved w = false)
    (hreads : ∀ e ∈ p.reads, targetClass (p.words.filterMap decode) p.nw (e % 512) ≠ 5) :
    blockRefusal task p = privilegeRefusal task p := by
  have hheader : (bits p.h0 9 4 != 0 || bits p.h1 6 26 != 0 || p.writes.any (fun e => bit e 7)) = false := by
    simp only [bits, h0, h1, bit, bne_self_eq_false, Bool.false_or, List.any_eq_false, beq_iff_eq]
    intro e he
    rw [hwrites e he]
    exact Nat.zero_ne_one
  have htargets : (p.reads.any fun e => targetClass (p.words.filterMap decode) p.nw (e % 512) == 5) = false := by
    simpa only [List.any_eq_false, beq_iff_eq] using hreads
  unfold blockRefusal privilegeRefusal
  simp only [hsized, hheader, htargets, firstWord_eq_none (fun w hw => (hwords w hw).1), firstWord_eq_none (fun w hw => (hwords w hw).2)]
  rfl

theorem privilegeRefusal_firmwareBlock (hfw : p.fw = true) : privilegeRefusal true p = some (0x12, 0x7F) := by
  simp [privilegeRefusal, hfw, Cause.priv]

theorem privilegeRefusal_register (hfw : p.fw = false) (h : (∃ e ∈ p.reads, 112 ≤ e / 512) ∨ ∃ e ∈ p.writes, 112 ≤ e % 128) :
    privilegeRefusal true p = some (0x12, 0x7F) := by
  have hany : (p.reads.map (fun e => e / 512) ++ p.writes.map (fun e => e % 128)).any (fun r => 112 ≤ r) = true := by
    simpa using h
  simp only [privilegeRefusal, hfw, hany]
  rfl

theorem privilegeRefusal_instruction (hfw : p.fw = false) (hreads : ∀ e ∈ p.reads, e / 512 < 112) (hwrites : ∀ e ∈ p.writes, e % 128 < 112)
    {j : Nat} {w : IWord} {i : Instr} (hj : p.words[j]? = some w) (hi : decode w = some i) (hfirm : firmwareOnly i = true)
    (hbefore : ∀ k w' i', k < j → p.words[k]? = some w' → decode w' = some i' → firmwareOnly i' = false) :
    privilegeRefusal true p = some (0x12, BitVec.ofNat 64 j) := by
  have hnone : (p.reads.map (fun e => e / 512) ++ p.writes.map (fun e => e % 128)).any (fun r => 112 ≤ r) = false := by
    simpa [List.any_eq_false, or_imp, forall_and] using And.intro hreads hwrites
  have hfirst : firstWord firmwareWord 0 p.words = some j := by
    refine (firstWord_eq_some hj (by simp [firmwareWord, hi, hfirm]) (fun k v hk hv => ?_) 0).trans (by rw [Nat.zero_add])
    unfold firmwareWord
    split
    · rfl
    · exact hbefore k v _ hk hv ‹_›
  simp only [privilegeRefusal, hfw, hnone, hfirst]
  rfl

theorem privilegeRefusal_inFirmware (hfw : p.fw = true) {r : Refused} (h : privilegeRefusal false p = some r) : r.1 = 0x03 := by
  simp only [privilegeRefusal, hfw, Bool.and_false, Bool.not_true, Bool.false_and, Bool.or_self, Bool.false_eq_true, if_false, if_true] at h
  split at h
  · cases h; rfl
  · split at h <;> cases h
    rfl

end

/-- ERET, and an MFS or MTS of an identifier from 0x800 upward, are for firmware only (07 R152). -/
theorem firmwareOnly_of (i : Instr)
    (h : match i with | .eret _ => True | .mfs _ id _ => 0x800 ≤ id.toNat | .mts _ id => 0x800 ≤ id.toNat | _ => False) :
    firmwareOnly i = true := by
  split at h
  · rfl
  · exact decide_eq_true h
  · exact decide_eq_true h
  · exact h.elim

/-- The first part of O27: what privileges refuse. -/
theorem taskModeRefusesFirmwareBlocks : TaskModeRefusesFirmwareBlocks := by
  intro p hsized h0 h1 hwrites hwords hreads
  rw [blockRefusal_eq_privilegeRefusal hsized h0 h1 hwrites hwords hreads, blockRefusal_eq_privilegeRefusal hsized h0 h1 hwrites hwords hreads]
  refine ⟨privilegeRefusal_firmwareBlock, privilegeRefusal_register, ?_, fun hfw r => privilegeRefusal_inFirmware hfw⟩
  intro hfw hr hw j w i hj hi hfirm
  exact privilegeRefusal_instruction hfw hr hw hj hi (firmwareOnly_of i hfirm)

/-! ### What the end of a block releases (11 R215, R228, R232, R240) -/

namespace Work

theorem settleMarks_of_noMarks {w : Work} (h : w.core.marks = []) : w.settleMarks = { w with core := { w.core with marks := [] } } := by
  simp [settleMarks, h]

section
variable {w : Work} (h : w.core.marks = []) (p : Nat)
include h

theorem releaseClaims_of_noMarks :
    w.releaseClaims p = { w with core := { w.core with claims := w.core.claims.filter (fun c => c.party != p), marks := [] } } :=
  settleMarks_of_noMarks h

theorem release_log : (w.release p).log = w.log := by
  rw [release, releaseClaims_of_noMarks h]
  rfl

theorem release_focus : (w.release p).focus = w.focus := by
  rw [release, releaseClaims_of_noMarks h]
  rfl

/-- A release leaves every context as it was, but for the SPAWNC that had claimed it. -/
theorem ctx_release (t c : Nat) : ∃ claimant, (w.release p).ctx t c = { w.ctx t c with spawnedBy := claimant } := by
  let unclaim (x : Ctx) : Ctx := if x.spawnedBy == some p then { x with spawnedBy := none } else x
  let tile (x : Tile) : Tile := { x with ctxs := x.ctxs.map (fun y => (y.1, unclaim y.2)) }
  have htile : (w.release p).tile t = tile (w.tile t) := by
    rw [release, releaseClaims_of_noMarks h]
    exact mapGet_map ({} : Tile) tile rfl t _
  have hctx : (w.release p).ctx t c = unclaim (w.ctx t c) := by
    rw [ctx, htile]
    exact mapGet_map ({} : Ctx) unclaim rfl c _
  rw [hctx]
  dsimp only [unclaim]
  split
  · exact ⟨none, rfl⟩
  · exact ⟨(w.ctx t c).spawnedBy, rfl⟩

end

theorem deliverTrap_log (w : Work) (a : VAddr) (cause : Nat) (einfo : Word) : (w.deliverTrap a cause einfo).log = w.log := rfl

/-- A trap delivered to the context in focus leaves the others as they were. -/
theorem ctx_deliverTrap_other (w : Work) (a : VAddr) (cause : Nat) (einfo : Word) {t c : Nat} (h : (t, c) ≠ (w.focus.tile, w.focus.ctx)) :
    (w.deliverTrap a cause einfo).ctx t c = w.ctx t c := by
  rw [deliverTrap, ctx_setLast]
  by_cases ht : t = w.focus.tile
  · subst ht
    exact ctx_setCtx_ctx _ _ _ _ _ (fun hc => h (by rw [hc]))
  · exact ctx_setCtx_tile _ _ _ _ _ _ ht

end Work

/-! ### The end of a block that traps (09 R180, R183) -/

section
variable {s : State} {t c : Nat} {b : Block} {tr : Trap}

theorem exec_blockEnd (t c : Nat) (s : State) : exec (.blockEnd t c) s = happen (fun w => (w.at_ t c 0).blockEnd) s := rfl

/-- What a block without effects adds to its traps when it ends. -/
theorem endTraps_of_noEffs (w : Work) (h : b.effs = []) :
    b.traps ++ wrunTraps (w.tile w.focus.tile) b ++ w.poolTraps b ++ w.armTraps b ++ w.switchTraps b = b.traps := by
  simp [wrunTraps, Work.poolTraps, Work.armTraps, Work.switchTraps, h, List.flatMap_eq_nil_iff.mpr]

theorem ended_of_atEnd (h : atEnd b) : b.ended = true := by
  obtain ⟨hinflight, hwaits, hfire⟩ := h
  simp [Block.ended, hinflight, hwaits, hfire]

/-- The machine after a block of context `c` of tile `t` has trapped. -/
def afterTrap (s : State) (t c : Nat) (a : VAddr) (tr : Trap) : Work :=
  ((s.work.at_ t c 0).release (t * 4 + c)).deliverTrap a tr.cause tr.einfo

/-- A block that has ended with something to report, and no effect, takes the trap. -/
theorem blockEnd_traps (hf : flying s t c b) (hend : atEnd b) (hlate : b.late = none) (heffs : b.effs = []) (hallocs : b.allocs = [])
    (hmarks : s.core.marks = []) (hreport : b.report = some tr) : exec (.blockEnd t c) s = .next (s.put (afterTrap s t c b.addr tr)) := by
  have hblock : (s.work.at_ t c 0).block = some b := hf.1
  have hrun : (s.work.at_ t c 0).me.status = .running := hf.2
  have hmarks' : (s.work.at_ t c 0).core.marks = [] := hmarks
  have htrap : (s.work.at_ t c 0).trapBlock b tr = afterTrap s t c b.addr tr := by simp [Work.trapBlock, Work.undoAllocs, hallocs]; rfl
  have hclear : (afterTrap s t c b.addr tr).writesClaimed none = false := by
    have hlog : (afterTrap s t c b.addr tr).log = [] := (Work.deliverTrap_log _ _ _ _).trans (Work.release_log hmarks' _)
    simp [Work.writesClaimed, hlog]
  refine (exec_blockEnd t c s).trans (happen_some ?_)
  unfold Work.blockEnd
  rw [hblock]
  dsimp only
  rw [hrun, if_neg (by decide)]
  split
  next hes => rw [hlate] at hes; nomatch hes
  next =>
    simp only [ended_of_atEnd hend, endTraps_of_noEffs _ heffs, hreport, htrap]
    simp [Work.unlessClaimed, Option.filter, hclear]

/-- The trap is taken at the block's address, and nothing but the context's own state is changed (21 R395). -/
theorem afterTrap_taken (hmarks : s.core.marks = []) (a : VAddr) (tr : Trap) :
    (s.put (afterTrap s t c a tr)).mem = s.mem ∧ (s.put (afterTrap s t c a tr)).full = s.full
      ∧ otherContexts s (s.put (afterTrap s t c a tr)) t c
      ∧ trapTaken (s.work.ctx t c) ((s.put (afterTrap s t c a tr)).work.ctx t c) a tr.cause tr.einfo := by
  have hmarks' : (s.work.at_ t c 0).core.marks = [] := hmarks
  have hlog : (afterTrap s t c a tr).log = [] := (Work.deliverTrap_log _ _ _ _).trans (Work.release_log hmarks' _)
  have hfocus : ((s.work.at_ t c 0).release (t * 4 + c)).focus = ⟨t, c, 0⟩ := Work.release_focus hmarks' _
  have hreleased := Work.ctx_release hmarks' (t * 4 + c)
  refine ⟨by rw [State.put_mem, hlog]; rfl, by rw [State.put_full, hlog]; rfl, fun t' c' hne => ?_, ?_⟩
  · have hother : (s.put (afterTrap s t c a tr)).work.ctx t' c' = ((s.work.at_ t c 0).release (t * 4 + c)).ctx t' c' :=
      Work.ctx_deliverTrap_other _ _ _ _ (by rw [hfocus]; exact hne)
    obtain ⟨claimant, hby⟩ := hreleased t' c'
    rw [hother, hby]
    exact ⟨rfl, rfl, rfl, rfl, fun _ => rfl, ⟨rfl, rfl, rfl, rfl, rfl, rfl, rfl, rfl, rfl, rfl⟩, ⟨rfl, rfl, rfl, rfl, rfl, rfl, rfl⟩, rfl⟩
  · have hown := Work.ctx_deliverTrap ((s.work.at_ t c 0).release (t * 4 + c)) a tr.cause tr.einfo
    obtain ⟨claimant, hby⟩ := hreleased t c
    rw [Work.me, hfocus, hby] at hown
    have hput : (s.put (afterTrap s t c a tr)).work.ctx t c = (afterTrap s t c a tr).ctx t c := rfl
    rw [hput, afterTrap, hown]
    exact takeTrap_trapTaken { s.work.ctx t c with spawnedBy := claimant } a tr.cause tr.einfo

end

/-! ### What a block reports (09 R183) -/

section
variable {b : Block} {x y : Trap}

theorem settledTrap_of_noRaces (h : b.races = []) (x : Trap) : b.settledTrap x = true := by simp [Block.settledTrap, h]

theorem report_of_oneTrap (htraps : b.traps = [x]) (hseconds : b.seconds = []) (hraces : b.races = []) : b.report = some x := by
  simp [Block.report, htraps, hseconds, settledTrap_of_noRaces hraces]

theorem report_of_twoTraps (htraps : b.traps = [x, y] ∨ b.traps = [y, x]) (hseconds : b.seconds = []) (hlt : x.idx < y.idx)
    (hraces : b.races = []) : b.report = some x := by
  have hxy : Block.trapBefore x y = true := by simp [Block.trapBefore, hlt]
  have hyx : Block.trapBefore y x = false := by simp [Block.trapBefore, Nat.lt_asymm hlt, (Nat.ne_of_lt hlt).symm]
  obtain htraps | htraps := htraps <;> simp [Block.report, htraps, hseconds, settledTrap_of_noRaces hraces, hxy, hyx]

/-- A block that has ended with every write entry filled and every store-class lsid served, but without an exit, breaks rule 7 alone. -/
theorem endRules_of_noExit (hexits : b.exits = []) (hheld : ∀ o ∈ b.held, o ≠ none)
    (hserved : ∀ u ∈ b.stores, ∃ v ∈ b.stores, v.1 = u.1 ∧ v.2.served = true) :
    b.endRules = [⟨129, Cause.blockFormat, einfoFormat 0 7 0x7F⟩] := by
  have hfilled : (List.range b.held.length).filter (fun j => listGet (some .null) j b.held == none) = [] := by
    refine List.filter_eq_nil_iff.mpr fun j hj => ?_
    have hlt : j < b.held.length := List.mem_range.mp hj
    rw [listGet_eq_getD, List.getElem?_eq_getElem hlt, beq_iff_eq]
    exact hheld _ (List.getElem_mem hlt)
  have hlsids : (List.range 32).filter (fun l => b.stores.any (fun u => u.1 == l) && !b.stores.any (fun u => u.1 == l && u.2.served)) = [] := by
    refine List.filter_eq_nil_iff.mpr fun l _ hl => ?_
    simp only [Bool.and_eq_true, List.any_eq_true, beq_iff_eq, Bool.not_eq_true', List.any_eq_false, not_and] at hl
    obtain ⟨⟨u, hu, rfl⟩, hnone⟩ := hl
    obtain ⟨v, hv, hvu, hvs⟩ := hserved u hu
    exact hnone v hv hvu hvs
  unfold Block.endRules
  simp only [hfilled, hlsids, hexits]
  rfl

theorem report_of_noExit (htraps : b.traps = []) (hseconds : b.seconds = []) (hexits : b.exits = []) (hheld : ∀ o ∈ b.held, o ≠ none)
    (hserved : ∀ u ∈ b.stores, ∃ v ∈ b.stores, v.1 = u.1 ∧ v.2.served = true) :
    b.report = some ⟨129, Cause.blockFormat, einfoFormat 0 7 0x7F⟩ := by
  simp [Block.report, htraps, hseconds, endRules_of_noExit hexits hheld hserved]

end

/-- The second part of O27: a block that has ended with a trap recorded does not commit. -/
theorem trappedBlockTakesTrap : TrappedBlockTakesTrap := by
  intro s t c b tr hf hend hlate htraps hseconds hraces heffs hallocs hmarks _
  obtain ⟨hmem, hfull, hothers, htaken⟩ := afterTrap_taken (t := t) (c := c) hmarks b.addr tr
  exact ⟨_, blockEnd_traps hf hend hlate heffs hallocs hmarks (report_of_oneTrap htraps hseconds hraces), hmem, hfull, rfl, hothers, htaken⟩

/-- The third part of O27 with the premise that it lacks: no mark of the walker waits for a claim to end. -/
theorem blockEnd_reportsLowestIndex {s : State} {t c : Nat} {b : Block} (hf : flying s t c b) (hend : atEnd b) (hlate : b.late = none)
    (hseconds : b.seconds = []) (heffs : b.effs = []) (hallocs : b.allocs = []) (hmarks : s.core.marks = []) :
    (∀ x y : Trap, (b.traps = [x, y] ∨ b.traps = [y, x]) → x.idx < y.idx → b.races = [] →
      ∃ u, exec (.blockEnd t c) s = .next u ∧ trapTaken (s.work.ctx t c) (u.work.ctx t c) b.addr x.cause x.einfo)
    ∧ (b.traps = [] → b.exits = [] → (∀ o ∈ b.held, o ≠ none) → (∀ u ∈ b.stores, ∃ v ∈ b.stores, v.1 = u.1 ∧ v.2.served = true) →
      ∃ u, exec (.blockEnd t c) s = .next u
        ∧ trapTaken (s.work.ctx t c) (u.work.ctx t c) b.addr 0x03 (BitVec.ofNat 64 (7 * 2 ^ 7 + 0x7F))) := by
  refine ⟨fun x y htraps hlt hraces => ?_, fun htraps hexits hheld hserved => ?_⟩
  · obtain ⟨_, _, _, htaken⟩ := afterTrap_taken (t := t) (c := c) hmarks b.addr x
    exact ⟨_, blockEnd_traps hf hend hlate heffs hallocs hmarks (report_of_twoTraps htraps hseconds hlt hraces), htaken⟩
  · obtain ⟨_, _, _, htaken⟩ := afterTrap_taken (t := t) (c := c) hmarks b.addr ⟨129, Cause.blockFormat, einfoFormat 0 7 0x7F⟩
    exact ⟨_, blockEnd_traps hf hend hlate heffs hallocs hmarks (report_of_noExit htraps hseconds hexits hheld hserved), htaken⟩

/-! ### A mark beside its entry keeps a trapped block from ending (05 R109, R110; 11 R213) -/

/-- The traps of two TRAPs, the first and the second instruction of their block. -/
def trapOf (i code : Nat) : Trap := ⟨i, Cause.trapInsn, BitVec.ofNat 64 code⟩

/-- A block of two TRAPs that have trapped. -/
def twoTraps : Block :=
  { addr := 0x400, words := [encode (.trap 0 1), encode (.trap 0 2)], writes := [], held := [], nr := 0, ns := 0, fw := true
    insts := [{ phase := .trapped }, { phase := .trapped }], traps := [trapOf 0 1, trapOf 1 2] }

/-- That block has ended in context 0 of tile 0. A mark waits on an entry at byte 4, where no table of R109 has one; another context claims
word 1, which the mark would write beside word 0. -/
def trapBesideMark : State :=
  { State.reset with
      core := { claims := [{ word := 1, party := 5, idx := 0 }]
                marks := [(4, { old := 0, write := false, conv := false })]
                tiles := [(0, { ctxs := [(0, { status := .running, fw := true, block := some twoTraps })] })] } }

/-- The trap releases the context's claims and so settles the mark; the event waits, since that writes the claimed word (R213). -/
theorem trapBesideMark_blockEnd_heldBack : exec (.blockEnd 0 0) trapBesideMark = .fault .notEnabled := by
  rw [exec_blockEnd]
  exact happen_none (Option.isNone_iff_eq_none.mp (by decide +kernel))

/-- Refutes O27: in its third part a block that has ended with two traps recorded takes none while the trap's release would make a mark of
the walker that writes a word that another context claims. Its first two parts hold. -/
theorem not_refusedAndTrappedBlocks : ¬ Obligations.RefusedAndTrappedBlocks := by
  intro ⟨_, _, hlowest, _⟩
  obtain ⟨u, hnext, _⟩ := hlowest trapBesideMark 0 0 twoTraps (trapOf 0 1) (trapOf 1 2) (by unfold flying; decide +kernel)
    (by unfold atEnd; decide) rfl (.inl rfl) (by decide) (by decide) rfl rfl rfl (by decide)
  rw [trapBesideMark_blockEnd_heldBack] at hnext
  nomatch hnext

end Sys2Proof.Machine
end

section
/-! SUPPORT. The results of the integer instructions as numbers, and bit by bit (09 R185 to R194). -/

namespace Sys2Proof.Machine

open Sys2Proof Sys2Proof.Claims Sys2Proof.Laws

/-! ### Arithmetic (09 R185) -/

section
variable {n : Nat} (x y : BitVec n)

theorem add_eq_ofNat : x + y = BitVec.ofNat n (x.toNat + y.toNat) := by
  rw [BitVec.ofNat_add, BitVec.ofNat_toNat, BitVec.ofNat_toNat, BitVec.setWidth_eq, BitVec.setWidth_eq]

theorem add_eq_ofInt : x + y = BitVec.ofInt n (x.toInt + y.toInt) := by
  rw [BitVec.ofInt_add, BitVec.ofInt_toInt, BitVec.ofInt_toInt]

theorem sub_eq_ofInt : x - y = BitVec.ofInt n (x.toInt - y.toInt) := by
  rw [Int.sub_eq_add_neg, BitVec.ofInt_add, BitVec.ofInt_neg, BitVec.ofInt_toInt, BitVec.ofInt_toInt, BitVec.sub_eq_add_neg]

theorem mul_eq_ofInt : x * y = BitVec.ofInt n (x.toInt * y.toInt) := by
  rw [BitVec.ofInt_mul, BitVec.ofInt_toInt, BitVec.ofInt_toInt]

theorem shl_eq_ofNat (k : Nat) : x <<< k = BitVec.ofNat n (x.toNat * 2 ^ k) := by
  apply BitVec.eq_of_toNat_eq
  rw [BitVec.toNat_shiftLeft, Nat.shiftLeft_eq, BitVec.toNat_ofNat]

theorem shr_eq_ofNat (k : Nat) : x >>> k = BitVec.ofNat n (x.toNat / 2 ^ k) := by
  rw [← Nat.shiftRight_eq_div_pow, ← BitVec.toNat_ushiftRight, BitVec.ofNat_toNat, BitVec.setWidth_eq]

theorem sshiftRight_eq_ofInt (k : Nat) : x.sshiftRight k = BitVec.ofInt n (x.toInt / 2 ^ k) := by
  rw [← BitVec.ofInt_toInt (x := x.sshiftRight k), BitVec.toInt_sshiftRight, Int.shiftRight_eq_div_pow, Int.natCast_pow]
  rfl

/-- The bits shifted out at one end come in at the other: the two parts do not overlap. -/
theorem shl_or_shr_eq_ofNat {j k : Nat} (h : j + k = n) : x <<< j ||| x >>> k = BitVec.ofNat n (x.toNat * 2 ^ j + x.toNat / 2 ^ k) := by
  have hn : 2 ^ n = 2 ^ k * 2 ^ j := by rw [← h, Nat.add_comm, Nat.pow_add]
  have hlow : x.toNat / 2 ^ k < 2 ^ j := Nat.div_lt_of_lt_mul (hn ▸ x.isLt)
  have hhigh : x.toNat * 2 ^ j % 2 ^ n = x.toNat % 2 ^ k * 2 ^ j := by rw [hn, Nat.mul_mod_mul_right]
  have hsum : x.toNat % 2 ^ k * 2 ^ j + x.toNat / 2 ^ k < 2 ^ n := by
    have := Nat.mul_le_mul_right (2 ^ j) (Nat.mod_lt x.toNat (Nat.two_pow_pos k))
    rw [Nat.succ_mul, ← hn] at this
    omega
  apply BitVec.eq_of_toNat_eq
  rw [BitVec.toNat_or, BitVec.toNat_shiftLeft, BitVec.toNat_ushiftRight, Nat.shiftLeft_eq, Nat.shiftRight_eq_div_pow, hhigh,
    ← Nat.shiftLeft_eq, ← Nat.shiftLeft_add_eq_or_of_lt hlow, Nat.shiftLeft_eq, BitVec.toNat_ofNat, Nat.add_mod, hhigh,
    Nat.mod_eq_of_lt (hlow.trans_le (Nat.pow_le_pow_right (by decide) (h ▸ Nat.le_add_right j k))), Nat.mod_eq_of_lt hsum]

end

section
variable (a b : Word)

theorem rotateLeft_eq_ofNat {k : Nat} (h : k < 64) : a.rotateLeft k = BitVec.ofNat 64 (a.toNat * 2 ^ k + a.toNat / 2 ^ (64 - k)) := by
  rw [BitVec.rotateLeft, Nat.mod_eq_of_lt h, BitVec.rotateLeftAux, shl_or_shr_eq_ofNat a (by omega)]

theorem rotateRight_eq_ofNat {k : Nat} (h : k < 64) : a.rotateRight k = BitVec.ofNat 64 (a.toNat / 2 ^ k + a.toNat * 2 ^ (64 - k)) := by
  rw [BitVec.rotateRight, Nat.mod_eq_of_lt h, BitVec.rotateRightAux, BitVec.or_comm, shl_or_shr_eq_ofNat a (by omega), Nat.add_comm]

theorem minS_eq_ofInt : minS a b = BitVec.ofInt 64 (min a.toInt b.toInt) := by
  unfold minS
  by_cases h : a.toInt < b.toInt
  · rw [if_pos (BitVec.slt_iff_toInt_lt.mpr h), min_eq_left h.le, BitVec.ofInt_toInt]
  · rw [if_neg (mt BitVec.slt_iff_toInt_lt.mp h), min_eq_right (not_lt.mp h), BitVec.ofInt_toInt]

theorem maxS_eq_ofInt : maxS a b = BitVec.ofInt 64 (max a.toInt b.toInt) := by
  unfold maxS
  by_cases h : a.toInt < b.toInt
  · rw [if_pos (BitVec.slt_iff_toInt_lt.mpr h), max_eq_right h.le, BitVec.ofInt_toInt]
  · rw [if_neg (mt BitVec.slt_iff_toInt_lt.mp h), max_eq_left (not_lt.mp h), BitVec.ofInt_toInt]

theorem minU_eq_ofNat : minU a b = BitVec.ofNat 64 (min a.toNat b.toNat) := by
  unfold minU
  by_cases h : a.toNat < b.toNat
  · rw [if_pos (BitVec.lt_def.mpr h), min_eq_left h.le, BitVec.ofNat_toNat, BitVec.setWidth_eq]
  · rw [if_neg (mt BitVec.lt_def.mp h), min_eq_right (not_lt.mp h), BitVec.ofNat_toNat, BitVec.setWidth_eq]

theorem maxU_eq_ofNat : maxU a b = BitVec.ofNat 64 (max a.toNat b.toNat) := by
  unfold maxU
  by_cases h : a.toNat < b.toNat
  · rw [if_pos (BitVec.lt_def.mpr h), max_eq_right h.le, BitVec.ofNat_toNat, BitVec.setWidth_eq]
  · rw [if_neg (mt BitVec.lt_def.mp h), max_eq_left (not_lt.mp h), BitVec.ofNat_toNat, BitVec.setWidth_eq]

theorem sextW_add : sextW (a + b) = BitVec.ofInt 64 (BitVec.ofNat 32 (a.toNat + b.toNat)).toInt := by
  rw [add_eq_ofNat, sextW, BitVec.setWidth_ofNat_of_le (by decide)]
  rfl

theorem setWidth_ofInt_32 (z : Int) : (BitVec.ofInt 64 z).setWidth 32 = BitVec.ofInt 32 z := by
  apply BitVec.eq_of_toNat_eq
  rw [BitVec.toNat_setWidth, BitVec.toNat_ofInt, BitVec.toNat_ofInt]
  omega

theorem sextW_sub : sextW (a - b) = BitVec.ofInt 64 (BitVec.ofInt 32 (a.toInt - b.toInt)).toInt := by
  rw [sextW, sub_eq_ofInt, setWidth_ofInt_32]
  rfl

end

/-! ### Multiply and divide (09 R186) -/

theorem highOf_natCast (p : Nat) : highOf p = BitVec.ofNat 64 (p / 2 ^ 64) := by
  rw [highOf, ← BitVec.ofInt_natCast]
  norm_cast

section
variable {n : Nat} (x y : BitVec n)

theorem ofInt_pow_sub_one : BitVec.ofInt n (2 ^ n - 1) = BitVec.allOnes n := by
  have h : ((2 : Int) ^ n - 1) = ((2 ^ n - 1 : Nat) : Int) := by
    rw [Nat.cast_sub Nat.one_le_two_pow]; norm_cast
  rw [h, BitVec.ofInt_natCast]
  apply BitVec.eq_of_toNat_eq
  rw [BitVec.toNat_ofNat, BitVec.toNat_allOnes, Nat.mod_eq_of_lt (Nat.sub_lt (Nat.two_pow_pos n) Nat.one_pos)]

theorem ofNat_pow_sub_one : BitVec.ofNat n (2 ^ n - 1) = BitVec.allOnes n := by
  apply BitVec.eq_of_toNat_eq
  rw [BitVec.toNat_ofNat, BitVec.toNat_allOnes, Nat.mod_eq_of_lt (Nat.sub_lt (Nat.two_pow_pos n) Nat.one_pos)]

theorem sdiv_eq_ofInt : x.sdiv y = BitVec.ofInt n (x.toInt.tdiv y.toInt) := by
  rw [← BitVec.ofInt_toInt (x := x.sdiv y), BitVec.toInt_sdiv]
  apply BitVec.eq_of_toInt_eq
  rw [BitVec.toInt_ofInt, BitVec.toInt_ofInt, Int.bmod_bmod]

/-- Only the least number over −1 is past the largest one: its quotient wraps to the least number. -/
theorem divS_eq_ofInt : divS x y = BitVec.ofInt n (quotS n x.toInt y.toInt) := by
  unfold divS quotS
  by_cases hy : y = 0
  · simp [hy, ofInt_pow_sub_one]
  have hyi : y.toInt ≠ 0 := mt (fun h => BitVec.eq_of_toInt_eq (h.trans BitVec.toInt_zero.symm)) hy
  rw [if_neg hy, if_neg hyi]
  split
  next h =>
    have hn : n ≠ 0 := by rintro rfl; exact hyi (BitVec.toInt_of_zero_length rfl y)
    have hmin : x = BitVec.intMin n := BitVec.eq_of_toInt_eq (h.1.trans (BitVec.toInt_intMin_of_pos (Nat.pos_of_ne_zero hn)).symm)
    rw [sdiv_eq_ofInt, h.2, Int.tdiv_neg, Int.tdiv_one, BitVec.ofInt_neg, BitVec.ofInt_toInt, hmin, BitVec.neg_intMin]
  next => exact sdiv_eq_ofInt x y

theorem remS_eq_ofInt : remS x y = BitVec.ofInt n (restS n x.toInt y.toInt) := by
  unfold remS restS
  by_cases hy : y = 0
  · simp [hy]
  have hyi : y.toInt ≠ 0 := mt (fun h => BitVec.eq_of_toInt_eq (h.trans BitVec.toInt_zero.symm)) hy
  have hsrem : x.srem y = BitVec.ofInt n (x.toInt.tmod y.toInt) := by rw [← BitVec.toInt_srem, BitVec.ofInt_toInt]
  rw [if_neg hy, if_neg hyi, hsrem]
  split
  next h => rw [h.2, Int.tmod_neg, Int.tmod_one]
  next => rfl

theorem divU_eq_ofNat : divU x y = BitVec.ofNat n (quotU n x.toNat y.toNat) := by
  unfold divU quotU
  by_cases hy : y = 0
  · simp [hy, ofNat_pow_sub_one]
  have hyn : y.toNat ≠ 0 := mt (fun h => BitVec.eq_of_toNat_eq (h.trans BitVec.toNat_zero.symm)) hy
  rw [if_neg hy, if_neg hyn, ← BitVec.toNat_udiv, BitVec.ofNat_toNat, BitVec.setWidth_eq]

theorem remU_eq_ofNat : remU x y = BitVec.ofNat n (restU x.toNat y.toNat) := by
  unfold remU restU
  by_cases hy : y = 0
  · simp [hy]
  have hyn : y.toNat ≠ 0 := mt (fun h => BitVec.eq_of_toNat_eq (h.trans BitVec.toNat_zero.symm)) hy
  rw [if_neg hy, if_neg hyn, ← BitVec.toNat_umod, BitVec.ofNat_toNat, BitVec.setWidth_eq]

end

/-- A 32-bit operation on the low halves, as the number that it narrows. -/
theorem onW_eq_narrow {f : BitVec 32 → BitVec 32 → BitVec 32} {a b : Word} {v : Int}
    (h : f (a.setWidth 32) (b.setWidth 32) = BitVec.ofInt 32 v) : onW f a b = narrow v := by
  rw [onW, h]
  rfl

/-! ### One operand (09 R187) -/

/-- `v` is the first of the positions below `n` at which `p` holds, or `n` where it holds at none. -/
def IsFirst (p : Nat → Bool) (n v : Nat) : Prop := v ≤ n ∧ (∀ k, k < v → p k = false) ∧ (v < n → p v = true)

theorem IsFirst.unique {p : Nat → Bool} {n u v : Nat} (hu : IsFirst p n u) (hv : IsFirst p n v) : u = v := by
  obtain ⟨hun, hubefore, huat⟩ := hu
  obtain ⟨hvn, hvbefore, hvat⟩ := hv
  rcases Nat.lt_trichotomy u v with h | h | h
  · exact absurd (huat (h.trans_le hvn)) (by simp [hvbefore u h])
  · exact h
  · exact absurd (hvat (h.trans_le hun)) (by simp [hubefore v h])

/-- The first position is 0, or one past the first position from 1 on. -/
theorem IsFirst.cons {p q : Nat → Bool} {n v : Nat} (hq : ∀ k, k < n → p (k + 1) = q k) (h : IsFirst q n v) :
    IsFirst p (n + 1) (if p 0 then 0 else 1 + v) := by
  obtain ⟨hvn, hbefore, hat⟩ := h
  cases hp : p 0 with
  | true => exact ⟨Nat.zero_le _, fun k hk => absurd hk (Nat.not_lt_zero k), fun _ => hp⟩
  | false =>
    refine ⟨by simp only [Bool.false_eq_true, if_false]; omega, fun k hk => ?_, fun hlt => ?_⟩
    · cases k with
      | zero => exact hp
      | succ k =>
        have hkv : k < v := by simp only [Bool.false_eq_true, if_false] at hk; omega
        rw [hq k (hkv.trans_le hvn), hbefore k hkv]
    · have hvn' : v < n := by simp only [Bool.false_eq_true, if_false] at hlt; omega
      rw [if_neg Bool.false_ne_true, Nat.add_comm, hq v hvn', hat hvn']

theorem isFirst_zero (p : Nat → Bool) : IsFirst p 0 0 :=
  ⟨Nat.le_refl 0, fun _ hk => absurd hk (Nat.not_lt_zero _), fun h => absurd h (Nat.lt_irrefl 0)⟩

theorem clzFrom_isFirst (a : Word) (n : Nat) : IsFirst (fun k => a.getLsbD (n - 1 - k)) n (clzFrom a n) := by
  induction n with
  | zero => exact isFirst_zero _
  | succ n ih => exact IsFirst.cons (p := fun k => a.getLsbD (n + 1 - 1 - k)) (fun k _ => by congr 1; omega) ih

theorem ctzFrom_isFirst (a : Word) {n : Nat} (hn : n ≤ 64) : IsFirst (fun k => a.getLsbD (64 - n + k)) n (ctzFrom a n) := by
  induction n with
  | zero => exact isFirst_zero _
  | succ n ih =>
    have hcons := IsFirst.cons (p := fun k => a.getLsbD (64 - (n + 1) + k)) (fun k _ => by congr 1; omega) (ih (by omega))
    simpa only [Nat.add_zero, show 64 - (n + 1) = 63 - n by omega, ctzFrom] using hcons

section
variable {a v : Word}

theorem ofNat_of_toNat_eq {n : Nat} (h : v.toNat = n) : BitVec.ofNat 64 n = v := by rw [← h, BitVec.ofNat_toNat, BitVec.setWidth_eq]

theorem clz_eq (h : v.toNat ≤ 64 ∧ (∀ k, k < v.toNat → a.getLsbD (63 - k) = false) ∧ (v.toNat < 64 → a.getLsbD (63 - v.toNat) = true)) :
    BitVec.ofNat 64 (clzFrom a 64) = v := ofNat_of_toNat_eq (IsFirst.unique h (clzFrom_isFirst a 64))

theorem ctz_eq (h : v.toNat ≤ 64 ∧ (∀ k, k < v.toNat → a.getLsbD k = false) ∧ (v.toNat < 64 → a.getLsbD v.toNat = true)) :
    BitVec.ofNat 64 (ctzFrom a 64) = v := by
  have hctz := ctzFrom_isFirst a (Nat.le_refl 64)
  simp only [Nat.sub_self, Nat.zero_add] at hctz
  exact ofNat_of_toNat_eq (IsFirst.unique h hctz)

theorem popFrom_eq_length (a : Word) (n : Nat) : popFrom a n = ((List.range n).filter (fun k => a.getLsbD k)).length := by
  induction n with
  | zero => rfl
  | succ n ih =>
    rw [popFrom, ih, List.range_succ, List.filter_append, List.length_append, Nat.add_comm]
    cases h : a.getLsbD n <;> simp [h]

theorem revFrom_lt (a : Word) (n : Nat) : revFrom a n < 2 ^ n := by
  induction n with
  | zero => exact Nat.one_pos
  | succ n ih =>
    rw [revFrom, Nat.pow_succ]
    split <;> omega

/-- Bit `k` of the reversed number is the bit at the other end. -/
theorem testBit_revFrom (a : Word) (n k : Nat) : (revFrom a n).testBit k = (decide (k < n) && a.getLsbD (63 - k)) := by
  induction n with
  | zero => simp [revFrom]
  | succ n ih =>
    have hlt := revFrom_lt a n
    have hsum : revFrom a (n + 1) = 2 ^ n * (a.getLsbD (63 - n)).toNat + revFrom a n := by
      rw [revFrom]; cases a.getLsbD (63 - n) <;> simp
    rw [hsum, Nat.testBit_two_pow_mul_add _ hlt, ih]
    rcases Nat.lt_trichotomy k n with h | rfl | h
    · simp [h, Nat.lt_succ_of_lt h]
    · cases a.getLsbD (63 - k) <;> simp
    · have hone : Nat.testBit 1 (k - n) = false := by
        rw [← Bool.not_eq_true, Nat.testBit_one_eq_true_iff_self_eq_zero]; omega
      cases a.getLsbD (63 - n) <;> simp [hone, show ¬ k < n by omega, show ¬ k < n + 1 by omega]

theorem brev_eq (h : ∀ k, k < 64 → v.getLsbD k = a.getLsbD (63 - k)) : BitVec.ofNat 64 (revFrom a 64) = v := by
  apply BitVec.eq_of_getLsbD_eq
  intro k hk
  rw [h k hk, BitVec.getLsbD_ofNat, testBit_revFrom]
  simp [hk]

/-- Byte by byte from the lowest, the bytes of `v` make up the number with the bytes of `a` in reverse. -/
theorem mod_eq_bswapFrom (h : ∀ k, k < 8 → bits v.toNat (8 * k) 8 = bits a.toNat (8 * (7 - k)) 8) {n : Nat} (hn : n ≤ 8) :
    v.toNat % 256 ^ n = bswapFrom a.toNat n := by
  induction n with
  | zero => exact Nat.mod_one _
  | succ n ih =>
    have hbyte := h n (by omega)
    rw [bits, bits, Nat.pow_mul, Nat.pow_mul] at hbyte
    have hbyte' : v.toNat / 256 ^ n % 256 = a.toNat / 256 ^ (7 - n) % 256 := hbyte
    rw [Nat.mod_pow_succ, ih (by omega), hbyte', bswapFrom, Nat.add_comm, Nat.mul_comm]

theorem bswap_eq (h : ∀ k, k < 8 → bits v.toNat (8 * k) 8 = bits a.toNat (8 * (7 - k)) 8) :
    BitVec.ofNat 64 (bswapFrom a.toNat 8) = v :=
  ofNat_of_toNat_eq ((Nat.mod_eq_of_lt v.isLt).symm.trans (mod_eq_bswapFrom h (Nat.le_refl 8)))

theorem signExtend_eq_of_toInt {n : Nat} (hn : n ≤ 64) {x : BitVec n} (h : v.toInt = x.toInt) : x.signExtend 64 = v :=
  BitVec.eq_of_toInt_eq ((BitVec.toInt_signExtend_of_le hn).trans h.symm)

theorem zeroExtend_eq_of_toNat (n : Nat) (hn : n ≤ 64) (h : v.toNat = a.toNat % 2 ^ n) : (a.setWidth n).setWidth 64 = v := by
  apply BitVec.eq_of_toNat_eq
  rw [BitVec.toNat_setWidth, BitVec.toNat_setWidth, h, Nat.mod_eq_of_lt]
  exact (Nat.mod_lt _ (Nat.two_pow_pos n)).trans_le (Nat.pow_le_pow_right (by decide) hn)

end

/-! ### Immediates, constants, addresses and fields (09 R188 to R190, R193) -/

section
variable (a b : Word)

theorem immWord_toInt (imm : BitVec 14) : (immWord imm).toInt = imm.toInt := BitVec.toInt_signExtend_of_le (by decide)

theorem immWord_toNat (imm : BitVec 14) : (immWord imm).toNat = (imm.toInt % 2 ^ 64).toNat := BitVec.toNat_ofInt _

theorem addImm_eq_ofInt (imm : BitVec 14) : a + immWord imm = BitVec.ofInt 64 (a.toInt + imm.toInt) := by
  rw [add_eq_ofInt, immWord_toInt]

theorem mulImm_eq_ofInt (imm : BitVec 14) : a * immWord imm = BitVec.ofInt 64 (a.toInt * imm.toInt) := by
  rw [mul_eq_ofInt, immWord_toInt]

theorem lea_eq_ofNat (k : Nat) : a + b <<< k = BitVec.ofNat 64 (a.toNat + 2 ^ k * b.toNat) := by
  rw [shl_eq_ofNat, BitVec.ofNat_add, BitVec.ofNat_toNat, BitVec.setWidth_eq, Nat.mul_comm]

theorem appc_eq_ofNat (imm : BitVec 16) : a <<< 16 ||| imm.setWidth 64 = BitVec.ofNat 64 (a.toNat * 2 ^ 16 + imm.toNat) := by
  apply BitVec.eq_of_getLsbD_eq
  intro k hk
  rw [BitVec.getLsbD_or, BitVec.getLsbD_shiftLeft, BitVec.getLsbD_setWidth, BitVec.getLsbD_ofNat, Nat.mul_comm,
    Nat.testBit_two_pow_mul_add _ imm.isLt]
  by_cases h : k < 16
  · simp [h, hk, BitVec.getLsbD]
  · simp [h, hk, BitVec.getLsbD, Nat.testBit_lt_two_pow (imm.isLt.trans_le (Nat.pow_le_pow_right (by decide) (not_lt.mp h)))]

variable {a b} {v : Word} {pos len : Nat}

theorem getLsbD_field (k : Nat) :
    (BitVec.ofNat 64 (bits a.toNat pos len)).getLsbD k = (decide (k < 64) && decide (k < len) && a.getLsbD (pos + k)) := by
  rw [BitVec.getLsbD_ofNat, bits, Nat.testBit_mod_two_pow, Nat.testBit_div_two_pow, BitVec.getLsbD, Nat.add_comm k pos, Bool.and_assoc]

theorem extField_eq (h : ∀ k, k < 64 → v.getLsbD k = (decide (k ≤ len) && a.getLsbD (pos + k))) : extField a pos (len + 1) = v := by
  apply BitVec.eq_of_getLsbD_eq
  intro k hk
  rw [extField, getLsbD_field, h k hk]
  simp [hk]

theorem extsField_eq (h : ∀ k, k < 64 → v.getLsbD k = a.getLsbD (pos + min k len)) : extsField a pos (len + 1) = v := by
  have hext : extsField a pos (len + 1) = (BitVec.ofNat (len + 1) (bits a.toNat pos (len + 1))).signExtend 64 := rfl
  apply BitVec.eq_of_getLsbD_eq
  intro k hk
  rw [hext, BitVec.getLsbD_signExtend, h k hk, BitVec.msb_eq_getLsbD_last, BitVec.getLsbD_ofNat, BitVec.getLsbD_ofNat, bits,
    Nat.testBit_mod_two_pow, Nat.testBit_mod_two_pow, Nat.testBit_div_two_pow, Nat.testBit_div_two_pow]
  by_cases hkl : k < len + 1
  · simp [hk, hkl, BitVec.getLsbD, Nat.add_comm k pos, Nat.min_eq_left (Nat.lt_succ_iff.mp hkl)]
  · simp [hk, hkl, BitVec.getLsbD, Nat.add_comm len pos, Nat.min_eq_right (show len ≤ k by omega)]

theorem getLsbD_fieldMask (k : Nat) : (fieldMask pos len).getLsbD k = (decide (k < 64) && (decide (pos ≤ k) && decide (k - pos < len))) := by
  rw [fieldMask, BitVec.getLsbD_ofNat, Nat.testBit_mul_two_pow, Nat.testBit_two_pow_sub_one]

theorem insField_eq (h : ∀ k, k < 64 → v.getLsbD k = if pos ≤ k ∧ k ≤ pos + len then b.getLsbD (k - pos) else a.getLsbD k) :
    insField a b pos (len + 1) = v := by
  apply BitVec.eq_of_getLsbD_eq
  intro k hk
  rw [insField, h k hk, BitVec.getLsbD_or, BitVec.getLsbD_and, BitVec.getLsbD_and, BitVec.getLsbD_not, BitVec.getLsbD_shiftLeft,
    getLsbD_fieldMask]
  by_cases hin : pos ≤ k ∧ k ≤ pos + len
  · simp [hk, hin, show k - pos < len + 1 by omega]
  · have hout : (decide (pos ≤ k) && decide (k - pos < len + 1)) = false := by
      rw [Bool.and_eq_false_iff, decide_eq_false_iff_not, decide_eq_false_iff_not]; omega
    simp only [hk, hin, hout]
    simp

end

/-! ### Compares (09 R191, R192) -/

section
variable (a b : Word)

theorem beq_eq_decide_toNat : (a == b) = decide (a.toNat = b.toNat) := by
  rw [beq_eq_decide, decide_eq_decide, ← BitVec.toNat_inj]

theorem bne_eq_decide_toNat : (a != b) = decide (a.toNat ≠ b.toNat) := by
  rw [bne, beq_eq_decide_toNat, decide_not]

theorem beq_eq_decide_toInt : (a == b) = decide (a.toInt = b.toInt) := by
  rw [beq_eq_decide, decide_eq_decide, ← BitVec.toInt_inj]

theorem bne_eq_decide_toInt : (a != b) = decide (a.toInt ≠ b.toInt) := by
  rw [bne, beq_eq_decide_toInt, decide_not]

theorem bit_eq_getLsbD (k : Nat) : bit a.toNat k = a.getLsbD k := by
  rw [BitVec.getLsbD, Nat.testBit_eq_decide_div_mod_eq, bit, beq_eq_decide]

end

end Sys2Proof.Machine
end

section
/-! SUPPORT. The integer instructions complete with the results of 09 R185 to R194, and their words have the rules' op and xop. -/

namespace Sys2Proof.Machine

open Sys2Proof Sys2Proof.Claims Sys2Proof.Laws

/-- What follows where a table has no row. -/
theorem of_none_eq_some {α : Type} {x : α} {P : Prop} (h : none = some x) : P := absurd h.symm (Option.some_ne_none x)

/-! ### Completion of an instruction that only computes (09 R176, R208) -/

section
variable {s : State} {i : Instr} {b : Block} {l r p v : Word} {lat : Nat}

/-- With two operands. -/
theorem exec_binary (f : Word → Word → Word) (h : ready s i b l r p) (he : exec i s = fireAlu (shape i) lat (fun a b _ => f a b) s)
    (hleft : (shape i).left = true) (hright : (shape i).right = true) (hv : f l r = v) : exec i s = .next (delivered s i b v lat) := by
  rw [he, fireAlu_ready h, word_left h hleft, word_right h hright, hv]

/-- With one operand. -/
theorem exec_unary (f : Word → Word) (h : ready s i b l r p) (he : exec i s = fireAlu (shape i) lat (fun a _ _ => f a) s)
    (hleft : (shape i).left = true) (hv : f l = v) : exec i s = .next (delivered s i b v lat) := by
  rw [he, fireAlu_ready h, word_left h hleft, hv]

/-- With none. -/
theorem exec_constant (u : Word) (h : ready s i b l r p) (he : exec i s = fireAlu (shape i) lat (fun _ _ _ => u) s) (hv : u = v) :
    exec i s = .next (delivered s i b v lat) := by
  rw [he, fireAlu_ready h, hv]

end

/-! ### Opcodes (07 R145) -/

theorem opOf_eq_fOp (w : IWord) : opOf w = (fOp w).toNat := by
  rw [opOf, fOp, BitVec.toNat_ofNat]
  omega

theorem xopOf_eq_fX (w : IWord) : xopOf w = (fX w).toNat := by rw [xopOf, fX, BitVec.toNat_ofNat]

theorem opXop_packG (op : BitVec 7) (pr : BitVec 2) (x : BitVec 5) (t1 t0 : BitVec 9) :
    opOf (packG op pr x t1 t0) = op.toNat ∧ xopOf (packG op pr x t1 t0) = x.toNat := by
  rw [opOf_eq_fOp, xopOf_eq_fX, fOp_packG, fX_packG]
  exact ⟨rfl, rfl⟩

/-- R185, R186, R191: the words of the two-operand instructions. -/
theorem opXop_encode {i : Instr} {o x : Nat} (h : opXop i = some (o, x)) : opOf (encode i) = o ∧ xopOf (encode i) = x := by
  cases i with
  | add | sub | and | or | xor | andn | orn | xnor | shl | shr | sar | rol | ror | min | max | minu | maxu | addw | subw | mul | mulh |
    mulhu | mulhsu | div | divu | rem | remu | mulw | divw | divuw | remw | remuw | teq | tne | tlt | tle | tgt | tge | tltu | tleu |
    tgtu | tgeu | tbs | tbc => cases h; exact opXop_packG _ _ _ _ _
  | _ => exact of_none_eq_some h

/-- R192: the words of the immediate compares. -/
theorem compareOp_encode {i : Instr} {o : Nat} (h : compareOp i = some o) : opOf (encode i) = o := by
  rw [opOf_eq_fOp]
  cases i with
  | teqi | tnei | tlti | tlei | tgti | tgei | tltui | tgeui => cases h; exact congrArg BitVec.toNat (fOp_packI _ _ _ _)
  | _ => exact of_none_eq_some h

section
variable {w : IWord}

theorem fOp_of_opOf {n : Nat} (h : opOf w = n) (hn : n < 128) : fOp w = BitVec.ofNat 7 n := by
  rw [opOf_eq_fOp] at h
  exact BitVec.eq_of_toNat_eq (by rw [h, BitVec.toNat_ofNat, Nat.mod_eq_of_lt hn])

theorem unassigned_op01 (hop : opOf w = 0x01) (hx : 19 ≤ xopOf w) : decode w = none := by
  rw [xopOf_eq_fX] at hx
  rw [Laws.RoundTrip.decode_op01 w (fOp_of_opOf hop (by decide)), decodeOp01]
  split
  iterate 19 next h => omega
  next => rfl

theorem unassigned_op02 (hop : opOf w = 0x02) (hx : 13 ≤ xopOf w) : decode w = none := by
  rw [xopOf_eq_fX] at hx
  rw [Laws.RoundTrip.decode_op02 w (fOp_of_opOf hop (by decide)), decodeOp02]
  split
  iterate 13 next h => omega
  next => rfl

theorem unassigned_op10 (hop : opOf w = 0x10) (hx : 12 ≤ xopOf w) : decode w = none := by
  rw [xopOf_eq_fX] at hx
  rw [Laws.RoundTrip.decode_op10 w (fOp_of_opOf hop (by decide)), decodeOp10]
  split
  iterate 12 next h => omega
  next => rfl

end

/-! ### Two operands (09 R185, R186) -/

section
variable {s : State} {i : Instr} {b : Block} {l r p v : Word} {lat : Nat}

/-- R185: each row of the table gives its result. -/
theorem exec_arith (hv : arithResult i l r = some v) (h : ready s i b l r p) : exec i s = .next (delivered s i b v 1) := by
  have hn : r.toNat % 64 < 64 := Nat.mod_lt _ (by decide)
  cases i with
  | add => cases hv; exact exec_binary (· + ·) h rfl rfl rfl (add_eq_ofNat l r)
  | sub => cases hv; exact exec_binary (· - ·) h rfl rfl rfl (sub_eq_ofInt l r)
  | and => cases hv; exact exec_binary (· &&& ·) h rfl rfl rfl rfl
  | or => cases hv; exact exec_binary (· ||| ·) h rfl rfl rfl rfl
  | xor => cases hv; exact exec_binary (· ^^^ ·) h rfl rfl rfl rfl
  | andn => cases hv; exact exec_binary (fun a b => a &&& ~~~b) h rfl rfl rfl rfl
  | orn => cases hv; exact exec_binary (fun a b => a ||| ~~~b) h rfl rfl rfl rfl
  | xnor => cases hv; exact exec_binary (fun a b => ~~~(a ^^^ b)) h rfl rfl rfl rfl
  | shl => cases hv; exact exec_binary (fun a b => a <<< (b.toNat % 64)) h rfl rfl rfl (shl_eq_ofNat l _)
  | shr => cases hv; exact exec_binary (fun a b => a >>> (b.toNat % 64)) h rfl rfl rfl (shr_eq_ofNat l _)
  | sar => cases hv; exact exec_binary (fun a b => sar a (b.toNat % 64)) h rfl rfl rfl (sshiftRight_eq_ofInt l _)
  | rol => cases hv; exact exec_binary (fun a b => a.rotateLeft (b.toNat % 64)) h rfl rfl rfl (rotateLeft_eq_ofNat l hn)
  | ror => cases hv; exact exec_binary (fun a b => a.rotateRight (b.toNat % 64)) h rfl rfl rfl (rotateRight_eq_ofNat l hn)
  | min => cases hv; exact exec_binary minS h rfl rfl rfl (minS_eq_ofInt l r)
  | max => cases hv; exact exec_binary maxS h rfl rfl rfl (maxS_eq_ofInt l r)
  | minu => cases hv; exact exec_binary minU h rfl rfl rfl (minU_eq_ofNat l r)
  | maxu => cases hv; exact exec_binary maxU h rfl rfl rfl (maxU_eq_ofNat l r)
  | addw => cases hv; exact exec_binary (fun a b => sextW (a + b)) h rfl rfl rfl (sextW_add l r)
  | subw => cases hv; exact exec_binary (fun a b => sextW (a - b)) h rfl rfl rfl (sextW_sub l r)
  | _ => exact of_none_eq_some hv

/-- R186: the multiply and divide instructions give the rule's value. -/
theorem exec_mulDiv (hv : mulDivResult i l r = some (v, lat)) (h : ready s i b l r p) : exec i s = .next (delivered s i b v lat) := by
  cases i with
  | mul => cases hv; exact exec_binary (· * ·) h rfl rfl rfl (mul_eq_ofInt l r)
  | mulh => cases hv; exact exec_binary (fun a b => highOf (a.toInt * b.toInt)) h rfl rfl rfl rfl
  | mulhu => cases hv; exact exec_binary (fun a b => highOf (a.toNat * b.toNat)) h rfl rfl rfl (highOf_natCast (l.toNat * r.toNat))
  | mulhsu => cases hv; exact exec_binary (fun a b => highOf (a.toInt * b.toNat)) h rfl rfl rfl rfl
  | div => cases hv; exact exec_binary divS h rfl rfl rfl (divS_eq_ofInt l r)
  | divu => cases hv; exact exec_binary divU h rfl rfl rfl (divU_eq_ofNat l r)
  | rem => cases hv; exact exec_binary remS h rfl rfl rfl (remS_eq_ofInt l r)
  | remu => cases hv; exact exec_binary remU h rfl rfl rfl (remU_eq_ofNat l r)
  | mulw => cases hv; exact exec_binary (onW (· * ·)) h rfl rfl rfl (onW_eq_narrow (mul_eq_ofInt _ _))
  | divw => cases hv; exact exec_binary (onW divS) h rfl rfl rfl (onW_eq_narrow (divS_eq_ofInt _ _))
  | divuw => cases hv; exact exec_binary (onW divU) h rfl rfl rfl (onW_eq_narrow ((divU_eq_ofNat _ _).trans (BitVec.ofInt_natCast _ _).symm))
  | remw => cases hv; exact exec_binary (onW remS) h rfl rfl rfl (onW_eq_narrow (remS_eq_ofInt _ _))
  | remuw => cases hv; exact exec_binary (onW remU) h rfl rfl rfl (onW_eq_narrow ((remU_eq_ofNat _ _).trans (BitVec.ofInt_natCast _ _).symm))
  | _ => exact of_none_eq_some hv

/-- R187: each one-operand instruction gives the value that the rule describes. -/
theorem exec_oneOperand {P : Prop} (hv : unaryIs i l v = some P) (hP : P) (h : ready s i b l r p) :
    exec i s = .next (delivered s i b v 1) := by
  cases i with
  | clz => cases hv; exact exec_unary (fun a => BitVec.ofNat 64 (clzFrom a 64)) h rfl rfl (clz_eq hP)
  | ctz => cases hv; exact exec_unary (fun a => BitVec.ofNat 64 (ctzFrom a 64)) h rfl rfl (ctz_eq hP)
  | popc => cases hv; exact exec_unary (fun a => BitVec.ofNat 64 (popFrom a 64)) h rfl rfl (ofNat_of_toNat_eq (hP.trans (popFrom_eq_length l 64).symm))
  | brev => cases hv; exact exec_unary (fun a => BitVec.ofNat 64 (revFrom a 64)) h rfl rfl (brev_eq hP)
  | bswap => cases hv; exact exec_unary (fun a => BitVec.ofNat 64 (bswapFrom a.toNat 8)) h rfl rfl (bswap_eq hP)
  | sextb => cases hv; exact exec_unary (fun a => (a.setWidth 8).signExtend 64) h rfl rfl (signExtend_eq_of_toInt (by decide) hP)
  | sexth => cases hv; exact exec_unary (fun a => (a.setWidth 16).signExtend 64) h rfl rfl (signExtend_eq_of_toInt (by decide) hP)
  | sextw => cases hv; exact exec_unary (fun a => (a.setWidth 32).signExtend 64) h rfl rfl (signExtend_eq_of_toInt (by decide) hP)
  | zextb => cases hv; exact exec_unary (fun a => (a.setWidth 8).setWidth 64) h rfl rfl (zeroExtend_eq_of_toNat 8 (by decide) hP)
  | zexth => cases hv; exact exec_unary (fun a => (a.setWidth 16).setWidth 64) h rfl rfl (zeroExtend_eq_of_toNat 16 (by decide) hP)
  | zextw => cases hv; exact exec_unary (fun a => (a.setWidth 32).setWidth 64) h rfl rfl (zeroExtend_eq_of_toNat 32 (by decide) hP)
  | _ => exact of_none_eq_some hv

/-- R188, R190, R193, R194: immediates, addresses, constants and moves. -/
theorem exec_immediate (hv : immediateResult i l r = some (v, lat)) (h : ready s i b l r p) : exec i s = .next (delivered s i b v lat) := by
  cases i with
  | addi => cases hv; exact exec_unary (· + immWord _) h rfl rfl (addImm_eq_ofInt l _)
  | andi => cases hv; exact exec_unary (· &&& immWord _) h rfl rfl rfl
  | ori => cases hv; exact exec_unary (· ||| immWord _) h rfl rfl rfl
  | xori => cases hv; exact exec_unary (· ^^^ immWord _) h rfl rfl rfl
  | muli => cases hv; exact exec_unary (· * immWord _) h rfl rfl (mulImm_eq_ofInt l _)
  | shli => cases hv; exact exec_unary (· <<< (BitVec.toNat _)) h rfl rfl (shl_eq_ofNat l _)
  | shri => cases hv; exact exec_unary (· >>> (BitVec.toNat _)) h rfl rfl (shr_eq_ofNat l _)
  | sari => cases hv; exact exec_unary (sar · (BitVec.toNat _)) h rfl rfl (sshiftRight_eq_ofInt l _)
  | lea1 => cases hv; exact exec_binary (fun a b => a + b <<< 0) h rfl rfl rfl ((lea_eq_ofNat l r 0).trans (by rw [Nat.pow_zero, Nat.one_mul]))
  | lea2 => cases hv; exact exec_binary (fun a b => a + b <<< 1) h rfl rfl rfl (lea_eq_ofNat l r 1)
  | lea4 => cases hv; exact exec_binary (fun a b => a + b <<< 2) h rfl rfl rfl (lea_eq_ofNat l r 2)
  | lea8 => cases hv; exact exec_binary (fun a b => a + b <<< 3) h rfl rfl rfl (lea_eq_ofNat l r 3)
  | lea16 => cases hv; exact exec_binary (fun a b => a + b <<< 4) h rfl rfl rfl (lea_eq_ofNat l r 4)
  | genc => cases hv; exact exec_constant (BitVec.signExtend 64 _) h rfl rfl
  | appc => cases hv; exact exec_unary (fun a => a <<< 16 ||| BitVec.setWidth 64 _) h rfl rfl (appc_eq_ofNat l _)
  | mov => cases hv; exact exec_unary id h rfl rfl rfl
  | movi => cases hv; exact exec_constant (immWord _) h rfl rfl
  | _ => exact of_none_eq_some hv

/-- R191, R192: a compare delivers 1 where its condition holds, else 0. -/
theorem exec_compare {c : Bool} (hc : compareHolds i l r = some c) (h : ready s i b l r p) :
    exec i s = .next (delivered s i b (boolWord c) 1) := by
  cases i with
  | teq => cases hc; exact exec_binary (fun a b => boolWord (a == b)) h rfl rfl rfl (congrArg boolWord (beq_eq_decide_toNat l r))
  | tne => cases hc; exact exec_binary (fun a b => boolWord (a != b)) h rfl rfl rfl (congrArg boolWord (bne_eq_decide_toNat l r))
  | tlt => cases hc; exact exec_binary (fun a b => boolWord (a.slt b)) h rfl rfl rfl rfl
  | tle => cases hc; exact exec_binary (fun a b => boolWord (a.sle b)) h rfl rfl rfl rfl
  | tgt => cases hc; exact exec_binary (fun a b => boolWord (b.slt a)) h rfl rfl rfl rfl
  | tge => cases hc; exact exec_binary (fun a b => boolWord (b.sle a)) h rfl rfl rfl rfl
  | tltu => cases hc; exact exec_binary (fun a b => boolWord (a.ult b)) h rfl rfl rfl rfl
  | tleu => cases hc; exact exec_binary (fun a b => boolWord (a.ule b)) h rfl rfl rfl rfl
  | tgtu => cases hc; exact exec_binary (fun a b => boolWord (b.ult a)) h rfl rfl rfl rfl
  | tgeu => cases hc; exact exec_binary (fun a b => boolWord (b.ule a)) h rfl rfl rfl rfl
  | tbs => cases hc; exact exec_binary (fun a b => boolWord (bit a.toNat (b.toNat % 64))) h rfl rfl rfl (congrArg boolWord (bit_eq_getLsbD l _))
  | tbc =>
    cases hc
    exact exec_binary (fun a b => boolWord (!bit a.toNat (b.toNat % 64))) h rfl rfl rfl
      (congrArg (fun x => boolWord !x) (bit_eq_getLsbD l _))
  | teqi =>
    cases hc
    exact exec_unary (fun a => boolWord (a == immWord _)) h rfl rfl
      (congrArg boolWord ((beq_eq_decide_toInt l _).trans (by rw [immWord_toInt])))
  | tnei =>
    cases hc
    exact exec_unary (fun a => boolWord (a != immWord _)) h rfl rfl
      (congrArg boolWord ((bne_eq_decide_toInt l _).trans (by rw [immWord_toInt])))
  | tlti => cases hc; exact exec_unary (fun a => boolWord (a.slt (immWord _))) h rfl rfl (congrArg boolWord (by rw [BitVec.slt, immWord_toInt]))
  | tlei => cases hc; exact exec_unary (fun a => boolWord (a.sle (immWord _))) h rfl rfl (congrArg boolWord (by rw [BitVec.sle, immWord_toInt]))
  | tgti => cases hc; exact exec_unary (fun a => boolWord ((immWord _).slt a)) h rfl rfl (congrArg boolWord (by rw [BitVec.slt, immWord_toInt]))
  | tgei => cases hc; exact exec_unary (fun a => boolWord ((immWord _).sle a)) h rfl rfl (congrArg boolWord (by rw [BitVec.sle, immWord_toInt]))
  | tltui => cases hc; exact exec_unary (fun a => boolWord (a.ult (immWord _))) h rfl rfl (congrArg boolWord (by rw [BitVec.ult, immWord_toNat]))
  | tgeui => cases hc; exact exec_unary (fun a => boolWord ((immWord _).ule a)) h rfl rfl (congrArg boolWord (by rw [BitVec.ule, immWord_toNat]))
  | _ => exact of_none_eq_some hc

end

/-- The part of O7 on the two-operand integer table. -/
theorem integerArithmeticCompletes : IntegerArithmeticCompletes :=
  ⟨fun _ _ _ _ _ _ _ => exec_arith, fun _ _ _ => opXop_encode, fun _ => unassigned_op01⟩

/-- The part of O7 on multiplication and division. -/
theorem multiplyDivideCompletes : MultiplyDivideCompletes := ⟨fun _ _ _ _ _ _ _ _ => exec_mulDiv, fun _ => unassigned_op02⟩

/-- Settles O7, row by row of the two tables. -/
theorem integerArithmeticAndDivide : Obligations.IntegerArithmeticAndDivide := ⟨integerArithmeticCompletes, multiplyDivideCompletes⟩

/-- The part of O8 on bit fields: a word is the field where it has the field's bits. -/
theorem bitFieldCompletes : BitFieldCompletes := by
  intro s pr len pos t0 b l r p v _
  refine ⟨fun h hv => ?_, fun h hv => ?_, fun h hv => ?_⟩
  · exact exec_unary (extField · pos.toNat (len.toNat + 1)) h rfl rfl (extField_eq hv)
  · exact exec_unary (extsField · pos.toNat (len.toNat + 1)) h rfl rfl (extsField_eq hv)
  · exact exec_binary (insField · · pos.toNat (len.toNat + 1)) h rfl rfl rfl (insField_eq hv)

/-- Settles O8, row by row. -/
theorem oneOperandImmediateAndBitFields : Obligations.OneOperandImmediateAndBitFields :=
  ⟨fun _ _ _ _ _ _ _ _ => exec_oneOperand, fun _ _ _ _ _ _ _ _ => exec_immediate, bitFieldCompletes⟩

/-- Settles O9, condition by condition. -/
theorem compareCompletes : Obligations.CompareCompletes :=
  ⟨fun _ _ _ _ _ _ _ => exec_compare, fun _ _ => opXop_encode, fun _ _ => compareOp_encode, fun _ => unassigned_op10⟩

end Sys2Proof.Machine
end

section
/-! SUPPORT. What the arrival of a result does to the block (09 R177, R182). -/

namespace Sys2Proof.Machine

open Sys2Proof Sys2Proof.Claims Sys2Proof.Laws

theorem exec_resultDelivery (t c k : Nat) (s : State) :
    exec (.resultDelivery t c k) s = happen (fun w => (w.at_ t c 0).resultDelivery k) s := rfl

/-- A result that is due arrives, and changes nothing but its block. -/
theorem exec_resultDelivery_due {s : State} {t c k : Nat} {b b' : Block} {f : InFlight} (hf : flying s t c b) (hk : b.inflight[k]? = some f)
    (hdue : f.due ≤ s.now) (hb' : Block.arrive { b with inflight := listErase k b.inflight } f.tgt f.val = b') :
    exec (.resultDelivery t c k) s = .next (blockSet s s.work t c b') := by
  obtain ⟨hb, hrun⟩ := hf
  have hblock : (s.work.at_ t c 0).block = some b := hb
  have hme : (s.work.at_ t c 0).me.status = .running := hrun
  have hnow : (s.work.at_ t c 0).now = s.now := rfl
  refine (exec_resultDelivery t c k s).trans (happen_at_block (i := 0) (f := fun w => w.resultDelivery k) ?_)
  simp only [Work.resultDelivery, hblock, hk, hme, hnow, hdue, hb']
  rfl

/-! ### What a target takes -/

section
variable (b : Block) {tgt : Target} {slot idx : Nat} (v : Operand)

theorem listModify_congr {α : Type} {d : α} {f g : α → α} {i : Nat} {xs : List α} (h : f (listGet d i xs) = g (listGet d i xs)) :
    listModify f i xs = listModify g i xs := by
  induction xs generalizing i with
  | nil => cases i <;> rfl
  | cons x xs ih =>
    cases i with
    | zero => exact congrArg (· :: xs) h
    | succ i => exact congrArg (x :: ·) (ih h)

/-- A slot of an instruction takes the value where it is empty; else a rule is broken, and the two values race where they differ. -/
theorem arrive_slot (hslot : slot < 3) (htgt : tgt.toNat = slot * 128 + idx) (hidx : idx < 128) {put : InstState → InstState}
    (hput : ∀ x : InstState, x.slot slot = none → x.fill slot v = put x) :
    b.arrive tgt v = if (b.inst idx).slot slot = none then { b with insts := listModify put idx b.insts }
      else { b with races := if (b.inst idx).slot slot = some v then b.races else idx :: b.races,
                    traps := b.traps ++ [⟨idx, 0x03, BitVec.ofNat 64 (2 * 2 ^ 7 + idx)⟩] } := by
  have hne : tgt ≠ noTarget := by rintro rfl; simp at htgt; omega
  have hdiv : tgt.toNat / 128 = slot := by omega
  have hmod : tgt.toNat % 128 = idx := by omega
  unfold Block.arrive
  simp only [hdiv, hmod, beq_iff_eq, hne, if_false, show slot ≠ 3 by omega]
  cases hx : (b.inst idx).slot slot with
  | none => rw [if_pos rfl, listModify_congr (d := {}) (g := put) (hput _ hx)]
  | some u => simp [Block.breakRule, einfoFormat, Cause.blockFormat]

section
variable {b v} (htgt : tgt.toNat = 3 * 128 + idx)
include htgt

theorem writeEntry_of_toNat : tgt.toNat / 128 = 3 ∧ tgt.toNat % 128 = idx := by omega

variable (hne : tgt ≠ noTarget)
include hne

/-- A write entry that is empty holds the value until the commit. -/
theorem arrive_emptyEntry (h : b.held[idx]? = some none) :
    b.arrive tgt v = { b with held := listModify (fun _ => some v) idx b.held } := by
  obtain ⟨hdiv, hmod⟩ := writeEntry_of_toNat htgt
  unfold Block.arrive
  simp only [hdiv, hmod, beq_iff_eq, hne, if_false, if_true, listGet_of_getElem? h]

/-- A write entry that is filled keeps what it holds, and a rule is broken. -/
theorem arrive_filledEntry {o : Operand} (h : b.held[idx]? = some (some o)) :
    b.arrive tgt v = { b with traps := b.traps ++ [⟨128, 0x03, BitVec.ofNat 64 (idx * 2 ^ 10 + 2 * 2 ^ 7 + 0x7F)⟩] } := by
  obtain ⟨hdiv, hmod⟩ := writeEntry_of_toNat htgt
  unfold Block.arrive
  simp only [hdiv, hmod, beq_iff_eq, hne, if_false, if_true, listGet_of_getElem? h]
  rfl

end

end

/-- Settles O23, by what each of the four kinds of target takes. -/
theorem resultReachesTarget : Obligations.ResultReachesTarget := by
  intro s t c k slot idx b f hf hk hdue htgt hidx hne
  refine ⟨?left, ?right, ?third, ?empty, ?filled⟩
  case left =>
    rintro rfl -
    exact exec_resultDelivery_due hf hk hdue (arrive_slot _ _ (by decide) htgt hidx (put := fun x => { x with left := some f.val })
      fun x (h : x.left = none) => by simp [InstState.fill, h])
  case right =>
    rintro rfl -
    exact exec_resultDelivery_due hf hk hdue (arrive_slot _ _ (by decide) htgt hidx (put := fun x => { x with right := some f.val })
      fun x (h : x.right = none) => by simp [InstState.fill, h])
  case third =>
    rintro rfl -
    exact exec_resultDelivery_due hf hk hdue (arrive_slot _ _ (by decide) htgt hidx (put := fun x => { x with third := some f.val })
      fun x (h : x.third = none) => by simp [InstState.fill, h])
  case empty =>
    rintro rfl hheld
    exact exec_resultDelivery_due hf hk hdue (arrive_emptyEntry htgt hne hheld)
  case filled =>
    rintro rfl ⟨o, hheld⟩
    exact exec_resultDelivery_due hf hk hdue (arrive_filledEntry htgt hne hheld)

end Sys2Proof.Machine
end

section
/-! SUPPORT. What an instruction does that does not act: a null in a slot that it takes, or a predicate that does not match (09 R176). -/

namespace Sys2Proof.Machine

open Sys2Proof Sys2Proof.Claims Sys2Proof.Laws

/-- The meaning fires the shape: what an instruction that does not act does then depends on its shape alone. -/
def Fires (s : State) (sh : Shape) (o : Host.Outcome State Fault Refusal) : Prop := ∃ st act, o = fireWith st sh act s

section
variable (sh : Shape) (act : Word → Word → Word → Work → Work) (s : State)

theorem fires_fire : Fires s sh (fire sh act s) := ⟨none, act, rfl⟩

theorem fires_fireAlu (lat : Nat) (f : Word → Word → Word → Word) : Fires s sh (fireAlu sh lat f s) := fires_fire _ _ _

theorem fires_fireFp (lat : Nat) (f : Word → Word → Word → FpResult) : Fires s sh (fireFp sh lat f s) := fires_fire _ _ _

variable {sh s}

theorem fires_unless {c : Prop} [Decidable c] {o : Host.Outcome State Fault Refusal} (hc : ¬ c) (h : Fires s sh o) :
    Fires s sh (if c then .fault .notEnabled else o) := by
  rwa [if_neg hc]

theorem wideLeft_of_idle (h : s.work.wideIdle = true) : s.work.wideLeft = false := by
  obtain ⟨hq, hr⟩ := (Bool.and_eq_true _ _).mp h
  simp only [Work.wideLeft, List.isEmpty_iff.mp hq, Option.isNone_iff_eq_none.mp hr]
  rfl

/-- The instruction in focus does not act when it fires. -/
def Idles (s : State) (sh : Shape) : Prop :=
  ∃ b, s.work.block = some b ∧ (!sh.hasNull (b.inst s.focus.idx) && sh.predOk (b.inst s.focus.idx)) = false

/-! What would hold an access back does not hold back an instruction that does not act. -/

theorem fires_fireAccess (h : Idles s sh) : Fires s sh (fireAccess sh act s) := by
  obtain ⟨b, hb, hx⟩ := h
  simpa [fireAccess, hb, hx] using fires_fire sh act s

theorem fires_fireStore (h : Idles s sh) : Fires s sh (fireStore sh act s) := by
  obtain ⟨b, hb, hx⟩ := id h
  simpa [fireStore, hb, hx] using fires_fireAccess act h

theorem fires_fireMem (h : Idles s sh) (l : Nat) (isStore : Bool) : Fires s sh (fireMem l isStore sh act s) := by
  obtain ⟨b, hb, hx⟩ := h
  refine ⟨if isStore then some l else none, act, ?_⟩
  simp [fireMem, hb, hx]

end

/-- Every instruction that does not act only fires its shape, once the wide unit is idle. -/
theorem exec_fires {s : State} {i : Instr} (henc : i.isEncoded = true) (hidle : s.work.wideIdle = true) (h : Idles s (shape i)) :
    Fires s (shape i) (exec i s) := by
  cases i with
  | add | sub | and | or | xor | andn | orn | xnor | shl | shr | sar | rol | ror | min | max | minu | maxu | addw | subw | mul | mulh |
    mulhu | mulhsu | div | divu | rem | remu | mulw | divw | divuw | remw | remuw | clz | ctz | popc | brev | bswap | sextb | sexth |
    sextw | zextb | zexth | zextw | addi | andi | ori | xori | shli | shri | sari | muli | ext | exts | ins | lea1 | lea2 | lea4 | lea8 |
    lea16 | teq | tne | tlt | tle | tgt | tge | tltu | tleu | tgtu | tgeu | tbs | tbc | teqi | tnei | tlti | tlei | tgti | tgei | tltui |
    tgeui | genc | appc | mov | movi => dsimp only [exec]; exact fires_fireAlu _ _ _ _
  | faddD | fsubD | fmulD | fdivD | fsqrtD | fmaD | fmsD | fnmaD | faddS | fsubS | fmulS | fdivS | fsqrtS | fmaS | fmsS | fnmaS | fmin |
    fmax | fneg | fabs | fcpys | fclass | fteq | ftlt | ftle | ftun | fcvtDS | fcvtSD | fcvtDI | fcvtDN | fcvtID | fcvtND | fcvtSI |
    fcvtIS => dsimp only [exec]; exact fires_fireFp _ _ _ _
  | null | br | call | badr | bri | calli | ret | fence | qstat | mts | trap | eret | halt | pause | rnext | spawnc | cfgsw | cfgabort |
    arm | drain | inject | sinkrd | kwait | imprel | wmovD | waddD | wmulD | wfmaD | wminD | wmaxD | wcmpD | wselD | wcvtD | wredD |
    wvarD | wshufD | wmovS | waddS | wmulS | wfmaS | wminS | wmaxS | wcmpS | wselS | wcvtS | wredS | wvarS | wshufS | xacc | xadd |
    xclr | xmov | xst | xld => dsimp only [exec]; exact fires_fire _ _ _
  | ld1 | ld1s | ld2 | ld2s | ld4 | ld4s | ld8 | tstfe | ldw1 | ldw2 | ldw4 | ldw8 | ldc1 | ldc2 | ldc4 | ldc8 | st1 | st2 | st4 | st8 |
    stf1 | stf2 | stf4 | stf8 | ste1 | ste2 | ste4 | ste8 | amo | cas | red => dsimp only [exec]; exact fires_fireMem _ h _ _
  | qpush | qpop | qpeek | qcfg | cqpop | cqpush | rseed | cfgld | cfgstrm | cpy | cpyfeOut | cpyfeIn | impose | free | poolgrow |
    cwprobe | cwstore | cwinv | dgst | wcfg | wrun | wait => dsimp only [exec]; exact fires_fireAccess _ h
  | allocT | allocN => dsimp only [exec]; exact fires_fireStore _ h
  | wld | wst | xsgn | xrnd => dsimp only [exec]; exact fires_unless (by simp [hidle]) (fires_fire _ _ _)
  | mfs => dsimp only [exec]; exact fires_unless (by simp [wideLeft_of_idle hidle]) (fires_fire _ _ _)
  | _ => exact absurd henc Bool.false_ne_true

section
variable {s : State} {i : Instr} {b : Block} {st : Option Nat} {act : Word → Word → Word → Work → Work}
variable (hs : standing s b) (hf : (shape i).filled (b.inst s.focus.idx) = true)

theorem lift_onBlock {f : Work → Block → Block} (hb : s.work.block = some b) : s.lift (fun w => w.onBlock (f w)) = withBlock s (f s.work b) := by
  unfold withBlock State.lift
  beta_reduce
  rw [Work.onBlock_of hb]

include hs hf

/-- An instruction that takes a null is nullified. -/
theorem fireWith_null (hn : (shape i).hasNull (b.inst s.focus.idx) = true) :
    fireWith st (shape i) act s = .next (withBlock s
      { phased s b .nullified with inflight := b.inflight ++ sends i s.focus.idx .null (s.now + 1) }) := by
  have hserve : s.lift (fun w => w.nullify (shape i) st)
      = s.lift (fun w => w.onBlock (fun b =>
        (b.sendBoth w.focus.idx (shape i).t0 (shape i).t1 .null (w.now + 1)).setPhase w.focus.idx .nullified)) := by
    cases st <;> rfl
  unfold fireWith
  rw [canFire_of hs hf, hs.1]
  simp only [Bool.not_true, Bool.false_eq_true, if_false, hn, if_true]
  rw [hserve, lift_onBlock hs.1, send_eq]
  rfl

/-- An instruction whose predicate does not match has no effect. -/
theorem fireWith_mismatch (hn : (shape i).hasNull (b.inst s.focus.idx) = false) (hp : (shape i).predOk (b.inst s.focus.idx) = false) :
    fireWith st (shape i) act s = .next (withBlock s (phased s b .mismatched)) := by
  unfold fireWith
  rw [canFire_of hs hf, hs.1]
  simp only [Bool.not_true, Bool.false_eq_true, if_false, hn, hp, Bool.not_false, if_true]
  rw [lift_onBlock hs.1]
  rfl

end

/-- The predicate does not match: bit 0 is not what pr asks for (07 R146). -/
theorem predOk_eq_false {sh : Shape} {x : InstState} {p : Word} (hx : x.third = some (.val p))
    (h : (sh.pr = 2#2 ∧ p.getLsbD 0 = true) ∨ (sh.pr = 3#2 ∧ p.getLsbD 0 = false)) : sh.predOk x = false := by
  rcases h with ⟨hpr, hbit⟩ | ⟨hpr, hbit⟩ <;>
    simp only [Shape.predOk, hpr, hx, Operand.word, bit_zero, hbit] <;> rfl

/-- Settles O10: what does not act only fires its shape, and firing a shape nullifies it or passes it over. -/
theorem nullsAndPredicates : Obligations.NullsAndPredicates := by
  refine ⟨?null, ?nullified, ?mismatched⟩
  case null =>
    intro s pr t1 t0 b l r p h
    refine (fire_ready (act := fun _ _ _ w =>
      w.onBlock (fun b => (b.setPhase w.focus.idx .performed).sendBoth w.focus.idx (shape (.null pr t1 t0)).t0
        (shape (.null pr t1 t0)).t1 .null (w.now + 1))) h).trans ?_
    rw [lift_onBlock h.1.1, send_eq]
    rfl
  case nullified =>
    intro s i b henc hidle hs hf hn
    obtain ⟨st, act, he⟩ := exec_fires henc hidle ⟨b, hs.1, by simp [hn]⟩
    rw [he, fireWith_null hs hf hn]
    split <;> rfl
  case mismatched =>
    intro s i b p henc hidle hs hf hn hthird hpred
    have hp := predOk_eq_false hthird hpred
    obtain ⟨st, act, he⟩ := exec_fires henc hidle ⟨b, hs.1, by simp [hp]⟩
    rw [he, fireWith_mismatch hs hf hn hp]

end Sys2Proof.Machine
end

section
/-! SUPPORT. Exits (09 R196 to R198, R182): where an exit that fires goes, and the rule that a second one breaks. -/

namespace Sys2Proof.Machine

open Sys2Proof Sys2Proof.Claims Sys2Proof.Laws

/-! ### Where an exit goes -/

theorem blockAddr_of {w : Work} {b : Block} (h : w.block = some b) : w.blockAddr = b.addr := by
  unfold Work.blockAddr
  rw [h]

theorem bits_zero (n k : Nat) : bits n 0 k = n % 2 ^ k := by simp [bits]

/-- An offset of blocks, as a number mod 2^72 (R197). -/
theorem relTarget_eq {w : Work} {b : Block} (h : w.block = some b) (off : BitVec 20) :
    w.relTarget off = BitVec.ofInt 72 (b.addr.toNat + off.toInt * 16) := by
  have hext : BitVec.ofInt 72 off.toInt = off.signExtend 72 := rfl
  rw [Work.relTarget, blockAddr_of h, BitVec.ofInt_add, BitVec.ofInt_mul, hext, BitVec.ofInt_natCast, BitVec.ofNat_toNat,
    BitVec.setWidth_eq]
  rfl

/-- An operand with bits [71:64] of the block's address (R198). -/
theorem indirectTarget_eq {w : Work} {b : Block} (h : w.block = some b) (l : Word) :
    vaddr (w.blockAddr.toNat / 2 ^ 64) l.toNat = BitVec.ofNat 72 (b.addr.toNat / 2 ^ 64 * 2 ^ 64 + l.toNat) := by
  have hhi : b.addr.toNat / 2 ^ 64 < 2 ^ 8 := by have := b.addr.isLt; omega
  rw [vaddr, blockAddr_of h, low, low, Nat.mod_eq_of_lt hhi, Nat.mod_eq_of_lt l.isLt]

section
variable {s : State} {i : Instr} {b : Block} {l r p : Word} {k : ExitKind}

/-- An exit that fires is beside those that fired before. -/
theorem lift_exitTo (h : s.work.block = some b) (a : Work → VAddr) : s.lift (fun w => w.exitTo k (a w)) = exited s b k (a s.work) :=
  lift_onBlock h

/-- R197, R237: the exits without an operand. -/
theorem exec_directExit {a : VAddr} (hk : directExit i b.addr = some (k, a)) (h : ready s i b l r p) :
    exec i s = .next (exited s b k a) := by
  have hb := h.1.1
  cases i with
  | br pr e off =>
    cases hk
    refine (fire_ready (act := fun _ _ _ w => w.exitTo .branch (w.relTarget off)) h).trans ?_
    rw [lift_exitTo hb (fun w => w.relTarget off), relTarget_eq hb off]
  | call pr e off =>
    cases hk
    refine (fire_ready (act := fun _ _ _ w => w.exitTo .call (w.relTarget off)) h).trans ?_
    rw [lift_exitTo hb (fun w => w.relTarget off), relTarget_eq hb off]
  | halt => cases hk; exact (fire_ready (act := fun _ _ _ w => w.exitTo .halt 0) h).trans (by rw [lift_exitTo hb (fun _ => 0)])
  | eret => cases hk; exact (fire_ready (act := fun _ _ _ w => w.exitTo .eret 0) h).trans (by rw [lift_exitTo hb (fun _ => 0)])
  | _ => exact of_none_eq_some hk

/-- R198: an exit with an operand fires `exitIndirect` on it. -/
theorem exec_indirectExit (hk : indirectExit i = some k) (h : ready s i b l r p) :
    exec i s = .next (s.lift (fun w => w.exitIndirect k l)) := by
  cases i with
  | bri => cases hk; exact (fire_ready (act := fun a _ _ w => w.exitIndirect .branch a) h).trans (by rw [word_left h rfl])
  | calli => cases hk; exact (fire_ready (act := fun a _ _ w => w.exitIndirect .call a) h).trans (by rw [word_left h rfl])
  | ret => cases hk; exact (fire_ready (act := fun a _ _ w => w.exitIndirect .branch a) h).trans (by rw [word_left h rfl])
  | _ => exact of_none_eq_some hk

theorem lift_exitIndirect_aligned (h : s.work.block = some b) (hl : l.toNat % 16 = 0) :
    s.lift (fun w => w.exitIndirect k l) = exited s b k (BitVec.ofNat 72 (b.addr.toNat / 2 ^ 64 * 2 ^ 64 + l.toNat)) := by
  rw [← indirectTarget_eq h l, ← lift_exitTo h (fun w => vaddr (w.blockAddr.toNat / 2 ^ 64) l.toNat)]
  simp only [State.lift, Work.exitIndirect, hl, bne_self_eq_false, Bool.false_eq_true, if_false]

theorem listModify_listModify {α : Type} (f g : α → α) (i : Nat) (xs : List α) :
    listModify f i (listModify g i xs) = listModify (fun x => f (g x)) i xs := by
  induction xs generalizing i with
  | nil => cases i <;> rfl
  | cons x xs ih =>
    cases i with
    | zero => rfl
    | succ i => exact congrArg (x :: ·) (ih i)

/-- Its trap stands beside the exit, which has fired all the same. -/
theorem lift_exitIndirect_misaligned (h : s.work.block = some b) (hl : l.toNat % 16 ≠ 0) :
    s.lift (fun w => w.exitIndirect k l) = withBlock s { exitBlock s { b with
        traps := b.traps ++ [⟨s.focus.idx, 0x04, BitVec.ofNat 64 (l.toNat % 2 ^ 56 * 2 ^ 8 + s.focus.idx)⟩],
        waits := b.waits.filter (fun x => x.idx != s.focus.idx) } k 0 with insts := (phased s b .trapped).insts } := by
  have hact : s.work.exitIndirect k l = (s.work.exitTo k 0).trap Cause.align (einfoAlign l.toNat s.focus.idx) := by
    simp only [Work.exitIndirect, bne_iff_ne, ne_eq, hl, not_false_eq_true, if_true]
    rfl
  have hexit : s.work.exitTo k 0 = s.work.setBlock (exitBlock s b k 0) := Work.onBlock_of h _
  have hfocus : s.work.focus = s.focus := rfl
  unfold withBlock State.lift
  beta_reduce
  rw [hact, hexit, Work.trap, Work.onBlock_of (Work.block_setBlock _ _), Work.setBlock_setBlock, Work.setBlock_focus, hfocus]
  unfold Block.trapAt Block.setPhase exitBlock phased
  dsimp only
  rw [listModify_listModify, einfoAlign, bits_zero]
  rfl

end

/-! ### A second exit (R182) -/

/-- What comes later in an ascending list is not its first element. -/
theorem mem_drop_one_of_lt {xs : List Nat} {m n : Nat} (hs : xs.Pairwise (· < ·)) (hm : m ∈ xs) (hn : n ∈ xs) (hlt : m < n) : n ∈ xs.drop 1 := by
  cases hs with
  | nil => cases hm
  | cons hle _ =>
    rcases List.mem_cons.mp hn with rfl | h
    · rcases List.mem_cons.mp hm with rfl | h'
      · exact absurd hlt (Nat.lt_irrefl _)
      · exact absurd hlt (Nat.lt_asymm (hle _ h'))
    · exact h

/-- Of two exits that have fired, the one of the higher index breaks a rule. -/
theorem second_mem_seconds {b : Block} {x y : ExitFired} (hx : x ∈ b.exits) (hy : y ∈ b.exits) (hlt : x.idx < y.idx)
    (hlen : y.idx < b.insts.length) : (⟨y.idx, 0x03, BitVec.ofNat 64 (3 * 2 ^ 7 + y.idx)⟩ : Trap) ∈ b.seconds := by
  have hmem : ∀ z ∈ b.exits, z.idx < b.insts.length →
      z.idx ∈ (List.range b.insts.length).filter (fun i => b.exits.any (fun x => x.idx == i)) := fun z hz hl =>
    List.mem_filter.mpr ⟨List.mem_range.mpr hl, List.any_eq_true.mpr ⟨z, hz, beq_self_eq_true _⟩⟩
  have hsorted := (List.pairwise_lt_range (n := b.insts.length)).filter (fun i => b.exits.any (fun x => x.idx == i))
  refine List.mem_append_left _ (List.mem_map.mpr ⟨y.idx, ?_, ?_⟩)
  · exact mem_drop_one_of_lt hsorted (hmem x hx (hlt.trans hlen)) (hmem y hy hlen) hlt
  · simp [einfoFormat, Cause.blockFormat]

theorem broken_of_second {b : Block} {t : Trap} (h : t ∈ b.seconds) : b.broken = true := by
  unfold Block.broken
  cases hs : b.seconds with
  | nil => simp [hs] at h
  | cons => simp

/-- Settles O14, by what an exit does to the block and by the ascending list of the exits that have fired. -/
theorem exitsFireOrTrap : Obligations.ExitsFireOrTrap := by
  refine ⟨⟨?direct, ?aligned⟩, ?misaligned, ?second⟩
  case direct => exact fun s i b l r p k a hk h => exec_directExit hk h
  case aligned =>
    intro s i b l r p k hk hl h
    rw [exec_indirectExit hk h, lift_exitIndirect_aligned h.1.1 hl]
  case misaligned =>
    intro s i b l r p k hk hl h
    rw [exec_indirectExit hk h, lift_exitIndirect_misaligned h.1.1 hl]
  case second =>
    intro s i b l r p k a x hk hx hne hlen h
    have hlength : (exitBlock s b k a).insts.length = b.insts.length := listModify_length _ _ _
    have hold : x ∈ (exitBlock s b k a).exits := by simp [exitBlock, hx]
    have hnew : ⟨s.focus.idx, k, a⟩ ∈ (exitBlock s b k a).exits := by simp [exitBlock]
    suffices hsec : _ ∈ (exitBlock s b k a).seconds from ⟨exec_directExit hk h, hsec, broken_of_second hsec⟩
    rcases Nat.lt_or_gt_of_ne hne with hlt | hlt
    · rw [max_eq_right hlt.le]
      exact second_mem_seconds hold hnew hlt (hlength ▸ h.1.2.2.1)
    · rw [max_eq_left hlt.le]
      exact second_mem_seconds hnew hold hlt (hlength ▸ hlen)

end Sys2Proof.Machine
end

section
/-! SUPPORT. The commit of a block without effects (09 R180, R181, R184; 11 R237): its registers, its flags and its exit. -/

namespace Sys2Proof.Machine

open Sys2Proof Sys2Proof.Claims Sys2Proof.Laws

/-! ### The write entries (09 R181) -/

/-- What a commit does with one write entry: its register and what it holds. -/
def putReg (c : Ctx) (x : Nat × Option Operand) : Ctx :=
  match x.2 with
  | some (.val v) => c.setReg x.1 v
  | _ => c

theorem writeRegs_eq_foldl (c : Ctx) (b : Block) : Work.writeRegs c b = (b.writes.zip b.held).foldl putReg c := rfl

theorem reg_putReg_other (c : Ctx) (x : Nat × Option Operand) {n : Nat} (h : n ≠ x.1) : (putReg c x).reg n = c.reg n := by
  unfold putReg
  split
  · exact Ctx.reg_setReg_other _ _ _ _ h
  · rfl

theorem reg_putReg_congr {c d : Ctx} (x : Nat × Option Operand) {n : Nat} (h : c.reg n = d.reg n) : (putReg c x).reg n = (putReg d x).reg n := by
  by_cases hn : n = x.1
  · subst hn
    unfold putReg
    split
    · by_cases h0 : x.1 = 0
      · simp [h0]
      · rw [Ctx.reg_setReg_same _ _ _ h0, Ctx.reg_setReg_same _ _ _ h0]
    · exact h
  · rw [reg_putReg_other _ _ hn, reg_putReg_other _ _ hn, h]

theorem reg_foldl_putReg_other {ps : List (Nat × Option Operand)} {n : Nat} (h : n ∉ ps.map (·.1)) (c : Ctx) :
    (ps.foldl putReg c).reg n = c.reg n := by
  induction ps generalizing c with
  | nil => rfl
  | cons x ps ih =>
    obtain ⟨hx, hps⟩ : n ≠ x.1 ∧ n ∉ ps.map (·.1) := by simpa only [List.map_cons, List.mem_cons, not_or] using h
    exact (ih hps _).trans (reg_putReg_other _ _ hx)

/-- Of entries of different registers each decides its own. -/
theorem reg_foldl_putReg {ps : List (Nat × Option Operand)} (hnodup : (ps.map (·.1)).Nodup) {n : Nat} {o : Option Operand}
    (hmem : (n, o) ∈ ps) (c : Ctx) : (ps.foldl putReg c).reg n = (putReg c (n, o)).reg n := by
  induction ps generalizing c with
  | nil => cases hmem
  | cons x ps ih =>
    obtain ⟨hx, hps⟩ := List.nodup_cons.mp hnodup
    rcases List.mem_cons.mp hmem with rfl | h
    · exact reg_foldl_putReg_other hx _
    · have hne : n ≠ x.1 := fun he => hx (List.mem_map.mpr ⟨_, h, he⟩)
      exact (ih hps h _).trans (reg_putReg_congr _ (reg_putReg_other _ _ hne))

/-- Everything but the registers stays. -/
theorem writeRegs_eq (c : Ctx) (b : Block) : ∃ regs, Work.writeRegs c b = { c with regs := regs } := by
  rw [writeRegs_eq_foldl]
  generalize b.writes.zip b.held = ps
  induction ps generalizing c with
  | nil => exact ⟨c.regs, rfl⟩
  | cons x ps ih =>
    obtain ⟨regs, h⟩ := ih (putReg c x)
    have hput : ∃ r, putReg c x = { c with regs := r } := by
      unfold putReg Ctx.setReg
      split
      · split
        · exact ⟨c.regs, rfl⟩
        · exact ⟨_, rfl⟩
      · exact ⟨c.regs, rfl⟩
    obtain ⟨r, hr⟩ := hput
    exact ⟨regs, h.trans (by rw [hr])⟩

section
variable {b : Block} (c : Ctx) (hlen : b.held.length = b.writes.length)
include hlen

theorem writeEntries_registers : (b.writes.zip b.held).map (·.1) = b.writes := List.map_fst_zip hlen.ge

theorem reg_writeRegs_other {n : Nat} (h : n ∉ b.writes) : (Work.writeRegs c b).reg n = c.reg n :=
  reg_foldl_putReg_other (by rwa [writeEntries_registers hlen]) c

theorem reg_writeRegs {j n : Nat} {o : Option Operand} (hnodup : b.writes.Nodup) (hw : b.writes[j]? = some n) (hh : b.held[j]? = some o) :
    (Work.writeRegs c b).reg n = (putReg c (n, o)).reg n :=
  reg_foldl_putReg (by rwa [writeEntries_registers hlen])
    (List.mem_of_getElem? (List.getElem?_zip_eq_some.mpr ⟨hw, hh⟩)) c

end

/-! ### What the context becomes -/

/-- A context after its block `b` has committed: registers, flags and exit. -/
def committed (c : Ctx) (b : Block) : Ctx :=
  Work.afterCommit { Work.writeRegs c b with fpflags := (Work.writeRegs c b).fpflags ||| b.flags } b

/-- The return block address (09 R196), mod 2^64. -/
theorem returnAddr_eq (b : Block) : returnAddr b.addr b.words.length b.nr b.writes.length = BitVec.ofNat 64 (returnBlock b) := by
  apply BitVec.eq_of_toNat_eq
  simp only [returnAddr, returnBlock, headLen, low, BitVec.toNat_ofNat]
  omega

section
variable {b : Block} {x : ExitFired} (c : Ctx) (hx : b.exits = [x])
include hx

/-- An exit changes registers, where it is a call, pc and status, and with ERET the mode. -/
theorem afterCommit_eq : Work.afterCommit c b = { c with
    block := none
    status := if x.kind = .halt then .halted else .ready
    regs := if x.kind = .call then (c.setReg 2 (BitVec.ofNat 64 (returnBlock b))).regs else c.regs
    pc := match x.kind with
      | .branch | .call => x.dest
      | .halt => c.pc
      | .eret => vaddr (bits c.estat.toNat 8 8) c.epc.toNat
    fw := if x.kind = .eret then !bit c.estat.toNat 0 else c.fw } := by
  unfold Work.afterCommit
  rw [hx]
  cases hk : x.kind <;> simp [hk, returnAddr_eq, Ctx.setReg, Ctx.returnTrap]

theorem reg_committed (n : Nat) :
    (committed c b).reg n = if x.kind = .call ∧ n = 2 then BitVec.ofNat 64 (returnBlock b) else (Work.writeRegs c b).reg n := by
  rw [committed, afterCommit_eq _ hx]
  by_cases hk : x.kind = .call
  · by_cases hn : n = 2
    · subst hn
      simp only [hk, and_self, if_true]
      exact Ctx.reg_setReg_same (Work.writeRegs c b) 2 _ (by decide)
    · simp only [hk, hn, and_false, if_true, if_false]
      exact Ctx.reg_setReg_other (Work.writeRegs c b) n 2 _ hn
  · simp only [hk, false_and, if_false]
    rfl

end

/-! ### The commit (09 R180, R181) -/

/-- Block and exit go on, and the rest of the package stays but for the tile's wide queue. -/
theorem ctx_enqueueWide (w : Work) (b : Block) (t c : Nat) : (w.enqueueWide b).ctx t c = w.ctx t c := by
  unfold Work.enqueueWide
  by_cases h : t = w.focus.tile
  · subst h
    simp [Work.ctx]
  · simp [Work.ctx, Work.tile_setTile_other _ _ _ _ h]

/-- The machine after the commit, before what the block holds is released. -/
def beforeRelease (w : Work) (t c : Nat) (b : Block) : Work :=
  let w := w.setCtx t c (Work.writeRegs (w.ctx t c) b)
  let w := w.setCtx t c { w.ctx t c with fpflags := (w.ctx t c).fpflags ||| b.flags }
  let w := w.enqueueWide b
  w.setCtx t c (Work.afterCommit (w.ctx t c) b)

theorem commitBlock_of_noEffs (w : Work) {b : Block} (hmems : b.mems = []) (heffs : b.effs = []) :
    w.commitBlock b = ((beforeRelease w w.focus.tile w.focus.ctx b).release w.party).setLast w.focus.tile w.focus.ctx := by
  have hes : Work.effectsInOrder b = [] := by simp [Work.effectsInOrder, heffs]
  simp only [Work.commitBlock, hmems, hes, List.foldl_nil, Work.goOn, Work.untilSwitch, Work.endCommit]
  rfl

section
variable (w : Work) {t c : Nat} (b : Block)

theorem ctx_beforeRelease : (beforeRelease w t c b).ctx t c = committed (w.ctx t c) b := by
  simp only [beforeRelease, ctx_enqueueWide, Work.ctx_setCtx_same, committed]

theorem ctx_beforeRelease_other {t' c' : Nat} (h : (t', c') ≠ (t, c)) : (beforeRelease w t c b).ctx t' c' = w.ctx t' c' := by
  have hset : ∀ (u : Work) (x : Ctx), (u.setCtx t c x).ctx t' c' = u.ctx t' c' := fun u x => by
    by_cases ht : t' = t
    · subst ht
      exact Work.ctx_setCtx_ctx _ _ _ _ _ (fun hc => h (by rw [hc]))
    · exact Work.ctx_setCtx_tile _ _ _ _ _ _ ht
  exact (hset _ _).trans ((ctx_enqueueWide _ _ _ _).trans ((hset _ _).trans (hset _ _)))

end

/-- A block that may commit has nothing to report. -/
theorem report_of_mayCommit {b : Block} {x : ExitFired} (h : mayCommit b x) : b.report = none := by
  obtain ⟨_, _, htraps, hseconds, hexits, _, hheld, hserved⟩ := h
  have hlacking := endRules_of_noExit (b := { b with exits := [] }) rfl hheld hserved
  have hsplit : ({ b with exits := [] } : Block).endRules = b.endRules ++ [⟨129, Cause.blockFormat, einfoFormat 0 7 0x7F⟩] := by
    unfold Block.endRules
    simp only [hexits, List.isEmpty_cons, Bool.false_eq_true, if_false, List.append_nil]
    rfl
  have hrules : b.endRules = [] := List.append_left_eq_self.mp (hsplit.symm.trans hlacking)
  simp [Block.report, htraps, hseconds, hrules]

section
variable {s : State} {t c : Nat} {b : Block} {x : ExitFired}

/-- The machine after a block of context `c` of tile `t` has committed. -/
def afterBlock (s : State) (t c : Nat) (b : Block) : Work :=
  ((beforeRelease (s.work.at_ t c 0) t c b).release (t * 4 + c)).setLast t c

theorem afterBlock_log (hmarks : s.core.marks = []) : (afterBlock s t c b).log = [] :=
  Work.release_log (w := beforeRelease (s.work.at_ t c 0) t c b) hmarks _

theorem blockEnd_commits (hf : flying s t c b) (h : mayCommit b x) (hmems : b.mems = []) (heffs : b.effs = []) (hmarks : s.core.marks = []) :
    exec (.blockEnd t c) s = .next (s.put (afterBlock s t c b)) := by
  have hblock : (s.work.at_ t c 0).block = some b := hf.1
  have hrun : (s.work.at_ t c 0).me.status = .running := hf.2
  have hroom : (s.work.at_ t c 0).wideRoom b = true := by simp [Work.wideRoom, Block.wideOps, heffs]
  have hcommit : (s.work.at_ t c 0).commitBlock b = afterBlock s t c b := commitBlock_of_noEffs _ hmems heffs
  have hclear : (afterBlock s t c b).writesClaimed none = false := by simp [Work.writesClaimed, afterBlock_log hmarks]
  refine (exec_blockEnd t c s).trans (happen_some ?_)
  unfold Work.blockEnd
  rw [hblock]
  dsimp only
  rw [hrun, if_neg (by decide)]
  split
  next hes => rw [h.2.1] at hes; nomatch hes
  next =>
    simp only [ended_of_atEnd h.1, endTraps_of_noEffs _ heffs, report_of_mayCommit h, hroom, hcommit]
    simp [Work.unlessClaimed, Option.filter, hclear]

/-- The release leaves a context as it was before, but for the SPAWNC that had claimed it. -/
theorem ctx_afterBlock (hmarks : s.core.marks = []) (t' c' : Nat) : ∃ claimant,
    (s.put (afterBlock s t c b)).work.ctx t' c' = { (beforeRelease (s.work.at_ t c 0) t c b).ctx t' c' with spawnedBy := claimant } := by
  obtain ⟨claimant, h⟩ := Work.ctx_release (w := beforeRelease (s.work.at_ t c 0) t c b) hmarks (t * 4 + c) t' c'
  exact ⟨claimant, (Work.ctx_setLast _ _ _ _ _).trans h⟩

end

/-- What a context holds after the commit, in the statement's terms. -/
theorem committed_facts {b : Block} {x : ExitFired} (c : Ctx) (h : mayCommit b x) :
    (committed c b).fpflags = c.fpflags ||| b.flags ∧ (committed c b).block = none
      ∧ (committed c b).status = (if x.kind = .halt then .halted else .ready)
      ∧ (x.kind = .branch ∨ x.kind = .call → (committed c b).pc = x.dest ∧ (committed c b).fw = c.fw)
      ∧ (x.kind = .eret → (committed c b).pc.toNat = c.estat.toNat / 2 ^ 8 % 2 ^ 8 * 2 ^ 64 + c.epc.toNat
        ∧ (committed c b).fw = !c.estat.getLsbD 0)
      ∧ sameTask (committed c b) c ∧ sameTraps (committed c b) c := by
  obtain ⟨_, _, _, _, hx, _⟩ := h
  obtain ⟨regs, hregs⟩ := writeRegs_eq c b
  rw [committed, afterCommit_eq _ hx, hregs]
  refine ⟨rfl, rfl, rfl, fun hk => ?_, fun hk => ?_, ⟨rfl, rfl, rfl, rfl, rfl, rfl, rfl, rfl, rfl, rfl⟩, ⟨rfl, rfl, rfl, rfl, rfl, rfl, rfl⟩⟩
  · rcases hk with hk | hk <;> simp [hk]
  · simp only [hk, if_true]
    refine ⟨?_, by rw [bit_zero]⟩
    simp only [vaddr, bits, low, BitVec.toNat_ofNat]
    have := c.epc.isLt
    omega

/-- Settles O24: the fold over the write entries gives the registers, and the commit's exit the rest. -/
theorem commitWritesRegisters : Obligations.CommitWritesRegisters := by
  intro s t c b x hf h hmems heffs hnodup hmarks hcall
  have hx : b.exits = [x] := h.2.2.2.2.1
  have hlen : b.held.length = b.writes.length := h.2.2.2.2.2.1
  obtain ⟨claimant, hctx⟩ := ctx_afterBlock (t := t) (c := c) (b := b) hmarks t c
  have hown : (beforeRelease (s.work.at_ t c 0) t c b).ctx t c = committed (s.work.ctx t c) b := ctx_beforeRelease (s.work.at_ t c 0) b
  have hreg : ∀ n, ((s.put (afterBlock s t c b)).work.ctx t c).reg n
      = if x.kind = .call ∧ n = 2 then BitVec.ofNat 64 (returnBlock b) else (Work.writeRegs (s.work.ctx t c) b).reg n := fun n => by
    rw [hctx, hown, ← reg_committed _ hx]
    rfl
  have hentry : ∀ j n, b.writes[j]? = some n → ¬(x.kind = .call ∧ n = 2) := fun j n hj ⟨hk, hn⟩ =>
    hcall hk (hn ▸ List.mem_of_getElem? hj)
  have hlog := afterBlock_log (t := t) (c := c) (b := b) hmarks
  refine ⟨_, blockEnd_commits hf h hmems heffs hmarks, by rw [State.put_mem, hlog]; rfl, by rw [State.put_full, hlog]; rfl, rfl, rfl,
    ?others, ?written, ?kept, ?null, Ctx.reg_zero _, ?call, ?rest⟩
  case others =>
    intro t' c' hne
    obtain ⟨claimant', hother⟩ := ctx_afterBlock (t := t) (c := c) (b := b) hmarks t' c'
    rw [hother, ctx_beforeRelease_other (s.work.at_ t c 0) b hne]
    exact ⟨rfl, rfl, rfl, rfl, fun _ => rfl, ⟨rfl, rfl, rfl, rfl, rfl, rfl, rfl, rfl, rfl, rfl⟩, ⟨rfl, rfl, rfl, rfl, rfl, rfl, rfl⟩, rfl⟩
  case written =>
    intro j n v hj hv h0
    rw [hreg, if_neg (hentry j n hj), reg_writeRegs _ hlen hnodup hj hv]
    exact Ctx.reg_setReg_same _ _ _ h0
  case kept =>
    intro n hn hk
    rw [hreg, if_neg hk, reg_writeRegs_other _ hlen hn]
  case null =>
    intro j n hj hv
    rw [hreg, if_neg (hentry j n hj), reg_writeRegs _ hlen hnodup hj hv]
    rfl
  case call => exact fun hk => (hreg 2).trans (if_pos ⟨hk, rfl⟩)
  case rest =>
    rw [hctx, hown]
    exact committed_facts (s.work.ctx t c) h

end Sys2Proof.Machine
end

section
/-! SUPPORT. Cutting an exact number to a lowest exponent (03 R57): what `cutAt` keeps of a number and when it rounds up. -/

namespace Sys2Proof.Machine

open Sys2Proof Sys2Proof.Claims Sys2Proof.Laws

section
variable {K : Type} [Field K] [LinearOrder K] [IsStrictOrderedRing K]

/-- The number `y` is what `m`, `e` and `sticky` stand for: `m × 2^e`, or with `sticky` more than that by less than one unit of `m`. -/
def Stands (m : Nat) (e : Int) (sticky : Bool) (y : K) : Prop :=
  (m : K) * 2 ^ e ≤ y ∧ y < (m + 1) * 2 ^ e ∧ (sticky = true ↔ y ≠ m * 2 ^ e)

/-- The mode rounds numbers of this sign away from zero (R57). -/
abbrev Away (rm : Nat) (neg : Bool) : Prop := (rm = 2 ∧ neg = false) ∨ (rm = 3 ∧ neg = true)

/-- A number `y` from `lo` to below `hi`, two neighbours of which the lower is odd or even, rounds to `hi` (R57). -/
def RoundsUp (rm : Nat) (neg : Bool) (odd : Prop) (lo hi y : K) : Prop :=
  (rm = 0 ∧ ((lo + hi) / 2 < y ∨ ((lo + hi) / 2 = y ∧ odd))) ∨ (Away rm neg ∧ lo < y)

section
variable {odd : Prop} {lo hi y : K}

omit [IsStrictOrderedRing K] in
theorem roundsUp_nearest (neg : Bool) : RoundsUp 0 neg odd lo hi y ↔ ((lo + hi) / 2 < y ∨ ((lo + hi) / 2 = y ∧ odd)) := by
  simp [RoundsUp, Away]

omit [IsStrictOrderedRing K] in
theorem roundsUp_away {rm : Nat} {neg : Bool} (h : Away rm neg) : RoundsUp rm neg odd lo hi y ↔ lo < y := by
  have h0 : rm ≠ 0 := by rintro rfl; simp [Away] at h
  simp [RoundsUp, h, h0]

omit [IsStrictOrderedRing K] in
theorem not_roundsUp {rm : Nat} {neg : Bool} (h0 : rm ≠ 0) (h : ¬ Away rm neg) : ¬ RoundsUp rm neg odd lo hi y := by
  simp [RoundsUp, h, h0]

/-- A number rounds up only from above its lower neighbour. -/
theorem lt_of_roundsUp {rm : Nat} {neg : Bool} (hlt : lo < hi) (h : RoundsUp rm neg odd lo hi y) : lo < y := by
  rcases h with ⟨_, h | ⟨h, _⟩⟩ | ⟨_, h⟩ <;> linarith

end

theorem stands_exact (m : Nat) (e : Int) : Stands m e false ((m : K) * 2 ^ e) := by
  have hpos : (0 : K) < 2 ^ e := by positivity
  exact ⟨le_rfl, by linarith, by simp⟩

/-- Dropping `n` bits: the kept part stands, with the rest as its sticky bit. -/
theorem Stands.drop {m : Nat} {e : Int} {sticky : Bool} {y : K} (h : Stands m e sticky y) (n : Nat) :
    Stands (m / 2 ^ n) (e + n) (m % 2 ^ n != 0 || sticky) y := by
  obtain ⟨hlo, hhi, hs⟩ := h
  have hpos : (0 : K) < 2 ^ e := by positivity
  have hpow : (2 : K) ^ (e + n) = 2 ^ n * 2 ^ e := by rw [zpow_add₀ two_ne_zero, zpow_natCast, mul_comm]
  have hsplit : (m : K) = (m / 2 ^ n : Nat) * 2 ^ n + (m % 2 ^ n : Nat) := by
    exact_mod_cast (Nat.div_add_mod' m (2 ^ n)).symm
  have hrem : ((m % 2 ^ n : Nat) : K) + 1 ≤ 2 ^ n := by exact_mod_cast Nat.succ_le_of_lt (Nat.mod_lt m (Nat.two_pow_pos n))
  have hrem0 : (0 : K) ≤ (m % 2 ^ n : Nat) := Nat.cast_nonneg _
  have heq : ((m / 2 ^ n : Nat) : K) * 2 ^ (e + n) = m * 2 ^ e - (m % 2 ^ n : Nat) * 2 ^ e := by
    rw [hpow, hsplit]; ring
  refine ⟨?_, ?_, ?_⟩
  · rw [heq]; nlinarith
  · calc y < (m + 1) * 2 ^ e := hhi
      _ ≤ ((m / 2 ^ n : Nat) + 1) * 2 ^ (e + n) := by
        rw [add_mul _ _ ((2 : K) ^ (e + n)), heq, hpow]; nlinarith
  · rw [heq]
    by_cases h0 : m % 2 ^ n = 0
    · simpa [h0] using hs
    · have : (0 : K) < (m % 2 ^ n : Nat) := by exact_mod_cast Nat.pos_of_ne_zero h0
      simp only [bne_iff_ne, ne_eq, h0, not_false_eq_true, Bool.or_eq_true, true_or, true_iff]
      have := mul_pos this hpos
      intro he
      linarith

/-- A number that lies `r` of `2^(k+1)` units above `lo`, or less than one unit more, lies above the middle, on it or below. -/
theorem above_middle_iff {lo P y : K} {r k : Nat} {sticky : Bool} (hP : 0 < P) (hlo : lo + r * P ≤ y) (hhi : y < lo + (r + 1) * P)
    (hs : sticky = true ↔ y ≠ lo + r * P) (odd : Prop) :
    (2 ^ (k + 1) < 2 * r ∨ (2 * r = 2 ^ (k + 1) ∧ (sticky = true ∨ odd)))
      ↔ (lo + 2 ^ k * P < y ∨ (lo + 2 ^ k * P = y ∧ odd)) := by
  have hpow : 2 ^ (k + 1) = 2 * 2 ^ k := pow_succ' 2 k
  rcases lt_trichotomy r (2 ^ k) with h | h | h
  · have hcast : (r : K) + 1 ≤ 2 ^ k := by exact_mod_cast h
    have := mul_le_mul_of_nonneg_right hcast hP.le
    refine iff_of_false (by omega) ?_
    rintro (hy | ⟨hy, -⟩) <;> linarith
  · have hcast : (r : K) = 2 ^ k := by exact_mod_cast h
    rw [hcast] at hlo hs
    have hiff : (lo + 2 ^ k * P < y ∨ (lo + 2 ^ k * P = y ∧ odd)) ↔ (y ≠ lo + 2 ^ k * P ∨ odd) := by
      rcases hlo.lt_or_eq with hy | hy
      · simp [hy, hy.ne']
      · simp [← hy]
    rw [hiff, ← hs]
    simp [hpow, h]
  · have hcast : (2 ^ k : K) + 1 ≤ r := by exact_mod_cast h
    have := mul_le_mul_of_nonneg_right hcast hP.le
    exact iff_of_true (by omega) (.inl (by linarith))

theorem roundsUp_iff {m : Nat} {e : Int} {sticky : Bool} {y : K} (h : Stands m e sticky y) {rm : Nat} (hrm : rm ≤ 3) (neg : Bool) (k : Nat) :
    roundsUp rm neg (m / 2 ^ (k + 1)) (m % 2 ^ (k + 1)) (k + 1) sticky = true
      ↔ RoundsUp rm neg (m / 2 ^ (k + 1) % 2 = 1) (((m / 2 ^ (k + 1) : Nat) : K) * 2 ^ (e + (k + 1 : Nat)))
          (((m / 2 ^ (k + 1) : Nat) + 1) * 2 ^ (e + (k + 1 : Nat))) y := by
  have hdrop := h.drop (k + 1)
  have hP : (0 : K) < 2 ^ e := by positivity
  have hpow : (2 : K) ^ (e + (k + 1 : Nat)) = 2 * (2 ^ k * 2 ^ e) := by
    rw [zpow_add₀ two_ne_zero, zpow_natCast, pow_succ]; ring
  have hsplit : (m : K) * 2 ^ e = (m / 2 ^ (k + 1) : Nat) * 2 ^ (e + (k + 1 : Nat)) + (m % 2 ^ (k + 1) : Nat) * 2 ^ e := by
    have : (m : K) = (m / 2 ^ (k + 1) : Nat) * 2 ^ (k + 1) + (m % 2 ^ (k + 1) : Nat) := by
      exact_mod_cast (Nat.div_add_mod' m (2 ^ (k + 1))).symm
    rw [this, hpow]; ring
  obtain ⟨hlo, hhi, hs⟩ := h
  obtain ⟨hdlo, _, hds⟩ := hdrop
  rw [add_mul, hsplit, one_mul] at hhi
  rw [hsplit] at hlo hs
  have hmid := above_middle_iff (k := k) hP hlo (by linarith) hs (m / 2 ^ (k + 1) % 2 = 1)
  have hhalf : ((m / 2 ^ (k + 1) : Nat) : K) * 2 ^ (e + (k + 1 : Nat)) + 2 ^ k * 2 ^ e
      = (((m / 2 ^ (k + 1) : Nat) : K) * 2 ^ (e + (k + 1 : Nat)) + ((m / 2 ^ (k + 1) : Nat) + 1) * 2 ^ (e + (k + 1 : Nat))) / 2 := by
    rw [hpow]; ring
  rw [hhalf] at hmid
  have hinexact : (m % 2 ^ (k + 1) != 0 || sticky) = true ↔ ((m / 2 ^ (k + 1) : Nat) : K) * 2 ^ (e + (k + 1 : Nat)) < y :=
    hds.trans ⟨fun hne => lt_of_le_of_ne hdlo (Ne.symm hne), fun hlt => hlt.ne'⟩
  unfold RoundsUp Away roundsUp
  rcases (by omega : rm = 0 ∨ rm = 1 ∨ rm = 2 ∨ rm = 3) with rfl | rfl | rfl | rfl
  · simpa using hmid
  · simp
  · simp [hinexact, and_comm]
  · simp [hinexact, and_comm]

/-- What `cutAt` does with a number: the number of units of `2^q` below it, one more where it rounds up, and whether it is inexact. -/
theorem cutAt_spec {m : Nat} {e : Int} {sticky : Bool} {y : K} (h : Stands m e sticky y) {rm : Nat} (hrm : rm ≤ 3) (neg : Bool) {q : Int}
    (hq : sticky = true → e < q) : ∃ hi : Nat, (hi : K) * 2 ^ q ≤ y ∧ y < (hi + 1) * 2 ^ q
      ∧ ((cutAt rm neg m e q sticky).2 = true ↔ y ≠ hi * 2 ^ q)
      ∧ (RoundsUp rm neg (hi % 2 = 1) ((hi : K) * 2 ^ q) ((hi + 1) * 2 ^ q) y → (cutAt rm neg m e q sticky).1 = hi + 1)
      ∧ (¬ RoundsUp rm neg (hi % 2 = 1) ((hi : K) * 2 ^ q) ((hi + 1) * 2 ^ q) y → (cutAt rm neg m e q sticky).1 = hi) := by
  unfold cutAt
  split
  next hle =>
    have hs : sticky = false := by
      by_contra hs
      exact absurd (hq (by simpa using hs)) (not_lt.mpr hle)
    obtain ⟨n, hn⟩ : ∃ n : Nat, e = q + n := ⟨(e - q).toNat, by omega⟩
    have hpos : (0 : K) < 2 ^ q := by positivity
    have hy : y = ((m * 2 ^ n : Nat) : K) * 2 ^ q := by
      have : y = m * 2 ^ e := by simpa [hs] using h.2.2
      rw [this, hn, zpow_add₀ two_ne_zero, zpow_natCast]; push_cast; ring
    have hshift : (e - q).toNat = n := by omega
    simp only [hshift]
    have hlt : y < ((m * 2 ^ n : Nat) + 1) * 2 ^ q := by rw [add_mul, ← hy]; linarith
    refine ⟨m * 2 ^ n, hy.ge, hlt, by simp [hs, hy], fun hup => ?_, fun _ => rfl⟩
    unfold RoundsUp at hup
    rw [← hy] at hup
    rcases hup with ⟨_, hup | ⟨hup, _⟩⟩ | ⟨_, hup⟩ <;> linarith
  next hlt =>
    obtain ⟨k, hk⟩ : ∃ k : Nat, q = e + (k + 1 : Nat) := ⟨(q - e).toNat - 1, by omega⟩
    subst hk
    have hshift : (e + (k + 1 : Nat) - e).toNat = k + 1 := by omega
    obtain ⟨hlo, hhi, hs⟩ := h.drop (k + 1)
    simp only [hshift]
    refine ⟨_, hlo, hhi, hs, fun hup => if_pos ?_, fun hup => if_neg ?_⟩
    · exact (roundsUp_iff h hrm neg k).mpr hup
    · exact fun hr => hup ((roundsUp_iff h hrm neg k).mp hr)

end

end Sys2Proof.Machine
end

section
/-! SUPPORT. The magnitudes of a format's encodings (03 R52): their value, and that they ascend with the encoding. -/

namespace Sys2Proof.Machine

open Sys2Proof Sys2Proof.Claims Sys2Proof.Laws

section
variable (f : Fmt)

/-- The encoding of `h` units of the `n`th exponent from the lowest, subnormals included: a significand of `2^(fb+1)` carries over. -/
theorem magnitude_scaled {n h : Nat} (hh : h ≤ 2 * 2 ^ f.fb) (hn : n = 0 ∨ 2 ^ f.fb ≤ h) :
    magnitude f (n * 2 ^ f.fb + h) = h * 2 ^ (f.emin + n) := by
  have hβ : 0 < 2 ^ f.fb := Nat.two_pow_pos _
  have hu : (2 : ℚ) ^ (1 - (f.bias : Int) - (f.fb : Int)) = 2 ^ f.emin := rfl
  have hpow : ∀ k : Nat, (2 : ℚ) ^ (f.emin + k) = 2 ^ f.emin * 2 ^ k := fun k => by rw [zpow_add₀ two_ne_zero, zpow_natCast]
  simp only [magnitude, hu, hpow]
  rcases hh.eq_or_lt with rfl | hlt
  · have hdiv : (n * 2 ^ f.fb + 2 * 2 ^ f.fb) / 2 ^ f.fb = n + 2 := by rw [← add_mul, Nat.mul_div_cancel _ hβ]
    have hmod : (n * 2 ^ f.fb + 2 * 2 ^ f.fb) % 2 ^ f.fb = 0 := by rw [← add_mul, Nat.mul_mod_left]
    rw [hdiv, hmod, if_neg (by omega), Nat.add_sub_assoc (by omega), pow_add]
    push_cast
    ring
  · rcases Nat.lt_or_ge h (2 ^ f.fb) with hsub | hnorm
    · obtain rfl : n = 0 := hn.resolve_right (not_le.mpr hsub)
      rw [Nat.zero_mul, Nat.zero_add, if_pos (Nat.div_eq_of_lt hsub)]
      simp
    · obtain ⟨d, rfl⟩ := Nat.exists_eq_add_of_le hnorm
      have hd : d < 2 ^ f.fb := by omega
      have hsum : n * 2 ^ f.fb + (2 ^ f.fb + d) = d + (n + 1) * 2 ^ f.fb := by ring
      have hdiv : (n * 2 ^ f.fb + (2 ^ f.fb + d)) / 2 ^ f.fb = n + 1 := by
        rw [hsum, Nat.add_mul_div_right _ _ hβ, Nat.div_eq_of_lt hd, Nat.zero_add]
      have hmod : (n * 2 ^ f.fb + (2 ^ f.fb + d)) % 2 ^ f.fb = d := by
        rw [hsum, Nat.add_mul_mod_self_right, Nat.mod_eq_of_lt hd]
      rw [hdiv, hmod, if_neg (by omega), Nat.add_sub_cancel]
      push_cast
      ring

/-- Every encoding is `h` units of some exponent, with room for one unit more. -/
theorem exists_scaled (k : Nat) : ∃ n h : Nat, k = n * 2 ^ f.fb + h ∧ h + 1 ≤ 2 * 2 ^ f.fb ∧ (n = 0 ∨ 2 ^ f.fb ≤ h) := by
  have hβ : 0 < 2 ^ f.fb := Nat.two_pow_pos _
  have hmod : k % 2 ^ f.fb < 2 ^ f.fb := Nat.mod_lt _ hβ
  have hk : k / 2 ^ f.fb * 2 ^ f.fb + k % 2 ^ f.fb = k := Nat.div_add_mod' k _
  cases hq : k / 2 ^ f.fb with
  | zero => exact ⟨0, k, by simp, by rw [hq] at hk; omega, .inl rfl⟩
  | succ n =>
    refine ⟨n, 2 ^ f.fb + k % 2 ^ f.fb, ?_, by omega, .inr (by omega)⟩
    rw [hq, add_mul, one_mul] at hk
    omega

theorem magnitude_strictMono : StrictMono (magnitude f) := by
  refine strictMono_nat_of_lt_succ fun k => ?_
  obtain ⟨n, h, rfl, hh, hn⟩ := exists_scaled f k
  have hpos : (0 : ℚ) < 2 ^ (f.emin + n) := by positivity
  rw [magnitude_scaled f (by omega) hn, add_assoc, magnitude_scaled f hh (hn.imp_right (by omega))]
  push_cast
  linarith

theorem magnitude_zero : magnitude f 0 = 0 := by simp [magnitude]

theorem magnitude_nonneg (k : Nat) : 0 ≤ magnitude f k := magnitude_zero f ▸ (magnitude_strictMono f).monotone (Nat.zero_le k)

theorem magnitude_eq_zero {k : Nat} : magnitude f k = 0 ↔ k = 0 :=
  ⟨fun h => (magnitude_strictMono f).injective (h.trans (magnitude_zero f).symm), fun h => h ▸ magnitude_zero f⟩

/-- The least normal magnitude, and the unit of the subnormal ones. -/
theorem magnitude_least : magnitude f (2 ^ f.fb) = 2 ^ f.fb * 2 ^ f.emin := by
  have h := magnitude_scaled f (n := 0) (h := 2 ^ f.fb) (by omega) (.inl rfl)
  simpa using h

theorem magnitude_one : magnitude f 1 = 2 ^ f.emin := by
  have h := magnitude_scaled f (n := 0) (h := 1) (by have := Nat.two_pow_pos f.fb; omega) (.inl rfl)
  simpa using h

end

end Sys2Proof.Machine
end

section
/-! SUPPORT. The one encoding that a positive number rounds to (03 R57 to R59), by the two neighbours between which the number lies. -/

namespace Sys2Proof.Machine

open Sys2Proof Sys2Proof.Claims Sys2Proof.Laws

/-- `c t` is the sign of y − t. -/
def Measures (c : ℚ → Int) (y : ℝ) : Prop := ∀ t : ℚ, 0 ≤ t → (c t < 0 ↔ y < t) ∧ (c t = 0 ↔ y = t) ∧ (0 < c t ↔ t < y)

section
variable {c : ℚ → Int} {y : ℝ} (hc : Measures c y) {t : ℚ} (ht : 0 ≤ t)
include hc ht

theorem Measures.neg_iff : c t < 0 ↔ y < t := (hc t ht).1
theorem Measures.zero_iff : c t = 0 ↔ y = t := (hc t ht).2.1
theorem Measures.pos_iff : 0 < c t ↔ t < y := (hc t ht).2.2
theorem Measures.nonpos_iff : c t ≤ 0 ↔ y ≤ t := by rw [← not_lt, hc.pos_iff ht, not_lt]
theorem Measures.nonneg_iff : 0 ≤ c t ↔ t ≤ y := by rw [← not_lt, hc.neg_iff ht, not_lt]

end

/-- A number is tiny after rounding (R59): rounded with an unbounded exponent it is below the least normal magnitude. -/
def Tiny (f : Fmt) (rm : Nat) (neg : Bool) (y : ℝ) : Prop :=
  if rm = 0 then y < 2 ^ f.fb * 2 ^ f.emin - 2 ^ f.emin / 4
  else if Away rm neg then y ≤ 2 ^ f.fb * 2 ^ f.emin - 2 ^ f.emin / 2
  else y < 2 ^ f.fb * 2 ^ f.emin

section
variable {f : Fmt} {rm : Nat} {neg : Bool} {c : ℚ → Int} {y : ℝ} (hc : Measures c y)
include hc

theorem tiny_iff : (if rm = 0 then c (magnitude f (2 ^ f.fb) - magnitude f 1 / 4) < 0
      else if Away rm neg then c (magnitude f (2 ^ f.fb) - magnitude f 1 / 2) ≤ 0 else c (magnitude f (2 ^ f.fb)) < 0)
    ↔ Tiny f rm neg y := by
  have hu : (0 : ℚ) < 2 ^ f.emin := by positivity
  have hβ : (1 : ℚ) ≤ 2 ^ f.fb := one_le_pow₀ (by norm_num)
  have hle : (2 : ℚ) ^ f.emin ≤ 2 ^ f.fb * 2 ^ f.emin := le_mul_of_one_le_left hu.le hβ
  rw [magnitude_least, magnitude_one, hc.neg_iff (by linarith), hc.nonpos_iff (by linarith), hc.neg_iff (by linarith), Tiny]
  push_cast
  rfl

end

/-! ### The encoding between two neighbours -/

section
variable {f : Fmt} {rm : Nat} {neg : Bool} {c : ℚ → Int} {y : ℝ} {j k : Nat}

/-- The rounded encoding of a number that lies from encoding `j` to below the next. -/
def RoundedEnc (f : Fmt) (rm : Nat) (neg : Bool) (y : ℝ) (j k : Nat) : Prop :=
  (magnitude f j : ℝ) ≤ y ∧ y < magnitude f (j + 1)
    ∧ (RoundsUp rm neg (j % 2 = 1) (magnitude f j : ℝ) (magnitude f (j + 1)) y → k = j + 1)
    ∧ (¬ RoundsUp rm neg (j % 2 = 1) (magnitude f j : ℝ) (magnitude f (j + 1)) y → k = j)

theorem castMagnitude_strictMono (f : Fmt) : StrictMono (fun k => (magnitude f k : ℝ)) := fun _ _ h =>
  Rat.cast_lt.mpr (magnitude_strictMono f h)

theorem castMagnitude_le (f : Fmt) {j k : Nat} (h : j ≤ k) : (magnitude f j : ℝ) ≤ magnitude f k := (castMagnitude_strictMono f).monotone h

theorem castMagnitude_lt (f : Fmt) {j k : Nat} (h : j < k) : (magnitude f j : ℝ) < magnitude f k := castMagnitude_strictMono f h

theorem middle_nonneg (f : Fmt) (j k : Nat) : 0 ≤ (magnitude f j + magnitude f k) / 2 := by
  have := magnitude_nonneg f j
  have := magnitude_nonneg f k
  linarith

section
variable (hjk : RoundedEnc f rm neg y j k)
include hjk

/-- Numbers from the lower neighbour to below the upper are above encodings below them. -/
theorem RoundedEnc.le_of_lt {n : Nat} (h : y < magnitude f n) : j + 1 ≤ n := by
  obtain ⟨hlo, -, -, -⟩ := hjk
  by_contra hn
  have := castMagnitude_le f (by omega : n ≤ j)
  linarith

theorem RoundedEnc.le_of_le {n : Nat} (h : magnitude f n ≤ y) : n ≤ j := by
  obtain ⟨-, hhi, -, -⟩ := hjk
  by_contra hn
  have := castMagnitude_le f (by omega : j + 1 ≤ n)
  linarith

theorem RoundedEnc.exact_iff : y = magnitude f k ↔ y = magnitude f j := by
  obtain ⟨hlo, hhi, hup, hdown⟩ := hjk
  by_cases h : RoundsUp rm neg (j % 2 = 1) (magnitude f j : ℝ) (magnitude f (j + 1)) y
  · have := lt_of_roundsUp (castMagnitude_lt f (Nat.lt_succ_self j)) h
    rw [hup h]
    exact iff_of_false hhi.ne this.ne'
  · rw [hdown h]

/-- Toward zero the lower neighbour stands. -/
theorem RoundedEnc.eq_of_towardZero (h0 : rm ≠ 0) (ha : ¬ Away rm neg) : k = j :=
  hjk.2.2.2 (not_roundsUp h0 ha)

/-- Away from zero the upper one does, where the number is not the lower. -/
theorem RoundedEnc.eq_of_away (ha : Away rm neg) : (magnitude f j < y → k = j + 1) ∧ (y = magnitude f j → k = j) := by
  obtain ⟨-, -, hup, hdown⟩ := hjk
  rw [roundsUp_away ha] at hup hdown
  exact ⟨hup, fun h => hdown h.not_gt⟩

/-- To nearest the upper one does from the middle on, but in the middle only where the lower is odd. -/
theorem RoundedEnc.eq_of_nearest (h0 : rm = 0) :
    (((magnitude f j : ℝ) + magnitude f (j + 1)) / 2 < y ∨ (((magnitude f j : ℝ) + magnitude f (j + 1)) / 2 = y ∧ j % 2 = 1) → k = j + 1)
      ∧ (¬ (((magnitude f j : ℝ) + magnitude f (j + 1)) / 2 < y ∨ (((magnitude f j : ℝ) + magnitude f (j + 1)) / 2 = y ∧ j % 2 = 1)) → k = j) := by
  obtain ⟨-, -, hup, hdown⟩ := hjk
  subst h0
  rw [roundsUp_nearest] at hup hdown
  exact ⟨hup, hdown⟩

theorem RoundedEnc.eq_or : k = j ∨ k = j + 1 := by
  obtain ⟨-, -, hup, hdown⟩ := hjk
  exact (Classical.em _).elim (fun h => .inr (hup h)) (fun h => .inl (hdown h))

/-! ### R57 and R58 choose that encoding -/

variable {c : ℚ → Int} (hc : Measures c y)
include hc

/-- An overflow (R58) is a rounded encoding above the largest finite one. -/
theorem RoundedEnc.past_iff {top : Nat} (hodd : top % 2 = 1) :
    (if rm = 0 then 0 ≤ c ((magnitude f top + magnitude f (top + 1)) / 2)
      else if Away rm neg then 0 < c (magnitude f top) else 0 ≤ c (magnitude f (top + 1))) ↔ top < k := by
  have hor := hjk.eq_or
  rw [hc.nonneg_iff (middle_nonneg f _ _), hc.pos_iff (magnitude_nonneg f _), hc.nonneg_iff (magnitude_nonneg f _)]
  have hnext := castMagnitude_lt f (Nat.lt_succ_self top)
  rcases Nat.lt_trichotomy j top with hlt | rfl | hgt
  · have hy : y < magnitude f top := hjk.2.1.trans_le (castMagnitude_le f hlt)
    refine iff_of_false ?_ (by omega)
    push_cast
    split_ifs <;> linarith
  · obtain ⟨hlo, hhi, -, -⟩ := id hjk
    split_ifs with h0 ha
    · obtain ⟨hup, hdown⟩ := hjk.eq_of_nearest h0
      push_cast
      rcases lt_trichotomy (((magnitude f j : ℝ) + magnitude f (j + 1)) / 2) y with h | h | h
      · exact iff_of_true h.le (by have := hup (.inl h); omega)
      · exact iff_of_true h.le (by have := hup (.inr ⟨h, hodd⟩); omega)
      · refine iff_of_false h.not_ge ?_
        have := hdown (by rintro (h' | ⟨h', -⟩) <;> linarith)
        omega
    · obtain ⟨hup, hdown⟩ := hjk.eq_of_away ha
      rcases hlo.lt_or_eq with h | h
      · exact iff_of_true h (by have := hup h; omega)
      · exact iff_of_false h.not_lt (by have := hdown h.symm; omega)
    · exact iff_of_false hhi.not_ge (by have := hjk.eq_of_towardZero h0 ha; omega)
  · have hy : magnitude f (top + 1) ≤ y := (castMagnitude_le f hgt).trans hjk.1
    refine iff_of_true ?_ (by omega)
    push_cast
    split_ifs <;> linarith

/-- R57 determines the encoding. -/
theorem RoundedEnc.unique {n : Nat}
    (hn : if rm = 0 then
        (c ((magnitude f n + magnitude f (n + 1)) / 2) < 0 ∨ (c ((magnitude f n + magnitude f (n + 1)) / 2) = 0 ∧ n % 2 = 0))
        ∧ (n = 0 ∨ 0 < c ((magnitude f (n - 1) + magnitude f n) / 2) ∨ (c ((magnitude f (n - 1) + magnitude f n) / 2) = 0 ∧ n % 2 = 0))
      else if Away rm neg then c (magnitude f n) ≤ 0 ∧ (n = 0 ∨ 0 < c (magnitude f (n - 1)))
      else 0 ≤ c (magnitude f n) ∧ c (magnitude f (n + 1)) < 0) : n = k := by
  rw [hc.neg_iff (middle_nonneg f _ _), hc.zero_iff (middle_nonneg f _ _), hc.pos_iff (middle_nonneg f _ _), hc.zero_iff (middle_nonneg f _ _),
    hc.nonpos_iff (magnitude_nonneg f _), hc.pos_iff (magnitude_nonneg f _), hc.nonneg_iff (magnitude_nonneg f _),
    hc.neg_iff (magnitude_nonneg f _)] at hn
  push_cast at hn
  have hnext := castMagnitude_lt f (Nat.lt_succ_self n)
  split_ifs at hn with h0 ha
  · obtain ⟨hup, hdown⟩ := hjk.eq_of_nearest h0
    obtain ⟨hbelow, habove⟩ := hn
    have hmin : j + 1 ≤ n + 1 := hjk.le_of_lt (by rcases hbelow with h | ⟨h, -⟩ <;> linarith)
    have hstay : n = j → n = k := by
      rintro rfl
      refine (hdown ?_).symm
      rintro (h' | ⟨h', hodd⟩) <;> rcases hbelow with h | ⟨h, heven⟩ <;> linarith
    rcases Nat.eq_zero_or_pos n with rfl | hpos
    · exact hstay (by omega)
    · obtain ⟨i, rfl⟩ := Nat.exists_eq_succ_of_ne_zero hpos.ne'
      replace habove := habove.resolve_left (Nat.succ_ne_zero i)
      have hprev := castMagnitude_lt f (Nat.lt_succ_self i)
      have hmax : i ≤ j := hjk.le_of_le (by rcases habove with h | ⟨h, -⟩ <;> simp only [Nat.succ_sub_one] at h <;> linarith)
      rcases hmax.lt_or_eq with h | rfl
      · exact hstay (by omega)
      · refine (hup (habove.imp id fun h => ⟨h.1.symm, ?_⟩)).symm
        have := h.2
        omega
  · obtain ⟨hup, hdown⟩ := hjk.eq_of_away ha
    obtain ⟨hbelow, habove⟩ := hn
    have hmin : j ≤ n := (castMagnitude_strictMono f).le_iff_le.mp (hjk.1.trans hbelow)
    rcases hmin.eq_or_lt with rfl | hlt
    · exact (hdown (hbelow.antisymm hjk.1)).symm
    · obtain ⟨i, rfl⟩ := Nat.exists_eq_succ_of_ne_zero (by omega : n ≠ 0)
      replace habove := habove.resolve_left (Nat.succ_ne_zero i)
      have hmax : i ≤ j := hjk.le_of_le habove.le
      obtain rfl : i = j := by omega
      exact (hup habove).symm
  · have h1 := hjk.le_of_le hn.1
    have h2 := hjk.le_of_lt hn.2
    have := hjk.eq_of_towardZero h0 ha
    omega

/-- What R57 to R59 say of a number, by its rounded encoding. -/
theorem RoundedEnc.of_roundsTo {v : Word} {fl : BitVec 5} (hodd : (fpTop f - 1) % 2 = 1) (h : roundsTo f rm neg c v fl) :
    (fpTop f - 1 < k ∧ v = fpWord f neg (if rm = 0 ∨ Away rm neg then fpTop f else fpTop f - 1) ∧ fl = 5#5)
      ∨ (k ≤ fpTop f - 1 ∧ v = fpWord f neg k ∧ (y = magnitude f j → fl = 0#5)
        ∧ (y ≠ magnitude f j → Tiny f rm neg y → fl = 3#5) ∧ (y ≠ magnitude f j → ¬ Tiny f rm neg y → fl = 1#5)) := by
  obtain ⟨n, rfl, ⟨hpast, rfl, rfl⟩ | ⟨hpast, hle, hn, hexact, htiny, hnot⟩⟩ := h
  · exact .inl ⟨(hjk.past_iff hc hodd).mp hpast, rfl, rfl⟩
  · obtain rfl := hjk.unique hc hn
    rw [hc.zero_iff (magnitude_nonneg f _), hjk.exact_iff] at hexact
    rw [ne_eq, hc.zero_iff (magnitude_nonneg f _), hjk.exact_iff, tiny_iff hc] at htiny hnot
    exact .inr ⟨hle, rfl, hexact, htiny, hnot⟩

end

end

end Sys2Proof.Machine
end

section
/-! SUPPORT. `roundMag` and `roundTo` (03 R58) give the rounded encoding, and the flags of R59. -/

namespace Sys2Proof.Machine

open Sys2Proof Sys2Proof.Claims Sys2Proof.Laws

section
variable {f : Fmt} {m : Nat} {e : Int} {sticky : Bool} {y : ℝ} (h : Stands m e sticky y) (hm : m ≠ 0)
include h hm

/-- The exponent of the leading bit of a number. -/
theorem Stands.leading : (2 : ℝ) ^ ((Nat.log2 m : Int) + e) ≤ y ∧ y < 2 ^ ((Nat.log2 m : Int) + e + 1) := by
  obtain ⟨hlo, hhi, -⟩ := h
  have hpos : (0 : ℝ) < 2 ^ e := by positivity
  have hmin : (2 : ℝ) ^ Nat.log2 m ≤ m := by exact_mod_cast Nat.log2_self_le hm
  have hmax : (m : ℝ) + 1 ≤ 2 ^ (Nat.log2 m + 1) := by exact_mod_cast Nat.lt_log2_self
  constructor
  · rw [zpow_add₀ two_ne_zero, zpow_natCast]
    exact (mul_le_mul_of_nonneg_right hmin hpos.le).trans hlo
  · rw [add_right_comm, zpow_add₀ two_ne_zero]
    exact hhi.trans_le (mul_le_mul_of_nonneg_right (by exact_mod_cast hmax) hpos.le)

end

/-- The units of `2^q` in a number fit the significand, where `2^(q+n)` is above the number, and reach it where it is below. -/
theorem units_lt {y : ℝ} {q p : Int} {hi : Nat} (hlo : (hi : ℝ) * 2 ^ q ≤ y) (hy : y < 2 ^ p) {n : Nat} (hp : p ≤ q + n) : hi < 2 ^ n := by
  have hpos : (0 : ℝ) < 2 ^ q := by positivity
  have hle : (2 : ℝ) ^ p ≤ 2 ^ (q + n) := zpow_le_zpow_right₀ one_le_two hp
  rw [zpow_add₀ two_ne_zero, zpow_natCast, mul_comm] at hle
  have hlt : (hi : ℝ) < 2 ^ n := lt_of_mul_lt_mul_right (by linarith) hpos.le
  exact_mod_cast hlt

theorem le_units {y : ℝ} {q p : Int} {hi : Nat} (hhi : y < (hi + 1) * 2 ^ q) (hy : 2 ^ p ≤ y) {n : Nat} (hp : q + n ≤ p) : 2 ^ n ≤ hi := by
  have hpos : (0 : ℝ) < 2 ^ q := by positivity
  have hle : (2 : ℝ) ^ (q + n) ≤ 2 ^ p := zpow_le_zpow_right₀ one_le_two hp
  rw [zpow_add₀ two_ne_zero, zpow_natCast, mul_comm] at hle
  have hlt : (2 ^ n : ℝ) < hi + 1 := lt_of_mul_lt_mul_right (by linarith) hpos.le
  exact Nat.lt_succ_iff.mp (by exact_mod_cast hlt)

section
variable {f : Fmt} {rm : Nat} {neg : Bool} {y : ℝ}

/-- In the last unit of half the lowest exponent below the least normal magnitude, a number is tiny unless it rounds up. -/
theorem tiny_iff_not_roundsUp {lo hi : ℝ} (hlo : lo = 2 ^ f.fb * 2 ^ f.emin - 2 ^ f.emin / 2) (hhi : hi = 2 ^ f.fb * 2 ^ f.emin)
    {odd : Prop} (hodd : odd) (hy : y < hi) : Tiny f rm neg y ↔ ¬ RoundsUp rm neg odd lo hi y := by
  subst hlo hhi
  have hmid : ((2 : ℝ) ^ f.fb * 2 ^ f.emin - 2 ^ f.emin / 2 + 2 ^ f.fb * 2 ^ f.emin) / 2 = 2 ^ f.fb * 2 ^ f.emin - 2 ^ f.emin / 4 := by ring
  unfold Tiny RoundsUp
  rw [hmid]
  split_ifs with h0 ha
  · subst h0
    have ha : ¬ Away 0 neg := by simp [Away]
    simp only [ha, hodd, true_and, and_true, false_and, or_false, ← le_iff_lt_or_eq, not_le]
  · have h0' : rm ≠ 0 := h0
    simp [h0', ha]
  · have h0' : rm ≠ 0 := h0
    simp [h0', ha, hy]

/-- One exponent below the normal ones, a number is tiny unless its significand carries over. -/
theorem tiny_iff_noCarry {hi r : Nat} (hfit : hi < 2 ^ (f.fb + 1)) (hlt : y < (hi + 1) * (2 ^ f.emin / 2))
    (hup : RoundsUp rm neg (hi % 2 = 1) ((hi : ℝ) * (2 ^ f.emin / 2)) ((hi + 1) * (2 ^ f.emin / 2)) y → r = hi + 1)
    (hdown : ¬ RoundsUp rm neg (hi % 2 = 1) ((hi : ℝ) * (2 ^ f.emin / 2)) ((hi + 1) * (2 ^ f.emin / 2)) y → r = hi) :
    r ≠ 2 ^ (f.fb + 1) ↔ Tiny f rm neg y := by
  have hu : (0 : ℝ) < 2 ^ f.emin := by positivity
  rw [pow_succ'] at hfit ⊢
  rcases (Nat.le_sub_one_of_lt hfit).lt_or_eq with hless | hlast
  · have hcast : (hi : ℝ) + 2 ≤ 2 * 2 ^ f.fb := by exact_mod_cast (by omega : hi + 2 ≤ 2 * 2 ^ f.fb)
    have hy : y < 2 ^ f.fb * 2 ^ f.emin - 2 ^ f.emin / 2 := by nlinarith
    refine iff_of_true ?_ ?_
    · rcases Classical.em _ with hr | hr
      · rw [hup hr]; omega
      · rw [hdown hr]; omega
    · unfold Tiny
      split_ifs <;> linarith
  · have hpos := Nat.two_pow_pos f.fb
    have hcast : (hi : ℝ) + 1 = 2 * 2 ^ f.fb := by exact_mod_cast (by omega : hi + 1 = 2 * 2 ^ f.fb)
    have hlow : (hi : ℝ) * (2 ^ f.emin / 2) = 2 ^ f.fb * 2 ^ f.emin - 2 ^ f.emin / 2 := by rw [eq_sub_of_add_eq hcast]; ring
    have hhigh : ((hi : ℝ) + 1) * (2 ^ f.emin / 2) = 2 ^ f.fb * 2 ^ f.emin := by rw [hcast]; ring
    rw [tiny_iff_not_roundsUp hlow hhigh (by omega : hi % 2 = 1) hlt]
    refine not_congr ⟨fun he => ?_, fun hr => by rw [hup hr]; omega⟩
    by_contra hr
    have := hdown hr
    omega

end

section
variable {f : Fmt} {m : Nat} {e : Int} {sticky : Bool} {y : ℝ} (h : Stands m e sticky y) (hm : m ≠ 0)
  (hs : sticky = true → 2 ^ (f.fb + 1) ≤ m) {rm : Nat} (hrm : rm ≤ 3) (neg : Bool)

/-- A sticky number has more bits than the significand. -/
theorem sticky_below (hm : m ≠ 0) (hs : sticky = true → 2 ^ (f.fb + 1) ≤ m) (ht : sticky = true) : e < (Nat.log2 m : Int) + e - f.fb := by
  have : f.fb + 1 ≤ Nat.log2 m := (Nat.le_log2 hm).mpr (hs ht)
  omega

include h hm hs hrm

/-- The encoding that `roundMag` computes. -/
theorem roundMag_enc (hfb : 1 ≤ f.fb) {q : Int} (hq : q = max ((Nat.log2 m : Int) + e - f.fb) f.emin) : ∃ j,
    RoundedEnc f rm neg y j ((q - f.emin).toNat * 2 ^ f.fb + (cutAt rm neg m e q sticky).1)
      ∧ ((cutAt rm neg m e q sticky).2 = true ↔ y ≠ magnitude f j) := by
  obtain ⟨hmin, hmax⟩ := h.leading hm
  obtain ⟨n, hn⟩ : ∃ n : Nat, q = f.emin + n := ⟨(q - f.emin).toNat, by omega⟩
  have hcount : (q - f.emin).toNat = n := by omega
  obtain ⟨hi, hlo, hhi, hinexact, hup, hdown⟩ := cutAt_spec h hrm neg (q := q) fun ht => (sticky_below hm hs ht).trans_le (by omega)
  have hfit : hi < 2 ^ (f.fb + 1) := units_lt hlo hmax (by omega)
  have hreach : n = 0 ∨ 2 ^ f.fb ≤ hi := by
    rcases Nat.eq_zero_or_pos n with h0 | hpos
    · exact .inl h0
    · exact .inr (le_units hhi hmin (by omega))
  rw [pow_succ'] at hfit
  have hj : (magnitude f (n * 2 ^ f.fb + hi) : ℝ) = hi * 2 ^ q := by
    rw [magnitude_scaled f hfit.le hreach, ← hn]; push_cast; rfl
  have hj1 : (magnitude f (n * 2 ^ f.fb + hi + 1) : ℝ) = (hi + 1) * 2 ^ q := by
    rw [add_assoc, magnitude_scaled f hfit (hreach.imp_right (by omega)), ← hn]; push_cast; rfl
  have hodd : (n * 2 ^ f.fb + hi) % 2 = hi % 2 := by
    obtain ⟨k, hk⟩ := Nat.exists_eq_add_of_le' hfb
    rw [hk, pow_succ, ← mul_assoc]
    omega
  refine ⟨n * 2 ^ f.fb + hi, ⟨hj ▸ hlo, hj1 ▸ hhi, ?_, ?_⟩, hj ▸ hinexact⟩
  · rw [hj, hj1, hodd, hcount]
    exact fun hr => by rw [hup hr, add_assoc]
  · rw [hj, hj1, hodd, hcount]
    exact fun hr => by rw [hdown hr]

/-- `roundMag` says whether a number is tiny by rounding it with an unbounded exponent. -/
theorem roundMag_tiny : (if (cutAt rm neg m e ((Nat.log2 m : Int) + e - f.fb) sticky).1 == 2 ^ (f.fb + 1) then (Nat.log2 m : Int) + e + 1
      else (Nat.log2 m : Int) + e) < f.emin + f.fb ↔ Tiny f rm neg y := by
  obtain ⟨hmin, hmax⟩ := h.leading hm
  obtain ⟨hi, hlo, hhi, -, hup, hdown⟩ := cutAt_spec h hrm neg (sticky_below hm hs)
  have hu : (0 : ℝ) < 2 ^ f.emin := by positivity
  have hleast : (2 : ℝ) ^ (f.emin + f.fb) = 2 ^ f.fb * 2 ^ f.emin := by rw [zpow_add₀ two_ne_zero, zpow_natCast, mul_comm]
  have hle : (2 : ℝ) ^ f.emin ≤ 2 ^ f.fb * 2 ^ f.emin := le_mul_of_one_le_left hu.le (one_le_pow₀ (by norm_num))
  generalize (Nat.log2 m : Int) + e = lead at *
  rcases lt_trichotomy (lead + 1) (f.emin + f.fb) with hlt | heq | hgt
  · have hhalf : (2 : ℝ) ^ (lead + 1) * 2 ≤ 2 ^ f.fb * 2 ^ f.emin := by
      rw [← hleast, ← zpow_add_one₀ two_ne_zero]
      exact zpow_le_zpow_right₀ one_le_two hlt
    refine iff_of_true (by split <;> omega) ?_
    unfold Tiny
    split_ifs <;> linarith
  · have hunit : (2 : ℝ) ^ (lead - f.fb) = 2 ^ f.emin / 2 := by
      rw [(by omega : lead - f.fb = f.emin - 1), zpow_sub_one₀ two_ne_zero]; rfl
    have hfit : hi < 2 ^ (f.fb + 1) := units_lt hlo hmax (by omega)
    rw [hunit] at hhi hup hdown
    rw [← tiny_iff_noCarry hfit hhi hup hdown]
    split
    next h => exact iff_of_false (by omega) (not_not.mpr (beq_iff_eq.mp h))
    next h => exact iff_of_true (by omega) (fun he => h (beq_iff_eq.mpr he))
  · have hge : (2 : ℝ) ^ (f.emin + f.fb) ≤ 2 ^ lead := zpow_le_zpow_right₀ one_le_two (by omega)
    refine iff_of_false (by split <;> omega) ?_
    unfold Tiny
    split_ifs <;> linarith

end

/-! ### Formats with infinities -/

/-- The formats of the scalar floating-point instructions. -/
def Scalar (f : Fmt) : Prop := f = fp64 ∨ f = fp32

/-- A result word and its flags. -/
def Gives (r : FpResult) (v : Word) (fl : BitVec 5) : Prop := BitVec.ofNat 64 r.1 = v ∧ r.2 = fl

section
variable {f : Fmt} (hf : Scalar f)
include hf

theorem Scalar.kind : f.kind = .ieee := by rcases hf with rfl | rfl <;> rfl
theorem Scalar.one_le_fb : 1 ≤ f.fb := by rcases hf with rfl | rfl <;> decide
theorem Scalar.fb_le : f.fb ≤ 52 := by rcases hf with rfl | rfl <;> decide
theorem Scalar.odd : (fpTop f - 1) % 2 = 1 := by rcases hf with rfl | rfl <;> decide
theorem Scalar.maxEnc_eq : f.maxEnc = fpTop f - 1 := by rcases hf with rfl | rfl <;> rfl

/-- `roundTo` rounds once, as R57 to R59 say. -/
theorem roundTo_gives {m : Nat} {e : Int} {sticky : Bool} {y : ℝ} (h : Stands m e sticky y) (hm : m ≠ 0)
    (hs : sticky = true → 2 ^ (f.fb + 1) ≤ m) {rm : Nat} (hrm : rm ≤ 3) {neg : Bool} {c : ℚ → Int} (hc : Measures c y) {v : Word}
    {fl : BitVec 5} (hr : roundsTo f rm neg c v fl) : Gives (roundTo f rm neg m e sticky) v fl := by
  obtain ⟨j, hj, hinexact⟩ := roundMag_enc h hm hs hrm neg hf.one_le_fb rfl
  have htiny := roundMag_tiny h hm hs hrm neg
  have hm0 : (m == 0 && !sticky) = false := by simp [hm]
  have hinf : f.infEnc = fpTop f := rfl
  unfold roundTo roundMag
  simp only [hm0, Bool.false_eq_true, if_false, hf.maxEnc_eq]
  rcases hj.of_roundsTo hc hf.odd hr with ⟨hbig, rfl, rfl⟩ | ⟨hle, rfl, hexact, hunder, hnormal⟩
  · rw [if_pos hbig]
    have hto : (rm == 0 || (rm == 2 && !neg) || (rm == 3 && neg)) = true ↔ rm = 0 ∨ Away rm neg := by
      simp [Away, or_assoc]
    refine ⟨?_, rfl⟩
    simp only [Bool.true_and, hto, hinf]
    rfl
  · rw [if_neg (not_lt.mpr hle)]
    refine ⟨rfl, ?_⟩
    by_cases hy : y = magnitude f j
    · have hin : (cutAt rm neg m e (max ((Nat.log2 m : Int) + e - f.fb) f.emin) sticky).2 = false := by simpa [hy] using hinexact
      simp [hin, hexact hy]
    · rw [hinexact.mpr hy]
      by_cases ht : Tiny f rm neg y
      · rw [hunder hy ht, decide_eq_true (htiny.mpr ht)]
        rfl
      · rw [hnormal hy ht, decide_eq_false (mt htiny.mp ht)]
        rfl

end

end Sys2Proof.Machine
end

section
/-! SUPPORT. The operands of the scalar floating-point instructions (03 R52): NaN, infinity or an exact number. -/

namespace Sys2Proof.Machine

open Sys2Proof Sys2Proof.Claims Sys2Proof.Laws

section
variable {f : Fmt} (hf : Scalar f) (a : Word)

theorem bit_eq_testBit (n k : Nat) : bit n k = n.testBit k := by
  rw [Nat.testBit_eq_decide_div_mod_eq]
  rfl

theorem bit_toNat (k : Nat) : bit a.toNat k = a.getLsbD k := bit_eq_testBit _ _

theorem bit_top : bit a.toNat f.top = fpSign f a := bit_toNat a _

/-- Exponent and fraction together are the magnitude's encoding. -/
theorem fpMag_eq : fpMag f a = bits a.toNat f.fb f.eb * 2 ^ f.fb + bits a.toNat 0 f.fb := by
  rw [fpMag, bits_zero, bits, add_comm f.eb, pow_add, Nat.mod_mul, add_comm, mul_comm]

theorem fraction_lt : bits a.toNat 0 f.fb < 2 ^ f.fb := by
  rw [bits_zero]
  exact Nat.mod_lt _ (Nat.two_pow_pos _)

theorem exponent_lt : bits a.toNat f.fb f.eb < 2 ^ f.eb := Nat.mod_lt _ (Nat.two_pow_pos _)

include hf

theorem Scalar.eb_pos : 1 < 2 ^ f.eb := by rcases hf with rfl | rfl <;> decide

/-- The bit that makes a NaN quiet. -/
theorem quietBit : bit (bits a.toNat 0 f.fb) (f.fb - 1) = a.getLsbD (f.fb - 1) := by
  have hlt : f.fb - 1 < f.fb := Nat.sub_lt hf.one_le_fb one_pos
  rw [← bit_toNat, bits_zero, bit_eq_testBit, bit_eq_testBit, Nat.testBit_mod_two_pow, decide_eq_true hlt, Bool.true_and]

theorem fpIn_eq : fpIn f a =
    if bits a.toNat f.fb f.eb = 2 ^ f.eb - 1 then (if bits a.toNat 0 f.fb = 0 then .inf (fpSign f a) else .nan (!a.getLsbD (f.fb - 1)))
    else if bits a.toNat f.fb f.eb = 0 then .fin (fpSign f a) (bits a.toNat 0 f.fb) f.emin
    else .fin (fpSign f a) (2 ^ f.fb + bits a.toNat 0 f.fb) (f.emin + (bits a.toNat f.fb f.eb : Int) - 1) := by
  simp only [fpIn, Fp.of, hf.kind, beq_iff_eq, quietBit hf, bit_top]

/-- The exponent field is all ones from infinity up. -/
theorem top_le_iff : fpTop f ≤ fpMag f a ↔ bits a.toNat f.fb f.eb = 2 ^ f.eb - 1 := by
  have hfrac := fraction_lt (f := f) a
  have hexp := exponent_lt (f := f) a
  have heb := hf.eb_pos
  rw [fpMag_eq, fpTop]
  constructor
  · intro h
    by_contra hne
    have := Nat.mul_le_mul_right (2 ^ f.fb) (by omega : bits a.toNat f.fb f.eb + 1 ≤ 2 ^ f.eb - 1)
    rw [add_mul] at this
    omega
  · intro h
    rw [h]
    omega

theorem fpIn_nan (h : fpIsNan f a = true) : fpIn f a = .nan (fpIsSnan f a) := by
  have hlt : fpTop f < fpMag f a := of_decide_eq_true h
  have hexp := (top_le_iff hf a).mp hlt.le
  have hfrac : bits a.toNat 0 f.fb ≠ 0 := by
    intro h0
    rw [fpMag_eq, hexp, h0, fpTop] at hlt
    exact absurd hlt (lt_irrefl _)
  rw [fpIn_eq hf, if_pos hexp, if_neg hfrac, fpIsSnan, h, Bool.true_and]

theorem fpIn_inf (h : fpIsInf f a = true) : fpIn f a = .inf (fpSign f a) := by
  have heq : fpMag f a = fpTop f := beq_iff_eq.mp h
  have hexp := (top_le_iff hf a).mp heq.ge
  have hfrac : bits a.toNat 0 f.fb = 0 := by
    rw [fpMag_eq, hexp, fpTop] at heq
    omega
  rw [fpIn_eq hf, if_pos hexp, if_pos hfrac]

theorem fpIn_finite (h : fpFinite f a = true) : ∃ m e, fpIn f a = .fin (fpSign f a) m e
    ∧ (m : ℚ) * 2 ^ e = magnitude f (fpMag f a) ∧ m < 2 ^ (f.fb + 1) ∧ (m < 2 ^ f.fb ↔ fpMag f a < 2 ^ f.fb) := by
  have hlt : fpMag f a < fpTop f := of_decide_eq_true h
  have hexp : bits a.toNat f.fb f.eb ≠ 2 ^ f.eb - 1 := mt (top_le_iff hf a).mpr (not_le.mpr hlt)
  have hfrac := fraction_lt (f := f) a
  rw [fpIn_eq hf, if_neg hexp, fpMag_eq, pow_succ']
  cases hn : bits a.toNat f.fb f.eb with
  | zero =>
    have hval := magnitude_scaled f (n := 0) (h := bits a.toNat 0 f.fb) (by omega) (.inl rfl)
    refine ⟨_, _, if_pos rfl, ?_, by omega, by simp⟩
    simpa using hval.symm
  | succ n =>
    have hval := magnitude_scaled f (n := n) (h := 2 ^ f.fb + bits a.toNat 0 f.fb) (by omega) (.inr (by omega))
    have hsum : (n + 1) * 2 ^ f.fb + bits a.toNat 0 f.fb = n * 2 ^ f.fb + (2 ^ f.fb + bits a.toNat 0 f.fb) := by ring
    refine ⟨_, _, if_neg (Nat.succ_ne_zero n), ?_, by omega, iff_of_false (by omega) (by rw [hsum]; omega)⟩
    rw [hsum, hval]
    congr 2
    push_cast
    ring

end

end Sys2Proof.Machine
end

section
/-! SUPPORT. The floating-point operations on finite operands round their exact value once (03 R57 to R59; 09 R203, R207). -/

namespace Sys2Proof.Machine

open Sys2Proof Sys2Proof.Claims Sys2Proof.Laws

/-! ### The comparisons of an exact value -/

theorem measures_sign {d : ℚ → ℚ} {y : ℝ} (hneg : ∀ t, 0 ≤ t → (d t < 0 ↔ y < t)) (hpos : ∀ t, 0 ≤ t → (0 < d t ↔ t < y)) :
    Measures (fun t => SignType.sign (d t)) y := by
  intro t ht
  rw [← hneg t ht, ← hpos t ht]
  have hzero : y = t ↔ d t = 0 := by
    rw [eq_iff_le_not_lt, ← not_lt, ← hneg t ht, ← hpos t ht, eq_iff_le_not_lt, not_lt, not_lt, and_comm]
  rw [hzero]
  rcases lt_trichotomy (d t) 0 with h | h | h
  · simp [sign_neg h, h, h.ne, h.le]
  · simp [h]
  · simp [sign_pos h, h, h.ne', h.le]

theorem measures_abs (x : ℚ) : Measures (fun t => SignType.sign (|x| - t)) (|x| : ℚ) :=
  measures_sign (fun t _ => by rw [sub_neg, Rat.cast_lt]) (fun t _ => by rw [sub_pos, Rat.cast_lt])

/-- For the root of a number the square is compared. -/
theorem measures_sqrt {x : ℚ} (hx : 0 ≤ x) : Measures (fun t => SignType.sign (x - t ^ 2)) (√(x : ℝ)) := by
  have hx' : (0 : ℝ) ≤ x := by exact_mod_cast hx
  refine measures_sign (fun t ht => ?_) (fun t ht => ?_)
  · rw [sub_neg, Real.sqrt_lt hx' (by exact_mod_cast ht)]
    norm_cast
  · rw [sub_pos, Real.lt_sqrt (by exact_mod_cast ht)]
    norm_cast

/-! ### Signed significands -/

theorem sgn_not (neg : Bool) (m : Nat) : sgn (!neg) m = -sgn neg m := by cases neg <;> simp [sgn]

theorem sgn_eq_zero {neg : Bool} {m : Nat} : sgn neg m = 0 ↔ m = 0 := by cases neg <;> simp [sgn]

theorem sgn_mul (n p : Bool) (m k : Nat) : sgn (n != p) (m * k) = sgn n m * sgn p k := by cases n <;> cases p <;> simp [sgn]

theorem exactAdd_value (a ea b eb : Int) :
    ((exactAdd a ea b eb).1 : ℚ) * 2 ^ (exactAdd a ea b eb).2 = a * 2 ^ ea + b * 2 ^ eb := by
  have hshift : ∀ {x e : Int}, e ≤ x → (2 : ℚ) ^ x = 2 ^ (x - e).toNat * 2 ^ e := fun {x e} h => by
    rw [← zpow_natCast, ← zpow_add₀ two_ne_zero]
    congr 1
    omega
  simp only [exactAdd]
  rw [hshift (min_le_left ea eb), hshift (min_le_right ea eb)]
  push_cast
  ring

section
variable {f : Fmt} (hf : Scalar f) {rm : Nat} (hrm : rm ≤ 3) {v : Word} {fl : BitVec 5}
include hf hrm

/-- A significand with a sign rounds once. -/
theorem roundTo_exact {neg : Bool} {m : Nat} {e : Int} {x : ℚ} (hx : x = sgn neg m * 2 ^ e) (h0 : x ≠ 0)
    (hr : roundsTo f rm (decide (x < 0)) (fun t => SignType.sign (|x| - t)) v fl) : Gives (roundTo f rm neg m e false) v fl := by
  have hpos : (0 : ℚ) < 2 ^ e := by positivity
  have hm : m ≠ 0 := by
    rintro rfl
    exact h0 (by rw [hx, sgn_eq_zero.mpr rfl]; simp)
  have hmpos : (0 : ℚ) < m := by exact_mod_cast Nat.pos_of_ne_zero hm
  have hprod := mul_pos hmpos hpos
  have hneg : decide (x < 0) = neg := by
    cases neg <;> simp [hx, sgn] <;> linarith
  have habs : (|x| : ℚ) = m * 2 ^ e := by
    cases neg <;> simp [hx, sgn, abs_mul, abs_of_pos hpos]
  have hy : ((|x| : ℚ) : ℝ) = (m : ℝ) * 2 ^ e := by rw [habs]; push_cast; rfl
  rw [hneg] at hr
  exact roundTo_gives hf (hy ▸ stands_exact m e) hm (by simp) hrm (measures_abs x) hr

theorem roundInt_gives {n e : Int} {x : ℚ} (hx : x = n * 2 ^ e) (h0 : x ≠ 0)
    (hr : roundsTo f rm (decide (x < 0)) (fun t => SignType.sign (|x| - t)) v fl) : Gives (roundInt f rm n e) v fl := by
  have hsgn : sgn (decide (n < 0)) n.natAbs = n := by
    rcases lt_or_ge n 0 with h | h
    · simp [sgn, h, abs_of_neg h]
    · simp [sgn, not_lt.mpr h, abs_of_nonneg h]
  exact roundTo_exact hf hrm (by rw [hsgn, hx]) h0 hr

/-! ### Quotients and roots: enough bits, and a sticky rest -/

omit hf hrm in
/-- The quotient of two significands with `k` bits more stands for it. -/
theorem stands_quotient {num den : Nat} (hd : den ≠ 0) (k : Nat) (e : Int) :
    Stands (num * 2 ^ k / den) (e - k) (num * 2 ^ k % den != 0) ((num : ℝ) / den * 2 ^ e) := by
  have hpos : (0 : ℝ) < 2 ^ (e - k) := by positivity
  have hden : (0 : ℝ) < den := by exact_mod_cast Nat.pos_of_ne_zero hd
  have hpow : (2 : ℝ) ^ e = 2 ^ k * 2 ^ (e - k) := by
    rw [← zpow_natCast, ← zpow_add₀ two_ne_zero]; congr 1; omega
  have hdiv : (num : ℝ) * 2 ^ k = (num * 2 ^ k / den : Nat) * den + (num * 2 ^ k % den : Nat) := by
    exact_mod_cast (Nat.div_add_mod' (num * 2 ^ k) den).symm
  have hval : (num : ℝ) / den * 2 ^ e = ((num * 2 ^ k / den : Nat) + (num * 2 ^ k % den : Nat) / den) * 2 ^ (e - k) := by
    rw [hpow, ← mul_assoc, div_mul_eq_mul_div, hdiv, add_div, mul_div_cancel_right₀ _ hden.ne']
  have hrest : ((num * 2 ^ k % den : Nat) : ℝ) / den < 1 := by
    rw [div_lt_one hden]
    exact_mod_cast Nat.mod_lt _ (Nat.pos_of_ne_zero hd)
  have hrest0 : (0 : ℝ) ≤ (num * 2 ^ k % den : Nat) / den := by positivity
  rw [hval]
  refine ⟨by nlinarith, by nlinarith, ?_⟩
  rw [add_mul, ne_eq, add_eq_left, mul_eq_zero, div_eq_zero_iff]
  simp [hpos.ne', hden.ne']

/-- A quotient of significands rounds once. -/
theorem roundRat_gives {neg : Bool} {num den : Nat} {e : Int} {x : ℚ} (hn : num ≠ 0) (hd : den ≠ 0) (hnum : num < 2 ^ 53)
    (hneg : decide (x < 0) = neg) (hx : |x| = (num : ℚ) / den * 2 ^ e)
    (hr : roundsTo f rm (decide (x < 0)) (fun t => SignType.sign (|x| - t)) v fl) : Gives (roundRat f rm neg num den e) v fl := by
  have hy : ((|x| : ℚ) : ℝ) = (num : ℝ) / den * 2 ^ e := by rw [hx]; push_cast; rfl
  have hlog : Nat.log2 num < 53 := (Nat.log2_lt hn).mpr hnum
  have hbig : 2 ^ 79 ≤ num * 2 ^ (80 + Nat.log2 den - Nat.log2 num) / den := by
    rw [Nat.le_div_iff_mul_le (Nat.pos_of_ne_zero hd)]
    calc 2 ^ 79 * den ≤ 2 ^ 79 * 2 ^ (Nat.log2 den + 1) := Nat.mul_le_mul_left _ Nat.lt_log2_self.le
      _ = 2 ^ Nat.log2 num * 2 ^ (80 + Nat.log2 den - Nat.log2 num) := by rw [← pow_add, ← pow_add]; congr 1; omega
      _ ≤ num * 2 ^ (80 + Nat.log2 den - Nat.log2 num) := Nat.mul_le_mul_right _ (Nat.log2_self_le hn)
  have hfb : 2 ^ (f.fb + 1) ≤ 2 ^ 79 := Nat.pow_le_pow_right (by decide) (by have := hf.fb_le; omega)
  rw [hneg] at hr
  exact roundTo_gives hf (hy ▸ stands_quotient hd _ e) (by omega) (fun _ => hfb.trans hbig) hrm (measures_abs x) hr

omit hf hrm in
theorem isqrtFrom_eq (n : Nat) {k r : Nat} (hlo : r * r ≤ n) (hhi : n < (r + 2 ^ k) * (r + 2 ^ k)) : isqrtFrom n k r = Nat.sqrt n := by
  induction k generalizing r with
  | zero => exact (Nat.eq_sqrt.mpr ⟨hlo, hhi⟩)
  | succ k ih =>
    unfold isqrtFrom
    split
    next h => exact ih h (by rwa [add_assoc, ← two_mul, ← pow_succ'])
    next h => exact ih hlo (not_le.mp h)

omit hf hrm in
theorem isqrt_eq (n : Nat) : isqrt n = Nat.sqrt n := by
  refine isqrtFrom_eq n (by simp) ?_
  rw [Nat.zero_add, ← pow_add]
  exact Nat.lt_log2_self.trans_le (Nat.pow_le_pow_right (by decide) (by omega))

omit hf hrm in
/-- The integer root of a significand stands for the root. -/
theorem stands_root (n : Nat) (e : Int) : Stands (Nat.sqrt n) e (Nat.sqrt n * Nat.sqrt n != n) (√(n : ℝ) * 2 ^ e) := by
  have hpos : (0 : ℝ) < 2 ^ e := by positivity
  have hlo : (Nat.sqrt n : ℝ) ≤ √(n : ℝ) := Real.le_sqrt_of_sq_le (by exact_mod_cast Nat.sqrt_le' n)
  have hhi : √(n : ℝ) < Nat.sqrt n + 1 := (Real.sqrt_lt' (by positivity)).mpr (by exact_mod_cast Nat.lt_succ_sqrt' n)
  refine ⟨by nlinarith, by nlinarith, ?_⟩
  have hexact : √(n : ℝ) = Nat.sqrt n ↔ Nat.sqrt n * Nat.sqrt n = n := by
    rw [Real.sqrt_eq_iff_mul_self_eq (by positivity) (by positivity)]
    norm_cast
    exact eq_comm
  rw [bne_iff_ne, ne_eq, ne_eq, mul_left_inj' hpos.ne', hexact]

/-- A root rounds once. -/
theorem fpSqrt_gives {m : Nat} {e : Int} {x : ℚ} (hx : x = m * 2 ^ e) (h0 : 0 < x)
    (hr : roundsTo f rm false (fun t => SignType.sign (x - t ^ 2)) v fl) : Gives (fpSqrt f rm (.fin false m e)) v fl := by
  have hm : m ≠ 0 := by rintro rfl; simp [hx] at h0
  have hm0 : (m == 0) = false := by simp [hm]
  simp only [fpSqrt, hm0, Bool.false_eq_true, if_false, isqrt_eq]
  generalize hk : 130 + (if (e % 2 : Int) == 0 then 0 else 1) = k
  obtain ⟨hbits, E, hE⟩ : 130 ≤ k ∧ ∃ E : Int, e = k + 2 * E := by
    subst hk
    split
    next h => exact ⟨by omega, (e - 130) / 2, by have := beq_iff_eq.mp h; push_cast; omega⟩
    next h => exact ⟨by omega, (e - 131) / 2, by have := mt beq_iff_eq.mpr h; push_cast; omega⟩
  have hhalf : (e - k) / 2 = E := by omega
  have hy : √(x : ℝ) = √((m * 2 ^ k : Nat) : ℝ) * 2 ^ E := by
    have hpow : (2 : ℝ) ^ e = 2 ^ k * (2 ^ E) ^ 2 := by
      rw [hE, zpow_add₀ two_ne_zero, zpow_natCast, mul_comm 2 E, zpow_mul]
      norm_cast
    have hval : (x : ℝ) = (m * 2 ^ k : Nat) * (2 ^ E) ^ 2 := by
      rw [hx]; push_cast; rw [hpow]; ring
    rw [hval, Real.sqrt_mul (Nat.cast_nonneg _), Real.sqrt_sq (by positivity)]
  have hbig : 2 ^ 65 ≤ Nat.sqrt (m * 2 ^ k) := by
    rw [Nat.le_sqrt, ← pow_add]
    exact (Nat.pow_le_pow_right (by decide) hbits).trans (Nat.le_mul_of_pos_left _ (Nat.pos_of_ne_zero hm))
  have hfb : 2 ^ (f.fb + 1) ≤ 2 ^ 65 := Nat.pow_le_pow_right (by decide) (by have := hf.fb_le; omega)
  rw [hhalf]
  exact roundTo_gives hf (hy ▸ stands_root _ E) (by omega) (fun _ => hfb.trans hbig) hrm (measures_sqrt h0.le) hr

end

end Sys2Proof.Machine
end

section
/-! SUPPORT. The floating-point instructions with finite operands round once (09 R203, R207). -/

namespace Sys2Proof.Machine

open Sys2Proof Sys2Proof.Claims Sys2Proof.Laws

/-! ### Completion of a floating-point instruction (09 R176, R208) -/

section
variable {s : State} {i : Instr} {b : Block} {l r p v : Word} {fl : BitVec 5} {lat : Nat} {g : Word → Word → Word → FpResult}

theorem fireFp_ready (h : ready s i b l r p)
    (hg : Gives (g (Operand.word (b.inst s.focus.idx).left) (Operand.word (b.inst s.focus.idx).right)
      (Operand.word (b.inst s.focus.idx).third)) v fl) :
    fireFp (shape i) lat g s = .next (floated s i b v fl lat) := by
  obtain ⟨hv, hfl⟩ := hg
  have hfocus : s.work.focus = s.focus := rfl
  refine (fire_ready h).trans (congrArg Host.Outcome.next ?_)
  unfold floated withBlock State.lift
  beta_reduce
  rw [hv, hfl, Work.onBlock_of h.1.1, Work.deliver, Work.onBlock_of (Work.block_setBlock _ _), Work.setBlock_setBlock, Work.setBlock_focus,
    hfocus, send_eq]
  rfl

/-- With three operands. -/
theorem exec_float₃ (g : Word → Word → Word → FpResult) (h : ready s i b l r p) (he : exec i s = fireFp (shape i) lat g s)
    (hleft : (shape i).left = true) (hright : (shape i).right = true) (hthird : (shape i).takesThird = true) (hg : Gives (g l r p) v fl) :
    exec i s = .next (floated s i b v fl lat) := by
  rw [he]
  exact fireFp_ready h (by rwa [word_left h hleft, word_right h hright, word_third h hthird])

/-- With two. -/
theorem exec_float₂ (g : Word → Word → FpResult) (h : ready s i b l r p) (he : exec i s = fireFp (shape i) lat (fun a b _ => g a b) s)
    (hleft : (shape i).left = true) (hright : (shape i).right = true) (hg : Gives (g l r) v fl) :
    exec i s = .next (floated s i b v fl lat) := by
  rw [he]
  exact fireFp_ready h (by rwa [word_left h hleft, word_right h hright])

/-- With one. -/
theorem exec_float₁ (g : Word → FpResult) (h : ready s i b l r p) (he : exec i s = fireFp (shape i) lat (fun a _ _ => g a) s)
    (hleft : (shape i).left = true) (hg : Gives (g l) v fl) : exec i s = .next (floated s i b v fl lat) := by
  rw [he]
  exact fireFp_ready h (by rwa [word_left h hleft])

end

/-! ### The operations on exact operands -/

/-- An operand is finite, and its exact value is `x`. -/
def IsFin (a : Fp) (x : ℚ) : Prop := ∃ n m e, a = .fin n m e ∧ x = sgn n m * 2 ^ e ∧ m < 2 ^ 53

theorem IsFin.negate {a : Fp} {x : ℚ} (h : IsFin a x) : IsFin a.negate (-x) := by
  obtain ⟨n, m, e, rfl, rfl, hm⟩ := h
  exact ⟨!n, m, e, rfl, by rw [sgn_not]; push_cast; ring, hm⟩

theorem fpValue_isFin {f : Fmt} (hf : Scalar f) {a : Word} (h : fpFinite f a = true) : IsFin (fpIn f a) (fpValue f a) := by
  obtain ⟨m, e, ha, hval, hm, -⟩ := fpIn_finite hf a h
  refine ⟨_, m, e, ha, ?_, hm.trans_le (Nat.pow_le_pow_right (by decide) (by have := hf.fb_le; omega))⟩
  unfold fpValue sgn
  rw [← hval]
  split <;> push_cast <;> ring

section
variable {f : Fmt} (hf : Scalar f) {rm : Nat} (hrm : rm ≤ 3) {v : Word} {fl : BitVec 5} {a b c : Fp} {x y z t : ℚ}
include hf hrm

theorem fpAdd_gives (ha : IsFin a x) (hb : IsFin b y) (ht : t = x + y) (h0 : t ≠ 0)
    (hr : roundsTo f rm (decide (t < 0)) (fun u => SignType.sign (|t| - u)) v fl) : Gives (fpAdd f rm a b) v fl := by
  obtain ⟨na, ma, ea, rfl, rfl, -⟩ := ha
  obtain ⟨nb, mb, eb, rfl, rfl, -⟩ := hb
  rw [← exactAdd_value] at ht
  have hs : ((exactAdd (sgn na ma) ea (sgn nb mb) eb).1 == 0) = false := by
    rw [beq_eq_false_iff_ne]
    intro hs
    exact h0 (by rw [ht, hs]; simp)
  simp only [fpAdd, hs, Bool.false_eq_true, if_false]
  exact roundInt_gives hf hrm ht h0 hr

theorem fpMul_gives (ha : IsFin a x) (hb : IsFin b y) (ht : t = x * y) (h0 : t ≠ 0)
    (hr : roundsTo f rm (decide (t < 0)) (fun u => SignType.sign (|t| - u)) v fl) : Gives (fpMul f rm a b) v fl := by
  obtain ⟨na, ma, ea, rfl, rfl, -⟩ := ha
  obtain ⟨nb, mb, eb, rfl, rfl, -⟩ := hb
  refine roundTo_exact hf hrm (neg := na != nb) (m := ma * mb) (e := ea + eb) ?_ h0 hr
  rw [ht, sgn_mul, zpow_add₀ two_ne_zero]
  push_cast
  ring

theorem fpDiv_gives (ha : IsFin a x) (hb : IsFin b y) (ht : t = x / y) (h0 : t ≠ 0)
    (hr : roundsTo f rm (decide (t < 0)) (fun u => SignType.sign (|t| - u)) v fl) : Gives (fpDiv f rm a b) v fl := by
  obtain ⟨na, ma, ea, rfl, rfl, hma⟩ := ha
  obtain ⟨nb, mb, eb, rfl, rfl, -⟩ := hb
  have hm : ma ≠ 0 := by rintro rfl; exact h0 (by rw [ht, sgn_eq_zero.mpr rfl]; simp)
  have hn : mb ≠ 0 := by rintro rfl; exact h0 (by rw [ht, sgn_eq_zero.mpr rfl]; simp)
  have hval : t = sgn (na != nb) 1 * ((ma : ℚ) / mb * 2 ^ (ea - eb)) := by
    rw [ht, zpow_sub₀ two_ne_zero]
    cases na <;> cases nb <;> simp [sgn] <;> ring
  have hpos : (0 : ℚ) < (ma : ℚ) / mb * 2 ^ (ea - eb) := by
    have : 0 < ma := Nat.pos_of_ne_zero hm
    have : 0 < mb := Nat.pos_of_ne_zero hn
    positivity
  have habs : |t| = (ma : ℚ) / mb * 2 ^ (ea - eb) := by
    cases hs : na != nb <;> simp only [hval, hs, sgn, Bool.false_eq_true, if_true, if_false] <;> push_cast
    · rw [one_mul, abs_of_pos hpos]
    · rw [neg_one_mul, abs_neg, abs_of_pos hpos]
  have hneg : decide (t < 0) = (na != nb) := by
    cases hs : na != nb <;> simp only [hval, hs, sgn, Bool.false_eq_true, if_true, if_false] <;> push_cast
    · simpa using hpos.le
    · simpa using hpos
  have hm0 : (ma == 0) = false := by simp [hm]
  have hn0 : (mb == 0) = false := by simp [hn]
  simp only [fpDiv, Fp.isNan, Fp.neg, Bool.or_self, Bool.false_eq_true, if_false, hm0, hn0]
  exact roundRat_gives hf hrm hm hn hma hneg habs hr

omit hf hrm in
/-- The exact product of a fused form, with its sign. -/
theorem product_value (na nb pneg : Bool) (m n : Nat) (e d : Int) :
    (if pneg then -((sgn na m : ℚ) * 2 ^ e * (sgn nb n * 2 ^ d)) else (sgn na m : ℚ) * 2 ^ e * (sgn nb n * 2 ^ d))
      = (sgn ((na != nb) != pneg) (m * n) : Int) * 2 ^ (e + d) := by
  rw [zpow_add₀ two_ne_zero]
  cases pneg
  · rw [Bool.bne_false, sgn_mul]; push_cast; ring
  · rw [Bool.bne_true, sgn_not, sgn_mul]; push_cast; simp; ring

theorem fpFma_gives {pneg : Bool} (ha : IsFin a x) (hb : IsFin b y) (hc : IsFin c z) (ht : t = (if pneg then -(x * y) else x * y) + z)
    (h0 : t ≠ 0) (hr : roundsTo f rm (decide (t < 0)) (fun u => SignType.sign (|t| - u)) v fl) : Gives (fpFma f rm pneg a b c) v fl := by
  obtain ⟨na, ma, ea, rfl, rfl, -⟩ := ha
  obtain ⟨nb, mb, eb, rfl, rfl, -⟩ := hb
  obtain ⟨nc, mc, ec, rfl, rfl, -⟩ := hc
  rw [product_value, ← exactAdd_value] at ht
  have hs : ((exactAdd (sgn ((na != nb) != pneg) (ma * mb)) (ea + eb) (sgn nc mc) ec).1 == 0) = false := by
    rw [beq_eq_false_iff_ne]
    intro hs
    exact h0 (by rw [ht, hs]; simp)
  simp only [fpFma, Fp.isNan, Fp.isInf, Fp.neg, Bool.and_false, Bool.false_and, Bool.or_self, Bool.false_eq_true, if_false, hs]
  exact roundInt_gives hf hrm ht h0 hr

omit hf hrm in
theorem roundMag_enc_of_tooBig {m : Nat} {e : Int} {sticky neg : Bool} (h : (roundMag f rm neg m e sticky).tooBig = true) :
    (roundMag f rm neg m e sticky).enc = f.maxEnc := by
  unfold roundMag at h ⊢
  split
  next h' => simp [h'] at h
  next h' =>
    rw [if_neg h'] at h
    dsimp only at h ⊢
    split
    · rfl
    next h'' => simp [h''] at h

omit hrm in
/-- A conversion to a format with infinities rounds as the arithmetic does. -/
theorem fpConvert_fin (neg : Bool) (m : Nat) (e : Int) : fpConvert f false rm (.fin neg m e) = roundTo f rm neg m e false := by
  have henc := roundMag_enc_of_tooBig (f := f) (rm := rm) (m := m) (e := e) (sticky := false) (neg := neg)
  unfold fpConvert roundTo
  rw [hf.kind]
  cases hb : (roundMag f rm neg m e false).tooBig with
  | false => simp [hb]
  | true =>
    cases hi : (roundMag f rm neg m e false).toInf
    · simp [hb, hi, henc hb]
    · simp [hb, hi]

theorem fpConvert_gives (ha : IsFin a t) (h0 : t ≠ 0) (hr : roundsTo f rm (decide (t < 0)) (fun u => SignType.sign (|t| - u)) v fl) :
    Gives (fpConvert f false rm a) v fl := by
  obtain ⟨n, m, e, rfl, ht, -⟩ := ha
  rw [fpConvert_fin hf]
  exact roundTo_exact hf hrm ht h0 hr

theorem fpOfInt_gives {n : Int} (h0 : (n : ℚ) ≠ 0)
    (hr : roundsTo f rm (decide ((n : ℚ) < 0)) (fun u => SignType.sign (|(n : ℚ)| - u)) v fl) : Gives (fpOfInt f rm n) v fl :=
  roundInt_gives hf hrm (by simp) h0 hr

end

/-! ### The instructions -/

theorem scalar_fp64 : Scalar fp64 := .inl rfl
theorem scalar_fp32 : Scalar fp32 := .inr rfl

/-- A rounding mode of two bits. -/
theorem mode_le (rm : BitVec 2) : rm.toNat ≤ 3 := Nat.le_of_lt_succ rm.isLt

section
variable {f : Fmt} (hf : Scalar f) {a b c : Word} {o t : Fmt × Nat × ℚ × Nat}
include hf

/-- What the guard of the table's rows says of two operands, and of three. -/
theorem isFin_of_guard₂ (h : (if [a, b].all (fpFinite f) then some o else none) = some t) :
    IsFin (fpIn f a) (fpValue f a) ∧ IsFin (fpIn f b) (fpValue f b) ∧ o = t := by
  obtain ⟨hfin, he⟩ := Option.ite_none_right_eq_some.mp h
  obtain ⟨ha, hb⟩ : fpFinite f a = true ∧ fpFinite f b = true := by simpa using hfin
  exact ⟨fpValue_isFin hf ha, fpValue_isFin hf hb, Option.some.inj he⟩

theorem isFin_of_guard₃ (h : (if [a, b, c].all (fpFinite f) then some o else none) = some t) :
    IsFin (fpIn f a) (fpValue f a) ∧ IsFin (fpIn f b) (fpValue f b) ∧ IsFin (fpIn f c) (fpValue f c) ∧ o = t := by
  obtain ⟨hfin, he⟩ := Option.ite_none_right_eq_some.mp h
  obtain ⟨ha, hb, hc⟩ : fpFinite f a = true ∧ fpFinite f b = true ∧ fpFinite f c = true := by simpa using hfin
  exact ⟨fpValue_isFin hf ha, fpValue_isFin hf hb, fpValue_isFin hf hc, Option.some.inj he⟩

theorem isFin_of_guard₁ (h : (if fpFinite f a then some o else none) = some t) : IsFin (fpIn f a) (fpValue f a) ∧ o = t := by
  obtain ⟨ha, he⟩ := Option.ite_none_right_eq_some.mp h
  exact ⟨fpValue_isFin hf ha, Option.some.inj he⟩

end

section
variable {s : State} {i : Instr} {b : Block} {l r p v : Word} {fl : BitVec 5} {f : Fmt} {rm lat : Nat} {x : ℚ}

/-- R203, R207: each instruction of the table rounds its exact value once. -/
theorem exec_floatExact (hx : floatExact i l r p = some (f, rm, x, lat)) (h0 : x ≠ 0)
    (hr : roundsTo f rm (decide (x < 0)) (fun t => SignType.sign (|x| - t)) v fl) (h : ready s i b l r p) :
    exec i s = .next (floated s i b v fl lat) := by
  cases i with
  | faddD _ m _ _ =>
    obtain ⟨ha, hb, he⟩ := isFin_of_guard₂ scalar_fp64 hx
    cases he
    exact exec_float₂ (fun a b => fpAdd fp64 m.toNat (fpIn fp64 a) (fpIn fp64 b)) h rfl rfl rfl
      (fpAdd_gives scalar_fp64 (mode_le m) ha hb rfl h0 hr)
  | fsubD _ m _ _ =>
    obtain ⟨ha, hb, he⟩ := isFin_of_guard₂ scalar_fp64 hx
    cases he
    exact exec_float₂ (fun a b => fpAdd fp64 m.toNat (fpIn fp64 a) (fpIn fp64 b).negate) h rfl rfl rfl
      (fpAdd_gives scalar_fp64 (mode_le m) ha hb.negate (sub_eq_add_neg _ _) h0 hr)
  | fmulD _ m _ _ =>
    obtain ⟨ha, hb, he⟩ := isFin_of_guard₂ scalar_fp64 hx
    cases he
    exact exec_float₂ (fun a b => fpMul fp64 m.toNat (fpIn fp64 a) (fpIn fp64 b)) h rfl rfl rfl
      (fpMul_gives scalar_fp64 (mode_le m) ha hb rfl h0 hr)
  | fdivD _ m _ _ =>
    obtain ⟨ha, hb, he⟩ := isFin_of_guard₂ scalar_fp64 hx
    cases he
    exact exec_float₂ (fun a b => fpDiv fp64 m.toNat (fpIn fp64 a) (fpIn fp64 b)) h rfl rfl rfl
      (fpDiv_gives scalar_fp64 (mode_le m) ha hb rfl h0 hr)
  | fmaD m _ _ =>
    obtain ⟨ha, hb, hc, he⟩ := isFin_of_guard₃ scalar_fp64 hx
    cases he
    exact exec_float₃ (fun a b c => fpFma fp64 m.toNat false (fpIn fp64 a) (fpIn fp64 b) (fpIn fp64 c)) h rfl rfl rfl rfl
      (fpFma_gives scalar_fp64 (mode_le m) ha hb hc rfl h0 hr)
  | fmsD m _ _ =>
    obtain ⟨ha, hb, hc, he⟩ := isFin_of_guard₃ scalar_fp64 hx
    cases he
    exact exec_float₃ (fun a b c => fpFma fp64 m.toNat false (fpIn fp64 a) (fpIn fp64 b) (fpIn fp64 c).negate) h rfl rfl rfl rfl
      (fpFma_gives scalar_fp64 (mode_le m) ha hb hc.negate (sub_eq_add_neg _ _) h0 hr)
  | fnmaD m _ _ =>
    obtain ⟨ha, hb, hc, he⟩ := isFin_of_guard₃ scalar_fp64 hx
    cases he
    exact exec_float₃ (fun a b c => fpFma fp64 m.toNat true (fpIn fp64 a) (fpIn fp64 b) (fpIn fp64 c)) h rfl rfl rfl rfl
      (fpFma_gives scalar_fp64 (mode_le m) ha hb hc rfl h0 hr)
  | faddS _ m _ _ =>
    obtain ⟨ha, hb, he⟩ := isFin_of_guard₂ scalar_fp32 hx
    cases he
    exact exec_float₂ (fun a b => fpAdd fp32 m.toNat (fpIn fp32 a) (fpIn fp32 b)) h rfl rfl rfl
      (fpAdd_gives scalar_fp32 (mode_le m) ha hb rfl h0 hr)
  | fsubS _ m _ _ =>
    obtain ⟨ha, hb, he⟩ := isFin_of_guard₂ scalar_fp32 hx
    cases he
    exact exec_float₂ (fun a b => fpAdd fp32 m.toNat (fpIn fp32 a) (fpIn fp32 b).negate) h rfl rfl rfl
      (fpAdd_gives scalar_fp32 (mode_le m) ha hb.negate (sub_eq_add_neg _ _) h0 hr)
  | fmulS _ m _ _ =>
    obtain ⟨ha, hb, he⟩ := isFin_of_guard₂ scalar_fp32 hx
    cases he
    exact exec_float₂ (fun a b => fpMul fp32 m.toNat (fpIn fp32 a) (fpIn fp32 b)) h rfl rfl rfl
      (fpMul_gives scalar_fp32 (mode_le m) ha hb rfl h0 hr)
  | fdivS _ m _ _ =>
    obtain ⟨ha, hb, he⟩ := isFin_of_guard₂ scalar_fp32 hx
    cases he
    exact exec_float₂ (fun a b => fpDiv fp32 m.toNat (fpIn fp32 a) (fpIn fp32 b)) h rfl rfl rfl
      (fpDiv_gives scalar_fp32 (mode_le m) ha hb rfl h0 hr)
  | fmaS m _ _ =>
    obtain ⟨ha, hb, hc, he⟩ := isFin_of_guard₃ scalar_fp32 hx
    cases he
    exact exec_float₃ (fun a b c => fpFma fp32 m.toNat false (fpIn fp32 a) (fpIn fp32 b) (fpIn fp32 c)) h rfl rfl rfl rfl
      (fpFma_gives scalar_fp32 (mode_le m) ha hb hc rfl h0 hr)
  | fmsS m _ _ =>
    obtain ⟨ha, hb, hc, he⟩ := isFin_of_guard₃ scalar_fp32 hx
    cases he
    exact exec_float₃ (fun a b c => fpFma fp32 m.toNat false (fpIn fp32 a) (fpIn fp32 b) (fpIn fp32 c).negate) h rfl rfl rfl rfl
      (fpFma_gives scalar_fp32 (mode_le m) ha hb hc.negate (sub_eq_add_neg _ _) h0 hr)
  | fnmaS m _ _ =>
    obtain ⟨ha, hb, hc, he⟩ := isFin_of_guard₃ scalar_fp32 hx
    cases he
    exact exec_float₃ (fun a b c => fpFma fp32 m.toNat true (fpIn fp32 a) (fpIn fp32 b) (fpIn fp32 c)) h rfl rfl rfl rfl
      (fpFma_gives scalar_fp32 (mode_le m) ha hb hc rfl h0 hr)
  | fcvtDS =>
    obtain ⟨ha, he⟩ := isFin_of_guard₁ scalar_fp32 hx
    cases he
    exact exec_float₁ (fun a => fpConvert fp64 false 0 (fpIn fp32 a)) h rfl rfl (fpConvert_gives scalar_fp64 (by decide) ha h0 hr)
  | fcvtSD _ m _ _ =>
    obtain ⟨ha, he⟩ := isFin_of_guard₁ scalar_fp64 hx
    cases he
    exact exec_float₁ (fun a => fpConvert fp32 false m.toNat (fpIn fp64 a)) h rfl rfl (fpConvert_gives scalar_fp32 (mode_le m) ha h0 hr)
  | fcvtDI _ m _ _ =>
    cases hx
    exact exec_float₁ (fun a => fpOfInt fp64 m.toNat a.toInt) h rfl rfl (fpOfInt_gives scalar_fp64 (mode_le m) h0 hr)
  | fcvtDN _ m _ _ =>
    cases hx
    exact exec_float₁ (fun a => fpOfInt fp64 m.toNat a.toNat) h rfl rfl (fpOfInt_gives scalar_fp64 (mode_le m) h0 hr)
  | fcvtSI _ m _ _ =>
    cases hx
    exact exec_float₁ (fun a => fpOfInt fp32 m.toNat a.toInt) h rfl rfl (fpOfInt_gives scalar_fp32 (mode_le m) h0 hr)
  | _ => exact of_none_eq_some hx

/-- FSQRT of a positive finite operand. -/
theorem fpSqrt_word {f : Fmt} (hf : Scalar f) {rm : Nat} (hrm : rm ≤ 3) {a : Word} (hfin : fpFinite f a = true) (h0 : 0 < fpValue f a)
    (hr : roundsTo f rm false (fun t => SignType.sign (fpValue f a - t ^ 2)) v fl) : Gives (fpSqrt f rm (fpIn f a)) v fl := by
  obtain ⟨n, m, e, ha, hx, -⟩ := fpValue_isFin hf hfin
  have hpos : (0 : ℚ) < 2 ^ e := by positivity
  have hn : n = false := by
    by_contra hn
    have : fpValue f a ≤ 0 := by
      rw [hx, Bool.eq_true_of_not_eq_false hn, sgn, if_pos rfl]
      push_cast
      exact mul_nonpos_of_nonpos_of_nonneg (neg_nonpos.mpr (Nat.cast_nonneg m)) hpos.le
    exact absurd h0 (not_lt.mpr this)
  subst hn
  rw [ha]
  exact fpSqrt_gives hf hrm hx h0 hr

theorem exec_floatRoot (hi : floatRoot i = some (f, rm, lat)) (hfin : fpFinite f l = true) (h0 : 0 < fpValue f l)
    (hr : roundsTo f rm false (fun t => SignType.sign (fpValue f l - t ^ 2)) v fl) (h : ready s i b l r p) :
    exec i s = .next (floated s i b v fl lat) := by
  cases i with
  | fsqrtD _ m _ _ => cases hi; exact exec_float₁ (fun a => fpSqrt fp64 m.toNat (fpIn fp64 a)) h rfl rfl (fpSqrt_word scalar_fp64 (mode_le m) hfin h0 hr)
  | fsqrtS _ m _ _ => cases hi; exact exec_float₁ (fun a => fpSqrt fp32 m.toNat (fpIn fp32 a)) h rfl rfl (fpSqrt_word scalar_fp32 (mode_le m) hfin h0 hr)
  | _ => exact of_none_eq_some hi

end

/-- Settles O11: a number lies between two neighbours of the format, and R57 to R59 determine which of them `roundTo` gives. -/
theorem floatRoundsOnce : Obligations.FloatRoundsOnce :=
  ⟨fun _ _ _ _ _ _ _ _ _ _ _ _ hx h0 hr h => exec_floatExact hx h0 hr h,
    fun _ _ _ _ _ _ _ _ _ _ _ hi hfin h0 hr h => exec_floatRoot hi hfin h0 hr h⟩

end Sys2Proof.Machine
end

section
/-! SUPPORT. The special cases of the floating-point instructions (09 R204, R207): NaNs, infinities and zeros. -/

namespace Sys2Proof.Machine

open Sys2Proof Sys2Proof.Claims Sys2Proof.Laws

/-! ### What an operand is, in the statement's terms -/

/-- An operand is a NaN or not, signalling or not, an infinity or not, a zero or not; its sign, and where it is finite its value. -/
inductive Reads : Fp → (nan snan inf zero neg : Bool) → ℚ → Prop
  | nan (s neg : Bool) (x : ℚ) : Reads (.nan s) true s false false neg x
  | inf (neg : Bool) (x : ℚ) : Reads (.inf neg) false false true false neg x
  | fin (neg : Bool) (m : Nat) (e : Int) : Reads (.fin neg m e) false false false (m == 0) neg (sgn neg m * 2 ^ e)

section
variable {a : Fp} {nan snan inf zero neg : Bool} {x : ℚ} (h : Reads a nan snan inf zero neg x)
include h

theorem Reads.isNan_eq : a.isNan = nan := by cases h <;> rfl
theorem Reads.isSnan_eq : a.isSnan = snan := by cases h <;> rfl
theorem Reads.isInf_eq : a.isInf = inf := by cases h <;> rfl
theorem Reads.neg_eq (hn : nan = false) : a.neg = neg := by
  cases h with
  | nan => nomatch hn
  | inf => rfl
  | fin => rfl

theorem Reads.isZero_eq : a.isZero = zero := by
  cases h with
  | nan => rfl
  | inf => rfl
  | fin _ m e => cases m <;> rfl

end

theorem Reads.negate {a : Fp} {nan snan inf zero neg : Bool} {x : ℚ} (h : Reads a nan snan inf zero neg x) :
    Reads a.negate nan snan inf zero (!neg) (-x) := by
  cases h with
  | nan => exact .nan _ _ _
  | inf => exact .inf _ _
  | fin _ m e =>
    have hval : -((sgn neg m : ℚ) * 2 ^ e) = sgn (!neg) m * 2 ^ e := by rw [sgn_not]; push_cast; ring
    exact hval ▸ .fin (!neg) m e

section
variable {f : Fmt} (hf : Scalar f) (a : Word)
include hf

theorem Scalar.top_pos : 0 < fpTop f := by rcases hf with rfl | rfl <;> decide

theorem fpNan_eq : fpNan f = BitVec.ofNat 64 f.nanEnc := by rcases hf with rfl | rfl <;> rfl

theorem fpIn_reads : Reads (fpIn f a) (fpIsNan f a) (fpIsSnan f a) (fpIsInf f a) (fpMag f a == 0) (fpSign f a) (fpValue f a) := by
  have htop := hf.top_pos
  rcases lt_trichotomy (fpMag f a) (fpTop f) with h | h | h
  · have hnan : fpIsNan f a = false := decide_eq_false h.not_gt
    have hsnan : fpIsSnan f a = false := by rw [fpIsSnan, hnan, Bool.false_and]
    have hinf : fpIsInf f a = false := beq_eq_false_iff_ne.mpr h.ne
    obtain ⟨m, e, ha, hval, -, -⟩ := fpIn_finite hf a (decide_eq_true h)
    have hzero : (fpMag f a == 0) = (m == 0) := by
      have hpos : (2 : ℚ) ^ e ≠ 0 := by positivity
      rw [Bool.eq_iff_iff, beq_iff_eq, beq_iff_eq, ← magnitude_eq_zero f, ← hval, mul_eq_zero]
      simp [hpos]
    have hx : fpValue f a = sgn (fpSign f a) m * 2 ^ e := by
      unfold fpValue sgn
      rw [← hval]
      split <;> push_cast <;> ring
    rw [ha, hnan, hsnan, hinf, hzero, hx]
    exact .fin _ m e
  · have hnan : fpIsNan f a = false := decide_eq_false h.not_gt
    have hsnan : fpIsSnan f a = false := by rw [fpIsSnan, hnan, Bool.false_and]
    have hinf : fpIsInf f a = true := beq_iff_eq.mpr h
    have hzero : (fpMag f a == 0) = false := beq_eq_false_iff_ne.mpr (by omega)
    rw [fpIn_inf hf a hinf, hnan, hsnan, hinf, hzero]
    exact .inf _ _
  · have hnan : fpIsNan f a = true := decide_eq_true h
    have hinf : fpIsInf f a = false := beq_eq_false_iff_ne.mpr h.ne'
    have hzero : (fpMag f a == 0) = false := beq_eq_false_iff_ne.mpr (by omega)
    rw [fpIn_nan hf a hnan, hnan, hinf, hzero]
    exact .nan _ _ _

end

/-! ### The operations -/

section
variable {f : Fmt} (hf : Scalar f) {rm : BitVec 2}

theorem gives_inf (neg : Bool) (w : BitVec 5) : Gives (infResult f neg w) (fpWord f neg (fpTop f)) w := ⟨rfl, rfl⟩

theorem gives_zero (neg : Bool) : Gives (f.signed neg 0, 0) (fpWord f neg 0) 0 := ⟨rfl, rfl⟩

theorem roundTo_zero (neg : Bool) (k : Nat) (e : Int) : Gives (roundTo f k neg 0 e false) (fpWord f neg 0) 0 := by
  simp [roundTo, roundMag]
  exact gives_zero neg

include hf

theorem gives_nan (w : BitVec 5) : Gives (nanResult f w) (fpNan f) w := ⟨(fpNan_eq hf).symm, rfl⟩

/-! R204 for operands of which it is known what they are; `Special` is what the statement's tables give, `none` where a number is rounded. -/

/-- What a table gives, if it gives something, is what the operation gives. -/
def Special (o : Option (Word × BitVec 5)) (r : FpResult) : Prop := ∀ v fl, o = some (v, fl) → Gives r v fl

omit hf in
theorem special_some {v : Word} {fl : BitVec 5} {r : FpResult} (h : Gives r v fl) : Special (some (v, fl)) r := by
  rintro _ _ ⟨⟩
  exact h

omit hf in
theorem special_none {r : FpResult} : Special none r := fun _ _ h => nomatch h

omit hf in
/-- A sum of finite addends that is zero. -/
theorem special_zeroSum {p q z : Bool} {m n : Int} {e d : Int} (hz : z = true → m = 0 ∧ n = 0) :
    Special (sumCase f rm p q false false z (decide ((m * 2 ^ e + n * 2 ^ d : ℚ) = 0)))
      (if (exactAdd m e n d).1 == 0 then (f.signed (zeroSumNeg rm.toNat p q z) 0, 0)
        else roundInt f rm.toNat (exactAdd m e n d).1 (exactAdd m e n d).2) := by
  have hpos : (2 : ℚ) ^ (exactAdd m e n d).2 ≠ 0 := by positivity
  have hsum : ((exactAdd m e n d).1 == 0) = decide ((m * 2 ^ e + n * 2 ^ d : ℚ) = 0) := by
    rw [Bool.eq_iff_iff, beq_iff_eq, decide_eq_true_iff, ← exactAdd_value, mul_eq_zero]
    simp [hpos]
  have hmode : (rm.toNat == 3) = decide (rm = 3#2) := by
    rw [Bool.eq_iff_iff, beq_iff_eq, decide_eq_true_iff, ← BitVec.toNat_inj]
    rfl
  rw [hsum, zeroSumNeg, hmode]
  by_cases h : ((m * 2 ^ e + n * 2 ^ d : ℚ) = 0)
  · simp only [sumCase, h, Bool.and_self, Bool.false_eq_true, if_false, decide_true, if_true]
    cases z && p == q <;> exact special_some (gives_zero _)
  · have hz' : z = false := by
      by_contra hz'
      obtain ⟨rfl, rfl⟩ := hz (by simpa using hz')
      simp at h
    simp only [sumCase, h, hz', Bool.and_self, Bool.false_and, Bool.false_eq_true, if_false, decide_false]
    exact special_none

/-- A sum of infinities. -/
theorem special_infinities (p q z cancels : Bool) :
    Special (sumCase f rm p q true true z cancels) (if p == q then infResult f p 0 else nanResult f FpFlags.nv) := by
  by_cases h : p = q
  · simp only [sumCase, Bool.and_self, if_true, h, beq_self_eq_true]
    exact special_some (gives_inf _ _)
  · have hne : (p == q) = false := beq_eq_false_iff_ne.mpr h
    simp only [sumCase, Bool.and_self, if_true, h, hne, if_false, Bool.false_eq_true]
    exact special_some (gives_nan hf _)

section
variable {a b c : Fp} {na sa ia za ga nb sb ib zb gb nc sc ic zc gc : Bool} {x y z : ℚ}
  (ha : Reads a na sa ia za ga x) (hb : Reads b nb sb ib zb gb y) (hc : Reads c nc sc ic zc gc z)
include ha hb

omit hf in
theorem snanFlag₂ : snanFlag [a, b] = if sa || sb then 16 else 0 := by
  simp only [snanFlag, List.any_cons, List.any_nil, Bool.or_false, ha.isSnan_eq, hb.isSnan_eq]
  rfl

theorem add_special : Special (if na || nb then some (fpNan f, if sa || sb then 16 else 0)
    else sumCase f rm ga gb ia ib (za && zb) (decide (x + y = 0))) (fpAdd f rm.toNat a b) := by
  have hflag := snanFlag₂ ha hb
  rw [← hflag]
  cases ha with
  | nan => exact special_some (gives_nan hf _)
  | inf =>
    cases hb with
    | nan => exact special_some (gives_nan hf _)
    | inf => exact special_infinities (rm := rm) hf ga gb false (decide (x + y = 0))
    | fin _ n d => exact special_some (gives_inf ga 0)
  | fin _ m e =>
    cases hb with
    | nan => exact special_some (gives_nan hf _)
    | inf => exact special_some (gives_inf gb 0)
    | fin _ n d => exact special_zeroSum (by simp +contextual [sgn_eq_zero])

theorem mul_special {k : Nat} : Special (if na || nb then some (fpNan f, if sa || sb then 16 else 0)
    else if (ia && zb) || (za && ib) then some (fpNan f, 16)
    else if ia || ib then some (fpWord f (ga != gb) (fpTop f), 0)
    else if za || zb then some (fpWord f (ga != gb) 0, 0) else none) (fpMul f k a b) := by
  have hflag := snanFlag₂ ha hb
  rw [← hflag]
  cases ha with
  | nan => exact special_some (gives_nan hf _)
  | inf =>
    cases hb with
    | nan => exact special_some (gives_nan hf _)
    | inf => exact special_some (gives_inf _ 0)
    | fin _ n d =>
      cases n with
      | zero => exact special_some (gives_nan hf _)
      | succ n => exact special_some (gives_inf _ 0)
  | fin _ m e =>
    cases hb with
    | nan => exact special_some (gives_nan hf _)
    | inf =>
      cases m with
      | zero => exact special_some (gives_nan hf _)
      | succ m => exact special_some (gives_inf _ 0)
    | fin _ n d =>
      by_cases h0 : m * n = 0
      · have hz : (m == 0 || n == 0) = true := by simpa using Nat.mul_eq_zero.mp h0
        simp only [fpMul, Fp.isNan, Fp.neg, Bool.or_self, Bool.and_false, Bool.false_and, Bool.false_eq_true, if_false, hz, if_true, h0]
        exact special_some (roundTo_zero _ _ _)
      · have hz : (m == 0 || n == 0) = false := by simpa using h0
        simp only [Bool.or_self, Bool.and_false, Bool.false_and, Bool.false_eq_true, if_false, hz]
        exact special_none

theorem div_special {k : Nat} : Special (if na || nb then some (fpNan f, if sa || sb then 16 else 0)
    else if (za && zb) || (ia && ib) then some (fpNan f, 16)
    else if ia then some (fpWord f (ga != gb) (fpTop f), 0)
    else if zb then some (fpWord f (ga != gb) (fpTop f), 8)
    else if za || ib then some (fpWord f (ga != gb) 0, 0) else none) (fpDiv f k a b) := by
  have hflag := snanFlag₂ ha hb
  rw [← hflag]
  cases ha with
  | nan => exact special_some (gives_nan hf _)
  | inf =>
    cases hb with
    | nan => exact special_some (gives_nan hf _)
    | inf => exact special_some (gives_nan hf _)
    | fin _ n d => exact special_some (gives_inf _ 0)
  | fin _ m e =>
    cases hb with
    | nan => exact special_some (gives_nan hf _)
    | inf => cases m <;> exact special_some (gives_zero _)
    | fin _ n d =>
      cases n with
      | zero =>
        cases m with
        | zero => exact special_some (gives_nan hf _)
        | succ m => exact special_some (gives_inf _ _)
      | succ n =>
        cases m with
        | zero => exact special_some (gives_zero _)
        | succ m => exact special_none

omit hb in
theorem root_special {k : Nat} : Special (if na then some (fpNan f, if sa then 16 else 0)
    else if za then some (fpWord f ga 0, 0) else if ga then some (fpNan f, 16)
    else if ia then some (fpWord f false (fpTop f), 0) else none) (fpSqrt f k a) := by
  cases ha with
  | nan => exact special_some (gives_nan hf _)
  | inf =>
    cases ga
    · exact special_some (gives_inf _ 0)
    · exact special_some (gives_nan hf _)
  | fin _ m e =>
    cases m with
    | zero => exact special_some (gives_zero _)
    | succ m =>
      cases ga
      · exact special_none
      · exact special_some (gives_nan hf _)

include hc

omit hf in
theorem snanFlag₃ : snanFlag [a, b, c] = if sa || sb || sc then 16 else 0 := by
  simp only [snanFlag, List.any_cons, List.any_nil, Bool.or_false, ha.isSnan_eq, hb.isSnan_eq, hc.isSnan_eq, Bool.or_assoc]
  rfl

theorem fused_special {pneg : Bool} : Special (if (ia && zb) || (za && ib) then some (fpNan f, 16)
    else if na || nb || nc then some (fpNan f, if sa || sb || sc then 16 else 0)
    else sumCase f rm ((ga != gb) != pneg) gc (ia || ib) ic ((za || zb) && zc)
      (decide ((if pneg then -(x * y) else x * y) + z = 0))) (fpFma f rm.toNat pneg a b c) := by
  have hflag := snanFlag₃ ha hb hc
  have hbad : ((a.isZero && b.isInf) || (a.isInf && b.isZero)) = ((ia && zb) || (za && ib)) := by
    rw [ha.isZero_eq, hb.isInf_eq, ha.isInf_eq, hb.isZero_eq, Bool.or_comm]
  unfold fpFma
  simp only [hbad, hflag, ha.isNan_eq, hb.isNan_eq, hc.isNan_eq]
  cases hinvalid : (ia && zb) || (za && ib) with
  | true =>
    simp only [Bool.or_true, if_true]
    refine special_some ⟨(fpNan_eq hf).symm, ?_⟩
    cases sa || sb || sc <;> rfl
  | false =>
    cases hnan : na || nb || nc with
    | true =>
      simp only [Bool.or_false, if_true, Bool.false_eq_true, if_false]
      refine special_some ⟨(fpNan_eq hf).symm, ?_⟩
      cases sa || sb || sc <;> rfl
    | false =>
      simp only [Bool.or_false, Bool.false_eq_true, if_false]
      simp only [Bool.or_eq_false_iff] at hnan
      obtain ⟨⟨hna, hnb⟩, hnc⟩ := hnan
      rw [ha.neg_eq hna, hb.neg_eq hnb]
      cases ha with
      | nan => nomatch hna
      | inf =>
        cases hc with
        | nan => nomatch hnc
        | inf => exact special_infinities hf _ _ _ _
        | fin => exact special_some (gives_inf _ 0)
      | fin _ m e =>
        cases hb with
        | nan => nomatch hnb
        | inf =>
          cases hc with
          | nan => nomatch hnc
          | inf => exact special_infinities hf _ _ _ _
          | fin => exact special_some (gives_inf _ 0)
        | fin _ n d =>
          cases hc with
          | nan => nomatch hnc
          | inf => exact special_some (gives_inf _ 0)
          | fin _ k g =>
            have hzero : ((m == 0 || n == 0) && k == 0) = (m * n == 0 && k == 0) := by
              rw [Bool.eq_iff_iff]
              simp
            rw [product_value, hzero]
            exact special_zeroSum (by simp +contextual [sgn_eq_zero])

omit hb hc in
theorem convert_special {k : Nat} : Special (if na then some (fpNan f, if sa then 16 else 0)
    else if ia then some (fpWord f ga (fpTop f), 0) else if za then some (fpWord f ga 0, 0) else none) (fpConvert f false k a) := by
  have hieee : (FmtKind.ieee == FmtKind.finite) = false ∧ (FmtKind.ieee == FmtKind.e4m3) = false := ⟨rfl, rfl⟩
  cases ha with
  | nan =>
    simp only [fpConvert, hf.kind, hieee, Bool.or_false, if_true]
    exact special_some ⟨(fpNan_eq hf).symm, rfl⟩
  | inf =>
    simp only [fpConvert, hf.kind, hieee, Bool.or_false, Bool.false_eq_true, if_true, if_false]
    exact special_some (gives_inf _ 0)
  | fin _ m e =>
    rw [fpConvert_fin hf]
    cases m with
    | zero => exact special_some (roundTo_zero _ _ _)
    | succ m => exact special_none

end

/-! ### The instructions, on words -/

section
variable (a b c : Word)

omit hf in
theorem nanCase₁ (k : Option (Word × BitVec 5)) :
    nanCase f [a] k = if fpIsNan f a then some (fpNan f, if fpIsSnan f a then 16 else 0) else k := by
  simp only [nanCase, List.any_cons, List.any_nil, Bool.or_false]

omit hf in
theorem nanCase₂ (k : Option (Word × BitVec 5)) :
    nanCase f [a, b] k = if fpIsNan f a || fpIsNan f b then some (fpNan f, if fpIsSnan f a || fpIsSnan f b then 16 else 0) else k := by
  simp only [nanCase, List.any_cons, List.any_nil, Bool.or_false]

omit hf in
theorem nanCase₃ (k : Option (Word × BitVec 5)) :
    nanCase f [a, b, c] k = if fpIsNan f a || fpIsNan f b || fpIsNan f c
      then some (fpNan f, if fpIsSnan f a || fpIsSnan f b || fpIsSnan f c then 16 else 0) else k := by
  simp only [nanCase, List.any_cons, List.any_nil, Bool.or_false, Bool.or_assoc]

theorem sumSpecial_add : Special (sumSpecial f rm false a b) (fpAdd f rm.toNat (fpIn f a) (fpIn f b)) := by
  rw [sumSpecial, nanCase₂, Bool.bne_false]
  exact add_special hf (fpIn_reads hf a) (fpIn_reads hf b)

theorem sumSpecial_sub : Special (sumSpecial f rm true a b) (fpAdd f rm.toNat (fpIn f a) (fpIn f b).negate) := by
  rw [sumSpecial, nanCase₂, Bool.bne_true]
  exact add_special hf (fpIn_reads hf a) (fpIn_reads hf b).negate

theorem mulSpecial_mul (k : Nat) : Special (mulSpecial f a b) (fpMul f k (fpIn f a) (fpIn f b)) := by
  rw [mulSpecial, nanCase₂]
  exact mul_special hf (fpIn_reads hf a) (fpIn_reads hf b)

theorem divSpecial_div (k : Nat) : Special (divSpecial f a b) (fpDiv f k (fpIn f a) (fpIn f b)) := by
  rw [divSpecial, nanCase₂]
  exact div_special hf (fpIn_reads hf a) (fpIn_reads hf b)

theorem rootSpecial_sqrt (k : Nat) : Special (rootSpecial f a) (fpSqrt f k (fpIn f a)) := by
  rw [rootSpecial, nanCase₁]
  exact root_special hf (fpIn_reads hf a)

theorem fusedSpecial_fma (pneg : Bool) : Special (fusedSpecial f rm pneg false a b c) (fpFma f rm.toNat pneg (fpIn f a) (fpIn f b) (fpIn f c)) := by
  rw [fusedSpecial, nanCase₃, Bool.bne_false]
  exact fused_special hf (fpIn_reads hf a) (fpIn_reads hf b) (fpIn_reads hf c)

theorem fusedSpecial_fms : Special (fusedSpecial f rm false true a b c) (fpFma f rm.toNat false (fpIn f a) (fpIn f b) (fpIn f c).negate) := by
  rw [fusedSpecial, nanCase₃, Bool.bne_true]
  exact fused_special hf (fpIn_reads hf a) (fpIn_reads hf b) (fpIn_reads hf c).negate

omit hf in
/-- The integer 0 converts to +0. -/
theorem special_ofInt {n : Int} (h : a = 0 → n = 0) : Special (if a = 0 then some (0, 0) else none) (fpOfInt f rm.toNat n) := by
  split
  next ha => rw [h ha]; exact special_some (roundTo_zero false _ 0)
  next => exact special_none

end

end

/-- Settles O12, by what each operation does with NaNs, infinities and zeros. -/
theorem floatSpecialCases : Obligations.FloatSpecialCases := by
  intro s i b l r p v fl lat hsp h
  cases i with
  | faddD _ m _ _ =>
    obtain ⟨hv, rfl⟩ := Prod.mk.inj (Option.some.inj hsp)
    exact exec_float₂ (fun a b => fpAdd fp64 m.toNat (fpIn fp64 a) (fpIn fp64 b)) h rfl rfl rfl (sumSpecial_add scalar_fp64 l r _ _ hv)
  | fsubD _ m _ _ =>
    obtain ⟨hv, rfl⟩ := Prod.mk.inj (Option.some.inj hsp)
    exact exec_float₂ (fun a b => fpAdd fp64 m.toNat (fpIn fp64 a) (fpIn fp64 b).negate) h rfl rfl rfl (sumSpecial_sub scalar_fp64 l r _ _ hv)
  | fmulD _ m _ _ =>
    obtain ⟨hv, rfl⟩ := Prod.mk.inj (Option.some.inj hsp)
    exact exec_float₂ (fun a b => fpMul fp64 m.toNat (fpIn fp64 a) (fpIn fp64 b)) h rfl rfl rfl (mulSpecial_mul scalar_fp64 l r _ _ _ hv)
  | fdivD _ m _ _ =>
    obtain ⟨hv, rfl⟩ := Prod.mk.inj (Option.some.inj hsp)
    exact exec_float₂ (fun a b => fpDiv fp64 m.toNat (fpIn fp64 a) (fpIn fp64 b)) h rfl rfl rfl (divSpecial_div scalar_fp64 l r _ _ _ hv)
  | fsqrtD _ m _ _ =>
    obtain ⟨hv, rfl⟩ := Prod.mk.inj (Option.some.inj hsp)
    exact exec_float₁ (fun a => fpSqrt fp64 m.toNat (fpIn fp64 a)) h rfl rfl (rootSpecial_sqrt scalar_fp64 l _ _ _ hv)
  | fmaD m _ _ =>
    obtain ⟨hv, rfl⟩ := Prod.mk.inj (Option.some.inj hsp)
    exact exec_float₃ (fun a b c => fpFma fp64 m.toNat false (fpIn fp64 a) (fpIn fp64 b) (fpIn fp64 c)) h rfl rfl rfl rfl
      (fusedSpecial_fma scalar_fp64 l r p _ _ _ hv)
  | fmsD m _ _ =>
    obtain ⟨hv, rfl⟩ := Prod.mk.inj (Option.some.inj hsp)
    exact exec_float₃ (fun a b c => fpFma fp64 m.toNat false (fpIn fp64 a) (fpIn fp64 b) (fpIn fp64 c).negate) h rfl rfl rfl rfl
      (fusedSpecial_fms scalar_fp64 l r p _ _ hv)
  | fnmaD m _ _ =>
    obtain ⟨hv, rfl⟩ := Prod.mk.inj (Option.some.inj hsp)
    exact exec_float₃ (fun a b c => fpFma fp64 m.toNat true (fpIn fp64 a) (fpIn fp64 b) (fpIn fp64 c)) h rfl rfl rfl rfl
      (fusedSpecial_fma scalar_fp64 l r p _ _ _ hv)
  | faddS _ m _ _ =>
    obtain ⟨hv, rfl⟩ := Prod.mk.inj (Option.some.inj hsp)
    exact exec_float₂ (fun a b => fpAdd fp32 m.toNat (fpIn fp32 a) (fpIn fp32 b)) h rfl rfl rfl (sumSpecial_add scalar_fp32 l r _ _ hv)
  | fsubS _ m _ _ =>
    obtain ⟨hv, rfl⟩ := Prod.mk.inj (Option.some.inj hsp)
    exact exec_float₂ (fun a b => fpAdd fp32 m.toNat (fpIn fp32 a) (fpIn fp32 b).negate) h rfl rfl rfl (sumSpecial_sub scalar_fp32 l r _ _ hv)
  | fmulS _ m _ _ =>
    obtain ⟨hv, rfl⟩ := Prod.mk.inj (Option.some.inj hsp)
    exact exec_float₂ (fun a b => fpMul fp32 m.toNat (fpIn fp32 a) (fpIn fp32 b)) h rfl rfl rfl (mulSpecial_mul scalar_fp32 l r _ _ _ hv)
  | fdivS _ m _ _ =>
    obtain ⟨hv, rfl⟩ := Prod.mk.inj (Option.some.inj hsp)
    exact exec_float₂ (fun a b => fpDiv fp32 m.toNat (fpIn fp32 a) (fpIn fp32 b)) h rfl rfl rfl (divSpecial_div scalar_fp32 l r _ _ _ hv)
  | fsqrtS _ m _ _ =>
    obtain ⟨hv, rfl⟩ := Prod.mk.inj (Option.some.inj hsp)
    exact exec_float₁ (fun a => fpSqrt fp32 m.toNat (fpIn fp32 a)) h rfl rfl (rootSpecial_sqrt scalar_fp32 l _ _ _ hv)
  | fmaS m _ _ =>
    obtain ⟨hv, rfl⟩ := Prod.mk.inj (Option.some.inj hsp)
    exact exec_float₃ (fun a b c => fpFma fp32 m.toNat false (fpIn fp32 a) (fpIn fp32 b) (fpIn fp32 c)) h rfl rfl rfl rfl
      (fusedSpecial_fma scalar_fp32 l r p _ _ _ hv)
  | fmsS m _ _ =>
    obtain ⟨hv, rfl⟩ := Prod.mk.inj (Option.some.inj hsp)
    exact exec_float₃ (fun a b c => fpFma fp32 m.toNat false (fpIn fp32 a) (fpIn fp32 b) (fpIn fp32 c).negate) h rfl rfl rfl rfl
      (fusedSpecial_fms scalar_fp32 l r p _ _ hv)
  | fnmaS m _ _ =>
    obtain ⟨hv, rfl⟩ := Prod.mk.inj (Option.some.inj hsp)
    exact exec_float₃ (fun a b c => fpFma fp32 m.toNat true (fpIn fp32 a) (fpIn fp32 b) (fpIn fp32 c)) h rfl rfl rfl rfl
      (fusedSpecial_fma scalar_fp32 l r p _ _ _ hv)
  | fcvtDS =>
    obtain ⟨hv, rfl⟩ := Prod.mk.inj (Option.some.inj hsp)
    exact exec_float₁ (fun a => fpConvert fp64 false 0 (fpIn fp32 a)) h rfl rfl (convert_special scalar_fp64 (fpIn_reads scalar_fp32 l) _ _ hv)
  | fcvtSD _ m _ _ =>
    obtain ⟨hv, rfl⟩ := Prod.mk.inj (Option.some.inj hsp)
    exact exec_float₁ (fun a => fpConvert fp32 false m.toNat (fpIn fp64 a)) h rfl rfl
      (convert_special scalar_fp32 (fpIn_reads scalar_fp64 l) _ _ hv)
  | fcvtDI _ m _ _ =>
    obtain ⟨hv, rfl⟩ := Prod.mk.inj (Option.some.inj hsp)
    exact exec_float₁ (fun a => fpOfInt fp64 m.toNat a.toInt) h rfl rfl (special_ofInt l (fun h0 => by rw [h0]; rfl) _ _ hv)
  | fcvtDN _ m _ _ =>
    obtain ⟨hv, rfl⟩ := Prod.mk.inj (Option.some.inj hsp)
    exact exec_float₁ (fun a => fpOfInt fp64 m.toNat a.toNat) h rfl rfl (special_ofInt l (fun h0 => by rw [h0]; rfl) _ _ hv)
  | fcvtSI _ m _ _ =>
    obtain ⟨hv, rfl⟩ := Prod.mk.inj (Option.some.inj hsp)
    exact exec_float₁ (fun a => fpOfInt fp32 m.toNat a.toInt) h rfl rfl (special_ofInt l (fun h0 => by rw [h0]; rfl) _ _ hv)
  | _ => exact of_none_eq_some hsp

end Sys2Proof.Machine
end

section
/-! SUPPORT. Minimum, maximum, sign operations, classification and comparison (09 R205, R206). -/

namespace Sys2Proof.Machine

open Sys2Proof Sys2Proof.Claims Sys2Proof.Laws

/-! ### The low bits of a word -/

section
variable {f : Fmt} (a b : Word)

theorem bits_mod {n lo len k : Nat} (h : lo + len ≤ k) : bits (n % 2 ^ k) lo len = bits n lo len := by
  obtain ⟨d, rfl⟩ := Nat.exists_eq_add_of_le h
  rw [bits, bits, Nat.add_assoc, pow_add 2 lo, Nat.mod_mul_right_div_self, pow_add,
    Nat.mod_mod_of_dvd _ (Dvd.intro _ rfl)]

theorem bit_mod {n i k : Nat} (h : i < k) : bit (n % 2 ^ k) i = bit n i := by
  rw [bit_eq_testBit, bit_eq_testBit, Nat.testBit_mod_two_pow, decide_eq_true h, Bool.true_and]

theorem fpBits_eq_mod : fpBits f a = a.toNat % 2 ^ (f.top + 1) := bits_zero _ _

/-- A value is read from the bits of its format alone. -/
theorem of_fpBits : Fp.of f (fpBits f a) = fpIn f a := by
  have hexp : f.fb + f.eb ≤ f.top + 1 := by rw [Fmt.top]; omega
  have hfrac : 0 + f.fb ≤ f.top + 1 := by rw [Fmt.top]; omega
  have hmag : 0 + f.top ≤ f.top + 1 := by omega
  simp only [fpIn, Fp.of, fpBits_eq_mod, bit_mod (Nat.lt_succ_self f.top), bits_mod hexp, bits_mod hfrac, bits_mod hmag]

theorem ofNat_fpBits : BitVec.ofNat 64 (fpBits f a) = fpLow f a := by rw [fpBits_eq_mod]; rfl

/-- Those bits are sign and magnitude. -/
theorem fpBits_eq_signed : fpBits f a = f.signed (fpSign f a) (fpMag f a) := by
  have hbit : a.toNat / 2 ^ f.top % 2 = if fpSign f a then 1 else 0 := by
    rw [← bit_top, bit]
    rcases Nat.mod_two_eq_zero_or_one (a.toNat / 2 ^ f.top) with h | h <;> rw [h] <;> rfl
  rw [fpBits_eq_mod, pow_succ, Nat.mod_mul, hbit, Fmt.signed, add_comm]
  congr 1
  split <;> simp

theorem bits_eq_fpMag : bits a.toNat 0 f.top = fpMag f a := bits_zero _ _

theorem fpMag_lt : fpMag f a < 2 ^ f.top := Nat.mod_lt _ (Nat.two_pow_pos _)

theorem xor_two_pow {m k : Nat} (h : m < 2 ^ k) : m ^^^ 2 ^ k = 2 ^ k + m := by
  refine Nat.eq_of_testBit_eq fun j => ?_
  rw [Nat.testBit_xor]
  rcases lt_trichotomy j k with hj | rfl | hj
  · rw [Nat.testBit_two_pow_add_gt hj, Nat.testBit_two_pow_of_ne hj.ne', Bool.xor_false]
  · rw [Nat.testBit_two_pow_add_eq, Nat.testBit_two_pow_self, Bool.xor_true]
  · have hpow : 2 ^ k + m < 2 ^ j := by
      have : 2 ^ (k + 1) ≤ 2 ^ j := Nat.pow_le_pow_right (by decide) hj
      rw [pow_succ] at this
      omega
    rw [Nat.testBit_lt_two_pow hpow, Nat.testBit_two_pow_of_ne hj.ne, Nat.testBit_lt_two_pow (by omega : m < 2 ^ j)]
    rfl

/-- Inverting the sign bit. -/
theorem xor_sign : Nat.xor (fpBits f a) (2 ^ f.top) = f.signed (!fpSign f a) (fpMag f a) := by
  have hxor := xor_two_pow (fpMag_lt (f := f) a)
  rw [fpBits_eq_signed]
  cases fpSign f a
  · simpa [Fmt.signed] using hxor
  · simp only [Fmt.signed, if_true, Bool.not_true, Bool.false_eq_true, if_false, Nat.zero_add, ← hxor]
    exact Nat.xor_xor_cancel_right _ _

end

/-! ### The order of the values (R206) -/

section
variable {f : Fmt} (hf : Scalar f) {a b : Word}

/-- The order of the exact values is that of the keys. -/
theorem fpValue_lt_iff : fpValue f a < fpValue f b ↔ fpKey f a < fpKey f b := by
  have hmono := magnitude_strictMono f
  have ha := magnitude_nonneg f (fpMag f a)
  have hb := magnitude_nonneg f (fpMag f b)
  unfold fpValue fpKey
  cases fpSign f a <;> cases fpSign f b <;> simp only [Bool.false_eq_true, if_false, if_true]
  · rw [hmono.lt_iff_lt]; omega
  · exact iff_of_false (by linarith) (by omega)
  · refine ⟨fun h => ?_, fun h => ?_⟩
    · by_contra hn
      obtain ⟨hx, hy⟩ : fpMag f a = 0 ∧ fpMag f b = 0 := by omega
      rw [hx, hy, magnitude_zero] at h
      exact absurd h (by norm_num)
    · rcases Nat.eq_zero_or_pos (fpMag f a) with hx | hx
      · have := hmono (by omega : 0 < fpMag f b)
        rw [magnitude_zero] at this
        linarith
      · have := hmono hx
        rw [magnitude_zero] at this
        linarith
  · rw [neg_lt_neg_iff, hmono.lt_iff_lt]; omega

theorem fpValue_eq_iff : fpValue f a = fpValue f b ↔ fpKey f a = fpKey f b := by
  have h₁ := fpValue_lt_iff (f := f) (a := a) (b := b)
  have h₂ := fpValue_lt_iff (f := f) (a := b) (b := a)
  rw [eq_iff_le_not_lt, ← not_lt, h₁, h₂]
  omega

/-- The key of an infinity is beyond every finite one. -/
theorem fpKey_of_inf (h : fpMag f a = fpTop f) : fpKey f a = if fpSign f a then -(fpTop f : Int) else fpTop f := by
  unfold fpKey
  rw [h]

theorem fpKey_bounds (h : fpMag f a < fpTop f) : -(fpTop f : Int) < fpKey f a ∧ fpKey f a < fpTop f := by
  unfold fpKey
  split <;> omega

/-- `c` says how one key stands to another, as the comparison of their numbers. -/
def Orders (c j k : Int) : Prop := (c < 0 ↔ j < k) ∧ (c = 0 ↔ j = k)

theorem orders_neg {j k : Int} (h : j < k) : Orders (-1) j k := ⟨by omega, by omega⟩
theorem orders_same (k : Int) : Orders 0 k k := ⟨by omega, by omega⟩
theorem orders_pos {j k : Int} (h : k < j) : Orders 1 j k := ⟨by omega, by omega⟩

/-- The sign of an exact difference orders the values. -/
theorem fpCmp_fin {m n : Int} {e d : Int} (ha : fpValue f a = m * 2 ^ e) (hb : fpValue f b = n * 2 ^ d) :
    Orders (exactAdd m e (-n) d).1.sign (fpKey f a) (fpKey f b) := by
  have hpos : (0 : ℚ) < 2 ^ (exactAdd m e (-n) d).2 := by positivity
  have hdiff : ((exactAdd m e (-n) d).1 : ℚ) * 2 ^ (exactAdd m e (-n) d).2 = fpValue f a - fpValue f b := by
    rw [exactAdd_value, ha, hb]; push_cast; ring
  generalize (exactAdd m e (-n) d).1 = D at *
  rcases lt_trichotomy D 0 with h | rfl | h
  · rw [Int.sign_eq_neg_one_of_neg h]
    refine orders_neg (fpValue_lt_iff.mp ?_)
    have := mul_neg_of_neg_of_pos (Int.cast_lt_zero (R := ℚ).mpr h) hpos
    linarith
  · have heq : fpKey f a = fpKey f b := fpValue_eq_iff.mp (by simp at hdiff; linarith)
    rw [heq]
    exact orders_same _
  · rw [Int.sign_eq_one_of_pos h]
    refine orders_pos (fpValue_lt_iff.mp ?_)
    have := mul_pos (Int.cast_pos (R := ℚ).mpr h) hpos
    linarith

include hf

/-- `fpCmp` of two numbers compares their keys. -/
theorem fpCmp_orders (ha : fpIsNan f a = false) (hb : fpIsNan f b = false) : Orders (fpCmp (fpIn f a) (fpIn f b)) (fpKey f a) (fpKey f b) := by
  have hmag : ∀ {w : Word}, fpIsNan f w = false → fpMag f w < fpTop f ∨ fpMag f w = fpTop f := fun h =>
    lt_or_eq_of_le (not_lt.mp (of_decide_eq_false h))
  have htop := hf.top_pos
  rcases hmag ha with hfa | hia
  · obtain ⟨m, e, hma, -, -, -⟩ := fpIn_finite hf a (decide_eq_true hfa)
    have hka := fpKey_bounds hfa
    rcases hmag hb with hfb | hib
    · obtain ⟨na, m, e, hma, hva, -⟩ := fpValue_isFin hf (decide_eq_true hfa)
      obtain ⟨nb, n, d, hmb, hvb, -⟩ := fpValue_isFin hf (decide_eq_true hfb)
      rw [hma, hmb]
      exact fpCmp_fin hva hvb
    · rw [hma, fpIn_inf hf b (beq_iff_eq.mpr hib), fpKey_of_inf hib]
      cases fpSign f b
      · exact orders_neg hka.2
      · exact orders_pos hka.1
  · rw [fpIn_inf hf a (beq_iff_eq.mpr hia), fpKey_of_inf hia]
    rcases hmag hb with hfb | hib
    · obtain ⟨n, d, hmb, -, -, -⟩ := fpIn_finite hf b (decide_eq_true hfb)
      have hkb := fpKey_bounds hfb
      rw [hmb]
      cases fpSign f a
      · exact orders_pos hkb.2
      · exact orders_neg hkb.1
    · rw [fpIn_inf hf b (beq_iff_eq.mpr hib), fpKey_of_inf hib]
      cases fpSign f a <;> cases fpSign f b
      · exact orders_same _
      · exact orders_pos (by simpa using htop)
      · exact orders_neg (by simpa using htop)
      · exact orders_same _

/-! ### The results of R205 and R206 -/

theorem snanFlag_words : snanFlag [fpIn f a, fpIn f b] = snanNV f [a, b] := by
  rw [snanFlag₂ (fpIn_reads hf a) (fpIn_reads hf b), snanNV]
  simp only [List.any_cons, List.any_nil, Bool.or_false]

omit hf in
/-- Negative numbers of one key are one word of the format. -/
theorem fpBits_eq_of_negative (hk : fpKey f a = fpKey f b) (ha : fpSign f a = true) (hb : fpSign f b = true) : fpBits f a = fpBits f b := by
  have hmag : fpMag f a = fpMag f b := by
    unfold fpKey at hk
    rw [if_pos ha, if_pos hb] at hk
    omega
  rw [fpBits_eq_signed, fpBits_eq_signed, ha, hb, hmag]

theorem fpMinMax_gives (max : Bool) : Gives (fpMinMax f max (fpBits f a) (fpBits f b)) (fpPick f max a b) (snanNV f [a, b]) := by
  have hra := fpIn_reads hf a
  have hrb := fpIn_reads hf b
  unfold fpMinMax fpPick
  simp only [of_fpBits, hra.isNan_eq, hrb.isNan_eq, snanFlag_words hf]
  cases hna : fpIsNan f a <;> cases hnb : fpIsNan f b <;>
    simp only [Bool.and_self, Bool.and_true, Bool.and_false, Bool.false_eq_true, if_true, if_false]
  case true.true => exact gives_nan hf _
  case true.false => exact ⟨ofNat_fpBits b, rfl⟩
  case false.true => exact ⟨ofNat_fpBits a, rfl⟩
  case false.false =>
    obtain ⟨hlt, heq⟩ := fpCmp_orders hf hna hnb
    have hless : (decide (fpCmp (fpIn f a) (fpIn f b) < 0) || fpCmp (fpIn f a) (fpIn f b) == 0 && fpSign f a && !fpSign f b)
        = (decide (fpKey f a < fpKey f b) || decide (fpKey f a = fpKey f b) && fpSign f a && !fpSign f b) := by
      rw [decide_eq_decide.mpr hlt, Bool.beq_eq_decide_eq, decide_eq_decide.mpr heq]
    rw [hra.neg_eq hna, hrb.neg_eq hnb, hless]
    by_cases hboth : fpKey f a = fpKey f b ∧ fpSign f a = true ∧ fpSign f b = true
    · obtain ⟨hk, hsa, hsb⟩ := hboth
      have hbits := fpBits_eq_of_negative hk hsa hsb
      rw [← ofNat_fpBits, ← ofNat_fpBits, hbits, ite_self, ite_self]
      exact ⟨rfl, rfl⟩
    · have hsign : (decide (fpKey f a = fpKey f b) && fpSign f a && !fpSign f b) = (decide (fpKey f a = fpKey f b) && fpSign f a) := by
        by_cases hk : fpKey f a = fpKey f b <;> cases hsa : fpSign f a <;> cases hsb : fpSign f b <;> simp_all
      rw [hsign]
      refine ⟨?_, rfl⟩
      simp only [beq_iff_eq]
      split
      · exact ofNat_fpBits b
      · exact ofNat_fpBits a

theorem fpClass_gives : Gives (fpClass f (fpBits f a), 0) (BitVec.ofNat 64 (2 ^ fpClassBit f a)) 0 := by
  refine ⟨congrArg (BitVec.ofNat 64) ?_, rfl⟩
  unfold fpClass fpClassBit
  rw [of_fpBits]
  have htop := hf.top_pos
  rcases lt_trichotomy (fpMag f a) (fpTop f) with h | h | h
  · have hnan : fpIsNan f a = false := decide_eq_false h.not_gt
    have hinf : fpIsInf f a = false := beq_eq_false_iff_ne.mpr h.ne
    obtain ⟨m, e, ha, hval, -, hsub⟩ := fpIn_finite hf a (decide_eq_true h)
    have hzero : m = 0 ↔ fpMag f a = 0 := by
      have hpos : (2 : ℚ) ^ e ≠ 0 := by positivity
      rw [← magnitude_eq_zero f (k := fpMag f a), ← hval, mul_eq_zero]
      simp [hpos]
    rw [ha, hnan, hinf]
    simp only [Bool.false_eq_true, if_false, beq_iff_eq, hzero, hsub]
    split_ifs <;> rfl
  · have hnan : fpIsNan f a = false := decide_eq_false h.not_gt
    have hinf : fpIsInf f a = true := beq_iff_eq.mpr h
    rw [fpIn_inf hf a hinf, hnan, hinf]
    cases fpSign f a <;> rfl
  · have hnan : fpIsNan f a = true := decide_eq_true h
    rw [fpIn_nan hf a hnan, hnan]
    cases fpIsSnan f a <;> rfl

/-! The compares, with what makes them unordered. -/

theorem unordered_eq : ((fpIn f a).isNan || (fpIn f b).isNan) = (fpIsNan f a || fpIsNan f b) := by
  rw [(fpIn_reads hf a).isNan_eq, (fpIn_reads hf b).isNan_eq]

/-- Where neither is a NaN, a test of the comparison is one of the keys. -/
theorem ordered_eq {p : Bool} {q : Prop} [Decidable q] (h : Orders (fpCmp (fpIn f a) (fpIn f b)) (fpKey f a) (fpKey f b) → (p = true ↔ q)) :
    (!(fpIsNan f a || fpIsNan f b) && p) = (!(fpIsNan f a || fpIsNan f b) && decide q) := by
  cases hn : fpIsNan f a || fpIsNan f b with
  | true => rfl
  | false =>
    obtain ⟨ha, hb⟩ := Bool.or_eq_false_iff.mp hn
    have hpq := h (fpCmp_orders hf ha hb)
    rw [Bool.not_false, Bool.true_and, Bool.true_and, Bool.eq_iff_iff, decide_eq_true_iff, hpq]

theorem fpCompare_eq : fpCompare 0 (fpIn f a) (fpIn f b)
    = (!(fpIsNan f a || fpIsNan f b) && decide (fpKey f a = fpKey f b), snanNV f [a, b]) := by
  rw [← ordered_eq hf (p := fpCmp (fpIn f a) (fpIn f b) == 0) (fun h => beq_iff_eq.trans h.2), ← unordered_eq hf, ← snanFlag_words hf]
  rfl

theorem fpCompare_lt : fpCompare 1 (fpIn f a) (fpIn f b)
    = (!(fpIsNan f a || fpIsNan f b) && decide (fpKey f a < fpKey f b), if fpIsNan f a || fpIsNan f b then 16 else 0) := by
  rw [← ordered_eq hf (p := decide (fpCmp (fpIn f a) (fpIn f b) < 0)) (fun h => decide_eq_true_iff.trans h.1), ← unordered_eq hf]
  rfl

theorem fpCompare_le : fpCompare 2 (fpIn f a) (fpIn f b)
    = (!(fpIsNan f a || fpIsNan f b) && decide (fpKey f a ≤ fpKey f b), if fpIsNan f a || fpIsNan f b then 16 else 0) := by
  rw [← ordered_eq hf (p := decide (fpCmp (fpIn f a) (fpIn f b) ≤ 0)) (fun h => decide_eq_true_iff.trans ?_), ← unordered_eq hf]
  · rfl
  · rw [Int.le_iff_lt_or_eq, h.1, h.2, Int.le_iff_lt_or_eq]

theorem fpCompare_un : fpCompare 3 (fpIn f a) (fpIn f b) = (fpIsNan f a || fpIsNan f b, snanNV f [a, b]) := by
  rw [← unordered_eq hf, ← snanFlag_words hf]
  rfl

omit hf in
theorem fpTest_gives {t : Bool × FpFlags} {p : Bool} {w : BitVec 5} (h : t = (p, w)) : Gives (fpTest t) (if p then 1 else 0) w := by
  subst h
  cases p <;> exact ⟨rfl, rfl⟩

end

theorem scalar_width (wid : BitVec 1) : Scalar (widFmt wid) := by
  unfold widFmt
  split
  · exact scalar_fp64
  · exact scalar_fp32

theorem fpWidth_eq (wid : BitVec 1) : fpWidth wid = widFmt wid := by simp [fpWidth, widFmt]

/-- The first part of O13: each instruction of R205 and R206 gives its result. -/
theorem floatSelectAndCompare : FloatSelectAndCompare := by
  intro s i b l r p v fl lat hsel h
  cases i with
  | fmin _ wid _ _ =>
    cases hsel
    rw [fpWidth_eq]
    exact exec_float₂ (fun a b => fpMinMax (widFmt wid) false (fpBits (widFmt wid) a) (fpBits (widFmt wid) b)) h rfl rfl rfl
      (fpMinMax_gives (scalar_width wid) false)
  | fmax _ wid _ _ =>
    cases hsel
    rw [fpWidth_eq]
    exact exec_float₂ (fun a b => fpMinMax (widFmt wid) true (fpBits (widFmt wid) a) (fpBits (widFmt wid) b)) h rfl rfl rfl
      (fpMinMax_gives (scalar_width wid) true)
  | fneg _ wid _ _ =>
    cases hsel
    rw [fpWidth_eq]
    exact exec_float₁ (fun a => (Nat.xor (fpBits (widFmt wid) a) (2 ^ (widFmt wid).top), 0)) h rfl rfl
      ⟨congrArg (BitVec.ofNat 64) (xor_sign l), rfl⟩
  | fabs _ wid _ _ =>
    cases hsel
    rw [fpWidth_eq]
    refine exec_float₁ (fun a => (bits a.toNat 0 (widFmt wid).top, 0)) h rfl rfl ⟨?_, rfl⟩
    rw [bits_eq_fpMag, fpWord, if_neg Bool.false_ne_true, Nat.zero_add]
  | fcpys _ wid _ _ =>
    cases hsel
    rw [fpWidth_eq]
    refine exec_float₂ (fun a b => ((widFmt wid).signed (bit b.toNat (widFmt wid).top) (bits a.toNat 0 (widFmt wid).top), 0))
      h rfl rfl rfl ⟨?_, rfl⟩
    rw [bits_eq_fpMag, bit_top]
    rfl
  | fclass _ wid _ _ =>
    cases hsel
    rw [fpWidth_eq]
    exact exec_float₁ (fun a => (fpClass (widFmt wid) (fpBits (widFmt wid) a), 0)) h rfl rfl (fpClass_gives (scalar_width wid))
  | fteq _ wid _ _ =>
    cases hsel
    rw [fpWidth_eq]
    exact exec_float₂ (fun a b => fpTest (fpCompare 0 (fpIn (widFmt wid) a) (fpIn (widFmt wid) b))) h rfl rfl rfl
      (fpTest_gives (fpCompare_eq (scalar_width wid)))
  | ftlt _ wid _ _ =>
    cases hsel
    rw [fpWidth_eq]
    exact exec_float₂ (fun a b => fpTest (fpCompare 1 (fpIn (widFmt wid) a) (fpIn (widFmt wid) b))) h rfl rfl rfl
      (fpTest_gives (fpCompare_lt (scalar_width wid)))
  | ftle _ wid _ _ =>
    cases hsel
    rw [fpWidth_eq]
    exact exec_float₂ (fun a b => fpTest (fpCompare 2 (fpIn (widFmt wid) a) (fpIn (widFmt wid) b))) h rfl rfl rfl
      (fpTest_gives (fpCompare_le (scalar_width wid)))
  | ftun _ wid _ _ =>
    cases hsel
    rw [fpWidth_eq]
    exact exec_float₂ (fun a b => fpTest (fpCompare 3 (fpIn (widFmt wid) a) (fpIn (widFmt wid) b))) h rfl rfl rfl
      (fpTest_gives (fpCompare_un (scalar_width wid)))
  | _ => exact of_none_eq_some hsel

end Sys2Proof.Machine
end

section
/-! SUPPORT. The conversions to integers (03 R57, R60; 09 R207). -/

namespace Sys2Proof.Machine

open Sys2Proof Sys2Proof.Claims Sys2Proof.Laws

/-! ### Rounding to an integer -/

theorem ratFloor_eq {x : ℚ} {z : Int} (hlo : (z : ℚ) ≤ x) (hhi : x < z + 1) : x.floor = z := Int.floor_eq_iff.mpr ⟨hlo, hhi⟩

theorem ratCeil_eq {x : ℚ} {z : Int} (hlo : (z : ℚ) - 1 < x) (hhi : x ≤ z) : x.ceil = z := by
  rw [Rat.ceil_eq_neg_floor_neg, ratFloor_eq (z := -z) (by push_cast; linarith) (by push_cast; linarith), neg_neg]

theorem mode_cases (rm : BitVec 2) : rm = 0#2 ∨ rm = 1#2 ∨ rm = 2#2 ∨ rm = 3#2 := by
  revert rm
  decide

/-- Where the number is compared with the middle, R57's nearest integer. -/
theorem roundInteger_nearest {x : ℚ} {z : Int} (hfloor : x.floor = z) : roundInteger 0#2 x
    = if x - z < 1 / 2 then z else if 1 / 2 < x - z then z + 1 else if z % 2 = 0 then z else z + 1 := by
  rw [roundInteger, if_pos rfl, hfloor]

section
variable {y : ℚ} {n k : Nat} (hlo : (n : ℚ) ≤ y) (hhi : y < n + 1) (rm : BitVec 2)
include hlo hhi

/-- R57 for a number that is not negative. -/
theorem roundInteger_of_nonneg (hup : RoundsUp rm.toNat false (n % 2 = 1) (n : ℚ) (n + 1) y → k = n + 1)
    (hdown : ¬ RoundsUp rm.toNat false (n % 2 = 1) (n : ℚ) (n + 1) y → k = n) : roundInteger rm y = k := by
  have hfloor : y.floor = n := ratFloor_eq (by exact_mod_cast hlo) (by exact_mod_cast hhi)
  have hpos : ¬ y < 0 := not_lt.mpr (le_trans (Nat.cast_nonneg n) hlo)
  rcases mode_cases rm with rfl | rfl | rfl | rfl
  · simp only [BitVec.toNat_ofNat, Nat.zero_mod, roundsUp_nearest] at hup hdown
    rw [roundInteger_nearest hfloor, Int.cast_natCast]
    rcases lt_trichotomy (((n : ℚ) + (n + 1)) / 2) y with h | h | h
    · rw [hup (.inl h), if_neg (by linarith), if_pos (by linarith)]
      push_cast; rfl
    · rw [if_neg (by linarith), if_neg (by linarith)]
      by_cases hodd : n % 2 = 1
      · rw [hup (.inr ⟨h, hodd⟩), if_neg (by omega)]
        push_cast; rfl
      · rw [hdown (by rintro (h' | ⟨_, h'⟩); exacts [h'.ne h, hodd h']), if_pos (by omega)]
    · rw [hdown (by rintro (h' | ⟨h', _⟩) <;> linarith), if_pos (by linarith)]
  · have := hdown (not_roundsUp (by decide) (by simp [Away]))
    simp [roundInteger, hpos, hfloor, this]
  · have ha : Away (2#2).toNat false := .inl ⟨rfl, rfl⟩
    rw [roundsUp_away ha] at hup hdown
    have hceil : roundInteger 2#2 y = y.ceil := by simp [roundInteger]
    rw [hceil]
    rcases hlo.lt_or_eq with h | h
    · rw [hup h]
      exact ratCeil_eq (by push_cast; linarith) (by push_cast; linarith)
    · rw [hdown h.not_lt]
      exact ratCeil_eq (by push_cast; linarith) (by push_cast; linarith)
  · have := hdown (not_roundsUp (by decide) (by simp [Away]))
    simp [roundInteger, hfloor, this]

/-- And for one that is not positive. -/
theorem roundInteger_of_nonpos (hup : RoundsUp rm.toNat true (n % 2 = 1) (n : ℚ) (n + 1) y → k = n + 1)
    (hdown : ¬ RoundsUp rm.toNat true (n % 2 = 1) (n : ℚ) (n + 1) y → k = n) : roundInteger rm (-y) = -k := by
  have hceil : (-y).ceil = -n := ratCeil_eq (by push_cast; linarith) (by push_cast; linarith)
  have hwhole : y = n → (-y).floor = -n := fun h => ratFloor_eq (by push_cast; linarith) (by push_cast; linarith)
  have hpart : n < y → (-y).floor = -(n + 1) := fun h => ratFloor_eq (by push_cast; linarith) (by push_cast; linarith)
  rcases mode_cases rm with rfl | rfl | rfl | rfl
  · simp only [BitVec.toNat_ofNat, Nat.zero_mod, roundsUp_nearest] at hup hdown
    rcases hlo.lt_or_eq with hlt | heq
    · rw [roundInteger_nearest (hpart hlt)]
      push_cast
      rcases lt_trichotomy (((n : ℚ) + (n + 1)) / 2) y with h | h | h
      · rw [hup (.inl h), if_pos (by linarith)]
        push_cast; rfl
      · rw [if_neg (by linarith), if_neg (by linarith)]
        by_cases hodd : n % 2 = 1
        · rw [hup (.inr ⟨h, hodd⟩), if_pos (by omega)]
          push_cast; rfl
        · rw [hdown (by rintro (h' | ⟨_, h'⟩); exacts [h'.ne h, hodd h']), if_neg (by omega)]
          omega
      · rw [hdown (by rintro (h' | ⟨h', _⟩) <;> linarith), if_neg (by linarith), if_pos (by linarith)]
        omega
    · rw [roundInteger_nearest (hwhole heq.symm), hdown (by rintro (h' | ⟨h', _⟩) <;> linarith), if_pos (by push_cast; linarith)]
  · have hk := hdown (not_roundsUp (by decide) (by simp [Away]))
    have htrunc : roundInteger 1#2 (-y) = if -y < 0 then (-y).ceil else (-y).floor := by simp [roundInteger]
    rw [htrunc, hceil, hk]
    split
    · rfl
    next h =>
      have hn : (0 : ℚ) ≤ n := Nat.cast_nonneg n
      exact hwhole (by linarith)
  · have hk := hdown (not_roundsUp (by decide) (by simp [Away]))
    simp [roundInteger, hceil, hk]
  · have ha : Away (3#2).toNat true := .inr ⟨rfl, rfl⟩
    rw [roundsUp_away ha] at hup hdown
    have hfloor : roundInteger 3#2 (-y) = (-y).floor := by simp [roundInteger]
    rw [hfloor]
    rcases hlo.lt_or_eq with h | h
    · rw [hup h, hpart h]
      push_cast; rfl
    · rw [hdown h.not_lt, hwhole h.symm]

end

/-- `toInteger` rounds as R57 says, and says whether that is inexact. -/
theorem toInteger_eq (rm : BitVec 2) {neg : Bool} {m : Nat} {e : Int} {x : ℚ} (hx : x = sgn neg m * 2 ^ e) :
    (toInteger rm.toNat neg m e).1 = roundInteger rm x ∧ ((toInteger rm.toNat neg m e).2 = true ↔ (roundInteger rm x : ℚ) ≠ x) := by
  obtain ⟨n, hlo, hhi, hinexact, hup, hdown⟩ := cutAt_spec (stands_exact (K := ℚ) m e) (mode_le rm) neg (q := 0) (by simp)
  simp only [zpow_zero, mul_one] at hlo hhi hinexact hup hdown
  simp only [toInteger]
  generalize (cutAt rm.toNat neg m e 0 false).1 = k at *
  have hk : (k : ℚ) = m * 2 ^ e ↔ (n : ℚ) = m * 2 ^ e := by
    by_cases hr : RoundsUp rm.toNat neg (n % 2 = 1) (n : ℚ) (n + 1) (m * 2 ^ e)
    · have := lt_of_roundsUp (by linarith : (n : ℚ) < n + 1) hr
      rw [hup hr]
      push_cast
      exact iff_of_false (by linarith) this.ne
    · rw [hdown hr]
  rw [hinexact, ne_comm, ne_eq, ← hk]
  cases neg with
  | false =>
    have hval : x = m * 2 ^ e := by simpa [sgn] using hx
    have hround := roundInteger_of_nonneg hlo hhi rm hup hdown
    rw [hval, hround]
    exact ⟨rfl, by simp⟩
  | true =>
    have hval : x = -(m * 2 ^ e) := by simpa [sgn] using hx
    have hround := roundInteger_of_nonpos hlo hhi rm hup hdown
    rw [hval, hround]
    exact ⟨rfl, by simp⟩

/-- An integer's word of 64 bits. -/
theorem ofNat_emod (v : Int) : BitVec.ofNat 64 (v % (2 ^ 64 : Int)).toNat = BitVec.ofInt 64 v := by
  apply BitVec.eq_of_toNat_eq
  rw [BitVec.toNat_ofNat, BitVec.toNat_ofInt]
  exact Nat.mod_eq_of_lt (by omega)

/-- R207, R60: the conversions to integers round and saturate. -/
theorem fpToInt_gives {f : Fmt} (hf : Scalar f) {lo hi : Int} {isSigned : Bool} (hbounds : lo = (if isSigned then -(2 ^ 63) else 0)
    ∧ hi = (if isSigned then 2 ^ 63 - 1 else 2 ^ 64 - 1)) (rm : BitVec 2) (a : Word) :
    Gives (fpToInt 64 isSigned rm.toNat (fpIn f a)) (floatInteger f lo hi rm a).1 (floatInteger f lo hi rm a).2 := by
  obtain ⟨rfl, rfl⟩ := hbounds
  unfold floatInteger
  have henc := ofNat_emod
  rcases lt_trichotomy (fpMag f a) (fpTop f) with h | h | h
  · have hnan : fpIsNan f a = false := decide_eq_false h.not_gt
    have hinf : fpIsInf f a = false := beq_eq_false_iff_ne.mpr h.ne
    obtain ⟨n, m, e, ha, hx, -⟩ := fpValue_isFin hf (decide_eq_true h)
    obtain ⟨hround, hinexact⟩ := toInteger_eq rm hx
    rw [ha, hnan, hinf]
    simp only [fpToInt, hround, Bool.false_eq_true, if_false]
    generalize roundInteger rm (fpValue f a) = k at *
    by_cases hlow : k < if isSigned then -(2 ^ 63) else 0
    · rw [if_pos hlow, if_pos hlow]
      exact ⟨henc _, rfl⟩
    rw [if_neg hlow, if_neg hlow]
    by_cases hhigh : (if isSigned then 2 ^ 63 - 1 else 2 ^ 64 - 1) < k
    · rw [if_pos hhigh, if_pos hhigh]
      exact ⟨henc _, rfl⟩
    rw [if_neg hhigh, if_neg hhigh]
    refine ⟨henc _, ?_⟩
    by_cases hexact : (k : ℚ) = fpValue f a
    · rw [if_neg (fun h => hinexact.mp h hexact), if_pos hexact]
    · rw [if_pos (hinexact.mpr hexact), if_neg hexact]
      rfl
  · have hnan : fpIsNan f a = false := decide_eq_false h.not_gt
    have hinf : fpIsInf f a = true := beq_iff_eq.mpr h
    rw [fpIn_inf hf a hinf, hnan, hinf]
    exact ⟨henc _, rfl⟩
  · have hnan : fpIsNan f a = true := decide_eq_true h
    rw [fpIn_nan hf a hnan, hnan]
    exact ⟨rfl, rfl⟩

/-- The second part of O13. -/
theorem floatToIntegerCompletes : FloatToIntegerCompletes := by
  intro s i b l r p v fl hint h
  cases i with
  | fcvtID _ m _ _ =>
    have hv := Prod.mk.inj (Option.some.inj hint)
    exact exec_float₁ (fun a => fpToInt 64 true m.toNat (fpIn fp64 a)) h rfl rfl (hv.1 ▸ hv.2 ▸ fpToInt_gives scalar_fp64 ⟨rfl, rfl⟩ m l)
  | fcvtND _ m _ _ =>
    have hv := Prod.mk.inj (Option.some.inj hint)
    exact exec_float₁ (fun a => fpToInt 64 false m.toNat (fpIn fp64 a)) h rfl rfl (hv.1 ▸ hv.2 ▸ fpToInt_gives scalar_fp64 ⟨rfl, rfl⟩ m l)
  | fcvtIS _ m _ _ =>
    have hv := Prod.mk.inj (Option.some.inj hint)
    exact exec_float₁ (fun a => fpToInt 64 true m.toNat (fpIn fp32 a)) h rfl rfl (hv.1 ▸ hv.2 ▸ fpToInt_gives scalar_fp32 ⟨rfl, rfl⟩ m l)
  | _ => exact of_none_eq_some hint

/-- Settles O13. -/
theorem floatSelectCompareAndConvert : Obligations.FloatSelectCompareAndConvert := ⟨floatSelectAndCompare, floatToIntegerCompletes⟩

end Sys2Proof.Machine
end

section
/-! SUPPORT. What an instruction in focus leaves of its block when it delivers, traps, waits or leaves an effect for commit (09 R176, R177, R180),
whatever the rest of the machine has become by then. -/

namespace Sys2Proof.Machine

open Sys2Proof Sys2Proof.Claims Sys2Proof.Laws

/-- `w` is still at the instruction in focus of `s` and at its clk, and holds `b` as the block in flight. -/
def Holds (s : State) (w : Work) (b : Block) : Prop := w.focus = s.focus ∧ w.now = s.now ∧ w.block = some b

namespace Holds

variable {s : State} {w u : Work} {b b' : Block}

theorem of_ready {i : Instr} {l r p : Word} (h : ready s i b l r p) : Holds s s.work b := ⟨rfl, rfl, h.1.1⟩

theorem block (h : Holds s w b) : w.block = some b := h.2.2

theorem of_translated (h : Holds s w b) (hu : Translated w u) : Holds s u b :=
  ⟨hu.focus.trans h.1, hu.now.trans h.2.1, hu.block.trans h.2.2⟩

theorem setBlock (h : Holds s w b) (b' : Block) : Holds s (w.setBlock b') b' := ⟨h.1, h.2.1, Work.block_setBlock w b'⟩

theorem onBlock (h : Holds s w b) (f : Block → Block) : w.onBlock f = w.setBlock (f b) := Work.onBlock_of h.block f

theorem deliver (h : Holds s w b) (i : Instr) (v : Word) : w.deliver (shape i) v memLat = w.setBlock (answered s i b v) := by
  rw [Work.deliver, h.onBlock, send_eq, h.1, h.2.1]
  rfl

theorem sendValue (h : Holds s w b) (i : Instr) (v : Word) :
    w.sendValue (shape i) v = w.setBlock { b with inflight := b.inflight ++ sends i s.focus.idx (.val v) (s.now + 1) } := by
  rw [Work.sendValue, h.onBlock, send_eq, h.1, h.2.1]
  rfl

theorem perform (h : Holds s w b) : w.perform = w.setBlock (phased s b .performed) := by
  rw [Work.perform, h.onBlock, h.1]
  rfl

theorem served (h : Holds s w b) : w.served = w.setBlock (phased s b .performed) := h.perform

theorem effect (h : Holds s w b) (e : Effect) :
    w.effect e = w.setBlock { phased s b .performed with effs := b.effs ++ [(s.focus.idx, e)] } := by
  rw [Work.effect, h.onBlock, h.1]
  rfl

theorem addEff (h : Holds s w b) (n : Nat) (k : MemKind) (pa size : Nat) (v : Word) :
    w.addEff n k pa size v = w.setBlock { b with mems := insertEff ⟨n, s.focus.idx, k, pa, size, v⟩ b.mems } := by
  rw [Work.addEff, h.onBlock, h.1]

theorem trap (h : Holds s w b) (cause : Nat) (einfo : Word) : w.trap cause einfo = w.setBlock { phased s b .trapped with
    traps := b.traps ++ [⟨s.focus.idx, cause, einfo⟩], waits := b.waits.filter (fun x => x.idx != s.focus.idx) } := by
  rw [Work.trap, h.onBlock, h.1]
  rfl

theorem waitHolding (h : Holds s w b) (due : Nat) (data : List Word) (hnone : ∀ x ∈ b.waits, x.idx ≠ s.focus.idx) :
    w.waitHolding 0 due none data
      = w.setBlock { phased s b .waiting with waits := b.waits ++ [⟨s.focus.idx, s.now, 0, due, none, data⟩] } := by
  have hfind : b.waits.find? (fun x => x.idx == s.focus.idx) = none := List.find?_eq_none.mpr (by simpa using hnone)
  have hfilter : b.waits.filter (fun x => x.idx != s.focus.idx) = b.waits := List.filter_eq_self.mpr (by simpa using hnone)
  rw [Work.waitHolding, h.onBlock, h.1, h.2.1, hfind, hfilter]
  rfl

/-- Where the instruction in focus does not wait there is no wait to end. -/
theorem stopWaiting (h : Holds s w b) (hnone : ∀ x ∈ b.waits, x.idx ≠ s.focus.idx) : w.stopWaiting = w.setBlock b := by
  have hfilter : b.waits.filter (fun x => x.idx != s.focus.idx) = b.waits := List.filter_eq_self.mpr (by simpa using hnone)
  rw [Work.stopWaiting, h.onBlock, h.1, hfilter]

end Holds

section
variable {s : State} {i : Instr} {b b' : Block} {l r p : Word}

theorem lift_through {f : Work → Work} {w : Work} (h : f s.work = w.setBlock b') : s.lift f = through s w b' := congrArg s.put h

/-- Firing an instruction outside the lsid order whose turn has come. -/
theorem fireAccess_ready {act : Word → Word → Word → Work → Work} (h : ready s i b l r p) (ht : accessTurn s) :
    fireAccess (shape i) act s = .next (s.lift (act (Operand.word (b.inst s.focus.idx).left) (Operand.word (b.inst s.focus.idx).right)
      (Operand.word (b.inst s.focus.idx).third))) := by
  unfold fireAccess
  rw [h.1.1]
  simp [accessTurn] at ht
  simp [ht, fire_ready h]

end

end Sys2Proof.Machine
end


section
/-! SUPPORT. Special registers, block addresses, random numbers and what acts at commit (09 R199; 11 R222, R234 to R236, R239, R241, R242). -/

namespace Sys2Proof.Machine

open Sys2Proof Sys2Proof.Claims Sys2Proof.Laws

/-- Firing an instruction whose result, a clk later, depends on its left operand and on the machine. -/
theorem fire_deliver {s : State} {i : Instr} {b : Block} {l r p : Word} (h : ready s i b l r p) (f : Word → Work → Word) :
    fire (shape i) (fun a _ _ w => w.deliver (shape i) (f a w) 1) s
      = .next (delivered s i b (f (Operand.word (b.inst s.focus.idx).left) s.work) 1) :=
  (fire_ready h).trans (congrArg _ (lift_through (w := s.work) ((Holds.of_ready h).deliver i _)))

/-! ### MFS (11 R235, R241) -/

/-- A register that the context holds reads as it stands. -/
theorem readSpecial_of_specialRegister {w : Work} {id : Nat} {v : Word} (h : specialRegister w.me id = some v) : w.readSpecial id = v := by
  unfold specialRegister at h
  split at h <;> cases h <;> rfl

/-- No wide instruction of the context is left to be applied (17 R327). -/
theorem wideLeft_eq_false {w : Work} (hq : ∀ o ∈ (w.tile w.focus.tile).wq, o.party ≠ w.party)
    (hr : ∀ r, (w.tile w.focus.tile).wide.run = some r → r.op.party ≠ w.party) : w.wideLeft = false := by
  have hqueue : (w.tile w.focus.tile).wq.any (fun o => o.party == w.party) = false := by simpa using hq
  have hrun : (w.tile w.focus.tile).wide.run.any (fun r => r.op.party == w.party) = false := by
    cases hw : (w.tile w.focus.tile).wide.run with
    | none => rfl
    | some r => simpa using hr r hw
  rw [Work.wideLeft, hqueue, hrun, Bool.or_false]

section
variable {s : State} {b : Block} {l r p : Word} {pr : BitVec 2} {t0 : BitVec 9}

/-- MFS delivers what its register reads as, S_FPFLAGS once no wide instruction of the context is left. -/
theorem exec_mfs {id : BitVec 12} {v : Word} (h : ready s (.mfs pr id t0) b l r p) (hleft : id = 6#12 → s.work.wideLeft = false)
    (hv : s.work.readSpecial id.toNat = v) : exec (.mfs pr id t0) s = .next (delivered s (.mfs pr id t0) b v 1) := by
  have hturn : ¬(id == 6 && s.work.wideLeft) = true := by
    rw [Bool.and_eq_true, beq_iff_eq]
    exact fun ⟨hid, hwide⟩ => Bool.false_ne_true ((hleft hid).symm.trans hwide)
  have hexec : exec (.mfs pr id t0) s = execMfs pr id t0 s := rfl
  rw [hexec, execMfs, if_neg hturn, ← hv]
  exact fire_deliver h (fun _ w => w.readSpecial id.toNat)

end

/-! ### RNEXT: Philox4x32-10 (11 R239) -/

/-- Four numbers as 32-bit words. -/
def fourWords (c : Nat × Nat × Nat × Nat) : List (BitVec 32) :=
  [BitVec.ofNat 32 c.1, BitVec.ofNat 32 c.2.1, BitVec.ofNat 32 c.2.2.1, BitVec.ofNat 32 c.2.2.2]

/-- The four numbers of a counter are 32-bit words. -/
def Counter (c : Nat × Nat × Nat × Nat) : Prop := c.1 < 2 ^ 32 ∧ c.2.1 < 2 ^ 32 ∧ c.2.2.1 < 2 ^ 32 ∧ c.2.2.2 < 2 ^ 32

/-- The key of round `r`. -/
def roundKey (key : Word) (r : Nat) : BitVec 32 × BitVec 32 :=
  (key.setWidth 32 + BitVec.ofNat 32 (r * 0x9E3779B9), (key >>> 32).setWidth 32 + BitVec.ofNat 32 (r * 0xBB67AE85))

theorem toNat_add_mul_succ (x : BitVec 32) (m r : Nat) :
    (x + BitVec.ofNat 32 ((r + 1) * m)).toNat = ((x + BitVec.ofNat 32 (r * m)).toNat + m) % 2 ^ 32 := by
  rw [Nat.succ_mul, BitVec.toNat_add, BitVec.toNat_add, BitVec.toNat_ofNat, BitVec.toNat_ofNat]
  omega

theorem roundKey_succ (key : Word) (r : Nat) : (roundKey key (r + 1)).1.toNat = ((roundKey key r).1.toNat + 0x9E3779B9) % 2 ^ 32
    ∧ (roundKey key (r + 1)).2.toNat = ((roundKey key r).2.toNat + 0xBB67AE85) % 2 ^ 32 :=
  ⟨toNat_add_mul_succ _ _ _, toNat_add_mul_succ _ _ _⟩

/-- The product of a multiplier and a counter word fits a word; its halves are those of the model's product. -/
theorem product_halves {m a : Nat} (hm : m < 2 ^ 32) (ha : a < 2 ^ 32) :
    ((BitVec.ofNat 64 m * (BitVec.ofNat 32 a).setWidth 64) >>> 32).setWidth 32 = BitVec.ofNat 32 (m * a / 2 ^ 32)
      ∧ (BitVec.ofNat 64 m * (BitVec.ofNat 32 a).setWidth 64).setWidth 32 = BitVec.ofNat 32 (m * a % 2 ^ 32) := by
  have hprod : m * a < 2 ^ 64 := (Nat.mul_lt_mul'' hm ha).trans_eq (pow_add 2 32 32).symm
  have hword : (BitVec.ofNat 64 m * (BitVec.ofNat 32 a).setWidth 64).toNat = m * a := by
    have hm' : m % 2 ^ 64 = m := Nat.mod_eq_of_lt (by omega)
    have ha' : a % 2 ^ 32 % 2 ^ 64 = a := by omega
    rw [BitVec.toNat_mul, BitVec.toNat_ofNat, BitVec.toNat_setWidth, BitVec.toNat_ofNat, hm', ha', Nat.mod_eq_of_lt hprod]
  constructor <;> apply BitVec.eq_of_toNat_eq
  · rw [BitVec.toNat_setWidth, BitVec.toNat_ushiftRight, hword, BitVec.toNat_ofNat, Nat.shiftRight_eq_div_pow]
  · rw [BitVec.toNat_setWidth, hword, BitVec.toNat_ofNat, Nat.mod_mod]

theorem ofNat_xor₃ (a b : Nat) (k : BitVec 32) :
    BitVec.ofNat 32 a ^^^ BitVec.ofNat 32 b ^^^ k = BitVec.ofNat 32 (Nat.xor (Nat.xor a b) k.toNat) := by
  apply BitVec.eq_of_toNat_eq
  rw [BitVec.toNat_xor, BitVec.toNat_xor, BitVec.toNat_ofNat, BitVec.toNat_ofNat, BitVec.toNat_ofNat, ← Nat.xor_mod_two_pow]
  conv_lhs => rw [← Nat.mod_eq_of_lt k.isLt, ← Nat.xor_mod_two_pow]
  rfl

section
variable (k0 k1 : BitVec 32) {c : Nat × Nat × Nat × Nat} (hc : Counter c)
include hc

theorem philoxStep_fourWords : philoxStep (k0, k1) (fourWords c) = fourWords (philoxRound k0.toNat k1.toNat c.1 c.2.1 c.2.2.1 c.2.2.2) := by
  obtain ⟨h0, _, h2, _⟩ := hc
  obtain ⟨hp, hp'⟩ := product_halves (m := 0xD2511F53) (by decide) h0
  obtain ⟨hq, hq'⟩ := product_halves (m := 0xCD9E8D57) (by decide) h2
  have hstep : philoxStep (k0, k1) (fourWords c) =
      [((BitVec.ofNat 64 0xCD9E8D57 * (BitVec.ofNat 32 c.2.2.1).setWidth 64) >>> 32).setWidth 32 ^^^ BitVec.ofNat 32 c.2.1 ^^^ k0,
       (BitVec.ofNat 64 0xCD9E8D57 * (BitVec.ofNat 32 c.2.2.1).setWidth 64).setWidth 32,
       ((BitVec.ofNat 64 0xD2511F53 * (BitVec.ofNat 32 c.1).setWidth 64) >>> 32).setWidth 32 ^^^ BitVec.ofNat 32 c.2.2.2 ^^^ k1,
       (BitVec.ofNat 64 0xD2511F53 * (BitVec.ofNat 32 c.1).setWidth 64).setWidth 32] := rfl
  rw [hstep, hp, hp', hq, hq', ofNat_xor₃, ofNat_xor₃]
  rfl

theorem philoxRound_counter : Counter (philoxRound k0.toNat k1.toNat c.1 c.2.1 c.2.2.1 c.2.2.2) := by
  obtain ⟨h0, h1, h2, h3⟩ := hc
  have hhigh {m a : Nat} (hm : m < 2 ^ 32) (ha : a < 2 ^ 32) : m * a / 2 ^ 32 < 2 ^ 32 :=
    Nat.div_lt_of_lt_mul (Nat.mul_lt_mul'' hm ha)
  exact ⟨Nat.xor_lt_two_pow (Nat.xor_lt_two_pow (hhigh (by decide) h2) h1) k0.isLt, Nat.mod_lt _ (by decide),
    Nat.xor_lt_two_pow (Nat.xor_lt_two_pow (hhigh (by decide) h0) h3) k1.isLt, Nat.mod_lt _ (by decide)⟩

end

/-- The rounds on numbers are the rounds on words, from any round on. -/
theorem philoxRounds_eq (key : Word) (n : Nat) : ∀ (r : Nat) (c : Nat × Nat × Nat × Nat), Counter c →
    (List.range' r n).foldl (fun c r => philoxStep (roundKey key r) c) (fourWords c)
      = fourWords (philoxRounds n (roundKey key r).1.toNat (roundKey key r).2.toNat c)
    ∧ Counter (philoxRounds n (roundKey key r).1.toNat (roundKey key r).2.toNat c) := by
  induction n with
  | zero => exact fun r c hc => ⟨rfl, hc⟩
  | succ n ih =>
    intro r c hc
    have hkeys := roundKey_succ key r
    have hnext := ih (r + 1) _ (philoxRound_counter (roundKey key r).1 (roundKey key r).2 hc)
    rw [hkeys.1, hkeys.2] at hnext
    rw [List.range'_succ, List.foldl_cons, philoxStep_fourWords _ _ hc]
    exact hnext

/-- Two 32-bit numbers as one word. -/
theorem join_words {hi lo : Nat} (hhi : hi < 2 ^ 32) (hlo : lo < 2 ^ 32) :
    (BitVec.ofNat 32 hi).setWidth 64 <<< 32 ||| (BitVec.ofNat 32 lo).setWidth 64 = (BitVec.ofNat 64 (hi * 2 ^ 32 + lo) : Word) := by
  apply BitVec.eq_of_toNat_eq
  rw [BitVec.toNat_or, BitVec.toNat_shiftLeft, BitVec.toNat_setWidth, BitVec.toNat_setWidth, BitVec.toNat_ofNat, BitVec.toNat_ofNat,
    BitVec.toNat_ofNat, Nat.mod_eq_of_lt hhi, Nat.mod_eq_of_lt hlo, Nat.mod_eq_of_lt (by omega : hi < 2 ^ 64),
    Nat.mod_eq_of_lt (by omega : lo < 2 ^ 64), Nat.shiftLeft_eq, Nat.mod_eq_of_lt (by omega : hi * 2 ^ 32 < 2 ^ 64),
    Nat.mod_eq_of_lt (by omega : hi * 2 ^ 32 + lo < 2 ^ 64), ← Nat.shiftLeft_eq, Nat.shiftLeft_add_eq_or_of_lt hlo]

/-- The counter that RNEXT starts from. -/
def startCounter (stream a : Word) : Nat × Nat × Nat × Nat :=
  (low (a.toNat / 2) 32, a.toNat / 2 / 2 ^ 32, low stream.toNat 32, stream.toNat / 2 ^ 32)

theorem startCounter_counter (stream a : Word) : Counter (startCounter stream a) := by
  have ha := a.isLt
  have hs := stream.isLt
  simp only [Counter, startCounter, low]
  omega

theorem startCounter_words (stream a : Word) : fourWords (startCounter stream a)
    = [(a >>> 1).setWidth 32, ((a >>> 1) >>> 32).setWidth 32, stream.setWidth 32, (stream >>> 32).setWidth 32] := by
  have hword (v : Word) {n : Nat} (h : n % 2 ^ 32 = v.toNat % 2 ^ 32) : BitVec.ofNat 32 n = v.setWidth 32 :=
    BitVec.eq_of_toNat_eq (by rw [BitVec.toNat_setWidth, BitVec.toNat_ofNat, h])
  rw [fourWords, startCounter, hword (a >>> 1), hword ((a >>> 1) >>> 32), hword stream, hword (stream >>> 32)] <;>
    simp [low, Nat.shiftRight_eq_div_pow, Nat.div_div_eq_div_mul]

theorem roundKey_zero (key : Word) : (roundKey key 0).1.toNat = low key.toNat 32 ∧ (roundKey key 0).2.toNat = key.toNat / 2 ^ 32 := by
  have hk := key.isLt
  simp [roundKey, low, Nat.shiftRight_eq_div_pow]
  omega

/-- A word of two of four numbers, as the operand's bit 0 selects them. -/
def selectNumbers (even : Bool) (c : Nat × Nat × Nat × Nat) : Word :=
  if even then BitVec.ofNat 64 (c.2.1 * 2 ^ 32 + c.1) else BitVec.ofNat 64 (c.2.2.2 * 2 ^ 32 + c.2.2.1)

/-- A word of two of four words, as the operand's bit 0 selects them. -/
def selectWords (odd : Bool) (c : List (BitVec 32)) : Word :=
  if odd then (listGet 0 3 c).setWidth 64 <<< 32 ||| (listGet 0 2 c).setWidth 64
  else (listGet 0 1 c).setWidth 64 <<< 32 ||| (listGet 0 0 c).setWidth 64

theorem selectWords_fourWords {c : Nat × Nat × Nat × Nat} (h : Counter c) (even : Bool) :
    selectWords (!even) (fourWords c) = selectNumbers even c := by
  obtain ⟨h0, h1, h2, h3⟩ := h
  cases even
  · exact join_words h3 h2
  · exact join_words h1 h0

/-- The word that `n` rounds on words select is the one that the rounds on numbers select. -/
theorem selectWords_rounds (n : Nat) (key stream a : Word) :
    selectWords (a.getLsbD 0) ((List.range n).foldl (fun c r => philoxStep (roundKey key r) c)
        [(a >>> 1).setWidth 32, ((a >>> 1) >>> 32).setWidth 32, stream.setWidth 32, (stream >>> 32).setWidth 32])
      = selectNumbers (a.toNat % 2 == 0) (philoxRounds n (low key.toNat 32) (key.toNat / 2 ^ 32) (startCounter stream a)) := by
  obtain ⟨hwords, hcounter⟩ := philoxRounds_eq key n 0 _ (startCounter_counter stream a)
  rw [startCounter_words, (roundKey_zero key).1, (roundKey_zero key).2, ← List.range_eq_range'] at hwords
  rw [(roundKey_zero key).1, (roundKey_zero key).2] at hcounter
  have hodd : a.getLsbD 0 = !(a.toNat % 2 == 0) := by
    rw [← bit_zero, bit]
    rcases Nat.mod_two_eq_zero_or_one a.toNat with h | h <;> simp [h]
  rw [hwords, hodd, selectWords_fourWords hcounter]

theorem philoxValue_eq (key stream a : Word) : philoxValue key stream a
    = selectWords (a.getLsbD 0) ((List.range 10).foldl (fun c r => philoxStep (roundKey key r) c)
        [(a >>> 1).setWidth 32, ((a >>> 1) >>> 32).setWidth 32, stream.setWidth 32, (stream >>> 32).setWidth 32]) := by
  unfold philoxValue selectWords roundKey
  rfl

/-- RNEXT's value is that of R239. -/
theorem philox_eq (key stream a : Word) : philox key stream a = philoxValue key stream a := by
  rw [philoxValue_eq, selectWords_rounds]
  unfold philox selectNumbers startCounter
  rfl

/-! ### The statements -/

/-- The address that BADR names, mod 2^64 (R199). -/
theorem badr_eq {w : Work} {b : Block} (h : w.block = some b) (imm : BitVec 14) :
    (w.blockAddr + imm.signExtend 72 * 16).setWidth 64 = BitVec.ofInt 64 (b.addr.toNat + imm.toInt * 16) := by
  have hext : BitVec.ofInt 72 imm.toInt = imm.signExtend 72 := rfl
  have hsum : w.blockAddr + imm.signExtend 72 * 16 = BitVec.ofInt 72 (b.addr.toNat + imm.toInt * 16) := by
    rw [blockAddr_of h, BitVec.ofInt_add, BitVec.ofInt_mul, hext, BitVec.ofInt_natCast, BitVec.ofNat_toNat, BitVec.setWidth_eq]
    rfl
  rw [hsum]
  apply BitVec.eq_of_toNat_eq
  rw [BitVec.toNat_setWidth, BitVec.toNat_ofInt, BitVec.toNat_ofInt]
  omega

/-- The first part of O15. -/
theorem specialReadsComplete : SpecialReadsComplete := by
  refine ⟨?held, ?cycle, fun s pr t0 b l r p => ⟨?tile, ?ctx, ?park⟩, ?badr, ?rnext⟩
  case held =>
    intro s pr id t0 b l r p v hv hwide h
    exact exec_mfs h (fun hid => wideLeft_eq_false (hwide hid).1 (hwide hid).2) (readSpecial_of_specialRegister hv)
  case cycle =>
    intro s pr t0 b l r p h hrun
    refine exec_mfs h (fun hid => absurd hid (by decide)) ?_
    change BitVec.ofNat 64 (s.work.cycles s.focus.tile) = _
    rw [Work.cycles, hrun]
    rfl
  case tile =>
    intro h ht
    refine exec_mfs h (fun hid => absurd hid (by decide)) ?_
    change BitVec.ofNat 64 (dieOf s.focus.tile * 2 ^ 12 + s.work.slotOf s.focus.tile * 2 ^ 8 + s.focus.tile % 256) = _
    rw [Nat.mod_eq_of_lt (by omega)]
  case ctx =>
    intro h hc
    refine exec_mfs h (fun hid => absurd hid (by decide)) ?_
    change BitVec.ofNat 64 (_ + _ + s.focus.ctx % 4) = _
    rw [Nat.mod_eq_of_lt hc]
    rfl
  case park => exact fun h => exec_mfs h (fun hid => absurd hid (by decide)) rfl
  case badr =>
    intro s pr imm t0 b l r p h
    rw [← badr_eq h.1.1 imm]
    exact fire_deliver h (fun _ w => (w.blockAddr + imm.signExtend 72 * 16).setWidth 64)
  case rnext =>
    intro s pr t1 t0 b l r p h
    rw [← philox_eq, ← word_left h rfl]
    exact fire_deliver h (fun a w => philox w.me.rkey w.me.rstream a)

/-- The second part of O15. -/
theorem systemInstructionsComplete : SystemInstructionsComplete := by
  refine ⟨?mts, ?fence, ?trap, ?pause⟩
  case mts =>
    intro s pr id b l r p h
    refine (fire_ready (act := fun a _ _ w => w.effect (.mts id.toNat a)) h).trans ?_
    rw [word_left h rfl, effect_eq h.1.1]
  case fence =>
    intro s pr scope b l r p h
    exact (fire_ready (act := fun _ _ _ w => w.effect (.fence scope.toNat)) h).trans (by rw [effect_eq h.1.1])
  case trap =>
    intro s pr code b l r p h
    refine (fire_ready (act := fun _ _ _ w => w.trap Cause.trapInsn (BitVec.ofNat 64 (code.toNat * 2 ^ 7 + w.focus.idx))) h).trans ?_
    rw [← trap_eq h.1.1]
    rfl
  case pause =>
    intro s pr units t0 b l r p h
    refine (fire_ready (act := fun _ _ _ w => w.waitUntil 0 (w.now + units.toNat * 16) none) h).trans (congrArg _ ?_)
    exact lift_through (w := s.work) ((Holds.of_ready h).onBlock _)

/-- Settles O15: what MFS reads is the register, RNEXT's rounds on numbers are those on words, and the rest acts on the block alone. -/
theorem specialReadsAndSystemInstructions : Obligations.SpecialReadsAndSystemInstructions :=
  ⟨specialReadsComplete, systemInstructionsComplete⟩

end Sys2Proof.Machine
end

section
/-! SUPPORT. WAIT, RSEED and SPAWNC when what they look for is there (11 R233, R238, R240). -/

namespace Sys2Proof.Machine

open Sys2Proof Sys2Proof.Claims Sys2Proof.Laws

/-! ### Answers and effects -/

namespace Holds

variable {s : State} {w u : Work} {b : Block}

/-- An answer that ends a wait that was none. -/
theorem stopWaiting_deliver (h : Holds s w b) (hnone : ∀ x ∈ b.waits, x.idx ≠ s.focus.idx) (i : Instr) (v : Word) :
    w.stopWaiting.deliver (shape i) v memLat = w.setBlock (answered s i b v) := by
  rw [h.stopWaiting hnone, (h.setBlock b).deliver, Work.setBlock_setBlock]

/-- An instruction that leaves an effect for commit and answers at once. -/
theorem effect_deliver (h : Holds s w b) (i : Instr) (e : Effect) (v : Word) :
    (w.effect e).deliver (shape i) v memLat = w.setBlock { answered s i b v with effs := b.effs ++ [(s.focus.idx, e)] } := by
  rw [h.effect, (h.setBlock _).deliver, Work.setBlock_setBlock]
  exact congrArg w.setBlock (by simp [answered, phased, listModify_listModify])

end Holds

/-! ### WAIT and RSEED -/

section
variable {s : State} {b : Block} {l r p : Word} {pr : BitVec 2} {t1 t0 : BitVec 9} {w : Work} {pa : Nat} {u : Option Bool}

/-- WAIT whose word has the presence bit that it waits for (R233). -/
theorem exec_wait {full : BitVec 1} {lim : BitVec 5} (h : ready s (.wait pr full lim t0) b l r p) (ht : accessTurn s)
    (hnone : ∀ x ∈ b.waits, x.idx ≠ s.focus.idx) (hreach : reaches s .test 8 l.toNat w pa u) (hbit : w.bitAt pa u = decide (full = 1#1)) :
    exec (.wait pr full lim t0) s = .next (through s w (answered s (.wait pr full lim t0) b (BitVec.ofNat 64 (w.dataAt pa 8 u)))) := by
  have hexec : exec (.wait pr full lim t0) s = execWait pr full lim t0 s := rfl
  have hmeets : (w.bitAt pa u == (full == 1)) = true := by rw [hbit, beq_iff_eq]; rfl
  rw [hexec, execWait, fireAccess_ready h ht, word_left h rfl]
  refine congrArg _ (lift_through ?_)
  rw [Work.attemptWait, access_of hreach l.isLt, if_pos hmeets]
  exact ((Holds.of_ready h).of_translated (reaches_translated hreach)).stopWaiting_deliver hnone _ _

/-- The log entry of a value below the log's length is the word at its index (R238). -/
theorem seedIndex_le {log l : Word} (h : l.toNat ≤ log.toNat % 2 ^ 12) : ¬bits log.toNat 0 12 + 1 ≤ l.toNat := by
  rw [bits_zero]
  omega

theorem seedAddr_eq (log l : Word) :
    low (bits log.toNat 16 48 * 0x10000 + 8 * l.toNat) 64 = (log.toNat / 2 ^ 16 * 2 ^ 16 + 8 * l.toNat) % 2 ^ 64 := by
  have hlog := log.isLt
  have hhigh : bits log.toNat 16 48 = log.toNat / 2 ^ 16 := by rw [bits]; omega
  rw [low, hhigh]
  rfl

/-- RSEED outside a deterministic task: a fresh value, logged at commit (R238). -/
theorem attemptSeed_fresh (h : Holds s s.work b) (i : Instr) (hlen : l.toNat ≤ s.work.me.seedlog.toNat % 2 ^ 12)
    (hdet : s.work.det = false) (htr : s.work.translate s.work.who .plainStore 8
      ((s.work.me.seedlog.toNat / 2 ^ 16 * 2 ^ 16 + 8 * l.toNat) % 2 ^ 64) = (w, .ok pa u)) (hpoison : w.poisonOf pa = none) :
    s.work.attemptSeed (shape i) l 0 = Work.setBlock { w with core := { w.core with free := w.core.free + 1 } }
      { answered s i b (Config.entropy w.core.free) with effs := b.effs ++ [(s.focus.idx, .seed pa (Config.entropy w.core.free))] } := by
  have hkeep := translate_translated s.work s.work.who .plainStore 8 ((s.work.me.seedlog.toNat / 2 ^ 16 * 2 ^ 16 + 8 * l.toNat) % 2 ^ 64)
  rw [htr] at hkeep
  have hw := h.of_translated hkeep
  have hdetw : w.det = false := hkeep.det.trans hdet
  have hdrawn : Holds s { w with core := { w.core with free := w.core.free + 1 } } b := hw
  rw [Work.attemptSeed]
  simp only [if_neg (seedIndex_le hlen), seedAddr_eq, hdet, Bool.false_eq_true, if_false, htr, hpoison, hdetw]
  exact hdrawn.effect_deliver i _ _

/-- RSEED in a deterministic task whose log entry is FULL (R238). -/
theorem attemptSeed_logged (h : Holds s s.work b) (i : Instr) (hnone : ∀ x ∈ b.waits, x.idx ≠ s.focus.idx)
    (hlen : l.toNat ≤ s.work.me.seedlog.toNat % 2 ^ 12) (hdet : s.work.det = true) (htr : s.work.translate s.work.who .waitLoad 8
      ((s.work.me.seedlog.toNat / 2 ^ 16 * 2 ^ 16 + 8 * l.toNat) % 2 ^ 64) = (w, .ok pa u)) (hpoison : w.poisonOf pa = none)
    (hbit : w.bitAt pa u = true) :
    s.work.attemptSeed (shape i) l 0 = w.setBlock (answered s i b (BitVec.ofNat 64 (w.dataAt pa 8 u))) := by
  have hkeep := translate_translated s.work s.work.who .waitLoad 8 ((s.work.me.seedlog.toNat / 2 ^ 16 * 2 ^ 16 + 8 * l.toNat) % 2 ^ 64)
  rw [htr] at hkeep
  have hdetw : w.det = true := hkeep.det.trans hdet
  rw [Work.attemptSeed]
  simp only [if_neg (seedIndex_le hlen), seedAddr_eq, hdet, if_true, htr, hpoison, hdetw, hbit]
  exact (h.of_translated hkeep).stopWaiting_deliver hnone _ _

/-! ### SPAWNC -/

theorem Work.tile_region_setCtx (w : Work) (t c : Nat) (x : Ctx) (v : Nat) : ((w.setCtx t c x).tile v).region = (w.tile v).region := by
  by_cases hv : v = t
  · subst hv; rw [Work.setCtx, Work.tile_setTile_same]
  · rw [Work.setCtx, Work.tile_setTile_other _ _ _ _ hv]

theorem Work.regionOf_setCtx (w : Work) (t c : Nat) (x : Ctx) (v : Nat) : (w.setCtx t c x).regionOf v = w.regionOf v := by
  rw [Work.regionOf, Work.tile_region_setCtx]
  rfl

theorem Work.slotOf_setCtx (w : Work) (t c : Nat) (x : Ctx) (v : Nat) : (w.setCtx t c x).slotOf v = w.slotOf v := by
  rw [Work.slotOf, Work.regionOf_setCtx]
  rfl

theorem Work.ctx_setCtx_other {t c v d : Nat} (w : Work) (x : Ctx) (h : (t, c) ≠ (v, d)) : (w.setCtx t c x).ctx v d = w.ctx v d := by
  by_cases hv : v = t
  · subst hv
    exact Work.ctx_setCtx_ctx _ _ _ _ _ fun hd => h (by rw [hd])
  · exact Work.ctx_setCtx_tile _ _ _ _ _ _ hv

/-- A change of another context leaves the block in focus. -/
theorem Holds.setCtx {t c : Nat} (h : Holds s w b) (x : Ctx) (hne : (t, c) ≠ (s.focus.tile, s.focus.ctx)) : Holds s (w.setCtx t c x) b := by
  obtain ⟨hfocus, hnow, hblock⟩ := h
  refine ⟨hfocus, hnow, ?_⟩
  rw [Work.block, Work.setCtx_focus, hfocus, Work.ctx_setCtx_other _ _ hne, ← hfocus]
  exact hblock

/-- A context that SPAWNC may claim (R240). -/
def spawnable (x : Ctx) : Bool := (x.status == .idle || x.status == .halted) && x.spawnedBy == none

section
variable {g : Region} {slot c t : Nat} (hregion : s.work.regionOf s.focus.tile = some g) (hl : l.toNat = slot * 4 + c) (hc : c < 4)
  (hslot : slot < 16) (hlive : g.live[slot]? = some t) (hr : r.toNat % 16 = 0)
include hregion hl hc hslot hlive hr

/-- SPAWNC, its operands in order (R240). -/
theorem fireSpawn_eq (sh : Shape) : s.work.fireSpawn sh l r = if spawnable (s.work.ctx t c) then
      let w := s.work.setCtx t c { s.work.ctx t c with spawnedBy := some s.work.party }
      (w.effect (.spawn (t * 4 + c) (vaddr (w.blockAddr.toNat / 2 ^ 64) r.toNat) (w.slotOf s.focus.tile * 4 + s.focus.ctx))).deliver sh 1 memLat
    else s.work.deliver sh 0 memLat := by
  have hbits : bits l.toNat 2 4 = slot := by rw [bits]; omega
  have hmod : l.toNat % 4 = c := by omega
  have hlen : slot < g.live.length := (List.getElem?_eq_some_iff.mp hlive).1
  have hrange : ¬(l.toNat / 64 != 0 || decide (g.live.length ≤ slot)) = true := by
    have : l.toNat / 64 = 0 := by omega
    simp [this, hlen]
  have halign : ¬(r.toNat % 16 != 0) = true := by simp [hr]
  rw [Work.fireSpawn]
  simp only [State.work_focus, hregion, hbits, hmod, if_neg hrange, if_neg halign, listGet_of_getElem? hlive]
  rfl

/-- The context that SPAWNC finds is claimed, and starts at commit (R240). -/
theorem fireSpawn_claims (h : Holds s s.work b) (i : Instr) (hne : (t, c) ≠ (s.focus.tile, s.focus.ctx))
    (hx : spawnable (s.work.ctx t c) = true) :
    s.work.fireSpawn (shape i) l r = (s.work.setCtx t c { s.work.ctx t c with spawnedBy := some s.work.party }).setBlock
      { answered s i b 1 with
        effs := b.effs ++ [(s.focus.idx, .spawn (t * 4 + c) (BitVec.ofNat 72 (b.addr.toNat / 2 ^ 64 * 2 ^ 64 + r.toNat))
          (s.work.slotOf s.focus.tile * 4 + s.focus.ctx))] } := by
  have hclaimed := h.setCtx { s.work.ctx t c with spawnedBy := some s.work.party } hne
  rw [fireSpawn_eq hregion hl hc hslot hlive hr, if_pos hx]
  dsimp only
  rw [indirectTarget_eq hclaimed.block, Work.slotOf_setCtx, hclaimed.effect_deliver]

/-- Where the context is not free SPAWNC delivers 0 (R240). -/
theorem fireSpawn_refused (h : Holds s s.work b) (i : Instr) (hx : spawnable (s.work.ctx t c) = false) :
    s.work.fireSpawn (shape i) l r = s.work.setBlock (answered s i b 0) := by
  rw [fireSpawn_eq hregion hl hc hslot hlive hr, if_neg (by simp [hx]), h.deliver]

end

end

/-- Settles O16: WAIT and RSEED by the word that their translation reaches, SPAWNC by the context that its operand names. -/
theorem waitSeedSpawnComplete : Obligations.WaitSeedSpawnComplete := by
  refine ⟨?wait, ?fresh, ?logged, ?spawn⟩
  case wait =>
    intro s pr full lim t0 b l r p w pa u h ht hnone htr halign hpoison hbit
    exact exec_wait h ht hnone ⟨halign, htr, hpoison⟩ hbit
  case fresh =>
    intro s pr t1 t0 b l r p w pa u h ht _ hlen hdet htr hpoison
    have hexec : exec (.rseed pr t1 t0) s = execRseed pr t1 t0 s := rfl
    rw [hexec, execRseed, fireAccess_ready h ht, word_left h rfl]
    exact congrArg _ (lift_through (attemptSeed_fresh (Holds.of_ready h) _ hlen hdet htr hpoison))
  case logged =>
    intro s pr t1 t0 b l r p w pa u h ht hnone hlen hdet htr hpoison hbit
    have hexec : exec (.rseed pr t1 t0) s = execRseed pr t1 t0 s := rfl
    rw [hexec, execRseed, fireAccess_ready h ht, word_left h rfl]
    exact congrArg _ (lift_through (attemptSeed_logged (Holds.of_ready h) _ hnone hlen hdet htr hpoison hbit))
  case spawn =>
    intro s pr t1 t0 b l r p g slot c t h hregion hl hc hslot hlive hr hne
    have hexec : exec (.spawnc pr t1 t0) s = .next (s.lift (fun w => w.fireSpawn (shape (.spawnc pr t1 t0)) l r)) := by
      have hfire : exec (.spawnc pr t1 t0) s = execSpawnc pr t1 t0 s := rfl
      rw [hfire, execSpawnc, fire_ready h, word_left h rfl, word_right h rfl]
    rw [hexec]
    refine ⟨fun hfree => ?_, fun hbusy => ?_⟩
    · have hx : spawnable (s.work.ctx t c) = true := by simpa [spawnable] using hfree
      exact congrArg _ (lift_through (fireSpawn_claims hregion hl hc hslot hlive hr (Holds.of_ready h) _ hne hx))
    · have hx : spawnable (s.work.ctx t c) = false := by
        have hspawn : (s.work.ctx t c).spawnedBy ≠ none → ((s.work.ctx t c).spawnedBy == none) = false := beq_eq_false_iff_ne.mpr
        rcases hbusy with ⟨hidle, hhalted⟩ | hclaimed
        · simp [spawnable, hidle, hhalted]
        · rw [spawnable, hspawn hclaimed, Bool.and_false]
      exact congrArg _ (lift_through (fireSpawn_refused hregion hl hc hslot hlive hr (Holds.of_ready h) _ hx))

end Sys2Proof.Machine
end

section
/-! SUPPORT. Bytes and words of memory after a store (00 R10). -/

namespace Sys2Proof.Machine

open Sys2Proof Sys2Proof.Claims Sys2Proof.Laws

namespace Work

theorem byte_putByte (w : Work) (a : Nat) (v : Byte) (x : Nat) : (w.putByte a v).byte x = if x = a then v else w.byte x := by
  simp [byte, putByte, byteFrom]

/-- A store writes its own bytes, least significant first. -/
theorem byte_store (n : Nat) (w : Work) (a v x : Nat) :
    (w.store a n v).byte x = if a ≤ x ∧ x < a + n then BitVec.ofNat 8 (v / 256 ^ (x - a)) else w.byte x := by
  induction n generalizing w a v with
  | zero => rw [if_neg (by omega)]; rfl
  | succ n ih =>
    rw [store, ih, byte_putByte]
    rcases Nat.lt_trichotomy x a with hx | rfl | hx
    · rw [if_neg (by omega), if_neg (by omega), if_neg (by omega)]
    · rw [if_neg (by omega), if_pos rfl, if_pos (by omega), Nat.sub_self, pow_zero, Nat.div_one]
    · have hoff : x - a = (x - (a + 1)) + 1 := by omega
      rw [if_neg (show x ≠ a by omega), hoff, pow_succ', Nat.div_div_eq_div_mul]
      exact if_congr (by omega) rfl rfl

theorem byte_store_other {n a x : Nat} (w : Work) (v : Nat) (h : x < a ∨ a + n ≤ x) : (w.store a n v).byte x = w.byte x := by
  rw [byte_store, if_neg (by omega)]

/-- A number of `n` bytes is below 256^n. -/
theorem load_lt_pow (w : Work) (n a : Nat) : w.load a n < 256 ^ n := by
  induction n generalizing a with
  | zero => exact Nat.one_pos
  | succ n ih =>
    have hrest := ih (a + 1)
    have hbyte : (w.byte a).toNat < 256 := (w.byte a).isLt
    rw [load, pow_succ]
    omega

theorem load_congr {w u : Work} {n a : Nat} (h : ∀ x, a ≤ x → x < a + n → w.byte x = u.byte x) : w.load a n = u.load a n := by
  induction n generalizing a with
  | zero => rfl
  | succ n ih => rw [load, load, h a (by omega) (by omega), ih fun x hx hx' => h x (by omega) (by omega)]

/-- Bytes read as the store that covers them wrote them. -/
theorem load_store_same (n : Nat) (w : Work) (a v : Nat) : (w.store a n v).load a n = v % 256 ^ n := by
  induction n generalizing w a v with
  | zero => rw [load, pow_zero, Nat.mod_one]
  | succ n ih =>
    have hfirst : ((w.putByte a (BitVec.ofNat 8 v)).store (a + 1) n (v / 256)).byte a = BitVec.ofNat 8 v := by
      rw [byte_store_other _ _ (by omega), byte_putByte, if_pos rfl]
    have hsplit : v % 256 ^ (n + 1) = v % 256 + 256 * (v / 256 % 256 ^ n) := by rw [pow_succ', Nat.mod_mul]
    rw [load, store, hfirst, ih, BitVec.toNat_ofNat, hsplit]

end Work

end Sys2Proof.Machine
end

section
/-! SUPPORT. Loads (11 R209, R210, R212, R216): each is one access, and what it delivers is what its block sees at the address that it reaches. -/

namespace Sys2Proof.Machine

open Sys2Proof Sys2Proof.Claims Sys2Proof.Laws

/-! ### Every load is an access -/

/-- What a load of a form does with its base, once its turn has come. -/
def loadAct (i : Instr) (form : AccForm) (size : Nat) (sx : Bool) (lsid : Nat) (o : BitVec 9) (a : Word) (w : Work) : Work :=
  match form with
  | .plainLoad => plainLoad (shape i) size sx lsid o a 0 0 w
  | .test => testLoad (shape i) lsid o a 0 0 w
  | form => w.attemptLoad form (shape i) size lsid o a 0

section
variable {s : State} {i : Instr} {b : Block} {l r p : Word} {form : AccForm} {size : Nat} {sx : Bool} {n : BitVec 5} {o : BitVec 9}
  (hi : loadForm i = some (form, size, sx, n, o))
include hi

/-- Every load fires one access on its left operand, of a size that the encoding has; a test is of a word (R216). -/
theorem loadForm_spec : (∀ s, exec i s = fireMem n.toNat false (shape i) (fun a _ _ => loadAct i form size sx n.toNat o a) s)
    ∧ (shape i).left = true ∧ (size = 1 ∨ size = 2 ∨ size = 4 ∨ size = 8) ∧ (form = .test → size = 8) := by
  unfold loadForm at hi
  split at hi <;> cases hi <;> exact ⟨fun _ => rfl, rfl, by decide, by decide⟩

theorem loadForm_size : size = 1 ∨ size = 2 ∨ size = 4 ∨ size = 8 := by
  obtain ⟨-, -, hsize, -⟩ := loadForm_spec hi
  exact hsize

theorem loadForm_test : form = .test → size = 8 := by
  obtain ⟨-, -, -, htest⟩ := loadForm_spec hi
  exact htest

/-- A load whose turn has come acts on its base. -/
theorem load_fires (h : ready s i b l r p) (ht : loadTurn s b n.toNat) : exec i s = .next (s.lift (loadAct i form size sx n.toNat o l)) := by
  obtain ⟨hexec, hleft, -, -⟩ := loadForm_spec hi
  rw [hexec, fireMem_load h ht, word_left h hleft]

/-- Whatever its form, a load checks and translates its address first. -/
theorem loadAct_access (a : Word) : ∃ k, ∀ w, loadAct i form size sx n.toNat o a w = Work.access w form size (loadAddr a o size) k := by
  rw [← loadEa_eq]
  cases form with
  | test =>
    obtain rfl := loadForm_test hi rfl
    exact ⟨_, fun _ => rfl⟩
  | _ => exact ⟨_, fun _ => rfl⟩

end

theorem loadAddr_lt (a : Word) (o : BitVec 9) (size : Nat) : loadAddr a o size < 2 ^ 64 := by
  rw [← loadEa_eq]
  exact BitVec.isLt _

/-! ### Accesses that trap (R209, R210) -/

section
variable {s : State} {b : Block} {form : AccForm} {size ea : Nat} {k : Work → Nat → Option Bool → Work}

theorem access_misaligned (h : s.work.block = some b) (hea : ea % size ≠ 0) :
    s.lift (fun w => w.access form size ea k) = trapped s b 0x04 (BitVec.ofNat 64 (ea % 2 ^ 56 * 2 ^ 8 + s.focus.idx)) := by
  rw [← trap_eq h]
  refine congrArg s.put (?_ : s.work.access form size ea k = _)
  rw [Work.access, if_pos (by simpa using hea), einfoAlign, bits_zero]
  rfl

theorem access_faults {w : Work} {c sub : Nat} (h : Holds s s.work b) (hlt : ea < 2 ^ 64) (hea : ea % size = 0)
    (htr : s.work.translate s.work.who form size (s.work.me.dseg.toNat * 2 ^ 64 + ea) = (w, .fault c sub)) :
    s.lift (fun w => w.access form size ea k) = through s w { phased s b .trapped with
      traps := b.traps ++ [⟨s.focus.idx, c, einfoMem (s.work.me.dseg.toNat * 2 ^ 64 + ea) sub form.acc 0 s.focus.idx⟩],
      waits := b.waits.filter (fun x => x.idx != s.focus.idx) } := by
  have hkeep := translate_translated s.work s.work.who form size (s.work.me.dseg.toNat * 2 ^ 64 + ea)
  rw [htr] at hkeep
  have hva : s.work.va ea = s.work.me.dseg.toNat * 2 ^ 64 + ea := va_of _ _ hlt
  have hvaw : w.va ea = s.work.va ea := by rw [Work.va, Work.va, hkeep.me]
  refine lift_through (?_ : s.work.access form size ea k = _)
  rw [Work.access, if_neg (by simp [hea]), hva, htr]
  dsimp only
  rw [(h.of_translated hkeep).trap, hvaw, hva, hkeep.focus]
  rfl

end

end Sys2Proof.Machine
end

section
/-! SUPPORT. What a load delivers (11 R212, R216), and the traps of an access (11 R209, R210). -/

namespace Sys2Proof.Machine

open Sys2Proof Sys2Proof.Claims Sys2Proof.Laws

/-! ### What a block sees (R212) -/

theorem Work.dataAt_setBlock (w : Work) (b : Block) (pa size : Nat) (u : Option Bool) : (w.setBlock b).dataAt pa size u = w.dataAt pa size u := by
  cases u
  · exact Work.load_setBlock _ _
  · rfl

/-- What an access reads fits the bytes that it reads. -/
theorem Work.dataAt_lt (w : Work) (pa size : Nat) (u : Option Bool) : w.dataAt pa size u < 2 ^ (8 * size) := by
  have hpow : (2 : Nat) ^ (8 * size) = 256 ^ size := pow_mul 2 8 size
  rw [hpow]
  cases u
  · exact w.load_lt_pow size pa
  · exact Nat.pow_pos (by decide)

section
variable {w : Work} {b : Block} {pa : Nat} (hb : w.block = some b) (hpa : classify pa ≠ .control)
include hb hpa

/-- A block without accesses sees a word's data as they are. -/
theorem Work.viewData_eq_dataAt (hmems : b.mems = []) (lsid size : Nat) (u : Option Bool) : w.viewData lsid pa size u = w.dataAt pa size u := by
  simp [Work.viewData, Work.earlier, hb, hmems, hpa]

/-- A block sees the bytes that a store of its own, of a lower lsid, wrote. -/
theorem Work.viewData_of_ownStore {lsid m j size : Nat} {v : Word} (hmems : b.mems = [⟨m, j, .plain, pa, size, v⟩]) (hm : m < lsid) :
    w.viewData lsid pa size none = v.toNat % 2 ^ (8 * size) := by
  have hpow : (2 : Nat) ^ (8 * size) = 256 ^ size := pow_mul 2 8 size
  have hearlier : w.earlier lsid = [⟨m, j, .plain, pa, size, v⟩] := by simp [Work.earlier, hb, hmems, MemEff.before, hm]
  have hclass : ¬(classify pa == .control) = true := by simp [hpa]
  rw [Work.viewData, if_neg hclass, hearlier, hpow]
  exact Work.load_store_same size w pa v.toNat

end

/-- Outside the control window a load clears no register (23 R417). -/
theorem Work.ctlClear_of_classify {pa : Nat} (w : Work) (h : classify pa ≠ .control) : w.ctlClear pa = w := by
  rw [Work.ctlClear, if_neg]
  rw [beq_iff_eq]
  rintro rfl
  exact h (by decide)

/-! ### Sign extension (R216) -/

/-- A number of `size` bytes, taken as signed. -/
theorem sextSize_eq_extend {size v : Nat} (hsize : 0 < size) (hv : v < 2 ^ (8 * size)) : sextSize size v = extend true size v := by
  have hhalf : 2 * 2 ^ (8 * size - 1) = 2 ^ (8 * size) := by rw [← pow_succ']; congr 1; omega
  have hword : (BitVec.ofNat (8 * size) v).toNat = v := by rw [BitVec.toNat_ofNat, Nat.mod_eq_of_lt hv]
  rw [sextSize, extend, BitVec.toInt_eq_toNat_cond, hword]
  by_cases h : 2 ^ (8 * size - 1) ≤ v
  · rw [if_neg (by omega), if_pos (by simpa using h)]
    push_cast
    rfl
  · rw [if_pos (by omega), if_neg (by simpa using h), BitVec.ofInt_natCast]

/-! ### Deliveries -/

section
variable {s : State} {i : Instr} {b : Block} {w : Work} {pa lsid : Nat} {u : Option Bool} {l : Word} {size : Nat} {o : BitVec 9}

theorem Holds.sendValue_perform (h : Holds s w b) (i : Instr) (v : Word) :
    (w.sendValue (shape i) v).perform = w.setBlock (answered s i b v) := by
  rw [h.sendValue, (h.setBlock _).perform, Work.setBlock_setBlock]
  rfl

/-- A plain load delivers what its block sees, extended. -/
theorem plainLoad_delivers {v : Nat} (h : Holds s w b) (hreach : reaches s .plainLoad size (loadAddr l o size) w pa u)
    (hpa : classify pa ≠ .control) (hsize : 0 < size) (hv : w.viewData lsid pa size u = v) (hlt : v < 2 ^ (8 * size)) (sx : Bool) :
    loadAct i .plainLoad size sx lsid o l s.work = w.setBlock (answered s i b (extend sx size v)) := by
  have hext : (if sx then sextSize size v else BitVec.ofNat 64 v) = extend sx size v := by
    cases sx
    · rfl
    · exact sextSize_eq_extend hsize hlt
  rw [loadAct, plainLoad, loadEa_eq, access_of hreach (loadAddr_lt l o size), hv, Work.ctlClear_of_classify _ hpa, ite_self]
  dsimp only
  rw [hext, h.sendValue_perform]

/-- A test delivers the bit that its block sees. -/
theorem testLoad_delivers (h : Holds s w b) (hmems : b.mems = []) (hreach : reaches s .test 8 (loadAddr l o 8) w pa u) (sx : Bool) :
    loadAct i .test 8 sx lsid o l s.work = w.setBlock (answered s i b (if w.bitAt pa u then 1 else 0)) := by
  rw [loadAct, testLoad, loadEa_eq, access_of hreach (loadAddr_lt l o 8), Work.viewBit_of_noMems h.block hmems, h.sendValue_perform]
  rfl

/-- An access whose word has the bit that it waits for, and that nobody else holds it back from, acts. -/
theorem attempt_acts {form : AccForm} {ea : Nat} {act : Work → Nat → Option Bool → Work} (h : Holds s w b) (hmems : b.mems = [])
    (hwaits : b.waits = []) (hreach : reaches s form size ea w pa u) (hlt : ea < 2 ^ 64) (hbit : w.bitAt pa u = (form != .fill))
    (hfree : form = .waitLoad ∨ w.claimedOther (pa / 8) w.party = false ∧ w.reservedOther (pa / 8) w.party = false) (tries : Nat) :
    s.work.attempt form lsid size ea tries act = act (w.setBlock b) pa u := by
  have hready : ¬(w.bitAt pa u != (form != .fill)) = true := by rw [hbit, bne_self_eq_false]; exact Bool.false_ne_true
  have hheld : ¬(form != .waitLoad && (w.claimedOther (pa / 8) w.party || w.reservedOther (pa / 8) w.party)) = true := by
    rcases hfree with rfl | ⟨hclaim, hresv⟩
    · exact Bool.false_ne_true
    · rw [hclaim, hresv, Bool.or_self, Bool.and_false]; exact Bool.false_ne_true
  rw [Work.attempt, access_of hreach hlt, Work.viewBit_of_noMems h.block hmems, h.stopWaiting (by simp [hwaits])]
  exact (if_neg hready).trans (if_neg hheld)

/-- A waiting load of a FULL word delivers its bytes. -/
theorem waitLoad_delivers (h : Holds s w b) (hmems : b.mems = []) (hwaits : b.waits = [])
    (hreach : reaches s .waitLoad size (loadAddr l o size) w pa u) (hpa : classify pa ≠ .control) (hbit : w.bitAt pa u = true) (sx : Bool) :
    loadAct i .waitLoad size sx lsid o l s.work = w.setBlock (answered s i b (BitVec.ofNat 64 (w.dataAt pa size u))) := by
  have hdata := Work.viewData_eq_dataAt (Work.block_setBlock w b) hpa hmems lsid size u
  rw [loadAct, Work.attemptLoad, loadEa_eq, attempt_acts h hmems hwaits hreach (loadAddr_lt l o size) hbit (.inl rfl), hdata,
    Work.dataAt_setBlock]
  · exact ((h.setBlock b).sendValue_perform i _).trans (Work.setBlock_setBlock _ _ _)
  all_goals exact nofun

/-- A consuming load of a FULL word that nobody else claims or has reserved claims it, and empties it at commit. -/
theorem consume_delivers (h : Holds s w b) (hmems : b.mems = []) (hwaits : b.waits = []) (hparty : w.party = s.work.party)
    (hreach : reaches s .consume size (loadAddr l o size) w pa u) (hpa : classify pa ≠ .control) (hbit : w.bitAt pa u = true)
    (hclaim : w.claimedOther (pa / 8) s.work.party = false) (hresv : w.reservedOther (pa / 8) s.work.party = false) (n : BitVec 5) (sx : Bool) :
    loadAct i .consume size sx n.toNat o l s.work = (claiming w s pa).setBlock
      { answered s i b (BitVec.ofNat 64 (w.dataAt pa size u)) with mems := [effectOf s n .consume pa size 0] } := by
  have hdata := Work.viewData_eq_dataAt (Work.block_setBlock w b) hpa hmems n.toNat size u
  have hclaimed : Holds s (claiming w s pa) b := h
  have hadded : ((w.setBlock b).claim (pa / 8) (w.setBlock b).party (w.setBlock b).focus.idx).addEff n.toNat .consume pa size 0
      = (claiming w s pa).setBlock { b with mems := [effectOf s n .consume pa size 0] } := by
    have hsame : (w.setBlock b).claim (pa / 8) (w.setBlock b).party (w.setBlock b).focus.idx = (claiming w s pa).setBlock b := by
      rw [claiming, ← hparty, ← h.1]
      rfl
    rw [hsame, (hclaimed.setBlock b).addEff, Work.setBlock_setBlock, hmems]
    rfl
  rw [← hparty] at hclaim hresv
  rw [loadAct, Work.attemptLoad, loadEa_eq, attempt_acts h hmems hwaits hreach (loadAddr_lt l o size) hbit (.inr ⟨hclaim, hresv⟩), hdata,
    Work.dataAt_setBlock]
  · dsimp only
    rw [if_pos (beq_self_eq_true AccForm.consume), hadded, (hclaimed.setBlock _).sendValue_perform, Work.setBlock_setBlock]
    rfl
  all_goals exact nofun

end

/-! ### The statements -/

/-- The first half of O17. -/
theorem loadsComplete : Claims.LoadsComplete := by
  intro s i b l r p form size sx n o w pa u hi h ht hmems hwaits hreach hpa
  have hkeep := reaches_translated hreach
  have hw := (Holds.of_ready h).of_translated hkeep
  have hdata := Work.viewData_eq_dataAt hw.block hpa hmems n.toNat size u
  have hsize : 0 < size := by have := loadForm_size hi; omega
  rw [load_fires hi h ht]
  refine ⟨?plain, ?test, ?wait, ?consume⟩
  case plain =>
    rintro rfl
    exact congrArg _ (lift_through (plainLoad_delivers hw hreach hpa hsize hdata (w.dataAt_lt pa size u) sx))
  case test =>
    rintro rfl
    obtain rfl := loadForm_test hi rfl
    exact congrArg _ (lift_through (testLoad_delivers hw hmems hreach sx))
  case wait =>
    rintro rfl hbit
    exact congrArg _ (lift_through (waitLoad_delivers hw hmems hwaits hreach hpa hbit sx))
  case consume =>
    rintro rfl hbit hclaim hresv
    exact congrArg _ (lift_through (consume_delivers hw hmems hwaits hkeep.party hreach hpa hbit hclaim hresv n sx))

/-- The second half of O17. -/
theorem loadSeesOwnStore : Claims.LoadSeesOwnStore := by
  intro s i b l r p v size sx n o w pa m j hi h ht hwaits hmems hm hreach hpa
  have hw := (Holds.of_ready h).of_translated (reaches_translated hreach)
  have hsize : 0 < size := by have := loadForm_size hi; omega
  rw [load_fires hi h ht]
  exact congrArg _ (lift_through (plainLoad_delivers hw hreach hpa hsize (Work.viewData_of_ownStore hw.block hpa hmems hm)
    (Nat.mod_lt _ (Nat.pow_pos (by decide))) sx))

/-- Settles O17: every load is one access, and a block sees memory but for what its own earlier stores wrote. -/
theorem loadsDeliver : Obligations.LoadsDeliver := ⟨loadsComplete, loadSeesOwnStore⟩

end Sys2Proof.Machine
end

section
/-! SUPPORT. Stores and atomic operations (11 R211, R217 to R221), and the accesses that trap (11 R209, R210). -/

namespace Sys2Proof.Machine

open Sys2Proof Sys2Proof.Claims Sys2Proof.Laws

/-! ### Every store is an access -/

/-- What a store of a form does with its base and its data, once its turn has come. -/
def storeAct (form : AccForm) (k : MemKind) (size lsid : Nat) (o : BitVec 18) (a v : Word) (w : Work) : Work :=
  match form with
  | .fill => w.attemptFill size lsid o a v 0
  | form => w.plainStore form k size lsid o a v

/-- The model's effective address of a store is that of the statements (11 R217). -/
theorem storeEa_eq (a : Word) (o : BitVec 18) (size : Nat) : storeEa a o size = storeAddr a o size := by
  have hsum : a + o.signExtend 64 * BitVec.ofNat 64 size = BitVec.ofInt 64 (a.toNat + o.toInt * size) := by
    rw [BitVec.ofInt_add, BitVec.ofInt_mul, BitVec.ofInt_natCast, BitVec.ofInt_natCast, BitVec.ofNat_toNat, BitVec.setWidth_eq, BitVec.signExtend]
  rw [storeEa, hsum, BitVec.toNat_ofInt]
  rfl

theorem storeAddr_lt (a : Word) (o : BitVec 18) (size : Nat) : storeAddr a o size < 2 ^ 64 := by
  rw [← storeEa_eq]
  exact BitVec.isLt _

section
variable {s : State} {i : Instr} {b : Block} {l r p : Word} {form : AccForm} {k : MemKind} {size : Nat} {n : BitVec 5} {o : BitVec 18}
  (hi : storeOf i = some (form, k, size, n, o))
include hi

/-- Every store fires one access on its two operands (R217). -/
theorem storeOf_spec : (∀ s, exec i s = fireMem n.toNat true (shape i) (fun a v _ => storeAct form k size n.toNat o a v) s)
    ∧ (shape i).left = true ∧ (shape i).right = true ∧ (form = .fill → k = .fill) := by
  unfold storeOf at hi
  split at hi <;> cases hi <;> exact ⟨fun _ => rfl, rfl, rfl, by decide⟩

theorem storeOf_fill : form = .fill → k = .fill := by
  obtain ⟨-, -, -, hfill⟩ := storeOf_spec hi
  exact hfill

/-- A store whose turn has come acts on its base and its data. -/
theorem store_fires (h : ready s i b l r p) (ht : inTurn s b n.toNat) : exec i s = .next (s.lift (storeAct form k size n.toNat o l r)) := by
  obtain ⟨hexec, hleft, hright, -⟩ := storeOf_spec hi
  rw [hexec, fireMem_store h ht, word_left h hleft, word_right h hright]

/-- Whatever its form, a store checks and translates its address first. -/
theorem storeAct_access (a v : Word) : ∃ act, ∀ w, storeAct form k size n.toNat o a v w = Work.access w form size (storeAddr a o size) act := by
  rw [← storeEa_eq]
  cases form <;> exact ⟨_, fun _ => rfl⟩

end

/-- Settles O19: an access traps before anything else of it acts. -/
theorem accessesThatTrap : Obligations.AccessesThatTrap := by
  refine ⟨?load, ?store⟩
  case load =>
    intro s i b l r p form size sx n o hi h ht
    obtain ⟨act, hact⟩ := loadAct_access hi l
    rw [load_fires hi h ht, funext hact]
    exact ⟨fun hmis => congrArg _ (access_misaligned h.1.1 hmis),
      fun hal w c sub htr => congrArg _ (access_faults (Holds.of_ready h) (loadAddr_lt l o size) hal htr)⟩
  case store =>
    intro s i b l r p form k size n o hi h ht hmis
    obtain ⟨act, hact⟩ := storeAct_access hi l r
    rw [store_fires hi h ht, funext hact]
    exact congrArg _ (access_misaligned h.1.1 hmis)

/-! ### What a store leaves for commit -/

section
variable {s : State} {i : Instr} {b : Block} {w : Work} {pa size : Nat} {u : Option Bool} {l r : Word} {n : BitVec 5}

/-- An access that is its block's only one stands alone for commit. -/
theorem Holds.addEff_served (h : Holds s w b) (hmems : b.mems = []) (n : BitVec 5) (k : MemKind) (pa size : Nat) (v : Word) :
    (w.addEff n.toNat k pa size v).served = w.setBlock { phased s b .performed with mems := [effectOf s n k pa size v] } := by
  rw [h.addEff, hmems, (h.setBlock _).served, Work.setBlock_setBlock]
  rfl

/-- A plain or clearing store leaves its effect. -/
theorem plainStore_performs {form : AccForm} {k : MemKind} {o : BitVec 18} (h : Holds s w b) (hmems : b.mems = [])
    (hreach : reaches s form size (storeAddr l o size) w pa u) (hform : form ≠ .fill) :
    storeAct form k size n.toNat o l r s.work = w.setBlock { phased s b .performed with mems := [effectOf s n k pa size r] } := by
  rw [storeAct, Work.plainStore, storeEa_eq, access_of hreach (storeAddr_lt l o size), h.addEff_served hmems]
  exact hform

theorem Holds.claiming (h : Holds s w b) (pa : Nat) : Holds s (Claims.claiming w s pa) b := h

/-- The claim of the instruction in focus on its word, once its wait, if it waited, is over. -/
theorem Holds.stopWaiting_claim (h : Holds s w b) (hwaits : b.waits = []) (hparty : w.party = s.work.party) (pa : Nat) :
    w.stopWaiting.claim (pa / 8) w.party w.focus.idx = (Claims.claiming w s pa).setBlock b := by
  rw [h.stopWaiting (by simp [hwaits]), Claims.claiming, ← hparty, ← h.1]
  rfl

/-- A filling store of an EMPTY word that nobody else claims or has reserved claims it and leaves its effect. -/
theorem fillStore_performs {o : BitVec 18} (h : Holds s w b) (hmems : b.mems = []) (hwaits : b.waits = []) (hparty : w.party = s.work.party)
    (hreach : reaches s .fill size (storeAddr l o size) w pa u) (hbit : w.bitAt pa u = false)
    (hclaim : w.claimedOther (pa / 8) s.work.party = false) (hresv : w.reservedOther (pa / 8) s.work.party = false) :
    storeAct .fill .fill size n.toNat o l r s.work
      = (claiming w s pa).setBlock { phased s b .performed with mems := [effectOf s n .fill pa size r] } := by
  have hclaimed := h.stopWaiting_claim hwaits hparty pa
  rw [h.stopWaiting (by simp [hwaits])] at hclaimed
  rw [← hparty] at hclaim hresv
  rw [storeAct, Work.attemptFill, storeEa_eq, attempt_acts h hmems hwaits hreach (storeAddr_lt l o size) hbit (.inr ⟨hclaim, hresv⟩)]
  exact (congrArg (fun v => (Work.addEff v _ _ _ _ _).served) hclaimed).trans
    ((((h.claiming pa).setBlock b).addEff_served hmems n .fill pa size r).trans (Work.setBlock_setBlock _ _ _))

end

/-- The first half of O18. -/
theorem storesComplete : Claims.StoresComplete := by
  intro s i b l r p form k size n o w pa u hi h ht hmems hwaits hreach
  have hkeep := reaches_translated hreach
  have hw := (Holds.of_ready h).of_translated hkeep
  rw [store_fires hi h ht]
  refine ⟨fun hform => congrArg _ (lift_through (plainStore_performs hw hmems hreach hform)), ?_⟩
  rintro rfl hbit hclaim hresv
  obtain rfl := storeOf_fill hi rfl
  exact congrArg _ (lift_through (fillStore_performs hw hmems hwaits hkeep.party hreach hbit hclaim hresv))

/-! ### AMO, CAS and RED -/

theorem accSize_eq : ∀ wid : BitVec 1, accSize wid = if wid = 1#1 then 4 else 8 := by decide

/-- A number of `n` bits, taken as signed (R218). -/
def asSigned (n x : Nat) : Int := if x < 2 ^ (n - 1) then x else x - 2 ^ n

theorem toInt_ofNat_eq_asSigned {n x : Nat} (hn : 0 < n) (h : x < 2 ^ n) : (BitVec.ofNat n x).toInt = asSigned n x := by
  have hhalf : 2 * 2 ^ (n - 1) = 2 ^ n := by rw [← pow_succ']; congr 1; omega
  rw [BitVec.toInt_eq_toNat_cond, BitVec.toNat_ofNat, Nat.mod_eq_of_lt h, asSigned]
  by_cases hx : x < 2 ^ (n - 1)
  · rw [if_pos hx, if_pos (by omega)]
  · rw [if_neg hx, if_neg (by omega)]
    push_cast
    rfl

/-- Numbers of `n` bits that are equal as signed numbers are equal. -/
theorem asSigned_injective {n x y : Nat} (hx : x < 2 ^ n) (hy : y < 2 ^ n) (h : asSigned n x = asSigned n y) : x = y := by
  unfold asSigned at h
  have hpow : ((2 ^ n : Nat) : Int) = 2 ^ n := by push_cast; rfl
  split at h <;> split at h <;> omega

/-- The operation of AMO and RED on values of its size (R218). -/
theorem aopNew_of_amoNew {aop size old v new : Nat} (hsize : 0 < size) (hold : old < 2 ^ (8 * size)) (h : amoNew aop size old v = some new) :
    aopNew aop size old v = new := by
  have hv : v % 2 ^ (8 * size) < 2 ^ (8 * size) := Nat.mod_lt _ (Nat.pow_pos (by decide))
  have hs := toInt_ofNat_eq_asSigned (by omega : 0 < 8 * size) hold
  have ht := toInt_ofNat_eq_asSigned (by omega : 0 < 8 * size) hv
  have hformat : (if size == 4 then fp32 else fp64) = if size = 4 then fp32 else fp64 := by simp
  unfold amoNew at h
  split at h <;> cases h
  case h_5 =>
    change (if (BitVec.ofNat (8 * size) (v % 2 ^ (8 * size))).toInt < (BitVec.ofNat (8 * size) old).toInt then v % 2 ^ (8 * size) else old)
      = if asSigned (8 * size) old ≤ asSigned (8 * size) (v % 2 ^ (8 * size)) then old else v % 2 ^ (8 * size)
    rw [hs, ht, ← ite_not]
    simp only [Int.not_lt]
  case h_6 =>
    change (if (BitVec.ofNat (8 * size) old).toInt < (BitVec.ofNat (8 * size) (v % 2 ^ (8 * size))).toInt then v % 2 ^ (8 * size) else old)
      = if asSigned (8 * size) old ≤ asSigned (8 * size) (v % 2 ^ (8 * size)) then v % 2 ^ (8 * size) else old
    rw [hs, ht]
    rcases Int.lt_trichotomy (asSigned (8 * size) old) (asSigned (8 * size) (v % 2 ^ (8 * size))) with hlt | heq | hgt
    · rw [if_pos hlt, if_pos (le_of_lt hlt)]
    · rw [if_neg (by omega), if_pos (le_of_eq heq), asSigned_injective hold hv heq]
    · rw [if_neg (by omega), if_neg (by omega)]
  case h_10 => rw [← hformat]; rfl
  case h_11 => rw [← hformat]; rfl
  case h_12 => rw [← hformat]; rfl
  all_goals rfl

section
variable {s : State} {b : Block} {l r p : Word} {w : Work} {pa : Nat} {n aop : BitVec 5} {size : Nat}

/-- An access that delivers the old value of its word and leaves its write for commit. -/
theorem Holds.addEff_sendValue_served (h : Holds s w b) (hmems : b.mems = []) (i : Instr) (n : BitVec 5) (k : MemKind) (pa size : Nat) (v u : Word) :
    (((w.addEff n.toNat k pa size v).sendValue (shape i) u).served)
      = w.setBlock { answered s i b u with mems := [effectOf s n k pa size v] } := by
  rw [h.addEff, hmems, (h.setBlock _).sendValue, ((h.setBlock _).setBlock _).served, Work.setBlock_setBlock, Work.setBlock_setBlock]
  rfl

/-- An AMO of an unclaimed word outside a deterministic task (R218). -/
theorem attemptAmo_acts {new : Nat} (i : Instr) (h : Holds s w b) (hmems : b.mems = []) (hwaits : b.waits = []) (hparty : w.party = s.work.party)
    (hdet : s.work.det = false) (hreach : reaches s .atomic size l.toNat w pa none) (hpa : classify pa ≠ .control)
    (hclaim : w.claimedOther (pa / 8) s.work.party = false) (hsize : 0 < size)
    (hnew : amoNew aop.toNat size (w.load pa size) r.toNat = some new) :
    s.work.attemptAmo (shape i) n.toNat aop.toNat size l r = (claiming w s pa).setBlock
      { answered s i b (BitVec.ofNat 64 (w.load pa size)) with mems := [effectOf s n .amo pa size (BitVec.ofNat 64 new)] } := by
  have hdata := Work.viewData_of_noMems h.block hmems hpa n.toNat size
  have haop : aopNew aop.toNat size (w.load pa size) r.toNat = new := aopNew_of_amoNew hsize (w.dataAt_lt pa size none) hnew
  rw [← hparty] at hclaim
  rw [Work.attemptAmo, hdet, if_neg Bool.false_ne_true, access_of hreach l.isLt]
  simp only [hclaim, Bool.false_eq_true, if_false, hdata, haop]
  rw [h.stopWaiting_claim hwaits hparty, ((h.claiming pa).setBlock b).addEff_sendValue_served hmems, Work.setBlock_setBlock]

/-- A CAS of an unclaimed word outside a deterministic task (R219). -/
theorem attemptCas_acts (i : Instr) (h : Holds s w b) (hmems : b.mems = []) (hwaits : b.waits = []) (hparty : w.party = s.work.party)
    (hdet : s.work.det = false) (hreach : reaches s .atomic size l.toNat w pa none) (hpa : classify pa ≠ .control)
    (hclaim : w.claimedOther (pa / 8) s.work.party = false) :
    s.work.attemptCas (shape i) n.toNat size l r p = (claiming w s pa).setBlock
      { answered s i b (BitVec.ofNat 64 (w.load pa size)) with
        mems := [effectOf s n (.cas (decide (w.load pa size = p.toNat % 2 ^ (8 * size)))) pa size r] } := by
  have hdata := Work.viewData_of_noMems h.block hmems hpa n.toNat size
  rw [← hparty] at hclaim
  rw [Work.attemptCas, hdet, if_neg Bool.false_ne_true, access_of hreach l.isLt]
  simp only [hclaim, Bool.false_eq_true, if_false, hdata]
  rw [h.stopWaiting_claim hwaits hparty, ((h.claiming pa).setBlock b).addEff_sendValue_served hmems, Work.setBlock_setBlock]
  rfl

/-- A RED that its task may do leaves its operand (R220, R221). -/
theorem reduce_acts {u : Option Bool} (h : Holds s w b) (hmems : b.mems = []) (hallowed : s.work.det = false ∨ aop.toNat < 9)
    (hreach : reaches s .red size l.toNat w pa u) :
    s.work.reduce n.toNat aop.toNat size l r = w.setBlock { phased s b .performed with mems := [effectOf s n (.red aop.toNat) pa size r] } := by
  have hturn : ¬(s.work.det && decide (9 ≤ aop.toNat)) = true := by
    rcases hallowed with hdet | haop
    · simp [hdet]
    · simp [haop]
  rw [Work.reduce, if_neg hturn, access_of hreach l.isLt, h.addEff_served hmems]

end

theorem lift_congr {s : State} {f g : Work → Work} (h : f s.work = g s.work) : s.lift f = s.lift g := congrArg s.put h

/-- What AMO, CAS and RED do with their operands. -/
theorem exec_amo (s : State) (pr : BitVec 2) (n aop : BitVec 5) (wid : BitVec 1) (t0 : BitVec 9) : exec (.amo pr n aop wid t0) s
    = fireMem n.toNat true (shape (.amo pr n aop wid t0))
        (fun a v _ w => w.attemptAmo (shape (.amo pr n aop wid t0)) n.toNat aop.toNat (accSize wid) a v) s := rfl
theorem exec_cas (s : State) (n : BitVec 5) (wid : BitVec 1) (t0 : BitVec 9) : exec (.cas n wid t0) s
    = fireMem n.toNat true (shape (.cas n wid t0)) (fun a v x w => w.attemptCas (shape (.cas n wid t0)) n.toNat (accSize wid) a v x) s := rfl
theorem exec_red (s : State) (pr : BitVec 2) (n aop : BitVec 5) (wid : BitVec 1) : exec (.red pr n aop wid) s
    = fireMem n.toNat true (shape (.red pr n aop wid)) (fun a v _ w => w.reduce n.toNat aop.toNat (accSize wid) a v) s := rfl

/-- The second half of O18. -/
theorem atomicsComplete : Claims.AtomicsComplete := by
  refine ⟨?amo, ?cas, ?red, ?amoDet, ?casDet, ?redDet⟩
  case amo =>
    intro s pr n aop wid t0 b l r p w pa new h ht hmems hwaits hdet hreach hpa hclaim hnew
    have hkeep := reaches_translated hreach
    have hsize : 0 < if wid = 1#1 then 4 else 8 := by split <;> decide
    rw [exec_amo, fireMem_store h ht, word_left h rfl, word_right h rfl, accSize_eq]
    exact congrArg _ (lift_through (attemptAmo_acts _ ((Holds.of_ready h).of_translated hkeep) hmems hwaits hkeep.party hdet hreach hpa hclaim
      hsize hnew))
  case cas =>
    intro s n wid t0 b l r p w pa h ht hmems hwaits hdet hreach hpa hclaim
    have hkeep := reaches_translated hreach
    rw [exec_cas, fireMem_store h ht, word_left h rfl, word_right h rfl, word_third h rfl, accSize_eq]
    exact congrArg _ (lift_through (attemptCas_acts _ ((Holds.of_ready h).of_translated hkeep) hmems hwaits hkeep.party hdet hreach hpa hclaim))
  case red =>
    intro s pr n aop wid b l r p w pa u h ht hmems hallowed hreach
    rw [exec_red, fireMem_store h ht, word_left h rfl, word_right h rfl, accSize_eq]
    exact congrArg _ (lift_through (reduce_acts ((Holds.of_ready h).of_translated (reaches_translated hreach)) hmems hallowed hreach))
  case amoDet =>
    intro s pr n aop wid t0 b l r p h ht hdet
    rw [exec_amo, fireMem_store h ht, ← trap_eq h.1.1]
    exact congrArg _ (lift_congr (if_pos hdet))
  case casDet =>
    intro s n wid t0 b l r p h ht hdet
    rw [exec_cas, fireMem_store h ht, ← trap_eq h.1.1]
    exact congrArg _ (lift_congr (if_pos hdet))
  case redDet =>
    intro s pr n aop wid b l r p h ht hdet haop
    rw [exec_red, fireMem_store h ht, ← trap_eq h.1.1]
    exact congrArg _ (lift_congr (if_pos (by simp [hdet, haop])))

/-- Settles O18: every store and atomic operation is one access, and leaves one effect in its block. -/
theorem storesAndAtomicsTakeEffect : Obligations.StoresAndAtomicsTakeEffect := ⟨storesComplete, atomicsComplete⟩

end Sys2Proof.Machine
end

section
/-! SUPPORT. Where commits store words into a memory that is not in its canonical form: a cell out of order keeps its value when the byte is
set to 0, so that the word does not read as stored. The clauses of O21 and O25 on CQPOP, FREE and POOLGROW do not ask for that form. -/

namespace Sys2Proof.Machine

open Sys2Proof Sys2Proof.Claims Sys2Proof.Laws

/-- A block of an instruction and HALT, both performed, with effects of the first for commit. -/
def beforeHalt (i : Instr) (es : List (Nat × Effect)) : Block :=
  { addr := 0x400, words := [encode i, encode (.halt 0)], writes := [], held := [], nr := 0, ns := 0, fw := true
    insts := [{ phase := .performed }, { phase := .performed }], effs := es, exits := [⟨1, .halt, 0⟩] }

/-- That block has ended in context 0 of tile 0; memory holds 1 at byte 100 and, listed behind it, 7 at byte 8. -/
def unsortedCells (i : Instr) (es : List (Nat × Effect)) : State :=
  { State.reset with
      mem := [(100, 1), (8, 7)]
      core := { tiles := [(0, { ctxs := [(0, { status := .running, fw := true, block := some (beforeHalt i es) })] })] } }

/-- A word of memory in the state that an event leaves, if it happens. -/
def wordAfter (a : Nat) : Host.Outcome State Fault Refusal → Option Word
  | .next u => some (u.work.word a)
  | .fault _ | .refused _ => none

/-- The CQPOP's record is the word 0 for address 8. -/
def poppedZero : List (Nat × Effect) := [(0, .stores [(8, 0)]), (0, .cqpop 0 0)]

theorem unsortedCells_pop_commits : commits (unsortedCells (.cqpop 0 0 0x180 0x180) poppedZero) 0 0 (beforeHalt (.cqpop 0 0 0x180 0x180) poppedZero)
    ⟨1, .halt, 0⟩ poppedZero := by
  unfold commits flying mayCommit atEnd; decide +kernel

/-- The popped word does not read as stored. -/
theorem unsortedCells_pop_keeps :
    wordAfter 8 (exec (.blockEnd 0 0) (unsortedCells (.cqpop 0 0 0x180 0x180) poppedZero)) = some 7 := by decide +kernel

/-- Refutes O21: in its last clause the words that a CQPOP stores do not read as stored where memory is not in canonical form. -/
theorem not_queueConfigAndCombining : ¬ Obligations.QueueConfigAndCombining := by
  intro ⟨_, _, hcommit⟩
  obtain ⟨_, hpop⟩ := hcommit (unsortedCells (.cqpop 0 0 0x180 0x180) poppedZero) 0 0 (beforeHalt (.cqpop 0 0 0x180 0x180) poppedZero)
    ⟨1, .halt, 0⟩ 0 0 {} (by decide) rfl
  obtain ⟨u, hnext, _, hwords, _⟩ := hpop [(8, 0)] 0 unsortedCells_pop_commits (by decide) (by decide) rfl (by decide)
  have hkept := unsortedCells_pop_keeps
  rw [hnext, wordAfter, hwords (8, 0) (List.mem_singleton.mpr rfl)] at hkept
  nomatch hkept

/-- FREE of a block at address 8, of class 0, to the pool at 1,024, whose list is empty. -/
def freedBlock : List (Nat × Effect) := [(0, .pfree 1024 0 1 8)]

theorem unsortedCells_free_commits : commits (unsortedCells (.free 0) freedBlock) 0 0 (beforeHalt (.free 0) freedBlock) ⟨1, .halt, 0⟩ freedBlock := by
  unfold commits flying mayCommit atEnd; decide +kernel

/-- The freed block's link does not read as stored. -/
theorem unsortedCells_free_keeps : wordAfter 8 (exec (.blockEnd 0 0) (unsortedCells (.free 0) freedBlock)) = some 7 := by decide +kernel

/-- Refutes O25: in its clause on FREE the freed block's first word does not read as the list's old head where memory is not in canonical
form. -/
theorem not_commitWritesSpecialRegisters : ¬ Obligations.CommitWritesSpecialRegisters := by
  intro ⟨_, hcommit⟩
  obtain ⟨_, _, _, _, hfree, _⟩ := hcommit (unsortedCells (.free 0) freedBlock) 0 0 (beforeHalt (.free 0) freedBlock) ⟨1, .halt, 0⟩ 0
  obtain ⟨u, hnext, hwords, _⟩ := hfree 1024 0 1 8 unsortedCells_free_commits (by decide +kernel) (by decide) (by decide) (by decide)
  have hhead : (unsortedCells (.free 0) freedBlock).work.word (1024 + 64 + 8 * 0) = 0 := by decide +kernel
  have hkept := unsortedCells_free_keeps
  rw [hnext, wordAfter, hwords (8, _) (List.mem_cons_self ..), hhead] at hkept
  nomatch hkept

end Sys2Proof.Machine
end

section
/-! SUPPORT. What memory and the presence bits read as after a meaning (05 R94, R95): through the log, and after its stores and bits. -/

namespace Sys2Proof.Machine

open Sys2Proof Sys2Proof.Claims Sys2Proof.Laws

/-! ### Presence bits through the log -/

theorem fullGet_fullClear (f : List Nat) (k n j : Nat) : fullGet (fullClear f k n) j = (if k ≤ j ∧ j < k + n then false else fullGet f j) := by
  induction f with
  | nil => simp [fullClear, fullGet]
  | cons i f ih =>
    unfold fullClear at ih ⊢
    rw [List.filter_cons]
    split
    next hi =>
      have hi : i < k ∨ k + n ≤ i := by simpa using hi
      rw [fullGet, fullGet, ih]
      by_cases hj : j = i
      · subst hj
        rw [if_pos (beq_self_eq_true j), if_pos (beq_self_eq_true j), if_neg (by omega)]
      · have hne : ¬(j == i) = true := by simpa using hj
        rw [if_neg hne, if_neg hne]
    next hi =>
      have hi : k ≤ i ∧ i < k + n := by simpa using hi
      rw [ih, fullGet]
      by_cases hj : j = i
      · subst hj
        rw [if_pos hi, if_pos hi]
      · rw [if_neg (by simpa using hj : ¬(j == i) = true)]

theorem fullGet_fullFill {f : List Nat} (h : fullWf f = true) (k n j : Nat) :
    fullGet (fullFill f k n) j = (if k ≤ j ∧ j < k + n then true else fullGet f j) := by
  induction n with
  | zero => rw [fullFill, if_neg (by omega)]
  | succ n ih =>
    rw [fullFill, fullGet_fullSet _ _ _ (fullFill_wf k n h), ih]
    by_cases hj : j = k + n
    · rw [if_pos (by simpa using hj), if_pos (by omega)]
    · rw [if_neg (by simpa using hj)]
      exact if_congr (by omega) rfl rfl

/-- What a meaning reads of a bit through its log is what the machine holds once the log is applied. -/
theorem bitFrom_applyFull {f : List Nat} (h : fullWf f = true) (log : List MemOp) (k : Nat) : fullGet (applyFull f log) k = Work.bitFrom f k log := by
  induction log with
  | nil => rfl
  | cons op log ih =>
    have hwf := applyFull_wf log h
    cases op with
    | byte a v => exact ih
    | zero a n => exact ih
    | bit j b => rw [applyFull, MemOp.onFull, fullGet_fullSet _ _ _ hwf, ih]; rfl
    | bits j n b =>
      cases b with
      | true => rw [applyFull, MemOp.onFull, fullGet_fullFill hwf, ih, Work.bitFrom]; simp
      | false => rw [applyFull, MemOp.onFull, fullGet_fullClear, ih, Work.bitFrom]; simp

/-! ### The state that a meaning leaves -/

section
variable {s : State} {w : Work} (hs : s.canonical) (hmem : w.mem = s.mem)
include hs hmem

theorem readByte_put (a : Nat) : (s.put w).readByte a = w.byte a := by
  rw [State.readByte, State.put_mem, byteFrom_applyMem hs.1, Work.byte, hmem]

omit hmem in
theorem readFull_put (hfull : w.full = s.full) (k : Nat) : (s.put w).readFull k = w.isFull k := by
  rw [State.readFull, State.put_full, bitFrom_applyFull hs.2, Work.isFull, hfull]

end

/-! ### Stores and bits -/

/-- `u` is `w` with other changes of memory and presence bits made so far. -/
def Logged (w u : Work) : Prop := ∃ log, u = { w with log := log }

namespace Logged

variable {w u v : Work}

theorem refl (w : Work) : Logged w w := ⟨w.log, rfl⟩

theorem trans (h : Logged w u) (k : Logged u v) : Logged w v := by
  obtain ⟨_, rfl⟩ := h
  obtain ⟨log, rfl⟩ := k
  exact ⟨log, rfl⟩

theorem mem (h : Logged w u) : u.mem = w.mem := by obtain ⟨_, rfl⟩ := h; rfl
theorem full (h : Logged w u) : u.full = w.full := by obtain ⟨_, rfl⟩ := h; rfl
theorem core (h : Logged w u) : u.core = w.core := by obtain ⟨_, rfl⟩ := h; rfl
theorem focus (h : Logged w u) : u.focus = w.focus := by obtain ⟨_, rfl⟩ := h; rfl
theorem hq (h : Logged w u) (n : Nat) : u.hq n = w.hq n := by rw [Work.hq, Work.hq, h.core]

end Logged

namespace Work

theorem store_logged (n : Nat) (w : Work) (a v : Nat) : Logged w (w.store a n v) := by
  induction n generalizing w a v with
  | zero => exact .refl w
  | succ n ih => exact Logged.trans ⟨_, rfl⟩ (ih (w.putByte a (BitVec.ofNat 8 v)) _ _)

theorem isFull_store (n : Nat) (w : Work) (a v k : Nat) : (w.store a n v).isFull k = w.isFull k := by
  induction n generalizing w a v with
  | zero => rfl
  | succ n ih => exact (ih _ _ _).trans rfl

theorem word_putWord_same (w : Work) (a : Nat) (v : Word) : (w.putWord a v).word a = v := by
  have hv : v.toNat % 256 ^ 8 = v.toNat := Nat.mod_eq_of_lt v.isLt
  rw [word, putWord, load_store_same, hv, BitVec.ofNat_toNat, BitVec.setWidth_eq]

section
variable {w : Work} {k : Nat} (b : Bool) (h : k / 8 ∉ w.core.watched)
include h

/-- Nobody waits for a word of a line that is not watched. -/
theorem setBit_unwatched : w.setBit k b = if isHost (k * 8) || w.isFull k == b then w else { w with log := .bit k b :: w.log } := by
  have hline : w.core.watched.contains (k / 8) = false := by simpa using h
  rw [setBit]
  dsimp only
  rw [hline, if_neg Bool.false_ne_true]

theorem setBit_logged : Logged w (w.setBit k b) := by
  rw [setBit_unwatched b h]
  split
  · exact .refl w
  · exact ⟨_, rfl⟩

theorem byte_setBit (a : Nat) : (w.setBit k b).byte a = w.byte a := by
  rw [setBit_unwatched b h]
  split <;> rfl

theorem word_setBit (a : Nat) : (w.setBit k b).word a = w.word a := by
  rw [word, word, load_congr fun x _ _ => byte_setBit b h x]

theorem isFull_setBit_same (hhost : isHost (k * 8) = false) : (w.setBit k b).isFull k = b := by
  rw [setBit_unwatched b h, hhost, Bool.false_or]
  split
  next heq => exact beq_iff_eq.mp heq
  next => simp [isFull, bitFrom, hhost]

theorem isFull_setBit_other {j : Nat} (hj : j ≠ k) : (w.setBit k b).isFull j = w.isFull j := by
  rw [setBit_unwatched b h]
  split
  · rfl
  · simp [isFull, bitFrom, hj]

end

end Work

end Sys2Proof.Machine
end

section
/-! SUPPORT. The end of a block that commits its effects (09 R180, R181; 11 R214): which effects it has in which order, and what the end of the
commit leaves as those effects made it. -/

namespace Sys2Proof.Machine

open Sys2Proof Sys2Proof.Claims Sys2Proof.Laws

/-! ### Effects that the end of a block does not check -/

/-- An effect that adds no trap at the end of its block, needs no room in the wide queue and waits for no switch. -/
def plainEffect : Effect → Bool
  | .wide _ | .arm _ _ | .switch _ | .abort _ _ | .pfree _ _ _ _ | .pgrow _ _ _ => false
  | _ => true

section
variable {b : Block} (h : ∀ e ∈ b.effs, plainEffect e.2 = true)
include h

theorem wideOps_of_plain : b.wideOps = [] := by
  refine List.flatMap_eq_nil_iff.mpr fun i _ => List.filterMap_eq_nil_iff.mpr fun e he => ?_
  have hp := h e he
  split
  next heq => rw [heq] at hp; nomatch hp
  next => rfl

theorem wrunTraps_of_plain (x : Tile) : wrunTraps x b = [] := by
  refine List.filterMap_eq_nil_iff.mpr fun e he => ?_
  have hp := h e he
  split
  next heq => rw [heq] at hp; nomatch hp
  next => rfl

theorem poolTraps_of_plain (w : Work) : w.poolTraps b = [] := by
  refine List.filterMap_eq_nil_iff.mpr fun e he => ?_
  have hp := h e he
  dsimp only
  split
  next heq => rw [heq] at hp; nomatch hp
  next heq => rw [heq] at hp; nomatch hp
  next => rfl

theorem armTraps_of_plain (w : Work) : w.armTraps b = [] := by
  have harms : (List.range b.insts.length).flatMap (fun i => b.effs.filterMap (fun e => match e.2 with
      | .arm _ n => if e.1 == i then some (i, n) else none
      | _ => none)) = [] := by
    refine List.flatMap_eq_nil_iff.mpr fun i _ => List.filterMap_eq_nil_iff.mpr fun e he => ?_
    have hp := h e he
    split
    next heq => rw [heq] at hp; nomatch hp
    next => rfl
  exact congrArg (fun arms => (List.foldl _ (0, []) arms).2) harms

theorem switchTraps_of_plain (w : Work) : w.switchTraps b = [] := by
  have hidx : (List.range b.insts.length).flatMap (fun i => (b.effs.filter (fun e => e.1 == i && Work.switches e.2)).map (fun _ => i)) = [] := by
    refine List.flatMap_eq_nil_iff.mpr fun i _ => List.map_eq_nil_iff.mpr (List.filter_eq_nil_iff.mpr fun e he => ?_)
    have hp := h e he
    unfold Work.switches
    split
    next heq => rw [heq] at hp; nomatch hp
    next heq => rw [heq] at hp; nomatch hp
    next => simp
  unfold Work.switchTraps
  rw [hidx]
  dsimp only
  rw [List.drop_nil, List.map_nil]

end

/-! ### The order of the effects (17 R343) -/

/-- Of lists indexed by numbers below `n` only the one at `j` counts, when the others are empty. -/
theorem flatMap_range_single {α : Type} {f : Nat → List α} {j : Nat} (hf : ∀ i, i ≠ j → f i = []) {n : Nat} (hj : j < n) :
    (List.range n).flatMap f = f j := by
  induction n with
  | zero => omega
  | succ n ih =>
    rw [List.range_succ, List.flatMap_append, List.flatMap_singleton]
    rcases Nat.lt_succ_iff_lt_or_eq.mp hj with hlt | rfl
    · rw [ih hlt, hf n (by omega), List.append_nil]
    · rw [List.flatMap_eq_nil_iff.mpr fun i hi => hf i (by have := List.mem_range.mp hi; omega), List.nil_append]

/-- The effects of one instruction, none of them an engine command, keep their order. -/
theorem effectsInOrder_of_single {b : Block} {j : Nat} {es : List Effect} (heffs : b.effs = es.map (j, ·)) (hj : j < b.words.length)
    (hcommands : ∀ e ∈ es, Work.commands e = false) : Work.effectsInOrder b = es := by
  have hat : ∀ i, (b.effs.filter (fun e => e.1 == i)).map (·.2) = if i = j then es else [] := fun i => by
    rw [heffs]
    by_cases hi : i = j
    · subst hi
      rw [if_pos rfl, List.filter_eq_self.mpr (by simp), List.map_map]
      exact List.map_id es
    · rw [if_neg hi, List.filter_eq_nil_iff.mpr (by simpa using fun _ _ => Ne.symm hi), List.map_nil]
  have hall : (List.range b.words.length).flatMap (fun i => (b.effs.filter (fun e => e.1 == i)).map (·.2)) = es := by
    rw [flatMap_range_single (j := j) (fun i hi => by rw [hat, if_neg hi]) hj, hat, if_pos rfl]
  have hkept : es.filter (fun e => !Work.commands e) = es := List.filter_eq_self.mpr (by simpa using hcommands)
  have hnone : es.filter Work.commands = [] := List.filter_eq_nil_iff.mpr (by simpa using hcommands)
  rw [Work.effectsInOrder, hall, hkept, hnone, List.append_nil]

/-! ### The commit -/

/-- The machine when a block commits, its registers written. -/
def Work.committing (w : Work) (b : Block) : Work := w.setCtx w.focus.tile w.focus.ctx (Work.writeRegs w.me b)

/-- Without a switch that waits every effect is made at once. -/
theorem untilSwitch_of_plain {es : List Effect} (h : ∀ e ∈ es, plainEffect e = true) (w : Work) :
    w.untilSwitch es = (es.foldl Work.commitEffect w, []) := by
  induction es generalizing w with
  | nil => rfl
  | cons e es ih =>
    have hp := h e (List.mem_cons_self ..)
    have hheld : w.switchHeld e = false := by
      unfold Work.switchHeld
      split
      next => nomatch hp
      next => nomatch hp
      next => rfl
    rw [Work.untilSwitch, hheld, if_neg Bool.false_ne_true, ih fun x hx => h x (List.mem_cons_of_mem _ hx)]
    rfl

theorem commitBlock_of_plain {b : Block} {es : List Effect} (hes : Work.effectsInOrder b = es) (h : ∀ e ∈ es, plainEffect e = true) (w : Work) :
    w.commitBlock b = (es.foldl Work.commitEffect (es.foldl Work.commitStores (b.mems.foldl Work.commitMem (w.committing b)))).endCommit b := by
  rw [Work.commitBlock, hes]
  rw [Work.goOn, untilSwitch_of_plain h]
  rfl

/-- A block with nothing to report commits, when nobody else claims a word that it writes. -/
theorem blockEnd_commitBlock {s : State} {t c : Nat} {b : Block} {x : ExitFired} (hf : flying s t c b) (h : mayCommit b x)
    (hplain : ∀ e ∈ b.effs, plainEffect e.2 = true) (hclear : ((s.work.at_ t c 0).commitBlock b).writesClaimed none = false) :
    exec (.blockEnd t c) s = .next (s.put ((s.work.at_ t c 0).commitBlock b)) := by
  have hblock : (s.work.at_ t c 0).block = some b := hf.1
  have hrun : (s.work.at_ t c 0).me.status = .running := hf.2
  have hroom : (s.work.at_ t c 0).wideRoom b = true := by simp [Work.wideRoom, wideOps_of_plain hplain]
  have htraps : ({ b with traps := b.traps ++ wrunTraps ((s.work.at_ t c 0).tile (s.work.at_ t c 0).focus.tile) b
      ++ (s.work.at_ t c 0).poolTraps b ++ (s.work.at_ t c 0).armTraps b ++ (s.work.at_ t c 0).switchTraps b } : Block) = b := by
    rw [wrunTraps_of_plain hplain, poolTraps_of_plain hplain, armTraps_of_plain hplain, switchTraps_of_plain hplain]
    simp
  refine (exec_blockEnd t c s).trans (happen_some ?_)
  unfold Work.blockEnd
  rw [hblock]
  dsimp only
  rw [hrun, if_neg (by decide)]
  split
  next hes => rw [h.2.1] at hes; nomatch hes
  next =>
    rw [ended_of_atEnd h.1, if_pos rfl, htraps, report_of_mayCommit h, hroom]
    simp [Work.unlessClaimed, Option.filter, hclear]

/-! ### What the end of a commit leaves -/

/-- A queue with the claims and the pending pushes of a party taken off (11 R228). -/
def HQueue.without (q : HQueue) (p : Nat) : HQueue :=
  { q with entries := q.entries.map (fun r => if r.claim == some p then { r with claim := none } else r), pending := q.pending.filter (· != p) }

/-- A queue that a party has nothing on stays. -/
theorem HQueue.without_eq_self {q : HQueue} {p : Nat} (hentries : ∀ r ∈ q.entries, r.claim ≠ some p) (hpending : p ∉ q.pending) :
    q.without p = q := by
  have hmap : q.entries.map (fun r => if r.claim == some p then { r with claim := none } else r) = q.entries := by
    conv_rhs => rw [← List.map_id q.entries]
    exact List.map_congr_left fun r hr => if_neg (by simpa using hentries r hr)
  have hfilter : q.pending.filter (· != p) = q.pending := List.filter_eq_self.mpr fun a ha => by
    rw [bne_iff_ne]
    rintro rfl
    exact hpending ha
  rw [HQueue.without, hmap, hfilter]

/-- The machine at the end of a commit, before what the block holds is released. -/
def Work.exiting (w : Work) (b : Block) : Work :=
  let w := w.setCtx w.focus.tile w.focus.ctx { w.me with fpflags := w.me.fpflags ||| b.flags }
  let w := w.enqueueWide b
  w.setCtx w.focus.tile w.focus.ctx (Work.afterCommit w.me b)

theorem endCommit_eq_release (w : Work) (b : Block) :
    w.endCommit b = ((w.exiting b).release w.party).setLast w.focus.tile w.focus.ctx := rfl

/-- Flags, wide instructions and exit change tiles alone. -/
theorem exiting_eq (w : Work) (b : Block) : ∃ tiles, w.exiting b = { w with core := { w.core with tiles := tiles } } := ⟨_, rfl⟩

section
variable {w : Work} (h : w.core.marks = []) (b : Block)
include h

/-- A release changes the core alone. -/
theorem release_eq (p : Nat) : ∃ core, w.release p = { w with core := core } ∧ core.claims = w.core.claims.filter (fun k => k.party != p)
    ∧ core.hwq = w.core.hwq.map (fun q => (q.1, q.2.without p)) := by
  rw [Work.release, Work.releaseClaims_of_noMarks h]
  exact ⟨_, rfl, rfl, rfl⟩

/-- The end of a commit changes the core alone. -/
theorem endCommit_eq : ∃ core, w.endCommit b = { w with core := core }
    ∧ core.claims = w.core.claims.filter (fun k => k.party != w.party)
    ∧ core.hwq = w.core.hwq.map (fun q => (q.1, q.2.without w.party)) := by
  obtain ⟨tiles, hexit⟩ := exiting_eq w b
  have hmarks : (w.exiting b).core.marks = [] := by rw [hexit]; exact h
  obtain ⟨core, heq, hclaims, hhwq⟩ := release_eq hmarks w.party
  rw [hexit] at hclaims hhwq
  rw [endCommit_eq_release, heq, hexit]
  exact ⟨_, rfl, hclaims, hhwq⟩

theorem endCommit_mem : (w.endCommit b).mem = w.mem := by obtain ⟨_, heq, _⟩ := endCommit_eq h b; rw [heq]
theorem endCommit_full : (w.endCommit b).full = w.full := by obtain ⟨_, heq, _⟩ := endCommit_eq h b; rw [heq]
theorem endCommit_log : (w.endCommit b).log = w.log := by obtain ⟨_, heq, _⟩ := endCommit_eq h b; rw [heq]

theorem endCommit_byte (y : Nat) : (w.endCommit b).byte y = w.byte y := by obtain ⟨_, heq, _⟩ := endCommit_eq h b; rw [heq]; rfl
theorem endCommit_isFull (k : Nat) : (w.endCommit b).isFull k = w.isFull k := by obtain ⟨_, heq, _⟩ := endCommit_eq h b; rw [heq]; rfl

theorem endCommit_hq (n : Nat) : (w.endCommit b).hq n = (w.hq n).without w.party := by
  obtain ⟨core, heq, _, hhwq⟩ := endCommit_eq h b
  have hmap : mapGet ({} : HQueue) n (w.core.hwq.map (fun q => (q.1, q.2.without w.party))) = (mapGet {} n w.core.hwq).without w.party :=
    mapGet_map ({} : HQueue) (fun q => q.without w.party) rfl n w.core.hwq
  rw [Work.hq, Work.hq, heq, hhwq, hmap]

theorem endCommit_claims : (w.endCommit b).core.claims = w.core.claims.filter (fun k => k.party != w.party) := by
  obtain ⟨core, heq, hclaims, _⟩ := endCommit_eq h b
  rw [heq, hclaims]

/-- The context has no block any more. -/
theorem endCommit_block {x : ExitFired} (hx : b.exits = [x]) : ((w.endCommit b).ctx w.focus.tile w.focus.ctx).block = none := by
  have hown : (w.exiting b).ctx w.focus.tile w.focus.ctx
      = Work.afterCommit (((w.setCtx w.focus.tile w.focus.ctx { w.me with fpflags := w.me.fpflags ||| b.flags }).enqueueWide b).me) b :=
    Work.ctx_setCtx_same _ _ _ _
  have hmarks : (w.exiting b).core.marks = [] := h
  obtain ⟨claimant, hrelease⟩ := Work.ctx_release hmarks w.party w.focus.tile w.focus.ctx
  rw [endCommit_eq_release, Work.ctx_setLast, hrelease, hown, afterCommit_eq _ hx]

end

end Sys2Proof.Machine
end

section
/-! SUPPORT. The commit of one memory effect (11 R214): what it writes, and that it touches no other word. -/

namespace Sys2Proof.Machine

open Sys2Proof Sys2Proof.Claims Sys2Proof.Laws

/-! ### Which words a meaning touches -/

/-- `u` is `w` with changes of word `k` alone, and perhaps reservations ended. -/
def OnWord (k : Nat) (w u : Work) : Prop :=
  ∃ log resv, u = { w with log := log, core := { w.core with resv := resv } } ∧ ∀ op ∈ log, op ∈ w.log ∨ ∀ j, op.touches j = true → j = k

namespace OnWord

variable {k : Nat} {w u v : Work}

theorem refl (k : Nat) (w : Work) : OnWord k w w := ⟨w.log, w.core.resv, rfl, fun _ h => .inl h⟩

theorem trans (h : OnWord k w u) (h' : OnWord k u v) : OnWord k w v := by
  obtain ⟨_, _, rfl, hops⟩ := h
  obtain ⟨log, resv, rfl, hops'⟩ := h'
  exact ⟨log, resv, rfl, fun op hop => (hops' op hop).elim (hops op) .inr⟩

theorem mem (h : OnWord k w u) : u.mem = w.mem := by obtain ⟨_, _, rfl, _⟩ := h; rfl
theorem full (h : OnWord k w u) : u.full = w.full := by obtain ⟨_, _, rfl, _⟩ := h; rfl
theorem marks (h : OnWord k w u) : u.core.marks = w.core.marks := by obtain ⟨_, _, rfl, _⟩ := h; rfl
theorem claims (h : OnWord k w u) : u.core.claims = w.core.claims := by obtain ⟨_, _, rfl, _⟩ := h; rfl
theorem focus (h : OnWord k w u) : u.focus = w.focus := by obtain ⟨_, _, rfl, _⟩ := h; rfl
theorem watched (h : OnWord k w u) : u.core.watched = w.core.watched := by obtain ⟨_, _, rfl, _⟩ := h; rfl

/-- Nothing but the word is touched where nothing was before. -/
theorem touches (h : OnWord k w u) (hlog : w.log = []) {op : MemOp} (hop : op ∈ u.log) {j : Nat} (hj : op.touches j = true) : j = k := by
  obtain ⟨_, _, rfl, hops⟩ := h
  rcases hops op hop with hold | hnew
  · rw [hlog] at hold; nomatch hold
  · exact hnew j hj

theorem store {n a : Nat} (ha : ∀ x, a ≤ x → x < a + n → x / 8 = k) (w : Work) (v : Nat) : OnWord k w (w.store a n v) := by
  induction n generalizing w a v with
  | zero => exact refl k w
  | succ n ih =>
    have hfirst : OnWord k w (w.putByte a (BitVec.ofNat 8 v)) := ⟨_, _, rfl, fun op hop => by
      rcases List.mem_cons.mp hop with rfl | hold
      · exact .inr fun j hj => (beq_iff_eq.mp hj).symm.trans (ha a (Nat.le_refl a) (by omega))
      · exact .inl hold⟩
    exact hfirst.trans (ih (fun x hx hx' => ha x (by omega) (by omega)) _ _)

theorem setBit (b : Bool) (h : k / 8 ∉ w.core.watched) : OnWord k w (w.setBit k b) := by
  rw [Work.setBit_unwatched b h]
  split
  · exact refl k w
  · refine ⟨_, _, rfl, fun op hop => ?_⟩
    rcases List.mem_cons.mp hop with rfl | hold
    · exact .inr fun j hj => (beq_iff_eq.mp hj).symm
    · exact .inl hold

theorem endResv (w : Work) (k j p : Nat) : OnWord k w (w.endResv j p) := ⟨_, _, rfl, fun _ h => .inl h⟩

end OnWord

/-! ### One memory effect -/

/-- An access that is aligned to its size lies in one word. -/
theorem div_eq_of_aligned {size pa : Nat} (hsize : size ∈ [1, 2, 4, 8]) (ha : pa % size = 0) {x : Nat} (hx : pa ≤ x) (hx' : x < pa + size) :
    x / 8 = pa / 8 := by
  simp only [List.mem_cons, List.not_mem_nil, or_false] at hsize
  rcases hsize with rfl | rfl | rfl | rfl <;> omega

section
variable (w : Work) {e : MemEff}

theorem writeData_stores (h : e.kind = .plain ∨ e.kind = .fill ∨ e.kind = .clear ∨ e.kind = .amo ∨ e.kind = .cas true) :
    MemEff.writeData w e = w.store e.pa e.size e.data.toNat := by
  rcases h with h | h | h | h | h <;> simp [MemEff.writeData, h]

theorem writeData_keeps (h : e.kind = .consume ∨ e.kind = .cas false) : MemEff.writeData w e = w := by
  rcases h with h | h <;> simp [MemEff.writeData, h]

theorem writeData_reduces {aop : Nat} (h : e.kind = .red aop) :
    MemEff.writeData w e = w.store e.pa e.size (aopNew aop e.size (w.load e.pa e.size) e.data.toNat) := by
  simp [MemEff.writeData, h]

/-- An effect stores a number at its address, or nothing. -/
theorem writeData_cases (e : MemEff) : (∃ v, MemEff.writeData w e = w.store e.pa e.size v) ∨ MemEff.writeData w e = w := by
  cases hk : e.kind with
  | plain => exact .inl ⟨_, writeData_stores w (.inl hk)⟩
  | fill => exact .inl ⟨_, writeData_stores w (.inr (.inl hk))⟩
  | clear => exact .inl ⟨_, writeData_stores w (.inr (.inr (.inl hk)))⟩
  | amo => exact .inl ⟨_, writeData_stores w (.inr (.inr (.inr (.inl hk))))⟩
  | consume => exact .inr (writeData_keeps w (.inl hk))
  | red aop => exact .inl ⟨_, writeData_reduces w hk⟩
  | cas hit =>
    cases hit
    · exact .inr (writeData_keeps w (.inr hk))
    · exact .inl ⟨_, writeData_stores w (.inr (.inr (.inr (.inr hk))))⟩

end

theorem writeData_onWord {e : MemEff} (hsize : e.size ∈ [1, 2, 4, 8]) (ha : e.pa % e.size = 0) (w : Work) :
    OnWord (e.pa / 8) w (MemEff.writeData w e) := by
  rcases writeData_cases w e with ⟨v, hstore⟩ | hkeep
  · rw [hstore]
    exact .store (fun x hx hx' => div_eq_of_aligned hsize ha hx hx') w v
  · rw [hkeep]
    exact .refl _ w

theorem isFull_writeData (w : Work) (e : MemEff) (k : Nat) : (MemEff.writeData w e).isFull k = w.isFull k := by
  rcases writeData_cases w e with ⟨v, hstore⟩ | hkeep
  · rw [hstore, Work.isFull_store]
  · rw [hkeep]

section
variable {w : Work} {e : MemEff} (hpa : classify e.pa ≠ .control)
include hpa

theorem commitMem_of_noBit (hbit : e.newBit = none) : w.commitMem e = MemEff.writeData w e := by
  rw [Work.commitMem, if_neg (by simpa using hpa)]
  dsimp only
  rw [hbit]

/-- An effect that sets the word's bit may end a reservation. -/
theorem commitMem_of_bit {v : Bool} (hbit : e.newBit = some v) : ∃ resv, w.commitMem e =
    { (MemEff.writeData w e).setBit (e.pa / 8) v with
      core := { ((MemEff.writeData w e).setBit (e.pa / 8) v).core with resv := resv } } := by
  rw [Work.commitMem, if_neg (by simpa using hpa)]
  dsimp only
  rw [hbit]
  dsimp only
  split
  · exact ⟨_, rfl⟩
  · exact ⟨_, rfl⟩

section
variable (hsize : e.size ∈ [1, 2, 4, 8]) (ha : e.pa % e.size = 0) (hwatch : e.pa / 64 ∉ w.core.watched)
include hsize ha hwatch

omit hpa in
theorem writeData_unwatched : e.pa / 8 / 8 ∉ (MemEff.writeData w e).core.watched := by
  rw [(writeData_onWord hsize ha w).watched, Nat.div_div_eq_div_mul]
  exact hwatch

theorem commitMem_onWord : OnWord (e.pa / 8) w (w.commitMem e) := by
  have hdata := writeData_onWord hsize ha w
  cases hbit : e.newBit with
  | none => rw [commitMem_of_noBit hpa hbit]; exact hdata
  | some v =>
    obtain ⟨resv, heq⟩ := commitMem_of_bit (w := w) hpa hbit
    rw [heq]
    exact (hdata.trans (.setBit v (writeData_unwatched hsize ha hwatch))).trans ⟨_, resv, rfl, fun _ h => .inl h⟩

theorem byte_commitMem (x : Nat) : (w.commitMem e).byte x = (MemEff.writeData w e).byte x := by
  cases hbit : e.newBit with
  | none => rw [commitMem_of_noBit hpa hbit]
  | some v =>
    obtain ⟨resv, heq⟩ := commitMem_of_bit (w := w) hpa hbit
    rw [heq]
    exact Work.byte_setBit v (writeData_unwatched hsize ha hwatch) x

theorem isFull_commitMem_other {k : Nat} (hk : k ≠ e.pa / 8) : (w.commitMem e).isFull k = w.isFull k := by
  cases hbit : e.newBit with
  | none => rw [commitMem_of_noBit hpa hbit, isFull_writeData]
  | some v =>
    obtain ⟨resv, heq⟩ := commitMem_of_bit (w := w) hpa hbit
    rw [heq]
    exact (Work.isFull_setBit_other v (writeData_unwatched hsize ha hwatch) hk).trans (isFull_writeData w e k)

theorem isFull_commitMem_same (hhost : classify (e.pa / 8 * 8) ≠ .host) :
    (w.commitMem e).isFull (e.pa / 8) = e.newBit.getD (w.isFull (e.pa / 8)) := by
  have hplain : isHost (e.pa / 8 * 8) = false := by rw [isHost]; simpa using hhost
  cases hbit : e.newBit with
  | none => rw [commitMem_of_noBit hpa hbit, isFull_writeData]; rfl
  | some v =>
    obtain ⟨resv, heq⟩ := commitMem_of_bit (w := w) hpa hbit
    rw [heq]
    exact Work.isFull_setBit_same v (writeData_unwatched hsize ha hwatch) hplain

end

end

/-! ### A block with one memory effect -/

/-- The machine when the block of context `c` of tile `t` commits, its registers written and none of its effects made. -/
def beforeEffects (s : State) (t c : Nat) (b : Block) : Work := (s.work.at_ t c 0).committing b

theorem load_beforeEffects (s : State) (t c : Nat) (b : Block) (a n : Nat) : (beforeEffects s t c b).load a n = s.work.load a n :=
  Work.load_congr fun _ _ _ => rfl

/-- What a block that writes one memory effect leaves: the effect's bytes and its word's bit, and everything else as it was. -/
def Wrote (s u : State) (t c : Nat) (b : Block) (e : MemEff) : Prop :=
  (∀ y, u.readByte y = (MemEff.writeData (beforeEffects s t c b) e).byte y)
    ∧ (∀ k, k ≠ e.pa / 8 → u.readFull k = s.readFull k) ∧ u.readFull (e.pa / 8) = e.newBit.getD (s.readFull (e.pa / 8))
    ∧ (u.work.ctx t c).block = none

/-- A block whose one effect is of one word, which nobody else claims, commits it. -/
theorem blockEnd_writes {s : State} {t c : Nat} {b : Block} {x : ExitFired} {e : MemEff} (hs : s.canonical) (hf : flying s t c b)
    (h : mayCommit b x) (hmems : b.mems = [e]) (heffs : b.effs = []) (hsize : e.size ∈ [1, 2, 4, 8]) (ha : e.pa % e.size = 0)
    (hpa : classify e.pa ≠ .control) (hhost : classify (e.pa / 8 * 8) ≠ .host) (hwatch : e.pa / 64 ∉ s.core.watched)
    (hclaims : ∀ k ∈ s.core.claims, k.party ≠ t * 4 + c → k.word ≠ e.pa / 8) (hmarks : s.core.marks = []) :
    ∃ u, exec (.blockEnd t c) s = .next u ∧ Wrote s u t c b e := by
  have hplain : ∀ y ∈ b.effs, plainEffect y.2 = true := by simp [heffs]
  have hnone : Work.effectsInOrder b = [] := by simp [Work.effectsInOrder, heffs]
  have hcommit : (s.work.at_ t c 0).commitBlock b = ((beforeEffects s t c b).commitMem e).endCommit b := by
    rw [commitBlock_of_plain hnone (by simp), hmems]
    rfl
  have hword : OnWord (e.pa / 8) (beforeEffects s t c b) ((beforeEffects s t c b).commitMem e) := commitMem_onWord hpa hsize ha hwatch
  have hmarks' := hword.marks.trans hmarks
  have hparty : ((beforeEffects s t c b).commitMem e).party = t * 4 + c := by rw [Work.party, hword.focus]; rfl
  have hclear : ((s.work.at_ t c 0).commitBlock b).writesClaimed none = false := by
    rw [hcommit, Work.writesClaimed, endCommit_claims hmarks', endCommit_log hmarks', hword.claims, hparty, List.any_eq_false]
    intro k hk hwrites
    obtain ⟨hkc, hkp⟩ := List.mem_filter.mp hk
    obtain ⟨_, hany⟩ := Bool.and_eq_true_iff.mp hwrites
    obtain ⟨op, hop, htouch⟩ := List.any_eq_true.mp hany
    exact hclaims k hkc (by simpa using hkp) (hword.touches rfl hop htouch)
  have hmem := (endCommit_mem hmarks' b).trans hword.mem
  have hfull := (endCommit_full hmarks' b).trans hword.full
  have ⟨_, _, _, _, hexits, _⟩ := h
  refine ⟨_, blockEnd_commitBlock hf h hplain hclear, ?_⟩
  rw [hcommit]
  refine ⟨fun y => ?_, fun k hk => ?_, ?_, ?_⟩
  · rw [readByte_put hs hmem, endCommit_byte hmarks', byte_commitMem hpa hsize ha hwatch]
  · rw [readFull_put hs hfull, endCommit_isFull hmarks', isFull_commitMem_other hpa hsize ha hwatch hk]
    rfl
  · rw [readFull_put hs hfull, endCommit_isFull hmarks', isFull_commitMem_same hpa hsize ha hwatch hhost]
    rfl
  · have hblock := endCommit_block hmarks' b hexits
    rw [hword.focus] at hblock
    exact hblock

/-! ### The statements -/

/-- The bytes of a number that a store has written. -/
theorem byte_store_toNat (w : Work) {n a i : Nat} (v : Nat) (hi : i < n) : ((w.store a n v).byte (a + i)).toNat = v / 2 ^ (8 * i) % 2 ^ 8 := by
  have hpow : (256 : Nat) ^ i = 2 ^ (8 * i) := (pow_mul 2 8 i).symm
  rw [Work.byte_store, if_pos (by omega), Nat.add_sub_cancel_left, BitVec.toNat_ofNat, hpow]

section
variable {s u : State} {t c : Nat} {b : Block} {e : MemEff}

theorem Wrote.outside (h : Wrote s u t c b e) {y : Nat} (hy : ¬(e.pa ≤ y ∧ y < e.pa + e.size)) : u.readByte y = s.readByte y := by
  rw [h.1]
  rcases writeData_cases (beforeEffects s t c b) e with ⟨v, hstore⟩ | hkeep
  · rw [hstore, Work.byte_store_other _ _ (by omega)]
    rfl
  · rw [hkeep]
    rfl

/-- Bytes of an effect that writes a number at its address. -/
theorem Wrote.stored (h : Wrote s u t c b e) {v : Nat}
    (hv : MemEff.writeData (beforeEffects s t c b) e = (beforeEffects s t c b).store e.pa e.size v) {i : Nat} (hi : i < e.size) :
    (u.readByte (e.pa + i)).toNat = v / 2 ^ (8 * i) % 2 ^ 8 := by
  rw [h.1, hv, byte_store_toNat _ _ hi]

end

/-- The first half of O26. -/
theorem commitStores_writes : Claims.CommitStores := by
  intro s t c b x e hs hf h hmems heffs hkind hsize ha hpa hhost hwatch hclaims hmarks
  obtain ⟨u, hnext, hwrote⟩ := blockEnd_writes hs hf h hmems heffs hsize ha hpa hhost hwatch hclaims hmarks
  have hdata := writeData_stores (beforeEffects s t c b) (e := e) (hkind.imp_right (Or.imp_right .inl))
  have ⟨_, hothers, hbit, hblock⟩ := hwrote
  refine ⟨u, hnext, fun i hi => hwrote.stored hdata hi, fun a hout => hwrote.outside hout, ?_, hothers, hblock⟩
  rw [hbit, MemEff.newBit]
  rcases hkind with hk | hk | hk <;> rw [hk] <;> rfl

/-- The second half of O26. -/
theorem atomicsCommit : Claims.AtomicsCommit := by
  intro s t c b x e hs hf h hmems heffs hsize ha hkind hpa hhost hwatch hclaims hmarks
  have hsize' : e.size ∈ [1, 2, 4, 8] := by
    simp only [List.mem_cons, List.not_mem_nil, or_false] at hsize ⊢
    omega
  obtain ⟨u, hnext, hwrote⟩ := blockEnd_writes hs hf h hmems heffs hsize' ha hpa hhost hwatch hclaims hmarks
  have ⟨hbytes, hothers, hbit, hblock⟩ := hwrote
  refine ⟨u, hnext, fun a hout => hwrote.outside hout, hothers, ?bit, ?kept, ?written, ?reduced, hblock⟩
  case bit =>
    rw [hbit, MemEff.newBit]
    rcases hkind with hk | hk | ⟨hit, hk⟩ | ⟨aop, hk⟩ <;> rw [hk] <;> rfl
  case kept =>
    intro hk a
    rw [hbytes, writeData_keeps _ hk]
    rfl
  case written =>
    intro hk i hi
    exact hwrote.stored (writeData_stores _ (.inr (.inr (.inr hk)))) hi
  case reduced =>
    intro aop new hk hnew i hi
    have hsize0 : 0 < e.size := by omega
    have hold : s.work.load e.pa e.size < 2 ^ (8 * e.size) := s.work.dataAt_lt e.pa e.size none
    refine hwrote.stored ?_ hi
    rw [writeData_reduces _ hk, load_beforeEffects, aopNew_of_amoNew hsize0 hold hnew]

/-- Settles O26: a commit's one memory effect changes its own bytes and the bit of its word, and its claim ends with the block. -/
theorem commitStores : Obligations.CommitStores := ⟨commitStores_writes, atomicsCommit⟩

end Sys2Proof.Machine
end

section
/-! SUPPORT. Hardware queues at the firing of their instructions (11 R223, R228 to R231). -/

namespace Sys2Proof.Machine

open Sys2Proof Sys2Proof.Claims Sys2Proof.Laws

/-! ### What translations leave of the queues, and the operands in memory -/

theorem translated_hq {w u : Work} (h : Translated w u) (n : Nat) : u.hq n = w.hq n := by
  obtain ⟨_, _, _, _, _, _, _, rfl, _⟩ := h
  rfl

theorem translated_soleParty {w u : Work} (h : Translated w u) (first : Option Nat) : u.soleParty first = w.soleParty first := by
  rw [Work.soleParty, Work.soleParty, h.det, h.party]

theorem placeWords_translated (w : Work) (q : Who) (n va : Nat) : Translated w (w.placeWords q n va).1 := by
  induction n generalizing w va with
  | zero => exact .refl w
  | succ n ih =>
    have htr := translate_translated w q .descStore 8 va
    unfold Work.placeWords
    split
    · next e => rw [e] at htr; exact htr
    · next u pa _ e =>
      rw [e] at htr
      split
      · exact htr
      · have hrest := ih u (2 ^ 64 * (va / 2 ^ 64) + low (va + 8) 64)
        split
        · next e' => rw [e'] at hrest; exact htr.trans hrest
        · next e' => rw [e'] at hrest; exact htr.trans hrest

section
variable {s : State} {r : Word} {n : Nat} {w : Work}

theorem va_operand (s : State) (r : Word) : s.work.va r.toNat = operandVa s r := va_of _ _ r.isLt

/-- Words of an operand that can be read. -/
theorem withWords_read {k : Work → List Word → Work} {al : Nat} {ws : List Word} (hal : r.toNat % al = 0)
    (h : s.work.readWords s.work.who n (operandVa s r) = (w, .ok ws)) : s.work.withWords al n r.toNat k = k w ws := by
  rw [Work.withWords, if_neg (by simp [hal]), va_operand, h]

/-- Words that an instruction will write at its operand. -/
theorem withPlace_placed {k : Work → List Nat → Work} {al : Nat} {ps : List Nat} (hal : r.toNat % al = 0)
    (h : s.work.placeWords s.work.who n (operandVa s r) = (w, .ok ps)) : s.work.withPlace al n r.toNat k = k w ps := by
  rw [Work.withPlace, if_neg (by simp [hal]), va_operand, h]

theorem readWords_keeps {va : Nat} {q : Who} {res : Except (Nat × Nat × Nat) (List Word)} (h : s.work.readWords q n va = (w, res)) :
    Translated s.work w := by
  have := Work.readWords_translated s.work q n va
  rwa [h] at this

theorem placeWords_keeps {va : Nat} {q : Who} {res : Except (Nat × Nat × Nat) (List Nat)} (h : s.work.placeWords q n va = (w, res)) :
    Translated s.work w := by
  have := placeWords_translated s.work q n va
  rwa [h] at this

end

/-! ### The records of a queue -/

/-- The oldest record that nobody claims is the next one. -/
theorem nextRecord_of_oldest {q : HQueue} {x : QRecord} (h : oldest q x) : q.nextRecord = some x := by
  obtain ⟨before, after, hentries, hbefore, hx⟩ := h
  refine List.find?_eq_some_iff_append.mpr ⟨by rw [hx]; rfl, before, after, hentries, fun y hy => ?_⟩
  simpa [Option.isSome_iff_ne_none] using hbefore y hy

theorem nextRecord_of_claimed {q : HQueue} (h : ∀ x ∈ q.entries, x.claim ≠ none) : q.nextRecord = none :=
  List.find?_eq_none.mpr fun x hx => by simpa [Option.isNone_iff_eq_none] using h x hx

/-! ### The instructions -/

section
variable {s : State} {b : Block} {w : Work} {l r : Word} {q : HQueue}

theorem Holds.setHq (h : Holds s w b) (n : Nat) (q : HQueue) : Holds s (w.setHq n q) b := h

theorem Holds.effect_sendValue (h : Holds s w b) (i : Instr) (e : Effect) (v : Word) :
    (w.effect e).sendValue (shape i) v = w.setBlock { answered s i b v with effs := b.effs ++ [(s.focus.idx, e)] } := by
  rw [h.effect, (h.setBlock _).sendValue, Work.setBlock_setBlock]
  rfl

theorem Holds.effects_sendValue (h : Holds s w b) (i : Instr) (e f : Effect) (v : Word) :
    ((w.effect e).effect f).sendValue (shape i) v
      = w.setBlock { answered s i b v with effs := b.effs ++ [(s.focus.idx, e), (s.focus.idx, f)] } := by
  rw [h.effect, (h.setBlock _).effect_sendValue, Work.setBlock_setBlock]
  exact congrArg w.setBlock (by simp [answered, phased, listModify_listModify])

section
variable (hown : ownsQueue s l q)
include hown

theorem withQueue_owns {u : Work} (hu : Translated s.work u) (k : Work → Nat → HQueue → Work) : u.withQueue l k = k u l.toNat q := by
  obtain ⟨hlt, hq, hen, howner⟩ := hown
  exact withQueue_owned hlt ((translated_hq hu _).trans hq) hen (by rw [hu.me]; exact howner)

/-- QPUSH with room in its queue. -/
theorem firePush_room {rec : List Word} (h : Holds s s.work b) (hnone : ∀ x ∈ b.waits, x.idx ≠ s.focus.idx) (hallowed : allowed s q.pusher)
    (hal : r.toNat % 8 = 0) (hread : s.work.readWords s.work.who q.rw (operandVa s r) = (w, .ok rec))
    (hroom : recordsIn q + q.pending.length < q.hd + q.rs) :
    s.work.firePush l r = (w.setHq l.toNat { q with
        pending := s.work.party :: q.pending, pusher := if s.work.det then some s.work.party else q.pusher }).setBlock
      { phased s b .performed with effs := b.effs ++ [(s.focus.idx, .qpush l.toNat rec)] } := by
  have hkeep := readWords_keeps hread
  have hsole : s.work.soleParty q.pusher = true := soleParty_iff.mpr hallowed
  have hsole' : w.soleParty q.pusher = true := (translated_soleParty hkeep _).trans hsole
  have hw := (h.of_translated hkeep).setHq l.toNat { q with
    pending := s.work.party :: q.pending, pusher := if s.work.det then some s.work.party else q.pusher }
  rw [Work.firePush, withQueue_owns hown (.refl _), hsole, withWords_read hal hread, Work.attemptPush, withQueue_owns hown hkeep, hsole',
    noRoom_eq_false_iff.mpr hroom, hkeep.party, hkeep.det]
  dsimp only
  rw [if_neg (by decide), if_neg (by decide), if_neg (by decide), hw.stopWaiting hnone, (hw.setBlock b).effect, Work.setBlock_setBlock]

/-- QPOP with a record that nobody claims. -/
theorem attemptPop_oldest {ps : List Nat} {x : QRecord} (i : Instr) (h : Holds s s.work b) (hnone : ∀ y ∈ b.waits, y.idx ≠ s.focus.idx)
    (hallowed : allowed s q.popper) (hal : r.toNat % 8 = 0)
    (hplace : s.work.placeWords s.work.who q.rw (operandVa s r) = (w, .ok ps)) (hx : oldest q x) :
    s.work.attemptPop (shape i) l r = (w.setHq l.toNat { q with
        entries := q.entries.map (fun y => if y.seq == x.seq then { y with claim := some s.work.party } else y),
        popper := if s.work.det then some s.work.party else q.popper }).setBlock
      { answered s i b (BitVec.ofNat 64 x.seq) with
        effs := b.effs ++ [(s.focus.idx, .stores (ps.zip x.words)), (s.focus.idx, .qpop l.toNat x.seq)] } := by
  have hkeep := placeWords_keeps hplace
  have hsole : s.work.soleParty q.popper = true := soleParty_iff.mpr hallowed
  have hw := (h.of_translated hkeep).setHq l.toNat { q with
    entries := q.entries.map (fun y => if y.seq == x.seq then { y with claim := some s.work.party } else y),
    popper := if s.work.det then some s.work.party else q.popper }
  rw [Work.attemptPop, withQueue_owns hown (.refl _), hsole, withPlace_placed hal hplace, nextRecord_of_oldest hx]
  dsimp only
  rw [if_neg (by decide), HQueue.claimRecord, hkeep.party, hkeep.det, hw.stopWaiting hnone, (hw.setBlock b).effects_sendValue, Work.setBlock_setBlock]

section
variable {ps : List Nat} (sh : Shape) (hallowed : allowed s q.popper) (hal : r.toNat % 8 = 0)
  (hplace : s.work.placeWords s.work.who q.rw (operandVa s r) = (w, .ok ps))
include hallowed hal hplace

/-- QPEEK without a record to take. -/
theorem peek_none (hnext : q.nextRecord = none) : s.work.peek sh l r
    = (w.setHq l.toNat { q with popper := if s.work.det then some s.work.party else q.popper }).perform.sendValue sh (BitVec.allOnes 64) := by
  have hkeep := placeWords_keeps hplace
  have hsole : s.work.soleParty q.popper = true := soleParty_iff.mpr hallowed
  rw [Work.peek, withQueue_owns hown (.refl _), hsole, withPlace_placed hal hplace, hnext]
  dsimp only
  rw [if_neg (by decide), hkeep.party, hkeep.det]

/-- QPEEK of the next record. -/
theorem peek_some {x : QRecord} (hnext : q.nextRecord = some x) : s.work.peek sh l r
    = ((w.setHq l.toNat { q with popper := if s.work.det then some s.work.party else q.popper }).effect (.stores (ps.zip x.words))).sendValue sh
      (BitVec.ofNat 64 x.seq) := by
  have hkeep := placeWords_keeps hplace
  have hsole : s.work.soleParty q.popper = true := soleParty_iff.mpr hallowed
  rw [Work.peek, withQueue_owns hown (.refl _), hsole, withPlace_placed hal hplace, hnext]
  dsimp only
  rw [if_neg (by decide), hkeep.party, hkeep.det]

end

end

end

theorem queueStatus_eq (q : HQueue) : q.stat = queueStatus q := by
  unfold HQueue.stat queueStatus
  cases q.enabled <;> rfl

/-- The first part of O20. -/
theorem queuePushPopComplete : QueuePushPopComplete := by
  refine ⟨?push, ?pop⟩
  case push =>
    intro s pr lim b l r p q w rec h ht hnone hown hallowed hal hread hroom
    have hexec : exec (.qpush pr lim) s = execQpush pr lim s := rfl
    rw [hexec, execQpush, fireAccess_ready h ht, word_left h rfl, word_right h rfl]
    exact congrArg _ (lift_through (firePush_room hown (Holds.of_ready h) hnone hallowed hal hread hroom))
  case pop =>
    intro s pr lim t1 t0 b l r p q w ps x h ht hnone hown hallowed hal hplace hx
    have hexec : exec (.qpop pr lim t1 t0) s = execQpop pr lim t1 t0 s := rfl
    rw [hexec, execQpop, fireAccess_ready h ht, word_left h rfl, word_right h rfl]
    exact congrArg _ (lift_through (attemptPop_oldest hown _ (Holds.of_ready h) hnone hallowed hal hplace hx))

/-- The second part of O20. -/
theorem queuePeekStatComplete : QueuePeekStatComplete := by
  refine ⟨?peek, ?stat⟩
  case peek =>
    intro s pr t1 t0 b l r p q w ps h ht hown hallowed hal hplace
    have hexec : exec (.qpeek pr t1 t0) s = execQpeek pr t1 t0 s := rfl
    have hw := ((Holds.of_ready h).of_translated (placeWords_keeps hplace)).setHq l.toNat
      { q with popper := if s.work.det then some s.work.party else q.popper }
    rw [hexec, execQpeek, fireAccess_ready h ht, word_left h rfl, word_right h rfl]
    refine ⟨fun hclaimed => congrArg _ (lift_through ?_), fun x hx => congrArg _ (lift_through ?_)⟩
    · rw [peek_none hown _ hallowed hal hplace (nextRecord_of_claimed hclaimed), hw.perform, (hw.setBlock _).sendValue, Work.setBlock_setBlock]
      rfl
    · rw [peek_some hown _ hallowed hal hplace (nextRecord_of_oldest hx)]
      exact hw.effect_sendValue _ _ _
  case stat =>
    intro s pr t1 t0 b l r p h hlt howner
    have hexec : exec (.qstat pr t1 t0) s = execQstat pr t1 t0 s := rfl
    have hmine : ¬((s.work.hq l.toNat).enabled && (s.work.hq l.toNat).owner != s.work.me.asid.toNat) = true := by
      simpa using howner
    rw [hexec, execQstat, fire_ready h, word_left h rfl]
    refine congrArg _ (lift_through (w := s.work) ?_)
    rw [Work.queueStat, if_neg (by simp [Nat.div_eq_of_lt hlt])]
    dsimp only
    rw [if_neg hmine, queueStatus_eq, (Holds.of_ready h).deliver]
    rfl

end Sys2Proof.Machine
end

section
/-! SUPPORT. Lists of words written to memory by stores that set their bits, by bits alone, and by plain stores (11 R214, R225, R227). -/

namespace Sys2Proof.Machine

open Sys2Proof Sys2Proof.Claims Sys2Proof.Laws

namespace Work

theorem word_congr {w u : Work} {a : Nat} (h : ∀ x, a ≤ x → x < a + 8 → w.byte x = u.byte x) : w.word a = u.word a := by
  rw [word, word, load_congr h]

theorem loadWords_congr {w u : Work} (h : ∀ x, w.byte x = u.byte x) (a n : Nat) : w.loadWords a n = u.loadWords a n := by
  induction n generalizing a with
  | zero => rfl
  | succ n ih => rw [loadWords, loadWords, ih, word_congr fun x _ _ => h x]

/-- A word whose bytes are 0 is 0. -/
theorem word_eq_zero {w : Work} {a : Nat} (h : ∀ x, a ≤ x → x < a + 8 → w.byte x = 0) : w.word a = 0 := by
  have hload : ∀ n c, (∀ x, c ≤ x → x < c + n → w.byte x = 0) → w.load c n = 0 := by
    intro n
    induction n with
    | zero => exact fun _ _ => rfl
    | succ n ih =>
      intro c hc
      rw [load, hc c (by omega) (by omega), ih (c + 1) fun x hx hx' => hc x (by omega) (by omega)]
      rfl
  rw [word, hload 8 a h]
  rfl

/-- Stores of words from an address on, each setting its word's bit. -/
def writeWords (full : Bool) (w : Work) (pa : Nat) : List Word → Work
  | [] => w
  | v :: vs => writeWords full ((w.putWord pa v).setBit (pa / 8) full) (pa + 8) vs

theorem fillWords_eq (w : Work) (pa : Nat) (vs : List Word) : w.fillWords pa vs = w.writeWords true pa vs := by
  induction vs generalizing w pa with
  | nil => rfl
  | cons v vs ih => exact ih _ _

theorem clearWords_eq (w : Work) (pa n : Nat) : w.clearWords pa n = w.writeWords false pa (List.replicate n 0) := by
  induction n generalizing w pa with
  | zero => rfl
  | succ n ih => exact ih _ _

theorem putWord_logged (w : Work) (a : Nat) (v : Word) : Logged w (w.putWord a v) := store_logged _ _ _ _

theorem byte_putWord_other {a x : Nat} (w : Work) (v : Word) (h : x < a ∨ a + 8 ≤ x) : (w.putWord a v).byte x = w.byte x :=
  byte_store_other _ _ h

theorem isFull_putWord (w : Work) (a : Nat) (v : Word) (k : Nat) : (w.putWord a v).isFull k = w.isFull k := isFull_store _ _ _ _ _

section
variable {full : Bool} {w : Work} {pa : Nat} (hwatch : w.core.watched = [])
include hwatch

theorem putWord_unwatched (a k : Nat) (v : Word) : k ∉ (w.putWord a v).core.watched := by
  rw [(putWord_logged w a v).core, hwatch]
  exact List.not_mem_nil

/-- One store that sets its word's bit. -/
theorem writeWord_logged (v : Word) : Logged w ((w.putWord pa v).setBit (pa / 8) full) :=
  (putWord_logged w pa v).trans (setBit_logged full (putWord_unwatched hwatch _ _ _))

theorem writeWord_watched (v : Word) : ((w.putWord pa v).setBit (pa / 8) full).core.watched = [] := by
  rw [(writeWord_logged hwatch v).core, hwatch]

theorem byte_writeWord_other (v : Word) {x : Nat} (hx : x < pa ∨ pa + 8 ≤ x) :
    ((w.putWord pa v).setBit (pa / 8) full).byte x = w.byte x := by
  rw [byte_setBit full (putWord_unwatched hwatch _ _ _), byte_putWord_other _ _ hx]

theorem isFull_writeWord_other (v : Word) {k : Nat} (hk : k ≠ pa / 8) : ((w.putWord pa v).setBit (pa / 8) full).isFull k = w.isFull k := by
  rw [isFull_setBit_other full (putWord_unwatched hwatch _ _ _) hk, isFull_putWord]

theorem writeWords_logged (vs : List Word) : Logged w (w.writeWords full pa vs) := by
  induction vs generalizing w pa with
  | nil => exact .refl w
  | cons v vs ih => exact (writeWord_logged hwatch v).trans (ih (writeWord_watched hwatch v))

theorem byte_writeWords_other {vs : List Word} {x : Nat} (hx : x < pa ∨ pa + 8 * vs.length ≤ x) : (w.writeWords full pa vs).byte x = w.byte x := by
  induction vs generalizing w pa with
  | nil => rfl
  | cons v vs ih =>
    rw [List.length_cons] at hx
    rw [writeWords, ih (writeWord_watched hwatch v) (by omega), byte_writeWord_other hwatch v (by omega)]

section
variable (hal : pa % 8 = 0)
include hal

theorem isFull_writeWords_other {vs : List Word} {k : Nat} (hk : k < pa / 8 ∨ pa / 8 + vs.length ≤ k) :
    (w.writeWords full pa vs).isFull k = w.isFull k := by
  induction vs generalizing w pa with
  | nil => rfl
  | cons v vs ih =>
    rw [List.length_cons] at hk
    rw [writeWords, ih (writeWord_watched hwatch v) (by omega) (by omega), isFull_writeWord_other hwatch v (by omega)]

/-- Each word reads as it was written, with its bit, where the words are no host words. -/
theorem writeWords_reads {vs : List Word} (hhost : ∀ x, x < pa + 8 * vs.length → isHost x = false) {i : Nat} {v : Word} (hv : vs[i]? = some v) :
    (w.writeWords full pa vs).word (pa + 8 * i) = v ∧ (w.writeWords full pa vs).isFull (pa / 8 + i) = full := by
  induction vs generalizing w pa i with
  | nil => nomatch hv
  | cons u us ih =>
    have hwatch' := writeWord_watched (full := full) (pa := pa) hwatch u
    rw [List.length_cons] at hhost
    cases i with
    | zero =>
      obtain rfl : u = v := Option.some.inj hv
      have hword : isHost (pa / 8 * 8) = false := hhost _ (by omega)
      have hlater := isFull_writeWords_other (full := full) (vs := us) (pa := pa + 8) (k := pa / 8) hwatch' (by omega) (by omega)
      refine ⟨?_, ?_⟩
      · rw [writeWords, word_congr fun x _ _ => byte_writeWords_other hwatch' (by omega), word_setBit full (putWord_unwatched hwatch _ _ _)]
        exact word_putWord_same w pa u
      · rw [writeWords, Nat.add_zero (pa / 8), hlater, isFull_setBit_same full (putWord_unwatched hwatch _ _ _) hword]
    | succ i =>
      have hrest := ih (pa := pa + 8) hwatch' (by omega) (fun x hx => hhost x (by omega)) (i := i) hv
      have haddr : pa + 8 * (i + 1) = pa + 8 + 8 * i := by omega
      have hindex : pa / 8 + (i + 1) = (pa + 8) / 8 + i := by omega
      rw [haddr, hindex]
      exact hrest

end

/-! ### Bits alone -/

theorem setBit_watched (k : Nat) : (w.setBit k full).core.watched = [] := by
  rw [(setBit_logged full (by rw [hwatch]; exact List.not_mem_nil)).core, hwatch]

theorem emptyWords_logged (n : Nat) : Logged w (w.emptyWords pa n) := by
  induction n generalizing w pa with
  | zero => exact .refl w
  | succ n ih => exact (setBit_logged false (by rw [hwatch]; exact List.not_mem_nil)).trans (ih (setBit_watched hwatch _))

theorem byte_emptyWords (n x : Nat) : (w.emptyWords pa n).byte x = w.byte x := by
  induction n generalizing w pa with
  | zero => rfl
  | succ n ih => rw [emptyWords, ih (setBit_watched hwatch _), byte_setBit false (by rw [hwatch]; exact List.not_mem_nil)]

theorem isFull_emptyWords_other (hal : pa % 8 = 0) {n k : Nat} (hk : k < pa / 8 ∨ pa / 8 + n ≤ k) : (w.emptyWords pa n).isFull k = w.isFull k := by
  induction n generalizing w pa with
  | zero => rfl
  | succ n ih =>
    rw [emptyWords, ih (setBit_watched hwatch _) (by omega) (by omega),
      isFull_setBit_other false (by rw [hwatch]; exact List.not_mem_nil) (by omega)]

theorem isFull_emptyWords {n i : Nat} (hal : pa % 8 = 0) (hhost : ∀ x, x < pa + 8 * n → isHost x = false) (hi : i < n) :
    (w.emptyWords pa n).isFull (pa / 8 + i) = false := by
  induction n generalizing w pa i with
  | zero => omega
  | succ n ih =>
    have hwatch' := setBit_watched (full := false) hwatch (pa / 8)
    cases i with
    | zero =>
      rw [emptyWords, Nat.add_zero (pa / 8), isFull_emptyWords_other hwatch' (by omega) (by omega),
        isFull_setBit_same false (by rw [hwatch]; exact List.not_mem_nil) (hhost _ (by omega))]
    | succ i =>
      have hindex : pa / 8 + (i + 1) = (pa + 8) / 8 + i := by omega
      rw [emptyWords, hindex]
      exact ih hwatch' (by omega) (fun x hx => hhost x (by omega)) (by omega)

end

/-! ### Plain stores -/

/-- Plain stores of words at their addresses. -/
def putPairs (w : Work) (ws : List (Nat × Word)) : Work := ws.foldl (fun w x => w.putWord x.1 x.2) w

theorem putPairs_logged (w : Work) (ws : List (Nat × Word)) : Logged w (w.putPairs ws) := by
  induction ws generalizing w with
  | nil => exact .refl w
  | cons x ws ih => exact (putWord_logged w x.1 x.2).trans (ih _)

theorem isFull_putPairs (w : Work) (ws : List (Nat × Word)) (k : Nat) : (w.putPairs ws).isFull k = w.isFull k := by
  induction ws generalizing w with
  | nil => rfl
  | cons x ws ih => exact (ih _).trans (isFull_putWord _ _ _ _)

theorem byte_putPairs_other {w : Work} {ws : List (Nat × Word)} {a : Nat} (h : ∀ y ∈ ws, ¬(y.1 ≤ a ∧ a < y.1 + 8)) :
    (w.putPairs ws).byte a = w.byte a := by
  induction ws generalizing w with
  | nil => rfl
  | cons x ws ih =>
    have hx := h x (List.mem_cons_self ..)
    exact (ih fun y hy => h y (List.mem_cons_of_mem _ hy)).trans (byte_putWord_other _ _ (by omega))

/-- Words of different aligned addresses read as they were stored. -/
theorem word_putPairs {w : Work} {ws : List (Nat × Word)} (hnodup : (ws.map (·.1)).Nodup) (hal : ∀ y ∈ ws, y.1 % 8 = 0) {y : Nat × Word}
    (hy : y ∈ ws) : (w.putPairs ws).word y.1 = y.2 := by
  induction ws generalizing w with
  | nil => nomatch hy
  | cons x ws ih =>
    obtain ⟨hx, hws⟩ := List.nodup_cons.mp hnodup
    rcases List.mem_cons.mp hy with rfl | hmem
    · have hlater : ∀ a, y.1 ≤ a → a < y.1 + 8 → ((w.putWord y.1 y.2).putPairs ws).byte a = (w.putWord y.1 y.2).byte a := fun a ha ha' =>
        byte_putPairs_other fun z hz => by
          have hne : z.1 ≠ y.1 := fun heq => hx (List.mem_map.mpr ⟨z, hz, heq⟩)
          have hz8 := hal z (List.mem_cons_of_mem _ hz)
          have hy8 := hal y (List.mem_cons_self ..)
          omega
      exact (word_congr hlater).trans (word_putWord_same w y.1 y.2)
    · exact ih hws (fun z hz => hal z (List.mem_cons_of_mem _ hz)) hmem

end Work

/-! ### Words of HBM -/

theorem isHost_of_lt {x : Nat} (h : x < 0x7800000000) : isHost x = false := by
  rw [isHost, classify, if_pos h]
  rfl

end Sys2Proof.Machine
end

section
/-! SUPPORT. The effects of one instruction at the commit of its block, and those of the queues (11 R214, R225, R227 to R229). -/

namespace Sys2Proof.Machine

open Sys2Proof Sys2Proof.Claims Sys2Proof.Laws

/-! ### A block whose effects are those of one instruction -/

/-- The machine when the effects of a block without memory effects have been made. -/
def afterEffects (s : State) (t c : Nat) (b : Block) (es : List Effect) : Work :=
  es.foldl Work.commitEffect (es.foldl Work.commitStores (beforeEffects s t c b))

section
variable {s : State} {t c : Nat} {b : Block} {x : ExitFired} {j : Nat} {e : Effect} {es : List Effect} {v : Work}

theorem commits_noMarks {ps : List (Nat × Effect)} (h : commits s t c b x ps) : s.core.marks = [] := by
  obtain ⟨_, _, _, _, _, _, _, hmarks⟩ := h
  exact hmarks

theorem commits_noClaims {ps : List (Nat × Effect)} (h : commits s t c b x ps) : s.core.claims = [] := by
  obtain ⟨_, _, _, _, _, _, hclaims, _⟩ := h
  exact hclaims

/-- The block commits, and what its effects leave is the machine's, but for what the end of the commit releases. -/
theorem blockEnd_afterEffects (h : commits s t c b x ((e :: es).map (j, ·))) (hplain : ∀ y ∈ e :: es, plainEffect y = true)
    (hcommands : ∀ y ∈ e :: es, Work.commands y = false) (hv : afterEffects s t c b (e :: es) = v) (hmarks : v.core.marks = [])
    (hclaims : v.core.claims = []) : exec (.blockEnd t c) s = .next (s.put (v.endCommit b)) := by
  obtain ⟨hf, hmay, hmems, heffs, hidx, _, _, _⟩ := h
  have hj : j < b.words.length := hidx (j, e) (List.mem_cons_self ..)
  have hplain' : ∀ y ∈ b.effs, plainEffect y.2 = true := by
    rw [heffs]
    simpa using hplain
  have hcommit : (s.work.at_ t c 0).commitBlock b = v.endCommit b := by
    rw [commitBlock_of_plain (effectsInOrder_of_single heffs hj hcommands) hplain, hmems, ← hv]
    rfl
  have hclear : ((s.work.at_ t c 0).commitBlock b).writesClaimed none = false := by
    rw [hcommit, Work.writesClaimed, endCommit_claims hmarks, hclaims]
    rfl
  rw [blockEnd_commitBlock hf hmay hplain' hclear, hcommit]

end

section
variable {s : State} {v : Work} (b : Block)

theorem hq_put_endCommit (hmarks : v.core.marks = []) (n : Nat) : (s.put (v.endCommit b)).work.hq n = (v.hq n).without v.party :=
  endCommit_hq hmarks b n

/-- Effects without changes of memory leave memory and bits. -/
theorem sameMemory_put_endCommit (hmarks : v.core.marks = []) (hlog : v.log = []) : sameMemory s (s.put (v.endCommit b)) := by
  rw [sameMemory, State.put_mem, State.put_full, endCommit_log hmarks, hlog]
  exact ⟨rfl, rfl⟩

section
variable (hs : s.canonical) (hmem : v.mem = s.mem) (hmarks : v.core.marks = [])
include hs hmem hmarks

theorem readByte_put_endCommit (a : Nat) : (s.put (v.endCommit b)).readByte a = v.byte a := by
  rw [readByte_put hs ((endCommit_mem hmarks b).trans hmem), endCommit_byte hmarks]

omit hmem in
theorem readFull_put_endCommit (hfull : v.full = s.full) (k : Nat) : (s.put (v.endCommit b)).readFull k = v.isFull k := by
  rw [readFull_put hs ((endCommit_full hmarks b).trans hfull), endCommit_isFull hmarks]

end

end

/-! ### Queue effects -/

theorem slotAddr_eq (h : HQueue) (n : Nat) : h.slotAddr n = ringSlot h n := by
  have hoff : h.rbase + n * 64 = h.rbase + 64 * n := by omega
  simp only [HQueue.slotAddr, ringSlot, hoff, listGet_eq_getD]
  rfl

/-- After changes of memory and one of a queue the machine of a commit has the queue and the memory that they leave. -/
structure QueueLeft (s : State) (t c q : Nat) (v : Work) (X : HQueue) (u : State) : Prop where
  hq : u.work.hq q = X.without (t * 4 + c)
  byte : s.canonical → ∀ a, u.readByte a = v.byte a
  full : s.canonical → ∀ k, u.readFull k = v.isFull k
  same : v.log = [] → sameMemory s u

section
variable {s : State} {t c : Nat} {b : Block} {x : ExitFired} {j q : Nat} {e : Effect} {es : List Effect} {v : Work} {X : HQueue}

theorem hq_setHq_same (w : Work) (n : Nat) (X : HQueue) : (w.setHq n X).hq n = X := mapGet_mapSet_same _ _ _ _

theorem blockEnd_leavesQueue (h : commits s t c b x ((e :: es).map (j, ·))) (hplain : ∀ y ∈ e :: es, plainEffect y = true)
    (hcommands : ∀ y ∈ e :: es, Work.commands y = false) (hv : afterEffects s t c b (e :: es) = v.setHq q X)
    (hlogged : Logged (beforeEffects s t c b) v) : ∃ u, exec (.blockEnd t c) s = .next u ∧ QueueLeft s t c q v X u := by
  have hmarks : (v.setHq q X).core.marks = [] := (congrArg Core.marks hlogged.core).trans (commits_noMarks h)
  have hclaims : (v.setHq q X).core.claims = [] := (congrArg Core.claims hlogged.core).trans (commits_noClaims h)
  have hparty : (v.setHq q X).party = t * 4 + c := congrArg (fun f => f.tile * 4 + f.ctx) hlogged.focus
  have hmem : (v.setHq q X).mem = s.mem := hlogged.mem
  have hfull : (v.setHq q X).full = s.full := hlogged.full
  refine ⟨_, blockEnd_afterEffects h hplain hcommands hv hmarks hclaims, ?_, fun hs => readByte_put_endCommit b hs hmem hmarks,
    fun hs => readFull_put_endCommit b hs hmarks hfull, sameMemory_put_endCommit b hmarks⟩
  rw [hq_put_endCommit b hmarks, hq_setHq_same, hparty]

/-- A push into a hardware entry (11 R225). -/
theorem commitPush_entry {w : Work} {h : HQueue} (hq : w.hq q = h) {p : Nat} (hpending : h.pending = [p]) (rec : List Word)
    (hroom : (h.rin - h.rout).toNat = 0 ∧ (h.hin - h.hout).toNat < h.hd) : w.commitPush p q rec = w.setHq q { h with
      pending := [], entries := h.entries ++ [{ seq := h.seq.toNat, words := rec }], hin := h.hin + 1, seq := h.seq + 1 } := by
  have hentry : (({ h with pending := [] } : HQueue).rcnt == 0 && ({ h with pending := [] } : HQueue).hcnt < h.hd) = true := by
    rw [Bool.and_eq_true, beq_iff_eq, decide_eq_true_iff]
    exact hroom
  rw [Work.commitPush, hq, hpending, List.erase_cons_head]
  exact if_pos hentry

/-- A push that spills to the ring (11 R225). -/
theorem commitPush_spill {w : Work} {h : HQueue} (hq : w.hq q = h) {p : Nat} (hpending : h.pending = [p]) (rec : List Word)
    (hfull : ¬((h.rin - h.rout).toNat = 0 ∧ (h.hin - h.hout).toNat < h.hd)) :
    w.commitPush p q rec = (w.fillWords (ringSlot h (h.rin.toNat % h.rs)) rec).setHq q
      { h with pending := [], rin := h.rin + 1, seq := h.seq + 1 } := by
  have hring : ¬(({ h with pending := [] } : HQueue).rcnt == 0 && ({ h with pending := [] } : HQueue).hcnt < h.hd) = true := by
    rw [Bool.and_eq_true, beq_iff_eq, decide_eq_true_iff]
    exact hfull
  rw [Work.commitPush, hq, hpending, List.erase_cons_head, ← slotAddr_eq]
  exact if_neg hring

/-- A pop of the one record that bears its number (11 R225). -/
theorem filter_seq {before after : List QRecord} {y : QRecord} {n : Nat} (hy : y.seq = n) (hothers : ∀ z ∈ before ++ after, z.seq ≠ n) :
    (before ++ y :: after).filter (fun r => r.seq != n) = before ++ after := by
  have hkeep : ∀ zs : List QRecord, (∀ z ∈ zs, z.seq ≠ n) → zs.filter (fun r => r.seq != n) = zs := fun zs hzs =>
    List.filter_eq_self.mpr fun z hz => by simpa using hzs z hz
  rw [List.filter_append, List.filter_cons_of_neg (by simp [hy]), hkeep before fun z hz => hothers z (List.mem_append_left _ hz),
    hkeep after fun z hz => hothers z (List.mem_append_right _ hz)]

section
variable {w : Work} {h : HQueue} (hq : w.hq q = h) {n : Nat} {rest : List QRecord} (hrest : h.entries.filter (fun r => r.seq != n) = rest)
include hq hrest

/-- A pop from a queue whose ring is empty. -/
theorem commitPop_noRing (hring : (h.rin - h.rout).toNat = 0) :
    w.commitPop q n = w.setHq q { h with entries := rest, hout := h.hout + 1 } := by
  rw [Work.commitPop, hq, hrest]
  exact if_pos (beq_iff_eq.mpr hring)

/-- A pop that the oldest ring record refills. -/
theorem commitPop_refill (hring : (h.rin - h.rout).toNat ≠ 0) :
    w.commitPop q n = (w.emptyWords (ringSlot h (h.rout.toNat % h.rs)) h.rw).setHq q { h with
      entries := rest ++ [{ seq := h.seq.toNat - (h.rin - h.rout).toNat, words := w.loadWords (ringSlot h (h.rout.toNat % h.rs)) h.rw }]
      hout := h.hout + 1, hin := h.hin + 1, rout := h.rout + 1 } := by
  rw [Work.commitPop, hq, hrest, ← slotAddr_eq]
  exact if_neg (mt beq_iff_eq.mp hring)

end

/-! ### The words of the queues in memory -/

/-- A queue that nobody has a claim or a pending push on. -/
theorem without_of_unclaimed {h : HQueue} {p : Nat} (hpending : h.pending = []) (hentries : ∀ r ∈ h.entries, r.claim = none) :
    h.without p = h := by
  refine HQueue.without_eq_self (fun r hr => ?_) (by simp [hpending])
  rw [hentries r hr]
  exact nofun

theorem beforeEffects_watched (hw : s.core.watched = []) : (beforeEffects s t c b).core.watched = [] := hw

/-- The address of a ring slot in pages of HBM (11 R224). -/
theorem ringSlot_hbm {h : HQueue} (hbase : h.rbase % 64 = 0) (hring : ∀ p ∈ h.ring, p % 2 ^ 16 = 0 ∧ p < 0x7800000000) (n : Nat) :
    ringSlot h n % 64 = 0 ∧ ringSlot h n + 64 ≤ 0x7800000000 := by
  have hpage : (h.ring[(h.rbase + 64 * n) / 2 ^ 16]?).getD 0 % 2 ^ 16 = 0
      ∧ (h.ring[(h.rbase + 64 * n) / 2 ^ 16]?).getD 0 < 0x7800000000 := by
    cases hget : h.ring[(h.rbase + 64 * n) / 2 ^ 16]? with
    | none => decide
    | some p => exact hring p (List.mem_of_getElem? hget)
  rw [ringSlot]
  omega

section
variable {u : State} (hleft : QueueLeft s t c q v X u) (hs : s.canonical)
include hleft hs

theorem QueueLeft.word (a : Nat) : u.work.word a = v.word a := Work.word_congr fun y _ _ => hleft.byte hs y

theorem QueueLeft.loadWords (a n : Nat) : u.work.loadWords a n = v.loadWords a n := Work.loadWords_congr (w := u.work) (hleft.byte hs) a n

end

end

end Sys2Proof.Machine
end

section
/-! SUPPORT. The four queue effects at the commit of their block (11 R214, R225, R227 to R229). -/

namespace Sys2Proof.Machine

open Sys2Proof Sys2Proof.Claims Sys2Proof.Laws

section
variable {s : State} {t c : Nat} {b : Block} {x : ExitFired} {j q : Nat} {h : HQueue} (hs : s.canonical) (hq : s.work.hq q = h)
include hq

/-- A push into a hardware entry commits. -/
theorem blockEnd_pushEntry {rec : List Word} (hc : commits s t c b x [(j, .qpush q rec)]) (hpending : h.pending = [t * 4 + c])
    (hclaims : ∀ y ∈ h.entries, y.claim = none) (hroom : (h.rin - h.rout).toNat = 0 ∧ (h.hin - h.hout).toNat < h.hd) :
    ∃ u, exec (.blockEnd t c) s = .next u ∧ sameMemory s u
      ∧ u.work.hq q = { h with pending := [], entries := h.entries ++ [{ seq := h.seq.toNat, words := rec }], hin := h.hin + 1, seq := h.seq + 1 } := by
  have hcommit : afterEffects s t c b [.qpush q rec] = _ := commitPush_entry (w := beforeEffects s t c b) hq hpending rec hroom
  obtain ⟨u, hnext, hleft⟩ := blockEnd_leavesQueue hc (by simp [plainEffect]) (by simp [Work.commands]) hcommit (.refl _)
  refine ⟨u, hnext, hleft.same rfl, hleft.hq.trans (without_of_unclaimed rfl fun r hr => ?_)⟩
  rcases List.mem_append.mp hr with hold | hnew
  · exact hclaims r hold
  · rw [List.mem_singleton.mp hnew]

include hs in
/-- A push that spills commits. -/
theorem blockEnd_pushSpill {rec : List Word} (hc : commits s t c b x [(j, .qpush q rec)]) (hpending : h.pending = [t * 4 + c])
    (hclaims : ∀ y ∈ h.entries, y.claim = none) (hfull : ¬((h.rin - h.rout).toNat = 0 ∧ (h.hin - h.hout).toNat < h.hd)) {a : Nat}
    (ha : a = ringSlot h (h.rin.toNat % h.rs)) (hplain : plainWords s a rec.length) :
    ∃ u, exec (.blockEnd t c) s = .next u ∧ u.work.hq q = { h with pending := [], rin := h.rin + 1, seq := h.seq + 1 }
      ∧ onlyWords s u a rec.length
      ∧ ∀ (i : Nat) (v : Word), rec[i]? = some v → u.work.word (a + 8 * i) = v ∧ u.readFull (a / 8 + i) = true := by
  subst ha
  obtain ⟨hal, hend, hwatched⟩ := hplain
  have hwatch := beforeEffects_watched (t := t) (c := c) (b := b) hwatched
  have hcommit : afterEffects s t c b [.qpush q rec] = _ := commitPush_spill (w := beforeEffects s t c b) hq hpending rec hfull
  rw [Work.fillWords_eq] at hcommit
  obtain ⟨u, hnext, hleft⟩ := blockEnd_leavesQueue hc (by simp [plainEffect]) (by simp [Work.commands]) hcommit
    (Work.writeWords_logged hwatch rec)
  have hreads {i : Nat} {v : Word} (hv : rec[i]? = some v) := Work.writeWords_reads (full := true) hwatch hal
    (fun y hy => isHost_of_lt (Nat.lt_of_lt_of_le hy hend)) hv
  refine ⟨u, hnext, hleft.hq.trans (without_of_unclaimed rfl hclaims), ⟨fun y hy => ?_, fun k hk => ?_⟩, fun i v hv => ?_⟩
  · exact (hleft.byte hs y).trans (Work.byte_writeWords_other hwatch (by omega))
  · exact (hleft.full hs k).trans (Work.isFull_writeWords_other hwatch hal (by omega))
  · rw [hleft.word hs, hleft.full hs]
    exact hreads hv

section
variable {ws : List (Nat × Word)} {n : Nat} {before after : List QRecord} {y : QRecord}
  (hc : commits s t c b x [(j, .stores ws), (j, .qpop q n)]) (hnodup : (ws.map (·.1)).Nodup) (hal : ∀ v ∈ ws, v.1 % 8 = 0)
  (hpending : h.pending = []) (hentries : h.entries = before ++ y :: after) (hy : y.seq = n)
  (hothers : ∀ z ∈ before ++ after, z.seq ≠ n ∧ z.claim = none)
include hs hc hnodup hal hpending hentries hy hothers

/-- A pop whose ring is empty commits, behind the stores of its words. -/
theorem blockEnd_pop (hring : (h.rin - h.rout).toNat = 0) :
    ∃ u, exec (.blockEnd t c) s = .next u ∧ u.work.hq q = { h with entries := before ++ after, hout := h.hout + 1 }
      ∧ wordsStored s u ws (fun _ => False) := by
  have hstored := Work.putPairs_logged (beforeEffects s t c b) ws
  have hrest : h.entries.filter (fun r => r.seq != n) = before ++ after := hentries ▸ filter_seq hy fun z hz => (hothers z hz).1
  have hcommit : afterEffects s t c b [.stores ws, .qpop q n] = ((beforeEffects s t c b).putPairs ws).setHq q _ :=
    commitPop_noRing (w := (beforeEffects s t c b).putPairs ws) ((hstored.hq q).trans hq) hrest hring
  obtain ⟨u, hnext, hleft⟩ := blockEnd_leavesQueue (es := [.qpop q n]) hc (by simp [plainEffect]) (by simp [Work.commands]) hcommit hstored
  refine ⟨u, hnext, hleft.hq.trans (without_of_unclaimed hpending fun r hr => (hothers r hr).2), fun v hv => ?_, fun a ha => ?_, fun k _ => ?_⟩
  · rw [hleft.word hs, Work.word_putPairs hnodup hal hv]
  · exact (hleft.byte hs a).trans (Work.byte_putPairs_other ha)
  · exact (hleft.full hs k).trans (Work.isFull_putPairs _ _ _)

/-- A pop that the oldest ring record refills commits, behind the stores of its words. -/
theorem blockEnd_popRefill (hring : (h.rin - h.rout).toNat ≠ 0) {a : Nat} (ha : a = ringSlot h (h.rout.toNat % h.rs))
    (hplain : plainWords s a h.rw) :
    ∃ u, exec (.blockEnd t c) s = .next u
      ∧ u.work.hq q = { h with entries := before ++ after ++ [{ seq := h.seq.toNat - (h.rin - h.rout).toNat, words := u.work.loadWords a h.rw }],
                               hout := h.hout + 1, hin := h.hin + 1, rout := h.rout + 1 }
      ∧ wordsStored s u ws (fun k => a / 8 ≤ k ∧ k < a / 8 + h.rw) ∧ ∀ i, i < h.rw → u.readFull (a / 8 + i) = false := by
  subst ha
  obtain ⟨hal8, hend, hwatched⟩ := hplain
  have hstored := Work.putPairs_logged (beforeEffects s t c b) ws
  have hwatch : ((beforeEffects s t c b).putPairs ws).core.watched = [] := (congrArg Core.watched hstored.core).trans hwatched
  have hrest : h.entries.filter (fun r => r.seq != n) = before ++ after := hentries ▸ filter_seq hy fun z hz => (hothers z hz).1
  have hcommit : afterEffects s t c b [.stores ws, .qpop q n] = _ :=
    commitPop_refill (w := (beforeEffects s t c b).putPairs ws) ((hstored.hq q).trans hq) hrest hring
  obtain ⟨u, hnext, hleft⟩ := blockEnd_leavesQueue (es := [.qpop q n]) hc (by simp [plainEffect]) (by simp [Work.commands]) hcommit
    (hstored.trans (Work.emptyWords_logged hwatch _))
  have hloaded : u.work.loadWords (ringSlot h (h.rout.toNat % h.rs)) h.rw = ((beforeEffects s t c b).putPairs ws).loadWords (ringSlot h (h.rout.toNat % h.rs)) h.rw :=
    (hleft.loadWords hs _ _).trans (Work.loadWords_congr (Work.byte_emptyWords hwatch _) _ _)
  refine ⟨u, hnext, ?_, ⟨fun v hv => ?_, fun y hy => ?_, fun k hk => ?_⟩, fun i hi => ?_⟩
  · rw [hloaded]
    refine hleft.hq.trans (without_of_unclaimed hpending fun r hr => ?_)
    rcases List.mem_append.mp hr with hold | hnew
    · exact (hothers r hold).2
    · rw [List.mem_singleton.mp hnew]
  · rw [hleft.word hs, Work.word_congr fun z _ _ => Work.byte_emptyWords hwatch _ z, Work.word_putPairs hnodup hal hv]
  · exact (hleft.byte hs y).trans ((Work.byte_emptyWords hwatch _ y).trans (Work.byte_putPairs_other hy))
  · exact (hleft.full hs k).trans ((Work.isFull_emptyWords_other hwatch hal8 (by omega)).trans (Work.isFull_putPairs _ _ _))
  · exact (hleft.full hs _).trans (Work.isFull_emptyWords hwatch hal8 (fun z hz => isHost_of_lt (Nat.lt_of_lt_of_le hz hend)) hi)

end

end

/-! ### Enabling and disabling (11 R227) -/

namespace Work

/-- The ring's slots set to 0 and EMPTY, one after the other. -/
def clearSlots (w : Work) (slot : Nat → Nat) (rs rw : Nat) : Work := (List.range rs).foldl (fun w i => w.clearWords (slot i) rw) w

theorem byte_putWord_zero (w : Work) (a x : Nat) : (w.putWord a 0).byte x = if a ≤ x ∧ x < a + 8 then 0 else w.byte x := by
  have hzero : BitVec.ofNat 8 ((0 : Word).toNat / 256 ^ (x - a)) = 0 := congrArg (BitVec.ofNat 8) (Nat.zero_div _)
  rw [putWord, byte_store, hzero]

section
variable {w : Work} {pa : Nat} (hwatch : w.core.watched = [])
include hwatch

/-- Clearing leaves a byte that is 0. -/
theorem byte_clearWords_zero (n : Nat) {x : Nat} (hx : w.byte x = 0) : (w.clearWords pa n).byte x = 0 := by
  induction n generalizing w pa with
  | zero => exact hx
  | succ n ih =>
    refine ih (writeWord_watched hwatch 0) ?_
    rw [byte_setBit false (putWord_unwatched hwatch _ _ _), byte_putWord_zero, hx, ite_self]

theorem byte_clearWords (n : Nat) {x : Nat} (hlo : pa ≤ x) (hhi : x < pa + 8 * n) : (w.clearWords pa n).byte x = 0 := by
  induction n generalizing w pa with
  | zero => omega
  | succ n ih =>
    by_cases hx : x < pa + 8
    · refine byte_clearWords_zero (writeWord_watched hwatch 0) n ?_
      rw [byte_setBit false (putWord_unwatched hwatch _ _ _), byte_putWord_zero, if_pos ⟨hlo, hx⟩]
    · exact ih (writeWord_watched hwatch 0) (by omega) (by omega)

/-- Clearing leaves a word that is EMPTY. -/
theorem isFull_clearWords_empty (n : Nat) {k : Nat} (hk : w.isFull k = false) : (w.clearWords pa n).isFull k = false := by
  induction n generalizing w pa with
  | zero => exact hk
  | succ n ih =>
    refine ih (writeWord_watched hwatch 0) ?_
    rw [setBit_unwatched false (putWord_unwatched hwatch _ _ _)]
    split
    · rwa [isFull_putWord]
    · by_cases hj : k = pa / 8
      · subst hj
        have hhost : isHost (pa / 8 * 8) = false := (Bool.or_eq_false_iff.mp hk).1
        simp [isFull, bitFrom, hhost]
      · have hput : (w.putWord pa 0).isFull k = false := (isFull_putWord _ _ _ _).trans hk
        simpa [isFull, bitFrom, hj] using hput

theorem clearWords_logged (n : Nat) : Logged w (w.clearWords pa n) := by
  rw [clearWords_eq]
  exact writeWords_logged hwatch _

theorem clearSlots_logged (slot : Nat → Nat) (rs rw : Nat) : Logged w (w.clearSlots slot rs rw) := by
  induction rs with
  | zero => exact .refl w
  | succ rs ih =>
    have hwatch' : (w.clearSlots slot rs rw).core.watched = [] := (congrArg Core.watched ih.core).trans hwatch
    rw [clearSlots, List.range_succ, List.foldl_append]
    exact ih.trans (clearWords_logged hwatch' rw)

/-- Every word of the ring is 0 and EMPTY. -/
theorem clearSlots_reads {slot : Nat → Nat} {rw : Nat} (hal : ∀ n, slot n % 8 = 0) (hhost : ∀ n x, x < slot n + 8 * rw → isHost x = false)
    {rs n i : Nat} (hn : n < rs) (hi : i < rw) :
    (∀ x, slot n ≤ x → x < slot n + 8 * rw → (w.clearSlots slot rs rw).byte x = 0) ∧ (w.clearSlots slot rs rw).isFull (slot n / 8 + i) = false := by
  induction rs with
  | zero => omega
  | succ rs ih =>
    have hwatch' : (w.clearSlots slot rs rw).core.watched = [] := (congrArg Core.watched (clearSlots_logged hwatch slot rs rw).core).trans hwatch
    have hlast : w.clearSlots slot (rs + 1) rw = (w.clearSlots slot rs rw).clearWords (slot rs) rw := by
      rw [clearSlots, List.range_succ, List.foldl_append]
      rfl
    rw [hlast]
    rcases Nat.lt_succ_iff_lt_or_eq.mp hn with hlt | rfl
    · obtain ⟨hbytes, hbit⟩ := ih hlt
      exact ⟨fun x hx hx' => byte_clearWords_zero hwatch' rw (hbytes x hx hx'), isFull_clearWords_empty hwatch' rw hbit⟩
    · refine ⟨fun x hx hx' => byte_clearWords hwatch' rw hx hx', ?_⟩
      rw [clearWords_eq]
      exact (writeWords_reads (full := false) (v := 0) hwatch' (hal n) (by simpa using hhost n) (by simp [hi])).2

end

end Work

section
variable {s : State} {t c : Nat} {b : Block} {x : ExitFired} {j q : Nat}

/-- A QCFG that enables commits. -/
theorem blockEnd_enable {rbase hd rw rs owner : Nat} {ring : List Nat} (hs : s.canonical) (h : HQueue)
    (hc : commits s t c b x [(j, .qenable q rbase ring hd rw rs owner)]) (hbase : rbase % 64 = 0) (hrw : rw ≤ 8) (hwatched : s.core.watched = [])
    (hring : ∀ p ∈ ring, p % 2 ^ 16 = 0 ∧ p < 0x7800000000) :
    ∃ u, exec (.blockEnd t c) s = .next u
      ∧ u.work.hq q = { enabled := true, owner := owner, hd := hd, rw := rw, rs := rs, rbase := rbase, ring := ring }
      ∧ ∀ n i, n < rs → i < rw → u.work.word (ringSlot { h with rbase := rbase, ring := ring } n + 8 * i) = 0
          ∧ u.readFull (ringSlot { h with rbase := rbase, ring := ring } n / 8 + i) = false := by
  have hwatch := beforeEffects_watched (t := t) (c := c) (b := b) hwatched
  have hslots : ∀ n, HQueue.slotAddr { enabled := true, owner := owner, hd := hd, rw := rw, rs := rs, rbase := rbase, ring := ring } n
      = ringSlot { h with rbase := rbase, ring := ring } n := fun n => slotAddr_eq _ _
  have hplace (n : Nat) := ringSlot_hbm (h := { h with rbase := rbase, ring := ring }) hbase hring n
  have hcommit : afterEffects s t c b [.qenable q rbase ring hd rw rs owner]
      = ((beforeEffects s t c b).clearSlots (ringSlot { h with rbase := rbase, ring := ring }) rs rw).setHq q
        { enabled := true, owner := owner, hd := hd, rw := rw, rs := rs, rbase := rbase, ring := ring } := by
    rw [← funext hslots]
    rfl
  obtain ⟨u, hnext, hleft⟩ := blockEnd_leavesQueue hc (by simp [plainEffect]) (by simp [Work.commands]) hcommit (Work.clearSlots_logged hwatch _ _ _)
  refine ⟨u, hnext, hleft.hq.trans (without_of_unclaimed rfl nofun), fun n i hn hi => ?_⟩
  obtain ⟨hbytes, hbit⟩ := Work.clearSlots_reads (w := beforeEffects s t c b) (rw := rw) hwatch (slot := ringSlot { h with rbase := rbase, ring := ring }) (fun n => by have := (hplace n).1; omega)
    (fun n y hy => isHost_of_lt (by have := (hplace n).2; omega)) hn hi
  rw [hleft.word hs, hleft.full hs]
  exact ⟨Work.word_eq_zero fun y hy hy' => hbytes y (by omega) (by omega), hbit⟩

/-- A QCFG that disables commits; where it forces, blocks lose what they had on the queue. -/
theorem blockEnd_disable {force : Bool} (hc : commits s t c b x [(j, .qdisable q force)]) :
    ∃ u, exec (.blockEnd t c) s = .next u ∧ sameMemory s u ∧ (u.work.hq q).enabled = false ∧ (u.work.hq q).entries = []
      ∧ recordsIn (u.work.hq q) = 0 := by
  obtain ⟨v, hcommit, hempty, hmarks, hclaims, hlog⟩ : ∃ v, afterEffects s t c b [.qdisable q force] = v ∧ v.hq q = {}
      ∧ v.core.marks = s.core.marks ∧ v.core.claims = s.core.claims ∧ v.log = [] := by
    have hset := hq_setHq_same (beforeEffects s t c b) q {}
    change ∃ v, (beforeEffects s t c b).commitDisable q force = v ∧ _
    cases force
    · exact ⟨_, rfl, hset, rfl, rfl, rfl⟩
    · exact ⟨_, rfl, hset, rfl, rfl, rfl⟩
  have hmarks' := hmarks.trans (commits_noMarks hc)
  refine ⟨_, blockEnd_afterEffects hc (by simp [plainEffect]) (by simp [Work.commands]) hcommit hmarks' (hclaims.trans (commits_noClaims hc)),
    sameMemory_put_endCommit b hmarks' hlog, ?_⟩
  rw [hq_put_endCommit b hmarks', hempty, without_of_unclaimed rfl (by simp)]
  exact ⟨rfl, rfl, by decide⟩

end

/-- The third part of O20. -/
theorem queueEffectsCommit : Claims.QueueEffectsCommit := by
  intro s t c b x j q h hs hq
  refine ⟨fun rec hc hpending hclaims => ⟨?entry, ?spill⟩, fun ws n before after y hc hnodup hal hpending hentries hy hothers => ⟨?pop, ?refill⟩,
    fun rbase hd rw rs owner ring hc hbase hrw hwatched hring _ => blockEnd_enable hs h hc hbase hrw hwatched hring, fun force => blockEnd_disable⟩
  case entry => exact blockEnd_pushEntry hq hc hpending hclaims
  case spill => exact fun hfull a ha hplain => blockEnd_pushSpill hs hq hc hpending hclaims hfull ha hplain
  case pop => exact blockEnd_pop hs hq hc hnodup hal hpending hentries hy hothers
  case refill => exact fun hring a ha hplain => blockEnd_popRefill hs hq hc hnodup hal hpending hentries hy hothers hring ha hplain

/-- Settles O20: at the firing a queue is claimed, and at the commit its effect meets no other of the block. -/
theorem queuesPushPopPeek : Obligations.QueuesPushPopPeek := ⟨queuePushPopComplete, queuePeekStatComplete, queueEffectsCommit⟩

end Sys2Proof.Machine
end
